-- ==== Sys2Proof/Word.lean ====
section
/-! DEFINITION. Words, bytes and the two halves of Harson: the plainest types every other file uses. -/

namespace Sys2Proof

/-- A register, a slot word or any other 64-bit value (R8, R10). -/
abbrev Word := BitVec 64

/-- One byte of memory or of a packet. -/
abbrev Byte := BitVec 8

/-- One of two: twin A with host port 0, or twin B with host port 1 (R24). -/
inductive Side where
  | a | b
  deriving DecidableEq, Repr

/-- The other half. -/
def Side.other : Side → Side
  | .a => .b
  | .b => .a

/-- The number the registers give a half: twin A and port 0 are 0, twin B and port 1 are 1. -/
def Side.num : Side → Nat
  | .a => 0
  | .b => 1

/-- The half that a register bit names. -/
def Side.ofBool : Bool → Side
  | false => .a
  | true => .b

/-- One value for each half. -/
structure Two (α : Type) where
  a : α
  b : α
  deriving DecidableEq, Repr

/-- The value of one half. -/
def Two.get {α : Type} (t : Two α) : Side → α
  | .a => t.a
  | .b => t.b

/-- The pair with one half's value replaced. -/
def Two.set {α : Type} (t : Two α) (s : Side) (v : α) : Two α :=
  match s with
  | .a => { t with a := v }
  | .b => { t with b := v }

/-- A sparse table: keys strictly rising, no entry equal to the table's default. -/
abbrev Tbl (α : Type) := List (Nat × α)

end Sys2Proof
end

