-- ==== Sys2Proof/Syntax.lean ====
section
/-! DEFINITION. The commands of the block: one constructor for each row of the opcode table, with the operands
that the row's rule gives it. What a command does stands in Machine/, not here. -/

namespace Sys2Proof

/-- The path by which a register or a doorbell page is reached (R28, R494, R496). `ide` is the stream of the
access when it carries the T bit (R458). -/
inductive Path where
  /-- BAR0 or BAR2 of function `f` on port `p`. -/
  | bar (p : Side) (f : Fin 128) (ide : Option (Fin 8))
  /-- The on-die alias, the half of port `p`. -/
  | die (p : Side)
  /-- The management controller; `p` is bit 63 of the request's address. -/
  | mgmt (p : Side)
  deriving DecidableEq, Repr

/-- The kind of an access that is translated (R203, R218). -/
inductive Access where
  | read | write | atomic | control
  deriving DecidableEq, Repr

/-- One admitted command: its queue and the ring slot of its head. -/
structure CmdRef where
  queue : Nat
  slot : Nat
  deriving DecidableEq, Repr

/-- A queue as a read of its ring names it: its number, and the generation that the request carried (R41). -/
structure QueueTag where
  queue : Nat
  gen : Nat
  deriving DecidableEq, Repr

/-- A command as the read of its predicate word names it, with its queue's generation (R41). -/
structure WordTag where
  ref : CmdRef
  gen : Nat
  deriving DecidableEq, Repr

/-- A command as a range invalidation names it, with the compute domain that answers and the domain's generation (R41, R430). -/
structure InvTag where
  ref : CmdRef
  domain : Fin 48
  gen : Nat
  deriving DecidableEq, Repr

/-- A completion of a flushing read: the generation that the read carried, and whether it succeeded (R41, R109). -/
structure FlushCpl where
  gen : Nat
  ok : Bool
  deriving DecidableEq, Repr

/-- What the power management tells: its throttle request, and the package limit state (R26, R70). -/
structure PowerInput where
  request : Bool
  limit : Bool
  deriving DecidableEq, Repr

/-- What a device next to this one in a group's tree sends for a commit of the group at a tick: its subtree's result on its way up, or
the root's decision on its way down (R79). -/
structure TreeNote where
  dev : Nat
  group : Nat
  tick : Nat
  up : Bool
  stands : Bool
  deriving DecidableEq, Repr

/-- The status of a completion from the host. -/
inductive CplStatus where
  | ok | unsupported | aborted
  deriving DecidableEq, Repr

/-- An ATS Translation Completion (R211). -/
inductive AtsResult where
  /-- The translated address, the log₂ of the size in 4 KiB pages, and the rights given. -/
  | success (addr : Nat) (sizeLog : Nat) (r w : Bool)
  | failed
  /-- None came before the port's Completion Timeout. -/
  | timedOut
  deriving DecidableEq, Repr

/-- The response of a PRG Response (R223). -/
inductive PrgCode where
  | success | invalidRequest | responseFailure
  deriving DecidableEq, Repr

/-- A unit that loads plan entries (R74). -/
inductive PlanUnit where
  | engine (n : Fin 40) | link (n : Fin 24) | front (t : Side)
  deriving DecidableEq, Repr

/-- What an inbound request to BAR4 asks (R84, R104). -/
inductive Bar4Kind where
  | read (len : Nat)
  | write (data : List Byte) (poisoned : Bool)
  /-- FetchAdd, Swap of 4 or 8 bytes; CAS of 8 or 16 bytes. -/
  | fetchAdd (width : Nat) (v : Nat)
  | swap (width : Nat) (v : Nat)
  | cas (width : Nat) (cmp v : Nat)
  deriving DecidableEq, Repr

/-- The phase-locked loops (R472). `p` is the primary, `s` the spare. -/
inductive Pll where
  | mpll
  | tclk (spare : Bool) | hclkS (spare : Bool) | hclk (t : Side) (spare : Bool)
  deriving DecidableEq, Repr

/-- A field of configuration space that a configuration request reads (R84, R88, R91, R98). -/
inductive CfgField where
  | vendorId | deviceId | revisionId | classCode | interruptPin | interruptStatus | serialNumber
  | vfDeviceId | initialVfs | totalVfs | firstVfOffset | vfStride
  /-- BAR0, BAR2, BAR4, and 8 and 10 for the VFs' BAR0 and BAR2. -/
  | bar (n : Fin 12)
  /-- Supported payload in bytes; BAR4's present size in GiB. -/
  | maxPayloadSupported | bar4Size
  | aer
  deriving DecidableEq, Repr

/-- What a configuration request does to a function: a change, or a read (R84, R88, R91, R98). -/
inductive Cfg where
  | msixEnable (v : Bool) | functionMask (v : Bool) | interruptDisable (v : Bool)
  | busMasterSet | vfEnableSet | memorySpace (v : Bool) | bar4Size (log2GiB : Nat)
  | relaxedOrdering (v : Bool) | atsEnable (v : Bool) | priEnable (v : Bool) | prgAllocation (n : Nat)
  | priReset
  /-- A committed HDM decoder's size in 256 MiB units, 0 when it is not committed (R107). -/
  | hdmDecoder (n : Fin 2) (size : Nat)
  /-- Sizes in bytes, powers of two. -/
  | maxPayload (n : Nat) | maxReadRequest (n : Nat)
  | bar (n : Fin 12) (addr : Nat)
  /-- The errors that AER holds are cleared. -/
  | aerClear
  | read (x : CfgField)
  deriving DecidableEq, Repr

/-- A path through which a management request or an SPDM message comes (R455, R463). -/
inductive SpdmPath where
  | doe (p : Side) | mctpI3c | mctpNet
  deriving DecidableEq, Repr

/-- A management request's session and tag (R464). -/
structure MgtReq where
  path : SpdmPath
  session : Nat
  tag : Nat
  deriving DecidableEq, Repr

/-- The header of a fabric packet (R366), with the link it arrives on, the microsecond of the tick of its arrival and
its age then: the nanoseconds since SENT. -/
structure FabHdr where
  link : Fin 24
  dst : Nat
  src : Nat
  tc : Fin 4
  vc : Fin 8
  poison : Bool
  pgen : Nat
  pseq : Nat
  grant : Nat
  ggen : Nat
  dgen : Nat
  rgen : Nat
  tag : Nat
  addr : Nat
  us : Nat
  age : Nat
  deriving DecidableEq, Repr

/-- What a HELLO of a running fabric answers (R365): the root's device id, the answerer's id and the current TICK. -/
structure FabAnswer where
  root : Nat
  device : Nat
  tick : Nat
  deriving DecidableEq, Repr

/-- A device as the census and the map carry it (R362): serial number, pinned id, distance from the root, the tree
parent's serial and the parent's link toward it, the reset domain's generation, and its links that are up: link number,
neighbour's serial, neighbour's link number, delay. -/
structure FabNode where
  serial : Nat
  pin : Option Nat
  dist : Nat
  parent : Nat
  parentLink : Nat
  gen : Nat
  links : List (Nat × Nat × Nat × Nat)
  deriving DecidableEq, Repr

/-- The map that the root sends down the tree (R362, R363): every device with its id. -/
structure FabMap where
  nodes : List (FabNode × Nat)
  deriving DecidableEq, Repr

/-- What a GLOBAL packet carries (R390 to R392): a request that climbs to the root or descends from it with the tick in
which the root admitted it, or a confirmation that climbs. -/
inductive GlobalMsg where
  | ask (reset : Bool) (group : Nat) (snapTick : Nat)
  | go (reset : Bool) (group : Nat) (tick snapTick : Nat)
  | confirm
  | refuse
  deriving DecidableEq, Repr

/-- Where a collective chunk travels (R387). -/
inductive CollDir where
  | up | down | direct
  deriving DecidableEq, Repr

/-- What a COLL_CTL carries (R367, R384): a barrier's arrival or release, the parameter digest, an abort with its code. -/
inductive CollMsg where
  | arrival | release
  | digest (params : List Nat)
  | abort (code : Nat)
  deriving DecidableEq, Repr

/-- A caching agent whose lines this device holds (R324): an embedded host core, or its remote line cache. -/
inductive Agent where
  | core (n : Fin 32)
  | cache
  deriving DecidableEq, Repr

/-- How an owner served a forward (R332). -/
inductive FwdKind where
  | keep | pass | gone
  deriving DecidableEq, Repr

/-- A MetaValue of CXL.mem, and the state of a back-invalidate response: I, S, and A (BIRspE) (R344). -/
inductive CxlMeta where
  | i | s | a
  deriving DecidableEq, Repr

/-- What CC_HALT does to a control core (R464). -/
inductive CcAct where
  | halt | step | resume
  deriving DecidableEq, Repr

/-- The commands of the block, a constructor for each row of the opcode table, in nearly its order. -/
inductive Instr where
  /-- POWER_UP (R477). -/
  | powerUp (xstart : Fin 8)
  /-- IOSC_TRIM (R477). -/
  | ioscTrim
  /-- XTAL_CHECK (R476). -/
  | xtalCheck (count : Nat)
  /-- PLL_LOCKED (R477). -/
  | pllLocked
  /-- SHARED_MBIST_DONE (R477). -/
  | sharedMbistDone (sig : Word)
  /-- IMAGE_LOAD_DONE (R453). -/
  | imageLoadDone (t : Side)
  /-- IMAGE_REMEASURE_DONE (R502). -/
  | imageRemeasureDone (t : Side)
  /-- SELFTEST_DONE (R485). -/
  | selftestDone (t : Side) (mbist lbist : Word)
  /-- TWIN_RESET_RELEASE (R500). -/
  | twinResetRelease (t : Side)
  /-- TICK_BOUNDARY (R59). -/
  | tickBoundary (missA missB : Bool)
  /-- THROTTLE_REQUEST (R70). -/
  | throttleRequest (input : PowerInput)
  /-- DETACH_FORCED (R443). -/
  | detachForced
  /-- DISCOVERY_PHASE_END (R362). -/
  | discoveryPhaseEnd
  /-- CE_WINDOW_START (R242). -/
  | ceWindowStart (engine : Fin 40) (entry : Nat)
  /-- WALK_COMPLETE (R203). -/
  | walkComplete (ctx queue cva : Nat) (access : Access)
  /-- ATS_TRANSLATION_COMPLETION (R211). -/
  | atsTranslationCompletion (p : Side) (tag : Nat) (result : AtsResult)
  /-- ATS_INVALIDATION_REQUEST (R212). -/
  | atsInvalidationRequest (p : Side) (f : Fin 128) (itag : Nat) (pasid : Option Nat) (addr size : Nat)
  /-- ATS_INVALIDATION_COMPLETION (R212). -/
  | atsInvalidationCompletion (p : Side) (f : Fin 128) (itag : Nat)
  /-- PRG_RESPONSE (R223). -/
  | prgResponse (p : Side) (f : Fin 128) (index gen : Nat) (code : PrgCode)
  /-- PRI_TIMEOUT (R223). -/
  | priTimeout (p : Side) (index : Nat)
  /-- STALL_LIMIT (R219). -/
  | stallLimit (p : Side) (f : Fin 128) (id : Nat)
  /-- FAULT_RESP_RETRY (R219). -/
  | faultRespRetry (path : Path) (value : Word)
  /-- FAULT_RESP_FAIL (R219). -/
  | faultRespFail (path : Path) (value : Word)
  /-- XLT_PROBE (R228). -/
  | xltProbe (path : Path) (value : Word)
  /-- FRING_PROGRAM (R227). -/
  | fringProgram (path : Path) (value : Word)
  /-- DOORBELL (R124). -/
  | doorbell (path : Path) (offset width : Nat) (value : Word) (poisoned : Bool)
  /-- SLOT_FETCH (R32). -/
  | slotFetch (tag : QueueTag) (bytes : List Byte) (poisoned : Bool)
  /-- PREDICATE_READ_COMPLETE (R168). -/
  | predicateReadComplete (tag : WordTag) (word : Nat) (poisoned : Bool)
  /-- COMMAND_COMPLETE (R33). -/
  | commandComplete (queue : Nat)
  /-- NOP (R162). -/
  | nop (ref : CmdRef)
  /-- FENCE_SIGNAL (R164). -/
  | fenceSignal (ref : CmdRef)
  /-- FENCE_WAIT (R141). -/
  | fenceWait (ref : CmdRef)
  /-- WRITE_INLINE (R179). -/
  | writeInline (ref : CmdRef)
  /-- BARRIER (R180). -/
  | barrier (ref : CmdRef)
  /-- COPY (R234). -/
  | copy (ref : CmdRef)
  /-- COPY_2D (R235). -/
  | copy2d (ref : CmdRef)
  /-- GATHER (R237). -/
  | gather (ref : CmdRef)
  /-- SCATTER (R237). -/
  | scatter (ref : CmdRef)
  /-- FILL (R240). -/
  | fill (ref : CmdRef)
  /-- QUANTIZE (R269). -/
  | quantize (ref : CmdRef)
  /-- DEQUANTIZE (R270). -/
  | dequantize (ref : CmdRef)
  /-- ACCUMULATE (R271). -/
  | accumulate (ref : CmdRef)
  /-- COMPACT (R285). -/
  | compact (ref : CmdRef)
  /-- EXPAND (R286). -/
  | expand (ref : CmdRef)
  /-- DISPATCH (R290). -/
  | dispatch (ref : CmdRef)
  /-- COMBINE (R295). -/
  | combine (ref : CmdRef)
  /-- ALLREDUCE (R387). -/
  | allreduce (ref : CmdRef)
  /-- REDUCE_SCATTER (R387). -/
  | reduceScatter (ref : CmdRef)
  /-- ALLGATHER (R387). -/
  | allgather (ref : CmdRef)
  /-- ALLTOALL (R387). -/
  | alltoall (ref : CmdRef)
  /-- BROADCAST (R387). -/
  | broadcast (ref : CmdRef)
  /-- COLLECTIVE_BARRIER (R387). -/
  | collectiveBarrier (ref : CmdRef)
  /-- COLL_TIMEOUT (R389). -/
  | collTimeout (ref : CmdRef)
  /-- MAP (R187). -/
  | map (ref : CmdRef)
  /-- UNMAP (R188). -/
  | unmap (ref : CmdRef)
  /-- INVALIDATE (R189). -/
  | invalidate (ref : CmdRef)
  /-- CORE_INVALIDATE_DONE (R255). -/
  | coreInvalidateDone (tag : InvTag)
  /-- LAUNCH (R183). -/
  | launch (ref : CmdRef)
  /-- LAUNCH_ANSWER (R184). -/
  | launchAnswer (ref : CmdRef) (gen code : Nat)
  /-- OPEN (R132). -/
  | open_ (ref : CmdRef)
  /-- START (R133). -/
  | start (ref : CmdRef)
  /-- PARK (R133). -/
  | park (ref : CmdRef)
  /-- RESUME (R133). -/
  | resume (ref : CmdRef)
  /-- SET_HOME (R46). -/
  | setHome (ref : CmdRef)
  /-- CLOSE (R133). -/
  | close (ref : CmdRef)
  /-- KILL (R133). -/
  | kill (ref : CmdRef)
  /-- DRAIN_LIMIT (R133). -/
  | drainLimit (ctx : Nat)
  /-- Q_CREATE (R126). -/
  | qCreate (ref : CmdRef)
  /-- Q_PARK (R131). -/
  | qPark (ref : CmdRef)
  /-- Q_RESUME (R129). -/
  | qResume (ref : CmdRef)
  /-- Q_STOP (R129). -/
  | qStop (ref : CmdRef)
  /-- Q_DESTROY (R131). -/
  | qDestroy (ref : CmdRef)
  /-- OBJ_CREATE (R135). -/
  | objCreate (ref : CmdRef)
  /-- OBJ_FREE (R137). -/
  | objFree (ref : CmdRef)
  /-- OBJECT_FREED (R137). -/
  | objectFreed (obj : Nat)
  /-- FENCE_ALLOC (R138). -/
  | fenceAlloc (ref : CmdRef)
  /-- FENCE_RESET (R140). -/
  | fenceReset (ref : CmdRef)
  /-- FENCE_FREE (R142). -/
  | fenceFree (ref : CmdRef)
  /-- STAGE (R73). -/
  | stage (ref : CmdRef)
  /-- PLAN_UNIT_ACK (R74). -/
  | planUnitAck (slot : Fin 4) (unit : PlanUnit)
  /-- PLAN_LOAD_TIMEOUT (R74). -/
  | planLoadTimeout (slot : Fin 4)
  /-- COMMIT (R77). -/
  | commit (ref : CmdRef)
  /-- PLAN_STAGING_CHECK (R78). -/
  | planStagingCheck
  /-- PLAN_GROUP_DECISION (R79). -/
  | planGroupDecision (note : TreeNote)
  /-- PLAN_DECISION_MISSED (R80). -/
  | planDecisionMissed
  /-- WITHDRAW (R193). -/
  | withdraw (ref : CmdRef)
  /-- RELEASE (R72). -/
  | release (ref : CmdRef)
  /-- SELFTEST (R486). -/
  | selftest (ref : CmdRef)
  /-- ABORT (R181). -/
  | abort (ref : CmdRef)
  /-- INTENT_NOTICE_ACK (R438). -/
  | intentNoticeAck (ref : CmdRef)
  /-- LINK_DOWN (R100). -/
  | linkDown (p : Side) (us : Nat)
  /-- LINK_TRAINING_COMPLETE (R87). -/
  | linkTrainingComplete (p : Side) (speed width : Fin 8) (flit cxl : Bool)
  /-- HOLD_WINDOW_EXPIRY (R100). -/
  | holdWindowExpiry (p : Side)
  /-- PORT_RESET (R100). -/
  | portReset (p : Side)
  /-- FLR (R100). -/
  | flr (p : Side) (f : Fin 128)
  /-- FLR_COMPLETE (R101). -/
  | flrComplete (p : Side) (f : Fin 128)
  /-- VF_ENABLE_CLEAR (R100). -/
  | vfEnableClear (p : Side)
  /-- D3HOT_ENTRY (R100). -/
  | d3hotEntry (p : Side) (f : Fin 128)
  /-- D0_RETURN (R100). -/
  | d0Return (p : Side) (f : Fin 128)
  /-- BUS_MASTER_ENABLE_CLEAR (R100). -/
  | busMasterEnableClear (p : Side) (f : Fin 128)
  /-- INBOUND_BAR4_REQUEST (R104). -/
  | inboundBar4Request (p : Side) (reqId addr : Nat) (kind : Bar4Kind)
  /-- HOST_COMPLETION (R42). -/
  | hostCompletion (p : Side) (tag : Nat) (status : CplStatus) (data : List Byte) (poisoned : Bool)
  /-- HOST_COMPLETION_TIMEOUT (R97). -/
  | hostCompletionTimeout (p : Side) (tag : Nat)
  /-- FLUSH_READ_COMPLETE (R109). -/
  | flushReadComplete (p : Side) (cpl : FlushCpl)
  /-- FLUSH_READ_TIMEOUT (R109). -/
  | flushReadTimeout (p : Side)
  /-- PLACE_COMMIT (R105). -/
  | placeCommit (path : Path) (value : Word)
  /-- PLACE_CLEAR (R106). -/
  | placeClear (path : Path) (value : Word)
  /-- JOURNAL_STATUS_CLEAR (R116). -/
  | journalStatusClear (path : Path) (value : Word)
  /-- OBJ_QUERY_SELECT (R148). -/
  | objQuerySelect (path : Path) (value : Word)
  /-- XLT_PART_COMMIT (R226). -/
  | xltPartCommit (path : Path) (value : Word)
  /-- XLT_STATUS_CLEAR (R227). -/
  | xltStatusClear (path : Path) (value : Word)
  /-- STALE_GEN_CLEAR (R45). -/
  | staleGenClear (path : Path) (value : Word)
  /-- CE_COUNT_CLEAR (R260). -/
  | ceCountClear (path : Path) (value : Word)
  /-- PLAN_EPOCH_CLEAR (R83). -/
  | planEpochClear (path : Path) (value : Word)
  /-- REG_ERR_CLEAR (R449). -/
  | regErrClear (path : Path) (value : Word)
  /-- DIP_CLEAR (R450). -/
  | dipClear (path : Path) (value : Word)
  /-- COH_COUNT_CLEAR (R357). -/
  | cohCountClear (path : Path) (value : Word)
  /-- COH_COUNT1_CLEAR (R357). -/
  | cohCount1Clear (path : Path) (value : Word)
  /-- FAB_COUNT_CLEAR (R397). -/
  | fabCountClear (path : Path) (value : Word)
  /-- REGISTER_WRITE (R14). -/
  | registerWrite (path : Path) (offset : Nat) (value : Word) (poisoned : Bool)
  /-- BAR0_BAD_ACCESS (R16). -/
  | bar0BadAccess (path : Path) (offset width : Nat) (isWrite : Bool)
  /-- EVENT_RAISED (R402). -/
  | eventRaised (us : Nat)
  /-- MODERATION_RELEASE (R404). -/
  | moderationRelease (f : Fin 128) (v : Fin 2048) (us : Nat)
  /-- VECTOR_DELIVERY (R407). -/
  | vectorDelivery (f : Fin 128) (v : Fin 2048) (us : Nat)
  /-- IRQ_ACK (R403). -/
  | irqAck (path : Path) (value : Word)
  /-- IRQ_IDLE (R403). -/
  | irqIdle (path : Path) (value : Word)
  /-- IRQ_DISABLE_WRITE (R408). -/
  | irqDisableWrite (path : Path) (value : Word)
  /-- IRQ_ROUTE_COMMIT (R400). -/
  | irqRouteCommit (path : Path) (value : Word)
  /-- STANDBY_REQUEST (R411). -/
  | standbyRequest (path : Path) (value : Word)
  /-- WAKE_SOURCE_FIRE (R412). -/
  | wakeSourceFire (sources : List (Nat × Nat))
  /-- FAULT_OCCURRENCE (R418). Sources 0 to 12 are those of R417; 13 and 14 are a corrected and an uncorrectable error of shared-plane
  storage (R419, SHARED_CORR and SHARED_UNCORR). Of source 14, `code` says what the storage held: 1 the line of a coherent window at the
  device address `detail`, 2 the remote line cache's copy of the line at that address, 3 the record of the event log at the index
  `detail`, another value nothing that the manual names (log entry 209). -/
  | faultOccurrence (t : Side) (source : Fin 15) (ctx : Option Nat) (code detail : Nat)
  /-- GRACE_TIMER_EXPIRY (R422). -/
  | graceTimerExpiry (t : Side)
  /-- FLT_ACK (R421). -/
  | fltAck (path : Path) (value : Word)
  /-- SAFE_STATE (R427). -/
  | safeState (t : Side)
  /-- DETACH (R442). -/
  | detach (path : Path) (value : Word)
  /-- DETACH_WITHDRAW (R436). -/
  | detachWithdraw (path : Path) (value : Word)
  /-- TWIN_RETURN (R444). -/
  | twinReturn (path : Path) (value : Word)
  /-- CLEAR_OOS (R436). -/
  | clearOos (req : Option MgtReq) (path : Path) (value : Word)
  /-- CD_RESET (R431). -/
  | cdReset (path : Path) (value : Word)
  /-- CD_RETURN (R434). -/
  | cdReturn (path : Path) (value : Word)
  /-- SAMPLE_RETURN (R432). -/
  | sampleReturn (cd : Fin 48) (core gen : Nat) (data : List Byte)
  /-- SAMPLE_TIMEOUT (R432). -/
  | sampleTimeout (cd : Fin 48) (core : Nat)
  /-- SAMPLE_DATA_READ (R433). -/
  | sampleDataRead (path : Path)
  /-- PWRWARN_ASSERT (R446). -/
  | pwrwarnAssert (us : Nat)
  /-- PWRWARN_CLEAR (R446). -/
  | pwrwarnClear (us : Nat)
  /-- POWER_FAIL_RESET (R446). -/
  | powerFailReset
  /-- CLOCK_SOURCE_WRITE (R479). -/
  | clockSourceWrite (path : Path) (value : Word)
  /-- CLK_STATUS_READ (R478). -/
  | clkStatusRead (path : Path)
  /-- CLOCK_GATE_WRITE (R482). -/
  | clockGateWrite (path : Path) (value : Word)
  /-- PLL_LOSS_OF_LOCK (R480). -/
  | pllLossOfLock (pll : Pll)
  /-- XTAL_LOST (R480). -/
  | xtalLost
  /-- FCNT_GO (R484). -/
  | fcntGo (path : Path) (value : Word)
  /-- FCNT_DONE (R484). -/
  | fcntDone (count : Nat)
  /-- FCNT_TIMEOUT (R484). -/
  | fcntTimeout (count : Nat)
  /-- BIST_GO (R487). -/
  | bistGo (path : Path) (value : Word)
  /-- HELLO (R362). -/
  | hello (link : Fin 24) (serial : Nat) (peerLink : Nat) (pin : Option Nat) (best dist : Nat) (answer : Option FabAnswer)
  /-- PROBE (R362). -/
  | probe (link : Fin 24) (roundTrip : Nat)
  /-- CENSUS (R362). -/
  | census (link : Fin 24) (nodes : List FabNode)
  /-- FABRIC_MAP_PACKET (R362). -/
  | fabricMapPacket (link : Fin 24) (map : FabMap)
  /-- BEACON (R364). -/
  | beacon (link : Fin 24) (number : Nat) (offset : Int)
  /-- BEACON_LOSS (R364). -/
  | beaconLoss
  /-- FABRIC_JOIN (R365). -/
  | fabricJoin (link : Fin 24) (device root number : Nat)
  /-- GLOBAL (R390). -/
  | global_ (link : Fin 24) (src : Nat) (msg : GlobalMsg)
  /-- FABRIC_LINK_DOWN (R376). -/
  | fabricLinkDown (link : Fin 24)
  /-- FABRIC_LINK_UP (R376). -/
  | fabricLinkUp (link : Fin 24)
  /-- WRITE (R378). -/
  | write (h : FabHdr) (data : List Byte) (marks : Nat)
  /-- READ (R378). -/
  | read (h : FabHdr) (len : Nat)
  /-- RDATA (R367). -/
  | rdata (h : FabHdr) (data : List Byte) (marks : Nat)
  /-- NAK (R378). -/
  | nak (h : FabHdr) (code : Nat)
  /-- ACK (R373). -/
  | ack (h : FabHdr) (valid : Nat) (upTo : List Nat)
  /-- ACK_TIMEOUT (R375). -/
  | ackTimeout (dev : Nat)
  /-- FIXED_DELAY_DELIVERY (R369). -/
  | fixedDelayDelivery (us : Nat)
  /-- PATHFENCE (R373). -/
  | pathfence (h : FabHdr) (previous : Nat)
  /-- PFACK (R374). -/
  | pfack (h : FabHdr) (valid : Nat) (counts : List Nat)
  /-- FENCE_UPD (R381). -/
  | fenceUpd (h : FabHdr) (value : Nat) (state : Fin 3) (code scope : Nat)
  /-- INVAL (R382). -/
  | inval (h : FabHdr) (clusters : Nat) (ranges : List (Nat × Nat))
  /-- INVAL_DONE (R382). -/
  | invalDone (h : FabHdr)
  /-- GRANT_COMMIT (R377). -/
  | grantCommit (path : Path) (value : Word)
  /-- GRANT_CLEAR (R379). -/
  | grantClear (path : Path) (value : Word)
  /-- GRANT_OFFER (R377). -/
  | grantOffer (h : FabHdr) (base size rights ctx : Nat) (fence : Bool)
  /-- GRANT_REVOKE (R379). -/
  | grantRevoke (h : FabHdr)
  /-- PROXY_BIND (R381). -/
  | proxyBind (path : Path) (value : Word)
  /-- PROXY_UNBIND (R396). -/
  | proxyUnbind (path : Path) (value : Word)
  /-- GROUP_COMMIT (R360). -/
  | groupCommit (path : Path) (value : Word)
  /-- GROUP_CLEAR (R361). -/
  | groupClear (path : Path) (value : Word)
  /-- GROUP_DIGEST_ANSWER (R360). -/
  | groupDigestAnswer (h : FabHdr) (group : Nat) (agree : Bool)
  /-- GROUP_AGREE_TIMEOUT (R360). -/
  | groupAgreeTimeout (group : Nat)
  /-- ROUTE_COMMIT (R395). -/
  | routeCommit (path : Path) (value : Word)
  /-- REPIN (R372). -/
  | repin (path : Path) (value : Word)
  /-- GLOBAL_SNAPSHOT (R391). -/
  | globalSnapshot (path : Path) (value : Word)
  /-- GLOBAL_RESET (R392). -/
  | globalReset (path : Path) (value : Word)
  /-- COLL_DATA (R386). -/
  | collData (h : FabHdr) (group tag : Nat) (rank chunk : Nat) (dir : CollDir) (data : List Byte)
  /-- COLL_CTL (R384). -/
  | collCtl (h : FabHdr) (group tag : Nat) (rank : Nat) (msg : CollMsg)
  /-- COH_DOMAIN_COMMIT (R356). -/
  | cohDomainCommit (path : Path) (value : Word)
  /-- COH_PART_COMMIT (R355). -/
  | cohPartCommit (path : Path) (value : Word)
  /-- COH_DIR_PROBE (R358). -/
  | cohDirProbe (path : Path) (value : Word)
  /-- HOME_TIMEOUT (R347). -/
  | homeTimeout (agent : Nat)
  /-- RLC_HOME_TIMEOUT (R350). -/
  | rlcHomeTimeout (home : Nat)
  /-- IDE_INTEGRITY_FAILURE (R457). -/
  | ideIntegrityFailure (p : Side) (stream : Fin 8)
  /-- TDI_VIOLATION (R460). -/
  | tdiViolation (p : Side) (vf : Fin 128) (space : Fin 4) (offset : Nat)
  /-- RDS (R338). -/
  | rds (via : Option FabHdr) (src line : Nat)
  /-- RDX (R338). -/
  | rdx (via : Option FabHdr) (src line : Nat)
  /-- UPG (R338). -/
  | upg (via : Option FabHdr) (src line : Nat)
  /-- PUTS (R340). -/
  | puts (via : Option FabHdr) (src line : Nat)
  /-- PUTE (R340). -/
  | pute (via : Option FabHdr) (src line : Nat)
  /-- PUTO (R340). -/
  | puto (via : Option FabHdr) (src line : Nat) (data : List Byte) (marks : Fin 16)
  /-- PUTM (R340). -/
  | putm (via : Option FabHdr) (src line : Nat) (data : List Byte) (marks : Fin 16)
  /-- FWDS (R335). -/
  | fwds (via : Option FabHdr) (agent : Agent) (home line : Nat) (req : Nat) (owner : Bool)
  /-- FWDX (R335). -/
  | fwdx (via : Option FabHdr) (agent : Agent) (home line : Nat) (req : Nat) (owner : Bool)
  /-- INV (R335). -/
  | inv (via : Option FabHdr) (agent : Agent) (home line : Nat)
  /-- SNPCUR (R335). -/
  | snpcur (via : Option FabHdr) (agent : Agent) (home line : Nat)
  /-- SNPRECALL (R335). -/
  | snprecall (via : Option FabHdr) (agent : Agent) (home line : Nat)
  /-- DATAS (R336). -/
  | datas (via : Option FabHdr) (agent : Agent) (home line : Nat) (data : List Byte) (marks : Fin 16) (done : Bool)
  /-- DATAE (R336). -/
  | datae (via : Option FabHdr) (agent : Agent) (home line : Nat) (data : List Byte) (marks : Fin 16) (done : Bool)
  /-- DATAO (R336). -/
  | datao (via : Option FabHdr) (agent : Agent) (home line : Nat) (data : List Byte) (marks : Fin 16) (done : Bool)
  /-- DATAM (R336). -/
  | datam (via : Option FabHdr) (agent : Agent) (home line : Nat) (data : List Byte) (marks : Fin 16) (done : Bool)
  /-- UPGACK (R336). -/
  | upgack (via : Option FabHdr) (agent : Agent) (home line : Nat)
  /-- GRANT (R336). -/
  | grant (via : Option FabHdr) (agent : Agent) (home line : Nat)
  /-- ACKDONE (R336). -/
  | ackdone (via : Option FabHdr) (agent : Agent) (home line : Nat)
  /-- INVACK (R339). -/
  | invack (via : Option FabHdr) (src line : Nat) (late : Bool)
  /-- FWDDONE (R339). -/
  | fwddone (via : Option FabHdr) (src line : Nat) (req : Nat) (kind : FwdKind) (late : Bool)
  /-- SNPRSP (R339). -/
  | snprsp (via : Option FabHdr) (src line : Nat) (data : List Byte) (marks : Fin 16) (keep late : Bool)
  /-- MISS (R339). -/
  | miss (via : Option FabHdr) (src line : Nat) (star late : Bool)
  /-- PUTACK (R336). -/
  | putack (via : Option FabHdr) (agent : Agent) (home line : Nat)
  /-- STALEPUTACK (R336). -/
  | staleputack (via : Option FabHdr) (agent : Agent) (home line : Nat)
  /-- FWDDONEACK (R336). -/
  | fwddoneack (via : Option FabHdr) (agent : Agent) (home line : Nat)
  /-- REG_READ (R464). -/
  | regRead (req : MgtReq) (side : Side) (offset : Nat)
  /-- REG_WRITE (R464). -/
  | regWrite (req : MgtReq) (side : Side) (offset : Nat) (value : Word)
  /-- LOG_READ (R464). -/
  | logRead (req : MgtReq) (index count : Nat)
  /-- SENSOR_READ (R464). -/
  | sensorRead (req : MgtReq)
  /-- FLASH_ERASE (R464). -/
  | flashErase (req : MgtReq) (offset count : Nat)
  /-- FLASH_WRITE (R464). -/
  | flashWrite (req : MgtReq) (offset : Nat) (data : List Byte)
  /-- FLASH_READ (R464). -/
  | flashRead (req : MgtReq) (offset len : Nat)
  /-- FW_LOAD (R453). -/
  | fwLoad (req : MgtReq) (t : Side)
  /-- FW_RESTORE (R469). -/
  | fwRestore (req : MgtReq) (t : Side)
  /-- DEBUG_READ (R462). -/
  | debugRead (req : MgtReq) (addr len : Nat)
  /-- DEBUG_WRITE (R462). -/
  | debugWrite (req : MgtReq) (addr : Nat) (data : List Byte)
  /-- CC_HALT (R462). -/
  | ccHalt (req : MgtReq) (t : Side) (core : Fin 8) (act : CcAct)
  /-- CRED_SET (R465). -/
  | credSet (req : MgtReq) (slot : Fin 8) (hash : List Byte) (roles : Nat)
  /-- CRED_LOCK (R465). -/
  | credLock (req : MgtReq)
  /-- SVN_RAISE (R464). -/
  | svnRaise (req : MgtReq) (svn : Nat)
  /-- MEAS_EXTEND (R452). -/
  | measExtend (req : MgtReq) (slot : Nat) (digest : List Byte)
  /-- GROUP_DIGEST_RECEIPT (R360). -/
  | groupDigestReceipt (h : FabHdr) (group : Nat) (digest : List Byte)
  /-- MEMRD (R345). -/
  | memrd (p : Side) (decoder : Fin 2) (addr : Nat) (m : CxlMeta)
  /-- MEMRDDATA (R345). -/
  | memrddata (p : Side) (decoder : Fin 2) (addr : Nat) (m : CxlMeta)
  /-- MEMINV (R345). -/
  | meminv (p : Side) (decoder : Fin 2) (addr : Nat) (m : CxlMeta)
  /-- MEMCLNEVCT (R345). -/
  | memclnevct (p : Side) (decoder : Fin 2) (addr : Nat)
  /-- MEMWR (R345). -/
  | memwr (p : Side) (decoder : Fin 2) (addr : Nat) (m : CxlMeta) (data : List Byte) (poisoned : Bool)
  /-- BICONFLICT (R345). -/
  | biconflict (p : Side) (decoder : Fin 2) (addr : Nat)
  /-- BIRSP (R345). -/
  | birsp (p : Side) (decoder : Fin 2) (addr : Nat) (rsp : CxlMeta)
  /-- GET_VERSION (R455). -/
  | getVersion (path : SpdmPath)
  /-- GET_CAPABILITIES (R455). -/
  | getCapabilities (path : SpdmPath)
  /-- NEGOTIATE_ALGORITHMS (R455). -/
  | negotiateAlgorithms (path : SpdmPath) (asked : Nat)
  /-- GET_DIGESTS (R455). -/
  | getDigests (path : SpdmPath)
  /-- GET_CERTIFICATE (R451). -/
  | getCertificate (path : SpdmPath) (slot offset len : Nat)
  /-- CHALLENGE (R455). -/
  | challenge (path : SpdmPath) (slot : Nat) (nonce : List Byte)
  /-- GET_MEASUREMENTS (R455). -/
  | getMeasurements (path : SpdmPath) (session : Option Nat) (index : Nat) (nonce : List Byte)
  /-- KEY_EXCHANGE (R455). -/
  | keyExchange (path : SpdmPath) (slot : Nat) (withAuth : Bool) (exchange : List Byte)
  /-- FINISH (R465). -/
  | finish (path : SpdmPath) (session : Nat) (key : Option (List Byte))
  /-- HEARTBEAT (R455). -/
  | heartbeat (path : SpdmPath) (session : Nat)
  /-- KEY_UPDATE (R455). -/
  | keyUpdate (path : SpdmPath) (session : Nat)
  /-- END_SESSION (R455). -/
  | endSession (path : SpdmPath) (session : Nat)
  /-- SPDM_UNSUPPORTED_REQUEST (R455). -/
  | spdmUnsupportedRequest (path : SpdmPath) (code : Nat)
  /-- KEY_PROG (R457). -/
  | keyProg (p : Side) (session : Nat) (stream : Fin 8) (keySet : Bool)
  /-- K_SET_GO (R457). -/
  | kSetGo (p : Side) (session : Nat) (stream : Fin 8) (keySet : Bool)
  /-- K_SET_STOP (R457). -/
  | kSetStop (p : Side) (session : Nat) (stream : Fin 8) (keySet : Bool)
  /-- LOCK_INTERFACE (R458). -/
  | lockInterface (p : Side) (session : Nat) (vf : Fin 128) (stream : Fin 8)
  /-- START_INTERFACE (R458). -/
  | startInterface (p : Side) (session : Nat) (vf : Fin 128)
  /-- STOP_INTERFACE (R458). -/
  | stopInterface (p : Side) (session : Nat) (vf : Fin 128)
  /-- DEVICE_INTERFACE_REPORT (R461). -/
  | deviceInterfaceReport (p : Side) (session : Nat) (vf : Fin 128)
  /-- SENSOR_SAMPLE (R466). -/
  | sensorSample (values : List Nat)
  /-- LOG_MIRROR_WRITE (R468). -/
  | logMirrorWrite
  /-- CONFIGURATION_REQUEST (R98). -/
  | configurationRequest (p : Side) (f : Fin 128) (cfg : Cfg)
  /-- IMAGE_REGION_WRITE_DONE (R464). -/
  | imageRegionWriteDone
  /-- LINK_REPORTED_UP (R376). -/
  | linkReportedUp (link : Fin 24) (peerDev peerLink : Nat)
  /-- AGENT_READ (R333). -/
  | agentRead (agent : Agent) (ctx : Nat) (home line : Nat)
  /-- AGENT_WRITE (R333). -/
  | agentWrite (agent : Agent) (ctx : Nat) (home line : Nat) (offset : Nat) (data : List Byte)
  /-- AGENT_EVICT (R333). -/
  | agentEvict (agent : Agent) (ctx : Nat) (home line : Nat)
  /-- WIN_HOLD_EXPIRY (R334). -/
  | winHoldExpiry (agent : Agent) (home line : Nat)
  /-- BLOCKING_OP_START (R343). -/
  | blockingOpStart (line : Nat)
  deriving DecidableEq, Repr

end Sys2Proof
end

