-- ==== Sys2Proof/WellFormed.lean ====
section
/-! DEFINITION. When the operands of a command have the sizes that the manual gives them. -/

namespace Sys2Proof

/-- A command reference names a queue and a ring slot (R118, R126). -/
def CmdRef.wf (r : CmdRef) : Bool := decide (r.queue < 16384) && decide (r.slot < 65536)

/-- A line's address: a multiple of 128 below 2^52 (R322, R359). -/
def lineOk (l : Nat) : Bool := decide (l % 128 = 0) && decide (l < 2 ^ 52)

/-- The fields of a packet's header fit their widths (R366). -/
def FabHdr.wf (h : FabHdr) : Bool :=
  decide (h.dst < 16384) && decide (h.src < 16384) && decide (h.pgen < 256) && decide (h.pseq < 65536) &&
    decide (h.grant < 65536) && decide (h.ggen < 256) && decide (h.dgen < 256) && decide (h.rgen < 256) &&
    decide (h.tag < 4096) && decide (h.addr < 2 ^ 52) && decide (h.us < 32)

/-- A message that comes through the fabric has a well-formed header. -/
def viaOk : Option FabHdr → Bool
  | some h => h.wf
  | none => true

/-- The operands of a command fit. -/
def Instr.wf : Instr → Bool
  | .powerUp _ => true
  | .ioscTrim => true
  | .xtalCheck _ => true
  | .pllLocked => true
  | .sharedMbistDone _ => true
  | .imageLoadDone _ => true
  | .imageRemeasureDone _ => true
  | .selftestDone _ _ _ => true
  | .twinResetRelease _ => true
  | .tickBoundary _ _ => true
  | .throttleRequest _ => true
  | .detachForced => true
  | .discoveryPhaseEnd => true
  | .ceWindowStart _ _ => true
  | .walkComplete ctx queue cva _ => decide (ctx < 4096) && decide (queue < 16384) && decide (cva < 2 ^ 57)
  | .atsTranslationCompletion _ _ _ => true
  | .atsInvalidationRequest _ _ _ _ _ _ => true
  | .atsInvalidationCompletion _ _ _ => true
  | .prgResponse _ _ _ gen _ => decide (gen < 256)
  | .priTimeout _ _ => true
  | .stallLimit _ _ _ => true
  | .faultRespRetry _ _ => true
  | .faultRespFail _ _ => true
  | .xltProbe _ _ => true
  | .fringProgram _ _ => true
  | .doorbell _ _ _ _ _ => true
  | .slotFetch tag _ _ => decide (tag.queue < 16384) && decide (tag.gen < 256)
  | .predicateReadComplete tag _ _ => tag.ref.wf && decide (tag.gen < 256)
  | .commandComplete queue => decide (queue < 16384)
  | .nop ref => ref.wf
  | .fenceSignal ref => ref.wf
  | .fenceWait ref => ref.wf
  | .writeInline ref => ref.wf
  | .barrier ref => ref.wf
  | .copy ref => ref.wf
  | .copy2d ref => ref.wf
  | .gather ref => ref.wf
  | .scatter ref => ref.wf
  | .fill ref => ref.wf
  | .quantize ref => ref.wf
  | .dequantize ref => ref.wf
  | .accumulate ref => ref.wf
  | .compact ref => ref.wf
  | .expand ref => ref.wf
  | .dispatch ref => ref.wf
  | .combine ref => ref.wf
  | .allreduce ref => ref.wf
  | .reduceScatter ref => ref.wf
  | .allgather ref => ref.wf
  | .alltoall ref => ref.wf
  | .broadcast ref => ref.wf
  | .collectiveBarrier ref => ref.wf
  | .collTimeout ref => ref.wf
  | .map ref => ref.wf
  | .unmap ref => ref.wf
  | .invalidate ref => ref.wf
  | .coreInvalidateDone tag => decide (tag.ref.queue < 32768 ∧ tag.ref.slot < 65536) && decide (tag.gen < 256)
  | .launch ref => ref.wf
  | .launchAnswer ref gen code => ref.wf && decide (gen < 256) && decide (code < 65536)
  | .open_ ref => ref.wf
  | .start ref => ref.wf
  | .park ref => ref.wf
  | .resume ref => ref.wf
  | .setHome ref => ref.wf
  | .close ref => ref.wf
  | .kill ref => ref.wf
  | .drainLimit ctx => decide (ctx < 4096)
  | .qCreate ref => ref.wf
  | .qPark ref => ref.wf
  | .qResume ref => ref.wf
  | .qStop ref => ref.wf
  | .qDestroy ref => ref.wf
  | .objCreate ref => ref.wf
  | .objFree ref => ref.wf
  | .objectFreed obj => decide (obj < 2 ^ 22)
  | .fenceAlloc ref => ref.wf
  | .fenceReset ref => ref.wf
  | .fenceFree ref => ref.wf
  | .stage ref => ref.wf
  | .planUnitAck _ _ => true
  | .planLoadTimeout _ => true
  | .commit ref => ref.wf
  | .planStagingCheck => true
  | .planGroupDecision note => decide (note.dev < 65536) && decide (note.group < 65536) && decide (note.tick < 2 ^ 48)
  | .planDecisionMissed => true
  | .withdraw ref => ref.wf
  | .release ref => ref.wf
  | .selftest ref => ref.wf
  | .abort ref => ref.wf
  | .intentNoticeAck ref => ref.wf
  | .linkDown _ us => decide (us < 32)
  | .linkTrainingComplete _ _ _ _ _ => true
  | .holdWindowExpiry _ => true
  | .portReset _ => true
  | .flr _ _ => true
  | .flrComplete _ _ => true
  | .vfEnableClear _ => true
  | .d3hotEntry _ _ => true
  | .d0Return _ _ => true
  | .busMasterEnableClear _ _ => true
  | .inboundBar4Request _ reqId _ _ => decide (reqId < 65536)
  | .hostCompletion _ _ _ _ _ => true
  | .hostCompletionTimeout _ _ => true
  | .flushReadComplete _ cpl => decide (cpl.gen < 256)
  | .flushReadTimeout _ => true
  | .placeCommit _ _ => true
  | .placeClear _ _ => true
  | .journalStatusClear _ _ => true
  | .objQuerySelect _ _ => true
  | .xltPartCommit _ _ => true
  | .xltStatusClear _ _ => true
  | .staleGenClear _ _ => true
  | .ceCountClear _ _ => true
  | .planEpochClear _ _ => true
  | .regErrClear _ _ => true
  | .dipClear _ _ => true
  | .cohCountClear _ _ => true
  | .cohCount1Clear _ _ => true
  | .fabCountClear _ _ => true
  | .registerWrite _ _ _ _ => true
  | .bar0BadAccess _ _ _ _ => true
  | .eventRaised us => decide (us < 32)
  | .moderationRelease _ _ us => decide (us < 32)
  | .vectorDelivery _ _ us => decide (us < 32)
  | .irqAck _ _ => true
  | .irqIdle _ _ => true
  | .irqDisableWrite _ _ => true
  | .irqRouteCommit _ _ => true
  | .standbyRequest _ _ => true
  | .wakeSourceFire _ => true
  | .faultOccurrence _ source ctx code detail =>
    (match ctx with | some n => decide (n < 4096) | none => true) && decide (code < 65536) &&
      (decide (detail < 65536) || (decide (source = 14) && decide (detail < 2 ^ 57)))
  | .graceTimerExpiry _ => true
  | .fltAck _ _ => true
  | .safeState _ => true
  | .detach _ _ => true
  | .detachWithdraw _ _ => true
  | .twinReturn _ _ => true
  | .clearOos _ _ _ => true
  | .cdReset _ _ => true
  | .cdReturn _ _ => true
  | .sampleReturn _ core gen data => decide (core < 16) && decide (gen < 256) && decide (data.length = 4096)
  | .sampleTimeout _ core => decide (core < 16)
  | .sampleDataRead _ => true
  | .pwrwarnAssert us => decide (us < 32)
  | .pwrwarnClear us => decide (us < 32)
  | .powerFailReset => true
  | .clockSourceWrite _ _ => true
  | .clkStatusRead _ => true
  | .clockGateWrite _ _ => true
  | .pllLossOfLock _ => true
  | .xtalLost => true
  | .fcntGo _ _ => true
  | .fcntDone _ => true
  | .fcntTimeout _ => true
  | .bistGo _ _ => true
  | .hello _ serial peerLink _ best dist _ =>
    decide (serial < 2 ^ 64) && decide (peerLink < 24) && decide (best < 2 ^ 64) && decide (dist < 16384)
  | .probe _ _ => true
  | .census _ _ => true
  | .fabricMapPacket _ _ => true
  | .beacon _ _ _ => true
  | .beaconLoss => true
  | .fabricJoin _ device root _ => decide (device < 16384) && decide (root < 16384)
  | .global_ _ src _ => decide (src < 65536)
  | .fabricLinkDown _ => true
  | .fabricLinkUp _ => true
  | .write h data _ => h.wf && decide (data.length ≤ 512)
  | .read h _ => h.wf
  | .rdata h data _ => h.wf && decide (data.length ≤ 512)
  | .nak h code => h.wf && decide (code < 65536)
  | .ack h _ _ => h.wf
  | .ackTimeout dev => decide (dev < 16384)
  | .fixedDelayDelivery us => decide (us < 32)
  | .pathfence h _ => h.wf
  | .pfack h _ _ => h.wf
  | .fenceUpd h _ _ code _ => h.wf && decide (code < 65536)
  | .inval h _ _ => h.wf
  | .invalDone h => h.wf
  | .grantCommit _ _ => true
  | .grantClear _ _ => true
  | .grantOffer h _ _ _ ctx _ => h.wf && decide (ctx < 4096)
  | .grantRevoke h => h.wf
  | .proxyBind _ _ => true
  | .proxyUnbind _ _ => true
  | .groupCommit _ _ => true
  | .groupClear _ _ => true
  | .groupDigestAnswer h group _ => h.wf && decide (group < 65536)
  | .groupAgreeTimeout group => decide (group < 65536)
  | .routeCommit _ _ => true
  | .repin _ _ => true
  | .globalSnapshot _ _ => true
  | .globalReset _ _ => true
  | .collData h group _ _ _ _ _ => h.wf && decide (group < 65536)
  | .collCtl h group _ _ _ => h.wf && decide (group < 65536)
  | .cohDomainCommit _ _ => true
  | .cohPartCommit _ _ => true
  | .cohDirProbe _ _ => true
  | .agentRead _ ctx home line => decide (ctx < 4096) && decide (home < 16384) && lineOk line
  | .agentWrite _ ctx home line offset data =>
    decide (ctx < 4096) && decide (home < 16384) && lineOk line && decide (offset + data.length ≤ 128)
  | .agentEvict _ ctx home line => decide (ctx < 4096) && decide (home < 16384) && lineOk line
  | .winHoldExpiry _ home line => decide (home < 16384) && lineOk line
  | .rds via src line => viaOk via && decide (src < 65536) && lineOk line
  | .rdx via src line => viaOk via && decide (src < 65536) && lineOk line
  | .upg via src line => viaOk via && decide (src < 65536) && lineOk line
  | .puts via src line => viaOk via && decide (src < 65536) && lineOk line
  | .pute via src line => viaOk via && decide (src < 65536) && lineOk line
  | .puto via src line data _ => viaOk via && decide (src < 65536) && lineOk line && decide (data.length = 128)
  | .putm via src line data _ => viaOk via && decide (src < 65536) && lineOk line && decide (data.length = 128)
  | .fwds via _ home line req _ => viaOk via && decide (home < 16384) && lineOk line && decide (req < 65536)
  | .fwdx via _ home line req _ => viaOk via && decide (home < 16384) && lineOk line && decide (req < 65536)
  | .inv via _ home line => viaOk via && decide (home < 16384) && lineOk line
  | .snpcur via _ home line => viaOk via && decide (home < 16384) && lineOk line
  | .snprecall via _ home line => viaOk via && decide (home < 16384) && lineOk line
  | .datas via _ home line data _ _ =>
    viaOk via && decide (home < 16384) && lineOk line && decide (data.length = 128)
  | .datae via _ home line data _ _ =>
    viaOk via && decide (home < 16384) && lineOk line && decide (data.length = 128)
  | .datao via _ home line data _ _ =>
    viaOk via && decide (home < 16384) && lineOk line && decide (data.length = 128)
  | .datam via _ home line data _ _ =>
    viaOk via && decide (home < 16384) && lineOk line && decide (data.length = 128)
  | .upgack via _ home line => viaOk via && decide (home < 16384) && lineOk line
  | .grant via _ home line => viaOk via && decide (home < 16384) && lineOk line
  | .ackdone via _ home line => viaOk via && decide (home < 16384) && lineOk line
  | .invack via src line _ => viaOk via && decide (src < 65536) && lineOk line
  | .fwddone via src line req _ _ => viaOk via && decide (src < 65536) && lineOk line && decide (req < 65536)
  | .snprsp via src line data _ _ _ => viaOk via && decide (src < 65536) && lineOk line && decide (data.length = 128)
  | .miss via src line _ _ => viaOk via && decide (src < 65536) && lineOk line
  | .putack via _ home line => viaOk via && decide (home < 16384) && lineOk line
  | .staleputack via _ home line => viaOk via && decide (home < 16384) && lineOk line
  | .fwddoneack via _ home line => viaOk via && decide (home < 16384) && lineOk line
  | .blockingOpStart line => lineOk line
  | .regRead _ _ _ => true
  | .regWrite _ _ _ _ => true
  | .logRead _ _ count => decide (count ≤ 32)
  | .sensorRead _ => true
  | .flashErase _ _ _ => true
  | .flashWrite _ _ data => decide (data.length ≤ 4096)
  | .flashRead _ _ len => decide (len ≤ 4096)
  | .fwLoad _ _ => true
  | .fwRestore _ _ => true
  | .debugRead _ _ len => decide (len ≤ 4096)
  | .debugWrite _ _ data => decide (data.length ≤ 4096)
  | .ccHalt _ _ _ _ => true
  | .credSet _ _ hash _ => decide (hash.length = 48)
  | .credLock _ => true
  | .svnRaise _ _ => true
  | .measExtend _ _ digest => decide (digest.length = 48)
  | .groupDigestReceipt h group digest => h.wf && decide (group < 65536) && decide (digest.length = 48)
  | .homeTimeout agent => decide (agent < 65536)
  | .rlcHomeTimeout home => decide (home < 16384)
  | .memrd _ _ _ _ => true
  | .memrddata _ _ _ _ => true
  | .meminv _ _ _ _ => true
  | .memclnevct _ _ _ => true
  | .memwr _ _ _ _ data _ => decide (data.length = 64)
  | .biconflict _ _ _ => true
  | .birsp _ _ _ _ => true
  | .getVersion _ => true
  | .getCapabilities _ => true
  | .negotiateAlgorithms _ _ => true
  | .getDigests _ => true
  | .getCertificate _ _ _ _ => true
  | .challenge _ _ _ => true
  | .getMeasurements _ _ _ _ => true
  | .keyExchange _ _ _ _ => true
  | .finish _ _ _ => true
  | .heartbeat _ _ => true
  | .keyUpdate _ _ => true
  | .endSession _ _ => true
  | .spdmUnsupportedRequest _ code => decide (code < 65536)
  | .keyProg _ _ _ _ => true
  | .kSetGo _ _ _ _ => true
  | .kSetStop _ _ _ _ => true
  | .ideIntegrityFailure _ _ => true
  | .lockInterface _ _ _ _ => true
  | .startInterface _ _ _ => true
  | .stopInterface _ _ _ => true
  | .deviceInterfaceReport _ _ _ => true
  | .tdiViolation _ _ _ _ => true
  | .sensorSample values => decide (values.length = 24)
  | .logMirrorWrite => true
  | .configurationRequest _ _ _ => true
  | .imageRegionWriteDone => true
  | .linkReportedUp _ peerDev peerLink => decide (peerDev < 16384) && decide (peerLink < 24)

end Sys2Proof
end

