-- ==== Sys2Proof/Config.lean ====
section
/-! DEFINITION. What one device fixes for its life (fuses, boot ROM, board) and the free values: constants
without a body, of which no proof can know more than their type. -/

namespace Sys2Proof.Config

/-- Installed device memory in bytes: 12 HBM stacks, 1,152 GB (R30). DEDUCED as 1,152 GiB, since
HX_OBJ_TABLE_BASE needs a multiple of 256 MiB (log entry 3). -/
def deviceMemory : Nat := 1152 * 2 ^ 30

/-- HX_ID_SERIAL, from fuses (R497). -/
opaque serial : BitVec 64

/-- MAC address of the management port, from fuses (R471). -/
opaque mac : BitVec 48

/-- MIN_SVN in fuses at power-up (R470). -/
opaque minSvn : Nat

/-- The credential lock fuse at power-up (R465). -/
opaque credLock : Bool

/-- Measurement slot 0: the digest of the boot ROM (R452). -/
opaque bootRomDigest : List Byte

/-- Sensor limits held in ROM (R471): WARN, CRIT and HYST of each sensor. -/
opaque sensorWarn : Nat → BitVec 16
opaque sensorCrit : Nat → BitVec 16
opaque sensorHyst : Nat → BitVec 16

/-- Whether a firmware image's signature verifies under the Thofold release key fused in ROM (R453). -/
opaque releaseSignatureOk : List Byte → Bool

/-- A signature by the alias key over a message (R451); its bytes are not the model's to know. -/
opaque aliasSign : List Byte → List Byte

/-- The certificate chain of SPDM slot 0 (R451). -/
opaque certChain : List Byte

/-- The free value drawn by its number (AN UNDEFINED VALUE): a byte that the manual leaves undefined. -/
opaque freeByte : Nat → Byte

/-- The free value drawn by its number: a choice of the model's environment below a bound (an index that
the manual lets Harson choose). -/
opaque freeNat : Nat → Nat

/-- A byte that the manual leaves undefined, by where it arises: the boundaries since power-up, the queue, the position of the
command, and the byte's place. What a command writes that breaks R253; the destination of a collective that failed (R389); what a
command reads of bytes that an earlier, unretired command of its queue writes (R250), or another writer changes (R253, R279). -/
opaque undefinedByte : Nat → Nat → Nat → Nat → Byte

/-- Which burst of a unit an uncorrectable error of the engine's burst buffer meets (R259 names the burst and not its place), by tick,
queue, slot and unit: nothing is known of it (log entry 171). -/
opaque errorBurst : Nat → Nat → Nat → Nat → Nat

/-- Whether a byte that two unretired commands of a queue write keeps the value that stands there (R252), by the boundaries since
power-up, the queue, the position of the command that writes later, and the address. -/
opaque overlapKeeps : Nat → Nat → Nat → Nat → Bool

/-- Whether an engine had finished a burst when an ABORT stopped it (R258 and R515 do not fix how far it came), by the boundaries since
power-up, the queue, the position of the command, and the burst. -/
opaque burstLanded : Nat → Nat → Nat → Nat → Bool

/-- The FP32 sum of a finite nonzero value and an infinite or NaN one in a collective: R388 takes the addition of R273, which
gives no such case. A function of the two words, since the result depends only on the data; and whether it is counted. -/
opaque sumSpecial : Nat → Nat → BitVec 32
opaque sumSpecialCounted : Nat → Nat → Bool

/-- The bytes over which Harson takes digests that R452, R459 and R464 name without giving a layout: the security fuses, a
credential slot, the body of a management request, and a TDI's locked configuration from its items. -/
opaque fuseBytes : Nat → Bool → List Byte
opaque credBytes : List Byte → Nat → List Byte
opaque requestBytes : Nat → Nat → List Nat → List Byte
opaque configBytes : List Nat → List Byte

end Sys2Proof.Config
end

