-- ==== Sys2Proof/Machine/State.lean ====
section
/-! DEFINITION. The state of Harson: everything the manual gives the block, the queue of waiting commands and
what it has put on its interfaces; the state after reset; the reasons a step can stop. -/

namespace Sys2Proof.Machine

/-- A stamp field that reads all ones: no event was stamped (R35). -/
def noStamp : Nat := 2 ^ 64 - 1

/-- The states of a context (R20, R149). -/
inductive CtxState where
  | free | opened | running | parked | draining | dead
  deriving DecidableEq, Repr

/-- The states of a queue (R20, R150). -/
inductive QState where
  | idle | active | parked | stopped
  deriving DecidableEq, Repr

/-- The states of a memory object (R20, R151). -/
inductive ObjState where
  | free | live | retiring
  deriving DecidableEq, Repr

/-- The states of a fence (R20, R151). -/
inductive FenceState where
  | pending | signalled | broken
  deriving DecidableEq, Repr

/-- The states of a twin (R20, R435). -/
inductive TwinState where
  | lead | active | detaching | detached | outOfService
  deriving DecidableEq, Repr

/-- The states of a plan slot (R72). -/
inductive SlotState where
  | empty | loading | staged | pending | active
  deriving DecidableEq, Repr

/-- The states of a vector (R401). -/
inductive VecState where
  | quiet | waiting | due | service
  deriving DecidableEq, Repr

/-- The states of a compute domain (R450). -/
inductive CdState where
  | inService | resetting | outOfService
  deriving DecidableEq, Repr

/-- The states of a TDI (R458). -/
inductive TdiState where
  | unlocked | locked | run | error
  deriving DecidableEq, Repr

/-- The order point and the tick (R34 to R40, R53 to R57). -/
structure Time where
  /-- The tick number, below 2^48. -/
  tick : Nat
  /-- The SEQ of the next stamp; 0xFFFF when the tick's count is used up. -/
  seq : Nat
  /-- HX_CMD_STAMP_LAST. -/
  last : Nat
  /-- The stamp of the boundary event with which the running tick began (R59). -/
  bstamp : Nat
  jumped : Bool
  wrapped : Bool
  carry : Bool
  standbyOk : Bool
  /-- Tick boundaries applied since power-up. -/
  bnd : Nat
  /-- Whole microseconds of the TCLK count at the last boundary. -/
  us : Nat
  /-- The latest whole microsecond at which anything has happened; never below `us`. -/
  now : Nat
  period : Nat
  /-- T_p of R69: the tick at which the period took effect. -/
  tp : Nat
  /-- The fabric has agreed the first tick (R362). -/
  agreed : Bool
  /-- The tick number to which a join moves the next boundary (R365). -/
  jumpTo : Option Nat
  /-- Events that wait unstamped for the next tick, in arrival order (R36, R56). -/
  carried : List Instr
  deriving DecidableEq, Repr

/-- Why a twin fails in this tick (R436, R500). -/
inductive FailCause where
  | mirror | safe | resetStep | outStep | clock
  deriving DecidableEq, Repr

/-- What began a self-test (R485 to R488). -/
inductive TestOrigin where
  | start | fwLoad | returning | command (r : CmdRef) | management
  deriving DecidableEq, Repr

/-- The steps of a return to service (R444, R500). -/
inductive RetStep where
  | held | measure | test | load | ready
  deriving DecidableEq, Repr

/-- A translation held by a cache: what a page, or a host page, leads to (R205). -/
structure TlbEntry where
  ctx : Nat
  pasidGen : Nat
  page : Nat
  /-- log₂ of the size in 4 KiB pages. -/
  sizeLog : Nat
  entry : Word
  deriving DecidableEq, Repr

/-- An entry of the ATC (R205). -/
structure AtcEntry where
  port : Side
  func : Nat
  pasid : Nat
  ctx : Nat
  page : Nat
  sizeLog : Nat
  addr : Nat
  r : Bool
  w : Bool
  deriving DecidableEq, Repr

/-- An entry of a copy engine's micro-TLB: a page that the slice it runs has translated, and for a host page the translation that the
host gave (R205). -/
structure MicroEntry where
  engine : Nat
  queue : Nat
  ctx : Nat
  page : Nat
  host : Option AtcEntry
  deriving DecidableEq, Repr

/-- An entry of the walk cache (R205). -/
structure WalkEntry where
  ctx : Nat
  level : Nat
  pfx : Nat
  entry : Word
  deriving DecidableEq, Repr

/-- How a command stands that has been admitted: see `Cmd`. -/
inductive PredState where
  | none
  /-- Its predicate word is still to be asked for; it has been; the word held. -/
  | held | waiting | decided
  deriving DecidableEq, Repr

/-- A unit claimed in this tick whose source data has been asked for: the engine, the pieces still awaited, and those that
have come, by offset in the unit's source bytes, each byte with its poison. -/
structure Claim where
  unit : Nat
  engine : Nat
  left : Nat
  got : List (Nat × List (Byte × Bool))
  deriving DecidableEq, Repr

/-- A range invalidation at the core cache controllers, or an INVAL packet for a device, that Harson has still to issue (R255, R382). -/
structure InvAsk where
  ref : CmdRef
  dev : Option Nat
  mask : Nat
  ranges : List (Nat × Nat)
  deriving DecidableEq, Repr

/-- An admitted, unretired command of a queue. -/
structure Cmd where
  /-- Absolute ring position of the head slot. -/
  slot : Nat
  bytes : List Byte
  /-- The doorbell's stamp (R160). -/
  stamp : Nat
  /-- The boundary, counted since power-up, at which it becomes eligible (R32), and the tick in which it was admitted. -/
  eligible : Nat
  admTick : Nat
  /-- It counts in SIGNALLERS of the fence it names (R140). -/
  counted : Bool
  started : Bool
  /-- Its own work has begun: for a predicated command, after the predicate held. -/
  begun : Bool
  /-- The boundary from which its units may be claimed (R247). -/
  claimFrom : Nat
  pred : PredState
  /-- Lowest unit not yet written (R241). -/
  point : Nat
  /-- Units above the point that are written (R248). -/
  above : List Nat
  /-- Units claimed in this tick whose source data is awaited. -/
  claims : List Claim
  /-- What units counted: by unit, SATURATED, NAN_IN, FLUSHED and DROPPED (R277). -/
  tally : Tbl (Nat × Nat × Nat × Nat)
  /-- The lowest unit that stalls, when one does (R214). -/
  stall : Option Nat
  /-- The code with which it ends, and the stream byte at which its residue begins, once every unit below is written (R214, R232,
  R239, R244, R245). -/
  ends : Option (Nat × Nat)
  /-- Another writer has changed its source or its tables while it was under way: its destination is undefined (R253, R279). -/
  blurred : Bool
  /-- The code with which it retires, once its work has ended. -/
  result : Option Nat
  /-- The boundary at or after which its completion steps may begin (R254). -/
  doneAt : Nat
  residue : Nat
  skipped : Bool
  note : Bool
  moved : Bool
  /-- Ended by ABORT, Q_STOP, teardown, refusal or loss: no completion step of its work remains. -/
  forced : Bool
  /-- ABORT ended it: the queue does not park (R129). -/
  byAbort : Bool
  /-- Whether its retirement raises the queue's vector, where an ABORT has decided that (R258). -/
  vector : Option Bool
  /-- Retired at teardown step 2: the fence stays PENDING (R140). -/
  quietFence : Bool
  /-- The boundary at which the half steps are due, and whether they were taken (R256). -/
  halfAt : Option Nat
  halfDone : Bool
  /-- A source read or a burst was poisoned (R259). -/
  poisoned : Bool
  /-- Step 2 has been issued; range invalidations not yet complete, by compute domain; and INVAL packets that peers have not
  answered (R255, R382). -/
  invIssued : Bool
  invAt : Tbl Nat
  invLeft : Nat
  /-- Those of them that wait for a later tick (R255). -/
  invRest : List InvAsk
  /-- The last journal sequence number of its host data, when it wrote any (R95). -/
  lastHost : Option Nat
  /-- Packets of it that a peer has not yet acknowledged (R254). -/
  peerLeft : Nat
  /-- An intent notice is held by the other twin, and its acknowledgement has arrived (R438). -/
  notice : Bool
  noticeAck : Bool
  /-- Non-idempotent acts made and not known to be complete (R517). -/
  acts : Nat
  /-- The opcode's own progress mark (R440) and the numbers it keeps. -/
  phase : Nat
  aux : List Nat
  deriving DecidableEq, Repr

/-- A doorbell taken: the producer index after it and its stamp (R160). -/
structure Bell where
  prod : Nat
  stamp : Nat
  /-- The twin's port by which it came. -/
  via : Side
  deriving DecidableEq, Repr

/-- A queue (R118, R124, R150). Ring positions are counted from the queue's creation: position `a` is slot
`a mod N` of lap `a / N`. -/
structure Queue where
  live : Bool
  state : QState
  /-- The state it takes at the next boundary (R129). -/
  next : Option QState
  gen : Nat
  priv : Bool
  ctx : Nat
  loc : Nat
  size : Nat
  vector : Nat
  ring : Nat
  reply : Nat
  prod : Nat
  prodPhase : Bool
  cons : Nat
  /-- Positions below it have retired. -/
  ret : Nat
  parkSlot : Nat
  parkCode : Nat
  bells : List Bell
  rereads : Nat
  cmds : List Cmd
  /-- A head slot rejected at admission: position, slots of its chain and code (R173). -/
  reject : Option (Nat × Nat × Nat)
  /-- Its reply has been written. -/
  rejectDone : Bool
  /-- Positions whose DEFERRED reply is not yet written, with its second word but for PHASE, and the handle of the fence that the
  command signals (R165, R170, R171). -/
  deferred : List (Nat × Nat × Option Nat)
  /-- Reply positions written in this tick (R319). -/
  replies : Nat
  /-- The park that comes at the boundary, its code and slot: no later command starts (R129). -/
  parking : Option (Nat × Nat)
  /-- The boundary counts of the last release of a hold and of the last retirement (R247). -/
  releasedAt : Nat
  retiredAt : Nat
  /-- A Q_DESTROY has been taken: it frees the number once the queue is STOPPED and empty. -/
  destroy : Bool
  /-- Commands that have retired in this tick, and doorbells taken in it, for a failover (R439). -/
  ended : List Cmd
  rung : List Bell
  /-- Range invalidations issued for its commands in this tick (R255). -/
  invTick : Nat
  deriving DecidableEq, Repr

/-- A context slot (R132, R149, R461). -/
structure Ctx where
  state : CtxState
  next : Option CtxState
  /-- Ticks left of a drain (R133). -/
  drainLeft : Option Nat
  /-- The teardown's next step and its code (R144): 1, 3 and 5 as its table numbers them, 6 for the advance of the PASID
  binding, 7 for the move to FREE. -/
  teardown : Option (Nat × Nat)
  gen : Nat
  home : Side
  homeNext : Option Side
  port : Side
  terminate : Bool
  priv : Bool
  func : Nat
  loc : Nat
  pasid : Nat
  pasidGen : Nat
  share : Nat
  root : Nat
  endStamp : Nat
  observed : Nat
  saturated : Bool
  obsStamp : Nat
  /-- PARKED for want of a usable port (R100). -/
  portPark : Bool
  /-- Its home left service without a survivor (R501). -/
  homeless : Bool
  /-- The predictor is off before this boundary (R225). -/
  predictFrom : Nat
  deriving DecidableEq, Repr

/-- A memory object (R135 to R137, R151, R198, R322). -/
structure Obj where
  state : ObjState
  base : Nat
  size64k : Nat
  owner : Nat
  freeStamp : Nat
  attr : Nat
  /-- The command waiting for it to become FREE. -/
  freeCmd : Option CmdRef
  /-- Mappings removed: FREE once the accesses through them are done (R137). -/
  unmapped : Bool
  /-- The tags and journal numbers that stood when the removal took effect; none is listed where nothing was mapped. -/
  uses : Option (List Nat)
  /-- The range is still being scrubbed (R459). -/
  scrub : Bool
  mark : Option (Nat × Nat × Nat)
  deriving DecidableEq, Repr

/-- A fence (R138 to R142, R151, R381). -/
structure Fence where
  live : Bool
  value : Nat
  hostAddr : Nat
  tag : Nat
  state : FenceState
  mode : Nat
  scope : Nat
  owner : Nat
  share : Nat
  code : Nat
  signallers : Nat
  waiters : Nat
  freeing : Bool
  freeCmd : Option CmdRef
  /-- Device and grant of which it is a proxy (R381). -/
  proxy : Option (Nat × Nat)
  mark : Option (Nat × Nat × Nat)
  deriving DecidableEq, Repr

/-- A fault record (R216 to R219). -/
structure FaultRec where
  cva : Nat
  phase : Bool
  ahead : Bool
  terminated : Bool
  control : Bool
  reason : Nat
  access : Access
  level : Nat
  id : Nat
  queue : Nat
  slot : Nat
  unit : Nat
  ctx : Nat
  code : Nat
  run : Nat
  /-- The boundary count in which it was raised, and its stamp, which the boundary after it gives (R217). -/
  raised : Nat
  stamp : Option Nat
  written : Bool
  /-- The queue positions whose accesses it stalls. -/
  users : List (Nat × Nat)
  deriving DecidableEq, Repr

/-- A page request (R221 to R224). -/
structure PageReq where
  ctx : Nat
  port : Side
  func : Nat
  pasid : Nat
  pasidGen : Nat
  page : Nat
  r : Bool
  w : Bool
  /-- The PRG index under which it was sent, and the boundary of sending. -/
  index : Option Nat
  sentAt : Nat
  /-- The host answered Success once already, and its translation has been asked for again. -/
  retried : Bool
  again : Bool
  /-- The queue positions and units that wait for it. -/
  users : List (Nat × Nat × Nat)
  deriving DecidableEq, Repr

/-- An ATS Invalidation Request in hand (R212). -/
structure AtsInv where
  port : Side
  func : Nat
  itag : Nat
  pasid : Option Nat
  /-- Journal sequence that an acknowledged flush must cover, and the tags of the reads to be awaited: what was issued with a
  translation that the request dropped. -/
  cover : Nat
  reads : List Nat
  deriving DecidableEq, Repr

/-- An outstanding ATS Translation Request (R210, R211). -/
structure AtsReq where
  port : Side
  tag : Nat
  ctx : Nat
  pasidGen : Nat
  page : Nat
  access : Access
  stale : Bool
  /-- The twin that asked has failed: the reply is dropped and counted (R42, R430). -/
  orphan : Bool
  queue : Nat
  slot : Nat
  unit : Nat
  deriving DecidableEq, Repr

/-- Translation state of the device (06). -/
structure Xlt where
  tlb : Two (List TlbEntry)
  atc : Two (List AtcEntry)
  walk : Two (List WalkEntry)
  /-- The micro-TLBs of the engines, for the slices that run (R205, R206). -/
  micro : List MicroEntry
  /-- Translations that the host gave: each serves every access that asked for its page, whatever becomes of its entry in the ATC, until
  the boundary named. -/
  passing : List (AtcEntry × Nat)
  /-- Partition of each slot: TLB, ATC, PRQ (R207). -/
  part : Tbl (Nat × Nat × Nat)
  /-- Records of the tick just running and of ticks before that wait for a ring. -/
  batch : List FaultRec
  stalled : List FaultRec
  /-- RETRY and FAIL responses written in this tick, in order: the function's place, the FAULT_ID, FAIL (R219). -/
  responses : List (Nat × Nat × Bool)
  /-- Table entries written that take effect at the next boundary: address, value (R187). -/
  writes : List (Nat × Word)
  /-- Ranges that a MAP or UNMAP changes at the next boundary: context, first 4 KiB page, pages, and whether cached
  translations are purged. -/
  changes : List (Nat × Nat × Nat × Bool)
  /-- Table pages in use of each context's pool, and those that return to it at the next boundary. -/
  tables : List (Nat × Nat)
  frees : List (Nat × Nat)
  ats : List AtsReq
  nextAts : Nat
  inv : List AtsInv
  requests : List PageReq
  /-- PRG indices that stay unusable until the port's reset. -/
  deadPrg : Two (List Nat)
  /-- The PRG index from which the next one of each port is sought. -/
  nextPrg : Two Nat
  /-- Last page and direction of each queue's walks (R225). -/
  history : Tbl (Nat × Bool)
  nextFault : Nat
  deriving DecidableEq, Repr

/-- What a journalled request is (R94). -/
inductive JKind where
  | slice | inline | reply | fence | fring | atomicSignal
  deriving DecidableEq, Repr

/-- An entry of a port's journal (R108). -/
structure JEntry where
  seq : Nat
  queue : Nat
  slot : Nat
  unit : Nat
  func : Nat
  ctx : Nat
  kind : JKind
  addr : Nat
  data : List Byte
  ro : Bool
  poison : Bool
  pasid : Option Nat
  /-- The host page through whose translation it was issued, when it was translated. -/
  page : Option Nat
  /-- The handle of the fence that the command of a reply signals. -/
  fence : Option Nat
  /-- A replay or a reset found its function unable to issue: it leaves again once the function can (R100, R103, R111). -/
  owed : Bool := false
  deriving DecidableEq, Repr

/-- What an outstanding request to the host is for. -/
inductive ReqKind where
  | source (queue slot unit : Nat) (offset len : Nat) (engine : Nat)
  | signal (fence : Nat) (queue slot : Nat)
  /-- The predicate word of the command at a position. -/
  | word (queue slot : Nat)
  deriving DecidableEq, Repr

/-- An outstanding non-posted request of a port (R41, R42, R97). -/
structure Req where
  tag : Nat
  kind : ReqKind
  ctx : Nat
  ctxGen : Nat
  queue : Nat
  queueGen : Nat
  portGen : Nat
  twinGen : Nat
  /-- The host page through whose translation it was issued, when it was translated. -/
  page : Option Nat
  deriving DecidableEq, Repr

/-- A flushing read outstanding: the journal sequence it covers, its stamp, and the generation that it carries (R41, R109). -/
structure Flush where
  cover : Nat
  stamp : Nat
  gen : Nat
  deriving DecidableEq, Repr

/-- A placement region (R104, R117). -/
structure Region where
  enabled : Bool
  d0 : Word
  d1 : Word
  d2 : Word
  d3 : Word
  /-- What the next boundary makes of it: a new descriptor, or nothing (cleared). -/
  next : Option (Option (Word × Word × Word × Word))
  deriving DecidableEq, Repr

/-- A selective IDE stream (R457, R470). -/
structure Stream where
  secure : Bool
  keySet : Bool
  keys0 : Bool
  keys1 : Bool
  fails : Nat
  deriving DecidableEq, Repr

/-- The TDI of a VF on a port (R458, R470). -/
structure Tdi where
  state : TdiState
  stream : Nat
  lockTick : Nat
  /-- SHA-384 of the locked configuration is taken over these bytes. -/
  config : List Byte
  deriving DecidableEq, Repr

/-- What waits: for the lines of a group of uncached accesses, or at a port behind a write that does (R96, R325, R342). -/
inductive Waiting where
  | cmd (c : Instr)
  | engineUnit (queue slot unit engine : Nat)
  /-- A request to BAR4 that a region has admitted, at its device address. -/
  | access (p : Side) (addr : Nat) (k : Bar4Kind)
  /-- The completion of a read of BAR4 that no region admits. -/
  | unsupported (p : Side)
  deriving DecidableEq, Repr

/-- A host port (03). -/
structure Port where
  /-- The link is in L0. -/
  up : Bool
  trained : Bool
  speed : Nat
  width : Nat
  flit : Bool
  /-- The present mode is CXL 3.1 (R505). -/
  cxl : Bool
  /-- port_cap_now (R67). CAP_NOW reads zero from a reset of the port to the first boundary in L0 (R116). -/
  cap : Nat
  capHidden : Bool
  retrains : Nat
  holding : Bool
  holdStart : Nat
  holdMs : Nat
  offer : Bool
  holdCfg : Nat
  /-- It has returned to service at a boundary since its last leaving (R102). -/
  inService : Bool
  /-- Training was asked for at entry into service (R51). -/
  training : Bool
  /-- The hold window ended, or a reset came, and its boundary is awaited (R100). -/
  lost : Option Nat
  /-- A reset or a long outage since the link was last in L0: its domain's generation advances at L0 (R429). -/
  genDue : Bool
  /-- A replay is under way, and the next journal sequence it re-issues (R111). -/
  replayDue : Bool
  replayAt : Nat
  journal : List JEntry
  jseq : Nat
  jacked : Nat
  jhead : Nat
  jtail : Nat
  flushAddr : Nat
  flushes : List Flush
  replays : Nat
  discards : Nat
  refused : Nat
  flushErr : Bool
  full : Bool
  acked : Bool
  lastAck : Nat
  reqs : List Req
  nextTag : Nat
  inta : Bool
  regions : Tbl Region
  bar4 : Nat
  mse : Bool
  vfEnable : Bool
  /-- Sizes of the committed HDM decoders 0 and 1 in 256 MiB units (R107). -/
  hdm0 : Nat
  hdm1 : Nat
  privRing : Word
  privReply : Word
  disable : Bool
  streams : Tbl Stream
  tdis : Tbl Tdi
  /-- Vectors delivered through the port since the last acknowledged flush (R409). -/
  sent : List (Nat × Nat)
  /-- Inbound accesses that wait, in the order they arrived, behind a write to BAR4 that waits for coherent lines (R96, R299). -/
  behind : List Waiting
  deriving DecidableEq, Repr

/-- An entry of an MSI-X table. -/
structure MsixEntry where
  addr : Word
  data : Nat
  mask : Bool
  deriving DecidableEq, Repr

/-- A function on a port: the bits of its configuration space that Harson's rules use, its MSI-X table and its
function block (R84, R98, R227, R414, R449). -/
structure Func where
  bme : Bool
  msix : Bool
  fmask : Bool
  intDis : Bool
  ro : Bool
  ats : Bool
  pri : Bool
  prgAlloc : Nat
  d3 : Bool
  flr : Bool
  /-- No request is issued for its contexts (R100). -/
  silenced : Bool
  /-- It has returned to service at a boundary since its last reset or D3hot (R102). -/
  ready : Bool
  /-- What R100 applies to its contexts at the next boundary, by precedence (R103). -/
  event : Nat
  table : Tbl MsixEntry
  fring : Word
  fringNext : Option Word
  ringHead : Nat
  ringTail : Nat
  ringPhase : Bool
  ctl : Word
  lost : Nat
  rf : Bool
  full : Bool
  privVec : Nat
  errVec : Nat
  fringVec : Nat
  errCount : Nat
  errCode : Nat
  errSpace : Nat
  errOffset : Nat
  ctxEvent : Word
  ctxStamp : Nat
  /-- Errors that AER reports: Poisoned TLP Received, and as advisory non-fatal; Completion Timeout (R84, R97). -/
  poisonedTlp : Bool
  advisory : Bool
  cplTimeout : Bool
  /-- Max_Payload_Size and Max_Read_Request_Size in bytes (R84). -/
  mps : Nat
  mrrs : Nat
  /-- Base addresses: BAR0, BAR2 and BAR4, and in the PF's SR-IOV capability 8 and 10 for the VFs' BAR0 and BAR2 (R91). -/
  bars : Tbl Nat
  deriving DecidableEq, Repr

/-- Where an event of a vector came from (R399). -/
inductive Origin where
  | ctx (slot : Nat) | port (p : Side) | chip
  deriving DecidableEq, Repr

/-- A vector of a function (R401 to R406). -/
structure Vec where
  state : VecState
  events : Nat
  delayNow : Nat
  autoAck : Bool
  adapt : Bool
  idle : Bool
  count : Nat
  delay : Nat
  /-- The open window: opening microsecond, COUNT and D (R404, R406). -/
  window : Option (Nat × Nat × Nat)
  /-- Released by COUNT (`some 0`), by the delay with one event or the idle bypass (`some 1`), or by the delay
  with more (`some 2`); R405. -/
  released : Option Nat
  /-- The microsecond from which it may be delivered. -/
  dueAt : Nat
  origin : Origin
  /-- Route to an embedded host core: core and identifier (R400), and the route waiting for the boundary. -/
  route : Option (Nat × Nat)
  routeNext : Option (Option (Nat × Nat))
  deriving DecidableEq, Repr

/-- A wake slot (R412, R416). -/
structure Wake where
  enable : Bool
  action : Nat
  ret : Bool
  kind : Nat
  arg : Nat
  deriving DecidableEq, Repr

/-- Interrupts and wake (12). -/
structure Irq where
  vecs : Tbl Vec
  /-- Events raised and not yet at their vector: function, vector, origin (R398). -/
  raised : List (Nat × Nat × Origin)
  wakes : Tbl Wake
  /-- Vectors delivered in this tick (R410). -/
  delivered : List (Nat × Nat)
  hit : Nat
  wakeCount : Nat
  cancelled : Bool
  deriving DecidableEq, Repr

/-- A plan slot (R61, R72). -/
structure PlanSlot where
  state : SlotState
  period : Nat
  keep : Nat
  cycle : Nat
  cap0 : Nat
  cap1 : Nat
  planId : Word
  digest : List Byte
  both : List Word
  alone : Two (List Word)
  obj : Option Nat
  ackCe : Nat
  ackLink : Nat
  ackFront : Nat
  loadedAt : Nat
  failed : Bool
  stage : Option CmdRef
  prev : SlotState
  deriving DecidableEq, Repr

/-- A pending COMMIT (R77 to R80). -/
structure Commit where
  slot : Nat
  tick : Nat
  fabric : Bool
  group : Nat
  cmd : CmdRef
  /-- The staging check's outcome, and the decision. -/
  check : Option Bool
  decision : Option Bool
  /-- Results that members below this one have sent up the group's tree, by device, and whether this device's own went up (R79). -/
  results : List (Nat × Bool)
  sent : Bool
  deriving DecidableEq, Repr

/-- The plans (02). -/
structure Plan where
  slots : Tbl PlanSlot
  active : Nat
  switchTick : Nat
  /-- The start plan restored by a fabric-wide reset takes effect at the next boundary (R83). -/
  restore : Bool
  pend : Option Commit
  allot : Nat
  throttled : Bool
  request : Bool
  /-- The package is at its power limit (R26, R70). -/
  limit : Bool
  /-- The next epoch is throttled for a class B switch (R479). -/
  forClock : Bool
  epochs : Nat
  diverged : Bool
  short : Bool
  withdrawn : Bool
  /-- Windows opened in this tick: engine and entry index. -/
  windows : List (Nat × Nat)
  /-- Windows in which a unit waits: by engine, the entry and the cycles used (R208). -/
  waits : Tbl (Nat × Nat)
  /-- Units used of a link by a queue in this tick: link, queue, units. -/
  linkUsed : List (Nat × Nat × Nat)
  /-- Commands interpreted in this tick by queue. -/
  frontUsed : Tbl Nat
  deriving DecidableEq, Repr

/-- A copy engine's registers (R260). -/
structure Engine where
  moved : Nat
  skipped : Nat
  idle : Nat
  corr : Bool
  poisonSrc : Bool
  uncorr : Bool
  /-- The context whose unit met an uncorrectable error in the burst buffer, and the boundary of that tick, until a burst is marked
  (R259). -/
  spoil : Option (Nat × Nat)
  /-- The unit that it wrote last in this tick: queue, position, unit. -/
  last : Option (Nat × Nat × Nat)
  deriving DecidableEq, Repr

/-- A capture of a fault source (R418). -/
structure Capture where
  stamp : Nat
  code : Nat
  ctx : Option Nat
  occur : Nat
  detail : Nat
  deriving DecidableEq, Repr

/-- A twin's fault collector (R417 to R426). -/
structure Collector where
  first : Nat
  caps : Tbl Capture
  pending : Nat
  /-- Contexts named by occurrences of pending sources. -/
  named : List (Nat × Nat × Nat)
  /-- Ticks until the grace timer expires; armed and not yet started. -/
  grace : Option Nat
  armed : Bool
  quiet : Nat
  level : Nat
  lone : Bool
  safe : Bool
  recoveries : Nat
  graceCfg : Nat
  quietCfg : Nat
  deriving DecidableEq, Repr

/-- What a twin's mirror of the last boundary holds: of the contexts that it homes, their state, queues and fences, the writes to
the host that no acknowledged flush covers, their page requests and their interrupts; of its order point the count, when it leads;
of its port the journal's pointers and its last acknowledged flush (R48). -/
structure Mirror where
  stamp : Nat
  ctxs : Tbl Ctx
  qs : Tbl Queue
  fences : Tbl Fence
  /-- Queue, position and unit of each such write: what the residue of a slice to the host still holds. -/
  lost : List (Nat × Nat × Nat)
  requests : List PageReq
  vecs : Tbl Vec
  raised : List (Nat × Nat × Origin)
  count : Option Nat
  jhead : Nat
  jtail : Nat
  jacked : Nat
  lastAck : Nat
  deriving DecidableEq, Repr

/-- A twin (13, 14, 15). -/
structure Twin where
  state : TwinState
  /-- The state held before DETACHING. -/
  prior : TwinState
  fail : Option FailCause
  /-- Its start at power-up has not ended (R477). -/
  boot : Bool
  tested : Bool
  measured : Bool
  ret : Option RetStep
  /-- The return comes by itself after the reset of R500. -/
  auto : Bool
  /-- Released from its reset (R500). -/
  inReset : Bool
  test : Option (TestOrigin × Nat)
  testResult : Nat
  sigL : Word
  sigM : Word
  standby : Bool
  standbyReq : Bool
  resets : List Nat
  halted : Nat
  image : List Byte
  svn : Nat
  mirrorFmt : Nat
  mirrorMin : Nat
  version : Word
  loading : Bool
  mirror : Option Mirror
  col : Collector
  deriving DecidableEq, Repr

/-- A compute domain (R431 to R434, R450). -/
structure Cd where
  state : CdState
  /-- 1: the write was stamped; 2: sampling; 3: reset asserted. -/
  stage : Nat
  returning : Bool
  times : List Nat
  miss : Nat
  total : Nat
  sampleStamp : Nat
  sampled : Bool
  /-- The sample's data by core, absent where stored poisoned. -/
  sample : Tbl (Option (List Byte))
  /-- Cores whose data is still awaited. -/
  awaiting : List Nat
  launched : List Nat
  /-- The contexts of which the sample may hold data: those launched before it was taken. -/
  owners : List Nat
  deriving DecidableEq, Repr

/-- A pending detach (R442, R443). -/
structure Detach where
  twin : Side
  tick : Nat
  waited : Nat
  withdrawn : Bool
  forced : Bool
  deriving DecidableEq, Repr

/-- Resets and supply (13). -/
structure Rst where
  gens : Tbl Nat
  cds : Tbl Cd
  detach : Option Detach
  ctlTwin : Bool
  ctlTick : Nat
  forced : Bool
  failovers : Nat
  failStamp : Nat
  /-- LAUNCH commands that a failed twin handed off and whose answers are to be dropped (R430, R439). -/
  orphans : List CmdRef
  chip : Nat
  /-- The five counts of HX_FLT_STALE_GEN (R45). -/
  staleCtx : Nat
  staleQueue : Nat
  stalePasid : Nat
  stalePath : Nat
  staleDomain : Nat
  /-- The supply warning: the microsecond at which it was seen; held from the next boundary. -/
  warn : Option Nat
  held : Bool
  cleared : Bool
  dips : Nat
  lastUs : Nat
  ckptValid : Bool
  long : Bool
  dip : Bool
  ckpt : List Byte
  deriving DecidableEq, Repr

/-- Clocks and start-up (15). -/
structure Clk where
  /-- 0 off, 1 IOSC, 2 crystal check, 3 PLLs starting, 4 PLLs locked, 5 shared plane up, 6 crystal failed,
  7 shared plane failed. -/
  phase : Nat
  xstart : Nat
  checks : Nat
  iosc : Bool
  xtal : Bool
  mpll : Bool
  seen : Nat
  locks : Nat
  xtalFail : Bool
  xtalLost : Bool
  lost : Nat
  aclk : Bool
  mclk : Bool
  tclk : Nat
  hclkS : Nat
  hclk : Two Nat
  /-- Class B switches that wait: the field's low bit, its new code, whether it waits for an epoch. -/
  pend : List (Nat × Nat × Bool)
  dead : Bool
  /-- HCLK_S has switched PLL in this tick: its units lose the rest of it (R480). -/
  cutS : Bool
  gates : Nat
  fcnt : Word
  busy : Bool
  done : Bool
  timeout : Bool
  count : Nat
  bistKind : Nat
  bistTwin : Bool
  sharedResult : Nat
  sharedSig : Word
  deriving DecidableEq, Repr

/-- Device memory: bytes by address, an unlisted address reading 0, and the 32-byte words that bear the poison
mark (R351). -/
structure Mem where
  bytes : Tbl Byte
  poison : List Nat
  deriving DecidableEq, Repr

/-- An SPDM session or the connection before it (R455, R463). -/
structure Session where
  path : SpdmPath
  id : Nat
  /-- FINISH has completed. -/
  ready : Bool
  auth : Bool
  /-- Credential slot of the requester, when one matched (R465), and the roles held. -/
  slot : Option Nat
  roles : Nat
  /-- Key updates made. -/
  updates : Nat
  deriving DecidableEq, Repr

/-- What writes the image region (R464). -/
inductive FlashOp where
  | erase | program | restore (r : MgtReq)
  deriving DecidableEq, Repr

/-- Trust and management (14). -/
structure Mgt where
  meas : Tbl (List Byte)
  minSvn : Nat
  credLock : Bool
  creds : Tbl (List Byte × Nat)
  sessions : List Session
  nextSession : Nat
  flash : Tbl Byte
  flashBusy : Option FlashOp
  /-- Log records by index 0 to 8,191; records written and records mirrored since power-up. -/
  log : Tbl (Word × Word × Word × Word)
  written : Nat
  mirrored : Nat
  lost : Nat
  lostNew : Nat
  pages : Nat
  /-- Sensor VALUE and STATE; limits written over those of ROM. -/
  sensors : Tbl (Nat × Nat)
  limits : Tbl Word
  deriving DecidableEq, Repr

/-- The messages of the coherence protocol (R332). -/
inductive CohOp where
  | rds | rdx | upg | puts | pute | puto | putm | fwds | fwdx | inv | snpCur | snpRecall
  | datas | datae | datao | datam | upgAck | grant | ackDone | invAck
  | fwdDone (k : FwdKind)
  | snpRsp (keep : Bool)
  /-- `star`: sent where R335 writes Miss with a mark. -/
  | miss (star : Bool)
  | putAck | stalePutAck | fwdDoneAck
  deriving DecidableEq, Repr

/-- A coherence message: its line and home, the agent at its other end by directory pointer, and what it carries. A
message between agents (data, a forward passed on) names both. -/
structure CohMsg where
  op : CohOp
  home : Nat
  line : Nat
  /-- The agent that sends it, or none for the home. -/
  src : Option Nat
  /-- The agent that takes it, or none for the home. -/
  dst : Option Nat
  req : Nat
  owner : Bool
  data : List Byte
  marks : Nat
  done : Bool
  /-- The answer was deferred (R334). -/
  late : Bool
  deriving DecidableEq, Repr

/-- The states of a directory entry (R329). -/
inductive DirState where
  | i | s | o | x
  deriving DecidableEq, Repr

/-- The states of an agent's line (R328, R333 to R336). -/
inductive LineState where
  | i | s | e | o | m | isD | imD
  /-- IM^A, with target M or E. -/
  | imA (toM : Bool)
  | xmG | smO | omO | siA | eiA | oiA | miA | iiA | iF
  deriving DecidableEq, Repr

/-- What the home waits for from an agent (R338, R342). -/
inductive AwaitKind where
  | inv | fwds | fwdx | snpCur | snpRecall
  | bisnp (data : Bool)
  deriving DecidableEq, Repr

/-- An answer that the home awaits: the agent, what was asked, the requester served, the transaction it counts toward, the
boundary count of its sending, and for a host snoop the halves answered so far. -/
structure Await where
  agent : Nat
  kind : AwaitKind
  req : Nat
  trans : Nat
  sentAt : Nat
  halves : Nat
  deriving DecidableEq, Repr

/-- What ends a transaction once its answers are in (R338). -/
inductive TransEnd where
  | ackDone (req : Nat)
  | grant (req : Nat)
  | none
  deriving DecidableEq, Repr

/-- A CXL.mem request of the host (R344). -/
inductive HostReq where
  | memRd (m : CxlMeta) | memRdData (m : CxlMeta) | memInv (m : CxlMeta) | memClnEvct
  | memWr (m : CxlMeta) (data : List Byte) (poison : Bool)
  | biConflict
  deriving DecidableEq, Repr

/-- A blocking operation on a line (R342, R343): a host request on a half of it, an uncached access that a command is
waiting to make (of the group by number, a write when `w`), or a directory eviction. -/
inductive BlockOp where
  | host (p : Side) (half : Bool) (r : HostReq)
  | access (group : Nat) (w : Bool)
  | evict
  /-- A caching request that finds the host a holder: its snoops come first (R345). -/
  | forAgent (op : CohOp) (agent ctx : Nat)
  deriving DecidableEq, Repr

/-- A request waiting in a line's queue (R338, R342). -/
inductive LineReq where
  | caching (op : CohOp) (agent ctx : Nat)
  | block (b : BlockOp)
  deriving DecidableEq, Repr

/-- A directory entry with what is under way on its line (R329, R330, R337 to R342). -/
structure DirEntry where
  state : DirState
  /-- PTR0 to PTR3, the owner first in O and X. -/
  ptrs : List Nat
  bcast : Bool
  count : Nat
  presence : Nat
  pred : Nat
  /-- The agent that obtained the line by RdS and after which no other agent's request has come. -/
  lastRds : Option Nat
  /-- The owner from which a prediction took the line, until a third agent's request comes. -/
  takenFrom : Option Nat
  /-- What each host agent has been granted of each half: 1 for S, 2 for E (R345). -/
  halves : List (Nat × Nat × Nat)
  ctx : Nat
  age : Nat
  awaits : List Await
  trans : List (Nat × TransEnd)
  blocked : Option BlockOp
  /-- The operation has taken its snoops and only awaits their answers or its group. -/
  ready : Bool
  queue : List LineReq
  deriving DecidableEq, Repr

/-- A line of an agent of this device (R333 to R336). -/
structure AgentLine where
  agent : Agent
  home : Nat
  line : Nat
  ctx : Nat
  state : LineState
  data : List Byte
  marks : Nat
  /-- The 256 HCLK after the line is won are running (R334). -/
  hold : Bool
  deferred : List CohMsg
  /-- The agent to which ownership passed (N). -/
  passed : Option Nat
  /-- StalePutAck has arrived; FwdDoneAck is owed. -/
  gotStale : Bool
  owed : Bool
  /-- Local reads waiting, and stores waiting: offset and bytes. -/
  reads : Nat
  stores : List (Nat × List Byte)
  evicts : Nat
  /-- Boundary count at which its outstanding request was sent (R350). -/
  since : Nat
  deriving DecidableEq, Repr

/-- A coherence domain (R356). -/
structure Domain where
  valid : Bool
  members : Nat
  group : Nat
  deriving DecidableEq, Repr

/-- Coherent windows: the home of this device's lines, and the lines its agents hold (10). -/
structure Coh where
  predOn : Bool
  /-- DIR_BANKS and RLC_BANKS of each context slot. -/
  parts : Tbl (Nat × Nat)
  domains : Tbl Domain
  dir : Tbl DirEntry
  nextAge : Nat
  nextTrans : Nat
  lines : List AgentLine
  /-- Requests that wait for an entry of a full set: line, request. -/
  full : List (Nat × LineReq)
  groups : List (Nat × Waiting)
  nextGroup : Nat
  /-- Lines whose blocking operation serves the command that runs now. -/
  serving : List Nat
  stalePut : Nat
  deferred : Nat
  timeouts : Nat
  proto : Nat
  poisoned : Nat
  evictions : Nat
  deadAgent : Nat
  deadCount : Nat
  deadStamp : Nat
  dead : List Nat
  /-- Dead agents whose device or port has returned (R349). -/
  back : List Nat
  /-- The microsecond at which the running sweep ends. -/
  sweep : Option Nat
  drops : Nat
  deriving DecidableEq, Repr

/-- A packet that this device makes (R366, R367). -/
structure FabPkt where
  kind : Nat
  cls : Nat
  grant : Nat
  ggen : Nat
  tag : Nat
  addr : Nat
  data : List Byte
  marks : Nat
  /-- A coherence message's content. -/
  coh : Option CohMsg
  /-- The numbers that a control or collective packet's payload holds. -/
  args : List Nat
  /-- The command and unit whose acknowledgement it counts toward. -/
  ref : Option (CmdRef × Nat)
  /-- RGEN: the requesting object's generation. -/
  rgen : Nat
  deriving DecidableEq, Repr

/-- A packet sent and not acknowledged (R373, R374). -/
structure FabSent where
  cls : Nat
  pseq : Nat
  pkt : FabPkt
  deriving DecidableEq, Repr

/-- This device's path to a destination (R374, R375). -/
structure FabPath where
  /-- The next PSEQ of each class. -/
  next : List Nat
  unacked : List FabSent
  /-- The boundary count at which ACK_TICKS end. -/
  timer : Option Nat
  changes : Nat
  /-- A PATHFENCE is out, with the previous generation; packets wait behind it. -/
  fence : Option Nat
  waiting : List FabPkt
  deriving DecidableEq, Repr

/-- What a destination keeps of a source (R373). -/
structure FabRx where
  gen : Nat
  expect : List Nat
  deriving DecidableEq, Repr

/-- A routing-table entry (R371) and what the next boundary makes of it. -/
structure Route where
  pgen : Nat
  active : Nat
  unreach : Bool
  alts : Nat
  hops : Nat
  delay : Nat
  /-- Alternatives committed (R395). -/
  next : Option Nat
  /-- A refresh: alternatives, hops, delay (R376). -/
  fresh : Option (Nat × Nat × Nat)
  /-- A path change is due at the boundary (R372). -/
  change : Bool
  deriving DecidableEq, Repr

/-- A link interface (R370, R376, R395). -/
structure FabLink where
  up : Bool
  peerDev : Nat
  peerLink : Nat
  delay : Nat
  downs : Nat
  /-- Ticks it has been up; reported to the root. -/
  upFor : Nat
  reported : Bool
  peerSerial : Nat
  /-- A HELLO has come over it; the smallest serial that the neighbour knows, and its distance from it. -/
  heard : Bool
  best : Nat
  dist : Nat
  probes : List Nat
  deriving DecidableEq, Repr

/-- A grant issued (R377, R396). -/
structure GrantEnt where
  holder : Nat
  holderCtx : Nat
  ctx : Nat
  offered : Bool
  refused : Bool
  enable : Bool
  fence : Bool
  rights : Nat
  ggen : Nat
  target : Nat
  offset : Nat
  size64k : Nat
  ending : Bool
  /-- TAG of the last GRANT_OFFER. -/
  tag : Nat
  deriving DecidableEq, Repr

/-- A grant held (R377). -/
structure HeldGrant where
  dev : Nat
  id : Nat
  ggen : Nat
  base : Nat
  size : Nat
  rights : Nat
  ctx : Nat
  fence : Bool
  deriving DecidableEq, Repr

/-- A peer group (R360). -/
structure Group where
  members : Nat
  rank : Nat
  /-- The object that holds the list, and the list. -/
  obj : Nat
  list : List Nat
  valid : Bool
  mismatch : Bool
  /-- At rank 0: members whose digest has matched, and digests that came before the own commit. -/
  matched : List Nat
  early : List (Nat × List Byte)
  /-- The boundary count of the first commit known. -/
  first : Option Nat
  /-- The answer has arrived: VALID at the next boundary. -/
  answered : Bool
  deriving DecidableEq, Repr

/-- A chunk of a collective that has arrived: sender's rank, chunk, direction, data. -/
structure CollIn where
  rank : Nat
  chunk : Nat
  dir : CollDir
  data : List Byte
  deriving DecidableEq, Repr

/-- A collective under way (R383 to R389). -/
structure Coll where
  ref : CmdRef
  group : Nat
  tag : Nat
  /-- Next chunk to climb and to descend, next peer or chunk of the direct scheme. -/
  up : Nat
  down : Nat
  inbox : List CollIn
  /-- Ranks of which a barrier's arrival has come; the release and the own arrival. -/
  arrivals : List Nat
  released : Bool
  sent : Bool
  /-- Boundary counts: of its start, of its last step, and of the last input or step. -/
  startAt : Nat
  last : Option Nat
  waitFrom : Nat
  sat : Nat
  nan : Nat
  deriving DecidableEq, Repr

/-- A global operation that this device knows of (R390 to R392). -/
structure Global where
  reset : Bool
  group : Nat
  /-- The tick in which the root admitted it, once that is known here, and T_s of a snapshot. -/
  tick : Option Nat
  snapTick : Nat
  /-- Members below this one in the group's tree that have confirmed. -/
  confirms : Nat
  /-- This device's own part is done; its start plan is restored; it has told the member above. -/
  done : Bool
  restored : Bool
  told : Bool
  /-- The port through whose PF this device was asked, while the request has not been admitted. -/
  via : Option Side
  deriving DecidableEq, Repr

/-- A WRITE sent to a peer, which a NAK may name by its tag. -/
structure FabWrite where
  dev : Nat
  tag : Nat
  queue : Nat
  slot : Nat
  unit : Nat
  deriving DecidableEq, Repr

/-- An outstanding read of a peer: the unit that asked, the unit's first byte that it serves, and its length. -/
structure FabRead where
  dev : Nat
  tag : Nat
  queue : Nat
  slot : Nat
  unit : Nat
  engine : Nat
  offset : Nat
  len : Nat
  /-- The queue's generation that it carried (R41). -/
  gen : Nat
  deriving DecidableEq, Repr

/-- The fabric (11). -/
structure Fab where
  phase : Nat
  detached : Bool
  isRoot : Bool
  root : Nat
  device : Nat
  diameter : Nat
  conflict : Bool
  skew : Bool
  idCtl : Word
  ctl : Word
  skewMax : Nat
  skewNow : Nat
  skewTicks : Nat
  /-- Ticks of the phase that brought no change, and ticks of the phase. -/
  quiet : Nat
  length : Nat
  /-- Smallest serial known and the distance from it; the parent's link. -/
  best : Nat
  dist : Nat
  parent : Option Nat
  /-- Boundaries without a BEACON. -/
  missed : Nat
  /-- Boundaries until agreed tick 0 begins, once the root's BEACON has named it. -/
  startIn : Option Nat
  steady : Nat
  joining : Bool
  nodes : List FabNode
  map : List (FabNode × Nat)
  links : Tbl FabLink
  routes : Tbl Route
  paths : Tbl FabPath
  rx : Tbl FabRx
  /-- Packets held until their delivery time in nanoseconds of the TCLK count, with the command that delivers them. -/
  held : List (Nat × Instr)
  grants : Tbl GrantEnt
  have_ : Tbl HeldGrant
  groups : Tbl Group
  colls : List Coll
  /-- Packets of collectives not yet started here. -/
  early : List (Nat × Nat × CollIn)
  earlyCtl : List (Nat × Nat × Nat × CollMsg)
  reads : List FabRead
  writes : List FabWrite
  /-- Reads that agents without a bank of the remote line cache make uncached: device, tag, agent, line (R327). -/
  bypass : List (Nat × Nat × Agent × Nat)
  nextTag : Nat
  /-- Invalidations carried to peers that await INVAL_DONE: device, tag, command, and its queue's generation (R41). -/
  invals : List (Nat × Nat × CmdRef × Nat)
  /-- Peers' invalidations under way here: source, tag, RGEN, and the ranges left by compute domain. -/
  served : List (Nat × Nat × Nat × Tbl Nat)
  /-- Range invalidations issued for peers in this tick, and those that wait for a later one (R255). -/
  invTick : Nat
  invRest : List InvAsk
  global : Option Global
  snapStamp : Nat
  bad : Nat
  stall : Nat
  late : Nat
  gap : Nat
  repins : Nat
  deriving DecidableEq, Repr

/-- What the block puts on its interfaces, one entry for each thing sent. -/
inductive Out where
  | hostRead (p : Side) (f : Nat) (pasid : Option Nat) (addr len tag : Nat) (ro : Bool)
  | hostWrite (p : Side) (f : Nat) (pasid : Option Nat) (addr : Nat) (data : List Byte) (ro poisoned : Bool)
  | hostAtomic (p : Side) (f : Nat) (addr value tag : Nat)
  | slotRead (queue slot gen : Nat)
  | wordRead (queue slot addr gen : Nat)
  | flushRead (p : Side) (addr gen : Nat)
  | msix (p : Side) (f v : Nat) (addr : Word) (data : Nat)
  | inta (p : Side) (on : Bool)
  | emb (core id : Nat)
  | atsReq (p : Side) (f pasid page tag : Nat) (access : Access)
  | atsInvDone (p : Side) (f itag : Nat)
  | pageReq (p : Side) (f pasid page index : Nat) (r w last : Bool)
  | bar4Cpl (p : Side) (status : CplStatus) (data : List Byte) (poisoned : Bool)
  | regData (path : Path) (offset : Nat) (value : Word)
  /-- A range invalidation at compute domains, each with its generation. -/
  | coreInv (domains : List (Nat × Nat)) (addr len : Nat) (ref : CmdRef)
  | launch (ctx gen pasid desc clusters x y z : Nat) (args : List Byte) (stamp : Nat)
  | cdReset (n : Nat) (on : Bool)
  | sampleRead (n core gen : Nat)
  | notice (dest : Side) (ref : CmdRef)
  | train (p : Side)
  | linkDown (p : Side)
  | cfgRetry (p : Side) (f : Nat)
  | cfgData (p : Side) (f value : Nat)
  | mgmt (r : MgtReq) (code : Nat) (body : List Byte)
  | spdm (path : SpdmPath) (session : Nat) (code : Nat) (body : List Byte)
  /-- A routed packet: link, destination, path generation, sequence, the destination's generation. -/
  | packet (link dst pgen pseq dgen : Nat) (p : FabPkt)
  /-- A packet in transit, forwarded as it came. -/
  | transit (link : Nat) (h : FabHdr)
  /-- A packet of one link: its kind and what it holds. -/
  | hop (link kind : Nat) (args : List Nat)
  | censusHop (link : Nat) (nodes : List FabNode)
  | mapHop (link : Nat) (m : List (FabNode × Nat))
  /-- A GLOBAL packet to a device of the group's tree. -/
  | globalHop (dev : Nat) (m : GlobalMsg)
  /-- A result of a group's staging check on its way up, or its decision on its way down, to a device of the group's tree (R79). -/
  | planHop (dev group tick : Nat) (up stands : Bool)
  /-- A coherence message on the die. -/
  | coh (m : CohMsg)
  /-- A message to the host of CXL.mem: completion code (0 Cmp, 1 Cmp-S, 2 Cmp-E, 3 BIConflictAck), or none for data. -/
  | cxlCmp (p : Side) (line : Nat) (half : Bool) (code : Nat)
  | cxlData (p : Side) (line : Nat) (half : Bool) (data : List Byte) (poison : Bool)
  | biSnp (p : Side) (line : Nat) (half : Bool) (data : Bool)
  /-- What a local read at an agent returned. -/
  | agentData (agent : Agent) (home line : Nat) (data : List Byte) (marks : Nat)
  /-- Accesses of an agent that wait on a line fail with a code (R350). -/
  | agentFail (agent : Agent) (home line code accesses : Nat)
  deriving DecidableEq, Repr

/-- Harson. -/
structure State where
  /-- The commands that wait, first in, first out. -/
  pending : List Instr
  time : Time
  twins : Two Twin
  ctxs : Tbl Ctx
  queues : Tbl Queue
  fences : Tbl Fence
  objs : Tbl Obj
  xlt : Xlt
  ports : Two Port
  funcs : Tbl Func
  irq : Irq
  plan : Plan
  engines : Tbl Engine
  rst : Rst
  clk : Clk
  mgt : Mgt
  coh : Coh
  fab : Fab
  mem : Mem
  /-- RW fields of selectors and staging registers, one copy for each path (R495): by path number and offset. -/
  sels : Tbl Word
  out : List Out
  /-- The model's own: the number of the next free value. -/
  freeCtr : Nat
  deriving DecidableEq, Repr

/-- A context slot that no OPEN has taken. -/
def Ctx.none : Ctx :=
  { state := .free, next := .none, drainLeft := .none, teardown := .none, gen := 0, home := .a, homeNext := .none,
    port := .a, terminate := false, priv := false, func := 0, loc := 0, pasid := 0, pasidGen := 0, share := 0,
    root := 0, endStamp := noStamp, observed := 0, saturated := false, obsStamp := noStamp, portPark := false,
    homeless := false, predictFrom := 0 }

/-- A queue number that no Q_CREATE has taken. -/
def Queue.none : Queue :=
  { live := false, state := .idle, next := .none, gen := 0, priv := false, ctx := 0, loc := 0, size := 8,
    vector := 0, ring := 0, reply := 0, prod := 0, prodPhase := false, cons := 0, ret := 0, parkSlot := 0,
    parkCode := 0, bells := [], rereads := 0, cmds := [], reject := .none, rejectDone := false, deferred := [], replies := 0,
    parking := .none, releasedAt := 0, retiredAt := 0, destroy := false,
    ended := [], rung := [], invTick := 0 }

/-- A command just admitted (R160, R172). -/
def Cmd.admitted (slot : Nat) (bytes : List Byte) (stamp eligible : Nat) : Cmd :=
  { slot := slot, bytes := bytes, stamp := stamp, eligible := eligible, admTick := 0, counted := false, started := false,
    begun := false, claimFrom := 0, pred := .none, point := 0, above := [], claims := [], tally := [], stall := .none,
    result := .none, doneAt := 0, residue := 0, skipped := false, note := false, moved := false, forced := false,
    ends := .none, blurred := false, byAbort := false, vector := .none, quietFence := false, halfAt := .none, halfDone := false, poisoned := false, invLeft := 0,
    invIssued := false, invAt := [], invRest := [], lastHost := .none, peerLeft := 0, notice := false, noticeAck := false, acts := 0, phase := 0,
    aux := [] }

/-- An object index that is FREE. -/
def Obj.none : Obj :=
  { state := .free, base := 0, size64k := 0, owner := 0, freeStamp := noStamp, attr := 0, freeCmd := .none,
    unmapped := false, uses := .none, scrub := false, mark := .none }

/-- A fence index that is not allocated. -/
def Fence.none : Fence :=
  { live := false, value := 0, hostAddr := 0, tag := 0, state := .pending, mode := 0, scope := 0, owner := 0,
    share := 0, code := 0, signallers := 0, waiters := 0, freeing := false, freeCmd := .none, proxy := .none,
    mark := .none }

/-- A region that holds nothing (R117). -/
def Region.none : Region := { enabled := false, d0 := 0, d1 := 0, d2 := 0, d3 := 0, next := .none }

/-- A stream without keys (R470). -/
def Stream.none : Stream := { secure := false, keySet := false, keys0 := false, keys1 := false, fails := 0 }

/-- A TDI after reset (R458). -/
def Tdi.none : Tdi := { state := .unlocked, stream := 0, lockTick := 0, config := [] }

/-- A function after a conventional reset of its port. The configuration bits are those of PCI Express (PRESUMED,
log entry 2); the function block is R227, R414 and R449. -/
def Func.reset : Func :=
  { bme := false, msix := false, fmask := false, intDis := false, ro := true, ats := false, pri := false,
    prgAlloc := 0, d3 := false, flr := false, silenced := false, ready := false, event := 0, table := [], fring := 6,
    fringNext := .none, ringHead := 0, ringTail := 0, ringPhase := true, ctl := 0x000101E84801E848, lost := 0,
    rf := false, full := false, privVec := 0, errVec := 0, fringVec := 0, errCount := 0, errCode := 0,
    errSpace := 0, errOffset := 0, ctxEvent := 0, ctxStamp := noStamp, poisonedTlp := false, advisory := false
    cplTimeout := false, mps := 128, mrrs := 512, bars := [] }

/-- An MSI-X entry after reset: masked (PRESUMED, log entry 2). -/
def MsixEntry.reset : MsixEntry := { addr := 0, data := 0, mask := true }

/-- A vector after reset (R401, R414, R416). -/
def Vec.reset : Vec :=
  { state := .quiet, events := 0, delayNow := 0, autoAck := false, adapt := false, idle := false, count := 1,
    delay := 0, window := .none, released := .none, dueAt := 0, origin := .chip, route := .none,
    routeNext := .none }

/-- A wake slot after reset (R416). -/
def Wake.none : Wake := { enable := false, action := 0, ret := false, kind := 0, arg := 0 }

/-- A port at power-up (R116, R505). -/
def Port.reset : Port :=
  { up := false, trained := false, speed := 0, width := 0, flit := false, cxl := false, cap := 0, capHidden := false,
    retrains := 0, holding := false, holdStart := 0, holdMs := 20, offer := true, holdCfg := 20, inService := false,
    training := false, lost := .none, genDue := false, replayDue := false, replayAt := 0, journal := [], jseq := 0, jacked := 0, jhead := 0,
    jtail := 0, flushAddr := 0, flushes := [], replays := 0, discards := 0, refused := 0, flushErr := false,
    full := false, acked := false, lastAck := noStamp, reqs := [], nextTag := 0, inta := false, regions := [],
    bar4 := 0, mse := false, vfEnable := false, hdm0 := 0, hdm1 := 0, privRing := 8, privReply := 0, disable := false, streams := [],
    tdis := [], sent := [], behind := [] }

/-- An EMPTY plan slot (R72, R83). -/
def PlanSlot.none : PlanSlot :=
  { state := .empty, period := 0, keep := 8, cycle := 1, cap0 := 0, cap1 := 0, planId := 0, digest := [], both := [],
    alone := ⟨[], []⟩, obj := .none, ackCe := 0, ackLink := 0, ackFront := 0, loadedAt := 0, failed := false,
    stage := .none, prev := .empty }

/-- A copy engine at power-up (R260). -/
def Engine.reset : Engine :=
  { moved := 0, skipped := 0, idle := 0, corr := false, poisonSrc := false, uncorr := false, spoil := none, last := none }

/-- A capture that holds nothing (R448). -/
def Capture.none : Capture := { stamp := noStamp, code := 0, ctx := .none, occur := 0, detail := 0 }

/-- A collector at power-up (R448). -/
def Collector.reset : Collector :=
  { first := 0, caps := [], pending := 0, named := [], grace := .none, armed := false, quiet := 0,
    level := 0, lone := false, safe := false, recoveries := 0, graceCfg := 64, quietCfg := 1024 }

/-- A twin at power-up; its state before the self-tests end is a DESIGN CHOICE (log entry 1). -/
def Twin.reset : Twin :=
  { state := .outOfService, prior := .active, fail := .none, boot := true, tested := false, measured := false, ret := .none,
    auto := false, inReset := false, test := .none, testResult := 0, sigL := 0, sigM := 0, standby := false,
    standbyReq := false, resets := [], halted := 0, image := [], svn := 0, mirrorFmt := 0, mirrorMin := 0,
    version := 0, loading := false, mirror := .none, col := .reset }

/-- A compute domain at power-up (R450). -/
def Cd.reset : Cd :=
  { state := .inService, stage := 0, returning := false, times := [], miss := 0, total := 0, sampleStamp := noStamp,
    sampled := false, sample := [], awaiting := [], launched := [], owners := [] }

/-- An allotment entry of R62 that applies at every tick. -/
def planEntry (kind resource units queue : Nat) : Word :=
  BitVec.ofNat 64 (units * 2 ^ 24 + resource * 2 ^ 16 + kind * 2 ^ 14 + queue)

/-- The entries of the start plan that name one twin's units (R60): `units` for each of its two engines. -/
def startEntries (t : Side) (units : Nat) : List Word :=
  [planEntry 2 t.num 256 t.num, planEntry 0 (20 * t.num) units t.num, planEntry 0 (20 * t.num + 4) units t.num]

/-- The start plan (R60, R504), with the units of each port's engines. -/
def startPlan (period u0 u1 : Nat) : PlanSlot :=
  { PlanSlot.none with
    state := .active, period := period, keep := 8, cycle := 1, cap0 := u0, cap1 := u1,
    digest := List.replicate 48 0, both := startEntries .a u0 ++ startEntries .b u1,
    alone := ⟨startEntries .a u0, startEntries .b u1⟩, ackCe := 2 ^ 40 - 1, ackLink := 2 ^ 24 - 1, ackFront := 3 }

/-- The two privileged contexts (R121). -/
def privCtx (t : Side) : Ctx := { Ctx.none with state := .running, home := t, port := t, priv := true }

/-- The two privileged queues (R121). -/
def privQueue (t : Side) : Queue := { Queue.none with live := true, priv := true, ctx := t.num }

/-- A line of which nothing is cached (R329, R358). -/
def DirEntry.none : DirEntry :=
  { state := .i, ptrs := [], bcast := false, count := 0, presence := 0, pred := 0, lastRds := .none, takenFrom := .none,
    halves := [],
    ctx := 0, age := 0, awaits := [], trans := [], blocked := .none, ready := false, queue := [] }

/-- A domain that is not VALID (R356). -/
def Domain.none : Domain := { valid := false, members := 0, group := 0 }

/-- A link that has not been up (R395). -/
def FabLink.none : FabLink :=
  { up := false, peerDev := 0, peerLink := 0, delay := 0, downs := 0, upFor := 0, reported := false, peerSerial := 0,
    heard := false, best := 0, dist := 0, probes := [] }

/-- An empty routing-table entry (R371). -/
def Route.none : Route :=
  { pgen := 0, active := 0, unreach := false, alts := 0, hops := 0, delay := 0, next := .none, fresh := .none,
    change := false }

/-- A path on which nothing has been sent. -/
def FabPath.none : FabPath :=
  { next := [0, 0, 0, 0], unacked := [], timer := .none, changes := 0, fence := .none, waiting := [] }

/-- A source from which nothing has come. -/
def FabRx.none : FabRx := { gen := 0, expect := [0, 0, 0, 0] }

/-- A grant id that was never committed (R396). -/
def GrantEnt.none : GrantEnt :=
  { holder := 0, holderCtx := 0, ctx := 0, offered := false, refused := false, enable := false, fence := false,
    rights := 0, ggen := 0, target := 0, offset := 0, size64k := 0, ending := false, tag := 0 }

/-- A group that this device does not hold (R396). -/
def Group.none : Group :=
  { members := 0, rank := 0, obj := 0, list := [], valid := false, mismatch := false, matched := [], early := [], first := .none,
    answered := false }

/-- The state at power-up, before PORST_N rises: every register at the value of R498. -/
def State.reset : State :=
  { pending := []
    time := { tick := 0, seq := 0, last := noStamp, bstamp := noStamp, jumped := false, wrapped := false, carry := false,
              standbyOk := false, bnd := 0, us := 0, now := 0, period := 2, tp := 0, agreed := false, jumpTo := .none,
              carried := [] }
    twins := ⟨.reset, .reset⟩
    ctxs := [(0, privCtx .a), (1, privCtx .b)]
    queues := [(0, privQueue .a), (1, privQueue .b)]
    fences := []
    objs := []
    xlt := { tlb := ⟨[], []⟩, atc := ⟨[], []⟩, walk := ⟨[], []⟩, micro := [], passing := [], part := [], batch := [], stalled := [],
             responses := [], writes := [], changes := [], tables := [], frees := [], ats := [], nextAts := 0, inv := [], requests := [],
             deadPrg := ⟨[], []⟩, nextPrg := ⟨0, 0⟩, history := [], nextFault := 1 }
    ports := ⟨.reset, .reset⟩
    funcs := []
    irq := { vecs := [], raised := [], wakes := [], delivered := [], hit := 0, wakeCount := 0, cancelled := false }
    plan := { slots := [(0, startPlan 2 100 100)], active := 0, switchTick := 0, restore := false, pend := .none,
              allot := 0, throttled := false, request := false, limit := false, forClock := false, epochs := 0, diverged := false,
              short := false, withdrawn := false, windows := [], waits := [], linkUsed := [], frontUsed := [] }
    engines := []
    rst := { gens := [], cds := [], detach := .none, ctlTwin := false, ctlTick := 0, forced := false, failovers := 0,
             failStamp := noStamp, orphans := [], chip := 0, staleCtx := 0, staleQueue := 0, stalePasid := 0,
             stalePath := 0, staleDomain := 0, warn := .none,
             held := false, cleared := false, dips := 0, lastUs := 0, ckptValid := false, long := false,
             dip := false, ckpt := [] }
    clk := { phase := 0, xstart := 0, checks := 0, iosc := true, xtal := false, mpll := false, seen := 0, locks := 0,
             xtalFail := false, xtalLost := false, lost := 0, aclk := false, mclk := false, tclk := 0, hclkS := 0,
             hclk := ⟨0, 0⟩, pend := [], dead := false, cutS := false, gates := 2 ^ 40 - 1, fcnt := 0x1000C350, busy := false,
             done := false, timeout := false, count := 0, bistKind := 3, bistTwin := false, sharedResult := 0,
             sharedSig := 0 }
    mgt := { meas := [(0, Config.bootRomDigest)], minSvn := Config.minSvn, credLock := Config.credLock, creds := [],
             sessions := [], nextSession := 0, flash := [], flashBusy := .none, log := [], written := 0,
             mirrored := 0, lost := 0, lostNew := 0, pages := 0, sensors := [], limits := [] }
    coh := { predOn := true, parts := [], domains := [], dir := [], nextAge := 0, nextTrans := 0, lines := [], full := [],
             groups := [], nextGroup := 0, serving := [], stalePut := 0, deferred := 0, timeouts := 0, proto := 0,
             poisoned := 0, evictions := 0, deadAgent := 65535, deadCount := 0, deadStamp := noStamp, dead := [], back := [],
             sweep := .none, drops := 0 }
    fab := { phase := 0, detached := false, isRoot := false, root := 0, device := 0, diameter := 0, conflict := false,
             skew := false, idCtl := 0, ctl := 0x0001E84800000002, skewMax := 0, skewNow := 0, skewTicks := 0, quiet := 0,
             length := 0, best := Config.serial.toNat, dist := 0, parent := .none, missed := 0, startIn := .none, steady := 0,
             joining := false, nodes := [], map := [], links := [], routes := [], paths := [], rx := [], held := [],
             grants := [], have_ := [], groups := [], colls := [], early := [], earlyCtl := [], reads := [], writes := [],
             bypass := [], nextTag := 0,
             invals := [], served := [], invTick := 0, invRest := [], global := .none, snapStamp := noStamp, bad := 0,
             stall := 0, late := 0, gap := 0, repins := 0 }
    mem := { bytes := [], poison := [] }
    sels := []
    out := []
    freeCtr := 0 }

/-- Reasons to stop with a fault. The block has none that the manual describes: an illegal value is answered with a
code and leaves the state unchanged (R21). -/
inductive Fault where
  /-- Raised by nothing: no command of the block stops it. Safe. -/
  | none
  deriving DecidableEq, Repr

/-- Reasons to refuse a command. -/
inductive Refusal where
  /-- The dispatcher, for a command whose meaning is not written yet. Safe: the model stops where the block goes
  on. -/
  | notModelled (mnemonic : String)
  deriving DecidableEq, Repr

end Sys2Proof.Machine
end

