-- ==== Sys2Proof/Machine/Ops.lean ====
section
/-! DEFINITION. The named operations over the state: sparse tables, device memory and its poison marks, the homes of
every register and object, the order point's stamps, generations, and what goes out. -/

namespace Sys2Proof

/-- The entry of a table at a key, when one is listed. -/
def Tbl.find {α : Type} : Tbl α → Nat → Option α
  | [], _ => none
  | (k, v) :: t, i => if i = k then some v else if i < k then none else Tbl.find t i

/-- The value of a table at a key: `d` where none is listed. -/
def Tbl.get {α : Type} (d : α) (t : Tbl α) (i : Nat) : α := (Tbl.find t i).getD d

/-- The table with the key's entry written. -/
def Tbl.put {α : Type} : Tbl α → Nat → α → Tbl α
  | [], i, v => [(i, v)]
  | (k, w) :: t, i, v => if i = k then (k, v) :: t else if i < k then (i, v) :: (k, w) :: t else (k, w) :: Tbl.put t i v

/-- The table without the key's entry. -/
def Tbl.del {α : Type} : Tbl α → Nat → Tbl α
  | [], _ => []
  | (k, w) :: t, i => if i = k then t else if i < k then (k, w) :: t else (k, w) :: Tbl.del t i

/-- The table with a value at a key; the default's entry is removed, so that equal tables are equal data. -/
def Tbl.set {α : Type} [DecidableEq α] (d : α) (t : Tbl α) (i : Nat) (v : α) : Tbl α :=
  if v = d then Tbl.del t i else Tbl.put t i v

/-- Every listed value changed alike. -/
def Tbl.mapVal {α β : Type} (f : Nat → α → β) (t : Tbl α) : Tbl β := t.map fun (k, v) => (k, f k v)

/-- Keys rise strictly and no entry equals the default. -/
def Tbl.wf {α : Type} [DecidableEq α] (d : α) : Tbl α → Bool
  | [] => true
  | [(_, v)] => decide (v ≠ d)
  | (k, v) :: (k', v') :: t => decide (v ≠ d) && decide (k < k') && Tbl.wf d ((k', v') :: t)

/-- A sorted list of numbers with one more. -/
def insertNat (i : Nat) : List Nat → List Nat
  | [] => [i]
  | k :: t => if i = k then k :: t else if i < k then i :: k :: t else k :: insertNat i t

/-- Add, and stay at the ceiling (R9: counts that saturate). -/
def satAdd (ceiling a b : Nat) : Nat := min ceiling (a + b)

/-- A bit of a number as 0 or 1. -/
def bit (b : Bool) : Nat := if b then 1 else 0

namespace Machine

/-! ### Device memory -/

/-- What a byte of device memory that nothing has written reads as: zero (DESIGN CHOICE, log entry 4). -/
def Mem.unwritten : Byte := 0

/-- One byte of device memory. -/
def Mem.read (m : Mem) (a : Nat) : Byte := Tbl.get Mem.unwritten m.bytes a

/-- `n` bytes of device memory from an address. -/
def Mem.readN (m : Mem) (a : Nat) : Nat → List Byte
  | 0 => []
  | n + 1 => m.read a :: m.readN (a + 1) n

/-- Device memory with one byte written; its poison mark stays. -/
def Mem.write (m : Mem) (a : Nat) (b : Byte) : Mem := { m with bytes := Tbl.set Mem.unwritten m.bytes a b }

/-- Device memory with bytes written from an address up. -/
def Mem.writeN (m : Mem) (a : Nat) : List Byte → Mem
  | [] => m
  | b :: t => (m.write a b).writeN (a + 1) t

/-- The 32-byte word of an address bears the poison mark (R97, R351). -/
def Mem.poisoned (m : Mem) (a : Nat) : Bool := m.poison.contains (a / 32)

/-- Some 32-byte word of the range bears the mark. -/
def Mem.anyPoison (m : Mem) (a n : Nat) : Bool :=
  m.poison.any fun w => decide (a < 32 * w + 32) && decide (32 * w < a + n)

/-- Mark every 32-byte word that the range touches. -/
def Mem.mark (m : Mem) (a n : Nat) : Mem :=
  { m with poison := (List.range ((a + n + 31) / 32 - a / 32)).foldl (fun p i => insertNat (a / 32 + i) p) m.poison }

/-- Clear the mark of every 32-byte word that the range covers whole (R351: a whole clean write clears it). -/
def Mem.clean (m : Mem) (a n : Nat) : Mem :=
  { m with poison := m.poison.filter fun w => !(decide (a ≤ 32 * w) && decide (32 * w + 32 ≤ a + n)) }

/-- A write of data that is clean or poisoned as one whole: the marks follow R97 and R351. -/
def Mem.store (m : Mem) (a : Nat) (d : List Byte) (poison : Bool) : Mem :=
  if poison then (m.writeN a d).mark a d.length else (m.writeN a d).clean a d.length

/-- The canonical form of device memory: byte addresses rise strictly, no byte equals what an unlisted address
reads as, and the marks rise strictly. -/
def Mem.wf (m : Mem) : Bool := Tbl.wf Mem.unwritten m.bytes && decide (m.poison.Pairwise (· < ·))

/-- Where the object tables begin: the top 256 MiB (R120, R147). -/
def tableBase : Nat := Config.deviceMemory - 2 ^ 28

/-- The number that bytes spell, the first the least significant (R8). -/
def leNat : List Byte → Nat
  | [] => 0
  | b :: t => b.toNat + 256 * leNat t

/-- A number as `n` bytes, the least significant first. -/
def leBytes : Nat → Nat → List Byte
  | 0, _ => []
  | n + 1, v => BitVec.ofNat 8 v :: leBytes n (v / 256)

/-- An 8-byte word of device memory. -/
def Mem.word (m : Mem) (a : Nat) : Nat := leNat (m.readN a 8)

/-! ### Bits -/

/-- Bits hi:lo of a number (R6). -/
def bits (v hi lo : Nat) : Nat := v / 2 ^ lo % 2 ^ (hi + 1 - lo)

/-- Bit n of a number. -/
def tst (v n : Nat) : Bool := v.testBit n

/-- A number with bit n set or cleared. -/
def setBit (v n : Nat) (b : Bool) : Nat := v - bit (v.testBit n) * 2 ^ n + bit b * 2 ^ n

/-- A value placed at bit lo. -/
def fld (v lo : Nat) : Nat := v * 2 ^ lo

/-- A word from a number. -/
def w64 (n : Nat) : Word := BitVec.ofNat 64 n

/-! ### The homes of the state -/

def State.twin (s : State) (t : Side) : Twin := s.twins.get t
def State.setTwin (s : State) (t : Side) (v : Twin) : State := { s with twins := s.twins.set t v }
def State.modTwin (s : State) (t : Side) (f : Twin → Twin) : State := s.setTwin t (f (s.twin t))
def State.port (s : State) (p : Side) : Port := s.ports.get p
def State.setPort (s : State) (p : Side) (v : Port) : State := { s with ports := s.ports.set p v }
def State.modPort (s : State) (p : Side) (f : Port → Port) : State := s.setPort p (f (s.port p))
def State.ctx (s : State) (n : Nat) : Ctx := Tbl.get Ctx.none s.ctxs n
def State.setCtx (s : State) (n : Nat) (v : Ctx) : State := { s with ctxs := Tbl.set Ctx.none s.ctxs n v }
def State.modCtx (s : State) (n : Nat) (f : Ctx → Ctx) : State := s.setCtx n (f (s.ctx n))
def State.queue (s : State) (n : Nat) : Queue := Tbl.get Queue.none s.queues n
def State.setQueue (s : State) (n : Nat) (v : Queue) : State := { s with queues := Tbl.set Queue.none s.queues n v }
/-- Every context, fence, object, function or queue changed alike. -/
def State.mapCtxs (s : State) (f : Nat → Ctx → Ctx) : State := { s with ctxs := Tbl.mapVal f s.ctxs }
def State.mapFences (s : State) (f : Nat → Fence → Fence) : State := { s with fences := Tbl.mapVal f s.fences }
def State.mapObjs (s : State) (f : Nat → Obj → Obj) : State := { s with objs := Tbl.mapVal f s.objs }
def State.mapFuncs (s : State) (f : Nat → Func → Func) : State := { s with funcs := Tbl.mapVal f s.funcs }
/-- The functions that a test keeps; the others are as after reset. -/
def State.keepFuncs (s : State) (f : Nat × Func → Bool) : State := { s with funcs := s.funcs.filter f }
def State.mapQueues (s : State) (f : Nat → Queue → Queue) : State := { s with queues := Tbl.mapVal f s.queues }
def State.modQueue (s : State) (n : Nat) (f : Queue → Queue) : State := s.setQueue n (f (s.queue n))
def State.fence (s : State) (n : Nat) : Fence := Tbl.get Fence.none s.fences n
def State.setFence (s : State) (n : Nat) (v : Fence) : State := { s with fences := Tbl.set Fence.none s.fences n v }
def State.modFence (s : State) (n : Nat) (f : Fence → Fence) : State := s.setFence n (f (s.fence n))
def State.obj (s : State) (n : Nat) : Obj := Tbl.get Obj.none s.objs n
def State.setObj (s : State) (n : Nat) (v : Obj) : State := { s with objs := Tbl.set Obj.none s.objs n v }
def State.modObj (s : State) (n : Nat) (f : Obj → Obj) : State := s.setObj n (f (s.obj n))

/-- Where a function of a port stands in the table. -/
def funcKey (p : Side) (f : Nat) : Nat := 128 * p.num + f
def State.func (s : State) (p : Side) (f : Nat) : Func := Tbl.get Func.reset s.funcs (funcKey p f)
def State.setFunc (s : State) (p : Side) (f : Nat) (v : Func) : State :=
  { s with funcs := Tbl.set Func.reset s.funcs (funcKey p f) v }
def State.modFunc (s : State) (p : Side) (f : Nat) (g : Func → Func) : State := s.setFunc p f (g (s.func p f))

/-- Where a vector of a function stands in the table; kept once per device (R399). -/
def vecKey (f v : Nat) : Nat := 2048 * f + v
def State.vec (s : State) (f v : Nat) : Vec := Tbl.get Vec.reset s.irq.vecs (vecKey f v)
def State.setVec (s : State) (f v : Nat) (x : Vec) : State :=
  { s with irq := { s.irq with vecs := Tbl.set Vec.reset s.irq.vecs (vecKey f v) x } }
def State.modVec (s : State) (f v : Nat) (g : Vec → Vec) : State := s.setVec f v (g (s.vec f v))
def State.slot (s : State) (n : Nat) : PlanSlot := Tbl.get PlanSlot.none s.plan.slots n
def State.setSlot (s : State) (n : Nat) (v : PlanSlot) : State :=
  { s with plan := { s.plan with slots := Tbl.set PlanSlot.none s.plan.slots n v } }
def State.modSlot (s : State) (n : Nat) (f : PlanSlot → PlanSlot) : State := s.setSlot n (f (s.slot n))
def State.engine (s : State) (n : Nat) : Engine := Tbl.get Engine.reset s.engines n
def State.modEngine (s : State) (n : Nat) (f : Engine → Engine) : State :=
  { s with engines := Tbl.set Engine.reset s.engines n (f (s.engine n)) }
/-- Every engine changed. -/
def State.mapEngines (s : State) (g : Engine → Engine) : State := { s with engines := s.engines.map fun (n, e) => (n, g e) }
def State.cd (s : State) (n : Nat) : Cd := Tbl.get Cd.reset s.rst.cds n
def State.modCd (s : State) (n : Nat) (f : Cd → Cd) : State :=
  { s with rst := { s.rst with cds := Tbl.set Cd.reset s.rst.cds n (f (s.cd n)) } }
def State.gen (s : State) (n : Nat) : Nat := Tbl.get 0 s.rst.gens n
/-- A reset domain's generation advances by one, modulo 256 (R43). -/
def State.advanceGen (s : State) (n : Nat) : State :=
  { s with rst := { s.rst with gens := Tbl.set 0 s.rst.gens n ((s.gen n + 1) % 256) } }
def State.modPlan (s : State) (f : Plan → Plan) : State := { s with plan := f s.plan }
def State.modXlt (s : State) (f : Xlt → Xlt) : State := { s with xlt := f s.xlt }
def State.modClk (s : State) (f : Clk → Clk) : State := { s with clk := f s.clk }
def State.modRst (s : State) (f : Rst → Rst) : State := { s with rst := f s.rst }
def State.modMgt (s : State) (f : Mgt → Mgt) : State := { s with mgt := f s.mgt }
def State.modIrq (s : State) (f : Irq → Irq) : State := { s with irq := f s.irq }
def State.modTime (s : State) (f : Time → Time) : State := { s with time := f s.time }
def State.setMem (s : State) (m : Mem) : State := { s with mem := m }
def State.emit (s : State) (o : Out) : State := { s with out := s.out ++ [o] }
def State.emits (s : State) (l : List Out) : State := { s with out := s.out ++ l }

/-- A free value of the model's environment below a bound, and the state with the next one's number. -/
def State.free (s : State) (bound : Nat) : Nat × State :=
  (if bound = 0 then 0 else Config.freeNat s.freeCtr % bound, { s with freeCtr := s.freeCtr + 1 })

/-- `n` bytes that the manual leaves undefined. -/
def State.freeBytes (s : State) (n : Nat) : List Byte × State :=
  ((List.range n).map fun i => Config.freeByte (s.freeCtr + i), { s with freeCtr := s.freeCtr + n })

/-! ### Twins in service -/

/-- A twin is LEAD or ACTIVE. -/
def TwinState.serves : TwinState → Bool
  | .lead | .active => true
  | _ => false

/-- A twin still carries traffic: LEAD, ACTIVE or DETACHING. -/
def TwinState.carries : TwinState → Bool
  | .lead | .active | .detaching => true
  | _ => false

/-- The code of R435. -/
def TwinState.code : TwinState → Nat
  | .lead => 0 | .active => 1 | .detaching => 2 | .detached => 3 | .outOfService => 4

def State.serves (s : State) (t : Side) : Bool := (s.twin t).state.serves
def State.carries (s : State) (t : Side) : Bool := (s.twin t).state.carries

/-- A twin's front end and port go on: it carries traffic, is not in its safe state and has its clock (R427, R480). -/
def State.awake (s : State) (t : Side) : Bool :=
  s.carries t && !(s.twin t).col.safe && (s.twin t).fail ≠ some .clock && !s.clk.dead

/-- A twin works: it goes on, and work is not held (R446). -/
def State.acts (s : State) (t : Side) : Bool := s.awake t && !s.rst.held

/-- The twin whose order point stamps: the LEAD, or one that led and is DETACHING. -/
def State.leads (s : State) (t : Side) : Bool :=
  (s.twin t).state = .lead || ((s.twin t).state = .detaching && (s.twin t).prior = .lead)

/-- Twin B leads (LEAD of HX_CMD_STAMP_STATE). -/
def State.leadB (s : State) : Bool := s.leads .b

/-- The lead twin, when there is one. -/
def State.lead (s : State) : Option Side :=
  if s.leads .a then some .a else if s.leads .b then some .b else none

/-- A twin that is LEAD or ACTIVE exists (R52). -/
def State.anyService (s : State) : Bool := s.carries .a || s.carries .b

/-! ### Stamps (R34 to R37, R56) -/

/-- The order point can stamp: a twin leads and the tick's count is not used up. With no lead twin nothing is
stamped, and what happens carries all ones (DEDUCED, log entry 6). -/
def State.canStamp (s : State) : Bool := s.lead.isNone || decide (s.time.seq < 65535)

/-- The next stamp and the state after it. -/
def State.stamp (s : State) : Nat × State :=
  if s.lead.isNone then (noStamp, s)
  else
    let v := s.time.tick * 65536 + s.time.seq
    (v, { s with time := { s.time with seq := s.time.seq + 1, last := v } })

/-- `n` more stamps of the running tick are left. -/
def State.stampsLeft (s : State) (n : Nat) : Bool := s.lead.isNone || decide (s.time.seq + n ≤ 65535)

/-- An event that finds the tick's count used up waits unstamped for the next tick (R36). -/
def State.carry (s : State) (c : Instr) : State :=
  { s with time := { s.time with carry := true, carried := s.time.carried ++ [c] } }

/-- The same for an event that may be waiting already. -/
def State.carryOnce (s : State) (c : Instr) : State := if s.time.carried.contains c then s else s.carry c

/-- Do a stamped event's effect, or carry the event. -/
def State.stamped (s : State) (c : Instr) (k : Nat → State → State) : State :=
  if s.canStamp then k s.stamp.1 s.stamp.2 else s.carry c

/-- The stamp of the boundary event of the tick that runs (R59). -/
def State.boundaryStamp (s : State) : Nat := s.time.bstamp

/-- The microsecond of an event `us` microseconds into the tick. -/
def State.at (s : State) (us : Nat) : Nat := s.time.us + us

/-- Ticks from one tick number to a later one; the number wraps at 2^48 (R38). -/
def ticksSince (now past : Nat) : Nat := (now + 2 ^ 48 - past) % 2 ^ 48

/-! ### Periods (R53) -/

/-- Microseconds of a period code. -/
def periodUs (p : Nat) : Nat := 2 ^ (p + 1)

/-- Slot units of a copy engine per tick. -/
def engineCap (p : Nat) : Nat := 100 * 2 ^ p

/-- Slot units of an outbound fabric link per tick. -/
def linkCap (p : Nat) : Nat :=
  match p with
  | 0 => 93 | 1 => 187 | 2 => 375 | 3 => 750 | _ => 1500

/-- Slot units of a host port per tick and direction in its present mode. -/
def portFigure (p : Nat) (cxl : Bool) : Nat := (if cxl then 55 else 110) * 2 ^ p

/-- Slot units of a twin's on-chip network ports per tick. -/
def nocCap (p : Nat) : Nat := 1200 * 2 ^ p

/-- Commands of a front end per tick. -/
def frontCap (p : Nat) : Nat := 256 * 2 ^ p

/-- Ticks of a throttle epoch. -/
def epochTicks (p : Nat) : Nat :=
  match p with
  | 0 => 500 | 1 => 250 | 2 => 125 | 3 => 63 | _ => 32

/-! ### Error codes (R22) -/

namespace E

def ok : Nat := 0x0000
def badOpcode : Nat := 0x0101
def badField : Nat := 0x0102
def badLength : Nat := 0x0103
def badHandle : Nat := 0x0104
def objectRetiring : Nat := 0x0201
def contextDead : Nat := 0x0202
def queueParked : Nat := 0x0203
def tornSlot : Nat := 0x0204
def xltFault : Nat := 0x0301
def xltPerm : Nat := 0x0302
def atsFailed : Nat := 0x0303
def scopeMismatch : Nat := 0x0401
def fenceBroken : Nat := 0x0402
def replayRefused : Nat := 0x0403
def planNotStaged : Nat := 0x0404
def noAllotment : Nat := 0x0405
def linkLost : Nat := 0x0501
def peerDenied : Nat := 0x0502
def poisoned : Nat := 0x0503
def hostLost : Nat := 0x0504
def notAuthorised : Nat := 0x0601
def locked : Nat := 0x0602
def gateBusy : Nat := 0x0701
def sourceNotReady : Nat := 0x0702
def aborted : Nat := 0x0F01
def outOfService : Nat := 0x0F02

end E

end Machine
end Sys2Proof
end

