-- ==== Sys2Proof/Machine/Operands.lean ====
section
/-! DEFINITION. The operands of a command packet: the fields of its record, and the checks of R172 that need nothing
but the record. -/

namespace Sys2Proof.Machine

/-- A little-endian field of `n` bytes of a record. -/
def rd (b : List Byte) (off n : Nat) : Nat := leNat ((b.drop off).take n)

/-! ### The header (R155, R156) -/

def hOpcode (b : List Byte) : Nat := rd b 0 1
def hPhase (b : List Byte) : Bool := tst (rd b 0 8) 8
def hChain (b : List Byte) : Nat := bits (rd b 0 8) 11 9
def hSubop (b : List Byte) : Nat := bits (rd b 0 8) 23 16
def hScope (b : List Byte) : Nat := bits (rd b 0 8) 25 24
def hFenceEn (b : List Byte) : Bool := tst (rd b 0 8) 27
def hIrq (b : List Byte) : Bool := tst (rd b 0 8) 28
def hNoReply (b : List Byte) : Bool := tst (rd b 0 8) 29
def hPred (b : List Byte) : Bool := tst (rd b 0 8) 30
def hFence (b : List Byte) : Nat := rd b 4 4
def hValue (b : List Byte) : Nat := rd b 8 8

/-- P: where the parameters begin (R156). -/
def pOff (b : List Byte) : Nat := if hPred b then 32 else 16

/-- The 8-byte parameter word at P + off. -/
def pw (b : List Byte) (off : Nat) : Nat := rd b (pOff b + off) 8

/-- The 4-byte parameter word at P + off. -/
def ph (b : List Byte) (off : Nat) : Nat := rd b (pOff b + off) 4

/-- A parameter field of a word. -/
def pf (b : List Byte) (off hi lo : Nat) : Nat := bits (pw b off) hi lo

/-! ### Opcodes (R162) -/

namespace Op

def nop : Nat := 0x00
def fenceSignal : Nat := 0x01
def fenceWait : Nat := 0x02
def writeInline : Nat := 0x03
def barrier : Nat := 0x04
def copy : Nat := 0x08
def copy2d : Nat := 0x09
def gather : Nat := 0x0A
def scatter : Nat := 0x0B
def fill : Nat := 0x0C
def quantize : Nat := 0x10
def dequantize : Nat := 0x11
def accumulate : Nat := 0x12
def compact : Nat := 0x13
def expand : Nat := 0x14
def dispatch : Nat := 0x18
def combine : Nat := 0x19
def collective : Nat := 0x20
def map : Nat := 0x28
def unmap : Nat := 0x29
def invalidate : Nat := 0x2A
def launch : Nat := 0x30
def contextCtl : Nat := 0x38
def planCtl : Nat := 0x39
def selftest : Nat := 0x3A
def abort : Nat := 0x3F

end Op

/-- Every opcode that is defined. -/
def opcodes : List Nat :=
  [0, 1, 2, 3, 4, 8, 9, 10, 11, 12, 16, 17, 18, 19, 20, 0x18, 0x19, 0x20, 0x28, 0x29, 0x2A, 0x30, 0x38, 0x39, 0x3A, 0x3F]

/-- Opcodes that only the privileged queues accept. -/
def privOnly (op : Nat) : Bool := op = Op.contextCtl || op = Op.planCtl || op = Op.selftest

/-- Opcodes that only ordinary queues accept. -/
def ordinaryOnly (op : Nat) : Bool :=
  op = Op.dispatch || op = Op.combine || op = Op.collective || op = Op.map || op = Op.unmap || op = Op.invalidate ||
    op = Op.launch

/-- The data-movement opcodes of 07. -/
def isMove (op : Nat) : Bool := 8 ≤ op && op ≤ 12

/-- The transform opcodes of 08 that move units under 07's rules. -/
def isTransform (op : Nat) : Bool := (16 ≤ op && op ≤ 20) || op = Op.dispatch || op = Op.combine

/-- Commands that copy engines serve by units. -/
def isEngine (op : Nat) : Bool := isMove op || isTransform op

/-- The subops of CONTEXT_CTL (R190). -/
def ctlSubops : List Nat :=
  [1, 2, 3, 4, 5, 6, 7, 0x10, 0x11, 0x12, 0x13, 0x14, 0x20, 0x21, 0x30, 0x31, 0x32]

/-- SUBOP is defined for the opcode, or zero (R162, R163, R190, R192). -/
def subopLegal (op sub : Nat) : Bool :=
  if op = Op.collective then decide (1 ≤ sub ∧ sub ≤ 6)
  else if op = Op.contextCtl then ctlSubops.contains sub
  else if op = Op.planCtl then decide (1 ≤ sub ∧ sub ≤ 4)
  else decide (sub = 0)

/-- Start rules (R161, R162): 0 in order, 1 after earlier, 2 at once. -/
def startRule (b : List Byte) : Nat :=
  let op := hOpcode b
  if op = Op.abort then 2
  else if hPred b || op = Op.writeInline || op = Op.barrier || op = Op.map || op = Op.unmap || op = Op.invalidate ||
      op = Op.launch then 1
  else 0

/-! ### The control word (R233) -/

/-- Where CTRL stands, counted from P (R234 to R240, R265, R282, R289, R294, R383). -/
def ctrlOff (op : Nat) : Nat :=
  if op = Op.copy || op = Op.fill then 24
  else if op = Op.copy2d || op = Op.gather || op = Op.scatter then 40
  else if op = Op.dispatch || op = Op.collective then 48
  else 56

structure Ctrl where
  clusters : Nat
  halfIrq : Bool
  halfFence : Bool
  inv : Bool
  barrier : Bool
  skipZero : Bool
  path : Nat
  deriving DecidableEq, Repr

/-- A control word's fields. -/
def Ctrl.ofNat (w : Nat) : Ctrl :=
  { clusters := bits w 55 8, halfIrq := tst w 7, halfFence := tst w 6, inv := tst w 5, barrier := tst w 4,
    skipZero := tst w 3, path := bits w 2 0 }

/-- The combinations of R233 that fail check 6. -/
def ctrlBad (op : Nat) (b : List Byte) (w : Nat) : Bool :=
  let c := Ctrl.ofNat w
  let sc := hScope b
  decide (bits w 63 56 ≠ 0) || decide (c.path > 5) || (op = Op.fill && (c.path = 1 || c.path ≥ 4)) ||
    (c.halfFence && !hFenceEn b) || (c.inv && c.clusters = 0) || (!c.inv && c.clusters ≠ 0) ||
    (c.inv && (c.path = 2 || sc = 0)) || (c.inv && (c.path = 3 || c.path = 5) && decide (sc < 2)) ||
    (c.skipZero && (op = Op.fill || c.path = 1 || c.path = 4 || c.path = 5))

/-! ### Lengths of the parameters (R162, check 5) -/

/-- Parameter bytes that the opcode's length fields require. -/
def paramBytes (b : List Byte) : Nat :=
  let op := hOpcode b
  let sub := hSubop b
  if op = Op.fenceWait then 16
  else if op = Op.writeInline then 16 + pf b 8 8 0
  else if op = Op.copy || op = Op.fill then 32
  else if op = Op.copy2d || op = Op.gather || op = Op.scatter then 48
  else if op = Op.dispatch || op = Op.collective then 56
  else if isTransform op then 64
  else if op = Op.map || op = Op.invalidate then 32
  else if op = Op.unmap then 16
  else if op = Op.launch then 32 + pf b 24 8 0
  else if op = Op.contextCtl then
    if sub = 1 then 24 else if sub = 0x10 then 24 else if sub = 0x20 then 32 else if sub = 0x30 then 24
    else if sub = 0x31 || sub = 0x32 then 16 else 8
  else if op = Op.planCtl then if sub = 1 then 24 else if sub = 2 then 16 else 8
  else if op = Op.selftest then 16
  else if op = Op.abort then 8
  else 0

/-- Every record byte after the last one that the parameters use is zero (R156). -/
def tailZero (b : List Byte) : Bool := (b.drop (pOff b + paramBytes b)).all (· = 0)

/-- Bits hi:lo of a parameter word are zero. -/
def pz (b : List Byte) (off hi lo : Nat) : Bool := pf b off hi lo = 0

/-- Bytes of a page of a size code (R186). -/
def pageSize (c : Nat) : Nat :=
  match c with
  | 0 => 4096 | 1 => 65536 | 2 => 2 ^ 21 | 3 => 2 ^ 30 | _ => 2 ^ 39

/-- A signed field of 40 bits (R235). -/
def signed40 (v : Nat) : Int := if v < 2 ^ 39 then (v : Int) else (v : Int) - 2 ^ 40

/-- The lowest and highest byte (exclusive) of lines with a signed stride. -/
def lineSpan (base : Nat) (stride : Int) (len count : Nat) : Int × Int :=
  let last : Int := base + stride * ((count : Int) - 1)
  (min (base : Int) last, max (base : Int) last + len)

/-- Entry width of a GATHER or SCATTER index list. -/
def idxWidth (b : List Byte) : Nat := if tst (pw b 24) 48 then 8 else 4
def elen (b : List Byte) : Nat := pf b 24 47 32 + 1
def elemCount (b : List Byte) : Nat := pf b 24 31 0

/-- Lines of lengths whose code is HX_E_BAD_LENGTH in check 6, for the opcodes of 05, 07 and 15 (R509). -/
def badLength6 (b : List Byte) : Bool :=
  let op := hOpcode b
  if op = Op.writeInline then
    let l := pf b 8 8 0
    l = 0 || decide (l > if hPred b then 464 else 480)
  else if op = Op.copy then pf b 16 39 0 = 0
  else if op = Op.fill then pf b 8 39 0 = 0
  else if op = Op.copy2d then
    let sl := pf b 16 63 40
    let dl := pf b 24 63 40
    let dc := pf b 32 47 24
    let sc := pf b 32 23 0
    sl = 0 || dl = 0 || dc = 0 || sc = 0 || sl * sc ≠ dl * dc || decide (sl * sc > 2 ^ 40 - 1)
  else if op = Op.gather || op = Op.scatter then elemCount b = 0
  else if op = Op.map then pf b 8 31 0 = 0 || decide (pf b 8 31 0 > 65536)
  else if op = Op.unmap then pf b 8 44 0 = 0
  else if op = Op.invalidate then pf b 8 39 0 = 0
  else if op = Op.launch then
    pf b 16 63 48 = 0 || pf b 16 47 32 = 0 || pf b 16 31 0 = 0 || pf b 24 8 0 % 8 ≠ 0 ||
      decide (pf b 24 8 0 > if hPred b then 448 else 464)
  else if op = Op.contextCtl && hSubop b = 0x20 then pf b 16 24 0 = 0
  else false

/-- ACC of a COMBINE (R294). -/
def combineAcc (b : List Byte) : Bool := tst (pw b 40) 8

/-- Commands whose additions are never made twice (R279). -/
def accumulates (b : List Byte) : Bool := hOpcode b = Op.accumulate || (hOpcode b = Op.combine && combineAcc b)

/-- Reserved and out-of-range fields of CONTEXT_CTL's parameters (R190); DRAIN_TICKS of CLOSE is no length or count (DESIGN CHOICE, log
entry 188). -/
def ctlBad (b : List Byte) : Bool :=
  let sub := hSubop b
  if sub = 1 then
    !(pz b 0 63 48 && pz b 0 31 29) || pf b 0 27 26 = 3 || (pf b 0 18 12 = 0 && pf b 0 24 19 ≠ 0) ||
      !pz b 8 63 20 || !pz b 16 11 0
  else if sub = 5 then !pz b 0 63 14 || pf b 0 13 12 = 0 || pf b 0 13 12 = 3
  else if sub = 6 then
    !(pz b 0 63 48 && pz b 0 31 13) || (tst (pw b 0) 12 != decide (pf b 0 47 32 ≠ 0))
  else if sub = 0x10 then
    !pz b 0 63 48 || decide (pf b 0 36 32 < 8) || decide (pf b 0 36 32 > 16) || !(pz b 8 63 57 && pz b 8 11 0) ||
      !(pz b 16 63 57 && pz b 16 11 0)
  else if sub = 0x12 then !pz b 0 63 27
  else if sub = 0x11 || sub = 0x13 || sub = 0x14 then !pz b 0 63 26
  else if sub = 0x20 then !pz b 0 63 12 || !pz b 8 15 0 || !pz b 16 63 25 || !pz b 24 63 16 || !pz b 24 3 1
  else if sub = 0x21 then !pz b 0 63 34
  else if sub = 0x30 then
    !(pz b 0 63 48 && pz b 0 31 16) || pf b 0 13 12 = 3 || !pz b 16 2 0 || (pf b 0 13 12 = 0 && pw b 16 ≠ 0)
  else if sub = 0x31 || sub = 0x32 then !pz b 0 63 12 || !pz b 8 63 32
  else !pz b 0 63 12

/-- Reserved fields of PLAN_CTL's parameters (R192). -/
def planBad (b : List Byte) : Bool :=
  let sub := hSubop b
  if sub = 1 then !pz b 0 63 2 || !pz b 8 63 22 || pw b 16 % 128 ≠ 0
  else if sub = 2 then !(pz b 0 63 32 && pz b 0 15 4) || (pf b 0 3 2 = 1 && pf b 0 31 16 ≠ 0) || !pz b 8 63 48
  else !pz b 0 63 2

/-- Fields of MAP's parameters (R185, R186). -/
def mapBad (b : List Byte) : Bool :=
  let ty := pf b 8 37 35
  let ps := pf b 8 34 32
  let sz := pageSize ps
  let r := tst (pw b 8) 38
  let w := tst (pw b 8) 39
  let a := tst (pw b 8) 40
  !(pz b 0 63 57 && pz b 0 11 0) || decide (ps > 4) || decide (ty > 3) || !pz b 8 63 43 || tst (pw b 8) 41 ||
    pf b 0 56 0 % sz ≠ 0 || !(r || w || a) || (ty = 3 && (w || a)) ||
    (ty = 0 && (!pz b 16 63 22 || pw b 24 % sz ≠ 0)) ||
    (ty = 1 && (!pz b 16 63 32 || !pz b 16 15 14 || !pz b 24 63 52 || pw b 24 % sz ≠ 0)) ||
    (ty = 2 && (pw b 16 ≠ 0 || pw b 24 % sz ≠ 0)) || (ty = 3 && (pw b 16 ≠ 0 || pw b 24 ≠ 0))

/-- Faults of check 6 whose code is HX_E_BAD_FIELD, for the opcodes of 05, 07 and 15; a WRITE_INLINE that runs past 2^57 is one (DESIGN
CHOICE, log entry 187). -/
def badField6 (b : List Byte) : Bool :=
  let op := hOpcode b
  !tailZero b ||
  (if op = Op.fenceWait then !pz b 8 63 34
  else if op = Op.writeInline then !pz b 0 63 57 || !pz b 8 63 9 || decide (pf b 0 56 0 + pf b 8 8 0 > 2 ^ 57)
  else if op = Op.copy then
    !pz b 0 63 57 || !pz b 8 63 57 || !pz b 16 63 40 || ctrlBad op b (pw b 24) ||
      decide (pf b 0 56 0 + pf b 16 39 0 > 2 ^ 57) || decide (pf b 8 56 0 + pf b 16 39 0 > 2 ^ 57)
  else if op = Op.fill then
    !pz b 0 63 57 || !pz b 8 63 40 || ctrlBad op b (pw b 24) || decide (pf b 0 56 0 + pf b 8 39 0 > 2 ^ 57)
  else if op = Op.copy2d then
    let ss := signed40 (pf b 16 39 0)
    let ds := signed40 (pf b 24 39 0)
    let dl := pf b 24 63 40
    let dc := pf b 32 47 24
    let sp := lineSpan (pf b 0 56 0) ss (pf b 16 63 40) (pf b 32 23 0)
    let dp := lineSpan (pf b 8 56 0) ds dl dc
    !pz b 0 63 57 || !pz b 8 63 57 || !pz b 32 63 48 || ctrlBad op b (pw b 40) || decide (sp.1 < 0) ||
      decide (sp.2 > 2 ^ 57) || decide (dp.1 < 0) || decide (dp.2 > 2 ^ 57) ||
      (decide (dc > 1) && decide (ds.natAbs < dl))
  else if op = Op.gather || op = Op.scatter then
    !pz b 0 63 57 || !pz b 8 63 57 || !pz b 16 63 57 || !pz b 24 63 49 || !pz b 32 63 48 || ctrlBad op b (pw b 40) ||
      decide (pf b 8 56 0 + elemCount b * elen b > 2 ^ 57) ||
      decide (pf b 16 56 0 + elemCount b * idxWidth b > 2 ^ 57)
  else if op = Op.map then mapBad b
  else if op = Op.unmap then !(pz b 0 63 57 && pz b 0 11 0) || !pz b 8 63 45
  else if op = Op.invalidate then
    let cores := tst (pw b 24) 0
    !pz b 0 63 57 || !pz b 8 63 40 || !pz b 16 63 48 || !pz b 24 63 2 || pf b 24 1 0 = 0 ||
      (cores != decide (pf b 16 47 0 ≠ 0))
  else if op = Op.launch then
    !pz b 0 63 57 || !pz b 0 7 0 || !pz b 8 63 48 || pf b 8 47 0 = 0 || !pz b 24 63 9
  else if op = Op.contextCtl then ctlBad b
  else if op = Op.planCtl then planBad b
  else if op = Op.selftest then !pz b 0 63 3 || pf b 0 2 1 = 0 || !pz b 8 63 57 || !pz b 8 3 0
  else if op = Op.abort then !pz b 0 63 14
  else false)

/-- Faults of check 4 that the header alone shows: reserved bits, SUBOP, the flags an opcode allows, FENCE and
SIGNAL_VALUE zero without FENCE_EN, and the opcode's SCOPE (R155, R164, R166, R189, R383). -/
def badHeader4 (b : List Byte) : Bool :=
  let op := hOpcode b
  let w := rd b 0 8
  tst w 31 || tst w 26 || bits w 15 12 ≠ 0 || !subopLegal op (hSubop b) ||
    (hPred b && (privOnly op || op = Op.abort)) || (hFenceEn b && op = Op.abort) ||
    (!hFenceEn b && (op = Op.fenceSignal || hFence b ≠ 0 || hValue b ≠ 0)) ||
    (op = Op.invalidate && hScope b = 0) || (op = Op.collective && decide (hScope b < 2))

/-- Fields of a predicate block (R166) are legal: bits 63:57 of its first word are zero. -/
def badPred6 (b : List Byte) : Bool := hPred b && bits (rd b 16 8) 63 57 ≠ 0

/-- The condition of a predicate (R166) on a word. -/
def predHolds (cond operand w : Nat) : Bool :=
  let s := fun (n : Nat) => if n < 2 ^ 63 then (n : Int) else (n : Int) - 2 ^ 64
  match cond with
  | 0 => decide (w = operand)
  | 1 => decide (w ≠ operand)
  | 2 => decide (w < operand)
  | 3 => decide (w ≥ operand)
  | 4 => decide (s w < s operand)
  | 5 => decide (s w ≥ s operand)
  | 6 => decide (w &&& operand ≠ 0)
  | _ => decide (w &&& operand = 0)

end Sys2Proof.Machine
end

