-- ==== Sys2Proof/Machine/Events.lean ====
section
/-! DEFINITION. What Harson reports: register errors, the event log, events raised at vectors, chip-wide events,
context events, and the fault collectors' captures. -/

namespace Sys2Proof.Machine

/-- The function through whose BAR a path reaches Harson; none for the management controller. -/
def Path.fn : Path → Option (Side × Nat)
  | .bar p f _ => some (p, f.val)
  | .die p => some (p, 0)
  | .mgmt _ => none

/-- The port that a path names. -/
def Path.side : Path → Side
  | .bar p _ _ => p
  | .die p => p
  | .mgmt p => p

/-- The copy of a function's or port's selector fields that a path uses (R495). -/
def Path.copy : Path → Nat
  | .bar p f _ => 128 * p.num + f.val
  | .die p => 256 + p.num
  | .mgmt p => 258 + p.num

/-- The copy of the shared-plane window's selector fields that a path uses (R494, R495). -/
def Path.sharedCopy : Path → Nat
  | .bar p _ _ => 128 * p.num
  | .die _ => 256
  | .mgmt _ => 258

/-- The selectors of a port's functions and of its port block return to their reset values (R148, R227). -/
def State.dropSels (s : State) (p : Side) : State :=
  { s with sels := s.sels.filter fun (k, _) =>
      let c := k / 2 ^ 25
      !(decide (k % 2 ^ 25 < 0x100000) && (decide (c / 128 = p.num) || c = 256 + p.num || c = 258 + p.num)) }

/-- The same for one function's block. -/
def State.dropFnSels (s : State) (p : Side) (f : Nat) : State :=
  { s with sels := s.sels.filter fun (k, _) =>
      let c := k / 2 ^ 25
      !(decide (k % 2 ^ 25 < 0x1000) && (c = 128 * p.num + f || (f = 0 && (c = 256 + p.num || c = 258 + p.num)))) }

/-- The fields at one offset of the shared-plane window return to their reset values, for every path. -/
def State.dropSelsAt (s : State) (offset : Nat) : State := { s with sels := s.sels.filter fun (k, _) => k % 2 ^ 25 ≠ offset }

/-- A rejected or discarded access is counted in HX_FLT_REG_ERR of the function it came through (R449). -/
def State.regErrAt (s : State) (p : Side) (f space offset code : Nat) : State :=
  s.modFunc p f fun v =>
    { v with errCount := satAdd 32767 v.errCount 1, errCode := code, errSpace := space, errOffset := offset % 2 ^ 25 }

/-- The same for a path; an access of the management controller concerns no function (DEDUCED, log entry 7). -/
def State.regErr (s : State) (path : Path) (space offset code : Nat) : State :=
  match Path.fn path with
  | some (p, f) => s.regErrAt p f space offset code
  | none => s

/-- A poisoned write that came through a BAR: AER Poisoned TLP Received of its function (R97). -/
def State.aerPoison (s : State) (path : Path) : State :=
  match path with
  | .bar p f _ => s.modFunc p f.val fun v => { v with poisonedTlp := true }
  | _ => s

/-- A poisoned write into a placement region or an HDM range: the PF reports it as advisory (R97). -/
def State.aerAdvisory (s : State) (p : Side) : State := s.modFunc p 0 fun v => { v with poisonedTlp := true, advisory := true }

/-! ### The event log (R467, R468) -/

/-- A record's second word. -/
def logWord (type code : Nat) (ctx : Option Nat) (sev : Nat) : Word :=
  w64 (fld type 48 + fld code 32 + (match ctx with | some c => fld c 20 + fld 1 19 | none => 0) + fld sev 16)

/-- A record enters the log; one that overwrites a record not yet mirrored is counted lost. -/
def State.log (s : State) (stamp type code : Nat) (ctx : Option Nat) (sev d0 d1 : Nat) : State :=
  s.modMgt fun m =>
    let full := decide (m.written ≥ m.mirrored + 8192)
    { m with
      log := Tbl.put m.log (m.written % 8192) (w64 stamp, logWord type code ctx sev, w64 d0, w64 d1)
      written := m.written + 1
      mirrored := if full then m.mirrored + 1 else m.mirrored
      lost := if full then satAdd 65535 m.lost 1 else m.lost
      lostNew := if full then m.lostNew + 1 else m.lostNew }

/-! ### Events at vectors (R398, R399) -/

/-- An event is raised at a vector; EVENT_RAISED takes it there. -/
def State.raise (s : State) (f v : Nat) (o : Origin) : State :=
  s.modIrq fun i => { i with raised := i.raised ++ [(f, v, o)] }

/-- A queue's event goes to its VECTOR, a privileged queue's to PRIV_VEC of its port's PF (R398). -/
def State.raiseQueue (s : State) (q : Nat) : State :=
  let x := s.queue q
  let c := s.ctx x.ctx
  if x.priv then s.raise 0 (s.func c.port 0).privVec (.ctx x.ctx) else s.raise c.func x.vector (.ctx x.ctx)

/-- A chip-wide event: its sticky bit, one event for each distinct ERR_VEC of the two PFs, a log record (R398, R399,
R419, R467). -/
def State.chip (s : State) (n detail : Nat) : State :=
  let v0 := (s.func .a 0).errVec
  let v1 := (s.func .b 0).errVec
  let s := s.modRst fun r => { r with chip := setBit r.chip n true }
  let s := s.log s.time.last 1 0 none (if n = 7 || n = 10 then 2 else 1) n detail
  if v0 = v1 then s.raise 0 v0 .chip else (s.raise 0 v0 (.port .a)).raise 0 v1 (.port .b)

/-- An event of a context in its function's HX_FLT_CTX_EVENT, and the function's ERR_VEC (R420, R449). -/
def State.ctxReport (s : State) (slot kind code stamp : Nat) : State :=
  let c := s.ctx slot
  let who := if c.func = 0 then slot else c.loc
  let s := s.modFunc c.port c.func fun f =>
    { f with ctxEvent := w64 (fld code 48 + fld kind 40 + fld who 28), ctxStamp := stamp }
  s.raise c.func (s.func c.port c.func).errVec (.ctx slot)

/-! ### Stale generations (R42, R45) -/

def State.staleCtx (s : State) : State := s.modRst fun r => { r with staleCtx := satAdd 4095 r.staleCtx 1 }
def State.staleQueue (s : State) : State := s.modRst fun r => { r with staleQueue := satAdd 4095 r.staleQueue 1 }
def State.stalePasid (s : State) : State := s.modRst fun r => { r with stalePasid := satAdd 4095 r.stalePasid 1 }
def State.stalePath (s : State) : State := s.modRst fun r => { r with stalePath := satAdd 4095 r.stalePath 1 }
def State.staleDomain (s : State) : State := s.modRst fun r => { r with staleDomain := satAdd 4095 r.staleDomain 1 }

/-! ### The fault collectors (R417, R418, R421) -/

/-- START of a source: 0 Record, 1 Contain, 2 Reset (R417). -/
def startOf (src : Nat) : Nat :=
  match src with
  | 0 | 2 => 1
  | 4 | 5 | 7 | 8 | 9 | 10 => 2
  | _ => 0

/-- A collector after an occurrence: captured when FIRST is clear, counted otherwise; a source that is not Record
enters PENDING and arms the timer. -/
def Collector.occur (c : Collector) (src stamp code : Nat) (ctx : Option Nat) (detail : Nat) : Collector :=
  let old := Tbl.get Capture.none c.caps src
  let cap : Capture :=
    if tst c.first src then { old with occur := satAdd 65535 old.occur 1 }
    else { stamp := stamp, code := code, ctx := ctx, occur := 1, detail := detail % 65536 }
  let c := { c with first := setBit c.first src true, caps := Tbl.set Capture.none c.caps src cap }
  if startOf src = 0 then c
  else
    { c with
      pending := setBit c.pending src true
      named := match ctx with | some x => c.named ++ [(src, x, code)] | none => c.named
      armed := c.armed || c.grace.isNone
      quiet := c.quietCfg + 1 }

/-- An occurrence at a twin's collector; one that names no context is TWIN_FAULT (R418, R419). -/
def State.occur (s : State) (t : Side) (src stamp code : Nat) (ctx : Option Nat) (detail : Nat) : State :=
  let s := s.modTwin t fun w => { w with col := w.col.occur src stamp code ctx detail }
  if ctx.isNone then s.chip 10 src else s

/-- An occurrence captured at once, whose stamp comes with the events that wait for the next boundary's stamps (R36). -/
def State.occurLater (s : State) (t : Side) (src : Fin 15) (code : Nat) (ctx : Option Nat) (detail : Nat) : State :=
  (s.occur t src.val noStamp code ctx detail).modTime fun x =>
    { x with carried := x.carried ++ [.faultOccurrence t src ctx code detail] }

/-- An occurrence that is stamped, or captured at once and carried where the tick's count is used up (R34, R36). -/
def State.occurNow (s : State) (t : Side) (src : Fin 15) (code : Nat) (ctx : Option Nat) (detail : Nat) : State :=
  if s.canStamp then s.stamp.2.occur t src.val s.stamp.1 code ctx detail
  else (s.occurLater t src code ctx detail).modTime fun x => { x with carry := true }

/-- A twin changed state: TWIN_CHANGE and a TWIN record (R419, R436, R467). -/
def State.twinChanged (s : State) (t : Side) (old new : TwinState) : State :=
  if old = new then s
  else
    (s.chip 8 t.num).log s.time.last 2 0 none 1 (t.num + fld old.code 1 + fld new.code 4) s.rst.failovers

/-- A twin takes a state. -/
def State.setTwinState (s : State) (t : Side) (new : TwinState) : State :=
  let old := (s.twin t).state
  (s.modTwin t fun w => { w with state := new }).twinChanged t old new

/-! ### Observation (R462) -/

/-- A debug session touches a context: one that is bound to a VF has the observation counted, its stamp kept and a
DEBUG record written. -/
def State.observe (s : State) (slot op stamp : Nat) : State :=
  let c := s.ctx slot
  if c.func = 0 || c.state = .free then s
  else
    let full := decide (c.observed ≥ 2 ^ 32 - 1)
    let n := satAdd (2 ^ 32 - 1) c.observed 1
    (s.setCtx slot { c with observed := n, saturated := c.saturated || full, obsStamp := stamp }).log
      stamp 6 0 (some slot) 0 op n

end Sys2Proof.Machine
end

