-- ==== Sys2Proof/Machine/Irq.lean ====
section
/-! DEFINITION. Interrupts and wake (12): events reaching vectors, moderation, delivery, acknowledgement, INTA, and the
wake watcher. A microsecond operand is the whole microsecond of the tick at which the event takes effect. -/

namespace Sys2Proof.Machine

/-- Time has reached microsecond `us` of the tick. -/
def State.reach (s : State) (us : Nat) : State := s.modTime fun t => { t with now := max t.now (t.us + us) }

/-- The conditions of the MSI-X path on a port (R407, R516); vectors follow a replay that is due (R409). -/
def State.msixReady (s : State) (p : Side) (f v : Nat) : Bool :=
  let fn := s.func p f
  let po := s.port p
  fn.msix && !fn.fmask && !(Tbl.get MsixEntry.reset fn.table v).mask && po.up && po.inService && fn.ready && fn.bme && !fn.flr &&
    !fn.d3 && !po.disable && !po.replayDue

/-- The port through which a vector is delivered (R399). -/
def State.vecPort (s : State) (f v : Nat) : Side :=
  match (s.vec f v).origin with
  | .ctx c => (s.ctx c).port
  | .port p => p
  | .chip => if s.msixReady .a f v then .a else .b

/-- Every (function, vector) with state, in ascending order. -/
def State.vecKeys (s : State) : List (Nat × Nat) := s.irq.vecs.map fun (k, _) => (k / 2048, k % 2048)

/-- A PF vector is a port's: its event came from a context or a unit of the port, or is a chip-wide event that both PFs' ERR_VEC name
(R399). -/
def State.vecOf (s : State) (p : Side) (v : Nat) : Bool := decide ((s.vec 0 v).origin = .chip) || decide (s.vecPort 0 v = p)

/-- The condition of R98 on a port: MSI-X disabled, Interrupt Disable clear, a PF vector of the port pending. -/
def State.intaWanted (s : State) (p : Side) : Bool :=
  let fn := s.func p 0
  !fn.msix && !fn.intDis &&
    s.vecKeys.any fun (f, v) => f = 0 && decide ((s.vec f v).state = .due) && (s.vec f v).route.isNone && s.vecOf p v

/-- INTA of a port follows its condition; the message leaves while the link is up (R98). -/
def State.inta1 (s : State) (p : Side) : State :=
  let w := s.intaWanted p
  if w = (s.port p).inta then s
  else
    let s := s.modPort p fun x => { x with inta := w }
    if (s.port p).up then s.emit (.inta p w) else s

/-- Both ports' INTA follow their conditions. -/
def State.inta (s : State) : State := (s.inta1 .a).inta1 .b

/-- A window opens at a microsecond with the settings in force (R404, R406). -/
def Vec.open (x : Vec) (at_ : Nat) : Vec :=
  { x with state := .waiting, window := some (at_, x.count, if x.adapt then x.delayNow else x.delay), released := none }

/-- The vector becomes DUE at a microsecond; `why` is what released it (R405). -/
def Vec.release (x : Vec) (at_ why : Nat) : Vec :=
  { x with state := .due, window := none, released := some why, dueAt := at_ }

/-- An event reaches a vector (R402). -/
def Vec.event (x : Vec) (at_ : Nat) (o : Origin) : Vec :=
  let y := { x with events := satAdd 16383 x.events 1, origin := o }
  match x.state with
  | .quiet =>
    let y := { y with events := 1 }
    if x.idle then y.release at_ 1 else y.open at_
  | .waiting => if x.idle then y.release at_ 1 else y
  | .due => y
  | .service => y

/-- EVENT_RAISED: the oldest event raised reaches its vector at a microsecond. -/
def eventRaised (us : Nat) (s : State) : State :=
  match s.irq.raised with
  | [] => s
  | (f, v, o) :: t =>
    let s := s.reach us
    ((s.modIrq fun i => { i with raised := t }).modVec f v fun x => x.event s.time.now o).inta

/-- Moderation releases a vector whose window has reached COUNT or D (R404). -/
def Vec.moderate (x : Vec) (now : Nat) : Vec :=
  match x.state, x.window with
  | .waiting, some (o, c, d) =>
    if now < o then x
    else if x.events ≥ c then x.release now 0
    else if now ≥ o + d then x.release now (if x.events = 1 then 1 else 2)
    else x
  | _, _ => x

/-- MODERATION_RELEASE at a vector. -/
def moderationRelease (f v us : Nat) (s : State) : State :=
  let s := s.reach us
  (s.modVec f v fun x => x.moderate s.time.now).inta

/-- A vector that can be delivered at the present microsecond by MSI-X or to a core (R407). -/
def State.deliverable (s : State) (f v : Nat) : Bool :=
  let x := s.vec f v
  decide (x.state = .due) && decide (x.dueAt ≤ s.time.now) && (x.route.isSome || s.msixReady (s.vecPort f v) f v)

/-- The vector after a delivery (R402, R403, R405). -/
def Vec.delivered (x : Vec) : Vec :=
  let d :=
    if !x.adapt then x.delayNow
    else
      match x.released with
      | some 0 => min (max (2 * x.delayNow) 1) x.delay
      | some 1 => x.delayNow / 2
      | _ => x.delayNow
  { x with state := if x.autoAck then .quiet else .service, events := 0, idle := false, delayNow := d, released := none }

/-- One delivery, stamped by the order point. -/
def State.deliver (s : State) (f v : Nat) : State :=
  let x := s.vec f v
  let p := s.vecPort f v
  let s := s.stamp.2
  let s :=
    match x.route with
    | some (core, id) => s.emit (.emb core id)
    | none =>
      let e := Tbl.get MsixEntry.reset (s.func p f).table v
      (s.emit (.msix p f v e.addr e.data)).modPort p fun po => { po with sent := po.sent ++ [(f, v)] }
  ((s.setVec f v x.delivered).modIrq fun i => { i with delivered := i.delivered ++ [(f, v)] }).inta

/-- VECTOR_DELIVERY: the vector is delivered when it can be and no vector before it can (R407: ascending order of
function, then of vector). A twin must be in service to deliver by MSI-X. -/
def vectorDelivery (c : Instr) (f v us : Nat) (s : State) : State :=
  let s := s.reach us
  if s.deliverable f v &&
      !(s.vecKeys.any fun (g, w) => decide (vecKey g w < vecKey f v) && s.deliverable g w) then
    if s.canStamp then s.deliver f v else s.carry c
  else s

/-- Vectors of a function (R84). -/
def vecCount (f : Nat) : Nat := if f = 0 then 2048 else 64

/-- ACK and IDLE written at a vector (R402, R403). -/
def Vec.ack (x : Vec) (ack idle : Bool) (now : Nat) : Vec :=
  let y :=
    if !ack then x
    else
      match x.state with
      | .quiet => x
      | .waiting | .due => { x with state := .quiet, events := 0, window := none, released := none }
      | .service => if x.events = 0 then { x with state := .quiet } else x.open now
  if !idle then y
  else
    let y := { y with idle := true }
    if y.state = .waiting then y.release now 1 else y

/-- A write of HX_IRQ_ACK that is legal. -/
def irqAck (f : Nat) (value : Nat) (s : State) : State :=
  let v := bits value 10 0
  (s.modVec f v fun x => x.ack (tst value 63) (tst value 62) s.time.now).inta

/-- Settings of a vector written (R405, R406). -/
def Vec.settings (x : Vec) (value : Nat) : Vec :=
  let ad := tst value 19
  let dl := bits value 9 0
  { x with
    autoAck := tst value 20, adapt := ad, count := bits value 17 10, delay := dl, delayNow := 0 }

/-- A vector becomes QUIET (R409). -/
def Vec.quieten (x : Vec) : Vec :=
  { x with state := .quiet, events := 0, idle := false, delayNow := 0, window := none, released := none }

/-- Vectors held DUE by DISABLE on a port (R415). -/
def State.heldBy (s : State) (p : Side) : Nat :=
  if !(s.port p).disable then 0
  else
    min 65535 (s.vecKeys.countP fun (f, v) =>
      decide ((s.vec f v).state = .due) && (s.vec f v).route.isNone && decide (s.vecPort f v = p) && (s.func p f).msix)

/-- The vectors that carry the queue events of a set of contexts (R398). -/
def State.vecsOf (s : State) (slots : List Nat) : List Nat :=
  (s.queues.filterMap fun (_, q) =>
    if !q.live || !slots.contains q.ctx then none
    else
      let c := s.ctx q.ctx
      some (if q.priv then vecKey 0 (s.func c.port 0).privVec else vecKey c.func q.vector)).eraseDups

/-- The adaptive delay of every vector that carries a context's events, those of its queues and of its own at ERR_VEC, returns to 0
(R398, R405). -/
def State.forgetDelay (s : State) (slot : Nat) : State :=
  let c := s.ctx slot
  (vecKey c.func (s.func c.port c.func).errVec :: s.vecsOf [slot]).foldl
    (fun s k => s.modVec (k / 2048) (k % 2048) fun x => { x with delayNow := 0 }) s

/-! ### Wake (R411 to R413) -/

/-- The first of a twin's five gates (R481). -/
def gateBase (t : Side) : Nat := 27 + 5 * t.num

/-- A twin's gates turned on or off together (R483). -/
def State.twinGates (s : State) (t : Side) (on : Bool) : State :=
  s.modClk fun c => { c with gates := (List.range 5).foldl (fun g i => setBit g (gateBase t + i) on) c.gates }

/-- A twin in standby is woken (R412). -/
def State.wakeTwin (s : State) (t : Side) : State :=
  if (s.twin t).standby then (s.modTwin t fun w => { w with standby := false }).twinGates t true else s

end Sys2Proof.Machine
end

