-- ==== Sys2Proof/Machine/HostOps.lean ====
section
/-! DEFINITION. Requests to the host: when a port may issue them, the journal, and the tags of non-posted requests
(R41, R42, R94, R100, R108). -/

namespace Sys2Proof.Machine

/-- A journal's capacity in bytes. -/
def journalSize : Nat := 8 * 2 ^ 20

/-- Bytes that entries occupy: payload plus 32 each (R108). -/
def journalUsed (l : List JEntry) : Nat := l.foldl (fun n e => n + e.data.length + 32) 0

/-- A function may issue requests, as far as the function shows (R90, R100 to R102). -/
def State.fnIssues (s : State) (p : Side) (f : Nat) : Bool :=
  let fn := s.func p f
  fn.ready && fn.bme && !fn.silenced && !fn.flr && !fn.d3 && (f = 0 || (s.port p).vfEnable)

/-- Harson may issue requests of a function on a port (R90, R100 to R102). -/
def State.canIssue (s : State) (p : Side) (f : Nat) : Bool :=
  let po := s.port p
  po.up && po.inService && s.awake p && !po.replayDue && po.lost.isNone && s.fnIssues p f

/-- A function is usable on a port (R90). -/
def State.usable (s : State) (p : Side) (f : Nat) : Bool :=
  (s.func p f).bme && (f = 0 || (s.port p).vfEnable) && (s.port p).up

/-- Space in the port's journal for `n` more bytes. -/
def State.room (s : State) (p : Side) (n : Nat) : Bool := decide (journalUsed (s.port p).journal + n ≤ journalSize)

/-- Entries leave a port's journal, and the space they took is free. -/
def State.dropEntries (s : State) (p : Side) (t : JEntry → Bool) : State :=
  s.modPort p fun x =>
    { x with journal := x.journal.filter fun e => !t e, jhead := (x.jhead + journalUsed (x.journal.filter t)) % journalSize }

/-- A reservation waits for space (R108). -/
def State.noRoom (s : State) (p : Side) : State := s.modPort p fun x => { x with full := true }

/-- Relaxed Ordering of a journalled request (R94). -/
def jRelaxed (k : JKind) : Bool :=
  match k with
  | .slice => true
  | _ => false

/-- The largest payload of a write on a port: Max_Payload_Size, of the 512 bytes that Harson supports (R84). -/
def State.payload (s : State) (p : Side) : Nat := max 1 (min 512 (s.func p 0).mps)

/-- The spans of `n` bytes in requests of a size: offset and length. -/
def spans (size n : Nat) : List (Nat × Nat) :=
  (List.range ((n + size - 1) / size)).map fun i => (size * i, min size (n - size * i))

/-- A journalled write leaves on a port. -/
def State.hostWrite (s : State) (p : Side) (pasid : Option Nat) (e : JEntry) : State :=
  let po := s.port p
  let e := { e with seq := po.jseq, ro := jRelaxed e.kind && (s.func p e.func).ro, pasid := pasid }
  let s := s.setPort p
    { po with
      journal := po.journal ++ [e], jseq := po.jseq + 1, jtail := (po.jtail + e.data.length + 32) % journalSize }
  s.emit (.hostWrite p e.func pasid e.addr e.data e.ro e.poison)

/-- A non-posted request takes the next tag of the port; the generations it carries are kept with it (R41). -/
def State.request (s : State) (p : Side) (k : ReqKind) (ctx queue : Nat) (page : Option Nat) : Nat × State :=
  let po := s.port p
  let r : Req :=
    { tag := po.nextTag, kind := k, ctx := ctx, ctxGen := (s.ctx ctx).gen, queue := queue,
      queueGen := (s.queue queue).gen, portGen := s.gen (50 + p.num), twinGen := s.gen (48 + p.num), page := page }
  (po.nextTag, s.setPort p { po with reqs := po.reqs ++ [r], nextTag := po.nextTag + 1 })

/-- `n` more non-posted requests may leave on a port, of at most 768 outstanding: reads and AtomicOps, ATS requests and flushing
reads (R84). -/
def State.tagsFree (s : State) (p : Side) (n : Nat) : Bool :=
  decide ((s.port p).reqs.length + (s.xlt.ats.countP fun r => r.port = p) + (s.port p).flushes.length + n ≤ 768)

/-- One more may. -/
def State.tagFree (s : State) (p : Side) : Bool := s.tagsFree p 1

/-! ### Inbound order (R96) -/

/-- A write to BAR4 of a port waits for the lines that agents hold. -/
def State.writeWaits (s : State) (p : Side) : Bool :=
  s.coh.groups.any fun x => match x.2 with | .access q _ (.write _ _) => q = p | _ => false

/-- What arrives at a port is taken in the order of arrival: behind a write that waits, it waits too (R96, R299). -/
def State.inOrder (s : State) (p : Side) (w : Waiting) (k : State → State) : State :=
  if s.writeWaits p || !(s.port p).behind.isEmpty then s.modPort p fun x => { x with behind := x.behind ++ [w] } else k s

/-- The same for an access by a path: only a BAR is a port's. -/
def State.inOrderAt (s : State) (path : Path) (c : Instr) (k : State → State) : State :=
  match path with
  | .bar p _ _ => s.inOrder p (.cmd c) k
  | _ => k s

/-- The PASID that a context's requests carry: none for a privileged context (R175, R210). -/
def pasidOpt (c : Ctx) : Option Nat := if c.priv then none else some c.pasid

end Sys2Proof.Machine
end

