-- ==== Sys2Proof/Machine/Xlt.lean ====
section
/-! DEFINITION. Address translation (06): HPT entries, the walk, the caches of each twin, the target of an access, fault
records and page requests. -/

namespace Sys2Proof.Machine

/-! ### Entries (R200, R201) -/

def eV (e : Nat) : Bool := tst e 0
def eLeaf (e : Nat) : Bool := tst e 1
def eType (e : Nat) : Nat := bits e 4 2
def eR (e : Nat) : Bool := tst e 5
def eW (e : Nat) : Bool := tst e 6
def eA (e : Nat) : Bool := tst e 7
def eContig (e : Nat) : Bool := tst e 8
/-- The address of the next-level table. -/
def eNext (e : Nat) : Nat := bits e 40 12 * 4096

/-- An entry whose layout is illegal at its level (R202). -/
def entryIllegal (e level : Nat) : Bool :=
  eV e && ((level = 4 && eLeaf e) || (level = 0 && !eLeaf e) || (decide (level > 0) && eLeaf e && eContig e) ||
    (eLeaf e && decide (eType e > 3)))

/-- The right that an access needs (R203). -/
def permits (e : Nat) : Access → Bool
  | .read => eR e
  | .write => eW e
  | .atomic => eA e && eR e && eW e
  | .control => eR e && eW e

/-- The leaf's address field, with the group's base for a CONTIG group. -/
def leafAddr (e : Nat) : Nat :=
  let a := if eType e = 0 then bits e 40 12 else if eType e = 1 then bits e 47 12 else bits e 63 12
  if eContig e then a - a % 16 else a

/-- log₂ of the 4 KiB pages that a leaf covers. -/
def leafLog (e level : Nat) : Nat := if eContig e then 4 else 9 * level

/-! ### Reasons (R214) -/

namespace Reason

def notMapped : Nat := 0
def zeroWrite : Nat := 1
def perm : Nat := 2
def peerDenied : Nat := 3
def atsFailed : Nat := 4
def hostNotPresent : Nat := 5
def priFailed : Nat := 6
def stallLimit : Nat := 7
def poisoned : Nat := 8

end Reason

/-- The code of a reason. -/
def reasonCode (r : Nat) : Nat :=
  match r with
  | 0 | 1 | 7 => E.xltFault
  | 2 => E.xltPerm
  | 3 => E.peerDenied
  | 4 | 5 | 6 => E.atsFailed
  | _ => E.poisoned

/-- What a walk gives: the leaf with its level, or a failure with its reason, level and deciding entry. -/
inductive Walk where
  | leaf (e level : Nat)
  | fail (reason level e : Nat)
  deriving DecidableEq, Repr

/-- The 9-bit index of a level. -/
def levelIndex (cva level : Nat) : Nat := cva / 2 ^ (12 + 9 * level) % 512

/-- An entry of a level, from the home twin's walk cache or from device memory; none when poisoned. -/
def State.readEntry (s : State) (slot level table cva : Nat) (cached : Bool) : Option Nat :=
  let a := table + 8 * levelIndex cva level
  let pfx := cva / 2 ^ (12 + 9 * level)
  let hit :=
    if !cached || level = 0 then none
    else
      ((s.xlt.walk.get (s.ctx slot).home).find? fun w => w.ctx = slot && w.level = level && w.pfx = pfx).map
        fun w => w.entry.toNat
  match hit with
  | some e => some e
  | none => if s.mem.poisoned a then none else some (s.mem.word a)

/-- The walk of R203 from a table of a level down. -/
def State.walkFrom (s : State) (slot cva : Nat) (acc : Access) (cached : Bool) : Nat → Nat → Walk
  | level, table =>
    match s.readEntry slot level table cva cached with
    | none => .fail Reason.poisoned level 0
    | some e =>
      if entryIllegal e level then .fail Reason.poisoned level e
      else if !eV e then .fail Reason.notMapped level e
      else if !eLeaf e then
        match level with
        | 0 => .fail Reason.poisoned 0 e
        | l + 1 => s.walkFrom slot cva acc cached l (eNext e)
      else if eType e = 3 && acc ≠ .read then .fail Reason.zeroWrite level e
      else if !permits e acc then .fail Reason.perm level e
      else .leaf e level

/-- The walk of a context (R203); after teardown step 5 its root holds only INVALID entries (R513). -/
def State.walk (s : State) (slot cva : Nat) (acc : Access) (cached : Bool) : Walk :=
  let c := s.ctx slot
  if c.state = .dead || c.state = .free then .fail Reason.notMapped 4 0 else s.walkFrom slot cva acc cached 4 c.root

/-! ### Targets -/

/-- Where an access goes, and for how many bytes (to the end of the page). -/
inductive Target where
  | loc (addr : Nat)
  | peer (grant off : Nat)
  /-- A host address, with the untranslated page that it was translated from when it was (R210). -/
  | host (addr : Nat) (page : Option Nat)
  | zero
  /-- The ATC does not hold the page: an ATS Translation Request is needed for the host page. -/
  | miss (page : Nat)
  | fail (reason level : Nat)
  deriving DecidableEq, Repr

/-- The target of a leaf at an address (R203). -/
def leafTarget (e level cva : Nat) : Target :=
  let sz := 2 ^ (12 + leafLog e level)
  let off := cva % sz
  let a := leafAddr e * 4096 + off
  match eType e with
  | 0 => .loc a
  | 1 => .peer (bits e 63 48) a
  | 2 => .host a none
  | _ => .zero

/-- The translation that the host has given for a page of a context, with the right that an access needs: of the ATC, or of one that
passes it by (R205, R210). -/
def State.hostEntry (s : State) (slot page : Nat) (acc : Access) : Option AtcEntry :=
  let c := s.ctx slot
  (s.xlt.atc.get c.home ++ s.xlt.passing.map (·.1)).find? fun x =>
    x.port = c.port && x.func = c.func && x.pasid = c.pasid && x.page / 2 ^ x.sizeLog = page / 2 ^ x.sizeLog &&
      (acc = .write || x.r) && (acc = .read || x.w)

/-- A host page through the ATC (R210). -/
def State.hostTarget (s : State) (slot addr : Nat) (acc : Access) : Target :=
  let c := s.ctx slot
  if !(s.func c.port c.func).ats then .host addr none
  else
    match s.hostEntry slot (addr / 4096) acc with
    | none => .miss (addr / 4096)
    | some x => .host (x.addr + addr % 2 ^ (12 + x.sizeLog)) (some (addr / 4096))

/-- Device memory that a privileged queue may reach: wholly inside a LIVE or RETIRING object of slot 0 or 1, and in no table pool,
which objects may overlap (R175, R198). -/
def State.privOwns (s : State) (a n : Nat) : Bool :=
  (s.objs.any fun (_, o) =>
    decide (o.state ≠ .free) && decide (o.owner < 2) && o.attr % 2 = 0 && decide (o.base ≤ a) &&
      decide (a + n ≤ o.base + 65536 * o.size64k)) &&
    !(s.objs.any fun (_, o) =>
      decide (o.state ≠ .free) && o.attr % 2 = 1 && decide (o.base < a + n) && decide (a < o.base + 65536 * o.size64k))

/-- The leaf that translates an address: the shared TLB's or the walk's. -/
def State.leafOf (s : State) (slot cva : Nat) (acc : Access) : Walk :=
  let c := s.ctx slot
  match (s.xlt.tlb.get c.home).find? fun t =>
      t.ctx = slot && t.pasidGen = c.pasidGen && t.page / 2 ^ t.sizeLog = cva / 4096 / 2 ^ t.sizeLog with
  | some t =>
    let e := t.entry.toNat
    let level := if t.sizeLog = 4 then 0 else t.sizeLog / 9
    if eType e = 3 && acc ≠ .read then .fail Reason.zeroWrite level e
    else if !permits e acc then .fail Reason.perm level e
    else .leaf e level
  | none => s.walk slot cva acc true

/-- The level of the entry that decides a translation (R218). -/
def State.leafLevel (s : State) (slot cva : Nat) (acc : Access) : Nat :=
  if (s.ctx slot).priv then 0 else match s.leafOf slot cva acc with | .leaf _ l => l | .fail _ l _ => l

/-- The target of one access of a context, with the bytes up to the end of its page. `n` is the length that a
privileged queue's access must have inside one object. -/
def State.target (s : State) (slot cva n : Nat) (acc : Access) : Target × Nat :=
  if (s.ctx slot).priv then
    let a := cva % 2 ^ 56
    if !tst cva 56 then (.host a none, n)
    else if s.privOwns a n then (.loc a, n)
    else (.fail Reason.perm 0, n)
  else
    match s.leafOf slot cva acc with
    | .fail r l _ => (.fail r l, 4096 - cva % 4096)
    | .leaf e level =>
      let sz := 2 ^ (12 + leafLog e level)
      let left := sz - cva % sz
      match leafTarget e level cva with
      | .host a _ => (s.hostTarget slot a acc, min left (4096 - cva % 4096))
      | t => (t, left)

/-! ### Filling and dropping caches (R205 to R209) -/

/-- The partition of a slot: TLB, ATC, PRQ (R207). -/
def State.part (s : State) (slot : Nat) : Nat × Nat × Nat := Tbl.get (8, 4, 0) s.xlt.part slot

/-- A list that keeps at most `n` entries satisfying `p`, the oldest leaving first (log entry 8). -/
def addBounded {α : Type} (p : α → Bool) (n : Nat) (l : List α) (x : α) : List α :=
  if n = 0 then l
  else if l.countP p < n then l ++ [x]
  else (l.eraseIdx (l.findIdx p)) ++ [x]

/-- A walk's leaf enters the shared TLB of the home twin, and the table entries it read its walk cache (R205). -/
def State.fill (s : State) (slot cva e level : Nat) : State :=
  let c := s.ctx slot
  let t : TlbEntry :=
    { ctx := slot, pasidGen := c.pasidGen, page := cva / 4096, sizeLog := leafLog e level, entry := w64 e }
  s.modXlt fun x =>
    let l := x.tlb.get c.home
    if l.any fun y => y.ctx = slot && y.page / 2 ^ y.sizeLog = t.page / 2 ^ y.sizeLog then x
    else { x with tlb := x.tlb.set c.home (addBounded (fun y => y.ctx = slot) (s.part slot).1 l t) }

/-- A table entry of a level enters the walk cache (R205, R206). -/
def State.fillWalk (s : State) (slot cva : Nat) : Nat → Nat → State
  | 0, _ => s
  | l + 1, table =>
    let level := l + 1
    let a := table + 8 * levelIndex cva level
    let e := s.mem.word a
    if s.mem.poisoned a || !eV e || eLeaf e then s
    else
      let c := s.ctx slot
      let x : WalkEntry := { ctx := slot, level := level, pfx := cva / 2 ^ (12 + 9 * level), entry := w64 e }
      let s := s.modXlt fun t =>
        let k := t.walk.get c.home
        if k.any fun y => y.ctx = slot && y.level = level && y.pfx = x.pfx then t
        else { t with walk := t.walk.set c.home (addBounded (fun y => y.ctx = slot) ((s.part slot).1 / 8) k x) }
      s.fillWalk slot cva l (eNext e)

/-- An access that a walk resolved leaves its translations in the caches. -/
def State.touch (s : State) (slot cva : Nat) (acc : Access) : State :=
  if (s.ctx slot).priv then s
  else
    match s.leafOf slot cva acc with
    | .leaf e level => (s.fill slot cva e level).fillWalk slot cva 4 (s.ctx slot).root
    | .fail _ _ _ => s

/-- Both twins drop a context's translations of a range of 4 KiB pages. -/
def State.purge (s : State) (slot page pages : Nat) : State :=
  let hitT := fun (t : TlbEntry) =>
    t.ctx = slot && decide (t.page / 2 ^ t.sizeLog * 2 ^ t.sizeLog < page + pages) &&
      decide (page < t.page / 2 ^ t.sizeLog * 2 ^ t.sizeLog + 2 ^ t.sizeLog)
  let hitW := fun (w : WalkEntry) =>
    w.ctx = slot && decide (w.pfx * 512 ^ w.level < page + pages) && decide (page < w.pfx * 512 ^ w.level + 512 ^ w.level)
  s.modXlt fun x =>
    { x with
      tlb := ⟨x.tlb.a.filter fun t => !hitT t, x.tlb.b.filter fun t => !hitT t⟩
      walk := ⟨x.walk.a.filter fun w => !hitW w, x.walk.b.filter fun w => !hitW w⟩
      micro := x.micro.filter fun m => !(m.ctx = slot && decide (page ≤ m.page) && decide (m.page < page + pages)) }

/-- Both twins drop everything they hold of a context (R209). -/
def State.purgeAll (s : State) (slot : Nat) : State :=
  s.modXlt fun x =>
    { x with
      tlb := ⟨x.tlb.a.filter fun t => t.ctx ≠ slot, x.tlb.b.filter fun t => t.ctx ≠ slot⟩
      walk := ⟨x.walk.a.filter fun t => t.ctx ≠ slot, x.walk.b.filter fun t => t.ctx ≠ slot⟩
      atc := ⟨x.atc.a.filter fun t => t.ctx ≠ slot, x.atc.b.filter fun t => t.ctx ≠ slot⟩
      micro := x.micro.filter fun m => m.ctx ≠ slot
      passing := x.passing.filter fun t => t.1.ctx ≠ slot }

/-- Both twins drop the translations of the host that a test names: of the ATC, passing it by, and in micro-TLB entries built on
them (R209, R212). -/
def State.dropAtc (s : State) (p : AtcEntry → Bool) : State :=
  s.modXlt fun x =>
    { x with
      atc := ⟨x.atc.a.filter fun t => !p t, x.atc.b.filter fun t => !p t⟩
      micro := x.micro.filter fun m => !(m.host.any p)
      passing := x.passing.filter fun t => !p t.1 }

/-! ### Micro-TLBs (R205, R206, R208) -/

/-- Entries of an engine's micro-TLB. -/
def microSize : Nat := 64

/-- An engine holds the translation of a page for the slice that it runs. -/
def State.microFill (s : State) (engine qn slot cva : Nat) (acc : Access) : State :=
  let host := match (s.target slot cva 1 acc).1 with | .host _ (some p) => s.hostEntry slot p acc | _ => none
  let e : MicroEntry := { engine := engine, queue := qn, ctx := slot, page := cva / 4096, host := host }
  s.modXlt fun x =>
    if x.micro.contains e then x else { x with micro := addBounded (fun m => m.engine = engine) microSize x.micro e }

/-- A slice has ended: its engine drops what it held for it. -/
def State.microDrop (s : State) (engine : Nat) : State :=
  s.modXlt fun x => { x with micro := x.micro.filter fun m => m.engine ≠ engine }

/-- The state as the slice of a queue on an engine sees it: with what the engine's micro-TLB holds of the host's translations. -/
def State.engineView (s : State) (engine qn : Nat) : State :=
  s.modXlt fun x =>
    { x with
      passing := x.passing ++ (x.micro.filter fun m => m.engine = engine && m.queue = qn).filterMap fun m => m.host.map fun e => (e, 0) }

/-- The ATC entries reached through a range of a context are dropped with it; Harson may drop more than an event names,
and drops the context's whole partition (R209, log entry 9). -/
def State.purgeHost (s : State) (slot : Nat) : State := s.dropAtc fun t => t.ctx = slot

/-! ### ATS and page requests (R210, R221) -/

/-- An ATS Translation Request leaves for a host page, unless one is outstanding. -/
def State.atsRequest (s : State) (slot page : Nat) (acc : Access) (queue pos unit : Nat) : State :=
  let c := s.ctx slot
  if s.xlt.ats.any fun r => r.ctx = slot && r.page = page && r.access = acc then s
  else if !s.canIssue c.port c.func || !s.tagFree c.port then s
  else
    let tag := s.xlt.nextAts
    let r : AtsReq :=
      { port := c.port, tag := tag, ctx := slot, pasidGen := c.pasidGen, page := page, access := acc, stale := false,
        orphan := false, queue := queue, slot := pos, unit := unit }
    (s.modXlt fun x => { x with ats := x.ats ++ [r], nextAts := tag + 1 }).emit
      (.atsReq c.port c.func c.pasid page tag acc)

/-- A page request can be raised for a context (R221). -/
def State.priPossible (s : State) (slot : Nat) : Bool :=
  let c := s.ctx slot
  !c.terminate && decide ((s.part slot).2.2 > 0) && (s.func c.port 0).pri

/-- A page request is raised for an access; accesses of one context to one page share one (R221). One whose translation was
asked for again and not given is sent once more (R223). -/
def State.pageRequest (s : State) (slot page : Nat) (acc : Access) (queue pos unit : Nat) : State :=
  let c := s.ctx slot
  let mine := fun (r : PageReq) => r.ctx = slot && r.page = page
  if s.xlt.requests.any mine then
    s.modXlt fun x =>
      { x with
        requests := x.requests.map fun r =>
          if mine r then
            { r with
              users := if r.users.contains (queue, pos, unit) then r.users else r.users ++ [(queue, pos, unit)]
              retried := r.retried || r.again, again := false, r := r.r || acc ≠ .write, w := r.w || acc ≠ .read }
          else r }
  else
    let r : PageReq :=
      { ctx := slot, port := c.port, func := c.func, pasid := c.pasid, pasidGen := c.pasidGen, page := page,
        r := acc ≠ .write, w := acc ≠ .read, index := none, sentAt := s.time.bnd, retried := false, again := false,
        users := [(queue, pos, unit)] }
    s.modXlt fun x => { x with requests := x.requests ++ [r] }

/-! ### Fault records (R214 to R219) -/

/-- The FAULT_ID after one. -/
def nextId (n : Nat) : Nat := if n ≥ 65535 then 1 else n + 1

/-- The first FAULT_ID from one on that none of a list bears. -/
def freeId (used : List Nat) : Nat → Nat → Nat
  | 0, n => n
  | k + 1, n => if used.contains n then freeId used k (nextId n) else n

/-- A FAULT_ID that no stalled record of the context's function bears (R216). -/
def State.faultId (s : State) (slot : Nat) : Nat × State :=
  let f := (s.ctx slot).func
  let used := (s.xlt.stalled.filter fun r => (s.ctx r.ctx).func = f).map (·.id)
  let n := freeId used used.length s.xlt.nextFault
  (n, s.modXlt fun x => { x with nextFault := nextId n })

/-- A reason stalls in a context's fault mode; a control access of a ring stalls in both (R214, R215). -/
def stalls (terminate control : Bool) (reason : Nat) : Bool :=
  (reason = 0 || reason = 1) && (!terminate || control)

/-- The page after a record's run. -/
def FaultRec.end_ (r : FaultRec) : Nat := r.cva / 4096 + r.run

/-- Two records of one tick, context and reason whose runs meet or touch make one of at most 1,024 pages: the one raised first, over
both runs; its first byte is that of the lower run (R216). -/
def FaultRec.join (r x : FaultRec) : FaultRec :=
  let lo := if x.cva < r.cva then x.cva else r.cva
  { r with
    cva := lo, run := max r.end_ x.end_ - lo / 4096, ahead := r.ahead && x.ahead
    users := r.users ++ x.users.filter fun u => !r.users.contains u }

/-- Two records can make one. -/
def FaultRec.meets (r x : FaultRec) : Bool :=
  r.ctx = x.ctx && r.reason = x.reason && r.raised = x.raised && r.control = x.control && r.terminated = x.terminated && !r.written && r.stamp.isNone &&
    decide (x.cva / 4096 ≤ r.end_) && decide (r.cva / 4096 ≤ x.end_) &&
    decide (max r.end_ x.end_ - min r.cva x.cva / 4096 ≤ 1024)

/-- A record with every record of a list that it meets, and the others. -/
def absorb : FaultRec → List FaultRec → FaultRec × List FaultRec
  | r, [] => (r, [])
  | r, x :: t => if r.meets x then absorb (r.join x) t else ((absorb r t).1, x :: (absorb r t).2)

/-- A list of records, with the one that a new record joins grown over it and over what the two runs then touch. -/
def joinRecs (x : FaultRec) : List FaultRec → Option (List FaultRec)
  | [] => none
  | r :: t =>
    if r.meets x then some ((absorb (r.join x) t).1 :: (absorb (r.join x) t).2)
    else (joinRecs x t).map fun l => r :: l

/-- A control access that a stalled record holds already waits for its re-walk and raises nothing more (R215, R219). -/
def State.controlHeld (s : State) (queue pos cva : Nat) : Bool :=
  s.xlt.stalled.any fun r => r.control && r.users.contains (queue, pos) && decide (r.cva / 4096 ≤ cva / 4096) &&
    decide (cva / 4096 < r.cva / 4096 + r.run)

/-- A fault enters the batch of the tick: a run of consecutive pages of one context and reason makes one record (R216). A record that
stalls gets a FAULT_ID. -/
def State.recordFault (s : State) (slot queue pos unit cva reason level : Nat) (acc : Access)
    (control ahead stall : Bool) : State :=
  let r : FaultRec :=
    { cva := cva, phase := true, ahead := ahead, terminated := !stall, control := control, reason := reason,
      access := if control then .control else acc, level := level, id := 0, queue := queue, slot := pos, unit := unit,
      ctx := slot, code := reasonCode reason, run := 1, raised := s.time.bnd, stamp := none, written := false,
      users := if ahead then [] else [(queue, pos)] }
  match joinRecs r s.xlt.batch with
  | some l => s.modXlt fun x => { x with batch := l, stalled := if stall then (joinRecs r x.stalled).getD x.stalled else x.stalled }
  | none =>
    let (id, s) := if stall then s.faultId slot else (0, s)
    s.modXlt fun x =>
      { x with
        batch := x.batch ++ [{ r with id := id }], stalled := if stall then x.stalled ++ [{ r with id := id }] else x.stalled }

/-- A walk that read a poisoned entry is an occurrence of XLT_POISON at the home twin's collector (R202, R417). -/
def State.walkPoison (s : State) (slot reason : Nat) : State :=
  if reason ≠ Reason.poisoned then s
  else s.occurNow (s.ctx slot).home 2 E.poisoned (some slot) 0

/-- The 32 bytes of a fault ring entry (R218). -/
def FaultRec.bytes (r : FaultRec) (stamp pasid : Nat) (phase : Bool) : List Byte :=
  let acc := match r.access with | .read => 0 | .write => 1 | .atomic => 2 | .control => 3
  leBytes 8 stamp ++ leBytes 8 r.cva ++
    leBytes 8
      (fld (bit phase) 63 + fld (bit r.ahead) 62 + fld (bit r.terminated) 61 + fld (bit r.control) 60 + fld r.reason 56 +
        fld acc 54 + fld r.level 51 + fld r.id 32 + fld r.queue 12 + r.ctx) ++
    leBytes 8 (fld r.code 48 + fld pasid 20 + r.run)

/-- An access split at the pages it crosses. -/
def State.split (s : State) (slot : Nat) (acc : Access) : Nat → Nat → Nat → List (Nat × Nat × Target)
  | 0, _, _ => []
  | k + 1, cva, n =>
    if n = 0 then []
    else
      let (t, left) := s.target slot cva n acc
      let m := max 1 (min left n)
      (cva, m, t) :: s.split slot acc k (cva + m) (n - m)

/-- All pieces of one access. -/
def State.pieces (s : State) (slot : Nat) (acc : Access) (cva n : Nat) : List (Nat × Nat × Target) :=
  s.split slot acc (n / 4096 + 2) cva n

end Sys2Proof.Machine
end

