-- ==== Sys2Proof/Machine/FabOps.lean ====
section
/-! DEFINITION. The fabric transport (11): links, routes, the path from this device to each destination, packets sent and
received, acknowledgements and path changes, and the fence updates that go to proxies. -/

namespace Sys2Proof.Machine

def State.modFab (s : State) (f : Fab → Fab) : State := { s with fab := f s.fab }
def State.flink (s : State) (l : Nat) : FabLink := Tbl.get FabLink.none s.fab.links l
def State.modLink (s : State) (l : Nat) (f : FabLink → FabLink) : State :=
  s.modFab fun x => { x with links := Tbl.set FabLink.none x.links l (f (s.flink l)) }
def State.route (s : State) (d : Nat) : Route := Tbl.get Route.none s.fab.routes d
def State.modRoute (s : State) (d : Nat) (f : Route → Route) : State :=
  s.modFab fun x => { x with routes := Tbl.set Route.none x.routes d (f (s.route d)) }
def State.path (s : State) (d : Nat) : FabPath := Tbl.get FabPath.none s.fab.paths d
def State.modPath (s : State) (d : Nat) (f : FabPath → FabPath) : State :=
  s.modFab fun x => { x with paths := Tbl.set FabPath.none x.paths d (f (s.path d)) }
def State.rx (s : State) (d : Nat) : FabRx := Tbl.get FabRx.none s.fab.rx d
def State.setRx (s : State) (d : Nat) (v : FabRx) : State :=
  s.modFab fun x => { x with rx := Tbl.set FabRx.none x.rx d v }
def State.grant (s : State) (g : Nat) : GrantEnt := Tbl.get GrantEnt.none s.fab.grants g
def State.modGrant (s : State) (g : Nat) (f : GrantEnt → GrantEnt) : State :=
  s.modFab fun x => { x with grants := Tbl.set GrantEnt.none x.grants g (f (s.grant g)) }
def State.group (s : State) (g : Nat) : Group := Tbl.get Group.none s.fab.groups g
def State.modGroup (s : State) (g : Nat) (f : Group → Group) : State :=
  s.modFab fun x => { x with groups := Tbl.set Group.none x.groups g (f (s.group g)) }

/-! ### Routes (R371, R372) -/

/-- Alternative i of a route: its link, when VALID. -/
def altLink (alts i : Nat) : Option Nat :=
  let a := bits alts (6 * i + 5) (6 * i)
  if tst a 5 then some (a % 32) else none

/-- The link of the alternative in use. -/
def Route.link (r : Route) : Option Nat := altLink r.alts r.active

/-- The next VALID alternative in cyclic order whose link is up. -/
def State.nextAlt (s : State) (r : Route) : Nat :=
  let good := fun i => match altLink r.alts i with | some l => (s.flink l).up | none => false
  (([1, 2, 3, 4].map fun k => (r.active + k) % 4).find? good).getD r.active

/-- A destination's reset-domain generation as this device knows it (R366). -/
def State.devGen (s : State) (d : Nat) : Nat :=
  match s.fab.map.find? fun x => x.2 = d with
  | some (n, _) => n.gen
  | none => 0

/-! ### Kinds (R367) -/

namespace K

def write : Nat := 0x01
def read : Nat := 0x02
def rdata : Nat := 0x03
def nak : Nat := 0x04
def ack : Nat := 0x05
def fenceUpd : Nat := 0x08
def inval : Nat := 0x09
def invalDone : Nat := 0x0A
def pathfence : Nat := 0x0B
def pfack : Nat := 0x0C
def grantOffer : Nat := 0x0D
def grantRevoke : Nat := 0x0E
def cohReq : Nat := 0x10
def cohRsp : Nat := 0x11
def collData : Nat := 0x18
def collCtl : Nat := 0x19
def hello : Nat := 0x20
def probe : Nat := 0x21
def beacon : Nat := 0x22
def census : Nat := 0x23
def map : Nat := 0x24
def global : Nat := 0x25
/-- The group agreement of R360 travels as a control packet; R367 gives it no kind (log entry 20). -/
def group : Nat := 0x3F

end K

/-- The class of a kind. -/
def kindClass (k : Nat) : Nat :=
  if k = 1 || k = 2 || k = 3 || k = 4 then 1 else if k = 0x10 || k = 0x11 then 2 else if k = 0x18 || k = 0x19 then 3 else 0

/-- The virtual channel of a kind. -/
def kindVc (k : Nat) : Nat :=
  if k = 1 || k = 2 then 1 else if k = 3 || k = 4 then 2 else if k = 0x10 then 3 else if k = 0x11 then 4
  else if k = 0x18 || k = 0x19 then 5 else 0

/-- A packet that its destination acknowledges (R373). -/
def needsAck (k : Nat) : Bool := k ≠ K.ack && k ≠ K.pfack

/-- A packet of a kind toward no grant. -/
def plainPkt (kind : Nat) (args : List Nat) : FabPkt :=
  { kind := kind, cls := kindClass kind, grant := 0, ggen := 0, tag := 0, addr := 0, data := [], marks := 0, coh := none,
    args := args, ref := none, rgen := 0 }

/-! ### Sending (R366, R372 to R375) -/

/-- One item of a list of numbers changed. -/
def bumpAt (l : List Nat) (i : Nat) (f : Nat → Nat) : List Nat := (l.set i (f (l.getD i 0)))

/-- Ticks of ACK_TICKS (R394). -/
def State.ackTicks (s : State) : Nat := bits s.fab.ctl.toNat 3 0

/-- A packet leaves now, numbered in its class. -/
def State.fabEmit (s : State) (d : Nat) (p : FabPkt) : State :=
  let r := s.route d
  let x := s.path d
  let n := x.next.getD p.cls 0
  let s := s.modPath d fun x =>
    { x with
      next := bumpAt x.next p.cls fun n => (n + 1) % 65536
      unacked := x.unacked ++ [{ cls := p.cls, pseq := n, pkt := p }]
      timer := if x.timer.isNone && needsAck p.kind then some (s.time.bnd + s.ackTicks) else x.timer }
  match r.link with
  | some l => s.emit (.packet l d r.pgen n (s.devGen d) p)
  | none => s

/-- A packet toward a device: behind an unanswered PATHFENCE it waits (R374); nothing leaves toward an UNREACH entry or
from a DETACHED or joining device (R364, R365). -/
def State.fabSend (s : State) (d : Nat) (p : FabPkt) : State :=
  if s.fab.detached || s.fab.joining || (s.route d).unreach then s
  else if (s.path d).fence.isSome then s.modPath d fun x => { x with waiting := x.waiting ++ [p] }
  else s.fabEmit d p

/-- The packet of a PATHFENCE (R373, R374), sent ahead of every other. -/
def State.sendFence (s : State) (d prev : Nat) : State :=
  let r := s.route d
  match r.link with
  | some l => s.emit (.packet l d r.pgen 0 (s.devGen d) { plainPkt K.pathfence [prev] with addr := prev })
  | none => s

/-- A path change takes effect at a boundary (R372, R374, R43). A fence that follows one unanswered names the same generation
before it, the last that the destination is known to have taken (DEDUCED, log entry 37). -/
def State.pathChange (s : State) (d : Nat) : State :=
  let r := s.route d
  let g := (r.pgen + 1) % 256
  let s := s.modRoute d fun r => { r with active := s.nextAlt r, pgen := g, change := false }
  let s := s.modFab fun x => { x with repins := satAdd 16383 x.repins 1 }
  let prev := (s.path d).fence.getD r.pgen
  let s := s.modPath d fun x => { x with fence := some prev, next := [0, 0, 0, 0], timer := some (s.time.bnd + s.ackTicks) }
  s.sendFence d prev

/-- A PFACK leaves at once: also ahead of what waits behind this device's own unanswered PATHFENCE, as the first packets of the new
generation, for two devices that change path toward each other would else wait on one another (DEDUCED, log entry 37). -/
def State.sendPfack (s : State) (d : Nat) (p : FabPkt) : State :=
  if (s.path d).fence.isNone then s.fabSend d p
  else if s.fab.detached || s.fab.joining || (s.route d).unreach then s
  else
    let r := s.route d
    let n := (s.path d).next.getD p.cls 0
    let s := s.modPath d fun x => { x with next := bumpAt x.next p.cls fun n => (n + 1) % 65536 }
    match r.link with
    | some l => s.emit (.packet l d r.pgen n (s.devGen d) p)
    | none => s

/-- Packets of one class that a count of deliveries covers are removed; the others are renumbered from the first number that the new
generation has not used: from 0, but for a PFACK that went ahead. -/
def renumber (l : List FabSent) (cls count base : Nat) : List FabSent :=
  let mine := l.filter fun x => x.cls = cls
  let first := match mine with | x :: _ => x.pseq | [] => 0
  let left := mine.drop ((count + 65536 - first) % 65536)
  left.mapIdx fun i x => { x with pseq := base + i }

/-- The packets of R374 that are sent again after a PFACK, and the new ones that waited. -/
def State.pfackDeliver (s : State) (d : Nat) (counts : List Nat) : State :=
  let x := s.path d
  if x.fence.isNone then s
  else
    let keep := [0, 1, 2, 3].flatMap fun k => renumber x.unacked k (counts.getD k 0) (x.next.getD k 0)
    let r := s.route d
    let s := s.modPath d fun x =>
      { x with
        unacked := keep, fence := none, waiting := [], changes := 0
        next := [0, 1, 2, 3].map fun k => x.next.getD k 0 + (keep.filter fun y => y.cls = k).length
        timer := if keep.any fun y => needsAck y.pkt.kind then some (s.time.bnd + s.ackTicks) else none }
    let s := match r.link with
      | some l => s.emits (keep.map fun y => .packet l d r.pgen y.pseq (s.devGen d) y.pkt)
      | none => s
    x.waiting.foldl (fun s p => s.fabEmit d p) s

/-! ### Receiving (R367, R369, R373) -/

/-- The acknowledgement of a packet just delivered. -/
def State.sendAck (s : State) (h : FabHdr) : State :=
  let k := h.tc.val
  s.fabSend h.src
    { plainPkt K.ack ([0, 1, 2, 3].map fun i => if i = k then h.pseq else 0) with addr := 2 ^ k }

/-- A packet that ends elsewhere goes on along the route to its destination (R370, R372); a device that is DETACHED or joining carries
none (R362, R364, R365). -/
def State.forward (s : State) (h : FabHdr) : State :=
  if s.fab.detached || s.fab.joining then s else
  match (s.route h.dst).link with
  | some l => s.emit (.transit l h)
  | none => s

/-- Nanoseconds of the TCLK count at a packet's arrival. -/
def State.arrivalNs (s : State) (h : FabHdr) : Nat := (s.time.us + h.us) * 1000

/-- Held packets in the order of their delivery times. -/
def insertHeld (l : List (Nat × Instr)) (t : Nat) (c : Instr) : List (Nat × Instr) :=
  match l with
  | [] => [(t, c)]
  | (u, d) :: r => if t < u then (t, c) :: (u, d) :: r else (u, d) :: insertHeld r t c

/-- The transport's checks of an arriving packet (R367, R373): what is left of it, if anything, and the state. -/
def State.accept (s : State) (h : FabHdr) (kind : Nat) : Bool × State :=
  if h.tc.val ≠ kindClass kind || h.vc.val ≠ kindVc kind then (false, s.modFab fun x => { x with bad := satAdd 2047 x.bad 1 })
  else if h.dst ≠ s.fab.device then (false, s.forward h)
  else
    let r := s.rx h.src
    if kind = K.pathfence && h.addr % 256 = r.gen then (true, s.setRx h.src { gen := h.pgen, expect := [0, 0, 0, 0] })
    else if h.pgen ≠ r.gen then (false, s.stalePath)
    else if h.dgen ≠ s.gen 52 then (false, s.staleDomain)
    else if h.pseq ≠ r.expect.getD h.tc.val 0 then (false, s.modFab fun x => { x with gap := satAdd 16383 x.gap 1 })
    else (true, s.setRx h.src { r with expect := bumpAt r.expect h.tc.val fun n => (n + 1) % 65536 })

/-- A packet is delivered: its effect, then its acknowledgement. -/
def State.deliverPkt (s : State) (h : FabHdr) (kind : Nat) (k : State → State) : State :=
  if needsAck kind && kind ≠ K.pathfence then (k s).sendAck h else k s

/-- A packet arrives. A control or coherence packet is delivered exactly DELAY after SENT (R369): held until then, or at once
and counted LATE; the transport's own kinds act on arrival (DEDUCED, log entry 21). -/
def State.arrive (s : State) (c : Instr) (h : FabHdr) (kind : Nat) (k : State → State) : State :=
  let (ok, s') := s.accept h kind
  if !ok then s'
  else
    let fixed := (h.tc.val = 0 || h.tc.val = 2) && kind ≠ K.ack && kind ≠ K.pathfence && kind ≠ K.pfack
    let d := (s'.route h.src).delay
    if !fixed || h.age = d then s'.deliverPkt h kind k
    else if h.age < d then s'.modFab fun x => { x with held := insertHeld x.held (s.arrivalNs h + (d - h.age)) c }
    else ((s'.modFab fun x => { x with late := satAdd 4095 x.late 1 }).chip 3 h.src).deliverPkt h kind k

/-! ### Grants held and proxies (R377, R381) -/

/-- The grant that this device holds of a device under an id: its place in the table. -/
def State.heldGrant (s : State) (dev id : Nat) : Option (Nat × HeldGrant) :=
  s.fab.have_.find? fun (_, g) => g.dev = dev && g.id = id

/-- The grant that a PEER leaf leads to, when the context still holds it: the leaf's GRANT is a place in the table of held grants, which
has as many places as the field has values (R200, R203, R377; DEDUCED, log entry 29). -/
def State.grantOf (s : State) (slot place : Nat) : Option HeldGrant :=
  (Tbl.find s.fab.have_ place).filter fun g => decide (g.ctx = slot) && !g.fence

/-- FENCE_UPD to every holder of a grant of a fence (R381). -/
def State.notifyFence (s : State) (i : Nat) : State :=
  let f := s.fence i
  let st := match f.state with | .pending => 0 | .signalled => 1 | .broken => 2
  s.fab.grants.foldl
    (fun s (g, e) =>
      if e.enable && e.fence && e.target % 2 ^ 20 = i then
        s.fabSend e.holder { plainPkt K.fenceUpd [f.value, st, f.code, f.scope] with grant := g, ggen := e.ggen }
      else s) s

end Sys2Proof.Machine
end

