-- ==== Sys2Proof/Machine/CohHome.lean ====
section
/-! DEFINITION. The coherence home (10): the directory, the requests of agents and of the host, blocking operations,
answers, and dead agents. -/

namespace Sys2Proof.Machine

def State.modCoh (s : State) (f : Coh → Coh) : State := { s with coh := f s.coh }
def State.dirE (s : State) (line : Nat) : DirEntry := Tbl.get DirEntry.none s.coh.dir (line / 128)
def State.setDir (s : State) (line : Nat) (e : DirEntry) : State :=
  s.modCoh fun c => { c with dir := Tbl.set DirEntry.none c.dir (line / 128) e }
def State.modDir (s : State) (line : Nat) (f : DirEntry → DirEntry) : State := s.setDir line (f (s.dirE line))
def State.protoError (s : State) : State := s.modCoh fun c => { c with proto := satAdd 32767 c.proto 1 }
def State.domain (s : State) (n : Nat) : Domain := Tbl.get Domain.none s.coh.domains n

/-! ### Windows and agents (R322 to R326) -/

def aCoherent (a : Nat) : Bool := tst a 15
def aOwner (a : Nat) : Bool := tst a 14
def aHost (a : Nat) : Bool := tst a 13
def aEmb (a : Nat) : Bool := tst a 12
def aPeers (a : Nat) : Bool := tst a 11
def aDomain (a : Nat) : Nat := bits a 10 4

/-- The coherent window in which an address lies. -/
def State.window (s : State) (a : Nat) : Option Obj :=
  (s.objs.find? fun (_, o) =>
    decide (o.state ≠ .free) && aCoherent o.attr && decide (o.base ≤ a) && decide (a < o.base + 65536 * o.size64k)).map (·.2)

/-- Pointers (R324). -/
def ptrHost (p : Side) : Nat := 0x4000 + p.num
def ptrCache (d : Nat) : Nat := 0x8000 + d
def isHost (ptr : Nat) : Bool := ptr / 2 ^ 14 = 1
def isCache (ptr : Nat) : Bool := ptr / 2 ^ 14 = 2

/-- The members of a peer group in rank order (R360): group 0 is the whole fabric in ascending id. -/
def State.members (s : State) (g : Nat) : List Nat :=
  if g = 0 then (s.fab.map.map (·.2)).foldl (fun l d => insertNat d l) [] else (s.group g).list

/-- The member above in a group's tree, by rank. -/
def treeParent (q : Nat) : Nat := (q - 1) / 23

/-- This device's rank in a group, and the members next to it in the group's tree. -/
def State.rankIn (s : State) (g : Nat) : Nat := (s.members g).idxOf s.fab.device
def State.treeBelow (s : State) (g : Nat) : List Nat :=
  let l := s.members g
  ((List.range 23).map fun i => 23 * s.rankIn g + 1 + i).filterMap fun i => l[i]?
def State.treeAbove (s : State) (g : Nat) : Nat := (s.members g).getD (treeParent (s.rankIn g)) 0

/-- Devices of a window's domain; a window without peers counts as the device alone (DEDUCED, log entry 22). -/
def State.domainSize (s : State) (o : Obj) : Nat := if aPeers o.attr then (s.domain (aDomain o.attr)).members else 1

/-- The rank of an agent's device in a window's domain. -/
def State.agentRank (s : State) (o : Obj) (ptr : Nat) : Nat :=
  if !aPeers o.attr then 0
  else
    let l := s.members (s.domain (aDomain o.attr)).group
    l.idxOf (if isCache ptr then ptr % 2 ^ 14 else s.fab.device)

/-- A window admits an agent (R324). -/
def State.admits (s : State) (o : Obj) (ptr : Nat) : Bool :=
  if isHost ptr then aHost o.attr
  else if isCache ptr then
    aPeers o.attr && (s.members (s.domain (aDomain o.attr)).group).contains (ptr % 2 ^ 14)
  else decide (ptr < 32) && aEmb o.attr

/-- Local agents that a window admits. -/
def State.localAgents (s : State) (o : Obj) : List Nat :=
  (if aEmb o.attr then List.range 32 else []) ++
    (if aHost o.attr then [Side.a, Side.b].filterMap fun p => if (s.port p).up && (s.port p).cxl then some (ptrHost p) else none
     else [])

/-- The targets of a broadcast invalidation (R330). -/
def State.bcastTargets (s : State) (o : Obj) (e : DirEntry) : List Nat :=
  let devs := s.members (s.domain (aDomain o.attr)).group
  let small := decide (s.domainSize o ≤ 64)
  let named := fun (i : Nat) => !small || tst e.presence i
  let remote := (devs.zipIdx.filter fun (d, i) => named i && d ≠ s.fab.device).map fun (d, _) => ptrCache d
  let own := !small || tst e.presence (devs.idxOf s.fab.device) || !aPeers o.attr
  remote ++ (if own then s.localAgents o else [])

/-! ### Lines of memory (R351) -/

/-- The poison marks of a line's four words. -/
def Mem.lineMarks (m : Mem) (line : Nat) : Nat :=
  (List.range 4).foldl (fun n i => if m.poisoned (line + 32 * i) then setBit n i true else n) 0

/-- A line's data written back with its marks, word by word. -/
def Mem.putLine (m : Mem) (line : Nat) (data : List Byte) (marks : Nat) : Mem :=
  (List.range 4).foldl
    (fun m i => m.store (line + 32 * i) ((data.drop (32 * i)).take 32) (tst marks i)) m

/-- Every word of a line marked, and the line counted (R339, R348). -/
def State.poisonLine (s : State) (line : Nat) : State :=
  (s.setMem (s.mem.mark line 128)).modCoh fun c => { c with poisoned := satAdd (2 ^ 31 - 1) c.poisoned 1 }

/-! ### Messages (R332) -/

/-- A coherence packet's kind. -/
def cohKind : CohOp → Nat
  | .rds | .rdx | .upg | .puts | .pute | .puto | .putm | .fwds | .fwdx | .inv | .snpCur | .snpRecall => K.cohReq
  | _ => K.cohRsp

/-- A message goes to a device: on the die when it is this one. -/
def State.sendCoh (s : State) (d : Nat) (m : CohMsg) : State :=
  if d = s.fab.device then s.emit (.coh m)
  else
    let g := (s.fab.have_.find? fun (_, g) => g.dev = d && decide (g.base ≤ m.line) && decide (m.line < g.base + g.size)).map (·.2)
    let k := cohKind m.op
    s.fabSend d
      { kind := k, cls := 2, grant := (g.map (·.id)).getD 0, ggen := (g.map (·.ggen)).getD 0, tag := 0, addr := m.line,
        data := m.data, marks := m.marks, coh := some m, args := [], ref := none, rgen := 0 }

/-- The device on which a pointer's agent lives, seen from a home. -/
def agentDev (home ptr : Nat) : Nat := if isCache ptr then ptr % 2 ^ 14 else home

/-- A message from this home to an agent. -/
def State.toAgent (s : State) (ptr : Nat) (op : CohOp) (line req : Nat) (owner : Bool) (data : List Byte) (marks : Nat)
    (done : Bool) : State :=
  s.sendCoh (agentDev s.fab.device ptr)
    { op := op, home := s.fab.device, line := line, src := none, dst := some ptr, req := req, owner := owner, data := data,
      marks := marks, done := done, late := false }

/-- A message without data. -/
def State.tellAgent (s : State) (ptr : Nat) (op : CohOp) (line : Nat) : State := s.toAgent ptr op line 0 false [] 0 false

/-- The line's memory to a requester (R337, R338). -/
def State.sendLine (s : State) (ptr : Nat) (op : CohOp) (line : Nat) (done : Bool) : State :=
  s.toAgent ptr op line 0 false (s.mem.readN line 128) (s.mem.lineMarks line) done

/-- Both halves of a back-invalidate snoop (R345). -/
def State.snoopHost (s : State) (ptr line : Nat) (data : Bool) : State :=
  let p := Side.ofBool (ptr % 2 = 1)
  (s.emit (.biSnp p line false data)).emit (.biSnp p line true data)

/-- The home asks an agent and awaits its answer (R338, R347). -/
def State.ask (s : State) (line ptr : Nat) (kind : AwaitKind) (req trans : Nat) : State :=
  let owner := match s.window line with | some o => aOwner o.attr | none => false
  let s := s.modDir line fun e =>
    { e with awaits := e.awaits ++ [{ agent := ptr, kind := kind, req := req, trans := trans, sentAt := s.time.bnd, halves := 0 }] }
  match kind with
  | .inv => s.tellAgent ptr .inv line
  | .fwds => s.toAgent ptr .fwds line req owner [] 0 false
  | .fwdx => s.toAgent ptr .fwdx line req owner [] 0 false
  | .snpCur => s.tellAgent ptr .snpCur line
  | .snpRecall => s.tellAgent ptr .snpRecall line
  | .bisnp d => s.snoopHost ptr line d

/-- The home asks several agents alike. -/
def State.askAll (s : State) (line : Nat) (l : List Nat) (kind : AwaitKind) (req trans : Nat) : State :=
  l.foldl (fun s a => s.ask line a kind req trans) s

/-! ### Entries (R329 to R331) -/

def DirEntry.owner (e : DirEntry) : Option Nat :=
  match e.state with
  | .o | .x => e.ptrs.head?
  | _ => .none

def DirEntry.sharers (e : DirEntry) : List Nat :=
  match e.state with
  | .s => e.ptrs
  | .o => e.ptrs.tail
  | _ => []

/-- An agent is a holder of record; in broadcast form every agent may be a sharer (DEDUCED, log entry 23). -/
def DirEntry.holds (e : DirEntry) (a : Nat) : Bool := e.ptrs.contains a || (e.bcast && decide (e.count > 0))

/-- The line in X with one owner. -/
def DirEntry.toX (e : DirEntry) (a : Nat) : DirEntry :=
  { e with state := .x, ptrs := [a], bcast := false, count := 0, presence := 0, halves := e.halves.filter fun x => x.1 = a }

/-- The entry free, what waits on its line kept. -/
def DirEntry.free (e : DirEntry) : DirEntry :=
  { DirEntry.none with awaits := e.awaits, trans := e.trans, blocked := e.blocked, ready := e.ready, queue := e.queue }

/-- A sharer more: in broadcast form when no pointer is free (R330). -/
def DirEntry.addSharer (e : DirEntry) (a : Nat) (rank : Nat → Nat) (small : Bool) : DirEntry :=
  let mark := fun (p n : Nat) => if small then setBit p (rank n) true else 0
  if e.bcast then { e with count := e.count + 1, presence := mark e.presence a }
  else if e.ptrs.contains a then e
  else if e.ptrs.length < 4 then { e with ptrs := e.ptrs ++ [a] }
  else
    { e with
      bcast := true, count := e.sharers.length + 1, ptrs := if e.state = .o then e.ptrs.take 1 else []
      presence := (e.sharers ++ [a]).foldl mark 0 }

/-- A holder less. -/
def DirEntry.remove (e : DirEntry) (a : Nat) : DirEntry :=
  let e := { e with halves := e.halves.filter fun x => x.1 ≠ a }
  let l := e.ptrs.filter fun x => x ≠ a
  if e.owner = some a then
    if l.isEmpty && e.count = 0 then e.free else { e with state := .s, ptrs := l }
  else if e.ptrs.contains a then
    if l.isEmpty && e.count = 0 then e.free else { e with ptrs := l }
  else if e.bcast then
    let n := e.count - 1
    if n = 0 && e.state = .s then e.free else { e with count := n }
  else e

/-- The set of a line (R331): the bank and row are the line number modulo the sets of the context's banks (DESIGN CHOICE,
log entry 24). -/
def State.setOf (s : State) (ctx line : Nat) : Nat :=
  let banks := (Tbl.get (0, 0) s.coh.parts ctx).1
  if banks = 0 then 0 else line / 128 % (1024 * banks)

/-- The entries of a context in the set of a line. -/
def State.setEntries (s : State) (ctx line : Nat) : List (Nat × DirEntry) :=
  s.coh.dir.filter fun (k, e) =>
    decide (e.state ≠ .i) && e.ctx = ctx && decide (s.setOf ctx (128 * k) = s.setOf ctx line)

/-- The victim of a full set: the entry allocated longest ago with neither BLOCKED nor PENDING (R331). -/
def victim (l : List (Nat × DirEntry)) : Option Nat :=
  let c := l.filter fun (_, e) => e.blocked.isNone && e.awaits.isEmpty
  (c.foldl (fun (b : Option (Nat × Nat)) (k, e) =>
    match b with
    | some (_, age) => if e.age < age then some (k, e.age) else b
    | none => some (k, e.age)) none).map (·.1)

/-! ### Caching requests (R337, R338, R341) -/

/-- A transaction's number. -/
def State.newTrans (s : State) (line : Nat) (t : TransEnd) : Nat × State :=
  let n := s.coh.nextTrans
  (n, (s.modCoh fun c => { c with nextTrans := n + 1 }).modDir line fun e => { e with trans := e.trans ++ [(n, t)] })

/-- A transaction ends when no answer of it is awaited: AckDone or Grant goes (R338). -/
def State.endTrans (s : State) (line n : Nat) : State :=
  let e := s.dirE line
  if e.awaits.any fun a => a.trans = n then s
  else
    match e.trans.find? fun x => x.1 = n with
    | none => s
    | some (_, t) =>
      let s := s.setDir line { e with trans := e.trans.filter fun x => x.1 ≠ n }
      match t with
      | .ackDone r => s.tellAgent r .ackDone line
      | .grant r => s.tellAgent r .grant line
      | .none => s

/-- A request of an agent has reached the line: what the predictor keeps of earlier ones (R341). -/
def DirEntry.reached (e : DirEntry) (r : Nat) : DirEntry :=
  let third := e.takenFrom.isSome && e.takenFrom ≠ some r && !e.ptrs.contains r
  { e with takenFrom := if third then .none else e.takenFrom, lastRds := if e.lastRds = some r then e.lastRds else .none }

/-- The predictor sees a request (R341); PRED moves only while PRED_EN is 1. -/
def DirEntry.predict (e : DirEntry) (on : Bool) (op : CohOp) (r : Nat) : DirEntry :=
  let up := op = .upg && e.lastRds = some r
  let fall := e.takenFrom = some r && (op = .rds || op = .rdx)
  let x := e.reached r
  { x with
    pred := if !on then e.pred else if fall then 0 else if up then min 3 (e.pred + 1) else e.pred
    takenFrom := if fall then .none else x.takenFrom
    lastRds := if op = .rds then some r else .none }

/-- Agents other than the requester that an ownership request invalidates. -/
def State.others (s : State) (o : Obj) (e : DirEntry) (r : Nat) : List Nat :=
  (if e.bcast then s.bcastTargets o e else e.sharers).filter fun a => a ≠ r && e.owner ≠ some a

/-- RdX, or a request served as one. -/
def State.serveRdx (s : State) (line : Nat) (o : Obj) (r : Nat) : State :=
  let e := s.dirE line
  let oth := s.others o e r
  match e.owner with
  | some a =>
    let (n, s) := s.newTrans line (.ackDone r)
    let s := if aOwner o.attr then s else s.modDir line fun e => e.toX r
    let s := (s.ask line a .fwdx r n).askAll line oth .inv r n
    s.endTrans line n
  | none =>
    if oth.isEmpty then (s.sendLine r .datae line true).modDir line fun e => e.toX r
    else
      let s := s.sendLine r .datae line false
      let (n, s) := s.newTrans line (.ackDone r)
      (s.modDir line fun e => e.toX r).askAll line oth .inv r n

/-- An Upg of a holder: ordered at once (R338). -/
def State.serveUpg (s : State) (line : Nat) (o : Obj) (r : Nat) : State :=
  let oth := s.others o (s.dirE line) r
  let s := s.tellAgent r .upgAck line
  let (n, s) := s.newTrans line (.grant r)
  ((s.modDir line fun e => e.toX r).askAll line oth .inv r n).endTrans line n

/-- A request on a line that is not BLOCKED and has an entry or room for one. -/
def State.serve (s : State) (line : Nat) (o : Obj) (op : CohOp) (r : Nat) : State :=
  let e := s.dirE line
  let small := decide (s.domainSize o ≤ 64)
  let spec := s.coh.predOn && decide (e.pred ≥ 2) && decide (e.state = .x) && op = .rds && e.owner ≠ some r
  let dup := (op = .rds && e.ptrs.contains r) || (op = .rdx && e.owner = some r) || (op = .upg && e.state = .x && e.owner = some r)
  let s := s.setDir line (e.predict s.coh.predOn op r)
  if dup then s.protoError
  else if op = .upg && ((e.state = .s && e.holds r) || (e.state = .o && e.owner = some r)) then s.serveUpg line o r
  else if op ≠ .rds || spec then
    let a := e.owner
    let s := s.serveRdx line o r
    if spec then s.modDir line fun e => { e with takenFrom := a } else s
  else
    match e.state with
    | .i => (s.sendLine r .datae line true).modDir line fun e => e.toX r
    | .s => (s.sendLine r .datas line true).modDir line fun e => e.addSharer r (s.agentRank o) small
    | _ =>
      match e.owner with
      | some a =>
        let (n, s) := s.newTrans line .none
        let s :=
          if aOwner o.attr then s
          else s.modDir line fun e => { e with state := .o }.addSharer r (s.agentRank o) small
        s.ask line a .fwds r n
      | none => s

/-- The host holds the line where the request must take it away or take its data: back-invalidate snoops come first (R345). -/
def State.hostFirst (s : State) (o : Obj) (e : DirEntry) (op : CohOp) (r : Nat) : Bool :=
  let hosts := ((if e.bcast then s.bcastTargets o e else []) ++ e.ptrs).filter isHost
  if op = .rds then (match e.owner with | some a => isHost a && a ≠ r | none => false) else !hosts.isEmpty

/-- A victim of a full set is recalled, unless one is already (R331). -/
def State.makeRoom (s : State) (ctx line : Nat) : State :=
  let set := s.setEntries ctx line
  if set.any fun (_, e) => e.queue.contains (.block .evict) || e.blocked = some .evict then s
  else
    match victim set with
    | some k =>
      (s.modDir (128 * k) fun e => { e with queue := e.queue ++ [.block .evict] }).modCoh fun c =>
        { c with evictions := satAdd (2 ^ 32 - 1) c.evictions 1 }
    | none => s

/-- A caching request reaches a line (R331, R338, R342): it waits behind a blocking operation, for the host's snoops, or for
an entry of a full set; otherwise it is served. -/
def State.request1 (s : State) (line : Nat) (o : Obj) (op : CohOp) (r : Nat) : State :=
  let e := s.dirE line
  let ctx := o.owner
  if e.blocked.isSome || !e.queue.isEmpty then
    s.setDir line { e with queue := e.queue ++ [.caching op r ctx] }
  else if s.hostFirst o e op r then s.setDir line { e with queue := [.block (.forAgent op r ctx)] }
  else if e.state = .i then
    let set := s.setEntries ctx line
    if set.length ≥ 16 then
      (s.modCoh fun c => { c with full := c.full ++ [(line, .caching op r ctx)] }).makeRoom ctx line
    else
      let age := s.coh.nextAge
      ((s.modCoh fun c => { c with nextAge := age + 1 }).modDir line fun e => { e with ctx := ctx, age := age, pred := 0 }).serve
        line o op r
  else s.serve line o op r

/-- Requests that wait for an entry are tried again once one may be free (R331). -/
def State.retryFull (s : State) : State :=
  s.coh.full.foldl
    (fun s (line, q) =>
      match q, s.window line with
      | .caching op r ctx, some o =>
        if (s.setEntries ctx line).length < 16 then
          (s.modCoh fun c => { c with full := c.full.erase (line, q) }).request1 line o op r
        else s.makeRoom ctx line
      | _, _ => s) s

/-- Requests queued on a line that is free again are served up to the next blocking operation (R342). -/
def State.drainLine (s : State) (line : Nat) : Nat → State
  | 0 => s
  | n + 1 =>
    let e := s.dirE line
    if e.blocked.isSome then s
    else
      match e.queue, s.window line with
      | .caching op r _ :: t, some o =>
        let s := s.setDir line { e with queue := [] }
        let s := s.request1 line o op r
        let s := s.modDir line fun e => { e with queue := e.queue ++ t }
        s.drainLine line n
      | .caching _ _ _ :: t, none => ((s.setDir line { e with queue := t }).protoError).drainLine line n
      | _, _ => s

/-- As many steps as a line's queue can need. -/
def State.drain (s : State) (line : Nat) : State := (s.drainLine line ((s.dirE line).queue.length + 1)).retryFull

/-! ### Blocking operations (R342, R343, R345) -/

/-- Every other holder is recalled; a host holder is snooped. -/
def State.recall (s : State) (line : Nat) (o : Obj) (keep : Option Nat) : State :=
  let e := s.dirE line
  let l := ((if e.bcast then s.bcastTargets o e else []) ++ e.ptrs).eraseDups.filter fun a => some a ≠ keep
  l.foldl
    (fun s a =>
      if isHost a then s.ask line a (.bisnp false) 0 0
      else if e.owner = some a then s.ask line a .snpRecall 0 0
      else s.ask line a .inv 0 0) s

/-- The owner's data is fetched; the owner keeps its copy. -/
def State.fetchOwner (s : State) (line : Nat) (except : Option Nat) : State :=
  match (s.dirE line).owner with
  | some a =>
    if some a = except then s
    else if isHost a then s.ask line a (.bisnp true) 0 0
    else s.ask line a .snpCur 0 0
  | none => s

/-- The steps that an operation begins with. -/
def State.beginBlock (s : State) (line : Nat) (o : Obj) (b : BlockOp) : State :=
  match b with
  | .host p _ r =>
    let h := some (ptrHost p)
    match r with
    | .memRd .a | .memRdData .a | .memInv .a => s.recall line o h
    | .memRd _ | .memRdData _ | .memInv .s => s.fetchOwner line h
    | .memInv .i | .memClnEvct | .memWr _ _ _ | .biConflict => s
  | .access _ w => if w then s.recall line o none else s.fetchOwner line none
  | .evict => s.recall line o none
  | .forAgent op _ _ =>
    let e := s.dirE line
    if op = .rds then s.fetchOwner line none
    else
      (((if e.bcast then s.bcastTargets o e else []) ++ e.ptrs).eraseDups.filter isHost).foldl
        (fun s a => s.ask line a (.bisnp false) 0 0) s

/-- The half of a line as memory holds it, toward the host. -/
def State.hostData (s : State) (p : Side) (line : Nat) (half : Bool) : State :=
  let a := line + if half then 64 else 0
  s.emit (.cxlData p line half (s.mem.readN a 64) (s.mem.anyPoison a 64))

/-- A host's write of a half (R345, R351). -/
def State.hostPut (s : State) (line : Nat) (half : Bool) (data : List Byte) (poison : Bool) : State :=
  s.setMem (s.mem.store (line + if half then 64 else 0) data poison)

/-- What a host agent has been granted of a half of the line, none for 0. -/
def DirEntry.grantHalf (e : DirEntry) (h : Nat) (half : Bool) (st : Nat) : DirEntry :=
  let rest := e.halves.filter fun x => !(x.1 = h && x.2.1 = bit half)
  { e with halves := if st = 0 then rest else rest ++ [(h, bit half, st)] }

/-- The stronger of the states granted to a host agent for the two halves (R345). -/
def DirEntry.granted (e : DirEntry) (h : Nat) : Nat := ((e.halves.filter fun x => x.1 = h).map fun x => x.2.2).foldl max 0

/-- A host agent becomes a sharer by one half: the line's state is the stronger of the two halves'. -/
def DirEntry.hostShares (e : DirEntry) (h : Nat) (half : Bool) (rank : Nat → Nat) (small : Bool) : DirEntry :=
  let known := e.ptrs.contains h || (e.bcast && decide (0 < e.granted h))
  let e := e.grantHalf h half 1
  if e.owner = some h then (if e.granted h = 2 then e else { e with state := .s })
  else if known then e
  else if e.state = .i then { e with state := .s, ptrs := [h] }
  else (if e.state = .x then { e with state := .o } else e).addSharer h rank small

/-- A host agent drops one half: the other half's state stands. -/
def DirEntry.hostDrops (e : DirEntry) (h : Nat) (half : Bool) : DirEntry :=
  let known := e.ptrs.contains h || (e.bcast && decide (0 < e.granted h))
  let e := e.grantHalf h half 0
  if e.granted h = 0 then (if known then e.remove h else e)
  else if e.owner = some h && e.granted h = 1 then { e with state := .s }
  else e

/-- A host request ends (R345). -/
def State.endHost (s : State) (line : Nat) (o : Obj) (p : Side) (half : Bool) (r : HostReq) : State :=
  let h := ptrHost p
  let cmp := fun (s : State) (n : Nat) => s.emit (.cxlCmp p line half n)
  let own := fun (s : State) =>
    let fresh := (s.dirE line).state = .i
    let s := s.modDir line fun e =>
      { (e.grantHalf h half 2).toX h with ctx := o.owner, age := if fresh then s.coh.nextAge else e.age, pred := if fresh then 0 else e.pred }
    if fresh then s.modCoh fun c => { c with nextAge := c.nextAge + 1 } else s
  let share := fun (s : State) =>
    let e := s.dirE line
    let x := e.hostShares h half (s.agentRank o) (decide (s.domainSize o ≤ 64))
    if e.state = .i then
      (s.setDir line { x with ctx := o.owner, age := s.coh.nextAge, pred := 0 }).modCoh fun c => { c with nextAge := c.nextAge + 1 }
    else s.setDir line x
  match r with
  | .memRd .a | .memRdData .a => (cmp (own s) 2).hostData p line half
  | .memRd .s => (cmp (share s) 1).hostData p line half
  | .memRd .i | .memRdData _ => (cmp s 0).hostData p line half
  | .memInv .a => cmp (own s) 2
  | .memInv .s => cmp s 0
  | .memInv .i | .memClnEvct => cmp (s.modDir line fun e => e.hostDrops h half) 0
  | .memWr m d bad =>
    let s := (if bad then s.aerAdvisory p else s).hostPut line half d bad
    match m with
    | .i => cmp (s.modDir line fun e => e.hostDrops h half) 0
    | .s => cmp (share s) 0
    | .a => cmp s 0
  | .biConflict => cmp s 3

/-- The last step of an operation whose answers are all in; an access waits for its group instead. -/
def State.finishBlock (s : State) (line : Nat) : State :=
  let e := s.dirE line
  if !e.awaits.isEmpty then s
  else
    match e.blocked, s.window line with
    | some (.access _ w), _ => s.setDir line { (if w then { e.free with ctx := e.ctx } else e) with ready := true }
    | some (.host p half r), some o =>
      let s := match r with
        | .memRd .a | .memRdData .a | .memInv .a =>
          s.setDir line { e.free with blocked := .none, halves := e.halves.filter fun x => x.1 = ptrHost p }
        | _ => s.setDir line { e with blocked := .none }
      (s.endHost line o p half r).drain line
    | some .evict, _ => (s.setDir line { e.free with blocked := .none }).drain line
    | some (.forAgent op r ctx), some o =>
      let e := { e with blocked := .none }
      let s := s.setDir line { e with queue := [] }
      let s := if s.hostFirst o e op r then s.setDir line { e with queue := [.block (.forAgent .rdx r ctx)] } else s.request1 line o op r
      (s.modDir line fun x => { x with queue := x.queue ++ e.queue }).drain line
    | some _, none => (s.setDir line { e with blocked := .none }).drain line
    | none, _ => s.drain line

/-- A host request that asks for S or exclusive state on a line without an entry. -/
def BlockOp.allocates : BlockOp → Bool
  | .host _ _ (.memRd .a) | .host _ _ (.memRd .s) | .host _ _ (.memRdData .a) | .host _ _ (.memInv .a) | .host _ _ (.memWr .s _ _) => true
  | _ => false

/-- A blocking operation at the head of a line's queue starts once PENDING is clear (R342); one that needs an entry in a full set waits
until one is free (R331). -/
def State.startBlock (s : State) (line : Nat) : State :=
  let e := s.dirE line
  if e.blocked.isSome || !e.awaits.isEmpty then s
  else
    match e.queue, s.window line with
    | .block b :: t, some o =>
      if b.allocates && e.state = .i && decide ((s.setEntries o.owner line).length ≥ 16) then s.makeRoom o.owner line
      else
      ((s.setDir line { e with blocked := some b, ready := false, queue := t }).beginBlock line o b).finishBlock line
    | .block _ :: t, none => s.setDir line { e with queue := t }
    | _, _ => s

/-! ### Answers (R339, R340) -/

/-- The oldest answer awaited from an agent that a test accepts. -/
def DirEntry.awaited (e : DirEntry) (p : Await → Bool) : Option Await := e.awaits.find? p

/-- An awaited answer has come. -/
def State.answered (s : State) (line : Nat) (a : Await) : State :=
  let s := s.modDir line fun e => { e with awaits := e.awaits.erase a }
  let s := s.endTrans line a.trans
  let e := s.dirE line
  if e.blocked.isSome && e.awaits.isEmpty then s.finishBlock line
  else if e.awaits.isEmpty then s.retryFull
  else s

/-- A deferred answer is counted (R334). -/
def State.countLate (s : State) (late : Bool) : State :=
  if late then s.modCoh fun c => { c with deferred := satAdd 65535 c.deferred 1 } else s

/-- InvAck, and Miss from a sharer (R339). -/
def State.takeInvAck (s : State) (line src : Nat) : State :=
  match (s.dirE line).awaited fun a => a.agent = src && a.kind = .inv with
  | some a =>
    let s := if (s.dirE line).blocked.isSome then s.modDir line fun e => if e.ptrs.contains src then e.remove src else e else s
    s.answered line a
  | none => s.protoError

/-- Miss from the owner of record: the line is poisoned, and a requester gets it with its marks (R339). -/
def State.takeMiss (s : State) (line src : Nat) : State :=
  match (s.dirE line).awaited fun a => a.agent = src && a.kind ≠ .inv with
  | none => s.takeInvAck line src
  | some a =>
    if a.kind = .snpCur && (s.dirE line).owner ≠ some src then
      -- from a sharer: taken as InvAck
      (s.modDir line fun e => if e.ptrs.contains src then e.remove src else e).answered line a
    else
    let s := s.poisonLine line
    let s := match a.kind with
      | .fwds => s.sendLine a.req .datas line true
      | .fwdx =>
        let more := (s.dirE line).awaits.any fun b => b.trans = a.trans && b ≠ a
        if more then s.sendLine a.req .datam line false
        else
          (s.sendLine a.req .datam line true).modDir line fun e => { e with trans := e.trans.filter fun t => t.1 ≠ a.trans }
      | _ => s
    let (owner, rank, small) := match s.window line with
      | some o => (aOwner o.attr, s.agentRank o, decide (s.domainSize o ≤ 64))
      | none => (false, fun _ => 0, false)
    let s := s.modDir line fun e =>
      match a.kind with
      | .fwdx => if owner then e.toX a.req else e
      | .fwds =>
        -- in a HOME window the requester is a sharer of record already
        let e := if e.owner = some src then { e with state := .s, ptrs := e.ptrs.tail, halves := e.halves.filter fun x => x.1 ≠ src } else e
        if owner then e.addSharer a.req rank small else e
      | _ => if e.ptrs.contains src then e.remove src else e
    s.answered line a

/-- FwdDone (R337, R339): the forward is found by the requester it served. -/
def State.takeFwdDone (s : State) (line src req : Nat) (k : FwdKind) : State :=
  match (s.dirE line).awaited fun a => a.req = req && (a.kind = .fwds || a.kind = .fwdx) with
  | none => s.protoError
  | some a =>
    match s.window line with
    | none => s.answered line a
    | some o =>
      let own := aOwner o.attr
      let small := decide (s.domainSize o ≤ 64)
      let s := match k with
        | .keep => if own then s.modDir line fun e => { e with state := .o }.addSharer req (s.agentRank o) small else s
        | .pass =>
          s.modDir line fun e =>
            if e.owner = some src then
              { e with
                state := .o, ptrs := req :: (e.ptrs.filter fun x => x ≠ src && x ≠ req)
                count := if e.bcast && !own then e.count - 1 else e.count }
            else e
        | .gone => if own then s.modDir line fun e => e.toX req else s
      let s := if own && k ≠ .keep then s.tellAgent src .fwdDoneAck line else s
      s.answered line a

/-- SnpRsp (R339). -/
def State.takeSnpRsp (s : State) (line src : Nat) (data : List Byte) (marks : Nat) (keep : Bool) : State :=
  match (s.dirE line).awaited fun a => a.agent = src && (a.kind = .snpCur || a.kind = .snpRecall) with
  | none => s.protoError
  | some a =>
    let s := s.setMem (s.mem.putLine line data marks)
    let s := if keep then s else s.modDir line fun e => if e.ptrs.contains src then e.remove src else e
    s.answered line a

/-- The entry after a host's answer in a state: 0 I, 1 S, 2 E (R345). -/
def DirEntry.hostState (e : DirEntry) (h st : Nat) : DirEntry :=
  if st = 0 then (if e.ptrs.contains h then e.remove h else e)
  else if st = 1 && e.owner = some h then
    { e with state := .s, halves := e.halves.map fun x => if x.1 = h then (x.1, x.2.1, 1) else x }
  else e

/-- A back-invalidate response for one half (R345). -/
def State.takeBiRsp (s : State) (line : Nat) (p : Side) (rsp : CxlMeta) : State :=
  let st := match rsp with | .i => 0 | .s => 1 | .a => 2
  match (s.dirE line).awaited fun a => a.agent = ptrHost p && (match a.kind with | .bisnp _ => true | _ => false) with
  | none => s.protoError
  | some a =>
    let best := max (a.halves % 4) st
    if a.halves / 4 = 0 then
      s.modDir line fun e => { e with awaits := e.awaits.map fun b => if b = a then { b with halves := 4 + best } else b }
    else
      let s := s.modDir line fun e => e.hostState (ptrHost p) (if a.kind = .bisnp false then 0 else best)
      s.answered line a

/-- A Put (R340): stale when its sender holds nothing of record or has an answer outstanding. -/
def State.takePut (s : State) (line src : Nat) (op : CohOp) (data : List Byte) (marks : Nat) : State :=
  let e := s.dirE line
  let stale := !e.holds src || e.awaits.any fun a => a.agent = src
  if stale then
    (s.tellAgent src .stalePutAck line).modCoh fun c => { c with stalePut := satAdd 65535 c.stalePut 1 }
  else
    let s := if op = .putm || op = .puto then s.setMem (s.mem.putLine line data marks) else s
    ((s.setDir line (e.remove src)).tellAgent src .putAck line).retryFull

/-! ### Dead agents (R347 to R349) -/

/-- The home answers for a dead agent what it awaits of it (R347). -/
def State.answerDead (s : State) (line : Nat) : Nat → State
  | 0 => s
  | n + 1 =>
    match (s.dirE line).awaits.find? fun a => s.coh.dead.contains a.agent with
    | none => s
    | some a =>
      let s := match a.kind with
        | .inv => s.takeInvAck line a.agent
        | .bisnp d =>
          if d || (s.dirE line).owner = some a.agent then s.takeMiss line a.agent
          else (s.modDir line fun e => e.hostState a.agent 0).answered line a
        | _ => s.takeMiss line a.agent
      s.answerDead line n

/-- What follows a home's command on a line: dead agents are answered for. -/
def State.settleLine (s : State) (line : Nat) : State :=
  if s.coh.dead.isEmpty then s else s.answerDead line ((s.dirE line).awaits.length + 1)

/-- A dead agent's pointers on one line are swept (R348). -/
def State.sweepLine (s : State) (a line : Nat) : State :=
  let e := s.dirE line
  if e.owner = some a then
    match e.state, (e.sharers.filter fun x => !s.coh.dead.contains x) with
    | .o, live :: _ => (s.setDir line { e with state := .s, ptrs := e.ptrs.tail }).ask line live .snpCur 0 0
    | _, _ => (s.poisonLine line).setDir line e.free
  else if e.ptrs.contains a then s.setDir line (e.remove a)
  else if e.bcast && isCache a then
    match s.window line with
    | some o => s.setDir line { e with presence := setBit e.presence (s.agentRank o a) false }
    | none => s
  else s

/-- The sweep of a dead agent over the lines of windows whose domain has 64 devices or fewer; `all` sweeps every line, as at
the agent's return (R349). -/
def State.sweep (s : State) (a : Nat) (all : Bool) : State :=
  let lines := s.coh.dir.filterMap fun (k, _) =>
    match s.window (128 * k) with
    | some o => if all || s.domainSize o ≤ 64 then some (128 * k) else none
    | none => none
  let s := lines.foldl (fun s l => s.sweepLine a l) s
  s.modCoh fun c => { c with sweep := some (s.time.now + 328) }

/-- An agent is declared dead at this home (R347). -/
def State.declareDead (s : State) (st a : Nat) : State :=
  if s.coh.dead.contains a then s
  else
    let s := s.modCoh fun c =>
      { c with
        deadAgent := a, deadCount := satAdd 255 c.deadCount 1, deadStamp := st, timeouts := satAdd 65535 c.timeouts 1
        dead := c.dead ++ [a] }
    let s := s.chip 1 a
    let s := (s.coh.dir.map fun x => 128 * x.1).foldl (fun s l => s.settleLine l) s
    s.sweep a false

/-- The devices or ports of agents have returned: the dead among them may come back (R349). -/
def State.comeBack (s : State) (l : List Nat) : State :=
  s.modCoh fun c => { c with back := (c.back ++ l.filter fun a => c.dead.contains a).eraseDups }

/-- A dead agent that has not come back is not served. -/
def State.stillDead (s : State) (a : Nat) : Bool := s.coh.dead.contains a && !s.coh.back.contains a

/-- A dead agent's first request after its return: its pointers are swept before it is served (R349). -/
def State.reviveAgent (s : State) (a : Nat) : State :=
  if s.coh.dead.contains a then (s.sweep a true).modCoh fun c => { c with dead := c.dead.erase a, back := c.back.erase a } else s

/-- HOME_TIMEOUT: an answer has not come by the end of the fourth tick after the tick of its sending; a host's timer stops
while its port holds (R346, R347). -/
def homeTimeout (a : Nat) (s : State) : State :=
  let held := isHost a && (s.port (Side.ofBool (a % 2 = 1))).holding
  let due := s.coh.dir.any fun (_, e) => e.awaits.any fun w => w.agent = a && decide (s.time.bnd ≥ w.sentAt + 5)
  if due && !held && !s.coh.dead.contains a then s.stamped (.homeTimeout a) fun st s => s.declareDead st a else s

/-! ### Uncached accesses of commands (R325, R342) -/

/-- Lines that stand in the way of an uncached access of ranges: read, and written. -/
def State.inTheWay (s : State) (reads writes : List (Nat × Nat)) : List (Nat × Bool) :=
  let hit := fun (l : List (Nat × Nat)) (a : Nat) => l.any fun (b, n) => decide (b < a + 128) && decide (a < b + n)
  s.coh.dir.filterMap fun (k, e) =>
    let a := 128 * k
    let busy := e.blocked.isSome || !e.awaits.isEmpty
    if s.coh.serving.contains a then none
    else if hit writes a && (e.state ≠ .i || busy) then some (a, true)
    else if hit reads a && (e.owner.isSome || busy) then some (a, false)
    else none

/-- The access waits: one blocking operation on each line, as one group. -/
def State.deferAccess (s : State) (w : Waiting) (lines : List (Nat × Bool)) : State :=
  let g := s.coh.nextGroup
  let s := s.modCoh fun c => { c with groups := c.groups ++ [(g, w)], nextGroup := g + 1 }
  lines.foldl (fun s (a, wr) => s.modDir a fun e => { e with queue := e.queue ++ [.block (.access g wr)] }) s

/-- Accesses that each are made, however alike: those that a host, a peer or the management controller asked for. -/
def Waiting.mayRepeat : Waiting → Bool
  | .access _ _ _ | .unsupported _ => true
  | .engineUnit _ _ _ _ => false
  | .cmd (.write _ _ _) | .cmd (.read _ _) | .cmd (.debugRead _ _ _) | .cmd (.debugWrite _ _ _) => true
  | .cmd _ => false

/-- Do an uncached access of ranges, or have it wait for the lines that agents hold; what Harson itself does waits once. -/
def State.uncached (s : State) (w : Waiting) (reads writes : List (Nat × Nat)) (k : State → State) : State :=
  match s.inTheWay reads writes with
  | [] => k s
  | l => if !w.mayRepeat && s.coh.groups.any fun x => x.2 = w then s else s.deferAccess w l

/-- The group of a line's operation whose every line is ready: its number, its lines and what waits. -/
def State.readyGroup (s : State) (line : Nat) : Option (Nat × List Nat × Waiting) :=
  match (s.dirE line).blocked with
  | some (.access g _) =>
    let mine := s.coh.dir.filter fun (_, e) =>
      (match e.blocked with | some (.access h _) => h = g | _ => false) ||
        e.queue.any fun q => match q with | .block (.access h _) => h = g | _ => false
    let ready := mine.all fun (_, e) => e.ready && (match e.blocked with | some (.access h _) => h = g | _ => false)
    if ready then (s.coh.groups.find? fun x => x.1 = g).map fun x => (g, mine.map fun y => 128 * y.1, x.2) else none
  | _ => none

/-- The lines of a group that has been served are unblocked. -/
def State.releaseGroup (s : State) (g : Nat) (lines : List Nat) : State :=
  let s := s.modCoh fun c => { c with groups := c.groups.filter fun x => x.1 ≠ g, serving := [] }
  lines.foldl (fun s l => (s.modDir l fun e => { e with blocked := .none, ready := false }).drain l) s

end Sys2Proof.Machine
end

