-- ==== Sys2Proof/Machine/CohAgent.lean ====
section
/-! DEFINITION. Caching agents of this device, its embedded host cores and its remote line cache (R333 to R336, R350), and the
meanings of the coherence commands. -/

namespace Sys2Proof.Machine

/-! ### Lines of an agent -/

/-- An agent's pointer as a home names it (R324). -/
def State.ptrOf (s : State) : Agent → Nat
  | .core n => n.val
  | .cache => ptrCache s.fab.device

/-- A line of which an agent holds nothing. -/
def AgentLine.none (a : Agent) (home line : Nat) : AgentLine :=
  { agent := a, home := home, line := line, ctx := 0, state := .i, data := [], marks := 0, hold := false, deferred := [],
    passed := .none, gotStale := false, owed := false, reads := 0, stores := [], evicts := 0, since := 0 }

/-- An agent's line. -/
def State.aline (s : State) (a : Agent) (home line : Nat) : AgentLine :=
  (s.coh.lines.find? fun x => x.agent = a && x.home = home && x.line = line).getD (.none a home line)

/-- An agent's line put back; one in I with nothing under way is not listed. -/
def State.setAline (s : State) (x : AgentLine) : State :=
  let rest := s.coh.lines.filter fun y => !(y.agent = x.agent && y.home = x.home && y.line = x.line)
  s.modCoh fun c =>
    { c with lines := if x.state = .i && x.reads = 0 && x.stores.isEmpty && x.deferred.isEmpty then rest else rest ++ [x] }

/-- A request of an agent, which its home answers (R333). -/
def CohOp.asks : CohOp → Bool
  | .rds | .rdx | .upg | .puts | .pute | .puto | .putm => true
  | _ => false

/-- A message of an agent to the line's home. -/
def State.toHome (s : State) (x : AgentLine) (op : CohOp) (data : List Byte) (marks req : Nat) (late : Bool) : State :=
  let s := if !op.asks then s
    else s.modCoh fun c => { c with
      lines := c.lines.map fun y => if y.agent = x.agent && y.home = x.home && y.line = x.line then { y with since := s.time.bnd } else y }
  s.sendCoh x.home
    { op := op, home := x.home, line := x.line, src := some (s.ptrOf x.agent), dst := none, req := req, owner := false,
      data := data, marks := marks, done := false, late := late }

/-- A message of an agent to another agent of the line's home. -/
def State.toPeer (s : State) (x : AgentLine) (ptr : Nat) (op : CohOp) (data : List Byte) (marks req : Nat) (owner : Bool) : State :=
  s.sendCoh (agentDev x.home ptr)
    { op := op, home := x.home, line := x.line, src := some (s.ptrOf x.agent), dst := some ptr, req := req, owner := owner,
      data := data, marks := marks, done := false, late := false }

/-! ### Stable lines -/

/-- A stored list of bytes laid over a line. -/
def overlay (data : List Byte) (off : Nat) (d : List Byte) : List Byte := data.take off ++ d ++ data.drop (off + d.length)

/-- The marks after a store: a 32-byte word that it replaces whole is clean (R351). -/
def storeMarks (marks off len : Nat) : Nat :=
  (List.range 4).foldl (fun m i => if off ≤ 32 * i && 32 * i + 32 ≤ off + len then setBit m i false else m) marks

/-- One waiting store done in a line held in M. -/
def AgentLine.store (x : AgentLine) (off : Nat) (d : List Byte) : AgentLine :=
  { x with data := overlay x.data off d, marks := storeMarks x.marks off d.length }

/-- What waits on a line that has become stable is served, or asks the home (R333). -/
def State.settleAline (s : State) (x : AgentLine) : State :=
  let valid := x.state = .s || x.state = .e || x.state = .o || x.state = .m
  if valid then
    let s := s.emits (List.replicate x.reads (.agentData x.agent x.home x.line x.data x.marks))
    let x := { x with reads := 0 }
    if x.stores.isEmpty then s.setAline x
    else if x.state = .e || x.state = .m then
      s.setAline { (x.stores.foldl (fun x (o, d) => x.store o d) x) with state := .m, stores := [] }
    else if x.state = .s then (s.setAline { x with state := .smO }).toHome x .upg [] 0 0 false
    else (s.setAline { x with state := .omO }).toHome x .upg [] 0 0 false
  else if x.state = .i then
    if !x.stores.isEmpty then (s.setAline { x with state := .imD }).toHome x .rdx [] 0 0 false
    else if x.reads > 0 then (s.setAline { x with state := .isD }).toHome x .rds [] 0 0 false
    else s.setAline x
  else s.setAline x

/-! ### Local events (R327, R333) -/

/-- A context's accesses through the remote line cache are uncached when it holds no bank (R327). -/
def State.banked (s : State) (a : Agent) (ctx : Nat) : Bool := a ≠ .cache || decide ((Tbl.get (0, 0) s.coh.parts ctx).2 > 0)

/-- The place of a line's data packet when an access is made uncached. -/
def State.uncachedRead (s : State) (a : Agent) (home line : Nat) : State :=
  match s.fab.have_.find? fun (_, g) => g.dev = home && decide (g.base ≤ line) && decide (line < g.base + g.size) with
  | some (_, g) =>
    let t := s.fab.nextTag % 4096
    (s.modFab fun f => { f with nextTag := f.nextTag + 1, bypass := f.bypass ++ [(home, t, a, line)] }).fabSend home
      { plainPkt K.read [128] with grant := g.id, ggen := g.ggen, tag := t, addr := line }
  | none => s

def State.uncachedWrite (s : State) (home line : Nat) (off : Nat) (data : List Byte) : State :=
  match s.fab.have_.find? fun (_, g) => g.dev = home && decide (g.base ≤ line) && decide (line < g.base + g.size) with
  | some (_, g) =>
    s.fabSend home { plainPkt K.write [] with grant := g.id, ggen := g.ggen, addr := line + off, data := data }
  | none => s

/-- A context's banks are full: its oldest stable line leaves first (R327; the victim is a DESIGN CHOICE, log entry 25). -/
def State.evictFor (s : State) (a : Agent) (ctx : Nat) (evict : State → AgentLine → State) : State :=
  let mine := s.coh.lines.filter fun x => x.agent = .cache && x.ctx = ctx
  if a = .cache && decide (mine.length ≥ 4096 * (Tbl.get (0, 0) s.coh.parts ctx).2) then
    match mine.find? fun x => x.state = .s || x.state = .e || x.state = .o || x.state = .m with
    | some x => evict s x
    | none => s
  else s

/-- An eviction: the matching Put (R333). -/
def State.evictLine (s : State) (x : AgentLine) : State :=
  match x.state with
  | .s => (s.setAline { x with state := .siA }).toHome x .puts [] 0 0 false
  | .e => (s.setAline { x with state := .eiA }).toHome x .pute [] 0 0 false
  | .o => (s.setAline { x with state := .oiA }).toHome x .puto x.data x.marks 0 false
  | .m => (s.setAline { x with state := .miA }).toHome x .putm x.data x.marks 0 false
  | _ => s

/-- AGENT_READ. -/
def agentRead (a : Agent) (ctx home line : Nat) (s : State) : State :=
  if !s.banked a ctx then s.uncachedRead a home line
  else
    let x := s.aline a home line
    let s := if x.state = .i then s.evictFor a ctx State.evictLine else s
    let y := { x with reads := x.reads + 1, ctx := ctx }
    match x.state with
    | .i | .s | .e | .o | .m => s.settleAline y
    | _ => s.setAline y

/-- AGENT_WRITE. -/
def agentWrite (a : Agent) (ctx home line off : Nat) (data : List Byte) (s : State) : State :=
  if !s.banked a ctx then s.uncachedWrite home line off data
  else
    let x := s.aline a home line
    let s := if x.state = .i then s.evictFor a ctx State.evictLine else s
    let y := { x with stores := x.stores ++ [(off, data)], ctx := ctx }
    match x.state with
    | .i | .s | .e | .o | .m => s.settleAline y
    | _ => s.setAline y

/-- AGENT_EVICT. -/
def agentEvict (a : Agent) (home line : Nat) (s : State) : State := s.evictLine (s.aline a home line)

/-! ### What the home and other agents ask (R334, R335) -/

/-- A line whose Invs, forwards and snoops wait (R334). -/
def AgentLine.defers (x : AgentLine) (m : CohMsg) : Bool :=
  let fwd := m.op = .fwds || m.op = .fwdx
  match x.state with
  | .isD | .imD | .imA _ | .xmG => true
  | .omO => fwd && m.owner
  | .i => false
  | _ => x.hold

/-- A forward or snoop finds no copy to serve. -/
def State.missHome (s : State) (x : AgentLine) (star late : Bool) : State := s.toHome x (.miss star) [] 0 0 late

/-- The owner serves FwdS or FwdX: data to the requester, FwdDone to the home. -/
def State.passData (s : State) (x : AgentLine) (r : Nat) (op : CohOp) (k : FwdKind) (late : Bool) : State :=
  (s.toPeer x r op x.data x.marks 0 false).toHome x (.fwdDone k) [] 0 r late

/-- A message that the agent does not defer (R335). -/
def State.agentTake (s : State) (x : AgentLine) (m : CohMsg) (late : Bool) : State :=
  let r := m.req
  let gone := fun (st : LineState) => { x with state := st, passed := some r, owed := m.owner }
  match m.op with
  | .inv =>
    match x.state with
    | .i | .iF | .siA | .iiA => s.toHome x .invAck [] 0 0 late
    | .s => (s.settleAline { x with state := .i, hold := false }).toHome x .invAck [] 0 0 late
    | .smO => (s.setAline { x with state := .imD }).toHome x .invAck [] 0 0 late
    | _ => s.missHome x true late
  | .fwds =>
    match x.state with
    | .i => s.missHome x false late
    | .e | .o | .m => (s.settleAline { x with state := .o }).passData x r .datas .keep late
    | .omO => s.passData x r .datas .keep late
    | .eiA | .oiA | .miA => (s.setAline (gone .iiA)).passData x r .datao .pass late
    | .iF | .iiA =>
      match x.passed with
      | some n => if m.owner then s.toPeer x n .fwds [] 0 r true else s.missHome x true late
      | none => s.missHome x true late
    | _ => s.missHome x true late
  | .fwdx =>
    match x.state with
    | .i => s.missHome x false late
    | .e => ((if m.owner then s.setAline (gone .iF) else s.settleAline { x with state := .i, hold := false }).passData
        x r .datae .gone late)
    | .o | .m => ((if m.owner then s.setAline (gone .iF) else s.settleAline { x with state := .i, hold := false }).passData
        x r .datam .gone late)
    | .omO => (s.setAline { x with state := .imD }).passData x r .datam .gone late
    | .eiA => (s.setAline (gone .iiA)).passData x r .datae .gone late
    | .oiA | .miA => (s.setAline (gone .iiA)).passData x r .datam .gone late
    | .iF | .iiA =>
      match x.passed with
      | some n => if m.owner then s.toPeer x n .fwdx [] 0 r true else s.missHome x true late
      | none => s.missHome x true late
    | _ => s.missHome x true late
  | .snpCur =>
    match x.state with
    | .i => s.missHome x false late
    | .s | .e | .o | .omO => s.toHome x (.snpRsp true) x.data x.marks 0 late
    | .m => (s.setAline { x with state := .e }).toHome x (.snpRsp true) x.data x.marks 0 late
    | .eiA | .oiA | .miA => (s.setAline { x with state := .iiA }).toHome x (.snpRsp false) x.data x.marks 0 late
    | _ => s.missHome x true late
  | .snpRecall =>
    match x.state with
    | .i => s.missHome x false late
    | .e | .o | .m =>
      (s.settleAline { x with state := .i, hold := false }).toHome x (.snpRsp false) x.data x.marks 0 late
    | .omO => (s.setAline { x with state := .imD }).toHome x (.snpRsp false) x.data x.marks 0 late
    | .eiA | .oiA | .miA => (s.setAline { x with state := .iiA }).toHome x (.snpRsp false) x.data x.marks 0 late
    | _ => s.missHome x true late
  | _ => s

/-- An Inv, a forward or a snoop reaches an agent. -/
def State.agentAsked (s : State) (a : Agent) (m : CohMsg) : State :=
  let x := s.aline a m.home m.line
  if x.defers m then s.setAline { x with deferred := x.deferred ++ [m] } else s.agentTake x m false

/-- The deferred messages of a line are served in arrival order (R334). -/
def State.serveDeferred (s : State) (a : Agent) (home line : Nat) : Nat → State
  | 0 => s
  | n + 1 =>
    let x := s.aline a home line
    match x.deferred with
    | [] => s
    | m :: t =>
      let y := { x with deferred := t }
      if y.defers m then s else (((s.setAline y).agentTake y m true)).serveDeferred a home line n

/-- WIN_HOLD_EXPIRY. -/
def winHoldExpiry (a : Agent) (home line : Nat) (s : State) : State :=
  let x := s.aline a home line
  if x.hold then (s.setAline { x with hold := false }).serveDeferred a home line (x.deferred.length + 1) else s

/-- A line becomes stable by data, AckDone or Grant; one that is won is held for 256 HCLK, another serves what it deferred
at once (R334; DEDUCED, log entry 26). -/
def State.reach1 (s : State) (x : AgentLine) (st : LineState) (won : Bool) : State :=
  let s := s.settleAline { x with state := st, hold := won }
  if won then s else s.serveDeferred x.agent x.home x.line (x.deferred.length + 1)

/-- A response that its line's state does not expect (R336). -/
def State.unexpected (s : State) : State := s.protoError

/-- Data arrives (R336). -/
def State.takeData (s : State) (a : Agent) (home line : Nat) (op : CohOp) (data : List Byte) (marks : Nat) (done : Bool) : State :=
  let x := { s.aline a home line with data := data, marks := marks }
  match (s.aline a home line).state, op with
  | .isD, .datas => s.reach1 x .s done
  | .isD, .datao => s.reach1 x .o done
  | .isD, .datae => if done then s.reach1 x .e true else s.setAline { x with state := .imA false }
  | .isD, .datam => if done then s.reach1 x .m true else s.setAline { x with state := .imA true }
  | .imD, .datae | .imD, .datam => if done then s.reach1 x .m true else s.setAline { x with state := .imA true }
  | _, _ => s.unexpected

/-- UpgAck, Grant, AckDone, PutAck, StalePutAck and FwdDoneAck arrive (R336). -/
def State.takeAck (s : State) (a : Agent) (home line : Nat) (op : CohOp) : State :=
  let x := s.aline a home line
  match x.state, op with
  | .imA m, .ackDone => s.reach1 x (if m then .m else .e) true
  | .smO, .upgAck | .omO, .upgAck => s.setAline { x with state := .xmG }
  | .xmG, .grant => s.reach1 x .m true
  | .siA, .putAck | .eiA, .putAck | .oiA, .putAck | .miA, .putAck => s.settleAline { x with state := .i, passed := none }
  | .iiA, .stalePutAck =>
    if x.owed then s.setAline { x with gotStale := true } else s.settleAline { x with state := .i, passed := none }
  | .iiA, .fwdDoneAck =>
    if x.gotStale then s.settleAline { x with state := .i, passed := none, gotStale := false, owed := false }
    else s.setAline { x with owed := false }
  | .iF, .fwdDoneAck => s.settleAline { x with state := .i, passed := none, owed := false }
  | _, _ => s.unexpected

/-- Every line that the remote line cache holds for a home is dropped, and the accesses that wait on them fail (R350). -/
def State.dropLines (s : State) (home : Nat) : State :=
  let mine := s.coh.lines.filter fun x => x.agent = .cache && x.home = home
  let waits := mine.filter fun x => decide (0 < x.reads + x.stores.length)
  (s.modCoh fun c =>
    { c with
      lines := c.lines.filter fun x => !(x.agent = .cache && x.home = home)
      drops := satAdd 65535 c.drops mine.length }).emits
    (waits.map fun x => .agentFail x.agent home x.line E.linkLost (x.reads + x.stores.length))

/-- A request of the line is unanswered. -/
def AgentLine.unanswered (x : AgentLine) : Bool :=
  match x.state with
  | .isD | .imD | .smO | .omO | .siA | .eiA | .oiA | .miA => true
  | _ => false

/-- RLC_HOME_TIMEOUT: a home has left a request unanswered for 4 ticks (R350). -/
def rlcHomeTimeout (home : Nat) (s : State) : State :=
  if s.coh.lines.any fun x => x.agent = .cache && x.home = home && x.unanswered && decide (s.time.bnd ≥ x.since + 5) then s.dropLines home
  else s

/-! ### Requests at the home -/

/-- The grant that a packet carries admits an access of a kind (R378): enabled, current, held by the source, the range inside
the window, with the right. Rights: bit 0 READ, 1 WRITE, 2 ATOMIC. -/
def State.grantOk (s : State) (h : FabHdr) (len right : Nat) : Bool :=
  let g := s.grant h.grant
  let base := (s.obj (g.target % 2 ^ 22)).base + g.offset
  g.enable && g.ggen = h.ggen && g.holder = h.src && !g.fence && tst g.rights right && decide (base ≤ h.addr) &&
    decide (h.addr + len ≤ base + 65536 * g.size64k)

/-- A refusal to the source of a packet (R367, R378). -/
def State.nakTo (s : State) (h : FabHdr) (code : Nat) : State :=
  s.fabSend h.src { plainPkt K.nak [] with tag := h.tag, addr := code, rgen := h.rgen }

/-- The right that a coherence request needs. -/
def cohRight : CohOp → Nat
  | .rdx | .upg | .puto | .putm => 1
  | _ => 0

/-- A request or Put of an agent reaches the home. -/
def State.homeTakes (s : State) (h : Option FabHdr) (src line : Nat) (op : CohOp) (k : Obj → State → State) : State :=
  match s.window line with
  | none => s.protoError
  | some o =>
    let granted := match h with | some h => s.grantOk h 128 (cohRight op) | none => true
    if !granted then (match h with | some h => s.nakTo h E.peerDenied | none => s)
    else if !s.admits o src then s.protoError
    else if s.stillDead src then s
    else k o (s.reviveAgent src)

/-- A caching request. -/
def homeRequest (h : Option FabHdr) (src line : Nat) (op : CohOp) (s : State) : State :=
  s.homeTakes h src line op fun o s => (s.request1 line o op src).settleLine line

/-- A Put. -/
def homePut (h : Option FabHdr) (src line : Nat) (op : CohOp) (data : List Byte) (marks : Nat) (s : State) : State :=
  s.homeTakes h src line op fun _ s => (s.takePut line src op data marks).settleLine line

/-- An answer at the home. -/
def homeAnswer (line : Nat) (late : Bool) (k : State → State) (s : State) : State := (k (s.countLate late)).settleLine line

/-- A coherence message arrives on the die or through the fabric (R332, R373). -/
def State.cohArrive (s : State) (c : Instr) (via : Option FabHdr) (op : CohOp) (k : State → State) : State :=
  match via with
  | none => k s
  | some h => s.arrive c h (cohKind op) k

/-! ### CXL.mem (R344 to R346) -/

/-- The line and half of device memory that an address of a committed HDM decoder names (R107). -/
def State.hdmLine (s : State) (p : Side) (dec addr : Nat) : Option Nat :=
  let r := Tbl.get Region.none (s.port p).regions (254 + dec)
  let size := (bits r.d0.toNat 39 20 + 1) * 2 ^ 21
  if r.enabled && tst r.d3.toNat 37 && tst r.d3.toNat 36 && decide (addr < size) then
    some ((s.obj (bits r.d1.toNat 21 0)).base + bits r.d2.toNat 63 21 * 2 ^ 21 + addr)
  else none

/-- A CXL.mem request of a port trained as CXL: a blocking operation on its line; an access to a decoder without an HDM
region is completed with poison (R107). -/
def hostRequest (p : Side) (dec addr : Nat) (r : HostReq) (s : State) : State :=
  if !((s.port p).up && (s.port p).cxl) then s
  else
    match s.hdmLine p dec addr with
    | none =>
      match r with
      | .memRd _ | .memRdData _ => (s.emit (.cxlCmp p addr false 0)).emit (.cxlData p addr false (List.replicate 64 0) true)
      | _ => s.emit (.cxlCmp p addr false 0)
    | some a =>
      let line := a - a % 128
      let half := decide (a % 128 ≥ 64)
      match s.window line with
      | none => s.protoError
      | some o =>
        if !s.admits o (ptrHost p) then s.protoError
        else if s.stillDead (ptrHost p) then s
        else
          let s := (s.reviveAgent (ptrHost p)).modDir line fun e => e.reached (ptrHost p)
          let e := s.dirE line
          let snooped := e.awaits.any fun w => w.agent = ptrHost p
          let mine := fun (b : BlockOp) => match b with | .host q h _ => q = p && h = half | _ => false
          let earlier := (match e.blocked with | some b => mine b | none => false) ||
            e.queue.any fun q => match q with | .block b => mine b | _ => false
          match r with
          | .memWr _ d bad =>
            if snooped then ((if bad then s.aerAdvisory p else s).hostPut line half d bad).emit (.cxlCmp p line half 0)
            else s.modDir line fun e => { e with queue := e.queue ++ [.block (.host p half r)] }
          | .biConflict =>
            if earlier then s.modDir line fun e => { e with queue := e.queue ++ [.block (.host p half r)] }
            else s.emit (.cxlCmp p line half 3)
          | _ => s.modDir line fun e => { e with queue := e.queue ++ [.block (.host p half r)] }

/-- BIRSP. -/
def biRsp (p : Side) (dec addr : Nat) (rsp : CxlMeta) (s : State) : State :=
  match s.hdmLine p dec addr with
  | none => s.protoError
  | some a => (s.takeBiRsp (a - a % 128) p rsp).settleLine (a - a % 128)

/-- The host of a port returns to L0 with snoops unanswered: each is issued again and its timer begins again (R346). -/
def State.reissueSnoops (s : State) (p : Side) : State :=
  s.coh.dir.foldl
    (fun s (k, e) =>
      e.awaits.foldl
        (fun s a =>
          match a.kind with
          | .bisnp d =>
            if a.agent = ptrHost p then
              (s.modDir (128 * k) fun e => { e with awaits := e.awaits.map fun b => if b = a then { b with sentAt := s.time.bnd, halves := 0 } else b }).snoopHost
                a.agent (128 * k) d
            else s
          | _ => s) s) s

end Sys2Proof.Machine
end

