-- ==== Sys2Proof/Machine/Arith.lean ====
section
/-! DEFINITION. Element formats and the arithmetic of copy engines (R262 to R264, R269 to R276, R283 to R286, R296). Every
quotient, product and sum is exact; each rounding is written where the manual asks for it. -/

namespace Sys2Proof.Machine

/-! ### Formats (R262, R263) -/

/-- Bits of one element of a format. -/
def fmtBits (f : Nat) : Nat := if f < 2 then 8 else if f < 4 then 4 else if f = 4 then 16 else 32

/-- An integer format of S8, U8, S4 or U4. -/
def fmtInt (f : Nat) : Bool := decide (f < 4)

/-- Bytes of `n` elements. -/
def fmtBytes (f n : Nat) : Nat := n * fmtBits f / 8

/-- The bytes to which an address must be aligned. -/
def fmtAlign (f : Nat) : Nat := if fmtBits f = 4 then 1 else fmtBits f / 8

/-- The least and greatest value of an integer format. -/
def fmtMin (f : Nat) : Int := if f = 0 then -128 else if f = 2 then -8 else 0
def fmtMax (f : Nat) : Int := if f = 0 then 127 else if f = 1 then 255 else if f = 2 then 7 else 15

/-- The value of an integer element from its bits. -/
def intOf (f v : Nat) : Int :=
  let h := 2 ^ (fmtBits f - 1)
  if (f = 0 || f = 2) && decide (v ≥ h) then (v : Int) - 2 * h else v

/-- The bits of an integer of a format. -/
def ofInt (bits : Nat) (v : Int) : Nat := (v % (2 ^ bits : Nat)).toNat

/-- A byte with whether it bears the poison mark. -/
abbrev PByte := Byte × Bool

/-- Elements of a format packed in bytes, each with whether any of its bytes is poisoned. -/
def unpack (f : Nat) (l : List PByte) : List (Nat × Bool) :=
  if fmtBits f = 4 then l.flatMap fun (b, p) => [(b.toNat % 16, p), (b.toNat / 16, p)]
  else
    let w := fmtBits f / 8
    (List.range (l.length / w)).map fun i =>
      let x := (l.drop (w * i)).take w
      (leNat (x.map (·.1)), x.any (·.2))

/-- Bytes of packed 4-bit elements. -/
def packNibbles : List (Nat × Bool) → List PByte
  | (a, p) :: (b, q) :: t => (BitVec.ofNat 8 (a % 16 + 16 * (b % 16)), p || q) :: packNibbles t
  | [(a, p)] => [(BitVec.ofNat 8 (a % 16), p)]
  | [] => []

/-- Elements packed in bytes. -/
def pack (f : Nat) (l : List (Nat × Bool)) : List PByte :=
  if fmtBits f = 4 then packNibbles l else l.flatMap fun (v, p) => (leBytes (fmtBits f / 8) v).map fun b => (b, p)

/-! ### Binary floating point -/

/-- A value of BF16 or FP32: m × 2^e with a sign. -/
inductive Num where
  | nan | inf (neg : Bool) | fin (neg : Bool) (m : Nat) (e : Int)
  deriving DecidableEq, Repr

/-- The value of FP32 bits. -/
def num32 (v : Nat) : Num :=
  let neg := v.testBit 31
  let x := bits v 30 23
  let f := v % 2 ^ 23
  if x = 255 then (if f = 0 then .inf neg else .nan) else if x = 0 then .fin neg f (-149) else .fin neg (f + 2 ^ 23) ((x : Int) - 150)

/-- The value of an element of BF16 or FP32. -/
def numOf (f v : Nat) : Num := if f = 4 then num32 (v * 65536) else num32 v

/-- num / den rounded to the nearest integer, ties to even. -/
def roundEven (num den : Nat) : Nat :=
  let q := num / den
  let r := num % den
  if 2 * r > den || (2 * r = den && q % 2 = 1) then q + 1 else q

/-- 2^k for a power that may be negative: what multiplies and what divides. -/
def pow2 (k : Int) : Nat × Nat := if k ≥ 0 then (2 ^ k.toNat, 1) else (1, 2 ^ (-k).toNat)

/-- m × 2^e, above zero, rounded to `p` significant bits, nearest with ties to even, with subnormals below 2^−126: the exponent
and fraction bits together, or none where the magnitude rounds to 2^128 or more. -/
def roundFloat (p m : Nat) (e : Int) : Option Nat :=
  let top : Int := (Nat.log2 m : Nat) + e
  let q : Int := max top (-126) - ((p : Int) - 1)
  let (a, b) := pow2 (e - q)
  let k := roundEven (m * a) b
  let v := (q + (p : Int) - 1 + 126).toNat * 2 ^ (p - 1) + k
  if v ≥ 255 * 2 ^ (p - 1) then none else some v

/-- An FP32 word of a sign and the lower bits; infinity where there are none. -/
def fp32 (neg : Bool) (v : Option Nat) : Nat := bit neg * 2 ^ 31 + v.getD (255 * 2 ^ 23)

/-- The canonical NaN of FP32. -/
def nan32 : Nat := 0x7FC00000

/-- An element as Harson writes it: a NaN of BF16 or FP32 is the canonical one (R262). -/
def canonical (f v : Nat) : Nat :=
  if f = 4 && numOf 4 v = .nan then 0x7FC0 else if f = 5 && numOf 5 v = .nan then nan32 else v

/-! ### Scales and products (R264, R296) -/

/-- A scale of R264. -/
def scaleLegal (s : Nat) : Bool := decide (bits s 14 7 ≤ 246)

/-- The significand and power of a BF16 value that is finite. -/
def scaleParts (s : Nat) : Bool × Nat × Int :=
  match numOf 4 s with
  | .fin neg m e => (neg, m, e)
  | _ => (false, 0, 0)

/-- A scale that is an integer of magnitude at most 2^16 (R264, ACCUMULATE into I32). -/
def scaleInteger (s : Nat) : Bool :=
  let (_, m, e) := scaleParts s
  let (a, b) := pow2 e
  m * a % b = 0 && decide (m * a / b ≤ 65536)

/-- An exact product: sign, significand, power. -/
structure Prod where
  neg : Bool
  m : Nat
  e : Int
  deriving DecidableEq, Repr

/-- An integer element times a scale. -/
def mulScale (v : Int) (s : Bool × Nat × Int) : Prod := ⟨(decide (v < 0)) != s.1, v.natAbs * s.2.1, s.2.2⟩

/-! ### QUANTIZE and DEQUANTIZE (R269, R270) -/

/-- One element quantised to a format: the value written, and whether it counts in SATURATED or in NAN_IN. -/
def quantize (f : Nat) (x : Num) (s : Bool × Nat × Int) : Int × Nat × Nat :=
  match x with
  | .nan => (0, 0, 1)
  | .inf neg => (if neg then fmtMin f else fmtMax f, 1, 0)
  | .fin neg m e =>
    let (a, b) := pow2 (e - s.2.2)
    let r : Int := roundEven (m * a) (s.2.1 * b)
    let q := if neg then -r else r
    if q > fmtMax f then (fmtMax f, 1, 0) else if q < fmtMin f then (fmtMin f, 1, 0) else (q, 0, 0)

/-- One element dequantised to BF16 or FP32 by a scale: its bits, and whether it counts in SATURATED. An element of value 0 gives +0; a
zero product of another keeps the product's sign. -/
def dequantize (f : Nat) (v : Int) (s : Bool × Nat × Int) : Nat × Nat :=
  let p := mulScale v s
  if v = 0 then (0, 0)
  else if p.m = 0 then (bit p.neg * 2 ^ (fmtBits f - 1), 0)
  else if f = 4 then
    match roundFloat 8 p.m p.e with
    | some v => (bit p.neg * 2 ^ 15 + v, 0)
    | none => (bit p.neg * 2 ^ 15 + 255 * 2 ^ 7, 1)
  else (fp32 p.neg (roundFloat 24 p.m p.e), 0)

/-! ### The additions (R272, R273, R276) -/

/-- The 24-bit significand and the exponent of step 2. -/
def sig32 (v : Nat) : Nat × Int :=
  let x := bits v 30 23
  if x = 0 then (v % 2 ^ 23, -126) else (v % 2 ^ 23 + 2 ^ 23, (x : Int) - 127)

/-- r = a ⊕ p of R273 on FP32 words, p not infinite and not NaN; and whether it counts in SATURATED. -/
def fpAdd (a p : Nat) : Nat × Nat :=
  let mag := fun (v : Nat) => v % 2 ^ 31
  if num32 a = .nan then (nan32, 0)
  else if mag a = 255 * 2 ^ 23 || mag p = 0 then (a, 0)
  else if mag a = 0 then (p, 0)
  else
    let (l, s) := if mag p > mag a then (p, a) else (a, p)
    let (ml, el) := sig32 l
    let (ms, es) := sig32 s
    let hi := ml * 8
    let lo := ms * 8 / 2 ^ (el - es).toNat
    let z := if l.testBit 31 = s.testBit 31 then hi + lo else hi - lo
    if z = 0 then (0, 0)
    else
      match roundFloat 24 z (el - 26) with
      | some v => (fp32 (l.testBit 31) (some v), 0)
      | none => (fp32 (l.testBit 31) none, 1)

/-- A product added into an FP32 element; a zero product changes nothing (R272). -/
def accFloat (old : Nat) (p : Prod) : Nat × Nat :=
  if p.m = 0 then (old, 0) else fpAdd old (fp32 p.neg (roundFloat 24 p.m p.e))

/-- A product, an integer, added into an I32 element with saturation (R276). -/
def accInt (old : Nat) (p : Prod) : Nat × Nat :=
  let (a, b) := pow2 p.e
  let v : Int := (p.m * a / b : Nat)
  let o : Int := if old < 2 ^ 31 then (old : Int) else (old : Int) - 2 ^ 32
  let sum := o + if p.neg then -v else v
  if sum > 2 ^ 31 - 1 then (2 ^ 31 - 1, 1) else if sum < -2 ^ 31 then (2 ^ 31, 1) else (ofInt 32 sum, 0)

/-- One term of COMBINE (R295, R296): a product to add, nothing, a flushed term, or a failure. -/
inductive Term where
  | add (p : Prod)
  | nothing | flushed | bad
  deriving DecidableEq, Repr

/-- The treatment of a weight, a row scale and an element. -/
def combineTerm (weight scale : Nat) (v : Int) : Term :=
  if !scaleLegal weight || !scaleLegal scale then .bad
  else
    let (n1, m1, e1) := scaleParts weight
    let (n2, m2, e2) := scaleParts scale
    let m := m1 * m2
    if m = 0 then .nothing
    else
      let top : Int := (Nat.log2 m : Nat) + (e1 + e2)
      if top < -134 then .flushed
      else if top ≥ 120 then .bad
      else if v = 0 then .nothing
      else .add (mulScale v (n1 != n2, m, e1 + e2))

/-! ### Sparsity (R283 to R286) -/

/-- The magnitude by which COMPACT ranks an element. -/
def magnitude (f v : Nat) : Nat :=
  if fmtInt f then (intOf f v).natAbs
  else
    let m := v % 2 ^ (fmtBits f - 1)
    let top := if f = 4 then 255 * 2 ^ 7 else 255 * 2 ^ 23
    if m > top then top + 1 else m

/-- The element at an index of a group ranks below `k` others: those of greater magnitude, and those equal and earlier. -/
def rankBelow (f : Nat) (g : List Nat) (i k : Nat) : Bool :=
  let v := magnitude f (g.getD i 0)
  decide (((List.range g.length).countP fun j =>
    let w := magnitude f (g.getD j 0)
    decide (w > v) || (w = v && decide (j < i))) < k)

/-- The indices that COMPACT keeps of a group, and the number of nonzero elements it drops. -/
def keepOf (f pattern cap : Nat) (g : List Nat) : List Nat × Nat :=
  let nz := fun i => decide (magnitude f (g.getD i 0) ≠ 0)
  let k := if pattern = 0 then cap else if pattern = 1 then 2 else 1
  let all := List.range g.length
  let kept := all.filter fun i => rankBelow f g i k && (pattern ≠ 0 || nz i)
  (kept, all.countP fun i => nz i && !kept.contains i)

/-- Bytes of one BLOCK64 record. -/
def recBytes (f cap : Nat) : Nat := 8 + 8 * ((cap * fmtBits f + 63) / 64)

end Sys2Proof.Machine
end

