-- ==== Sys2Proof/Machine/Objects.lean ====
section
/-! DEFINITION. Fences and their waiters, references of memory objects, and the trigger of a context's teardown (04). -/

namespace Sys2Proof.Machine

/-! ### Handles -/

/-- The index of a fence handle (R118). -/
def fIndex (h : Nat) : Nat := h % 2 ^ 20
/-- The TAG of a fence handle. -/
def fTag (h : Nat) : Nat := h / 2 ^ 20 % 4096
/-- A fence's handle. -/
def fHandle (i tag : Nat) : Nat := tag * 2 ^ 20 + i

/-- The fence that a handle names, when it is live, its TAG is current and no FENCE_FREE has been taken (R119, R142). -/
def State.fenceOf (s : State) (h : Nat) : Option Fence :=
  let f := s.fence (fIndex h)
  if f.live && f.tag = fTag h && !f.freeing && decide (h < 2 ^ 32) then some f else none

/-- A context may signal a fence (R139, R174). -/
def mayOwn (priv : Bool) (slot owner : Nat) : Bool := if priv then decide (owner < 2) else decide (slot = owner)

/-- A context may wait on a fence (R139). -/
def mayWait (slot share : Nat) (f : Fence) : Bool :=
  decide (f.owner = slot) || (decide (f.share ≠ 0) && decide (f.share = share))

/-! ### Changing one command of a queue -/

/-- The admitted command whose head slot stands at an absolute position. -/
def Queue.cmd (q : Queue) (pos : Nat) : Option Cmd := q.cmds.find? fun c => c.slot = pos

/-- The admitted command whose head is a ring slot. -/
def Queue.cmdAt (q : Queue) (slot : Nat) : Option Cmd := q.cmds.find? fun c => c.slot % 2 ^ q.size = slot

/-- One command changed. -/
def State.modCmd (s : State) (q pos : Nat) (f : Cmd → Cmd) : State :=
  s.modQueue q fun x => { x with cmds := x.cmds.map fun c => if c.slot = pos then f c else c }

/-- A command's work has ended with a code and a residue: its completion steps may begin at a boundary (R254). -/
def Cmd.finish (c : Cmd) (code residue doneAt : Nat) : Cmd :=
  if c.result.isSome then c else { c with result := some code, residue := residue, doneAt := doneAt }

/-- A command is ended by an event from outside its work (R129, R144, R181, R510). -/
def Cmd.force (c : Cmd) (code residue doneAt : Nat) : Cmd :=
  { c with
    result := some code, residue := residue, doneAt := doneAt, forced := true, stall := none, halfAt := none
    claims := if accumulates c.bytes then c.claims else [] }

/-! ### Waiters (R141) -/

/-- What a FENCE_WAIT finds: satisfied, failed with the fence's CODE, or neither. -/
def waitOutcome (f : Fence) (target : Nat) : Option (Nat × Nat) :=
  if f.value ≥ target then some (E.ok, 0)
  else if f.state = .broken then some (E.fenceBroken, f.code)
  else none

/-- A started FENCE_WAIT on a fence, evaluated (R141, R247). -/
def Cmd.evalWait (c : Cmd) (i : Nat) (f : Fence) (now : Nat) : Cmd :=
  if hOpcode c.bytes = Op.fenceWait && c.begun && c.result.isNone && fIndex (ph c.bytes 8) = i && fTag (ph c.bytes 8) = f.tag then
    match waitOutcome f (pw c.bytes 0) with
    | some (code, res) => c.finish code res now
    | none => c
  else c

/-- Every wait on a fence is evaluated. -/
def State.wakeWaiters (s : State) (i : Nat) : State :=
  let f := s.fence i
  let now := s.time.bnd
  s.mapQueues fun _ q =>
    { q with
      cmds := q.cmds.map fun c => c.evalWait i f now
      releasedAt := if q.cmds.any fun c => (c.evalWait i f now).result ≠ c.result then now else q.releasedAt }

/-- A fence changed: its waiters see it, and a change of its value or state goes to its proxies (R141, R381). -/
def State.putFence (s : State) (i : Nat) (f : Fence) : State :=
  let old := s.fence i
  let s := (s.setFence i f).wakeWaiters i
  if old.value = f.value && old.state = f.state then s else s.notifyFence i

/-- A fence breaks with a code; the first code that breaks it is kept (R140). -/
def Fence.breakWith (f : Fence) (code : Nat) : Fence :=
  if f.state = .broken then f else { f with state := .broken, code := code }

/-- A live fence breaks. -/
def State.breakFence (s : State) (i code : Nat) : State :=
  let f := s.fence i
  if f.live && f.state ≠ .broken then s.putFence i (f.breakWith code) else s

/-- The value after a signal (R138), or none where a HOST_ADD would pass 2^64 − 1. -/
def Fence.signalValue (f : Fence) (v : Nat) : Option Nat :=
  if f.mode = 2 then if f.value + v < 2 ^ 64 then some (f.value + v) else .none else some (max f.value v)

/-- A fence index is freed once its last signaller and wait are gone (R142). -/
def State.settleFree (s : State) (i : Nat) : State :=
  let f := s.fence i
  if f.freeing && f.signallers = 0 && f.waiters = 0 then
    let s := s.setFence i { Fence.none with tag := f.tag }
    match f.freeCmd with
    | some r => s.modCmd r.queue r.slot fun c => c.finish E.ok 0 s.time.bnd
    | none => s
  else s

/-- A command that names a fence is admitted: SIGNALLERS + 1, and a SIGNALLED fence is PENDING again (R140). -/
def State.addSignaller (s : State) (i : Nat) : State :=
  s.modFence i fun f =>
    { f with signallers := f.signallers + 1, state := if f.state = .signalled then .pending else f.state }

/-- The host side of a signal: the owner's function and port carry it (R94, R138). -/
def State.hostSignal (s : State) (i v queue pos : Nat) : State :=
  let f := s.fence i
  let c := s.ctx f.owner
  let e : JEntry :=
    { seq := 0, queue := queue, slot := pos, unit := i, func := c.func, ctx := f.owner, kind := .fence, addr := f.hostAddr,
      data := leBytes 8 f.value, ro := false, poison := false, pasid := none, page := none, fence := none }
  if f.mode = 1 then s.hostWrite c.port none e
  else if f.mode = 2 then
    let po := s.port c.port
    let (tag, s) := s.request c.port (.signal i queue pos) f.owner queue none
    let e := { e with kind := .atomicSignal, data := leBytes 8 v, seq := po.jseq }
    let s := s.modPort c.port fun p =>
      { p with journal := p.journal ++ [e], jseq := p.jseq + 1, jtail := (p.jtail + 40) % journalSize }
    s.emit (.hostAtomic c.port c.func f.hostAddr v tag)
  else s

/-- The signal of a retirement with HX_OK (R138, R140). -/
def State.signalFence (s : State) (i v queue pos : Nat) : State :=
  let f := s.fence i
  let left := f.signallers - 1
  if f.state = .broken then (s.setFence i { f with signallers := left }).settleFree i
  else
    match f.signalValue v with
    | none => (s.putFence i ({ f with signallers := left }.breakWith E.badField)).settleFree i
    | some w =>
      let f' := { f with value := w, signallers := left, state := if left = 0 then .signalled else f.state }
      ((s.putFence i f').hostSignal i v queue pos).settleFree i

/-- The end of a signaller that retires with a nonzero code; `quiet` leaves the fence PENDING (R140, R144, R193). -/
def State.failFence (s : State) (i code : Nat) (quiet : Bool) : State :=
  let f := s.fence i
  let f' := { f with signallers := f.signallers - 1 }
  (if quiet then s.putFence i f' else s.putFence i (f'.breakWith code)).settleFree i

/-- The half signal (R256): only while PENDING, never on a HOST_ADD fence, SIGNALLERS unchanged. -/
def State.halfSignal (s : State) (i v queue pos : Nat) : State :=
  let f := s.fence i
  if f.state = .pending && f.mode ≠ 2 then
    (s.putFence i { f with value := max f.value v }).hostSignal i v queue pos
  else s

/-! ### References of memory objects (R136) -/

/-- The object handles among a command's parameters. -/
def objHandles (b : List Byte) : List Nat :=
  let op := hOpcode b
  if op = Op.map && pf b 8 37 35 = 0 then [pf b 16 21 0]
  else if op = Op.planCtl && hSubop b = 1 then [pf b 8 21 0]
  else []

/-- The object that a region's descriptor names, and its context (R117). -/
def regObj (d1 : Word) : Nat := bits d1.toNat 21 0
def regCtx (d1 : Word) : Nat := bits d1.toNat 33 22

/-- A region holds a reference: it is enabled or has one waiting. -/
def Region.holds (r : Region) (o : Nat) : Bool :=
  (r.enabled && regObj r.d1 = o) ||
    (match r.next with | some (some (_, d1, _, _)) => regObj d1 = o | _ => false)

/-- A command of a queue stands before the OBJ_FREE of an object: by its stamp, or by ring position within one doorbell (R160). -/
def State.beforeFree (s : State) (o : Obj) (qn : Nat) (c : Cmd) : Bool :=
  decide (c.stamp < o.freeStamp) ||
    (c.stamp = o.freeStamp &&
      match o.freeCmd with
      | some r => r.queue = qn && (match (s.queue qn).cmdAt r.slot with | some d => decide (c.slot < d.slot) | none => false)
      | none => false)

/-- The reference count of an object (R136). -/
def State.refs (s : State) (o : Nat) : Nat :=
  let ob := s.obj o
  let cmdRefs := s.queues.foldl
    (fun n (qn, q) =>
      n + q.cmds.foldl
        (fun m c =>
          m + bit ((objHandles c.bytes).contains o) +
            bit (ob.state = .retiring && decide (q.ctx = ob.owner) && s.beforeFree ob qn c && !(objHandles c.bytes).contains o)) 0) 0
  let regs := fun (p : Side) => ((s.port p).regions.filter fun (_, r) => r.holds o).length
  let slots := (s.plan.slots.filter fun (_, p) => decide (p.state ≠ .empty) && p.obj = some o).length
  cmdRefs + regs .a + regs .b + slots

/-! ### Teardown (R133, R144, R145) -/

/-- The context runs its commands: RUNNING, or draining before its teardown. -/
def Ctx.runs (c : Ctx) : Bool :=
  decide (c.state = .running) || (decide (c.state = .draining) && c.teardown.isNone)

/-- A trigger of teardown acts on a context that teardown has not begun: it becomes DRAINING at the next boundary, where
step 1 is taken. The first trigger sets the code and the stamp (R144, R145). -/
def State.beginTeardown (s : State) (slot code stamp : Nat) : State :=
  let c := s.ctx slot
  if slot < 2 || c.teardown.isSome || c.state = .free || c.state = .dead then s
  else s.setCtx slot { c with teardown := some (1, code), endStamp := stamp, next := none, drainLeft := none }

/-- Contexts bound to a function. -/
def State.ctxsOf (s : State) (f : Nat) : List Nat :=
  (s.ctxs.filter fun (_, c) => decide (c.func = f) && decide (c.state ≠ .free)).map (·.1)

/-- Queues of a context. -/
def State.queuesOf (s : State) (slot : Nat) : List Nat :=
  (s.queues.filter fun (_, q) => q.live && decide (q.ctx = slot)).map (·.1)

/-! ### TDIs (R458, R460) -/

/-- The TDI of a VF on a port. -/
def State.tdi (s : State) (p : Side) (vf : Nat) : Tdi := Tbl.get Tdi.none (s.port p).tdis vf
def State.setTdi (s : State) (p : Side) (vf : Nat) (v : Tdi) : State :=
  s.modPort p fun x => { x with tdis := Tbl.set Tdi.none x.tdis vf v }

/-- A TDI holds its configuration frozen. -/
def TdiState.frozen : TdiState → Bool
  | .locked | .run => true
  | _ => false

/-- A VF's configuration is locked on either port (R459). -/
def State.tdiFrozen (s : State) (vf : Nat) : Bool :=
  vf ≠ 0 && ((s.tdi .a vf).state.frozen || (s.tdi .b vf).state.frozen)

/-- The code with which a TDI state is reported. -/
def TdiState.code : TdiState → Nat
  | .unlocked => 0 | .locked => 1 | .run => 2 | .error => 3

/-- A TDI record of the log (R467). -/
def State.tdiLog (s : State) (p : Side) (vf : Nat) (t : TdiState) (stamp : Nat) : State :=
  s.log stamp 0xA 0 none (if t = .error then 2 else 0) (vf + fld p.num 7 + fld t.code 8) stamp

/-- The objects of a VF's contexts are to be scrubbed once they are FREE (R459). -/
def State.scrubOwned (s : State) (vf : Nat) : State :=
  let l := s.ctxsOf vf
  s.mapObjs fun _ o => if o.state ≠ .free && l.contains o.owner then { o with scrub := true } else o

/-- A frozen TDI moves to ERROR: its function is silenced and each of its contexts is torn down, with the trigger stamped
at the violation (R458). -/
def State.tdiError (s : State) (p : Side) (vf stamp : Nat) : State :=
  let t := s.tdi p vf
  if !t.state.frozen then s
  else
    let s := ((s.scrubOwned vf).setTdi p vf { t with state := .error }).tdiLog p vf .error stamp
    let s := (s.modFunc .a vf fun f => { f with silenced := true }).modFunc .b vf fun f => { f with silenced := true }
    (s.ctxsOf vf).foldl (fun s c => s.beginTeardown c E.contextDead stamp) s

/-- An access through a BAR violates its TDI: a frozen TDI whose stream it does not carry (R460). -/
def State.tdiViolates (s : State) : Path → Bool
  | .bar p f ide =>
    let t := s.tdi p f.val
    f.val ≠ 0 && t.state.frozen && decide (ide.map (·.val) ≠ some t.stream)
  | _ => false

/-- An event that is stamped where a condition holds. -/
def State.stampedIf (s : State) (b : Bool) (c : Instr) (k : Nat → State → State) : State := if b then s.stamped c k else k 0 s

end Sys2Proof.Machine
end

