-- ==== Sys2Proof/Machine/Allot.lean ====
section
/-! DEFINITION. Allotments of the active plan (R25, R60 to R67), and what a command needs of them. -/

namespace Sys2Proof.Machine

/-! ### Entries (R62) -/

def enKind (e : Word) : Nat := bits e.toNat 15 14
def enQueue (e : Word) : Nat := bits e.toNat 13 0
def enRes (e : Word) : Nat := bits e.toNat 23 16
def enUnits (e : Word) : Nat := bits e.toNat 39 24
def enFirst (e : Word) : Nat := bits e.toNat 47 40
def enEvery (e : Word) : Nat := bits e.toNat 55 48 + 1

/-- An entry applies at a cycle tick. -/
def enApplies (e : Word) (i : Nat) : Bool := decide (enFirst e ≤ i) && decide ((i - enFirst e) % enEvery e = 0)

/-- An engine's role: 0 host-ingress, 1 host-egress, 2 fabric (R25). -/
def engineRole (n : Nat) : Nat := if n % 20 < 4 then 0 else if n % 20 < 8 then 1 else 2

/-- An engine's twin. -/
def engineTwin (n : Nat) : Side := Side.ofBool (decide (20 ≤ n))

/-- The entries of a plan's set: 0 for both twins, 1 for A alone, 2 for B alone (R50). -/
def PlanSlot.set (p : PlanSlot) (k : Nat) : List Word :=
  if k = 0 then p.both else if k = 1 then p.alone.a else p.alone.b

/-- The active slot. -/
def State.activePlan (s : State) : PlanSlot := s.slot s.plan.active

/-- The set in force. -/
def State.entries (s : State) : List Word := s.activePlan.set s.plan.allot

/-- The cycle position of the tick that runs (R63). -/
def State.cyclePos (s : State) : Nat := ticksSince s.time.tick s.plan.switchTick % s.activePlan.cycle

/-- The units that an entry yields in this tick (R67). -/
def State.units (s : State) (e : Word) : Nat :=
  let p := s.activePlan
  let n := enRes e
  let t := engineTwin n
  let cap := if t = .a then p.cap0 else p.cap1
  let now := (s.port t).cap
  let u := enUnits e
  let u := if enKind e = 0 && engineRole n ≠ 2 && decide (now < cap) then u * now / cap else u
  if s.plan.throttled then u * p.keep / 16 else u

/-- Commands of a queue that a twin's front end may interpret in this tick (R64). -/
def State.frontAllot (s : State) (t : Side) (q : Nat) : Nat :=
  ((s.entries.filter fun e =>
    enKind e = 2 && enRes e = t.num && enQueue e = q && enApplies e s.cyclePos).map s.units).foldl (· + ·) 0

/-- Units of a link for a queue in this tick (R65). -/
def State.linkAllot (s : State) (l q : Nat) : Nat :=
  ((s.entries.filter fun e =>
    enKind e = 1 && enRes e = l && enQueue e = q && enApplies e s.cyclePos).map s.units).foldl (· + ·) 0

/-- Some resident plan gives a queue an allotment that a test accepts, in any set (R66, R231). -/
def State.resident (s : State) (q : Nat) (p : Word → Bool) : Bool :=
  s.plan.slots.any fun (_, x) =>
    decide (x.state ≠ .empty) && [0, 1, 2].any fun k => (x.set k).any fun e => decide (enQueue e = q) && p e

/-- What a command needs: the role of the engines that serve it, and an outbound link (R229, R231). -/
def pathNeeds (path : Nat) : Nat × Bool :=
  match path with
  | 1 => (0, false)
  | 2 => (1, false)
  | 3 => (2, true)
  | 5 => (0, true)
  | _ => (2, false)

/-- The PATH of a command that carries CTRL. -/
def pathOf (b : List Byte) : Nat := pf b (ctrlOff (hOpcode b)) 2 0

/-- Check 11 of R172. -/
def State.allotted (s : State) (q : Nat) (b : List Byte) : Bool :=
  let op := hOpcode b
  s.resident q (fun e => enKind e = 2) &&
    (if isEngine op then
      let (role, link) := pathNeeds (pathOf b)
      s.resident q (fun e => enKind e = 0 && engineRole (enRes e) = role) && (!link || s.resident q (fun e => enKind e = 1))
    else if op = Op.collective then
      s.resident q (fun e => enKind e = 0 && engineRole (enRes e) = 2) && s.resident q (fun e => enKind e = 1)
    else true)

/-- The set that the twins in service call for (R50, R82); a twin that is DETACHING still serves. -/
def State.wantedSet (s : State) : Nat :=
  match s.carries .a, s.carries .b with
  | true, false => 1
  | false, true => 2
  | _, _ => 0

end Sys2Proof.Machine
end

