-- ==== Sys2Proof/Machine/Queue.lean ====
section
/-! DEFINITION. Queues and commands (04, 05): doorbells, slot fetch, admission, start, predication, replies, retirement
and parking. -/

namespace Sys2Proof.Machine

/-- Slots of a ring. -/
def Queue.slots (q : Queue) : Nat := 2 ^ q.size

/-- The expected phase of an absolute position: 1 in the first lap, flipping at each wrap (R124, R159). -/
def Queue.phaseAt (q : Queue) (pos : Nat) : Bool := pos / q.slots % 2 = 0

/-! ### Parking (R129, R130) -/

/-- A queue that is IDLE or ACTIVE will be PARKED at the next boundary; the first cause stands. -/
def Queue.park (q : Queue) (code slot : Nat) : Queue :=
  if q.parking.isSome || q.state = .parked || q.state = .stopped then q else { q with parking := some (code, slot) }

/-- The same, of the device. -/
def State.park (s : State) (q code slot : Nat) : State := s.modQueue q fun x => x.park code (slot % x.slots)

/-! ### Doorbells (R31, R89, R92, R123, R124) -/

/-- The context that a doorbell page names through a path, when it is bound to the function. -/
def State.doorCtx (s : State) (path : Path) (offset : Nat) : Option Nat :=
  let k := offset / 4096
  let bound := fun (slot : Nat) => decide ((s.ctx slot).state ≠ .free) && decide ((s.ctx slot).state ≠ .dead)
  match path with
  | .bar _ f _ =>
    if f.val = 0 then if bound k && (s.ctx k).func = 0 && decide (k < 4096) then some k else none
    else
      (s.ctxs.find? fun (i, c) => bound i && decide (c.func = f.val) && decide (c.loc = k)).map (·.1)
  | .die _ => if bound k && decide (k < 4096) then some k else none
  | .mgmt _ => none

/-- What a stamped doorbell does to its queue (R124): a park, a refusal with a code, or the queue with it taken. -/
inductive Rung where
  | reject (code : Nat)
  | overrun
  | taken (q : Queue)
  deriving DecidableEq, Repr

/-- The computation of R124 for a doorbell value. -/
def Queue.ring1 (q : Queue) (via : Side) (value stamp : Nat) (running : Bool) : Rung :=
  let n := q.slots
  let producer := bits value 31 0
  let phase := tst value 32
  if bits value 63 33 ≠ 0 || decide (producer ≥ n) then .reject E.badField
  else
    let d := (producer + n - q.prod % n) % n
    let d := if d = 0 && phase != q.prodPhase then n else d
    if d = 0 then .taken q
    else if phase != q.phaseAt (q.prod + d - 1) then .reject E.badField
    else if d > n - (q.prod - q.ret) then .overrun
    else
      .taken
        { q with
          prod := q.prod + d, prodPhase := phase, bells := q.bells ++ [⟨q.prod + d, stamp, via⟩],
          rung := q.rung ++ [⟨q.prod + d, stamp, via⟩],
          state := if q.state = .idle && running then .active else q.state }

/-- A doorbell that reached its queue. One of a DRAINING context is discarded once R123 has checked it (R133, R144). A queue that an
overrun parks is parked at its next slot to fetch (DESIGN CHOICE, log entry 174). -/
def State.ring2 (s : State) (path : Path) (offset qn value stamp : Nat) : State :=
  let q := s.queue qn
  let c := s.ctx q.ctx
  let zeroRing := q.priv && bits (s.port (Side.ofBool (decide (qn = 1)))).privRing.toNat 56 12 = 0
  if q.state = .stopped then s.regErr path 1 offset E.badHandle
  else if zeroRing then s.regErr path 1 offset E.badField
  else
    match q.ring1 (Path.side path) value stamp (decide (c.state = .running)) with
    | .reject code => s.regErr path 1 offset code
    | .overrun => if c.state = .draining then s else s.setQueue qn (q.park E.badLength (q.cons % q.slots))
    | .taken q' => if c.state = .draining then s else s.setQueue qn q'

/-- The queue of a context at a local index. -/
def State.localQueue (s : State) (slot loc : Nat) : Option Nat :=
  (s.queues.find? fun (_, q) => q.live && decide (q.ctx = slot) && decide (q.loc = loc)).map (·.1)

/-- A stamped doorbell write. -/
def State.ring3 (s : State) (path : Path) (offset value stamp : Nat) : State :=
  match s.doorCtx path offset with
  | none => s.regErr path 1 offset E.notAuthorised
  | some slot =>
    if offset % 4096 ≥ 0x200 then s.regErr path 1 offset E.badField
    else
      match s.localQueue slot (offset % 4096 / 8) with
      | none => s.regErr path 1 offset E.badHandle
      | some qn => s.ring2 path offset qn value stamp

/-- A function that takes no doorbells: its FLR has not completed, it is in D3hot, or its VF is not enabled (R90, R101). -/
def State.deaf (s : State) : Path → Bool
  | .bar p f _ => (s.func p f.val).flr || (s.func p f.val).d3 || (f.val ≠ 0 && !(s.port p).vfEnable)
  | _ => false

/-- What a read of a doorbell page returns, of a bound context or not; it has no effect (R92). -/
def readDoorbell (_path : Path) (_offset : Nat) : Word := 0

/-- DOORBELL. -/
def doorbell (c : Instr) (path : Path) (offset width : Nat) (value : Word) (poisoned : Bool) (s : State) : State :=
  if s.deaf path then s
  else if poisoned then (s.aerPoison path).regErr path 1 offset E.poisoned
  else if width ≠ 8 || offset % 8 ≠ 0 then s.regErr path 1 offset E.badLength
  else if !s.anyService then s
  else
    s.stamped c fun st s =>
      if s.tdiViolates path then
        match Path.fn path with
        | some (p, f) => (s.tdiError p f st).regErr path 1 offset E.notAuthorised
        | none => s
      else s.ring3 path offset value.toNat st

/-! ### Admission (R172) -/

/-- A twin is treated as in self-test: one runs, or a SELFTEST that names it is admitted and unretired (R194). -/
def State.inSelftest (s : State) (t : Side) : Bool :=
  (s.twin t).test.isSome ||
    s.queues.any fun (_, q) =>
      q.priv && q.cmds.any fun c => hOpcode c.bytes = Op.selftest && tst (pw c.bytes 0) 0 = decide (t = .b)

/-- An admitted OBJ_FREE of an object that has not started and stands before a command: by its stamp, or within one doorbell by its
place in the ring (R137, R160). -/
def State.freeAhead (s : State) (h qn pos stamp : Nat) : Bool :=
  s.queues.any fun (n, q) =>
    q.priv && q.cmds.any fun c =>
      hOpcode c.bytes = Op.contextCtl && hSubop c.bytes = 0x21 && !c.begun && pf c.bytes 0 33 12 = h &&
        (decide (c.stamp < stamp) || (n = qn && c.stamp = stamp && decide (c.slot < pos)))

/-- Checks 7 and 8 for one object handle: a live object of the context; stamps decide against an OBJ_FREE (R137). -/
def State.objFault (s : State) (slot : Nat) (priv : Bool) (qn pos stamp h : Nat) : Nat :=
  let o := s.obj h
  if o.state = .free || !mayOwn priv slot o.owner then E.badHandle
  else if (o.state = .retiring && decide (o.freeStamp ≤ stamp)) || s.freeAhead h qn pos stamp then E.objectRetiring
  else E.ok

/-- Check 7 for the fence that a command signals. -/
def State.sigFault (s : State) (slot : Nat) (priv : Bool) (b : List Byte) : Bool :=
  hFenceEn b &&
    match s.fenceOf (hFence b) with
    | some f => !mayOwn priv slot f.owner || f.proxy.isSome
    | none => true

/-- Checks 7 to 10 of R172 for a command at a position of a queue. -/
def State.handleChecks (s : State) (qn pos stamp : Nat) (b : List Byte) : Nat :=
  let q := s.queue qn
  let c := s.ctx q.ctx
  let op := hOpcode b
  let wait := s.fenceOf (ph b 8)
  let tq := s.queue (pf b 0 13 0)
  if s.sigFault q.ctx q.priv b then E.badHandle
  else if op = Op.fenceWait && (match wait with | some f => !mayWait q.ctx c.share f | none => true) then E.badHandle
  else if op = Op.abort && (!tq.live || (tq.ctx ≠ q.ctx && !q.priv) || tq.state = .stopped) then E.badHandle
  else if (objHandles b).any fun h => s.objFault q.ctx q.priv qn pos stamp h = E.badHandle then E.badHandle
  else if (objHandles b).any fun h => s.objFault q.ctx q.priv qn pos stamp h = E.objectRetiring then E.objectRetiring
  else if hFenceEn b && (s.fence (fIndex (hFence b))).state = .broken then E.fenceBroken
  else if hFenceEn b && decide (hScope b < (s.fence (fIndex (hFence b))).scope) then E.scopeMismatch
  else if op = Op.fenceWait && (match wait with
      | some f => decide (pf b 8 33 32 < f.scope) || (f.proxy.isSome && (decide (f.scope < 2) || decide (pf b 8 33 32 < 2)))
      | none => false) then
    E.scopeMismatch
  else E.ok

/-- Check 3: the opcode is allowed on the queue; a SELFTEST names a DETACHED twin. -/
def State.opAllowed (s : State) (q : Queue) (b : List Byte) : Bool :=
  let op := hOpcode b
  if q.priv then
    !ordinaryOnly op && (op ≠ Op.selftest || (s.twin (Side.ofBool (tst (pw b 0) 0))).state = .detached)
  else !privOnly op

/-- A HOST_ADD fence needs SIGNAL_VALUE ≥ 1 (R164); taken with check 4 (log entry 10). -/
def State.hostAddZero (s : State) (b : List Byte) : Bool :=
  hFenceEn b && decide (hValue b = 0) && (match s.fenceOf (hFence b) with | some f => decide (f.mode = 2) | none => false)

/-- The stamp of the doorbell that made a position ready (R160). -/
def Queue.bellStamp (q : Queue) (pos : Nat) : Nat :=
  match q.bells.find? fun b => pos < b.prod with
  | some b => b.stamp
  | .none => noStamp

/-- Checks 2 to 11 of R172 for a head slot at a position; 0 where every check passes. CONTEXT_CTL and PLAN_CTL have
checks 7 to 10 made when they start. -/
def State.admitCode (s : State) (qn pos : Nat) (b : List Byte) (extra : List Byte → Nat) : Nat :=
  let q := s.queue qn
  let op := hOpcode b
  if !opcodes.contains op then E.badOpcode
  else if !s.opAllowed q b then E.badOpcode
  else if badHeader4 b || s.hostAddZero b then E.badField
  else if pos % q.slots + hChain b + 1 > q.slots || decide (b.length < pOff b + paramBytes b) ||
      ((op = Op.gather || op = Op.scatter) && decide (elemCount b * elen b > 2 ^ 40 - 1)) then E.badLength
  else if badLength6 b then E.badLength
  else if extra b = E.badLength then E.badLength
  else if badPred6 b || badField6 b then E.badField
  else if extra b ≠ E.ok then extra b
  else if op ≠ Op.contextCtl && op ≠ Op.planCtl && s.handleChecks qn pos (q.bellStamp pos) b ≠ E.ok then
    s.handleChecks qn pos (q.bellStamp pos) b
  else if !s.allotted qn b then E.noAllotment
  else E.ok

/-- A record is admitted: SIGNALLERS and WAITERS count it (R140, R151, R172). -/
def State.admitCmd (s : State) (qn pos : Nat) (b : List Byte) : State :=
  let q := s.queue qn
  let op := hOpcode b
  let sig := hFenceEn b && !s.sigFault q.ctx q.priv b && (s.fence (fIndex (hFence b))).state ≠ .broken
  let c := { Cmd.admitted pos b (q.bellStamp pos) (s.time.bnd + 1) with admTick := s.time.tick, counted := sig }
  let next := pos + hChain b + 1
  let s := s.setQueue qn
    { q with cmds := q.cmds ++ [c], cons := next, rereads := 0, bells := q.bells.filter fun x => next < x.prod }
  let s := if sig then s.addSignaller (fIndex (hFence b)) else s
  if op = Op.fenceWait then s.modFence (fIndex (ph b 8)) fun f => { f with waiters := f.waiters + 1 } else s

/-- A detach waits for its move at a boundary: the slices of the twin have ended at their cut points, and none starts (R443). -/
def State.detachWaits (s : State) (t : Side) : Bool :=
  match s.rst.detach with
  | some d => d.twin = t && !d.withdrawn && (s.twin t).state = .detaching && decide (d.tick ≤ s.time.tick)
  | none => false

/-- Started commands of the queue go on: a PARKED queue or context holds their residues (R130, R133), and so does a detach that
waits, for a context of its twin or of its twin's port. -/
def State.slices (s : State) (qn : Nat) : Bool :=
  let c := s.ctx (s.queue qn).ctx
  decide ((s.queue qn).state = .active) && c.runs && !s.detachWaits c.home && !s.detachWaits c.port

/-- The address of a ring position: a host bus address for a privileged queue (R121). -/
def State.ringAddr (s : State) (q : Queue) (pos : Nat) : Nat :=
  let base := if q.priv then bits (s.port (s.ctx q.ctx).port).privRing.toNat 56 12 * 4096 else q.ring * 4096
  base + 64 * (pos % q.slots)

/-- The address of a reply position. -/
def State.replyAddr (s : State) (q : Queue) (pos : Nat) : Nat :=
  let base := if q.priv then bits (s.port (s.ctx q.ctx).port).privReply.toNat 56 12 * 4096 else q.reply * 4096
  base + 16 * (pos % q.slots)

/-- The target of an access to a ring or a reply ring: those of a privileged queue lie at host bus addresses (R121). -/
def State.controlTarget (s : State) (q : Queue) (a n : Nat) (acc : Access) : Target × Nat :=
  if q.priv then (.host a none, n) else s.target q.ctx a n acc

/-- The front end may fetch a slot of the queue; a slot in host memory while its function may issue requests (R100, R128 to R133, R158, R507). -/
def State.canFetch (s : State) (qn : Nat) : Bool :=
  let q := s.queue qn
  let c := s.ctx q.ctx
  q.live && q.state = .active && q.parking.isNone && q.next.isNone && c.runs && s.awake c.home &&
    decide (q.cons < q.prod) && q.reject.isNone && decide (q.cmds.length < 1024) &&
    (match (s.controlTarget q (s.ringAddr q q.cons) 64 .read).1 with
      | .host _ _ => s.canIssue c.port c.func
      | _ => true)

/-- What a slot read gives: the bytes and whether they are poisoned, or the target that does not give them. -/
def State.slotBytes (s : State) (q : Queue) (addr n : Nat) (given : List Byte) (poisoned : Bool) : Except Target (List Byte × Bool) :=
  match (s.controlTarget q addr n .read).1 with
  | .loc a => .ok (s.mem.readN a n, s.mem.anyPoison a n)
  | .zero => .ok (List.replicate n 0, false)
  | .host _ _ => .ok ((given ++ List.replicate n 0).take n, poisoned)
  | t => .error t

/-- The slots of a chain, each translated by itself: their bytes and whether any is poisoned, or the address and target that
stops the reads. -/
def State.chainBytes (s : State) (q : Queue) (poisoned : Bool) :
    Nat → Nat → List Byte → Except (Nat × Target) (List Byte × Bool)
  | 0, _, _ => .ok ([], false)
  | n + 1, addr, given =>
    match s.slotBytes q addr 64 (given.take 64) poisoned with
    | .error t => .error (addr, t)
    | .ok (b, bad) =>
      match s.chainBytes q poisoned n (addr + 64) (given.drop 64) with
      | .error x => .error x
      | .ok (rest, worse) => .ok (b ++ rest, bad || worse)

/-- A control access that its translation fails (R215): a ring fetch or a reply write. One that a PEER leaf translates is denied, as
R215 requires such pages to be LOCAL or HOST (DESIGN CHOICE, log entry 175). -/
def State.controlFault (s : State) (qn pos cva : Nat) (acc : Access) (t : Target) : State :=
  let q := s.queue qn
  let c := s.ctx q.ctx
  let give := fun (s : State) (reason level : Nat) =>
    let stall := stalls c.terminate true reason
    let s := (s.recordFault q.ctx qn pos 0 cva reason level acc true false stall).walkPoison q.ctx reason
    if stall then s else s.park qn (reasonCode reason) (pos % q.slots)
  match t with
  | .fail r l => if s.controlHeld qn pos cva then s else give s r l
  | .miss page => s.atsRequest q.ctx page acc qn pos 0
  | .peer _ _ => give s Reason.peerDenied (s.leafLevel q.ctx cva acc)
  | _ => s

/-- SLOT_FETCH: one read of the next head slot returns, with the continuation slots' bytes behind it. Bytes of a ring in
device memory are read there; `given` is what the host returned (R158, R159, R172, R173). A read that carries an older generation
of its queue is dropped (R42). -/
def slotFetch (qn gen : Nat) (given : List Byte) (poisoned : Bool) (extra : List Byte → Nat) (s : State) : State :=
  let q := s.queue qn
  if gen ≠ q.gen then s.staleQueue
  else if !s.canFetch qn then s
  else
    let pos := q.cons
    let a := s.ringAddr q pos
    match s.slotBytes q a 64 given poisoned with
    | .error t => s.controlFault qn pos a .read t
    | .ok (head, bad) =>
      if bad then s.setQueue qn (q.park E.poisoned (pos % q.slots))
      else if hPhase head != q.phaseAt pos then
        if q.rereads < 4 then (s.setQueue qn { q with rereads := q.rereads + 1 }).emit (.slotRead qn (pos % q.slots) q.gen)
        else s.setQueue qn ({ q with rereads := 0 }.park E.tornSlot (pos % q.slots))
      else
        let k := hChain head
        let fits := decide (pos % q.slots + k + 1 ≤ q.slots)
        if fits && decide (q.prod < pos + k + 1) then s
        else
          match (if fits then s.chainBytes q poisoned (k + 1) a given else .ok (head, false)) with
          | .error (x, t) => s.controlFault qn pos x .read t
          | .ok (b, bad) =>
            if bad then s.setQueue qn (q.park E.poisoned (pos % q.slots))
            else
              let code := s.admitCode qn pos b extra
              if code = E.ok then s.admitCmd qn pos b
              else
                let n := if fits then k + 1 else q.slots - pos % q.slots
                s.setQueue qn { q with reject := some (pos, n, code), rejectDone := false, rereads := 0 }

/-! ### Start (R161, R162, R251) -/

/-- BARRIER of the control word of a command that carries one. -/
def barrierFlag (b : List Byte) : Bool :=
  let op := hOpcode b
  (isEngine op || op = Op.collective) && tst (pw b (ctrlOff op)) 4

/-- An unretired command holds later ones (R162, R251). -/
def Cmd.holds (c : Cmd) : Bool :=
  let op := hOpcode c.bytes
  if op = Op.fenceWait then c.result.isNone
  else op = Op.barrier || op = Op.map || op = Op.unmap || op = Op.invalidate || barrierFlag c.bytes

/-- The front-end allotment leaves room for one more command of the queue (R64). -/
def State.frontLeft (s : State) (qn : Nat) : Bool :=
  let c := s.ctx (s.queue qn).ctx
  decide (Tbl.get 0 s.plan.frontUsed qn < s.frontAllot c.home qn)

/-- An admitted command may start now, as far as its own queue shows. -/
def State.ready (s : State) (qn : Nat) (c : Cmd) : Bool :=
  let q := s.queue qn
  let earlier := q.cmds.filter fun d => d.slot < c.slot
  let rule := if barrierFlag c.bytes then 1 else startRule c.bytes
  !c.started && c.result.isNone && decide (c.eligible ≤ s.time.bnd) && q.state = .active && q.parking.isNone &&
    q.next.isNone && (s.ctx q.ctx).runs && s.acts (s.ctx q.ctx).home && s.frontLeft qn &&
    (rule = 2 || (earlier.all (fun d => d.started && !d.holds) && (rule = 0 || earlier.isEmpty)))

/-- The queues whose entries a front end serves in this tick ahead of a queue's next one: entries are served in the order in which
they stand (R63), and one is served while its queue has not used it up. -/
def entriesAhead (s : State) (qn : Nat) : List Word → List Word → List Nat
  | _, [] => []
  | seen, e :: l =>
    let q := enQueue e
    let upTo := ((seen.filter fun x => enQueue x = q).map s.units).sum + s.units e
    let left := decide (Tbl.get 0 s.plan.frontUsed q < upTo)
    if q = qn then if left then [] else entriesAhead s qn (seen ++ [e]) l
    else if left then q :: entriesAhead s qn (seen ++ [e]) l
    else entriesAhead s qn (seen ++ [e]) l

/-- The front end has come to the queue's entry: no queue ahead of it has a command that may start. -/
def State.frontTurn (s : State) (qn : Nat) : Bool :=
  let t := (s.ctx (s.queue qn).ctx).home
  let l := s.entries.filter fun e => enKind e = 2 && enRes e = t.num && enApplies e s.cyclePos
  !((entriesAhead s qn [] l).any fun q => (s.ctx (s.queue q).ctx).home = t && (s.queue q).cmds.any fun c => s.ready q c)

/-- An admitted command may start now. -/
def State.startable (s : State) (qn : Nat) (c : Cmd) : Bool := s.ready qn c && s.frontTurn qn

/-- The command counts against the front-end allotment and has started. -/
def State.markStart (s : State) (qn pos : Nat) : State :=
  let s := s.modPlan fun p => { p with frontUsed := Tbl.set 0 p.frontUsed qn (Tbl.get 0 p.frontUsed qn + 1) }
  s.modCmd qn pos fun c => { c with started := true }

/-- The boundary from which the units of a command that starts now may be claimed: the next, where its start was released within the
tick (R247). -/
def State.startFrom (s : State) (qn : Nat) (c : Cmd) : Nat :=
  let q := s.queue qn
  let now := s.time.bnd
  let late := q.releasedAt = now || ((barrierFlag c.bytes || hPred c.bytes) && q.retiredAt = now)
  now + bit (late && decide (0 < now))

/-- The address of a command's predicate word. -/
def predAddr (b : List Byte) : Nat := bits (rd b 16 8) 56 3 * 8

/-- A predicated command asks for its predicate word (R167); for a word in host memory, once its function may issue requests (R100). -/
def State.askWord (s : State) (qn : Nat) (c : Cmd) : State :=
  let q := s.queue qn
  let a := predAddr c.bytes
  let x := s.ctx q.ctx
  let ask := fun (s : State) => (s.modCmd qn c.slot fun d => { d with pred := .waiting }).emit (.wordRead qn (c.slot % q.slots) a q.gen)
  match (s.target q.ctx a 8 .read).1 with
  | .host _ page =>
    if s.canIssue x.port x.func && s.tagFree x.port then ask (s.request x.port (.word qn c.slot) q.ctx qn page).2 else s
  | _ => ask s

/-- The request for a predicate word is no longer outstanding. -/
def State.dropWord (s : State) (qn pos : Nat) : State :=
  let drop := fun (s : State) (p : Side) =>
    if (s.port p).reqs.any fun r => r.kind = .word qn pos then
      s.modPort p fun x => { x with reqs := x.reqs.filter fun r => r.kind ≠ .word qn pos }
    else s
  drop (drop s .a) .b

/-- An admitted command begins: by its start rule, or once its predicate held. A predicated command first asks for its
predicate word. `k` is what its opcode does at its start; nothing happens out of place (log entry 5). -/
def begin (r : CmdRef) (op : Nat) (sub : Option Nat) (s : State) (k : Nat → Cmd → State → State) : State :=
  match (s.queue r.queue).cmdAt r.slot with
  | none => s
  | some c =>
    if hOpcode c.bytes ≠ op || (match sub with | some x => decide (hSubop c.bytes ≠ x) | none => false) || c.begun ||
        c.result.isSome then s
    else if c.pred = .decided then
      k r.queue c (s.modCmd r.queue c.slot fun d => { d with begun := true, claimFrom := max d.claimFrom s.time.bnd })
    else if !s.startable r.queue c then s
    else
      let from_ := s.startFrom r.queue c
      let s := s.markStart r.queue c.slot
      if hPred c.bytes then (s.modCmd r.queue c.slot fun d => { d with pred := .held, claimFrom := from_ }).askWord r.queue c
      else k r.queue c (s.modCmd r.queue c.slot fun d => { d with begun := true, claimFrom := from_ })

/-- A command's work ends now with a code (R33). -/
def State.finish (s : State) (qn pos code residue : Nat) : State :=
  s.modCmd qn pos fun c => c.finish code residue s.time.bnd

/-- The walk for a predicate word fails (R215): the read stalls, or its command ends. -/
def State.wordFault (s : State) (qn : Nat) (c : Cmd) (why level : Nat) : State :=
  let q := s.queue qn
  let cva := predAddr c.bytes
  let stall := stalls (s.ctx q.ctx).terminate false why
  if s.controlHeld qn c.slot cva then s
  else
    let s := (s.recordFault q.ctx qn c.slot 0 cva why level .read true false stall).walkPoison q.ctx why
    if stall then s else s.finish qn c.slot (reasonCode why) 0

/-- PREDICATE_READ_COMPLETE (R167, R168): the word is read in device memory where it lies there; `word` is what the host or
a peer returned. A word of an older generation of the queue is dropped (R42), and so is one whose command has been ended. -/
def predicateRead (r : CmdRef) (gen word : Nat) (poisoned : Bool) (s : State) : State :=
  let qn := r.queue
  let q := s.queue qn
  if gen ≠ q.gen then s.staleQueue
  else
    match q.cmdAt r.slot with
    | none => s
    | some c =>
      if c.pred ≠ .waiting || c.result.isSome then s.dropWord qn c.slot
      else
        let s := s.dropWord qn c.slot
        let cva := predAddr c.bytes
        let decide1 := fun (s : State) (w : Nat) (bad : Bool) =>
          if bad then s.finish qn c.slot E.poisoned 0
          else if predHolds (rd c.bytes 16 1 % 8) (rd c.bytes 24 8) w then
            s.modCmd qn c.slot fun d => { d with pred := .decided }
          else (s.finish qn c.slot E.ok 0).modCmd qn c.slot fun d => { d with skipped := true, pred := .decided, begun := true }
        match (s.target q.ctx cva 8 .read).1 with
        | .loc a => decide1 (s.touch q.ctx cva .read) (s.mem.word a) (s.mem.anyPoison a 8)
        | .zero => decide1 s 0 false
        | .host _ _ => decide1 s word poisoned
        | .peer g _ =>
          match s.grantOf q.ctx g with
          | none => s.wordFault qn c Reason.peerDenied (s.leafLevel q.ctx cva .read)
          | some h => if (s.route h.dev).unreach then s.finish qn c.slot E.linkLost 0 else decide1 s word poisoned
        | .miss page => s.atsRequest q.ctx page .read qn c.slot 0
        | .fail why l => s.wordFault qn c why l

end Sys2Proof.Machine
end

