-- ==== Sys2Proof/Machine/Retire.lean ====
section
/-! DEFINITION. The completion steps of a command (R33), its reply, its retirement in ring order, and the half steps
(R127, R164 to R171, R254 to R257). -/

namespace Sys2Proof.Machine

/-- The second word of a status reply (R169, R170): FLAGS, RESIDUE and CODE. -/
def replyWord (phase skipped deferred moved note : Bool) (residue code : Nat) : Nat :=
  fld (bit phase) 63 + fld (bit skipped) 62 + fld (bit deferred) 61 + fld (bit moved) 60 + fld (bit note) 59 +
    fld (residue % 2 ^ 40) 16 + code % 65536

/-- The 16 bytes of a reply are written at a position; none where the reply page or the port does not take it. -/
def State.writeReply (s : State) (qn pos stamp word : Nat) (fence : Option Nat) : Option State :=
  let q := s.queue qn
  let c := s.ctx q.ctx
  let a := s.replyAddr q pos
  let data := leBytes 8 stamp ++ leBytes 8 word
  match (s.controlTarget q a 16 .write).1 with
  | .loc x => some ((s.touch q.ctx a .write).setMem (s.mem.store x data false))
  | .host x page =>
    if s.canIssue c.port c.func && s.room c.port 48 then
      some (s.hostWrite c.port (if page.isSome then none else pasidOpt c)
        { seq := 0, queue := qn, slot := pos, unit := 0, func := c.func, ctx := q.ctx, kind := .reply, addr := x, data := data,
          ro := false, poison := false, pasid := none, page := page, fence := fence })
    else none
  | _ => none

/-- A reply is not written for a silenced function (R144). -/
def State.mute (s : State) (qn : Nat) : Bool :=
  let c := s.ctx (s.queue qn).ctx
  (s.func c.port c.func).silenced

/-- The deferred positions are written, in ring order, ahead of the next reply (R165). -/
def State.writeDeferred (s : State) (qn : Nat) : Nat → State
  | 0 => s
  | n + 1 =>
    let q := s.queue qn
    match q.deferred with
    | [] => s
    | (pos, word, fence) :: t =>
      if q.replies ≥ 128 || !s.canStamp then s
      else
        let (st, s') := s.stamp
        let w := word + fld (bit (q.phaseAt pos)) 63
        match s'.writeReply qn pos st w fence with
        | some s'' =>
          (s''.modQueue qn fun x => { x with deferred := t, replies := x.replies + 1 }).writeDeferred qn n
        | none => s

/-- The command retires without a reply of its own (R165). -/
def Cmd.silent (c : Cmd) (code : Nat) : Bool := hNoReply c.bytes && code = E.ok

/-- The handle of the fence that the command signals. -/
def Cmd.fenceHandle (c : Cmd) : Option Nat := if c.counted then some (hFence c.bytes) else none

/-- Stamps that the retirement of a command takes: its reply's and its fence signal's (R34). -/
def State.retireStamps (s : State) (qn : Nat) (c : Cmd) (code : Nat) : Nat :=
  bit (!s.mute qn && !c.silent code) + bit (c.counted && code = E.ok)

/-- Step 3 of R33, once every deferred position ahead is written. None where the reply cannot be written now. -/
def State.reply (s : State) (qn : Nat) (c : Cmd) (code : Nat) : Option State :=
  let q := s.queue qn
  if s.mute qn then some s
  else if c.silent code then
    some (s.modQueue qn fun x => { x with
      deferred := x.deferred ++ [(c.slot, replyWord false c.skipped true c.moved c.note c.residue code, c.fenceHandle)] })
  else if !q.deferred.isEmpty || q.replies ≥ 128 then none
  else
    let (st, s) := s.stamp
    (s.writeReply qn c.slot st (replyWord (q.phaseAt c.slot) c.skipped false c.moved c.note c.residue code)
      c.fenceHandle).map fun s =>
      s.modQueue qn fun x => { x with replies := x.replies + 1 }

/-- A reply position is not written: its translation fails (R215), its port's journal has no room (R108), or its port is not ready. -/
def State.replyStops (s : State) (qn pos : Nat) : State :=
  let q := s.queue qn
  let c := s.ctx q.ctx
  let a := s.replyAddr q pos
  match (s.controlTarget q a 16 .write).1 with
  | .host _ _ => if s.canIssue c.port c.func && !s.room c.port 48 then s.noRoom c.port else s
  | .loc _ => s
  | t => s.controlFault qn pos a .write t

/-- What prevents a reply: the tick's count of stamps used up, so that the completion waits for the next tick's (R36), or what stops the
first position due. -/
def State.replyBlocked (s : State) (qn pos stamps : Nat) : State :=
  if !s.stampsLeft stamps then s.carryOnce (.commandComplete qn)
  else s.replyStops qn (((s.queue qn).deferred.head?.map (·.1)).getD pos)

/-- Step 4 of R33: the fence that the command signals, and the waits it held. -/
def State.settleFence (s : State) (qn : Nat) (c : Cmd) (code : Nat) : State :=
  let i := fIndex (hFence c.bytes)
  let w := fIndex (ph c.bytes 8)
  let s := if hOpcode c.bytes = Op.fenceWait && (s.fence w).tag = fTag (ph c.bytes 8) then
      (s.modFence w fun f => { f with waiters := f.waiters - 1 }).settleFree w
    else s
  if !c.counted then s
  else if code = E.ok then s.stamp.2.signalFence i (hValue c.bytes) qn c.slot
  else s.failFence i code c.quietFence

/-- The destination of a COLLECTIVE and its length: a block for each member where the subop gathers, 4 bytes for each element of a
reduction (R383). -/
def State.collDest (s : State) (b : List Byte) : Nat × Nat :=
  let blocks := if hSubop b = 3 || hSubop b = 4 then (s.members (pf b 16 63 48)).length else 1
  (pf b 8 56 0, pf b 24 39 0 * blocks * (if hSubop b = 1 || hSubop b = 2 then 4 else 1))

/-- A collective that retires with an error leaves its destination undefined (R389): its bytes in device memory are free values. -/
def State.undefineDest (s : State) (qn : Nat) (c : Cmd) (code : Nat) : State :=
  if hOpcode c.bytes = Op.collective && code ≠ E.ok then
    let (dst, n) := s.collDest c.bytes
    (s.pieces (s.queue qn).ctx .write dst n).foldl
      (fun s (x, m, t) =>
        match t with
        | .loc a => s.setMem (s.mem.writeN a ((List.range m).map fun i => Config.undefinedByte s.time.bnd qn c.slot (x - dst + i)))
        | _ => s) s
  else s

/-- The command leaves the queue: steps 3, 4 and 5 of R33, and the park of a failure (R129). None where step 3 must wait, or the
steps' stamps are not left. -/
def State.retire (s : State) (qn : Nat) (c : Cmd) (code : Nat) : Option State :=
  if !s.stampsLeft (s.retireStamps qn c code) then none
  else (s.reply qn c code).map fun s =>
    let s := (s.undefineDest qn c code).settleFence qn c code
    let now := s.time.bnd
    let s := s.modQueue qn fun q =>
      { q with
        cmds := q.cmds.filter fun d => d.slot ≠ c.slot
        ended := q.ended ++ [c]
        ret := c.slot + hChain c.bytes + 1
        retiredAt := now
        releasedAt := if c.holds then now else q.releasedAt }
    let s := if code ≠ E.ok && !c.byAbort then
        s.modQueue qn fun q => q.park code (c.slot % q.slots)
      else s
    if c.vector.getD (hIrq c.bytes) && !s.mute qn then s.raiseQueue qn else s

/-! ### Step 1 and step 2 (R95, R254, R255) -/

/-- A journal entry is data of a command's stream below a byte. -/
def JEntry.dataOf (e : JEntry) (qn pos up : Nat) : Bool :=
  e.queue = qn && e.slot = pos && (e.kind = .slice || e.kind = .inline) && decide (4096 * e.unit < up)

/-- The stream bytes of a command below a byte have reached their destinations: a flush has covered what went to the host, and the
peers have acknowledged the rest. -/
def State.landedTo (s : State) (qn pos up : Nat) : Bool :=
  let r : CmdRef := ⟨qn, pos % (s.queue qn).slots⟩
  let ours := fun (p : FabPkt) => match p.ref with | some (x, u) => x = r && decide (4096 * u < up) | none => false
  !([Side.a, Side.b].any fun p => (s.port p).journal.any fun e => e.dataOf qn pos up) &&
    !(s.fab.paths.any fun (_, x) => (x.unacked.any fun y => ours y.pkt) || x.waiting.any ours)

/-- The command's data has reached its destinations; of one that an event from outside has ended, what it had sent. Its journal
entries stay until a flushing read covers them (R95, R108). -/
def State.landed (s : State) (qn : Nat) (c : Cmd) : Bool :=
  c.claims.isEmpty && decide (c.peerLeft = 0) && (c.forced || decide (c.acts = 0)) &&
    !([Side.a, Side.b].any fun p => (s.port p).journal.any fun e => e.dataOf qn c.slot (2 ^ 64))

/-- INV_ON_DONE and its domains, for a LOCAL or a PEER destination. -/
def invWanted (b : List Byte) : Option Nat :=
  let op := hOpcode b
  let c := Ctrl.ofNat (if isEngine op || op = Op.collective then pw b (ctrlOff op) else 0)
  if c.inv then some c.clusters else none

/-- Compute domains in reset or out of service hold nothing valid: their invalidations are complete at once (R255). -/
def State.liveDomains (s : State) (clusters : Nat) : Nat :=
  (List.range 48).foldl (fun m n => if tst clusters n && (s.cd n).state = .inService then setBit m n true else m) 0

/-- The range invalidations that Harson can still issue in this tick, of 4,096. -/
def State.invRoom (s : State) : Nat := 4096 - (s.fab.invTick + (s.queues.map fun x => x.2.invTick).sum)

/-- The compute domains of a mask. -/
def domainsOf (mask : Nat) : List Nat := (List.range 48).filter fun n => tst mask n

/-- Range invalidations at the domains of a mask, each under its domain's generation (R41, R430). -/
def State.coreInvs (s : State) (mask : Nat) (ranges : List (Nat × Nat)) (r : CmdRef) : List Out :=
  ranges.map fun x => .coreInv ((domainsOf mask).map fun n => (n, s.gen n)) x.1 x.2 r

/-- Step 2 is asked for: range invalidations that the core cache controllers will answer. Those that find no room in the tick
wait for a later one. -/
def State.askInvalidate (s : State) (qn pos clusters : Nat) (ranges : List (Nat × Nat)) : State :=
  let live := s.liveDomains clusters
  let room := s.invRoom
  let r : CmdRef := ⟨qn, pos % (s.queue qn).slots⟩
  if live = 0 || ranges.isEmpty then s.modCmd qn pos fun d => { d with invIssued := true, invAt := [], invLeft := 0, invRest := [] }
  else
    ((s.modCmd qn pos fun d =>
        { d with
          invIssued := true, invAt := (domainsOf live).map fun n => (n, ranges.length), invLeft := 0
          invRest := (ranges.drop room).map fun x => ⟨r, none, live, [x]⟩ }).modQueue
      qn fun q => { q with invTick := q.invTick + (ranges.take room).length }).emits (s.coreInvs live (ranges.take room) r)

/-- Step 2 is complete. -/
def Cmd.invDone (c : Cmd) : Bool := c.invAt.isEmpty && decide (c.invLeft = 0)

/-- One range less at a domain. -/
def lessAt (t : Tbl Nat) (n : Nat) : Tbl Nat := Tbl.set 0 t n (Tbl.get 0 t n - 1)

/-- A domain leaves an ask that waits. -/
def InvAsk.without (x : InvAsk) (n : Nat) : InvAsk := if x.dev.isNone then { x with mask := setBit x.mask n false } else x

/-- Asks that still name a domain or a device. -/
def liveAsks (l : List InvAsk) (n : Nat) : List InvAsk := (l.map fun x => x.without n).filter fun x => x.dev.isSome || x.mask ≠ 0

/-- An INVALIDATE whose invalidations are complete has ended. -/
def Cmd.afterInv (c : Cmd) (now : Nat) : Cmd :=
  if hOpcode c.bytes = Op.invalidate && c.invIssued && c.invDone then c.finish E.ok 0 now else c

/-- A domain that goes into reset holds nothing valid: its invalidations are complete (R255, R257). -/
def State.domainInvDone (s : State) (n : Nat) : State :=
  let s := s.mapQueues fun _ q =>
    { q with cmds := q.cmds.map fun c =>
        if c.invIssued then ({ c with invAt := Tbl.del c.invAt n, invRest := liveAsks c.invRest n } : Cmd).afterInv s.time.bnd else c }
  let left := s.fab.served.map fun (a, t, g, l) => (a, t, g, Tbl.del l n)
  let s := s.modFab fun f => { f with served := left.filter fun x => !x.2.2.2.isEmpty, invRest := liveAsks f.invRest n }
  (left.filter fun x => x.2.2.2.isEmpty).foldl
    (fun s (src, tag, g, _) => s.fabSend src { plainPkt K.invalDone [] with tag := tag, rgen := g }) s

/-- An ask goes out. A device that nothing can be sent to ends its command with HX_E_LINK_LOST. -/
def State.issueAsk (s : State) (x : InvAsk) : State :=
  match x.dev with
  | none => s.emits (s.coreInvs x.mask x.ranges x.ref)
  | some d =>
    if s.fab.detached || s.fab.joining || (s.route d).unreach then
      s.modQueue x.ref.queue fun q => { q with
        cmds := q.cmds.map fun c =>
          if c.slot % q.slots = x.ref.slot then { c with result := some E.linkLost, invLeft := c.invLeft - 1 } else c }
    else
      let tag := s.fab.nextTag % 4096
      (s.modFab fun f => { f with nextTag := f.nextTag + 1, invals := f.invals ++ [(d, tag, x.ref, (s.queue x.ref.queue).gen)] }).fabSend d
        { plainPkt K.inval (x.mask :: x.ranges.flatMap fun y => [y.1, y.2]) with tag := tag, rgen := (s.queue x.ref.queue).gen }

/-- The asks that fit in a room, in their order, and those that wait. -/
def fitAsks : Nat → List InvAsk → List InvAsk × List InvAsk
  | _, [] => ([], [])
  | n, x :: l =>
    if x.ranges.length ≤ n then (x :: (fitAsks (n - x.ranges.length) l).1, (fitAsks (n - x.ranges.length) l).2) else ([], x :: l)

def asksSize (l : List InvAsk) : Nat := (l.map fun x => x.ranges.length).sum

/-- What step 2 of a command left for this tick is issued, as far as there is room (R255). -/
def State.issueRest (s : State) (qn : Nat) (c : Cmd) : State :=
  let (go, rest) := fitAsks s.invRoom c.invRest
  go.foldl State.issueAsk
    ((s.modCmd qn c.slot fun d => { d with invRest := rest }).modQueue qn fun q => { q with invTick := q.invTick + asksSize go })

/-- The same for the invalidations that peers asked for. -/
def State.servedRest (s : State) : State :=
  let (go, rest) := fitAsks s.invRoom s.fab.invRest
  (s.modFab fun f => { f with invTick := f.invTick + asksSize go, invRest := rest }).emits
    (go.flatMap fun x => s.coreInvs x.mask x.ranges x.ref)

/-- The ranges that a command's destination invalidation names (R255): `up` limits them to the first stream bytes. -/
def invRanges (b : List Byte) (up : Nat) : List (Nat × Nat) :=
  let op := hOpcode b
  if op = Op.copy then [(pf b 8 56 0, min up (pf b 16 39 0))]
  else if op = Op.fill then [(pf b 0 56 0, min up (pf b 8 39 0))]
  else if op = Op.copy2d then
    let dl := pf b 24 63 40
    (List.range (pf b 32 47 24)).filterMap fun j =>
      if j * dl < up then
        some ((((pf b 8 56 0 : Nat) : Int) + signed40 (pf b 24 39 0) * (j : Int)).toNat, min dl (up - j * dl))
      else none
  else if op = Op.gather then [(pf b 8 56 0, min up (elemCount b * elen b))]
  else []

end Sys2Proof.Machine
end

