-- ==== Sys2Proof/Machine/Control.lean ====
section
/-! DEFINITION. CONTEXT_CTL (R132 to R143, R190, R191): contexts, queues, memory objects and fences made and ended. -/

namespace Sys2Proof.Machine

/-! ### States as the commands before leave them (R191) -/

/-- A context's state with the transition that waits for the boundary. -/
def Ctx.eff (c : Ctx) : CtxState :=
  if c.teardown.isSome then (if c.state = .dead then .dead else .draining) else c.next.getD c.state

/-- A queue's state with the transition that a Q_* command ordered and that waits. A queue that other work parks is PARKED from
the boundary only (R129). -/
def Queue.eff (q : Queue) : QState :=
  match q.next, q.parking with
  | some x, _ => x
  | .none, some (code, _) => if code = E.queueParked then .parked else q.state
  | .none, .none => q.state

/-- The answer of R134 for a subop that a context's state does not allow; 0 where it is allowed. -/
def ctxCode (sub : Nat) (st : CtxState) : Nat :=
  match st with
  | .free => if sub = 1 then E.ok else E.badHandle
  | .dead => E.contextDead
  | .draining => if sub = 6 then E.locked else if sub = 7 then E.ok else E.contextDead
  | .opened => if sub = 1 || sub = 3 || sub = 4 then E.badField else E.ok
  | .running => if sub = 1 || sub = 2 || sub = 4 then E.badField else E.ok
  | .parked => if sub = 1 || sub = 2 || sub = 3 then E.badField else E.ok

/-- The answer of R131 for a queue subop; 0 where it is allowed. -/
def queueCode (sub : Nat) (st : QState) : Nat :=
  if sub = 0x11 then
    match st with | .idle | .active => E.ok | .parked => E.queueParked | .stopped => E.badHandle
  else if sub = 0x12 then
    match st with | .parked => E.ok | .stopped => E.badHandle | _ => E.badField
  else if sub = 0x13 then
    match st with | .stopped => E.badField | _ => E.ok
  else
    match st with | .stopped => E.ok | _ => E.badField

/-- A subop names a privileged slot or queue where it may not (R121, R176). -/
def namesPriv (sub ctx queue : Nat) : Bool :=
  (decide (1 ≤ sub ∧ sub ≤ 7) && decide (ctx < 2)) || (decide (0x10 ≤ sub ∧ sub ≤ 0x14) && (decide (ctx < 2) || decide (queue < 2)))

/-- What a control command answers: rejected with a code, ended with HX_OK and a residue, under way, or held back with nothing done,
to be taken again at a boundary (R44). -/
inductive Ctl where
  | reject (code : Nat)
  | done (residue : Nat) (s : State)
  | later (s : State)
  | hold
  deriving DecidableEq, Repr

/-- A command whose checks 7 to 10 are made at its start, and which the fence it signals did not yet count, counts from now (R140,
R172, R191). -/
def State.countSignal (s : State) (qn : Nat) (c : Cmd) : State :=
  if hFenceEn c.bytes && !c.counted then
    (s.modCmd qn c.slot fun d => { d with counted := true }).addSignaller (fIndex (hFence c.bytes))
  else s

/-- What a CONTEXT_CTL does once checks 7 to 10 have passed: the checks of R134 and R176, then its own. -/
def State.ctlRun (s : State) (qn : Nat) (c : Cmd) (sub : Nat) (k : Nat → Cmd → Ctx → State → Ctl) : State :=
  let slot := pf c.bytes 0 11 0
  let x := s.ctx slot
  let deadFence := sub = 0x32 && (x.eff = .free || x.eff = .dead)
  let code :=
    if namesPriv sub slot (pf c.bytes 0 25 12) then E.notAuthorised
    else if deadFence then E.ok
    else ctxCode sub x.eff
  if code ≠ E.ok then s.finish qn c.slot code 0
  else
    match k qn c x s with
    | .reject code => s.finish qn c.slot code 0
    | .done residue s => s.finish qn c.slot E.ok residue
    | .later s => s
    | .hold => s

/-- A control command begins: the checks of R172 that were left for its start, then what it does. -/
def ctl (r : CmdRef) (sub : Nat) (s : State) (k : Nat → Cmd → Ctx → State → Ctl) : State :=
  begin r Op.contextCtl (some sub) s fun qn c s =>
    let h := s.handleChecks qn c.slot c.stamp c.bytes
    if h ≠ E.ok then s.finish qn c.slot h 0 else (s.countSignal qn c).ctlRun qn c sub k

/-! ### Contexts -/

/-- Contexts homed on a twin (R46). -/
def State.homed (s : State) (t : Side) : Nat := (s.ctxs.filter fun (_, c) => decide (c.home = t) && decide (c.state ≠ .free)).length

/-- The home that OPEN gives (R46): the one named, or the twin in service with fewer homed contexts. -/
def State.chooseHome (s : State) (code : Nat) : Option Side :=
  if code = 1 then (if s.serves .a then some .a else none)
  else if code = 2 then (if s.serves .b then some .b else none)
  else if s.serves .a && (!s.serves .b || decide (s.homed .a ≤ s.homed .b)) then some .a
  else if s.serves .b then some .b
  else none

/-- The pool object whose base is a root (R199). -/
def State.poolAt (s : State) (root : Nat) : Option (Nat × Obj) :=
  s.objs.find? fun (_, o) => decide (o.state = .live) && o.attr % 2 = 1 && decide (o.base = root) && decide (o.owner < 2)

/-- A context that is not FREE is bound to a pool. -/
def State.poolBound (s : State) (root : Nat) : Bool :=
  s.ctxs.any fun (_, c) => decide (c.eff ≠ .free) && !c.priv && decide (c.root = root)

/-- A page of device memory written as all-INVALID (R197). -/
def Mem.clearPage (m : Mem) (a : Nat) : Mem :=
  { m with bytes := m.bytes.filter fun (k, _) => !(decide (a ≤ k) && decide (k < a + 4096)) }.clean a 4096

/-- The fences that a dead context of the slot left are freed (R143), also those that admitted waits of other contexts still name: such
a wait, held to the TAG of its handle, counts at no later fence of the index (DESIGN CHOICE, log entry 176). -/
def State.freeFences (s : State) (slot : Nat) : State :=
  (s.fences.filter fun (_, f) => f.live && decide (f.owner = slot)).foldl
    (fun s (i, f) => s.setFence i { Fence.none with tag := f.tag }) s

/-- Some request of a port that is outstanding passes a test. -/
def State.anyReq (s : State) (t : Req → Bool) : Bool := (s.port .a).reqs.any t || (s.port .b).reqs.any t

/-- A context generation's advance would meet a request still outstanding (R44): a request to the host, or a LAUNCH handed off. -/
def State.genHeld (s : State) (slot : Nat) : Bool :=
  let g := ((s.ctx slot).gen + 1) % 256
  s.anyReq fun r => decide (r.ctx = slot) && decide (r.ctxGen = g)

/-- A PASID generation's advance would meet a request still outstanding. -/
def State.pasidHeld (s : State) (slot : Nat) : Bool :=
  let g := ((s.ctx slot).pasidGen + 1) % 256
  (s.xlt.ats.any fun r => decide (r.ctx = slot) && decide (r.pasidGen = g)) ||
    s.xlt.requests.any fun r => r.index.isSome && decide (r.ctx = slot) && decide (r.pasidGen = g)

/-- A queue generation's advance would meet a request still outstanding: of the host, of a peer, or an invalidation. -/
def State.queueHeld (s : State) (n : Nat) : Bool :=
  let g := ((s.queue n).gen + 1) % 256
  (s.anyReq fun r => decide (r.queue = n) && decide (r.queueGen = g)) ||
    (s.fab.reads.any fun r => decide (r.queue = n) && decide (r.gen = g)) ||
    s.fab.invals.any fun (_, _, r, h) => decide (r.queue = n) && decide (h = g)

/-- A reset domain's advance would meet a request of a twin or a port still outstanding. -/
def State.domainHeld (s : State) (n : Nat) : Bool :=
  let g := (s.gen n + 1) % 256
  [Side.a, Side.b].any fun p =>
    ((s.port p).reqs.any fun r => (n = 50 + p.num && decide (r.portGen = g)) || (n = 48 + p.num && decide (r.twinGen = g))) ||
      (n = 50 + p.num && (s.port p).flushes.any fun x => decide (x.gen = g))

/-- What OPEN does (R132, R190, R199); the PASID generation's advance may hold it back (R44). -/
def openWork (_ : Nat) (c : Cmd) (x : Ctx) (s : State) : Ctl :=
    let b := c.bytes
    let slot := pf b 0 11 0
    let func := pf b 0 18 12
    let loc := pf b 0 24 19
    let root := pf b 16 63 12 * 4096
    let pasid := pf b 8 19 0
    let other := fun (y : Ctx) => decide (y.eff ≠ .free) && decide (y.func = func)
    if s.tdiFrozen func then .reject E.locked
    else
      match s.chooseHome (pf b 0 27 26) with
      | none => .reject E.outOfService
      | some home =>
        if func ≠ 0 && s.ctxs.any (fun (_, y) => other y && decide (y.loc = loc)) then .reject E.badField
        else
          match s.poolAt root with
          | none => .reject E.badHandle
          | some _ =>
            if s.poolBound root then .reject E.locked
            else if s.ctxs.any fun (_, y) => other y && !y.priv && decide (y.pasid = pasid) then .reject E.badField
            else
              if s.pasidHeld slot then .hold
              else
              let s := s.freeFences slot
              let s := s.setMem (s.mem.clearPage root)
              .done 0 (s.setCtx slot
                { Ctx.none with
                  next := some .opened, gen := x.gen, home := home, port := Side.ofBool (tst (pw b 0) 25),
                  terminate := tst (pw b 0) 28, func := func, loc := loc, pasid := pasid,
                  pasidGen := (x.pasidGen + 1) % 256, share := pf b 0 47 32, root := root })

/-- OPEN. -/
def ctxOpen (r : CmdRef) (s : State) : State := ctl r 1 s openWork

/-- START (R133). -/
def ctxStart (r : CmdRef) (s : State) : State :=
  ctl r 2 s fun _ c x s => .done 0 (s.setCtx (pf c.bytes 0 11 0) { x with next := some .running })

/-- PARK (R133). -/
def ctxPark (r : CmdRef) (s : State) : State :=
  ctl r 3 s fun _ c x s => .done 0 (s.setCtx (pf c.bytes 0 11 0) { x with next := some .parked })

/-- RESUME (R133). -/
def ctxResume (r : CmdRef) (s : State) : State :=
  ctl r 4 s fun _ c x s => .done 0 (s.setCtx (pf c.bytes 0 11 0) { x with next := some .running, portPark := false })

/-- SET_HOME (R46, R134). -/
def ctxSetHome (r : CmdRef) (s : State) : State :=
  ctl r 5 s fun _ c x s =>
    let t := if pf c.bytes 0 13 12 = 1 then Side.a else .b
    if !s.serves t then .reject E.outOfService
    else .done 0 (s.setCtx (pf c.bytes 0 11 0) { x with homeNext := some t })

/-- The operator ends a context of a frozen TDI: the TDI moves to ERROR first (R459). -/
def State.unlockFor (s : State) (slot stamp : Nat) : State :=
  let f := (s.ctx slot).func
  if f = 0 then s else (s.tdiError .a f stamp).tdiError .b f stamp

/-- CLOSE (R133): with DRAIN, draining for at most DRAIN_TICKS; without, teardown. It retires when the context is DEAD. -/
def ctxClose (r : CmdRef) (s : State) : State :=
  ctl r 6 s fun _ c _ s =>
    let slot := pf c.bytes 0 11 0
    let s := s.unlockFor slot c.stamp
    let x := s.ctx slot
    if tst (pw c.bytes 0) 12 && x.teardown.isNone then
      .later (s.setCtx slot { x with next := some .draining, drainLeft := some (pf c.bytes 0 47 32) })
    else .later (s.beginTeardown slot E.contextDead c.stamp)

/-- KILL (R133). -/
def ctxKill (r : CmdRef) (s : State) : State :=
  ctl r 7 s fun _ c _ s =>
    let slot := pf c.bytes 0 11 0
    .later ((s.unlockFor slot c.stamp).beginTeardown slot E.contextDead c.stamp)

/-- DRAIN_LIMIT: a draining context reaches its limit and moves to teardown (R133). -/
def drainLimit (c : Instr) (slot : Nat) (s : State) : State :=
  let x := s.ctx slot
  if x.state = .draining && x.drainLeft = some 0 then s.stamped c fun st s => s.beginTeardown slot E.contextDead st else s

/-! ### Queues -/

/-- What Q_CREATE does (R126). A number or a local index that a Q_DESTROY before it is giving up counts as free (R191), and the queue is
made once it is (log entry 177); the queue generation's advance may hold it back too (R44). -/
def queueWork (_ : Nat) (c : Cmd) (x : Ctx) (s : State) : Ctl :=
  let b := c.bytes
  let slot := pf b 0 11 0
  let qn := pf b 0 25 12
  let loc := pf b 0 31 26
  let vector := pf b 0 47 37
  let old := s.queue qn
  let atLoc := (s.localQueue slot loc).map s.queue
  let stays := fun (q : Queue) => q.live && !q.destroy
  if ((s.queuesOf slot).filter fun n => stays (s.queue n)).length ≥ 64 then .reject E.badLength
  else if stays old || (match atLoc with | some q => stays q | none => false) || decide (vector ≥ vecCount x.func) then
    .reject E.badField
  else if old.live || atLoc.isSome || s.queueHeld qn then .hold
  else
    .done 0 (s.setQueue qn
      { Queue.none with
        live := true, gen := (old.gen + 1) % 256, ctx := slot, loc := loc, size := pf b 0 36 32, vector := vector,
        ring := pf b 8 56 12, reply := pf b 16 56 12 })

/-- Q_CREATE. -/
def qCreate (r : CmdRef) (s : State) : State := ctl r 0x10 s queueWork

/-- A CONTEXT_CTL that was held back is taken again at a boundary. -/
def State.retryCtl (s : State) (qn : Nat) (c : Cmd) : State :=
  if hOpcode c.bytes ≠ Op.contextCtl || !c.begun || c.result.isSome then s
  else if hSubop c.bytes = 1 then s.ctlRun qn c 1 openWork
  else if hSubop c.bytes = 0x10 then s.ctlRun qn c 0x10 queueWork
  else s

/-- The queue that a Q_* subop names, when it belongs to the context and its state allows the subop. -/
def State.ctlQueue (s : State) (sub slot qn : Nat) (k : Queue → Ctl) : Ctl :=
  let q := s.queue qn
  if !q.live || q.ctx ≠ slot || q.destroy then .reject E.badHandle
  else if queueCode sub q.eff ≠ E.ok then .reject (queueCode sub q.eff)
  else k q

/-- Q_PARK (R129). -/
def qPark (r : CmdRef) (s : State) : State :=
  ctl r 0x11 s fun _ c _ s =>
    let qn := pf c.bytes 0 25 12
    s.ctlQueue 0x11 (pf c.bytes 0 11 0) qn fun q => .done 0 (s.setQueue qn (q.park E.queueParked (q.ret % q.slots)))

/-- A slot that is passed over under SKIP: an ended command stands in its place, so that its reply is written in ring
order (R125, R129). -/
def Queue.passOver (q : Queue) (n now : Nat) : Queue :=
  let blank := leBytes 8 (fld (n - 1) 9) ++ List.replicate 56 (0 : Byte)
  let c := { (Cmd.admitted q.cons blank noStamp now).force E.aborted 0 now with byAbort := true, started := true, begun := true }
  { q with cmds := q.cmds ++ [c], cons := q.cons + n, ret := q.ret, reject := .none, rejectDone := false, rereads := 0 }

/-- A queue resumes (R129): with SKIP the command or slot at PARK_SLOT retires with HX_E_ABORTED first. -/
def Queue.resume (q : Queue) (skip : Bool) (now : Nat) : Queue :=
  let q :=
    if !skip then { q with reject := .none, rejectDone := false }
    else
      match q.reject with
      | some (_, n, _) => q.passOver n now
      | .none =>
        if (q.cmdAt q.parkSlot).isSome then
          { q with
            cmds := q.cmds.map fun c =>
              if c.slot % q.slots = q.parkSlot then { c.force E.aborted c.residue now with byAbort := true } else c }
        else if q.cons % q.slots = q.parkSlot && decide (q.cons < q.prod) then q.passOver 1 now
        else q
  let idle := q.cmds.isEmpty && decide (q.cons = q.prod)
  { q with next := some (if idle then .idle else .active), parking := .none }

/-- Q_RESUME. -/
def qResume (r : CmdRef) (s : State) : State :=
  ctl r 0x12 s fun _ c _ s =>
    let qn := pf c.bytes 0 25 12
    s.ctlQueue 0x12 (pf c.bytes 0 11 0) qn fun q => .done 0 (s.setQueue qn (q.resume (tst (pw c.bytes 0) 26) s.time.bnd))

/-- Q_STOP (R129). -/
def qStop (r : CmdRef) (s : State) : State :=
  ctl r 0x13 s fun _ c _ s =>
    let qn := pf c.bytes 0 25 12
    s.ctlQueue 0x13 (pf c.bytes 0 11 0) qn fun q =>
      .done 0 (s.setQueue qn { q with next := some .stopped, parking := .none })

/-- Q_DESTROY (R129). -/
def qDestroy (r : CmdRef) (s : State) : State :=
  ctl r 0x14 s fun _ c _ s =>
    let qn := pf c.bytes 0 25 12
    s.ctlQueue 0x14 (pf c.bytes 0 11 0) qn fun q => .done 0 (s.setQueue qn { q with destroy := true })

/-! ### Memory objects -/

/-- The first free index from a start, cyclically below a bound. -/
def nextFree (used : Nat → Bool) (bound : Nat) : Nat → Nat → Option Nat
  | 0, _ => none
  | n + 1, i => if used (i % bound) then nextFree used bound n (i + 1) else some (i % bound)

/-- Two ranges share a byte. -/
def overlap (a n b m : Nat) : Bool := decide (a < b + m) && decide (b < a + n)

/-- An OBJ_CREATE's range meets an object of another context, or a range still being scrubbed (R135, R459). -/
def State.objOverlap (s : State) (slot base size : Nat) : Bool :=
  s.objs.any fun (_, o) =>
    overlap base size o.base (65536 * o.size64k) &&
      ((decide (o.state ≠ .free) && decide (o.owner ≠ slot)) || (decide (o.state = .free) && o.scrub))

/-- The mark of an allocation (R440). -/
def Cmd.mark (c : Cmd) (qn : Nat) : Nat × Nat × Nat := (c.stamp, qn, c.slot)

/-- OBJ_CREATE (R135, R198). `bad` is the fault of the attributes that Coherent Windows defines. -/
def objCreateWith (bad : State → Nat → Nat → Nat → Nat → Bool) (r : CmdRef) (s : State) : State :=
  ctl r 0x20 s fun qn c _ s =>
    let b := c.bytes
    let slot := pf b 0 11 0
    let base := pf b 8 63 16 * 65536
    let size64k := pf b 16 24 0
    let attr := pf b 24 15 0
    let size := 65536 * size64k
    if attr % 2 = 1 && decide (slot ≥ 2) then .reject E.badField
    else if decide (base + size > tableBase) || s.objOverlap slot base size || bad s slot base size64k attr then
      .reject E.badField
    else
      match s.objs.find? fun (_, o) => decide (o.state ≠ .free) && o.mark = some (c.mark qn) with
      | some (i, _) => .done i s
      | none =>
        let (start, s) := s.free 4194304
        match nextFree (fun i => decide ((s.obj i).state ≠ .free) || (s.obj i).scrub) 4194304 (s.objs.length + 1) start with
        | none => .reject E.badLength
        | some i =>
          .done i (s.setObj i
            { Obj.none with
              state := .live, base := base, size64k := size64k, owner := slot, attr := attr, mark := some (c.mark qn) })

/-- OBJ_FREE (R137, R198): the object is RETIRING from the command's stamp; the command retires when it is FREE. -/
def objFree (r : CmdRef) (s : State) : State :=
  ctl r 0x21 s fun qn c _ s =>
    let i := pf c.bytes 0 33 12
    let o := s.obj i
    if o.state = .free || o.owner ≠ pf c.bytes 0 11 0 then .reject E.badHandle
    else if o.state = .retiring then .reject E.objectRetiring
    else if o.attr % 2 = 1 && s.poolBound o.base then .reject E.locked
    else .later (s.setObj i { o with state := .retiring, freeStamp := c.stamp, freeCmd := some ⟨qn, c.slot⟩ })

/-! ### Fences -/

/-- FENCE_ALLOC (R119, R138, R459, R508). -/
def fenceAlloc (r : CmdRef) (s : State) : State :=
  ctl r 0x30 s fun qn c x s =>
    let b := c.bytes
    let share := pf b 0 47 32
    let slot := pf b 0 11 0
    let shared := share ≠ 0 && s.ctxs.any fun (_, y) => decide (y.eff ≠ .free) && decide (y.share = share) && decide (y.func ≠ x.func)
    if share ≠ 0 && share ≠ x.share then .reject E.badField
    else if s.tdiFrozen x.func && shared then .reject E.locked
    else
      match s.fences.find? fun (_, f) => f.live && f.mark = some (c.mark qn) with
      | some (i, f) => .done (fHandle i f.tag) s
      | none =>
        let (start, s) := s.free 1048576
        match nextFree (fun i => (s.fence i).live) 1048576 (s.fences.length + 1) start with
        | none => .reject E.badLength
        | some i =>
          let tag := ((s.fence i).tag + 1) % 4096
          .done (fHandle i tag) (s.setFence i
            { Fence.none with
              live := true, value := pw b 8, hostAddr := pw b 16, tag := tag, mode := pf b 0 13 12, scope := pf b 0 15 14,
              owner := slot, share := share, mark := some (c.mark qn) })

/-- The fence that FENCE_RESET and FENCE_FREE name. -/
def State.ctlFence (s : State) (slot h : Nat) (k : Fence → Ctl) : Ctl :=
  match s.fenceOf h with
  | some f => if f.owner = slot then k f else .reject E.badHandle
  | none => .reject E.badHandle

/-- FENCE_RESET (R140): CODE becomes HX_OK and VALUE stays. -/
def fenceReset (r : CmdRef) (s : State) : State :=
  ctl r 0x31 s fun _ c _ s =>
    let h := ph c.bytes 8
    s.ctlFence (pf c.bytes 0 11 0) h fun f =>
      if f.state ≠ .broken then .reject E.badField
      else .done 0 (s.putFence (fIndex h) { f with state := if f.signallers > 0 then .pending else .signalled, code := E.ok })

/-- FENCE_FREE (R142). -/
def fenceFree (r : CmdRef) (s : State) : State :=
  ctl r 0x32 s fun qn c _ s =>
    let h := ph c.bytes 8
    s.ctlFence (pf c.bytes 0 11 0) h fun f =>
      let s := s.putFence (fIndex h) ({ f with freeing := true, freeCmd := some ⟨qn, c.slot⟩ }.breakWith E.aborted)
      .later (s.settleFree (fIndex h))

end Sys2Proof.Machine
end

