-- ==== Sys2Proof/Machine/Plan.lean ====
section
/-! DEFINITION. PLAN_CTL and the plan slots (02): the checks of an image, loading, the two-phase switch. -/

namespace Sys2Proof.Machine

/-! ### Units (R74) -/

/-- A unit loads plan entries: it is in service. -/
def State.unitServes (s : State) : PlanUnit → Bool
  | .engine n => s.carries (engineTwin n.val)
  | .link _ => true
  | .front t => s.carries t

/-- A unit has acknowledged a slot. -/
def PlanSlot.acked (p : PlanSlot) : PlanUnit → Bool
  | .engine n => tst p.ackCe n.val
  | .link n => tst p.ackLink n.val
  | .front t => tst p.ackFront t.num

/-- A unit's acknowledgement recorded. -/
def PlanSlot.ackBy (p : PlanSlot) : PlanUnit → PlanSlot
  | .engine n => { p with ackCe := setBit p.ackCe n.val true }
  | .link n => { p with ackLink := setBit p.ackLink n.val true }
  | .front t => { p with ackFront := setBit p.ackFront t.num true }

/-- Every unit that loads entries. -/
def planUnits : List PlanUnit :=
  (List.finRange 40).map .engine ++ (List.finRange 24).map .link ++ [.front .a, .front .b]

/-- Every in-service unit has acknowledged a slot. -/
def State.allAcked (s : State) (p : PlanSlot) : Bool := planUnits.all fun u => !s.unitServes u || p.acked u

/-! ### The image (R61, R62, R73) -/

/-- A plan image as it lies in memory. -/
structure Image where
  header : List Byte
  both : List Word
  alone : Two (List Word)
  digest : List Byte
  deriving DecidableEq, Repr

/-- A set of `n` entries at an address. -/
def Mem.entries (m : Mem) (a n : Nat) : List Word := (List.range n).map fun i => w64 (m.word (a + 8 * i))

/-- The image at an address; its three counts come from the header. -/
def Mem.image (m : Mem) (a : Nat) : Image :=
  let h := m.readN a 128
  let n0 := rd h 0x10 4
  let n1 := rd h 0x14 4
  let n2 := rd h 0x18 4
  let body := m.readN (a + 128) (8 * (n0 + n1 + n2))
  { header := h, both := m.entries (a + 128) n0,
    alone := ⟨m.entries (a + 128 + 8 * n0) n1, m.entries (a + 128 + 8 * (n0 + n1)) n2⟩
    digest := sha384 (h.take 0x28 ++ List.replicate 48 0 ++ h.drop 0x58 ++ body) }

/-- Bytes of the image that a header's counts require. -/
def imageLength (h : List Byte) : Nat := 128 + 8 * (rd h 0x10 4 + rd h 0x14 4 + rd h 0x18 4)

/-- Check 4: MAGIC, FORMAT, PERIOD and THROTTLE_KEEP are legal and the reserved bytes zero. -/
def headerLegal (h : List Byte) : Bool :=
  decide (rd h 0 4 = 0x4E414C50) && decide (rd h 4 2 = 1) && decide (rd h 6 1 ≤ 4) &&
    decide (8 ≤ rd h 7 1 ∧ rd h 7 1 ≤ 15) && decide (rd h 9 1 = 0) && decide (rd h 0xE 2 = 0) && decide (rd h 0x1C 4 = 0) &&
    (h.drop 0x58).all (· = 0)

/-- Check 7 for one entry of a set: 0 for both twins, 1 for A alone, 2 for B alone. -/
def entryLegal (cycle set : Nat) (e : Word) : Bool :=
  let kind := enKind e
  let r := enRes e
  decide (bits e.toNat 63 56 = 0) && decide (kind ≤ 2) &&
    decide (r < if kind = 0 then 40 else if kind = 1 then 24 else 2) && decide (1 ≤ enUnits e) && decide (enFirst e < cycle) &&
    (set = 0 || (!(kind = 0 && engineTwin r = (if set = 1 then Side.b else .a)) && !(kind = 2 && r = if set = 1 then 1 else 0)))

/-- The units of a set that apply at a cycle tick and pass a test. -/
def setUnits (l : List Word) (i : Nat) (p : Word → Bool) : Nat :=
  ((l.filter fun e => enApplies e i && p e).map enUnits).foldl (· + ·) 0

/-- Checks 9 to 11 for one set at one cycle tick. -/
def tickLegal (period cap0 cap1 : Nat) (l : List Word) (i : Nat) : Bool :=
  let engine := fun (t : Side) (role : Nat) =>
    setUnits l i fun e => enKind e = 0 && engineTwin (enRes e) = t && engineRole (enRes e) = role
  let cap := fun (t : Side) => if t = Side.a then cap0 else cap1
  ((List.range 40).all fun n => decide (setUnits l i (fun e => enKind e = 0 && enRes e = n) ≤ engineCap period)) &&
    ((List.range 24).all fun n => decide (setUnits l i (fun e => enKind e = 1 && enRes e = n) ≤ linkCap period)) &&
    ((List.range 2).all fun n => decide (setUnits l i (fun e => enKind e = 2 && enRes e = n) ≤ frontCap period)) &&
    ([Side.a, Side.b].all fun t =>
      decide (engine t 0 ≤ cap t) && decide (engine t 1 ≤ cap t) &&
        decide (engine t 0 + engine t 1 + 2 * engine t 2 ≤ nocCap period))

/-- Checks 3 to 11 of R73 for an image of `room` bytes at most; 0 where every one passes. -/
def State.imageCode (s : State) (a room : Nat) : Nat :=
  let h := s.mem.readN a 128
  let period := rd h 6 1
  let cycle := rd h 8 1 + 1
  let cap0 := rd h 0xA 2
  let cap1 := rd h 0xC 2
  if decide (room < 128) || decide (imageLength h > room) then E.badLength
  else if !headerLegal h then E.badField
  else if [0x10, 0x14, 0x18].any fun o => decide (rd h o 4 > 65536) then E.badLength
  else
    let im := s.mem.image a
    let sets := [(0, im.both), (1, im.alone.a), (2, im.alone.b)]
    if im.digest ≠ (h.drop 0x28).take 48 then E.badField
    else if !(sets.all fun (k, l) => l.all (entryLegal cycle k)) then E.badField
    else if decide (cap0 > portFigure period (s.port .a).cxl) || decide (cap1 > portFigure period (s.port .b).cxl) then E.badField
    else if !(sets.all fun (_, l) => (List.range cycle).all (tickLegal period cap0 cap1 l)) then E.badField
    else E.ok

/-! ### STAGE, acknowledgements and RELEASE (R72 to R74, R506) -/

/-- A PLAN_CTL command begins: the checks left for its start (R172), then its own. -/
def planCtl (r : CmdRef) (sub : Nat) (s : State) (k : Nat → Cmd → Nat → PlanSlot → State → Ctl) : State :=
  begin r Op.planCtl (some sub) s fun qn c s =>
    let i := pf c.bytes 0 1 0
    let h := s.handleChecks qn c.slot c.stamp c.bytes
    if h ≠ E.ok then s.finish qn c.slot h 0
    else
      let s := s.countSignal qn c
      match k qn c i (s.slot i) s with
      | .reject code => s.finish qn c.slot code 0
      | .done residue s => s.finish qn c.slot E.ok residue
      | .later s => s
      | .hold => s

/-- STAGE; an image in a table pool may not be read (R198). -/
def planStage (r : CmdRef) (s : State) : State :=
  planCtl r 1 s fun qn c i p s =>
    let ob := pf c.bytes 8 21 0
    let o := s.obj ob
    let off := pw c.bytes 16
    let size := 65536 * o.size64k
    let a := o.base + off
    let code := if o.attr % 2 = 1 then E.xltPerm else s.imageCode a (size - off)
    if p.state ≠ .empty then .reject E.locked
    else if code ≠ E.ok then .reject code
    else
      let h := s.mem.readN a 128
      let im := s.mem.image a
      .later (s.setSlot i
        { PlanSlot.none with
          state := .loading, period := rd h 6 1, keep := rd h 7 1, cycle := rd h 8 1 + 1, cap0 := rd h 0xA 2, cap1 := rd h 0xC 2,
          planId := w64 (rd h 0x20 8), digest := im.digest, both := im.both, alone := im.alone, obj := some ob,
          loadedAt := s.time.bnd, stage := some ⟨qn, c.slot⟩ })

/-- A command that waits for the plans ends. -/
def State.finishRef (s : State) (r : Option CmdRef) (code : Nat) : State :=
  match r with
  | some r => s.finish r.queue r.slot code 0
  | none => s

/-- PLAN_UNIT_ACK: an in-service unit acknowledges a slot that loads; the slot is STAGED when all have, or stays PENDING. -/
def planUnitAck (i : Nat) (u : PlanUnit) (s : State) : State :=
  let p := s.slot i
  if p.stage.isNone || p.failed || !s.unitServes u then s
  else
    let p := p.ackBy u
    if s.allAcked p then
      (s.setSlot i { p with state := if p.state = .loading then .staged else p.state, stage := none }).finishRef p.stage E.ok
    else s.setSlot i p

/-- PLAN_LOAD_TIMEOUT: 64 ticks have passed without every acknowledgement. A slot that only loads becomes EMPTY; one that a COMMIT
has made PENDING stays so, and its commit will not stand; one that has become ACTIVE, or STAGED again, stays as it is. -/
def planLoadTimeout (i : Nat) (s : State) : State :=
  let p := s.slot i
  if p.stage.isNone || p.failed || decide (s.time.bnd < p.loadedAt + 64) then s
  else
    (s.setSlot i
      (match p.state with
        | .pending => { p with failed := true, stage := none }
        | .loading | .empty => .none
        | .staged | .active => { p with stage := none })).finishRef p.stage E.planNotStaged

/-- The loads whose last missing acknowledgement was a unit's that has left service are done (R74). -/
def State.loadsDone (s : State) : State :=
  [0, 1, 2, 3].foldl
    (fun s i =>
      let p := s.slot i
      if p.stage.isNone || p.failed || !s.allAcked p then s
      else (s.setSlot i { p with state := if p.state = .loading then .staged else p.state, stage := none }).finishRef p.stage E.ok) s

/-- A twin that returns has loaded every STAGED, PENDING and ACTIVE plan before it leaves DETACHED (R75): its units have acknowledged
them. -/
def State.loadPlans (s : State) (t : Side) : State :=
  [0, 1, 2, 3].foldl
    (fun s i => s.modSlot i fun p =>
      match p.state with
      | .staged | .pending | .active =>
        (planUnits.filter fun u => match u with | .engine n => decide (engineTwin n.val = t) | .link _ => false | .front x => decide (x = t)).foldl
          PlanSlot.ackBy p
      | .empty | .loading => p) s

/-- RELEASE. -/
def planRelease (r : CmdRef) (s : State) : State :=
  planCtl r 4 s fun _ _ i p s =>
    match p.state with
    | .empty => .reject E.badField
    | .pending | .active => .reject E.locked
    | .loading | .staged => .done 0 ((s.setSlot i .none).finishRef p.stage E.aborted)

/-! ### COMMIT (R77 to R80, R193) -/

/-- The depth of a group's tree: the least d with 23^d members or more (R77). -/
def treeDepth (n : Nat) : Nat :=
  if n ≤ 1 then 0 else if n ≤ 23 then 1 else if n ≤ 529 then 2 else if n ≤ 12167 then 3 else 4

/-- d of a commit of a scope and group. -/
def State.commitDepth (s : State) (fabric : Bool) (group : Nat) : Nat :=
  if fabric then treeDepth (s.members group).length else 0

/-- COMMIT. -/
def planCommit (r : CmdRef) (s : State) : State :=
  planCtl r 2 s fun qn c i p s =>
    let b := c.bytes
    let scope := pf b 0 3 2
    let group := pf b 0 31 16
    let fabric := decide (scope = 2)
    let t := pf b 8 47 0
    let d := s.commitDepth fabric group
    let adm := c.admTick
    if !s.time.agreed then .reject E.planNotStaged
    else if p.state = .empty then .reject E.planNotStaged
    else if p.state = .pending then .reject E.locked
    else if p.state = .active then .reject E.badField
    else if scope ≠ 1 && scope ≠ 2 then .reject E.badField
    else if t < adm + 2 * d + 3 then .reject E.badField
    else if t > adm + 2 ^ 20 then .reject E.badField
    else if p.period ≠ s.time.period && !(fabric && group = 0) then .reject E.scopeMismatch
    else if s.plan.pend.isSome then .reject E.locked
    else
      .later ((s.setSlot i { p with state := .pending, prev := p.state }).modPlan fun x =>
        { x with
          pend := some
            { slot := i, tick := t, fabric := fabric, group := group, cmd := ⟨qn, c.slot⟩, check := none, decision := none, results := [], sent := false } })

/-- A commit is withdrawn: its slot returns as R506 states, and its command retires with a code. -/
def State.withdraw (s : State) (m : Commit) (code : Nat) : State :=
  let p := s.slot m.slot
  let p' :=
    if p.state ≠ .pending then p
    else if p.failed then .none
    else { p with state := if p.stage.isSome then .loading else .staged }
  ((s.setSlot m.slot p').modPlan fun x => { x with pend := none }).finish m.cmd.queue m.cmd.slot code 0

/-- WITHDRAW: before the staging check; the COMMIT's fence is not broken (R193, R506). -/
def planWithdraw (r : CmdRef) (s : State) : State :=
  planCtl r 3 s fun _ _ i p s =>
    match s.plan.pend with
    | some m =>
      if p.state ≠ .pending || m.slot ≠ i then .reject E.badField
      else if m.check.isSome then .reject E.locked
      else
        .done 0 (((s.withdraw m E.aborted).modPlan fun x => { x with withdrawn := true }).modCmd m.cmd.queue m.cmd.slot fun c => { c with quietFence := true })
    | none => .reject E.badField

/-- The tick at whose end a commit's staging check is made (R78, R79). -/
def State.checkTick (s : State) (m : Commit) : Nat := m.tick - 2 - 2 * s.commitDepth m.fabric m.group

/-- The staging check is made: for scope C it decides. -/
def State.stagingCheck (s : State) (m : Commit) : State :=
  let ok := s.allAcked (s.slot m.slot) && !(s.slot m.slot).failed
  s.modPlan fun x =>
    { x with pend := some { m with check := some ok, decision := if m.fabric then m.decision else some ok } }

/-- The pending commit of a group at a tick. -/
def State.pendOf (s : State) (group tick : Nat) : Option Commit :=
  s.plan.pend.filter fun m => m.fabric && m.group = group && m.tick = tick

/-- The devices below this one in a group's tree are told a decision. -/
def State.tellDecision (s : State) (group tick : Nat) (stands : Bool) : State :=
  s.emits ((s.treeBelow group).map fun d => .planHop d group tick false stands)

/-- The result of the subtree below this device: every member of it that has a part has reported it staged, or one is known not to
be. -/
def State.groupResult (s : State) (m : Commit) : Option Bool :=
  if m.check = some false || m.results.any (fun r => !r.2) then some false
  else if m.check = some true && (s.treeBelow m.group).all (fun d => m.results.any fun r => r.1 = d) then some true
  else none

/-- This device's result goes up the tree once it is known (R79). -/
def State.reportUp (s : State) : State :=
  match s.plan.pend with
  | none => s
  | some m =>
    if !m.fabric || m.sent || m.check.isNone || s.rankIn m.group = 0 then s
    else
      match s.groupResult m with
      | none => s
      | some ok =>
        (s.modPlan fun x => { x with pend := some { m with sent := true } }).emit (.planHop (s.treeAbove m.group) m.group m.tick true ok)

/-- PLAN_STAGING_CHECK. -/
def planStagingCheck (s : State) : State :=
  match s.plan.pend with
  | some m => if m.check.isNone && s.time.tick = s.checkTick m then (s.stagingCheck m).reportUp else s
  | none => s

/-- A result comes up from a device below. A device that holds no such commit counts as not staged: so it reports, or, as the root,
decides. -/
def State.resultUp (s : State) (dev group tick : Nat) (ok : Bool) : State :=
  match s.pendOf group tick with
  | none =>
    if s.rankIn group = 0 then s.tellDecision group tick false
    else s.emit (.planHop (s.treeAbove group) group tick true false)
  | some m =>
    if m.results.any fun r => r.1 = dev then s
    else (s.modPlan fun x => { x with pend := some { m with results := m.results ++ [(dev, ok)] } }).reportUp

/-- The decision comes down, during ticks T − 1 − d to T − 2, and goes on to the devices below. A commit that this device did not
find staged does not stand. -/
def State.decisionDown (s : State) (group tick : Nat) (stands : Bool) : State :=
  let s := s.tellDecision group tick stands
  match s.pendOf group tick with
  | some m =>
    if m.check.isSome && m.decision.isNone && decide (s.time.tick + 2 ≤ m.tick) &&
        decide (m.tick ≤ s.time.tick + 1 + s.commitDepth true group) then
      s.modPlan fun x => { x with pend := some { m with decision := some (stands && m.check = some true) } }
    else s
  | none => s

/-- PLAN_GROUP_DECISION: what the device `dev` next to this one in the group's tree sends for a commit of the group at a tick: its
subtree's result on its way up, or the root's decision on its way down (R79). -/
def planGroupDecision (dev group tick : Nat) (up stands : Bool) (s : State) : State :=
  if up then if (s.treeBelow group).contains dev then s.resultUp dev group tick stands else s
  else if s.rankIn group ≠ 0 && dev = s.treeAbove group then s.decisionDown group tick stands
  else s

/-- The root decides at the end of tick T − 2 − d: the commit stands only if every device is staged and every subtree has reported
(R79). -/
def State.rootDecides (s : State) : State :=
  match s.plan.pend with
  | some m =>
    if m.fabric && m.decision.isNone && s.rankIn m.group = 0 && decide (m.tick ≤ s.time.tick + 1 + s.commitDepth true m.group) then
      let ok := s.groupResult m = some true
      (s.modPlan fun x => { x with pend := some { m with decision := some ok } }).tellDecision m.group m.tick ok
    else s
  | none => s

/-- The decision was missed: the device keeps its old plan (R80). -/
def State.missDecision (s : State) (m : Commit) : State :=
  (((s.withdraw m E.planNotStaged).modPlan fun x => { x with diverged := true }).chip 0 m.slot)

/-- PLAN_DECISION_MISSED: the end of T − 2 without the group's decision. -/
def planDecisionMissed (s : State) : State :=
  match s.plan.pend with
  | some m => if m.fabric && m.decision.isNone && s.rankIn m.group ≠ 0 && s.time.tick + 2 = m.tick then s.missDecision m else s
  | none => s

/-- What the boundary into tick T − 1 makes of a commit: the checks of the tick just ended that no command has made are made
(log entry 28), and a commit that does not stand is withdrawn. -/
def State.commitStep (s : State) : State :=
  match s.plan.pend with
  | none => s
  | some m =>
    let s := if m.check.isNone && decide (s.time.tick > s.checkTick m) then s.stagingCheck m else s
    let s := s.reportUp.rootDecides
    match s.plan.pend with
    | none => s
    | some m =>
      if s.time.tick + 1 < m.tick then s
      else
        match m.decision with
        | some true => s
        | some false => (s.withdraw m E.planNotStaged).modPlan fun x => { x with withdrawn := true }
        | none => s.missDecision m

/-- The switch of boundary T (R78, R81): the named slot becomes ACTIVE, the old one STAGED, and the COMMIT is answered. -/
def State.planSwitch (s : State) : State :=
  match s.plan.pend with
  | none => s
  | some m =>
    if m.decision ≠ some true || decide (s.time.tick < m.tick) then s
    else
      let s := s.modSlot s.plan.active fun p => { p with state := .staged }
      let s := s.modSlot m.slot fun p => { p with state := .active }
      let new := (s.slot m.slot).period
      let s := if new = s.time.period then s else s.modTime fun t => { t with period := new, tp := t.tick }
      (s.modPlan fun x => { x with active := m.slot, switchTick := s.time.tick, pend := none }).finish m.cmd.queue m.cmd.slot E.ok 0

/-- The start plan of R504 at a period, with the units that the ports' present modes give (R60). -/
def State.startPlanNow (s : State) (period : Nat) : PlanSlot :=
  let u := fun (p : Side) => min 100 (portFigure period (s.port p).cxl)
  startPlan period (u .a) (u .b)

end Sys2Proof.Machine
end

