-- ==== Sys2Proof/Machine/Maps.lean ====
section
/-! DEFINITION. MAP, UNMAP and INVALIDATE (R185 to R189, R196 to R202, R209, R503, R512), the mappings of an object that is
freed (R137), and their effect at a boundary. -/

namespace Sys2Proof.Machine

/-! ### Tables with the writes that wait -/

/-- A table entry as written, whether or not it has taken effect. -/
def State.entryAt (s : State) (a : Nat) : Nat := ((Tbl.find s.xlt.writes a).getD (w64 (s.mem.word a))).toNat

/-- An entry is written; it takes effect at the next boundary. -/
def State.writeEntry (s : State) (a e : Nat) : State := s.modXlt fun x => { x with writes := Tbl.put x.writes a (w64 e) }

/-- Where the entry of a level for an address stands: there, below an INVALID entry, or inside a larger page. -/
inductive EntrySlot where
  | at_ (addr : Nat)
  | missing
  | inside
  deriving DecidableEq, Repr

/-- The entry of level `target` for an address, from the table of a level down. -/
def State.entrySlot (s : State) (va target : Nat) : Nat → Nat → EntrySlot
  | 0, table => .at_ (table + 8 * levelIndex va 0)
  | l + 1, table =>
    let a := table + 8 * levelIndex va (l + 1)
    if l + 1 = target then .at_ a
    else
      let e := s.entryAt a
      if !eV e then .missing else if eLeaf e then .inside else s.entrySlot va target l (eNext e)

/-- The table pages of a subtree, its own included. -/
def State.subtree (s : State) : Nat → Nat → List Nat
  | 0, table => [table]
  | l + 1, table =>
    table ::
      (List.range 512).flatMap fun i =>
        let e := s.entryAt (table + 8 * i)
        if eV e && !eLeaf e then s.subtree l (eNext e) else []

/-- The leaves below a table: first address, level, where the entry stands, the entry. -/
def State.leavesFrom (s : State) : Nat → Nat → Nat → List (Nat × Nat × Nat × Nat)
  | 0, table, b =>
    (List.range 512).filterMap fun i =>
      let e := s.entryAt (table + 8 * i)
      if eV e && eLeaf e then some (b + 4096 * i, 0, table + 8 * i, e) else none
  | l + 1, table, b =>
    (List.range 512).flatMap fun i =>
      let e := s.entryAt (table + 8 * i)
      let v := b + i * 2 ^ (12 + 9 * (l + 1))
      if !eV e then [] else if eLeaf e then [(v, l + 1, table + 8 * i, e)] else s.leavesFrom l (eNext e) v

/-- Every leaf of a context. -/
def State.leaves (s : State) (slot : Nat) : List (Nat × Nat × Nat × Nat) := s.leavesFrom 4 (s.ctx slot).root 0

/-- Table pages of a context that are linked: those in use and not about to return to the pool. -/
def State.tablesOf (s : State) (slot : Nat) : List Nat :=
  (s.xlt.tables.filter fun t => t.1 = slot && !s.xlt.frees.contains t).map (·.2)

/-- A new table page from the context's pool, all INVALID; none when the pool is full (R197). -/
def State.newTable (s : State) (slot : Nat) : Option (Nat × State) :=
  let root := (s.ctx slot).root
  match s.poolAt root with
  | none => none
  | some (_, o) =>
    let used := fun i => i = 0 || s.xlt.tables.contains (slot, root + 4096 * i)
    (nextFree used (16 * o.size64k) (s.xlt.tables.length + 2) 1).map fun i =>
      let a := root + 4096 * i
      (a, (s.setMem (s.mem.clearPage a)).modXlt fun x =>
        { x with tables := x.tables ++ [(slot, a)], writes := x.writes.filter fun w => !(decide (a ≤ w.1) && decide (w.1 < a + 4096)) })

/-- The entry of a level for an address, with the tables above it made; none when the pool is full. -/
def State.makePath (s : State) (slot va target : Nat) : Nat → Nat → Option (Nat × State)
  | 0, table => some (table + 8 * levelIndex va 0, s)
  | l + 1, table =>
    let a := table + 8 * levelIndex va (l + 1)
    if l + 1 = target then some (a, s)
    else
      let e := s.entryAt a
      if eV e then s.makePath slot va target l (eNext e)
      else
        match s.newTable slot with
        | none => none
        | some (t, s) => (s.writeEntry a (fld (t / 4096) 12 + 1)).makePath slot va target l t

/-- Tables whose last valid entry is gone are unlinked and return to the pool at the boundary (R197). -/
def State.prune (s : State) (slot : Nat) : Nat → State
  | 0 => s
  | n + 1 =>
    let pages := s.tablesOf slot
    let empty := pages.filter fun p => (List.range 512).all fun i => !eV (s.entryAt (p + 8 * i))
    if empty.isEmpty then s
    else
      let holders := (s.ctx slot).root :: pages
      let s := s.modXlt fun x => { x with frees := x.frees ++ empty.map fun p => (slot, p) }
      let s := holders.foldl
        (fun s h =>
          (List.range 512).foldl
            (fun s i =>
              let e := s.entryAt (h + 8 * i)
              if eV e && !eLeaf e && empty.contains (eNext e) then s.writeEntry (h + 8 * i) 0 else s) s) s
      s.prune slot n

/-- A range changes at the next boundary. -/
def State.changes (s : State) (slot page pages : Nat) (purge : Bool) : State :=
  s.modXlt fun x => { x with changes := x.changes ++ [(slot, page, pages, purge)] }

/-! ### MAP -/

/-- The level of a page-size code, and the entries of one page. -/
def psLevel (ps : Nat) : Nat := ps - 1
def psCount (ps : Nat) : Nat := if ps = 1 then 16 else 1

/-- Check 2 of R187: what the target words resolve to under R202: the object, or the place of the grant held, and the address field
of the first page. -/
def State.mapTarget (s : State) (slot : Nat) (b : List Byte) : Except Nat (Nat × Nat) :=
  let ty := pf b 8 37 35
  let bytes := pf b 8 31 0 * pageSize (pf b 8 34 32)
  if ty = 0 then
    let o := s.obj (pf b 16 21 0)
    if o.state = .free || o.owner ≠ slot || o.attr % 2 = 1 then .error E.badHandle
    else .ok (pf b 16 21 0, (o.base + pw b 24) / 4096)
  else if ty = 1 then
    match s.heldGrant (pf b 16 13 0) (pf b 16 31 16) with
    | some (place, g) =>
      let a := pf b 24 51 0
      if g.fence || g.ctx ≠ slot || decide (a < g.base) || decide (a + bytes > g.base + g.size) then .error E.peerDenied
      else .ok (place, (a - g.base) / 4096)
    | none => .error E.peerDenied
  else if ty = 2 then (if (s.ctx slot).priv then .error E.badField else .ok (0, pw b 24 / 4096))
  else .ok (0, 0)

/-- The leaf of one 4 KiB step of a MAP: what it resolved to, and the address field. -/
def mapLeaf (b : List Byte) (who field : Nat) : Nat :=
  let ty := pf b 8 37 35
  let hi := if ty = 0 then fld who 42 + fld field 12 else if ty = 1 then fld who 48 + fld field 12
    else if ty = 2 then fld field 12 else 0
  hi + fld (bit (pf b 8 34 32 = 1)) 8 + fld (bit (tst (pw b 8) 40)) 7 + fld (bit (tst (pw b 8) 39)) 6 +
    fld (bit (tst (pw b 8) 38)) 5 + fld ty 2 + 3

/-- Check 4 of R187 for one page. A larger page that the MAP covers with smaller ones is split, with REPLACE too (DESIGN CHOICE, log
entry 186). -/
def State.mapPageBad (s : State) (slot va ps : Nat) (replace : Bool) : Bool :=
  match s.entrySlot va (psLevel ps) 4 (s.ctx slot).root with
  | .missing => false
  | .inside => true
  | .at_ a =>
    (List.range (psCount ps)).any fun i =>
      let e := s.entryAt (a + 8 * i)
      eV e && (!replace || (ps = 0 && eContig e))

/-- One page written; none when the pool is full (check 5). -/
def State.mapPage (s : State) (slot va ps who field : Nat) (b : List Byte) : Option State :=
  match s.makePath slot va (psLevel ps) 4 (s.ctx slot).root with
  | none => none
  | some (a, s) =>
    let e := s.entryAt a
    let s := if eV e && !eLeaf e then
        s.modXlt fun x => { x with frees := x.frees ++ (s.subtree (psLevel ps - 1) (eNext e)).map fun p => (slot, p) }
      else s
    some ((List.range (psCount ps)).foldl (fun s i => s.writeEntry (a + 8 * i) (mapLeaf b who (field + i))) s)

/-- The pages of a MAP in order. -/
def State.mapPages (s : State) (slot ps who : Nat) (b : List Byte) : Nat → Nat → Nat → Option State
  | 0, _, _ => some s
  | n + 1, va, field =>
    match s.mapPage slot va ps who field b with
    | some s => s.mapPages slot ps who b n (va + pageSize ps) (field + pageSize ps / 4096)
    | none => none

/-- The checks of R187 in order; the state with its entries written, or the first failing check's code. -/
def State.mapRun (s : State) (slot : Nat) (b : List Byte) : Except Nat State :=
  let va := pf b 0 56 0
  let ps := pf b 8 34 32
  let n := pf b 8 31 0
  let sz := pageSize ps
  let replace := tst (pw b 8) 42
  if va + n * sz > 2 ^ 57 then .error E.badField
  else
    match s.mapTarget slot b with
    | .error code => .error code
    | .ok (who, field) =>
      let o := s.obj (pf b 16 21 0)
      if pf b 8 37 35 = 0 && decide (pw b 24 + n * sz > 65536 * o.size64k) then .error E.badLength
      else if (List.range n).any fun i => s.mapPageBad slot (va + i * sz) ps replace then .error E.badField
      else
        match s.mapPages slot ps who b n va field with
        | none => .error E.badLength
        | some s' =>
          if pf b 8 37 35 = 0 && decide (o.base + pw b 24 + n * sz > tableBase) then .error E.badField
          else .ok (s'.changes slot (va / 4096) (n * sz / 4096) replace)

/-- A command whose entries wait for the boundary. -/
def State.awaitEffect (s : State) (qn pos : Nat) : State := s.modCmd qn pos fun c => { c with phase := 1 }

/-- MAP. -/
def mapCmd (r : CmdRef) (s : State) : State :=
  begin r Op.map none s fun qn c s =>
    match s.mapRun (s.queue qn).ctx c.bytes with
    | .error code => s.finish qn c.slot code 0
    | .ok s => s.awaitEffect qn c.slot

/-! ### UNMAP and INVALIDATE -/

/-- The page that a leaf belongs to: its first address and size. -/
def leafPage (v level e : Nat) : Nat × Nat :=
  if eContig e then (v - v % 65536, 65536) else (v, 2 ^ (12 + 9 * level))

/-- UNMAP. -/
def unmapCmd (r : CmdRef) (s : State) : State :=
  begin r Op.unmap none s fun qn c s =>
    let slot := (s.queue qn).ctx
    let lo := pf c.bytes 0 56 0
    let hi := lo + 4096 * pf c.bytes 8 44 0
    let hit := (s.leaves slot).filter fun (v, l, _, e) => let p := leafPage v l e; decide (p.1 < hi) && decide (lo < p.1 + p.2)
    if hit.any fun (v, l, _, e) => let p := leafPage v l e; decide (p.1 < lo) || decide (hi < p.1 + p.2) then
      s.finish qn c.slot E.badField 0
    else
      let s := hit.foldl (fun s x => s.writeEntry x.2.2.1 0) s
      ((s.prune slot 4).changes slot (lo / 4096) (pf c.bytes 8 44 0) true).awaitEffect qn c.slot

/-- INVALIDATE: translations at once on both twins; core caches by the controllers (R189). -/
def invalidateCmd (r : CmdRef) (s : State) : State :=
  begin r Op.invalidate none s fun qn c s =>
    let b := c.bytes
    let a := pf b 0 56 0
    let n := pf b 8 39 0
    let s := if tst (pw b 24) 1 then s.purge (s.queue qn).ctx (a / 4096) ((a + n + 4095) / 4096 - a / 4096) else s
    if tst (pw b 24) 0 then
      let s := s.askInvalidate qn c.slot (pf b 16 47 0) [(a, n)]
      if (s.liveDomains (pf b 16 47 0)) = 0 then s.finish qn c.slot E.ok 0 else s
    else s.finish qn c.slot E.ok 0

/-- CORE_INVALIDATE_DONE of a command: one range is invalid at one domain; an INVALIDATE with none left ends. -/
def State.coreDone (s : State) (r : CmdRef) (n : Nat) : State :=
  s.modQueue r.queue fun q => { q with
    cmds := q.cmds.map fun c =>
      if c.slot % q.slots = r.slot then ({ c with invAt := lessAt c.invAt n } : Cmd).afterInv s.time.bnd else c }

/-- A peer has answered one INVAL of a command. -/
def State.peerInvDone (s : State) (r : CmdRef) : State :=
  s.modQueue r.queue fun q => { q with
    cmds := q.cmds.map fun c => if c.slot % q.slots = r.slot then { c with invLeft := c.invLeft - 1 } else c }

/-! ### The boundary (R187, R197, R209) -/

/-- The tags and journal numbers that the next accesses take. -/
def State.useMarks (s : State) : List Nat :=
  [(s.port .a).nextTag, (s.port .b).nextTag, s.fab.nextTag, (s.port .a).jseq, (s.port .b).jseq]

/-- The entries that wait take effect together; the removed tables return to their pools; caches drop what the changes name;
and the commands that wrote them end. `aux` keeps the tags and journal numbers of the accesses that may still use a removed
translation (R188). -/
def State.applyMaps (s : State) : State :=
  let ch := s.xlt.changes
  let frees := s.xlt.frees
  let s := s.xlt.writes.foldl (fun s (a, v) => s.setMem (s.mem.writeN a (leBytes 8 v.toNat))) s
  let gone := frees.map (·.2)
  let keep := fun (w : WalkEntry) => !gone.contains (eNext w.entry.toNat)
  let s := s.modXlt fun x =>
    { x with
      writes := [], changes := [], frees := [], tables := x.tables.filter fun t => !frees.contains t
      walk := ⟨x.walk.a.filter keep, x.walk.b.filter keep⟩ }
  let s := ch.foldl
    (fun s (slot, page, pages, purge) => if purge then (s.purge slot page pages).purgeHost slot else s) s
  let now := s.time.bnd
  let tags := s.useMarks
  s.mapQueues fun _ q =>
    { q with
      cmds := q.cmds.map fun c =>
        if (hOpcode c.bytes = Op.map || hOpcode c.bytes = Op.unmap) && c.begun && c.phase = 1 && c.aux.isEmpty then
          { c.finish E.ok 0 now with aux := tags }
        else c }

/-! ### OBJECT_FREED (R137) -/

/-- A RETIRING object's reference count is zero: its mappings are removed as UNMAP does, and it is FREE at a
boundary after the accesses through them are done. -/
def objectFreed (i : Nat) (s : State) : State :=
  let o := s.obj i
  if o.state ≠ .retiring || o.unmapped || s.refs i ≠ 0 then s
  else
    let hit := (s.leaves o.owner).filter fun (_, _, _, e) => eType e = 0 && bits e 63 42 = i
    if o.owner < 2 || (s.ctx o.owner).state = .free || (s.ctx o.owner).state = .dead || hit.isEmpty then
      s.setObj i { o with unmapped := true, uses := some [] }
    else
      let s := s.setObj i { o with unmapped := true, uses := none }
      let s := hit.foldl
        (fun s (v, l, a, _) => (s.writeEntry a 0).changes o.owner (v / 4096) (2 ^ (9 * l)) true) s
      s.prune o.owner 4

end Sys2Proof.Machine
end

