-- ==== Sys2Proof/Machine/Units.lean ====
section
/-! DEFINITION. What one unit of an engine command reads, writes and computes (07, 08): streams, the addresses of a unit, the
tables it reads, and the bytes it makes. -/

namespace Sys2Proof.Machine

/-! ### Bytes with their poison -/

/-- Bytes of device memory with their marks. -/
def Mem.readP (m : Mem) (a n : Nat) : List PByte := (List.range n).map fun i => (m.read (a + i), m.poisoned (a + i))

/-- Bytes written: a 32-byte word that takes a poisoned byte is marked, one written whole and clean is cleared (R259, R351). -/
def Mem.storeP (m : Mem) (a : Nat) (l : List PByte) : Mem :=
  let m := m.writeN a (l.map (·.1))
  (List.range ((a + l.length + 31) / 32 - a / 32)).foldl
    (fun m i =>
      let w := a / 32 + i
      let lo := 32 * w - a
      let sub := (l.drop lo).take (32 * w + 32 - a - lo)
      if sub.any (·.2) then m.mark (32 * w) 32
      else if a ≤ 32 * w && 32 * w + 32 ≤ a + l.length then m.clean (32 * w) 32 else m) m

/-! ### Streams (R241, R256, R267, R282, R289, R294) -/

def tRows (b : List Byte) : Nat := pf b 24 63 32
def tCols (b : List Byte) : Nat := pf b 24 31 0
def tSfmt (b : List Byte) : Nat := pf b 40 3 0
def tDfmt (b : List Byte) : Nat := pf b 40 7 4
def tPattern (b : List Byte) : Nat := pf b 40 5 4
def tCap (b : List Byte) : Nat := pf b 40 14 8
def tTokens (b : List Byte) : Nat := pf b 40 42 22
def tExperts (b : List Byte) : Nat := pf b 40 21 9
def tTopk (b : List Byte) : Nat := pf b 40 3 0
def tReduce (b : List Byte) : Bool := tst (pw b 40) 9
def rowBytes (b : List Byte) : Nat := pf b 32 31 0
def combineCols (b : List Byte) : Nat := pf b 32 31 0

/-- Bits of one stream element of a transform. -/
def wideBits (b : List Byte) : Nat :=
  let op := hOpcode b
  if op = Op.quantize then fmtBits (tSfmt b)
  else if op = Op.dequantize then fmtBits (tDfmt b)
  else if op = Op.compact || op = Op.expand then fmtBits (tSfmt b)
  else 32

/-- The stream length in bytes. -/
def streamLen (b : List Byte) : Nat :=
  let op := hOpcode b
  if !isEngine op then 0
  else if op = Op.copy then pf b 16 39 0
  else if op = Op.fill then pf b 8 39 0
  else if op = Op.copy2d then pf b 16 63 40 * pf b 32 23 0
  else if op = Op.gather || op = Op.scatter then elemCount b * elen b
  else if op = Op.dispatch then tTokens b * rowBytes b
  else if op = Op.combine then tTokens b * combineCols b * 4
  else tRows b * tCols b * wideBits b / 8

/-- Units of a command. -/
def unitCount (b : List Byte) : Nat := (streamLen b + 4095) / 4096

/-- The half point. -/
def halfPoint (b : List Byte) : Nat :=
  let op := hOpcode b
  if op = Op.gather || op = Op.scatter then elemCount b / 2 * elen b else streamLen b / 2

/-- Bytes of a WRITE_INLINE in its first `n` pieces, cut at the 64-byte boundaries of its destination (R179). -/
def inlineDone (b : List Byte) (n : Nat) : Nat := if n = 0 then 0 else min (pf b 8 8 0) (64 * n - pf b 0 56 0 % 64)

/-- The stream bytes that a command still means to write: all, or those below the byte at which it is to end (R214, R232, R239). -/
def Cmd.len (c : Cmd) : Nat := match c.ends with | some (_, p) => min p (streamLen c.bytes) | none => streamLen c.bytes

/-- The units of those bytes; the last may be shorter. -/
def Cmd.units (c : Cmd) : Nat := (c.len + 4095) / 4096

/-- Bytes of one of its units. -/
def Cmd.unitLen (c : Cmd) (u : Nat) : Nat := min 4096 (c.len - 4096 * u)

/-- RESIDUE of a command: the stream length minus its residue point; for WRITE_INLINE the bytes not written (R171). -/
def Cmd.left (c : Cmd) : Nat :=
  if hOpcode c.bytes = Op.writeInline then pf c.bytes 8 8 0 - inlineDone c.bytes c.point
  else streamLen c.bytes - min c.len (4096 * c.point)

/-! ### What stops a unit -/

/-- A unit cannot go on: the command ends with a code (at a stream position, when one is given), a walk failed, or a translation
is awaited. -/
inductive Stop where
  | code (c : Nat)
  | codeAt (c pos : Nat)
  | fault (cva reason level : Nat) (acc : Access)
  | miss (page : Nat) (acc : Access)
  deriving DecidableEq, Repr

/-- Types of target that a side allows. -/
structure Allow where
  loc : Bool
  zero : Bool
  host : Bool
  peer : Bool
  deriving DecidableEq, Repr

def Allow.local : Allow := ⟨true, false, false, false⟩
def Allow.table : Allow := ⟨true, true, false, false⟩
def Allow.either : Allow := ⟨true, false, false, true⟩

/-- A source and a destination under a PATH (R229). -/
def pathSource (path : Nat) : Allow :=
  if path = 1 || path = 5 then ⟨false, false, true, false⟩ else if path = 4 then ⟨false, false, false, true⟩ else .table
def pathDest (path : Nat) : Allow :=
  if path = 2 then ⟨false, false, true, false⟩ else if path = 3 || path = 5 then ⟨false, false, false, true⟩ else .local

/-- What a piece's target stops, under what is allowed: first the walk's failure, then the type (R214, R232). -/
def State.stopOf (s : State) (slot : Nat) (al : Allow) (acc : Access) (cva : Nat) : Target → Option Stop
  | .fail r l => some (.fault cva r l acc)
  | .miss page => if al.host then some (.miss page acc) else some (.code E.badField)
  | .loc _ => if al.loc then none else some (.code E.badField)
  | .zero => if al.zero then none else some (.code E.badField)
  | .host _ _ => if al.host then none else some (.code E.badField)
  | .peer g _ =>
    if !al.peer then some (.code E.badField)
    else
      match s.grantOf slot g with
      | none => some (.fault cva Reason.peerDenied (s.leafLevel slot cva acc) acc)
      | some h => if (s.route h.dev).unreach then some (.code E.linkLost) else none

/-- The first stop among pieces. -/
def State.stopIn (s : State) (slot : Nat) (al : Allow) (acc : Access) (l : List (Nat × Nat × Target)) : Option Stop :=
  l.findSome? fun (cva, _, t) => s.stopOf slot al acc cva t

/-- An address lies in one of the ranges. -/
def inRanges (l : List (Nat × Nat)) (a : Nat) : Bool := l.any fun (x, n) => decide (x ≤ a) && decide (a < x + n)

/-- Device memory that a command reads as undefined bytes (R250): the ranges, and what names the bytes: the boundaries since power-up,
the queue and the position of the command. -/
structure Blur where
  ranges : List (Nat × Nat)
  bnd : Nat
  queue : Nat
  pos : Nat
  deriving DecidableEq, Repr

/-- Nothing is undefined. -/
def Blur.none : Blur := ⟨[], 0, 0, 0⟩

/-- Bytes read at an address, with the undefined ones in their place. -/
def Blur.read (bl : Blur) (a : Nat) (l : List PByte) : List PByte :=
  if bl.ranges.isEmpty then l
  else l.zipIdx.map fun (b, i) => if inRanges bl.ranges (a + i) then (Config.undefinedByte bl.bnd bl.queue bl.pos (a + i), b.2) else b

/-- The bytes of pieces that lie in device memory or on ZERO pages. -/
def State.bytesOf (s : State) (bl : Blur) (l : List (Nat × Nat × Target)) : List PByte :=
  l.flatMap fun (_, n, t) =>
    match t with
    | .loc a => bl.read a (s.mem.readP a n)
    | _ => List.replicate n (0, false)

/-- A table that a unit reads: LOCAL, or ZERO where that is allowed (R239, R281). -/
def State.readTab (s : State) (bl : Blur) (slot : Nat) (al : Allow) (cva n : Nat) : Except Stop (List PByte) :=
  let l := s.pieces slot .read cva n
  match s.stopIn slot al .read l with
  | some x => .error x
  | none => .ok (s.bytesOf bl l)

/-- What stops pieces that a command writes beside its destination, which must be LOCAL: a ZERO page is another type (R281). -/
def State.stopOwn (s : State) (slot : Nat) (l : List (Nat × Nat × Target)) : Option Stop :=
  match s.stopIn slot .local .write l with
  | some (.fault _ 1 _ _) => some (.code E.badField)
  | x => x

/-- A number of `n` bytes in a table, and whether it is poisoned. -/
def numAt (l : List PByte) (off n : Nat) : Nat × Bool :=
  let x := (l.drop off).take n
  (leNat (x.map (·.1)), x.any (·.2))

/-! ### The work of a unit -/

/-- What a unit makes of its source bytes: a code when the data does not allow it, the bytes for its writes in order, the
additions for each 4-byte element of its destination, and what it counts. -/
structure Result where
  code : Nat
  data : List PByte
  adds : List (List Prod × Bool)
  sat : Nat
  nan : Nat
  flushed : Nat
  dropped : Nat
  deriving DecidableEq, Repr

def Result.bytes (l : List PByte) : Result := ⟨E.ok, l, [], 0, 0, 0, 0⟩
def Result.fail (code : Nat) : Result := ⟨code, [], [], 0, 0, 0, 0⟩

/-- The work of a unit: reads and writes as (stream offset in the unit, CVA, length), a write that must be LOCAL marked; tables
read, for the cost, and stream offsets at which a beat begins; whether a table entry bears the poison mark; whether it adds into its
destination; and what it makes of the bytes read. -/
structure Work where
  reads : List (Nat × Nat × Nat)
  readOk : Allow
  tabs : List (Nat × Nat)
  cuts : List Nat
  taint : Bool
  writes : List (Nat × Nat × Nat × Bool)
  writeOk : Allow
  rmw : Bool
  make : List PByte → Result

/-- Pieces of lines with a stride that stream bytes [from, from + n) fall on: stream offset, address, length, line, offset. -/
def lineRuns (base : Nat) (stride : Int) (len start : Nat) : Nat → Nat → Nat → List (Nat × Nat × Nat × Nat × Nat)
  | 0, _, _ => []
  | k + 1, from_, n =>
    if n = 0 || len = 0 then []
    else
      let j := from_ / len
      let o := from_ % len
      let m := min n (len - o)
      (from_ - start, ((base : Int) + stride * (j : Int) + (o : Int)).toNat, m, j, o) ::
        lineRuns base stride len start k (from_ + m) (n - m)

/-- The same, as reads. -/
def lineReads (base : Nat) (stride : Int) (len from_ n : Nat) : List (Nat × Nat × Nat) :=
  (lineRuns base stride len from_ (n + 1) from_ n).map fun (o, a, m, _, _) => (o, a, m)

/-- The same, as writes. -/
def lineWrites (base : Nat) (stride : Int) (len from_ n : Nat) : List (Nat × Nat × Nat × Bool) :=
  (lineReads base stride len from_ n).map fun (o, a, m) => (o, a, m, false)

/-- COPY, COPY_2D and FILL. -/
def plainWork (b : List Byte) (from_ n : Nat) : Work :=
  let op := hOpcode b
  let path := pathOf b
  let reads :=
    if op = Op.copy then lineReads (pf b 0 56 0) 0 (streamLen b) from_ n
    else if op = Op.copy2d then lineReads (pf b 0 56 0) (signed40 (pf b 16 39 0)) (pf b 16 63 40) from_ n
    else []
  let dst :=
    if op = Op.copy then lineWrites (pf b 8 56 0) 0 (streamLen b) from_ n
    else if op = Op.copy2d then lineWrites (pf b 8 56 0) (signed40 (pf b 24 39 0)) (pf b 24 63 40) from_ n
    else lineWrites (pf b 0 56 0) 0 (streamLen b) from_ n
  let pattern := fun (i : Nat) => ((b.drop (pOff b + 16)).getD ((pf b 0 56 0 + from_ + i) % 8) 0, false)
  { reads := reads, readOk := pathSource path, tabs := [], cuts := [], taint := false, writes := dst, writeOk := pathDest path, rmw := false
    make := fun l => .bytes (if op = Op.fill then (List.range n).map pattern else l) }

/-- GATHER and SCATTER (R237 to R239, R243): the elements that a unit touches, with their index entries. A poisoned entry is used as
it reads and poisons its element and the command (log entry 30). An element shorter than a beat, and an empty one, begins a beat. -/
def State.indexWork (s : State) (bl : Blur) (slot : Nat) (b : List Byte) (from_ n : Nat) : Except Stop Work :=
  let e := elen b
  let w := idxWidth b
  let i0 := from_ / e
  let cnt := (from_ + n - 1) / e - i0 + 1
  let list := pf b 16 56 0 + i0 * w
  match s.readTab bl slot .table list (cnt * w) with
  | .error x => .error x
  | .ok idx =>
    let runs := lineRuns 0 0 e from_ (n + 1) from_ n
    let at_ := fun (j : Nat) => numAt idx ((j - i0) * w) w
    let empty := fun (j : Nat) => decide ((at_ j).1 = 256 ^ w - 1)
    let addr := fun (j o : Nat) => pf b 0 56 0 + (at_ j).1 * pf b 32 47 0 + o
    match runs.find? fun (_, _, _, j, _) => !empty j && decide (addr j 0 + e ≥ 2 ^ 57) with
    | some (_, _, _, j, _) => .error (.codeAt E.badField (max from_ (j * e)))
    | none =>
      let indexed := (runs.filter fun (_, _, _, j, _) => !empty j).map fun (o, _, m, j, oo) => (o, addr j oo, m)
      let linear := lineReads (pf b 8 56 0) 0 (streamLen b) from_ n
      let path := pathOf b
      let bad := fun (j : Nat) (l : List PByte) => if (at_ j).2 then l.map fun (x, _) => (x, true) else l
      let cuts := (runs.filter fun (_, _, _, j, _) => decide (e < 128) || empty j).map (·.1)
      let taint := runs.any fun (_, _, _, j, _) => (at_ j).2
      if hOpcode b = Op.gather then
        .ok
          { reads := indexed, readOk := pathSource path, tabs := [(list, cnt * w)], cuts := cuts, taint := taint
            writes := linear.map fun (o, a, m) => (o, a, m, false), writeOk := pathDest path, rmw := false
            make := fun l =>
              .bytes (runs.foldl
                (fun (acc : List PByte × List PByte) (_, _, m, j, _) =>
                  if empty j then (acc.1 ++ List.replicate m (0, (at_ j).2), acc.2)
                  else (acc.1 ++ bad j (acc.2.take m), acc.2.drop m)) ([], l)).1 }
      else
        .ok
          { reads := linear, readOk := pathSource path, tabs := [(list, cnt * w)], cuts := cuts, taint := taint
            writes := indexed.map fun (o, a, m) => (o, a, m, false), writeOk := pathDest path, rmw := false
            make := fun l =>
              .bytes (runs.flatMap fun (o, _, m, j, _) => if empty j then [] else bad j ((l.drop o).take m)) }

/-! ### Row transforms (R265 to R272) -/

/-- Runs of elements of rows that a unit covers: row, first element, elements. -/
def rowRuns (cols : Nat) : Nat → Nat → Nat → List (Nat × Nat × Nat)
  | 0, _, _ => []
  | k + 1, i, n =>
    if n = 0 || cols = 0 then []
    else
      let m := min n (cols - i % cols)
      (i / cols, i % cols, m) :: rowRuns cols k (i + m) (n - m)

/-- A row's pieces as (stream offset, address, length); the offset counts bytes of this side from the unit's start. -/
def rowPieces (runs : List (Nat × Nat × Nat)) (base pitch f : Nat) : List (Nat × Nat × Nat) :=
  (runs.foldl
    (fun (acc : List (Nat × Nat × Nat) × Nat) (r, j, k) =>
      (acc.1 ++ [(acc.2, base + r * pitch + fmtBytes f j, fmtBytes f k)], acc.2 + fmtBytes f k)) ([], 0)).1

/-- STATS must be LOCAL (R277, R281). -/
def State.statsOk (s : State) (slot cva : Nat) : Except Stop Unit :=
  if cva = 0 then .ok ()
  else
    match s.stopOwn slot (s.pieces slot .write cva 16) with
    | some x => .error x
    | none => .ok ()

/-- The scale of a row, checked for its use; none where it is not legal. -/
def rowScale (op dfmt v : Nat) : Bool :=
  scaleLegal v && (op ≠ Op.quantize || (!tst v 15 && (scaleParts v).2.1 ≠ 0)) && (!(op = Op.accumulate && dfmt = 6) || scaleInteger v)

/-- The scales of runs of rows, one for each run. -/
def State.runScales (s : State) (bl : Blur) (slot : Nat) (b : List Byte) : List (Nat × Nat × Nat) → Except Stop (List (Nat × Bool))
  | [] => .ok []
  | (r, _, _) :: t =>
    match s.runScales bl slot b t with
    | .error x => .error x
    | .ok rest =>
      if tst (pw b 40) 8 then .ok ((0x3F80, false) :: rest)
      else
        match s.readTab bl slot .table (pf b 16 56 0 + r * pf b 40 63 48) 2 with
        | .error x => .error x
        | .ok l =>
          let v := numAt l 0 2
          if rowScale (hOpcode b) (tDfmt b) v.1 then .ok (v :: rest) else .error (.code E.badField)

/-- QUANTIZE, DEQUANTIZE and ACCUMULATE. -/
def State.rowWork (s : State) (bl : Blur) (slot : Nat) (b : List Byte) (from_ n : Nat) : Except Stop Work :=
  let op := hOpcode b
  let w := wideBits b / 8
  let sf := tSfmt b
  let df := tDfmt b
  let runs := rowRuns (tCols b) (n + 1) (from_ / w) (n / w)
  let spitch := pf b 32 31 0
  let dpitch := if tReduce b then 0 else pf b 32 63 32
  match s.statsOk slot (pf b 48 56 0), s.runScales bl slot b runs with
  | .error x, _ => .error x
  | _, .error x => .error x
  | .ok _, .ok scales =>
    let per := (runs.zip scales).flatMap fun ((_, _, k), sc) => List.replicate k sc
    let path := pathOf b
    .ok
      { reads := rowPieces runs (pf b 0 56 0) spitch sf, readOk := pathSource path
        tabs := if tst (pw b 40) 8 then [] else runs.map fun (r, _, _) => (pf b 16 56 0 + r * pf b 40 63 48, 2)
        cuts := [], taint := scales.any (·.2)
        writes := (rowPieces runs (pf b 8 56 0) dpitch df).map fun (o, a, m) => (o, a, m, false)
        writeOk := if op = Op.accumulate then .local else pathDest path, rmw := op = Op.accumulate
        make := fun l =>
          let el := (unpack sf l).zip per
          if op = Op.quantize then
            let q := el.map fun ((v, p), sc, q) => (quantize df (numOf sf v) (scaleParts sc), p || q)
            { Result.bytes (pack df (q.map fun (x, p) => (ofInt (fmtBits df) x.1, p))) with
              sat := (q.map fun x => x.1.2.1).sum, nan := (q.map fun x => x.1.2.2).sum }
          else if op = Op.dequantize then
            let q := el.map fun ((v, p), sc, q) => (dequantize df (intOf sf v) (scaleParts sc), p || q)
            { Result.bytes (pack df (q.map fun (x, p) => (x.1, p))) with sat := (q.map fun x => x.1.2).sum }
          else
            { Result.bytes [] with adds := el.map fun ((v, p), sc, q) => ([mulScale (intOf sf v) (scaleParts sc)], p || q) } }

/-! ### COMPACT and EXPAND (R282 to R286) -/

/-- A list cut in runs of `k`. -/
def chunks {α : Type} (k : Nat) : Nat → List α → List (List α)
  | 0, _ => []
  | n + 1, l => l.take k :: chunks k n (l.drop k)

/-- One BLOCK64 record of a group of 64 elements. -/
def blockRecord (f cap : Nat) (g : List (Nat × Bool)) : List PByte :=
  let (kept, _) := keepOf f 0 cap (g.map (·.1))
  let bad := g.any (·.2)
  let mask := kept.foldl (fun m i => m + 2 ^ i) 0
  let vals := kept.map fun i => (canonical f (g.getD i (0, false)).1, bad)
  let room := (recBytes f cap - 8) * 8 / fmtBits f
  (leBytes 8 mask).map (fun x => (x, bad)) ++ pack f (vals ++ List.replicate (room - vals.length) (0, bad))

/-- Groups of 4 bits, or of 2, packed into bytes from the low end. -/
def packSmall (w : Nat) (l : List (Nat × Bool)) : List PByte :=
  (chunks (8 / w) (l.length * w / 8) l).map fun c =>
    (BitVec.ofNat 8 (c.zipIdx.foldl (fun v ((x, _), i) => v + x * 2 ^ (w * i)) 0), c.any (·.2))

/-- The dense elements of one BLOCK64 record; none when its mask has more than CAP bits. -/
def expandBlock (f cap : Nat) (r : List PByte) : Option (List (Nat × Bool)) :=
  let (mask, bad) := numAt r 0 8
  let vals := unpack f (r.drop 8)
  let idx := (List.range 64).filter fun i => mask.testBit i
  if idx.length > cap then none
  else some ((List.range 64).map fun i => if mask.testBit i then (canonical f (vals.getD (idx.idxOf i) (0, false)).1, bad || (vals.getD (idx.idxOf i) (0, false)).2) else (0, bad))

/-- The dense elements of one group of four from its kept elements and indices; none where 2:4 indices do not ascend. -/
def expandFour (f pattern meta_ : Nat) (bad : Bool) (vals : List (Nat × Bool)) : Option (List (Nat × Bool)) :=
  let v := fun (k : Nat) => (canonical f (vals.getD k (0, false)).1, bad || (vals.getD k (0, false)).2)
  let zero := (List.range 4).map fun _ => ((0 : Nat), bad)
  if pattern = 2 then some (zero.set (meta_ % 4) (v 0))
  else if meta_ = 0 then some zero
  else if meta_ % 4 < meta_ / 4 then some ((zero.set (meta_ % 4) (v 0)).set (meta_ / 4) (v 1))
  else none

/-- Compact bytes that stand for elements [j, j + k) of a row, from the row's start: offset and length. -/
def compactSpan (b : List Byte) (j k : Nat) : Nat × Nat :=
  let f := tSfmt b
  if tPattern b = 0 then (j / 64 * recBytes f (tCap b), k / 64 * recBytes f (tCap b))
  else
    let d := if tPattern b = 1 then 2 else 4
    (fmtBytes f (j / d), fmtBytes f (k / d))

/-- Elements that share one metadata byte, and bytes of a metadata row. -/
def metaPer (b : List Byte) : Nat := if tPattern b = 1 then 8 else 16

/-- COMPACT and EXPAND. -/
def State.sparseWork (s : State) (bl : Blur) (slot : Nat) (b : List Byte) (from_ n : Nat) : Except Stop Work :=
  let op := hOpcode b
  let f := tSfmt b
  let pat := tPattern b
  let cap := tCap b
  let runs := rowRuns (tCols b) (n + 1) (from_ * 8 / fmtBits f) (n * 8 / fmtBits f)
  let count := n * 8 / fmtBits f
  let path := pathOf b
  let spitch := pf b 32 31 0
  let dpitch := pf b 32 63 32
  let dense := fun (base pitch : Nat) => rowPieces runs base pitch f
  let compact := fun (base pitch : Nat) =>
    (runs.foldl
      (fun (acc : List (Nat × Nat × Nat) × Nat) (r, j, k) =>
        let (o, m) := compactSpan b j k
        (acc.1 ++ [(acc.2, base + r * pitch + o, m)], acc.2 + m)) ([], 0)).1
  let metas := if pat = 0 then [] else runs.map fun (r, j, k) =>
    (pf b 16 56 0 + r * (tCols b / metaPer b) + j / metaPer b, k / metaPer b)
  match s.statsOk slot (pf b 48 56 0) with
  | .error x => .error x
  | .ok _ =>
    if op = Op.compact then
      .ok
        { reads := dense (pf b 0 56 0) spitch, readOk := pathSource path, tabs := [], cuts := [], taint := false
          writes := ((compact (pf b 8 56 0) dpitch).map fun (o, a, m) => (o, a, m, false)) ++ metas.map fun (a, m) => (0, a, m, true)
          writeOk := pathDest path, rmw := false
          make := fun l =>
            let el := unpack f l
            if pat = 0 then
              let gs := chunks 64 (count / 64) el
              { Result.bytes (gs.flatMap (blockRecord f cap)) with
                dropped := (gs.map fun g => (keepOf f 0 cap (g.map (·.1))).2).sum }
            else
              let gs := (chunks 4 (count / 4) el).map fun g => (g, keepOf f pat 0 (g.map (·.1)), g.any (·.2))
              let vals := gs.flatMap fun (g, (kept, _), bad) => kept.map fun i => (canonical f (g.getD i (0, false)).1, bad)
              let idx := gs.map fun (_, (kept, _), bad) => (kept.getD 0 0 + (if pat = 1 then 4 * kept.getD 1 0 else 0), bad)
              { Result.bytes (pack f vals ++ packSmall (if pat = 1 then 4 else 2) idx) with
                dropped := (gs.map fun x => x.2.1.2).sum } }
    else
      let tab : Except Stop (List PByte) := metas.foldl
        (fun acc (a, m) =>
          match acc with
          | .error x => .error x
          | .ok l =>
            match s.readTab bl slot .table a m with
            | .error x => .error x
            | .ok r => .ok (l ++ r)) (.ok [])
      match tab with
      | .error x => .error x
      | .ok mt =>
        .ok
          { reads := compact (pf b 0 56 0) spitch, readOk := pathSource path, tabs := metas, cuts := [], taint := mt.any (·.2)
            writes := (dense (pf b 8 56 0) dpitch).map fun (o, a, m) => (o, a, m, false), writeOk := pathDest path, rmw := false
            make := fun l =>
              let groups :=
                if pat = 0 then (chunks (recBytes f cap) (count / 64) l).map (expandBlock f cap)
                else
                  let d := if pat = 1 then 2 else 1
                  let w := if pat = 1 then 4 else 2
                  let vals := chunks d (count / 4) (unpack f l)
                  vals.zipIdx.map fun (v, g) =>
                    let (x, p) := mt.getD (g * w / 8) (0, false)
                    expandFour f pat (x.toNat / 2 ^ (g * w % 8) % 2 ^ w) p v
              if groups.any Option.isNone then .fail E.badField else .bytes (pack f (groups.flatMap fun g => g.getD [])) }

/-! ### DISPATCH and COMBINE (R287 to R296) -/

/-- An expert-table entry. -/
structure Expert where
  num : Nat
  buf : Nat
  pitch : Nat
  cap : Nat
  cnt : Nat
  rscale : Nat
  legal : Bool
  bad : Bool
  deriving DecidableEq, Repr

/-- Entry e of the expert table, checked against R288 for rows of a length. -/
def State.expert (s : State) (bl : Blur) (slot et e row : Nat) : Except Stop Expert :=
  match s.readTab bl slot .table (et + 32 * e) 32 with
  | .error x => .error x
  | .ok l =>
    let w := fun (i : Nat) => (numAt l (8 * i) 8).1
    let pitch := bits (w 1) 63 32
    let cap := bits (w 1) 31 0
    .ok
      { num := e, buf := bits (w 0) 56 0, pitch := pitch, cap := cap, cnt := bits (w 2) 56 0, rscale := bits (w 3) 56 0
        legal := decide (bits (w 0) 63 57 = 0) && decide (bits (w 2) 63 57 = 0) && decide (bits (w 3) 63 57 = 0) &&
          decide (w 2 % 8 = 0) && (decide (cap ≤ 1) || decide (row ≤ pitch))
        bad := l.any (·.2) }

/-- Expert numbers and slot entries of a token: its routes with WEIGHT, EXPERT and position. -/
def State.routes (s : State) (bl : Blur) (slot rt slots topk t : Nat) : Except Stop (List (Nat × Nat × Nat × Bool)) :=
  match s.readTab bl slot .table (rt + 4 * (t * topk)) (4 * topk), s.readTab bl slot .local (slots + 4 * (t * topk)) (4 * topk) with
  | .error x, _ => .error x
  | _, .error x => .error x
  | .ok r, .ok p =>
    .ok ((List.range topk).map fun k =>
      let (v, b1) := numAt r (4 * k) 4
      let (pos, b2) := numAt p (4 * k) 4
      (v / 65536, v % 65536, pos, b1 || b2))

/-- Where each placed route of a token goes: expert entry and position. -/
def State.placed (s : State) (bl : Blur) (slot et experts row : Nat) : List (Nat × Nat × Nat × Bool) → Except Stop (List (Nat × Expert × Nat × Bool))
  | [] => .ok []
  | (w, e, pos, bad) :: t =>
    match s.placed bl slot et experts row t with
    | .error x => .error x
    | .ok rest =>
      if e ≥ experts && e ≠ 0xFFFF then .error (.code E.badField)
      else if e = 0xFFFF || pos = 0xFFFFFFFF then .ok rest
      else
        match s.expert bl slot et e row with
        | .error x => .error x
        | .ok x => if !x.legal || decide (pos ≥ x.cap) then .error (.code E.badField) else .ok ((w, x, pos, bad || x.bad) :: rest)

/-- The placed routes of each token that lines of the stream fall on. -/
def State.tokenRoutes (s : State) (bl : Blur) (slot rt slots et topk experts row : Nat) : List Nat → Except Stop (List (Nat × List (Nat × Expert × Nat × Bool)))
  | [] => .ok []
  | t :: rest =>
    match s.tokenRoutes bl slot rt slots et topk experts row rest with
    | .error x => .error x
    | .ok l =>
      match s.routes bl slot rt slots topk t with
      | .error x => .error x
      | .ok r =>
        match s.placed bl slot et experts row r with
        | .error x => .error x
        | .ok p => .ok ((t, p) :: l)

/-- A token's placed routes bear a poison mark in a table entry. -/
def tainted (rt : List (Nat × List (Nat × Expert × Nat × Bool))) : Bool := rt.any fun t => t.2.any fun x => x.2.2.2

/-- DISPATCH, second pass (R292). Its routes, slots and experts are those that the first pass has read, so that its cost is that of the
token rows (DEDUCED from the worked example of R296, log entry 178). -/
def State.dispatchWork (s : State) (bl : Blur) (slot : Nat) (b : List Byte) (from_ n : Nat) : Except Stop Work :=
  let row := rowBytes b
  let runs := lineRuns (pf b 0 56 0) (pf b 32 63 32) row from_ (n + 1) from_ n
  let toks := (runs.map fun (_, _, _, t, _) => t).eraseDups
  match s.tokenRoutes bl slot (pf b 8 56 0) (pf b 24 56 0) (pf b 16 56 0) (tTopk b) (tExperts b) row toks with
  | .error x => .error x
  | .ok rt =>
    let of := fun (t : Nat) => ((rt.find? fun x => x.1 = t).map (·.2)).getD []
    let used := runs.filter fun (_, _, _, t, _) => !(of t).isEmpty
    .ok
      { reads := used.map fun (o, a, m, _, _) => (o, a, m), readOk := .local, tabs := [], cuts := [], taint := tainted rt
        writes := used.flatMap fun (o, _, m, t, oo) => (of t).map fun (_, x, pos, _) => (o, x.buf + pos * x.pitch + oo, m, false)
        writeOk := .either, rmw := false
        make := fun l =>
          .bytes (used.foldl
            (fun (acc : List PByte × List PByte) (_, _, m, t, _) =>
              (acc.1 ++ ((of t).flatMap fun (_, _, _, bad) => (acc.2.take m).map fun (x, p) => (x, p || bad)), acc.2.drop m))
            ([], l)).1 }

/-- The row scales of a token's placed routes (R295). -/
def State.rowScales (s : State) (bl : Blur) (slot : Nat) : List (Nat × Expert × Nat × Bool) → Except Stop (List (Nat × Nat × Bool))
  | [] => .ok []
  | (w, x, pos, bad) :: t =>
    match s.rowScales bl slot t with
    | .error e => .error e
    | .ok rest =>
      if x.rscale = 0 then .ok ((w, 0x3F80, bad) :: rest)
      else
        match s.readTab bl slot .table (x.rscale + 2 * pos) 2 with
        | .error e => .error e
        | .ok l => .ok ((w, (numAt l 0 2).1, bad || (numAt l 0 2).2) :: rest)

/-- The terms of one element from its routes: products to add in order, terms flushed, or a failure. -/
def elementTerms (f : Nat) (sc : List (Nat × Nat × Bool)) (el : List (Nat × Bool)) : Option (List Prod × Nat × Bool) :=
  (sc.zip el).foldl
    (fun acc ((w, s, bad), v, p) =>
      match acc with
      | none => none
      | some (l, fl, q) =>
        match combineTerm w s (intOf f v) with
        | .add x => some (l ++ [x], fl, q || p || bad)
        | .nothing => some (l, fl, q || p || bad)
        | .flushed => some (l, fl + 1, q || p || bad)
        | .bad => none) (some ([], 0, false))

/-- Products added in order into an FP32 element. -/
def addAll (old : Nat) (l : List Prod) : Nat × Nat :=
  l.foldl (fun (acc : Nat × Nat) p => let r := accFloat acc.1 p; (r.1, acc.2 + r.2)) (old, 0)

/-- The scales of every token that a COMBINE unit touches. -/
def State.tokenScales (s : State) (bl : Blur) (slot : Nat) : List (Nat × List (Nat × Expert × Nat × Bool)) → Except Stop (List (Nat × List (Nat × Nat × Bool)))
  | [] => .ok []
  | (t, p) :: rest =>
    match s.tokenScales bl slot rest with
    | .error x => .error x
    | .ok l =>
      match s.rowScales bl slot p with
      | .error x => .error x
      | .ok r => .ok ((t, r) :: l)

/-- The table entries that a COMBINE unit reads for a token's placed routes: expert-table entries and row scales (R278). -/
def routeTabs (et : Nat) (e : Expert) (pos : Nat) : List (Nat × Nat) :=
  (et + 32 * e.num, 32) :: if e.rscale = 0 then [] else [(e.rscale + 2 * pos, 2)]

/-- COMBINE. -/
def State.combineWork (s : State) (bl : Blur) (slot : Nat) (b : List Byte) (from_ n : Nat) : Except Stop Work :=
  let f := tDfmt b
  let cols := combineCols b
  let runs := rowRuns cols (n + 1) (from_ / 4) (n / 4)
  let toks := (runs.map (·.1)).eraseDups
  match s.statsOk slot (pf b 48 56 0),
      s.tokenRoutes bl slot (pf b 24 56 0) (pf b 16 56 0) (pf b 8 56 0) (tTopk b) (tExperts b) (fmtBytes f cols) toks with
  | .error x, _ => .error x
  | _, .error x => .error x
  | .ok _, .ok rt =>
    match s.tokenScales bl slot rt with
    | .error x => .error x
    | .ok sc =>
      let of := fun (t : Nat) => ((rt.find? fun x => x.1 = t).map (·.2)).getD []
      let scOf := fun (t : Nat) => ((sc.find? fun x => x.1 = t).map (·.2)).getD []
      let reads := runs.flatMap fun (t, j, k) => (of t).map fun (_, x, pos, _) => (x.buf + pos * x.pitch + fmtBytes f j, fmtBytes f k)
      .ok
        { reads := reads.map fun (a, m) => (0, a, m), readOk := .either
          tabs := toks.flatMap fun t =>
            (pf b 24 56 0 + 4 * (t * tTopk b), 4 * tTopk b) :: (pf b 16 56 0 + 4 * (t * tTopk b), 4 * tTopk b) ::
              (of t).flatMap fun (_, x, pos, _) => routeTabs (pf b 8 56 0) x pos
          cuts := [], taint := tainted rt || sc.any fun t => t.2.any fun x => x.2.2
          writes := (rowPieces runs (pf b 0 56 0) (pf b 32 63 32) 5).map fun (o, a, m) => (o, a, m, false)
          writeOk := .local, rmw := combineAcc b
          make := fun l =>
            let (terms, _) := runs.foldl
              (fun (acc : List (Option (List Prod × Nat × Bool)) × List PByte) (t, _, k) =>
                let rows := chunks (fmtBytes f k) (of t).length acc.2
                let els := rows.map (unpack f)
                (acc.1 ++ (List.range k).map fun i => elementTerms f (scOf t) (els.map fun e => e.getD i (0, false)),
                  acc.2.drop ((of t).length * fmtBytes f k))) ([], l)
            if terms.any Option.isNone then .fail E.badField
            else
              let ok := terms.map fun t => t.getD ([], 0, false)
              let fl := (ok.map fun x => x.2.1).sum
              if combineAcc b then { Result.bytes [] with adds := ok.map fun x => (x.1, x.2.2), flushed := fl }
              else
                let y := ok.map fun x => (addAll 0 x.1, x.2.2)
                { Result.bytes (pack 5 (y.map fun x => (x.1.1, x.2))) with sat := (y.map fun x => x.1.2).sum, flushed := fl } }

/-- The work of `n` stream bytes of a command from a position. -/
def State.work (s : State) (bl : Blur) (slot : Nat) (b : List Byte) (from_ n : Nat) : Except Stop Work :=
  let op := hOpcode b
  if op = Op.gather || op = Op.scatter then s.indexWork bl slot b from_ n
  else if op = Op.compact || op = Op.expand then s.sparseWork bl slot b from_ n
  else if op = Op.dispatch then s.dispatchWork bl slot b from_ n
  else if op = Op.combine then s.combineWork bl slot b from_ n
  else if isTransform op then s.rowWork bl slot b from_ n
  else .ok (plainWork b from_ n)

/-! ### Admission (R266, R268, R282, R289, R294) -/

/-- The end of rows of a pitch. -/
def rowsEnd (base rows pitch len : Nat) : Nat := base + (rows - 1) * pitch + len

/-- Checks of row transforms and of COMPACT and EXPAND. -/
def rowCheck (b : List Byte) : Nat :=
  let op := hOpcode b
  let sf := tSfmt b
  let df := tDfmt b
  let sparse := op = Op.compact || op = Op.expand
  let rows := tRows b
  let cols := tCols b
  let path := pathOf b
  let dpitch := pf b 32 63 32
  let spitch := pf b 32 31 0
  let red := tReduce b
  let pat := tPattern b
  let dense := fmtBytes sf cols
  let compact := (compactSpan b 0 cols).2
  let sb := if op = Op.expand then compact else if op = Op.compact then dense else fmtBytes sf cols
  let db := if op = Op.expand then dense else if op = Op.compact then compact else fmtBytes df cols
  let sAlign := fmtAlign sf
  let dAlign := fmtAlign (if sparse then sf else df)
  let smode := tst (pw b 40) 8
  let scales := pf b 16 56 0
  let stride := pf b 40 63 48
  let stats := pf b 48 56 0
  let fourBit := !sparse && (fmtBits sf = 4 || fmtBits df = 4)
  let lenBad :=
    rows = 0 || cols = 0 || (fourBit && cols % 2 = 1) || decide (streamLen b > 2 ^ 40 - 1) || decide (spitch < sb) ||
      (!red && decide (dpitch < db)) || (red && dpitch ≠ 0) ||
      (sparse && (cols % 64 ≠ 0 || (if pat = 0 then tCap b = 0 || decide (tCap b > 64) else tCap b ≠ 0)))
  let fmtBad :=
    if op = Op.quantize then !(sf = 4 || sf = 5) || decide (df > 3) || red
    else if op = Op.dequantize then decide (sf > 3) || !(df = 4 || df = 5) || red
    else if op = Op.accumulate then
      decide (sf > 3) || !(df = 5 || df = 6) || !(path = 0 || path = 4) || (Ctrl.ofNat (pw b 56)).skipZero
    else decide (sf > 5) || pat = 3
  let metaBad := if pat = 0 then pf b 16 56 0 ≠ 0 else pf b 16 56 0 % 8 ≠ 0 || pf b 16 56 0 = 0
  let scaleBad :=
    if smode then scales ≠ 0 || stride ≠ 0 else scales % 2 ≠ 0 || stride % 2 ≠ 0 || decide (stride < 2)
  let endBad :=
    decide (rowsEnd (pf b 0 56 0) rows spitch sb > 2 ^ 57) || decide (rowsEnd (pf b 8 56 0) rows (if red then 0 else dpitch) db > 2 ^ 57) ||
      (stats ≠ 0 && decide (stats + 16 > 2 ^ 57)) ||
      (if sparse then pat ≠ 0 && decide (pf b 16 56 0 + rows * (cols / metaPer b) > 2 ^ 57)
       else !smode && decide (rowsEnd scales rows stride 2 > 2 ^ 57))
  let reserved :=
    !pz b 0 63 57 || !pz b 8 63 57 || !pz b 16 63 57 || !pz b 48 63 57 ||
      (if sparse then !pz b 40 63 15 || !pz b 40 7 6 else !pz b 40 47 10)
  if lenBad then E.badLength
  else if reserved || fmtBad || (if sparse then metaBad else scaleBad) || pf b 0 56 0 % sAlign ≠ 0 || pf b 8 56 0 % dAlign ≠ 0 ||
      spitch % sAlign ≠ 0 || dpitch % dAlign ≠ 0 || stats % 16 ≠ 0 || endBad || ctrlBad op b (pw b 56) then E.badField
  else E.ok

/-- Checks of DISPATCH. -/
def dispatchCheck (b : List Byte) : Nat :=
  let routes := tTokens b * tTopk b
  if rowBytes b = 0 || decide (rowBytes b > 65536) || decide (pf b 32 63 32 < rowBytes b) || tTokens b = 0 ||
      decide (tTokens b > 1048576) || tExperts b = 0 || decide (tExperts b > 4096) || tTopk b = 0 || decide (tTopk b > 8) then E.badLength
  else if !pz b 0 63 57 || !pz b 8 63 57 || !pz b 16 63 57 || !pz b 24 63 57 || !pz b 40 63 43 || !pz b 40 8 4 ||
      pf b 8 56 0 % 4 ≠ 0 || pf b 16 56 0 % 32 ≠ 0 || pf b 24 56 0 % 4 ≠ 0 || pathOf b ≠ 0 || (Ctrl.ofNat (pw b 48)).skipZero ||
      decide (rowsEnd (pf b 0 56 0) (tTokens b) (pf b 32 63 32) (rowBytes b) > 2 ^ 57) ||
      decide (pf b 8 56 0 + 4 * routes > 2 ^ 57) || decide (pf b 24 56 0 + 4 * routes > 2 ^ 57) ||
      decide (pf b 16 56 0 + 32 * tExperts b > 2 ^ 57) || ctrlBad Op.dispatch b (pw b 48) then E.badField
  else E.ok

/-- Checks of COMBINE. -/
def combineCheck (b : List Byte) : Nat :=
  let f := tDfmt b
  let cols := combineCols b
  let pitch := pf b 32 63 32
  let routes := tTokens b * tTopk b
  if cols = 0 || (fmtBits f = 4 && cols % 2 = 1) || decide (pitch < 4 * cols) || tTokens b = 0 || decide (tTokens b > 1048576) ||
      tExperts b = 0 || decide (tExperts b > 4096) || tTopk b = 0 || decide (tTopk b > 8) ||
      decide (streamLen b > 2 ^ 40 - 1) then E.badLength
  else if !pz b 0 63 57 || !pz b 8 63 57 || !pz b 16 63 57 || !pz b 24 63 57 || !pz b 48 63 57 || !pz b 40 63 43 ||
      decide (f > 3) || pf b 0 56 0 % 4 ≠ 0 || pitch % 4 ≠ 0 || pf b 8 56 0 % 32 ≠ 0 || pf b 16 56 0 % 4 ≠ 0 || pf b 24 56 0 % 4 ≠ 0 ||
      pf b 48 56 0 % 16 ≠ 0 || pathOf b ≠ 0 || (Ctrl.ofNat (pw b 56)).skipZero ||
      decide (rowsEnd (pf b 0 56 0) (tTokens b) pitch (4 * cols) > 2 ^ 57) || decide (pf b 16 56 0 + 4 * routes > 2 ^ 57) ||
      decide (pf b 24 56 0 + 4 * routes > 2 ^ 57) || decide (pf b 8 56 0 + 32 * tExperts b > 2 ^ 57) ||
      decide (pf b 48 56 0 + 16 > 2 ^ 57) || ctrlBad Op.combine b (pw b 56) then E.badField
  else E.ok

end Sys2Proof.Machine
end

