-- ==== Sys2Proof/Machine/Move.lean ====
section
/-! DEFINITION. Copy engines at work (R229 to R249, R254, R259, R290 to R292): windows, the cost of a unit, claims, translation,
what a unit reads and writes, and a unit's end. -/

namespace Sys2Proof.Machine

/-! ### Cost (R243, R278) -/

/-- Offsets at which runs of one side begin: each piece, and each 128-byte boundary in it. -/
def breaks (off a n : Nat) : List Nat :=
  if n = 0 then []
  else off :: ((List.range ((a + n - 1) / 128 - a / 128)).map fun k => off + (128 * (a / 128 + k + 1) - a))

/-- Beats of one side. -/
def beats (a n : Nat) : Nat := if n = 0 then 0 else (a + n - 1) / 128 - a / 128 + 1

/-- A translated piece: stream offset, CVA, length, target. -/
structure Piece where
  off : Nat
  cva : Nat
  len : Nat
  tgt : Target
  deriving DecidableEq, Repr

def Piece.isZero (p : Piece) : Bool := match p.tgt with | .zero => true | _ => false
def Piece.sync (p : Piece) : Bool := match p.tgt with | .loc _ | .zero => true | _ => false

/-- Reads or writes split at pages, with their targets. -/
def State.translate (s : State) (slot : Nat) (acc : Access) (l : List (Nat × Nat × Nat)) : List Piece :=
  l.flatMap fun (o, a, n) => (s.pieces slot acc a n).map fun (x, m, t) => ⟨o + (x - a), x, m, t⟩

/-- Offsets at which ZERO bytes follow bytes that are read: no beat goes on over them. -/
def zeroSeams (rp : List Piece) : List Nat := (rp.zip (rp.drop 1)).filterMap fun (p, q) => if !p.isZero && q.isZero then some q.off else none

/-- Engine cycles of a unit, apart from waits. -/
def unitCost (b : List Byte) (w : Work) (rp wp : List Piece) : Nat :=
  let live := rp.filter fun p => !p.isZero
  if isMove (hOpcode b) then
    let cuts := (((live ++ wp).flatMap fun p => breaks p.off p.cva p.len) ++ zeroSeams rp ++ w.cuts).foldl (fun l i => insertNat i l) []
    cuts.length + (w.tabs.map fun (a, n) => beats a n).sum
  else
    let r := (live.map fun p => beats p.cva p.len).sum + (w.tabs.map fun (a, n) => beats a n).sum +
      (if w.rmw then (wp.map fun p => beats p.cva p.len).sum else 0)
    max 1 (max r (wp.map fun p => beats p.cva p.len).sum)

/-- A unit that is passed over: every source byte on ZERO pages, under SKIP_ZERO or for ACCUMULATE (R249, R272). -/
def skipsUnit (b : List Byte) (rp : List Piece) : Bool :=
  !rp.isEmpty && rp.all Piece.isZero &&
    ((Ctrl.ofNat (pw b (ctrlOff (hOpcode b)))).skipZero || hOpcode b = Op.accumulate)

/-! ### The progress of a command -/

/-- The residue point after units above it were written. -/
def advancePoint : Nat → Nat → List Nat → Nat × List Nat
  | 0, p, l => (p, l)
  | n + 1, p, l => if l.contains p then advancePoint n (p + 1) (l.erase p) else (p, l)

/-- A command is to end with a code at a stream byte: the lowest such byte stands. -/
def Cmd.endWith (c : Cmd) (code pos : Nat) : Cmd :=
  match c.ends with
  | some (_, p) => if pos < p then { c with ends := some (code, pos) } else c
  | none => { c with ends := some (code, pos) }

/-- A command that is to end does so once every unit below is written; a unit above its end stalls no longer. -/
def Cmd.settle (c : Cmd) (now : Nat) : Cmd :=
  match c.ends with
  | none => c
  | some (code, p) =>
    let c := { c with stall := c.stall.filter fun u => decide (4096 * u < p) }
    if c.point ≥ c.units then c.finish code (streamLen c.bytes - c.len) now else c

/-- A unit has been written (R241, R254, R256): the half steps and the completion steps fall due at the next boundary. One of a command
that an event from outside has ended moves its residue point alone (R279). -/
def Cmd.wrote (c : Cmd) (u now : Nat) : Cmd :=
  let (p, l) := advancePoint (c.above.length + 1) c.point (if u < c.point then c.above else insertNat u c.above)
  let h := halfPoint c.bytes
  let c := { c with point := p, above := l, claims := c.claims.filter fun x => x.unit ≠ u }
  if c.forced then { c with residue := c.left }
  else
    let c := if c.halfAt.isNone && decide (0 < h) && decide (h ≤ min c.len (4096 * p)) then { c with halfAt := some (now + 1) } else c
    if c.ends.isSome then c.settle now
    else if p ≥ unitCount c.bytes then c.finish (if c.poisoned then E.poisoned else E.ok) 0 (now + 1)
    else c

/-- A unit's source data is awaited no longer. -/
def State.dropClaim (s : State) (qn pos u : Nat) : State :=
  s.modCmd qn pos fun c => { c with claims := c.claims.filter fun x => x.unit ≠ u }

/-- A command ends at a unit with a code: the units below it are written, and its residue begins there (R171, R214, R232). -/
def State.endUnit (s : State) (qn pos u code : Nat) : State :=
  (s.dropClaim qn pos u).modCmd qn pos fun c =>
    if isEngine (hOpcode c.bytes) then (c.endWith code (4096 * u)).settle s.time.bnd else c.finish code c.left s.time.bnd

/-! ### Writes -/

/-- A list of bytes cut in bursts of a size, with their offsets. -/
def bursts (size : Nat) (l : List PByte) : List (Nat × List PByte) :=
  (chunks size ((l.length + size - 1) / size) l).zipIdx.map fun (c, i) => (size * i, c)

/-- Bytes of a burst (R244). -/
def burstSize : Nat := 512

/-- The poison marks of a packet's data: bit i for its 32-byte word i (R366). -/
def marksOf (l : List PByte) : Nat :=
  (chunks 32 ((l.length + 31) / 32) l).zipIdx.foldl (fun m (c, i) => if c.any (·.2) then m + 2 ^ i else m) 0

/-- One piece of a unit's destination written. -/
def State.writePiece (s : State) (qn pos u : Nat) (p : Piece) (l : List PByte) : State :=
  let q := s.queue qn
  let c := s.ctx q.ctx
  match p.tgt with
  | .loc a => s.setMem (s.mem.storeP a l)
  | .host a page =>
    (bursts (s.payload c.port) l).foldl
      (fun s (o, d) =>
        let s := s.modCmd qn pos fun x => { x with lastHost := some (s.port c.port).jseq }
        s.hostWrite c.port (if page.isSome then none else pasidOpt c)
          { seq := 0, queue := qn, slot := pos, unit := u, func := c.func, ctx := q.ctx, kind := .slice, addr := a + o,
            data := d.map (·.1), ro := true, poison := d.any (·.2), pasid := none, page := page, fence := none }) s
  | .peer g off =>
    match s.grantOf q.ctx g with
    | none => s
    | some h =>
      (bursts burstSize l).foldl
        (fun s (o, d) =>
          let s := s.modCmd qn pos fun x => { x with peerLeft := x.peerLeft + 1 }
          let tag := s.fab.nextTag
          let w : FabWrite := { dev := h.dev, tag := tag % 4096, queue := qn, slot := pos, unit := u }
          (s.modFab fun f => { f with writes := f.writes ++ [w], nextTag := tag + 1 }).fabSend h.dev
            { plainPkt K.write [] with
              grant := h.id, ggen := h.ggen, tag := tag % 4096, addr := h.base + off + o, data := d.map (·.1), marks := marksOf d
              ref := some (⟨qn, pos % q.slots⟩, u), rgen := q.gen }) s
  | _ => s

/-- The additions of a unit made, element by element, in device memory (R271). -/
def State.addElements (s : State) (i32 : Bool) : List Nat → List (List Prod × Bool) → Nat → State × Nat
  | a :: as, (ps, bad) :: rest, sat =>
    let old := leNat (s.mem.readN a 4)
    let r := ps.foldl (fun (acc : Nat × Nat) p =>
      let r := if i32 then accInt acc.1 p else accFloat acc.1 p
      (r.1, acc.2 + r.2)) (old, 0)
    let was := s.mem.anyPoison a 4
    let s := if r.1 = old && !bad then s else s.setMem (s.mem.storeP a ((leBytes 4 r.1).map fun b => (b, bad || was)))
    s.addElements i32 as rest (sat + r.2)
  | _, _, sat => (s, sat)

/-- Device addresses of the 4-byte elements of LOCAL pieces. -/
def elementAddrs (wp : List Piece) : List Nat :=
  wp.flatMap fun p => match p.tgt with | .loc a => (List.range (p.len / 4)).map fun i => a + 4 * i | _ => []

/-- LOCAL ranges of pieces. -/
def localRanges (l : List Piece) : List (Nat × Nat) :=
  l.filterMap fun p => match p.tgt with | .loc a => some (a, p.len) | _ => none

/-- Two targets share bytes. -/
def Target.meets (t : Target) (n : Nat) (x : Target) (m : Nat) : Bool :=
  match t, x with
  | .loc a, .loc b => decide (a < b + m) && decide (b < a + n)
  | .host a k, .host b l => k.isSome = l.isSome && decide (a < b + m) && decide (b < a + n)
  | .peer g a, .peer h b => g = h && decide (a < b + m) && decide (b < a + n)
  | _, _ => false

/-- What the units of a command that a test names read, their tables with it, and write. -/
def State.unitsWork (s : State) (slot : Nat) (b : List Byte) (t : Nat → Bool) : List Piece × List Piece :=
  let ws := ((List.range (unitCount b)).filter t).filterMap fun u =>
    match s.work .none slot b (4096 * u) (min 4096 (streamLen b - 4096 * u)) with | .ok w => some w | .error _ => none
  (s.translate slot .read (ws.flatMap fun w => w.reads ++ w.tabs.map fun (a, n) => (0, a, n)),
    s.translate slot .write (ws.flatMap fun w => w.writes.map fun (o, a, n, _) => (o, a, n)))

/-- A data-movement command whose destination shares bytes with its source or its index list breaks R253. -/
def State.selfMeets (s : State) (slot : Nat) (b : List Byte) : Bool :=
  isMove (hOpcode b) &&
    let (rs, ws) := s.unitsWork slot b fun _ => true
    rs.any fun r => ws.any fun w => r.tgt.meets r.len w.tgt w.len

/-- The device addresses that a command of the queue has written. -/
def State.landedRanges (s : State) (slot : Nat) (d : Cmd) : List (Nat × Nat) :=
  if hOpcode d.bytes = Op.writeInline then
    localRanges (s.translate slot .write [(0, pf d.bytes 0 56 0, inlineDone d.bytes d.point)])
  else if isEngine (hOpcode d.bytes) then
    localRanges (s.unitsWork slot d.bytes fun u => decide (u < d.point) || d.above.contains u).2
  else []

/-- The device addresses at which a command's writes meet those of another unretired command of its queue, or, in a SCATTER, its
own (R252). -/
def State.overlaps (s : State) (qn : Nat) (c : Cmd) : List (Nat × Nat) :=
  let slot := (s.queue qn).ctx
  (if barrierFlag c.bytes then []
   else ((s.queue qn).cmds.filter fun d => d.slot ≠ c.slot && !barrierFlag d.bytes).flatMap (s.landedRanges slot)) ++
    (if hOpcode c.bytes = Op.scatter then s.landedRanges slot c else [])

/-- The device addresses that earlier unretired commands of the queue write, but for the half that a half step has handed over: a
command reads them in no defined order with those writes (R250, R256). -/
def State.unordered (s : State) (qn : Nat) (c : Cmd) : List (Nat × Nat) :=
  let slot := (s.queue qn).ctx
  if barrierFlag c.bytes then []
  else
    ((s.queue qn).cmds.filter fun d => decide (d.slot < c.slot) && isEngine (hOpcode d.bytes)).flatMap fun d =>
      localRanges (s.unitsWork slot d.bytes fun u => !(d.halfDone && decide (4096 * (u + 1) ≤ halfPoint d.bytes))).2

/-- What a command reads as undefined (R250). -/
def State.blurOf (s : State) (qn : Nat) (c : Cmd) : Blur := ⟨s.unordered qn c, s.time.bnd, qn, c.slot⟩

/-- Ranges share a byte. -/
def rangesMeet (l m : List (Nat × Nat)) : Bool := l.any fun (a, n) => m.any fun (b, k) => decide (a < b + k) && decide (b < a + n)

/-- Undefined bytes in ranges of device memory. -/
def State.undefine (s : State) (qn pos : Nat) (l : List (Nat × Nat)) : State :=
  l.foldl
    (fun s (a, n) => s.setMem (s.mem.writeN a ((List.range n).map fun i => Config.undefinedByte s.time.bnd qn pos (a + i)))) s

/-- A writer, the command named or another party, changes ranges of device memory: an engine command under way that reads them leaves
undefined bytes in its own destination (R253, R279). -/
def State.disturb (s : State) (by_ : Option (Nat × Nat)) (l : List (Nat × Nat)) : State :=
  if l.isEmpty then s
  else
    s.queues.foldl
      (fun s (qn, q) =>
        q.cmds.foldl
          (fun s c =>
            if c.blurred || !c.begun || c.forced || c.skipped || !isEngine (hOpcode c.bytes) || by_ = some (qn, c.slot) then s
            else if rangesMeet (localRanges (s.unitsWork q.ctx c.bytes fun _ => true).1) l then
              (s.modCmd qn c.slot fun d => { d with blurred := true }).undefine qn c.slot (s.landedRanges q.ctx c)
            else s) s) s

/-- A unit's bytes where some destination bytes meet other writes: each such byte is the new value or the one that stands (R252).
The pieces of a SCATTER meet one another too. -/
def landPieces (keeps : Nat → Bool) (scatter : Bool) : Mem → List (Nat × Nat) → List Piece → List PByte → List PByte
  | _, _, [], _ => []
  | m, shared, p :: t, l =>
    match p.tgt with
    | .loc a =>
      let y := (l.take p.len).zipIdx.map fun (b, i) => if inRanges shared (a + i) && keeps (a + i) then (m.read (a + i), b.2) else b
      y ++ landPieces keeps scatter (m.storeP a y) (if scatter then (a, p.len) :: shared else shared) t (l.drop p.len)
    | _ => l.take p.len ++ landPieces keeps scatter m shared t (l.drop p.len)

/-- The bytes that a unit leaves at its destination, of those it made: undefined ones for a command that breaks R253 or whose source
another writer has changed, and one of the values written where writes meet (R252). -/
def State.landing (s : State) (qn : Nat) (c : Cmd) (u : Nat) (wp : List Piece) (data : List PByte) : List PByte :=
  let shared := s.overlaps qn c
  let scatter := decide (hOpcode c.bytes = Op.scatter)
  if c.blurred || s.selfMeets (s.queue qn).ctx c.bytes then
    data.zipIdx.map fun (b, i) => (Config.undefinedByte s.time.bnd qn c.slot (4096 * u + i), b.2)
  else if shared.isEmpty && !scatter then data
  else landPieces (Config.overlapKeeps s.time.bnd qn c.slot) scatter s.mem shared wp data

/-- The unit's bytes laid on its destination pieces in order. -/
def State.writePieces (s : State) (qn pos u : Nat) : List Piece → List PByte → State
  | [], _ => s
  | p :: t, l => (s.writePiece qn pos u p (l.take p.len)).writePieces qn pos u t (l.drop p.len)

/-- The bytes of one 512-byte burst of a unit bear the mark (R244, R259). -/
def spoilBytes (b : Nat) (l : List PByte) : List PByte :=
  l.zipIdx.map fun (x, i) => (x.1, x.2 || (decide (512 * b ≤ i) && decide (i < 512 * b + 512)))

/-- The same for a unit that adds to 4-byte elements. -/
def spoilAdds (b : Nat) (l : List (List Prod × Bool)) : List (List Prod × Bool) :=
  l.zipIdx.map fun (x, i) => (x.1, x.2 || (decide (128 * b ≤ i) && decide (i < 128 * b + 128)))

/-- A unit's source bytes are all there: it is computed and written; `land` gives the bytes that its destination then holds. An
uncorrectable error in the engine's burst buffer marks one burst of it, and the command is poisoned (R259; log entry 171). -/
def State.completeUnit (s : State) (qn : Nat) (c : Cmd) (u engine : Nat) (w : Work) (wp : List Piece) (src : List PByte)
    (land : List PByte → List PByte) : State :=
  let r := w.make src
  if r.code ≠ E.ok then s.endUnit qn c.slot u r.code
  else
    let bad := w.taint || src.any (·.2)
    let spoilt := decide ((s.engine engine).spoil = some ((s.queue qn).ctx, s.time.bnd))
    let b := Config.errorBurst s.time.bnd qn c.slot u
    let data := if spoilt then spoilBytes (b % max 1 ((r.data.length + 511) / 512)) r.data else r.data
    let adds := if spoilt then spoilAdds (b % max 1 ((r.adds.length + 127) / 128)) r.adds else r.adds
    let own := localRanges wp
    let (s, sat) :=
      if w.rmw then s.addElements (hOpcode c.bytes = Op.accumulate && tDfmt c.bytes = 6) (elementAddrs wp) adds 0
      else (s.writePieces qn c.slot u wp (land data), 0)
    let s := if w.rmw && c.blurred then s.undefine qn c.slot own else s
    let s := s.disturb (some (qn, c.slot)) own
    let t := (r.sat + sat, r.nan, r.flushed, r.dropped)
    let s := s.modEngine engine fun e =>
      { e with
        moved := (e.moved + (wp.map (·.len)).sum) % 2 ^ 64, poisonSrc := e.poisonSrc || bad
        spoil := if spoilt then none else e.spoil, last := some (qn, c.slot, u) }
    s.modCmd qn c.slot fun x =>
      { x with poisoned := x.poisoned || bad || spoilt || r.data.any (·.2), tally := Tbl.set (0, 0, 0, 0) x.tally u t }.wrote u s.time.bnd

/-- An engine serves a command (R230). -/
def State.servable (s : State) (n : Nat) (q : Queue) (b : List Byte) : Bool :=
  let role := (pathNeeds (pathOf b)).1
  isEngine (hOpcode b) && engineRole n = role && s.carries (engineTwin n) && (role = 2 || engineTwin n = (s.ctx q.ctx).port)

/-- The longest window of R245 that the plan in force gives a queue for a command. -/
def State.longestWindow (s : State) (qn : Nat) (b : List Byte) : Nat :=
  let s' := s.modPlan fun p => { p with throttled := false }
  (s.entries.filter fun e => enKind e = 0 && enQueue e = qn && s.servable (enRes e) (s.queue qn) b).foldl
    (fun m e => max m (32 * s'.units e)) 0

/-- The lowest unclaimed unit of a command. -/
def Cmd.nextUnit (c : Cmd) : Option Nat :=
  let busy := fun u => c.above.contains u || c.claims.any fun x => x.unit = u
  let rec go : Nat → Nat → Option Nat
    | 0, _ => none
    | k + 1, u => if u ≥ c.units then none else if busy u then go k (u + 1) else some u
  match go (c.above.length + c.claims.length + 1) c.point with
  | some u => match c.stall with | some v => if u < v then some u else none | none => some u
  | none => none

/-- The first pass of a DISPATCH has still to run (R290). -/
def Cmd.counting (c : Cmd) : Bool := hOpcode c.bytes = Op.dispatch && c.phase = 0

/-- The engine that runs the first pass: the one that claimed it, while its twin serves; then any (R290). -/
def State.countsOn (s : State) (n : Nat) (c : Cmd) : Bool :=
  !c.counting || (match c.aux with | _ :: m :: _ => m = n || !s.carries (engineTwin m) | _ => true)

/-- A command whose units an engine may claim now (R246, R247). -/
def State.claimable (s : State) (n : Nat) (q : Queue) (c : Cmd) : Bool :=
  c.begun && c.result.isNone && !c.skipped && decide (c.claimFrom ≤ s.time.bnd) && s.servable n q c.bytes && s.countsOn n c

/-- Bytes over each link of a unit's PEER pieces, as link and units (R246, R261, R292). -/
def State.linkNeeds (s : State) (slot : Nat) (wp : List Piece) : List (Option Nat × Nat) :=
  let devs := wp.filterMap fun p => match p.tgt with | .peer g _ => (s.grantOf slot g).map fun h => (h.dev, p.len) | _ => none
  let links := devs.map fun (d, n) => ((s.route d).link, n)
  (links.map (·.1)).eraseDups.map fun l => (l, (((links.filter fun x => x.1 = l).map (·.2)).sum + 4095) / 4096)

/-- Units of a link that a queue has used in this tick. -/
def State.linkUsed (s : State) (l qn : Nat) : Nat :=
  ((s.plan.linkUsed.filter fun (a, b, _) => a = l && b = qn).map fun x => x.2.2).sum

/-- The queue's allotments on the links leave room. -/
def State.linksFree (s : State) (qn : Nat) (l : List (Option Nat × Nat)) : Bool :=
  l.all fun (k, n) => match k with | some k => !s.clk.cutS && decide (s.linkUsed k qn + n ≤ s.linkAllot k qn) | none => false

def State.useLinks (s : State) (qn : Nat) (l : List (Option Nat × Nat)) : State :=
  s.modPlan fun p => { p with linkUsed := p.linkUsed ++ l.filterMap fun (k, n) => k.map fun k => (k, qn, n) }

/-- A non-idempotent act of a command needs an intent notice that is not yet acknowledged (R438); no new notice is sent from
boundary T_d − 2 of a detach (R443). -/
def State.noticeNeeded (s : State) (qn : Nat) (c : Cmd) : Bool := s.serves (s.ctx (s.queue qn).ctx).home.other && !c.noticeAck

def State.sendNotice (s : State) (qn : Nat) (c : Cmd) : State :=
  let home := (s.ctx (s.queue qn).ctx).home
  let late := match s.rst.detach with | some d => d.twin = home && decide (s.time.tick + 2 ≥ d.tick) | none => false
  if c.notice || late then s
  else (s.modCmd qn c.slot fun x => { x with notice := true }).emit (.notice home.other ⟨qn, c.slot % (s.queue qn).slots⟩)

/-- A command stalls at a unit: the lowest such unit stands (R214). -/
def State.stallAt (s : State) (qn pos u : Nat) : State :=
  s.modCmd qn pos fun x => { x with stall := some (match x.stall with | some v => min u v | none => u) }

/-- A failing page of an access is recorded (R214, R216): the command stalls at the unit or ends there. -/
def State.unitFault (s : State) (qn : Nat) (c : Cmd) (u cva reason level : Nat) (acc : Access) : State :=
  let q := s.queue qn
  let stall := stalls (s.ctx q.ctx).terminate false reason
  let s := (s.recordFault q.ctx qn c.slot u cva reason level acc false false stall).walkPoison q.ctx reason
  if stall then s.stallAt qn c.slot u else s.endUnit qn c.slot u (reasonCode reason)

/-- The pages that a unit accesses, each with its CVA, the access, and the reason and level where its walk fails. -/
def State.unitPages (s : State) (qn : Nat) (c : Cmd) (u : Nat) : List (Nat × Access × Target) :=
  let q := s.queue qn
  match s.work (s.blurOf qn c) q.ctx c.bytes (4096 * u) (c.unitLen u) with
  | .error (.fault cva r l acc) => [(cva, acc, .fail r l)]
  | .error (.miss page acc) => [(0, acc, .miss page)]
  | .error _ => []
  | .ok w =>
    ((s.translate q.ctx .read w.reads).map fun p => (p.cva, Access.read, p.tgt)) ++
      (s.translate q.ctx .write (w.writes.map fun (o, a, n, _) => (o, a, n))).map fun p => (p.cva, Access.write, p.tgt)

/-- The units from one on that a test of their number accepts, of a command that goes on. -/
def Cmd.unitsFrom (c : Cmd) (u n : Nat) : List Nat := ((List.range n).map fun i => u + i).filter fun v => decide (v < c.units)

/-- Look-ahead over the units that remain of a slice's allotment, up to 1,024 pages (R216). -/
def State.lookAhead (s : State) (qn : Nat) (c : Cmd) (u rem : Nat) : State :=
  let q := s.queue qn
  let pages := ((c.unitsFrom u (min rem 1024)).flatMap fun v => (s.unitPages qn c v).map fun x => (v, x)).take 1024
  pages.foldl
    (fun s (v, cva, acc, t) =>
      match t with
      | .fail r l => s.recordFault q.ctx qn c.slot v cva r l acc false true (stalls (s.ctx q.ctx).terminate false r)
      | _ => s) s

/-- A host page that is not translated: the access joins its page request, or an ATS request goes (R210, R221). -/
def State.unitMiss (s : State) (qn : Nat) (c : Cmd) (u page : Nat) (acc : Access) : State :=
  let slot := (s.queue qn).ctx
  match s.xlt.requests.find? fun r => r.ctx = slot && r.page = page with
  | some r => if r.again then s.atsRequest slot page acc qn c.slot u else (s.pageRequest slot page acc qn c.slot u).stallAt qn c.slot u
  | none => s.atsRequest slot page acc qn c.slot u

/-- A stop at a unit takes its effect; `rem` units remain of the slice's allotment. -/
def State.stopAt (s : State) (qn : Nat) (c : Cmd) (u rem : Nat) : Stop → State
  | .code code => s.endUnit qn c.slot u code
  | .codeAt code pos => s.modCmd qn c.slot fun x => (x.endWith code pos).settle s.time.bnd
  | .fault cva r l acc => (s.unitFault qn c u cva r l acc).lookAhead qn c u rem
  | .miss page acc => s.unitMiss qn c u page acc

/-- Pages ahead of the unit that it moves for which an engine requests translations (R208). -/
def aheadPages : Nat := 16

/-- Translations of host pages ahead of a unit are asked for, over the units that remain of the slice's allotment. -/
def State.askAhead (s : State) (qn : Nat) (c : Cmd) (u rem : Nat) : State :=
  let x := s.ctx (s.queue qn).ctx
  if !(s.func x.port x.func).ats then s
  else
    let pages := ((c.unitsFrom (u + 1) (min rem aheadPages)).flatMap fun v => s.unitPages qn c v).take aheadPages
    pages.foldl
      (fun s (_, acc, t) => match t with | .miss page => s.atsRequest (s.queue qn).ctx page acc 16384 0 0 | _ => s) s

/-- The pieces of a unit, or what stops it (R232, R246). -/
def State.unitPieces (s : State) (slot : Nat) (w : Work) : Except Stop (List Piece × List Piece) :=
  let rp := s.translate slot .read w.reads
  let dst := fun (local_ : Bool) => s.translate slot .write ((w.writes.filter fun x => x.2.2.2 = local_).map fun (o, a, n, _) => (o, a, n))
  let plain := dst false
  let own := dst true
  let rmw := if w.rmw then s.translate slot .read (w.writes.map fun (o, a, n, _) => (o, a, n)) else []
  let first := fun (al : Allow) (acc : Access) (l : List Piece) => l.findSome? fun p => s.stopOf slot al acc p.cva p.tgt
  let own1 := s.stopOwn slot (own.map fun p => (p.cva, p.len, p.tgt))
  match first w.readOk .read rp, first w.writeOk .write plain, own1, first .local .read rmw with
  | some x, _, _, _ | none, some x, _, _ | none, none, some x, _ | none, none, none, some x => .error x
  | none, none, none, none => .ok (rp, plain ++ own)

/-- The offset of each source piece in the unit's source bytes. -/
def sourceOffsets (rp : List Piece) : List (Nat × Piece) :=
  (rp.foldl (fun (acc : List (Nat × Piece) × Nat) p => (acc.1 ++ [(acc.2, p)], acc.2 + p.len)) ([], 0)).1

/-- The largest read on a port: Max_Read_Request_Size of its PF (R84). -/
def State.readSize (s : State) (p : Side) : Nat := max 1 (min 4096 (s.func p 0).mrrs)

/-- Requests for the source pieces that lie elsewhere: to the host, of at most its read size and within a page, and to a peer, of 512
bytes (R84, R367). -/
def State.issueReads (s : State) (qn : Nat) (c : Cmd) (u engine : Nat) (rp : List Piece) : State :=
  let q := s.queue qn
  let x := s.ctx q.ctx
  let (s, n) := (sourceOffsets rp).foldl
    (fun (acc : State × Nat) (off, p) =>
      let (s, n) := acc
      match p.tgt with
      | .host a page =>
        (spans (s.readSize x.port) p.len).foldl
          (fun (acc : State × Nat) (o, len) =>
            let (tag, s) := acc.1.request x.port (.source qn c.slot u (off + o) len engine) q.ctx qn page
            (s.emit (.hostRead x.port x.func (if page.isSome then none else pasidOpt x) (a + o) len tag (s.func x.port x.func).ro), acc.2 + 1))
          (s, n)
      | .peer g o =>
        match s.grantOf q.ctx g with
        | none => (s, n)
        | some h =>
          ((List.range ((p.len + 511) / 512)).foldl
            (fun (s : State) i =>
              let len := min 512 (p.len - 512 * i)
              let tag := s.fab.nextTag
              let rd : FabRead :=
                { dev := h.dev, tag := tag % 4096, queue := qn, slot := c.slot, unit := u, engine := engine, offset := off + 512 * i, len := len, gen := q.gen }
              (s.modFab fun f => { f with reads := f.reads ++ [rd], nextTag := tag + 1 }).fabSend h.dev
                { plainPkt K.read [len] with grant := h.id, ggen := h.ggen, tag := tag % 4096, addr := h.base + o + 512 * i, rgen := q.gen }) s,
            n + (p.len + 511) / 512)
      | _ => (s, n)) (s, 0)
  let sync := (sourceOffsets rp).filterMap fun (off, p) =>
    if p.sync then some (off, s.bytesOf (s.blurOf qn c) [(p.cva, p.len, p.tgt)]) else none
  s.modCmd qn c.slot fun d => { d with claims := d.claims ++ [{ unit := u, engine := engine, left := n, got := sync }] }

/-- What an engine makes of the next unit: it is done with, at a cost; the window waits for a translation; or its work ends. -/
inductive Claimed where
  | moved (cost : Nat) (s : State)
  | waits (s : State)
  | ends (s : State)
  deriving DecidableEq, Repr

/-- Source requests of a unit toward the host. -/
def State.hostReads (s : State) (x : Ctx) (rp : List Piece) : Nat :=
  (rp.map fun p => match p.tgt with | .host _ _ => (spans (s.readSize x.port) p.len).length | _ => 0).sum

/-- Journal bytes that a unit's writes reserve on a port (R108). -/
def State.journalNeed (s : State) (p : Side) (wp : List Piece) : Nat :=
  (wp.map fun x => match x.tgt with | .host _ _ => x.len + 32 * (spans (s.payload p) x.len).length | _ => 0).sum

/-- The bytes of a unit whose sources are all here: of device memory, or those that a claim gathered. -/
def State.sourceBytes (s : State) (bl : Blur) (rp : List Piece) (got : List (Nat × List PByte)) : List PByte :=
  (sourceOffsets rp).flatMap fun (off, p) =>
    if p.sync then s.bytesOf bl [(p.cva, p.len, p.tgt)]
    else
      let inside := got.filter fun (o, _) => decide (off ≤ o) && decide (o < off + p.len)
      let sorted := inside.foldl (fun (l : Tbl (List PByte)) (o, d) => Tbl.put l o d) []
      sorted.flatMap (·.2)

/-- A unit stops in a window with `room` cycles left: a translation that the host has been asked for is waited for (R208), another
failure of one ends the window, and a code leaves the window to the queue's next unit. -/
def State.claimStop (s : State) (qn : Nat) (c : Cmd) (u room : Nat) (x : Stop) : Claimed :=
  let t := s.stopAt qn c u (room / 32) x
  match x with
  | .code _ | .codeAt _ _ => .moved 0 t
  | .fault _ _ _ _ => .ends t
  | .miss _ _ =>
    if ((t.queue qn).cmd c.slot).any fun d => d.stall.isSome then .ends t else .waits (t.askAhead qn c u (room / 32))

/-- The pages of a unit enter the micro-TLB of its engine and the caches of the home twin (R205). -/
def State.touchUnit (s : State) (qn engine : Nat) (w : Work) (rp wp : List Piece) : State :=
  let slot := (s.queue qn).ctx
  let s := w.reads.foldl (fun s (_, a, _) => s.touch slot a .read) s
  let s := w.writes.foldl (fun s (_, a, _, _) => s.touch slot a .write) s
  let s := rp.foldl (fun s p => s.microFill engine qn slot p.cva .read) s
  wp.foldl (fun s p => s.microFill engine qn slot p.cva .write) s

/-- A PEER side under INV_ON_DONE and a SCOPE narrower than F (R261). -/
def scopeStops (b : List Byte) (l : List Piece) : Bool :=
  (Ctrl.ofNat (pw b (ctrlOff (hOpcode b)))).inv && decide (hScope b < 2) &&
    l.any fun p => match p.tgt with | .peer _ _ => hOpcode b = Op.dispatch || hOpcode b = Op.combine | _ => false

/-- A unit with `room` cycles left is claimed and moved (R246). -/
def State.claimUnit (s : State) (qn : Nat) (c : Cmd) (u engine room : Nat) : Claimed :=
  let q := s.queue qn
  let x := s.ctx q.ctx
  let b := c.bytes
  let v := s.engineView engine qn
  match v.work (s.blurOf qn c) q.ctx b (4096 * u) (c.unitLen u) with
  | .error e => s.claimStop qn c u room e
  | .ok w =>
    match v.unitPieces q.ctx w with
    | .error e => s.claimStop qn c u room e
    | .ok (rp, wp) =>
      let skip := skipsUnit b rp
      let cost := if skip then 1 else unitCost b w rp wp
      let links := s.linkNeeds q.ctx (if hOpcode b = Op.combine then wp ++ rp else wp)
      let need := s.journalNeed x.port wp
      let asks := s.hostReads x rp
      if scopeStops b (wp ++ rp) then .moved 0 (s.endUnit qn c.slot u E.badField)
      else if !s.linksFree qn links then .ends s
      else if cost > room then
        if cost > s.longestWindow qn b then .moved 0 (s.endUnit qn c.slot u E.noAllotment) else .ends s
      else if skip then
        let s := ((v.touchUnit qn engine w rp wp).modXlt fun t => { t with passing := s.xlt.passing }).useLinks qn links
        let s := s.modEngine engine fun e => { e with skipped := satAdd (2 ^ 31 - 1) e.skipped 1 }
        .moved 1 (s.modCmd qn c.slot fun d => d.wrote u s.time.bnd)
      else if need > 0 && !s.room x.port need then .ends (s.noRoom x.port)
      else if (need > 0 || asks > 0) && !s.canIssue x.port x.func then .ends s
      else if asks > 0 && !s.tagsFree x.port asks then .ends s
      else if accumulates b && s.noticeNeeded qn c then .ends (s.sendNotice qn c)
      else
        let src := s.sourceBytes (s.blurOf qn c) rp []
        let land := s.landing qn c u wp
        let s := (((v.touchUnit qn engine w rp wp).modXlt fun t => { t with passing := s.xlt.passing }).askAhead qn c u (room / 32)).useLinks qn links
        let claimed := fun (s : State) => s.modCmd qn c.slot fun d =>
          { d with claims := d.claims ++ [{ unit := u, engine := engine, left := 0, got := [] }] }
        if (s.inTheWay (localRanges rp) (localRanges wp)).isEmpty then
          if rp.all Piece.sync then .moved cost (s.completeUnit qn c u engine w wp src land)
          else .moved cost (s.issueReads qn c u engine rp)
        else
          let s := s.uncached (.engineUnit qn c.slot u engine) (localRanges rp) (localRanges wp) id
          .moved cost (if rp.all Piece.sync then claimed s else s.issueReads qn c u engine rp)

/-- A claimed unit whose data has all come, or whose lines agents have given up, is written: a started unit is always finished (R244).
Source pages of another kind than device memory are those that the claim read. -/
def State.runUnit (s : State) (qn pos u engine : Nat) : State :=
  let q := s.queue qn
  match q.cmd pos with
  | none => s
  | some c =>
    match c.claims.find? fun x => x.unit = u with
    | none => s
    | some cl =>
      if cl.left ≠ 0 || !s.awake (engineTwin engine) then s
      else
        let v := s.engineView engine qn
        let stop := fun (x : Stop) => (s.dropClaim qn pos u).stopAt qn c u 0 x
        match v.work (s.blurOf qn c) q.ctx c.bytes (4096 * u) (c.unitLen u) with
        | .error x => stop x
        | .ok w =>
          match v.unitPieces q.ctx { w with reads := [] } with
          | .error x => stop x
          | .ok (_, wp) =>
            let rp := v.translate q.ctx .read w.reads
            let src := s.sourceBytes (s.blurOf qn c) rp cl.got
            if src.length ≠ (rp.map (·.len)).sum then s.dropClaim qn pos u
            else
              s.uncached (.engineUnit qn pos u engine) (localRanges rp) (localRanges wp) fun s =>
                s.completeUnit qn c u engine w wp src (s.landing qn c u wp)

/-- One piece of a claimed unit's source data has come. -/
def State.sourceArrived (s : State) (qn pos u off : Nat) (data : List PByte) : State :=
  match (s.queue qn).cmd pos with
  | none => s
  | some c =>
    match c.claims.find? fun x => x.unit = u with
    | none => s
    | some x =>
      let y := { x with left := x.left - 1, got := x.got ++ [(off, data)] }
      let s := s.modCmd qn pos fun d => { d with claims := d.claims.map fun z => if z.unit = u then y else z }
      if y.left = 0 then s.runUnit qn pos u x.engine else s

/-! ### DISPATCH, first pass (R290, R291) -/

/-- What stops a row or a count word of an expert at an address: it must be LOCAL or PEER (R261, R288). -/
def State.expertStop (s : State) (slot cva : Nat) : Option Stop :=
  match s.stopOf slot .either .write cva (s.target slot cva 8 .write).1 with
  | some (.fault _ 1 _ _) => some (.code E.badField)
  | x => x

/-- The peer of an expert's address that no resident plan lets the queue reach. -/
def State.unlinked (s : State) (qn cva : Nat) : Bool :=
  let slot := (s.queue qn).ctx
  match (s.target slot cva 8 .write).1 with
  | .peer g _ =>
    match s.grantOf slot g with
    | some h => !s.resident qn fun w => enKind w = 1 && some (enRes w) = (s.route h.dev).link
    | none => false
  | _ => false

/-- The addresses of an expert that the first pass tests: its rows where it holds any, and its count word. -/
def Expert.places (x : Expert) : List Nat := (if x.cap = 0 then [] else [x.buf]) ++ if x.cnt = 0 then [] else [x.cnt]

/-- One route of the counting pass: the counts by expert, or the code with which the pass fails. -/
def State.countRoute (s : State) (bl : Blur) (qn : Nat) (b : List Byte) (counts : List Nat) (i : Nat) : Except Stop (State × List Nat) :=
  let slot := (s.queue qn).ctx
  let slots := pf b 24 56 0 + 4 * i
  let put := fun (s : State) (v : Nat) (counts : List Nat) =>
    match s.stopOwn slot (s.pieces slot .write slots 4), s.pieces slot .write slots 4 with
    | some x, _ => .error x
    | none, (_, _, .loc a) :: _ => .ok (s.setMem (s.mem.store a (leBytes 4 v) false), counts)
    | none, _ => .error (.code E.badField)
  match s.readTab bl slot .table (pf b 8 56 0 + 4 * i) 4 with
  | .error x => .error x
  | .ok l =>
    let e := (numAt l 0 2).1
    if e = 0xFFFF then put s 0xFFFFFFFF counts
    else if e ≥ tExperts b then .error (.code E.badField)
    else
      match s.expert bl slot (pf b 16 56 0) e (rowBytes b) with
      | .error x => .error x
      | .ok x =>
        if !x.legal then .error (.code E.badField)
        else
          match x.places.findSome? fun a => s.expertStop slot a with
          | some y => .error y
          | none =>
            if x.places.any fun a => s.unlinked qn a then .error (.code E.noAllotment)
            else
              let pos := counts.getD e 0
              put s (if pos < x.cap then pos else 0xFFFFFFFF) (counts.set e (pos + 1))

/-- Up to 1,024 routes: 4 KiB of routing table. -/
def State.countRoutes (s : State) (bl : Blur) (qn : Nat) (b : List Byte) : List Nat → List Nat → Except Stop (State × List Nat)
  | [], counts => .ok (s, counts)
  | i :: t, counts =>
    match s.countRoute bl qn b counts i with
    | .error x => .error x
    | .ok (s, counts) => s.countRoutes bl qn b t counts

/-- Routes that the first pass has counted to each expert. -/
def Cmd.routeCounts (c : Cmd) : List Nat := if c.aux.isEmpty then List.replicate (tExperts c.bytes) 0 else c.aux.drop 2

/-- One 32-cycle step of the counting pass on an engine. `aux` holds the steps done, the engine, and each expert's count. -/
def State.countStep (s : State) (qn : Nat) (c : Cmd) (engine room : Nat) : Claimed :=
  let b := c.bytes
  let total := tTokens b * tTopk b
  let done := c.aux.headD 0
  let idx := (List.range (min 1024 (total - 1024 * done))).map fun i => 1024 * done + i
  if room < 32 then .ends s
  else
    match s.countRoutes (s.blurOf qn c) qn b idx c.routeCounts with
    | .error x => s.claimStop qn c 0 room x
    | .ok (t, counts) =>
      let last := decide (1024 * (done + 1) ≥ total)
      let slots := localRanges (s.translate (s.queue qn).ctx .write [(0, pf b 24 56 0 + 4096 * done, 4 * idx.length)])
      .moved 32 ((t.modCmd qn c.slot fun d =>
        { d with
          aux := (done + 1) :: engine :: counts, phase := if last then 1 else 0
          claimFrom := if last then s.time.bnd + 1 else d.claimFrom }).disturb (some (qn, c.slot)) slots)

/-! ### Windows (R242, R246) -/

/-- The earliest command of a queue with a unit to claim; none while the queue or its context is PARKED (R130). -/
def State.nextWork (s : State) (n qn : Nat) : Option (Cmd × Nat) :=
  let q := s.queue qn
  if !s.slices qn || s.detachWaits (engineTwin n) then none else
  q.cmds.findSome? fun c => if s.claimable n q c then c.nextUnit.map fun u => (c, u) else none

/-- HCLK cycles of a tick. -/
def tickCycles (period : Nat) : Nat := 3200 * 2 ^ period

/-- A unit may start at an engine cycle of the tick: none starts later than 32 HCLK before the boundary (R57). In a throttled epoch an
engine cycle is stretched (R69). -/
def State.mayStart (s : State) (t : Nat) : Bool :=
  let keep := if s.plan.throttled then max 1 s.activePlan.keep else 16
  decide (16 * t + 32 * keep ≤ keep * tickCycles s.time.period)

/-- How a window ends: with cycles used, and whether it waits for a translation. -/
structure Ended where
  state : State
  used : Nat
  waits : Bool

/-- An engine works through a window that begins at a cycle of the tick: fuel, cycles used, cycles in all. -/
def State.window1 (s : State) (n qn from_ : Nat) : Nat → Nat → Nat → Ended
  | 0, t, _ => ⟨s, t, false⟩
  | k + 1, t, end_ =>
    if t ≥ end_ || !s.mayStart (from_ + t) then ⟨s, t, false⟩
    else
      match s.nextWork n qn with
      | none => ⟨s, t, false⟩
      | some (c, u) =>
        match (if c.counting then s.countStep qn c n (end_ - t) else s.claimUnit qn c u n (end_ - t)) with
        | .ends s => ⟨s, t, false⟩
        | .waits s => ⟨s, t, true⟩
        | .moved cost s => s.window1 n qn from_ k (t + cost) end_

/-- Units of an engine's entry that its queue has used in this tick outside windows: by collectives on fabric engines (R386),
kept under the pseudo-link 64, and by replayed slice writes on host-egress engines (R111), under 65 for port 0 and 66 for
port 1. They take the queue's entries of those engines in order. -/
def State.tookUnits (s : State) (i : Nat) (e : Word) : Nat :=
  let role := engineRole (enRes e)
  let t := engineTwin (enRes e)
  if role = 0 then 0
  else
    let before := (((s.entries.take i).filter fun x =>
      enKind x = 0 && engineRole (enRes x) = role && (role = 2 || engineTwin (enRes x) = t) && enQueue x = enQueue e &&
        enApplies x s.cyclePos).map s.units).sum
    min (s.units e) (s.linkUsed (if role = 2 then 64 else 65 + t.num) (enQueue e) - before)

/-- The entries of an engine that stand before one and apply in this tick, with their places. -/
def State.windowsAhead (s : State) (n i : Nat) : List (Word × Nat) :=
  (s.entries.take i).zipIdx.filter fun (e, _) => enKind e = 0 && enRes e = n && enApplies e s.cyclePos

/-- The cycle of the tick at which an entry's window begins: where the one before it ended (R242). -/
def State.windowFrom (s : State) (n i : Nat) : Nat := ((s.windowsAhead n i).map fun (e, _) => 32 * s.units e).sum

/-- Cycles of an entry's window that its queue may still use. -/
def State.windowLen (s : State) (i : Nat) (e : Word) : Nat := 32 * (s.units e - s.tookUnits i e)

/-- An engine's window closes: one with unused cycles is counted, and its micro-TLB is empty (R206, R260). -/
def State.windowEnd (s : State) (n : Nat) (idle : Bool) : State :=
  let s := (s.microDrop n).modPlan fun p => { p with waits := Tbl.del p.waits n }
  if idle then s.modEngine n fun x => { x with idle := satAdd (2 ^ 32 - 1) x.idle 1 } else s

/-- A window that still waits for a translation closes. -/
def State.waitEnds (s : State) (n : Nat) : State := if (Tbl.find s.plan.waits n).isSome then s.windowEnd n true else s

/-- An engine goes on with the window of an entry from a cycle of it: it closes, or waits for a translation (R208). -/
def State.runWindow (s : State) (n i : Nat) (e : Word) (t : Nat) : State :=
  let len := s.windowLen i e
  let r := s.window1 n (enQueue e) (s.windowFrom n i) (2 * len + 2) t len
  if r.waits then r.state.modPlan fun p => { p with waits := Tbl.put p.waits n (i, r.used) }
  else r.state.windowEnd n (decide (r.used < len))

/-- Windows of a context's queues that wait for a translation go on: how long the host has taken is its own (R208). -/
def State.resumeWindows (s : State) (slot : Nat) : State :=
  s.plan.waits.foldl
    (fun s (n, i, t) =>
      match s.entries[i]? with
      | none => s
      | some e =>
        if (s.queue (enQueue e)).ctx ≠ slot || !s.acts (engineTwin n) then s
        else
          let (d, s) := s.free (s.windowLen i e - t + 1)
          s.runWindow n i e (t + d)) s

/-- CE_WINDOW_START: the window of one allotment entry of the set in force, once in each tick in which the entry applies, after those
of the engine's earlier entries (R63, R242). -/
def ceWindow (n i : Nat) (s : State) : State :=
  match s.entries[i]? with
  | none => s
  | some e =>
    if enKind e ≠ 0 || enRes e ≠ n || !enApplies e s.cyclePos || s.plan.windows.contains (n, i) || !s.acts (engineTwin n) ||
        (s.windowsAhead n i).any fun (_, j) => !s.plan.windows.contains (n, j) then s
    else ((s.waitEnds n).modPlan fun p => { p with windows := p.windows ++ [(n, i)] }).runWindow n i e 0

/-- The start of a data-movement or transform command: from now its units may be claimed. -/
def engineStart (op : Nat) (r : CmdRef) (s : State) : State := begin r op none s fun _ _ s => s

end Sys2Proof.Machine
end

