-- ==== Sys2Proof/Machine/Translate.lean ====
section
/-! DEFINITION. What reaches the translation engine (06): walks and ATS completions, ATS invalidations, page requests and their
responses, fault responses, partitions, and the engine's part of a boundary. -/

namespace Sys2Proof.Machine

/-! ### The access that waits -/

/-- An access of a unit meets a page whose translation a test accepts: its CVA. -/
def State.unitCva (s : State) (qn : Nat) (c : Cmd) (u : Nat) (p : Target → Bool) : Option Nat :=
  if hOpcode c.bytes = Op.writeInline then some (pf c.bytes 0 56 0 + inlineDone c.bytes u)
  else (s.unitPages qn c u).findSome? fun (cva, _, t) => if p t then some cva else none

/-- A unit accesses the page of a CVA in a kind. -/
def State.touchesPage (s : State) (qn : Nat) (c : Cmd) (u cva : Nat) (acc : Access) : Bool :=
  (s.unitPages qn c u).any fun (v, a, _) => decide (v / 4096 = cva / 4096) && decide (a = acc)

/-- The first command of a queue whose next unit accesses the page of a CVA in a kind. -/
def State.unitFor (s : State) (qn cva : Nat) (acc : Access) : Option (Cmd × Nat) :=
  let q := s.queue qn
  q.cmds.findSome? fun c =>
    if !(c.begun && c.result.isNone && isEngine (hOpcode c.bytes) && c.stall.isNone) then none
    else
      match c.nextUnit with
      | some u => if s.touchesPage qn c u cva acc then some (c, u) else none
      | none => none

/-- The predictor of R225: a queue that walks the next page up or down has the page after it filled; nothing is raised, and a
prefetch that would fail is dropped. How far it runs ahead is one page (DESIGN CHOICE, log entry 32). -/
def State.predict (s : State) (slot qn cva : Nat) : State :=
  let c := s.ctx slot
  let page := cva / 4096
  let on := tst (s.func c.port c.func).ctl.toNat 48 && decide (s.time.bnd ≥ c.predictFrom)
  let s' := fun (up : Bool) => s.modXlt fun x => { x with history := Tbl.put x.history qn (page, up) }
  match Tbl.find s.xlt.history qn with
  | none => s' true
  | some (last, _) =>
    let up := decide (page = last + 1)
    let down := decide (page + 1 = last)
    let s := s' up
    if !on || !(up || down) || (down && page = 0) then s
    else
      let next := 4096 * (if up then page + 1 else page - 1)
      match (s.target slot next 1 .read).1 with
      | .fail _ _ => s
      | .miss p => (s.touch slot next .read).atsRequest slot p .read 16384 0 0
      | _ => s.touch slot next .read

/-- Units of the tick's windows in which a queue's engines serve a command. -/
def State.tickUnits (s : State) (qn : Nat) (b : List Byte) : Nat :=
  ((s.entries.filter fun e =>
    enKind e = 0 && enQueue e = qn && enApplies e s.cyclePos && s.servable (enRes e) (s.queue qn) b).map s.units).sum

/-- WALK_COMPLETE (R203, R208): the walk for an access of a queue ends; its leaf enters the caches, a host page that the ATC does
not hold is asked for, and a failure takes the effect of R214 on the unit that needs the page, with the look-ahead of R216. -/
def walkComplete (slot qn cva : Nat) (acc : Access) (s : State) : State :=
  let q := s.queue qn
  if !q.live || q.ctx ≠ slot || (s.ctx slot).priv || cva ≥ 2 ^ 57 then s
  else
    match (s.target slot cva 1 acc).1 with
    | .fail r l =>
      match s.unitFor qn cva acc with
      | some (c, u) => (s.unitFault qn c u cva r l acc).lookAhead qn c u (s.tickUnits qn c.bytes)
      | none => s
    | .miss page =>
      match s.unitFor qn cva acc with
      | some (c, u) => (((s.touch slot cva acc).unitMiss qn c u page acc)).predict slot qn cva
      | none => (s.touch slot cva acc).predict slot qn cva
    | _ => (s.touch slot cva acc).predict slot qn cva

/-- The reply of a retired command still waits to be written at a position (R165). -/
def Queue.awaits (q : Queue) (pos : Nat) : Bool := q.deferred.any fun d => d.1 = pos

/-- A waiting access fails for a reason of its host page (R214, R215): a unit ends its command, a predicate read too, and a ring
fetch or reply write parks the queue. -/
def State.failAccess (s : State) (slot qn pos u page reason : Nat) (acc : Access) : State :=
  let q := s.queue qn
  let code := reasonCode reason
  let note := fun (s : State) (cva : Nat) (control : Bool) =>
    s.recordFault slot qn pos u cva reason (s.leafLevel slot cva acc) acc control false false
  let here := fun (t : Target × Nat) => match t.1 with | .miss p => decide (p = page) | _ => false
  if !q.live || q.ctx ≠ slot then s
  else
    match q.cmd pos with
    | none =>
      if q.awaits pos then (note s (s.replyAddr q pos) true).park qn code pos
      else if q.cons = pos then (note s (s.ringAddr q pos) true).park qn code pos else s
    | some c =>
      if c.result.isSome then
        if here (s.controlTarget q (s.replyAddr q pos) 16 .write) then (note s (s.replyAddr q pos) true).park qn code pos else s
      else if c.pred = .waiting then (note s (bits (rd c.bytes 16 8) 56 3 * 8) true).finish qn pos code 0
      else
        (note s ((s.unitCva qn c u fun t => here (t, 0)).getD 0) false).endUnit qn pos u code

/-- The access is one of a ring or of a reply page (R215). -/
def State.ringAccess (s : State) (qn pos : Nat) : Bool :=
  match (s.queue qn).cmd pos with
  | none => true
  | some c => c.result.isSome

/-- The accesses that wait for a host page fail: the one that asked for its translation, and those of a page request of it whose
translation has been asked for again, or of any where `all` holds (R211, R223). -/
def State.failPage (s : State) (slot page reason : Nat) (acc : Access) (all : Bool) (asker : Option (Nat × Nat × Nat)) : State :=
  let mine := fun (r : PageReq) => r.ctx = slot && r.page = page && (all || r.again)
  let users := (s.xlt.requests.filter mine).flatMap (·.users)
  let users := match asker with | some u => if users.contains u then users else users ++ [u] | none => users
  users.foldl (fun s (q, p, v) => s.failAccess slot q p v page reason acc)
    (s.modXlt fun x => { x with requests := x.requests.filter fun r => !mine r })

/-- A host page is not present (R211, R221, R223): a page request, one more after a Success that gave no rights, or a failure. -/
def State.hostAbsent (s : State) (slot qn pos u page : Nat) (acc : Access) : State :=
  let c := s.ctx slot
  let can := s.priPossible slot || (s.ringAccess qn pos && decide ((s.part slot).2.2 > 0) && (s.func c.port 0).pri)
  let old := s.xlt.requests.find? fun r => r.ctx = slot && r.page = page
  let twice := match old with | some r => r.retried && r.again | none => false
  if !can then s.failAccess slot qn pos u page Reason.hostNotPresent acc
  else if twice || (s.func c.port 0).rf then s.failPage slot page Reason.priFailed acc true (some (qn, pos, u))
  else
    let s := s.pageRequest slot page acc qn pos u
    match (s.queue qn).cmd pos with
    | some d => if d.result.isNone && d.begun then s.stallAt qn pos u else s
    | none => s

/-! ### ATS (R210 to R213) -/

/-- A translation fills the ATC partition of the context on its home (R206, R211). The access that asked goes on with it whether or not
the partition holds it: in this tick, or at a boundary in the next (log entry 33). -/
def State.fillAtc (s : State) (r : AtsReq) (addr sizeLog : Nat) (rr w : Bool) : State :=
  let c := s.ctx r.ctx
  let e : AtcEntry :=
    { port := r.port, func := c.func, pasid := c.pasid, ctx := r.ctx, page := r.page, sizeLog := sizeLog, addr := addr, r := rr, w := w }
  let covers := fun (p : Nat) => decide (p / 2 ^ sizeLog = r.page / 2 ^ sizeLog)
  s.modXlt fun x =>
    { x with
      atc := x.atc.set c.home (addBounded (fun y => y.ctx = r.ctx) (s.part r.ctx).2.1
        ((x.atc.get c.home).filter fun y => !(y.ctx = r.ctx && y.port = r.port && covers y.page)) e)
      passing := if r.queue = 16384 then x.passing else x.passing ++ [(e, s.time.bnd + 2)]
      requests := x.requests.filter fun q => !(q.ctx = r.ctx && covers q.page) }

/-- ATS_TRANSLATION_COMPLETION (R42, R97, R211): windows that wait for it go on (R208). -/
def atsCompletion (p : Side) (tag : Nat) (result : AtsResult) (s : State) : State :=
  match s.xlt.ats.find? fun r => r.port = p && r.tag = tag with
  | none => s
  | some r =>
    let s := s.modXlt fun x => { x with ats := x.ats.filter fun y => !(y.port = p && y.tag = tag) }
    let c := s.ctx r.ctx
    let s := if result = .timedOut then s.modFunc p c.func fun x => { x with cplTimeout := true } else s
    let asker := if r.queue = 16384 then none else some (r.queue, r.slot, r.unit)
    let s :=
    if r.orphan then s.staleDomain
    else if r.pasidGen ≠ c.pasidGen || c.state = .free || c.state = .dead then s.stalePasid
    else if r.stale then s.atsRequest r.ctx r.page r.access r.queue r.slot r.unit
    else
      match result with
      | .failed | .timedOut => s.failPage r.ctx r.page Reason.atsFailed r.access false asker
      | .success addr sizeLog rr w =>
        let has := (r.access = .write || rr) && (r.access = .read || w)
        if has then s.fillAtc r addr sizeLog rr w
        else if r.queue = 16384 then s
        else s.hostAbsent r.ctx r.queue r.slot r.unit r.page r.access
    s.resumeWindows r.ctx

/-- Pages that an invalidation of `n` bytes from a host address names. -/
def inRange (page sizeLog addr n : Nat) : Bool :=
  let lo := page / 2 ^ sizeLog * 2 ^ sizeLog
  decide (4096 * lo < addr + n) && decide (addr < 4096 * (lo + 2 ^ sizeLog))

/-- ATS_INVALIDATION_REQUEST: step 1 of R212; steps 2 and 3 are awaited, for what was issued with a translation that it drops. A
function has at most 32 in hand. -/
def atsInvalidate (p : Side) (f itag : Nat) (pasid : Option Nat) (addr n : Nat) (s : State) : State :=
  if (s.xlt.inv.filter fun i => i.port = p && i.func = f).length ≥ 32 then s
  else
    let hit := fun (q : Nat) => match pasid with | some x => decide (q = x) | none => true
    let s := s.dropAtc fun e => e.port = p && e.func = f && hit e.pasid && inRange e.page e.sizeLog addr n
    let mine := fun (r : AtsReq) => r.port = p && (s.ctx r.ctx).func = f && hit (s.ctx r.ctx).pasid && inRange r.page 0 addr n
    let used := fun (slot : Nat) (page : Option Nat) =>
      (s.ctx slot).func = f && hit (s.ctx slot).pasid && page.any fun x => inRange x 0 addr n
    let cover := (s.port p).journal.foldl (fun m e => if used e.ctx e.page then max m (e.seq + 1) else m) 0
    let reads := ((s.port p).reqs.filter fun r => used r.ctx r.page).map (·.tag)
    s.modXlt fun x =>
      { x with
        ats := x.ats.map fun r => if mine r then { r with stale := true } else r
        inv := x.inv ++ [{ port := p, func := f, itag := itag, pasid := pasid, cover := cover, reads := reads }] }

/-- ATS_INVALIDATION_COMPLETION: steps 2 and 3 are done, and the completion leaves. -/
def atsInvDone (p : Side) (f itag : Nat) (s : State) : State :=
  match s.xlt.inv.find? fun i => i.port = p && i.func = f && i.itag = itag with
  | none => s
  | some i =>
    let po := s.port p
    if po.up && decide (i.cover ≤ po.jacked) && !(po.reqs.any fun r => i.reads.contains r.tag) then
      (s.modXlt fun x => { x with inv := x.inv.erase i }).emit (.atsInvDone p f itag)
    else s

/-! ### Page requests (R221 to R224) -/

/-- The access kind of a page request. -/
def PageReq.access (r : PageReq) : Access := if r.r && r.w then .atomic else if r.w then .write else .read

/-- The accesses of page requests fail. -/
def State.failRequests (s : State) (p : PageReq → Bool) : State :=
  let gone := s.xlt.requests.filter p
  let s := s.modXlt fun x => { x with requests := x.requests.filter fun r => !p r }
  gone.foldl
    (fun s r => r.users.foldl (fun s (q, pos, u) => s.failAccess r.ctx q pos u r.page Reason.priFailed r.access) s) s

/-- A stamped PRG_RESPONSE (R223). -/
def State.prg (s : State) (p : Side) (f index gen : Nat) (code : PrgCode) : State :=
  let mine := fun (r : PageReq) =>
    r.port = p && r.func = f && r.index = some index && r.pasidGen = gen && (s.ctx r.ctx).pasidGen = gen
  if !s.xlt.requests.any mine then s.stalePasid
  else
    match code with
    | .success =>
      let l := s.xlt.requests.filter mine
      let s := s.modXlt fun x =>
        { x with requests := x.requests.map fun r => if mine r then { r with again := true, index := none } else r }
      l.foldl
        (fun s r =>
          match r.users with
          | (q, pos, u) :: _ => s.atsRequest r.ctx r.page r.access q pos u
          | [] => s.atsRequest r.ctx r.page r.access 16384 0 0) s
    | .invalidRequest => s.failRequests mine
    | .responseFailure => (s.modFunc p 0 fun x => { x with rf := true }).failRequests fun r => r.port = p

/-- PRG_RESPONSE. -/
def prgResponse (c : Instr) (p : Side) (f index gen : Nat) (code : PrgCode) (s : State) : State :=
  s.stamped c fun _ s => s.prg p f index gen code

/-- PRI_TIMEOUT and STALL_TICKS of a function (R227). -/
def State.priTicks (s : State) (p : Side) (f : Nat) : Nat := bits (s.func p f).ctl.toNat 47 24
def State.stallTicks (s : State) (p : Side) (f : Nat) : Nat := bits (s.func p f).ctl.toNat 23 0

/-- PRI_TIMEOUT: the index stays unusable until the port's next reset. -/
def priTimeout (p : Side) (index : Nat) (s : State) : State :=
  let mine := fun (r : PageReq) => r.port = p && r.index = some index && decide (s.time.bnd ≥ r.sentAt + s.priTicks p r.func)
  if !s.xlt.requests.any mine then s
  else
    (s.failRequests mine).modXlt fun x => { x with deadPrg := x.deadPrg.set p (insertNat index (x.deadPrg.get p)) }

/-- Translations that were asked for again, and are no longer outstanding, are asked for once more (R223). -/
def State.reaskPages (s : State) : State :=
  (s.xlt.requests.filter fun r => r.again).foldl
    (fun s r =>
      if s.xlt.ats.any fun a => a.ctx = r.ctx && a.page = r.page then s
      else
        match r.users with
        | (q, pos, u) :: _ => s.atsRequest r.ctx r.page r.access q pos u
        | [] => s.atsRequest r.ctx r.page r.access 16384 0 0) s

/-- The next PRG index of a port that is free: the indices are taken in turn, so that one that a later sending has superseded is not
in use again at once (R224; DESIGN CHOICE, log entry 179). -/
def State.prgIndex (s : State) (p : Side) : Option Nat :=
  ((List.range 512).map fun k => (s.xlt.nextPrg.get p + k) % 512).find? fun i =>
    !(s.xlt.deadPrg.get p).contains i && !(s.xlt.requests.any fun r => r.port = p && r.index = some i)

/-- One group of page requests of a context leaves under one index (R222). -/
def State.sendGroup (s : State) (slot : Nat) : State :=
  let c := s.ctx slot
  let p := c.port
  let mine := fun (r : PageReq) => r.ctx = slot && r.index.isNone && !r.again
  let outCtx := (s.xlt.requests.filter fun r => r.ctx = slot && r.index.isSome).length
  let outPort := (s.xlt.requests.filter fun r => r.port = p && r.index.isSome).length
  let n := min 32 (min ((s.part slot).2.2 - outCtx) ((s.func p 0).prgAlloc - outPort))
  let l := (s.xlt.requests.filter mine).take n
  match s.prgIndex p with
  | none => s
  | some i =>
    if l.isEmpty || !s.canIssue p c.func then s
    else
      let s := s.modXlt fun x =>
        { x with
          nextPrg := x.nextPrg.set p ((i + 1) % 512)
          requests := x.requests.map fun r =>
            if mine r && l.any (fun y => y.page = r.page) then { r with index := some i, sentAt := s.time.bnd, port := p } else r }
      s.emits (l.mapIdx fun k r => .pageReq p c.func r.pasid r.page i r.r r.w (k + 1 = l.length))

/-- The page requests of a boundary, context by context. -/
def State.sendPageRequests (s : State) : State :=
  let slots := (s.xlt.requests.map (·.ctx)).eraseDups
  slots.foldl (fun s slot => (List.range 16).foldl (fun s _ => s.sendGroup slot) s) s

/-- Page requests that a retrain, a failover or a change of port has sent again under new indices (R224). -/
def State.resendRequests (s : State) (p : PageReq → Bool) : State :=
  s.modXlt fun x =>
    { x with
      requests := x.requests.map fun r => if p r then { r with index := none, port := (s.ctx r.ctx).port } else r }

/-! ### Stalled records (R219) -/

/-- A stalled record of a function on a port. -/
def State.stalledAt (s : State) (p : Side) (f id : Nat) : Option FaultRec :=
  s.xlt.stalled.find? fun r => r.id = id && (s.ctx r.ctx).func = f && decide ((s.ctx r.ctx).port = p)

/-- A record leaves the stalled ones; what its ring is still due of it stays due (R217). -/
def State.dropRecord (s : State) (r : FaultRec) : State :=
  s.modXlt fun x => { x with stalled := x.stalled.filter fun y => !(y.id = r.id && y.ctx = r.ctx) }

/-- The commands that a record ends: those whose accesses it stalls, and for one that look-ahead raised the command it served,
while that stalls (R216, R219). -/
def State.recordUsers (s : State) (r : FaultRec) : List (Nat × Nat) :=
  if r.users.isEmpty then
    match (s.queue r.queue).cmd r.slot with
    | some c => if c.stall.isSome then [(r.queue, r.slot)] else []
    | none => []
  else r.users

/-- The accesses of a stalled record fail with a code (R214, R215). -/
def State.failRecord (s : State) (r : FaultRec) (code : Nat) : State :=
  (s.recordUsers r).foldl
    (fun s (qn, pos) =>
      let q := s.queue qn
      match q.cmd pos with
      | none => if r.control && q.live && (q.cons = pos || q.awaits pos) then s.park qn code pos else s
      | some c =>
        if c.result.isSome then (if r.control then s.park qn code pos else s)
        else if c.pred = .waiting then s.finish qn pos code 0
        else s.endUnit qn pos (if r.queue = qn && r.slot = pos then r.unit else c.stall.getD c.point) code) (s.dropRecord r)

/-- STALL_LIMIT: from boundary t + STALL_TICKS + 1 on; no record is written for it. -/
def stallLimit (p : Side) (f id : Nat) (s : State) : State :=
  match s.stalledAt p f id with
  | none => s
  | some r => if s.time.bnd ≥ r.raised + s.stallTicks p f + 1 then s.failRecord r E.xltFault else s

/-- A response written to HX_XLT_FAULT_RESP of a function (R219, R227): the code of a rejection, or the state. -/
def State.faultResp (s : State) (p : Side) (f value : Nat) : Except Nat State :=
  let action := bits value 17 16
  let id := bits value 15 0
  if action ≠ 1 && action ≠ 2 then .error E.badField
  else if (s.stalledAt p f id).isNone then .error E.badHandle
  else .ok (s.modXlt fun x => { x with responses := x.responses ++ [(funcKey p f, id, decide (action = 2))] })

/-- A stalled command's unit is walked again (R219): it goes on, or it raises a record of this tick. -/
def State.rewalk (s : State) (qn pos : Nat) : State :=
  let q := s.queue qn
  match q.cmd pos with
  | none => s
  | some c =>
    match c.stall with
    | none => s
    | some u =>
      if c.result.isSome then s
      else
        let s := s.modCmd qn pos fun x => { x with stall := none }
        let c := { c with stall := none }
        match s.work (s.blurOf qn c) q.ctx c.bytes (4096 * u) (c.unitLen u) with
        | .error (.fault cva r l acc) => s.unitFault qn c u cva r l acc
        | .error _ => s
        | .ok w =>
          match s.unitPieces q.ctx w with
          | .error (.fault cva r l acc) => s.unitFault qn c u cva r l acc
          | _ => s

/-- A stalled record whose access still waits: its command, or its ring position, is still there. -/
def State.recordLives (s : State) (r : FaultRec) : Bool :=
  let live := fun (qn pos : Nat) =>
    let q := s.queue qn
    match q.cmd pos with
    | some c => c.result.isNone || r.control
    | none => r.control && q.live && (q.awaits pos || (decide (q.state ≠ .stopped) && q.cons = pos))
  if r.users.isEmpty then live r.queue r.slot else r.users.any fun (q, p) => live q p

/-- A control access that stalled on a page of a run is walked again (R215, R219): a ring fetch, a reply write or a predicate read. One
that goes on waits for what it reads. -/
def State.rewalkControl (s : State) (r : FaultRec) (qn pos : Nat) : State :=
  let q := s.queue qn
  let again := fun (acc : Access) =>
    (List.range r.run).foldl
      (fun s i =>
        let a := if i = 0 then r.cva else (r.cva / 4096 + i) * 4096
        s.controlFault qn pos a acc (s.controlTarget q a 1 acc).1) s
  match q.cmd pos with
  | none => if !q.live then s else if q.awaits pos then again .write else if q.state = .stopped || q.cons ≠ pos then s else again .read
  | some c =>
    if c.result.isSome then again .write
    else if c.pred ≠ .waiting then s
    else
      let s := s.dropWord qn pos
      match (s.target q.ctx (predAddr c.bytes) 8 .read).1 with
      | .fail why l => s.wordFault qn c why l
      | _ => (s.modCmd qn pos fun d => { d with pred := .held }).askWord qn c

/-- The pages of a record's run are walked again (R219): each that still faults raises a record of this tick. -/
def State.rewalkRun (s : State) (r : FaultRec) : State :=
  if !s.recordLives r then s
  else if r.control then r.users.foldl (fun s (q, p) => s.rewalkControl r q p) s
  else
    (List.range r.run).foldl
      (fun s i =>
        let cva := (r.cva / 4096 + i) * 4096
        match (s.target r.ctx cva 1 r.access).1 with
        | .fail why level =>
          s.recordFault r.ctx r.queue r.slot r.unit (if i = 0 then r.cva else cva) why level r.access false true
            (stalls (s.ctx r.ctx).terminate false why)
        | _ => s) s

/-- Records that a response, or a mapping change of this boundary, ends: the responses of the tick before, and the ranges that
change. -/
def State.endRecords (s : State) (changes : List (Nat × Nat × Nat × Bool)) : State :=
  let resp := s.xlt.responses
  let s := s.modXlt fun x => { x with responses := [] }
  let named := fun (s : State) (key id : Nat) => s.stalledAt (Side.ofBool (decide (128 ≤ key))) (key % 128) id
  let s := resp.foldl
    (fun s (key, id, fail) =>
      if !fail then s else match named s key id with | some r => s.failRecord r E.xltFault | none => s) s
  let retried := resp.filterMap fun (key, id, fail) => if fail then none else named s key id
  let covered := s.xlt.stalled.filter fun r =>
    changes.any fun (slot, page, pages, _) =>
      r.ctx = slot && decide (r.cva / 4096 < page + pages) && decide (page < r.cva / 4096 + r.run)
  let done := (retried ++ covered).eraseDups
  let s := done.foldl (fun s r => s.dropRecord r) s
  let users := (done.flatMap (·.users)).eraseDups
  let s := users.foldl (fun s (q, p) => s.rewalk q p) s
  let s := done.foldl (fun s r => s.rewalkRun r) s
  s.modXlt fun x => { x with stalled := x.stalled.filter s.recordLives }

/-- Commands whose stall nothing holds any longer go on. -/
def State.clearStalls (s : State) : State :=
  let held := fun (qn pos : Nat) =>
    (s.xlt.stalled.any fun r => r.users.contains (qn, pos)) || s.xlt.requests.any fun r => r.users.any fun (q, p, _) => q = qn && p = pos
  s.mapQueues fun n q =>
    { q with cmds := q.cmds.map fun c => if c.stall.isSome && !held n c.slot then { c with stall := none } else c }

/-! ### Fault rings (R217, R218, R227) -/

/-- A ring's entries. -/
def Func.ringSize (f : Func) : Nat := 2 ^ (f.fring.toNat % 32)

/-- A ring takes one more entry. -/
def Func.ringRoom (f : Func) : Bool := bits f.fring.toNat 56 12 ≠ 0 && (f.ringTail + 1) % f.ringSize ≠ f.ringHead

/-- The lead order point stamps the records of the tick that has ended, in order (R217). -/
def State.stampRecords (s : State) : List FaultRec → List FaultRec × State
  | [] => ([], s)
  | r :: t =>
    if r.stamp.isSome || decide (r.raised ≥ s.time.bnd) || !s.canStamp then
      let (l, s) := s.stampRecords t
      (r :: l, s)
    else
      let (n, s) := s.stamp
      let (l, s) := s.stampRecords t
      ({ r with stamp := some n } :: l, s)

/-- The stamped records of the batch, each written to its function's ring, waiting there when it stalls and the ring is full, or dropped
and counted (R217); the records that wait, in their order. A ring whose port does not issue requests keeps what it is due. A ring's vector
is raised with the first record that it takes; `rung` names the functions whose rings have raised theirs. -/
def State.writeBatch : State → List Nat → List FaultRec → List FaultRec × State
  | s, _, [] => ([], s)
  | s, rung, r :: t =>
    let c := s.ctx r.ctx
    let f := s.func c.port c.func
    let keep := fun (s : State) =>
      let (l, s) := s.writeBatch rung t
      (r :: l, s)
    match r.stamp with
    | none => keep s
    | some st =>
      if !f.ringRoom then
        if r.terminated then (s.modFunc c.port c.func fun g => { g with lost := satAdd 65535 g.lost 1 }).writeBatch rung t
        else keep (s.modFunc c.port c.func fun g => { g with full := true })
      else if !s.canIssue c.port c.func || !s.room c.port 64 then keep s
      else
        let e : JEntry :=
          { seq := 0, queue := 0, slot := 0, unit := 0, func := c.func, ctx := r.ctx, kind := .fring,
            addr := bits f.fring.toNat 56 12 * 4096 + 32 * f.ringTail, data := r.bytes st c.pasid f.ringPhase, ro := false, poison := false,
            pasid := none, page := none, fence := none }
        let s := s.hostWrite c.port none e
        let tail := (f.ringTail + 1) % f.ringSize
        let s := s.modFunc c.port c.func fun g =>
          { g with ringTail := tail, ringPhase := if tail = 0 then !g.ringPhase else g.ringPhase }
        let key := funcKey c.port c.func
        if rung.contains key then s.writeBatch rung t else (s.raise c.func f.fringVec (.port c.port)).writeBatch (key :: rung) t

/-- The rings at a boundary: a reprogrammed ring takes effect, and the batch of the tick that ended is stamped and written behind what
waits from before; what was raised at this boundary belongs to the tick that begins. -/
def State.faultRings (s : State) : State :=
  let s := s.mapFuncs fun _ f =>
    match f.fringNext with
    | some v => { f with fring := v, fringNext := none, ringHead := 0, ringTail := 0, ringPhase := true }
    | none => f
  let (l, s) := s.stampRecords s.xlt.batch
  let (l, s) := s.writeBatch [] l
  s.modXlt fun x => { x with batch := l }

/-- Records stalled now of a function on a port (R227). -/
def State.stalledCount (s : State) (p : Side) (f : Nat) : Nat :=
  min 65535 (s.xlt.stalled.countP fun r => (s.ctx r.ctx).func = f && decide ((s.ctx r.ctx).port = p))

/-! ### Partitions (R207, R226) -/

/-- The sums of the committed partitions over all 4,096 slots. -/
def State.partSums (s : State) : Nat × Nat × Nat :=
  let l := s.xlt.part
  let rest := 4096 - l.length
  (8 * rest + (l.map fun x => x.2.1).sum, 4 * rest + (l.map fun x => x.2.2.1).sum, (l.map fun x => x.2.2.2).sum)

/-- The checks of a partition commit, in order, and its effect. -/
def State.partCommit (s : State) (slot value : Nat) : Except Nat State :=
  let tlb := bits value 47 32
  let atc := bits value 31 16
  let prq := bits value 9 0
  let s' := s.modXlt fun x => { x with part := Tbl.set (8, 4, 0) x.part slot (tlb, atc, prq) }
  let (a, b, c) := s'.partSums
  if (s.ctx slot).state ≠ .free then .error E.locked
  else if tlb % 8 ≠ 0 || atc % 4 ≠ 0 then .error E.badField
  else if a > 32768 || b > 16384 || c > 512 then .error E.badLength
  else .ok s'

/-! ### Probe (R228, R513) -/

/-- What a probe reports: VALID, LEVEL, CODE and the entry; through a VF device-memory addresses read as zero. -/
def State.probe (s : State) (slot cva : Nat) (vf : Bool) : Bool × Nat × Nat × Nat :=
  let c := s.ctx slot
  if c.priv || c.state = .free then (false, 0, 0, 0)
  else
    let hide := fun (e : Nat) =>
      if !vf || !eV e then e
      else if !eLeaf e || eType e = 0 then e - fld (bits e 40 12) 12
      else e
    match s.walk slot cva .read false with
    | .leaf e l => (true, l, E.ok, hide e)
    | .fail r l e => (true, l, reasonCode r, hide e)

end Sys2Proof.Machine
end

