-- ==== Sys2Proof/Machine/Complete.lean ====
section
/-! DEFINITION. The control opcodes of 05, ABORT, and COMMAND_COMPLETE: the half steps and the completion steps of a command
(R33, R125 to R127, R138 to R142, R160 to R184, R254 to R258, R277, R293, R438, R510). -/

namespace Sys2Proof.Machine

/-! ### Step 2: invalidation (R255, R382) -/

/-- The destination ranges of `n` stream bytes of a command from a position. -/
def State.spanRanges (s : State) (slot : Nat) (b : List Byte) (from_ n : Nat) : List (Nat × Nat) :=
  match s.work .none slot b from_ n with
  | .ok w => w.writes.map fun (_, a, n, _) => (a, n)
  | .error _ => []

/-- The destination ranges of a command below a stream byte. -/
def State.destRanges (s : State) (slot : Nat) (b : List Byte) (up : Nat) : List (Nat × Nat) :=
  let op := hOpcode b
  if op = Op.copy || op = Op.fill || op = Op.copy2d || op = Op.gather then invRanges b up
  else if op = Op.collective then (if (s.collDest b).2 = 0 then [] else [s.collDest b])
  else (List.range ((up + 4095) / 4096)).flatMap fun u => s.spanRanges slot b (4096 * u) (min 4096 (up - 4096 * u))

/-- The slot map that the first pass of a DISPATCH has written, and the count words written (R280). -/
def State.dispatchRanges (s : State) (slot : Nat) (c : Cmd) : List (Nat × Nat) :=
  let b := c.bytes
  let all := 4 * (tTokens b * tTopk b)
  let map := if c.phase = 0 then min all (4096 * c.aux.headD 0) else all
  (if map = 0 then [] else [(pf b 24 56 0, map)]) ++
    (List.range (c.phase - 2)).flatMap fun e =>
      match s.expert .none slot (pf b 16 56 0) e (rowBytes b) with
      | .ok x => if x.cnt = 0 then [] else [(x.cnt, 8)]
      | .error _ => []

/-- Everything that a command has written: below its residue point, and in units above it (R255, R280). -/
def State.writtenRanges (s : State) (qn : Nat) (c : Cmd) : List (Nat × Nat) :=
  let slot := (s.queue qn).ctx
  let b := c.bytes
  if !c.begun then []
  else
    s.destRanges slot b (min c.len (4096 * c.point)) ++
      c.above.flatMap (fun u => s.spanRanges slot b (4096 * u) (min 4096 (streamLen b - 4096 * u))) ++
      if hOpcode b = Op.dispatch then s.dispatchRanges slot c else []

/-- INVAL packets for ranges at a device, at most 31 in each. -/
def invalAsks (r : CmdRef) (clusters dev : Nat) (l : List (Nat × Nat)) : List InvAsk :=
  (chunks 31 ((l.length + 30) / 31) l).map fun x => ⟨r, some dev, clusters, x⟩

/-- Step 2 is asked for, at this device's domains and at those of peers. -/
def State.issueInv (s : State) (qn : Nat) (c : Cmd) (clusters : Nat) (ranges : List (Nat × Nat)) : State :=
  let slot := (s.queue qn).ctx
  let far := pathOf c.bytes = 3 || pathOf c.bytes = 5 || hOpcode c.bytes = Op.dispatch
  if !far then s.askInvalidate qn c.slot clusters ranges
  else
    let pieces := ranges.flatMap fun (a, n) => s.pieces slot .write a n
    let own := pieces.filterMap fun (a, n, t) => match t with | .loc _ => some (a, n) | _ => none
    let peers := pieces.filterMap fun (_, n, t) =>
      match t with | .peer g o => (s.grantOf slot g).map fun h => (h.dev, h.base + o, n) | _ => none
    let s := s.askInvalidate qn c.slot clusters own
    let r : CmdRef := ⟨qn, c.slot % (s.queue qn).slots⟩
    let asks := (peers.map (·.1)).eraseDups.flatMap fun d => invalAsks r clusters d ((peers.filter fun x => x.1 = d).map fun x => x.2)
    let s := s.modCmd qn c.slot fun x => { x with invLeft := x.invLeft + asks.length, invRest := x.invRest ++ asks }
    match (s.queue qn).cmd c.slot with
    | some d => s.issueRest qn d
    | none => s

/-! ### The half steps (R256, R257) -/

/-- The control word of a command that has one. -/
def ctrlOf (b : List Byte) : Ctrl :=
  Ctrl.ofNat (if isEngine (hOpcode b) || hOpcode b = Op.collective then pw b (ctrlOff (hOpcode b)) else 0)

/-- The half signal can be sent: the tick's count has a stamp for it, and its write to the host has a port and room (R36, R108). -/
def State.halfReady (s : State) (c : Cmd) : Bool :=
  let f := s.fence (fIndex (hFence c.bytes))
  let x := s.ctx f.owner
  !((ctrlOf c.bytes).halfFence && c.counted) ||
    (s.canStamp && (f.mode ≠ 1 || f.state ≠ .pending || (s.canIssue x.port x.func && s.room x.port 40)))

/-- Half steps 3 and 4. -/
def State.halfSignals (s : State) (qn : Nat) (c : Cmd) : State :=
  let k := ctrlOf c.bytes
  let s := s.modCmd qn c.slot fun x => { x with halfDone := true, invIssued := false, invAt := [], invLeft := 0 }
  let s := if k.halfFence && c.counted then s.stamp.2.halfSignal (fIndex (hFence c.bytes)) (hValue c.bytes - 1) qn c.slot else s
  if k.halfIrq then s.raiseQueue qn else s

/-- The half steps of a command are due and not taken. -/
def State.halfDue (s : State) (c : Cmd) : Bool :=
  !c.halfDone && (match c.halfAt with | some a => decide (a ≤ s.time.bnd) | none => false)

/-- The half steps of one command, as far as they can go. -/
def State.halfStep (s : State) (qn : Nat) (c : Cmd) : State :=
  let h := halfPoint c.bytes
  if !s.halfDue c || !s.landedTo qn c.slot h then s
  else
    let k := ctrlOf c.bytes
    let s := if k.inv && !c.invIssued then s.issueInv qn c k.clusters (s.destRanges (s.queue qn).ctx c.bytes h) else s
    match (s.queue qn).cmd c.slot with
    | some d =>
      if !d.invDone then s
      else if s.halfReady d then s.halfSignals qn d
      else if !s.canStamp then s.carryOnce (.commandComplete qn)
      else s
    | none => s

/-- The half steps of every command of a queue. -/
def State.halfSteps (s : State) (qn : Nat) : State := (s.queue qn).cmds.foldl (fun s c => s.halfStep qn c) s

/-! ### The last writes of step 1 (R277, R293) -/

/-- What the units of a command counted: SATURATED, NAN_IN, FLUSHED, DROPPED. -/
def Cmd.counts (c : Cmd) : Nat × Nat × Nat × Nat :=
  ((c.tally.map fun x => x.2.1).sum, (c.tally.map fun x => x.2.2.1).sum, (c.tally.map fun x => x.2.2.2.1).sum,
    (c.tally.map fun x => x.2.2.2.2).sum)

/-- STATS of a command: zero for none. -/
def statsAddr (b : List Byte) : Nat :=
  if hOpcode b = Op.collective then pf b 40 56 0
  else if isTransform (hOpcode b) && hOpcode b ≠ Op.dispatch then pf b 48 56 0 else 0

/-- One 8-byte word of a note block with a count added to each half, each staying at its ceiling. -/
def noteWord (w hi lo : Nat) : Nat := fld (satAdd (2 ^ 32 - 1) (w / 2 ^ 32) hi) 32 + satAdd (2 ^ 32 - 1) (w % 2 ^ 32) lo

/-- The counts are added to the note block, and NOTE is set when one is nonzero. -/
def State.addStats (s : State) (qn : Nat) (c : Cmd) : State :=
  let (sat, nan, fl, dr) := c.counts
  if sat + nan + fl + dr = 0 then s
  else
    let s := s.modCmd qn c.slot fun x => { x with note := true }
    let a := statsAddr c.bytes
    if a = 0 then s
    else
      match (s.target (s.queue qn).ctx a 16 .write).1 with
      | .loc x =>
        let m := s.mem
        s.setMem (m.store x (leBytes 8 (noteWord (m.word x) nan sat) ++ leBytes 8 (noteWord (m.word (x + 8)) fl dr))
          (m.anyPoison x 16))
      | _ => s

/-- What stops the count words of a DISPATCH: an entry of the expert table that R288 does not allow, or a CNT that cannot be written
(R261, R281, R291). -/
def State.countStop (s : State) (qn : Nat) (c : Cmd) : Option Stop :=
  let b := c.bytes
  let slot := (s.queue qn).ctx
  (List.range (tExperts b)).findSome? fun e =>
    match s.expert (s.blurOf qn c) slot (pf b 16 56 0) e (rowBytes b) with
    | .error x => some x
    | .ok x =>
      if !x.legal then some (.code E.badField)
      else if x.cnt = 0 then none
      else
        match s.expertStop slot x.cnt with
        | some y => some y
        | none =>
          if scopeStops b (s.translate slot .write [(0, x.cnt, 8)]) then some (.code E.badField)
          else if s.unlinked qn x.cnt then some (.code E.noAllotment)
          else none

/-- The count words still to be written, expert by expert, as far as the queue's allotments on the links go (R292, R293): the command's
`phase` is two more than the experts done. -/
def State.countWords (s : State) (qn pos : Nat) : Nat → State
  | 0 => s
  | k + 1 =>
    match (s.queue qn).cmd pos with
    | none => s
    | some c =>
      let b := c.bytes
      let slot := (s.queue qn).ctx
      let e := c.phase - 2
      if e ≥ tExperts b then s
      else
        match s.expert (s.blurOf qn c) slot (pf b 16 56 0) e (rowBytes b) with
        | .error _ => s
        | .ok x =>
          let n := c.routeCounts.getD e 0
          let placed := min n x.cap
          let next := fun (s : State) =>
            (s.modCmd qn pos fun d => { d with phase := e + 3, note := d.note || decide (placed < n) }).countWords qn pos k
          if x.cnt = 0 then next s
          else
            let p : Piece := ⟨0, x.cnt, 8, (s.target slot x.cnt 8 .write).1⟩
            let links := s.linkNeeds slot [p]
            if !s.linksFree qn links then s
            else
              let data := (leBytes 8 (fld (n - placed) 32 + placed)).map fun v => (v, false)
              next (((s.useLinks qn links).writePiece qn pos (unitCount b) p data).disturb (some (qn, pos)) (localRanges [p]))

/-- Device addresses that the last writes of step 1 touch. -/
def State.lastRanges (s : State) (qn : Nat) (c : Cmd) : List (Nat × Nat) :=
  let slot := (s.queue qn).ctx
  let at_ := fun (a n : Nat) => match (s.target slot a n .write).1 with | .loc x => [(x, n)] | _ => []
  (if statsAddr c.bytes = 0 then [] else at_ (statsAddr c.bytes) 16) ++
    (if hOpcode c.bytes ≠ Op.dispatch then []
     else
      (List.range (tExperts c.bytes)).flatMap fun e =>
        match s.expert .none slot (pf c.bytes 16 56 0) e (rowBytes c.bytes) with
        | .ok x => if x.cnt = 0 then [] else at_ x.cnt 8
        | .error _ => [])

/-- A command that ends with a code writes count words. -/
def Cmd.writesCounts (c : Cmd) (code : Nat) : Bool := code = E.ok && hOpcode c.bytes = Op.dispatch

/-- The last writes of step 1 are made, or there are none. -/
def Cmd.lastDone (c : Cmd) (code : Nat) : Bool :=
  if c.writesCounts code then decide (c.phase ≥ 2 + tExperts c.bytes)
  else (statsAddr c.bytes = 0 && c.tally.isEmpty) || decide (c.phase ≥ 2)

/-- The last writes of step 1: DISPATCH's count words, none of which is written where one of them cannot be, or the note block. -/
def State.lastWrites (s : State) (qn : Nat) (c : Cmd) (code : Nat) : State :=
  s.uncached (.cmd (.commandComplete qn)) [] (s.lastRanges qn c) fun s =>
    if c.writesCounts code then
      match s.countStop qn c with
      | some (.code k) | some (.codeAt k _) => s.modCmd qn c.slot fun d => { d with result := some k, residue := 0, phase := 2 }
      | some (.fault cva r l acc) =>
        (s.modCmd qn c.slot fun d => { d with result := none }).unitFault qn c (unitCount c.bytes) cva r l acc
      | some (.miss _ _) => s
      | none => (s.modCmd qn c.slot fun d => { d with phase := max 2 d.phase }).countWords qn c.slot (tExperts c.bytes)
    else ((s.addStats qn c).modCmd qn c.slot fun x => { x with phase := 2 }).disturb (some (qn, c.slot)) (s.lastRanges qn c)

/-- A DISPATCH whose count words waited for a translation goes on with them. -/
def Cmd.recount (c : Cmd) (now : Nat) : Cmd :=
  if hOpcode c.bytes = Op.dispatch && c.begun && c.result.isNone && c.stall.isNone && c.ends.isNone && decide (1 ≤ c.phase) &&
      decide (c.point ≥ unitCount c.bytes) then c.finish (if c.poisoned then E.poisoned else E.ok) 0 now
  else c

/-! ### Steps 3 to 5 -/

/-- Reads of a peer older than a mark are outstanding; tags are kept modulo 4,096. -/
def State.olderReads (s : State) (mark : Nat) : Bool :=
  s.fab.reads.any fun r => decide ((s.fab.nextTag + 4095 - r.tag) % 4096 + 1 > s.fab.nextTag - mark)

/-- The accesses of a context that were outstanding when the tags and journal numbers stood at given marks have completed. -/
def State.usesClear (s : State) (slot : Nat) (marks : List Nat) : Bool :=
  match marks with
  | [a, b, f, ja, jb] =>
    let old := fun (p : Side) (tag j : Nat) =>
      ((s.port p).reqs.any fun r => r.ctx = slot && decide (r.tag < tag)) ||
        (s.port p).journal.any fun e => e.ctx = slot && decide (e.seq < j) && (e.kind = .slice || e.kind = .inline)
    let toPeer := s.fab.paths.any fun (_, x) =>
      x.unacked.any fun y => y.pkt.kind = K.write && (match y.pkt.ref with | some (r, _) => (s.queue r.queue).ctx = slot | none => false)
    !old .a a ja && !old .b b jb && !s.olderReads f && !toPeer
  | _ => false

/-- The accesses that used a translation which an UNMAP, or a MAP with REPLACE, removed have completed (R187, R188). -/
def State.unmapClear (s : State) (qn : Nat) (c : Cmd) : Bool := s.usesClear (s.queue qn).ctx c.aux

/-- A command whose removed translations are still in use, or whose entries have not taken effect (R503). -/
def State.mapWaits (s : State) (qn : Nat) (c : Cmd) : Bool :=
  let op := hOpcode c.bytes
  let replace := op = Op.map && tst (pw c.bytes 8) 42
  c.begun && c.phase = 1 && ((op = Op.map || op = Op.unmap) && (c.aux.isEmpty || ((op = Op.unmap || replace) && !s.unmapClear qn c)))

/-- The signal of the command's fence can be sent now: a host fence needs its port, and a HOST_ADD the intent notice. -/
def State.signalReady (s : State) (qn : Nat) (c : Cmd) (code : Nat) : Bool :=
  let f := s.fence (fIndex (hFence c.bytes))
  let x := s.ctx f.owner
  code ≠ E.ok || !c.counted || f.mode = 0 || f.state = .broken ||
    (s.canIssue x.port x.func && (f.mode = 1 || (s.tagFree x.port && !s.noticeNeeded qn c)))

/-- A HOST_ADD signal asks for its intent notice (R438). -/
def State.askNotice (s : State) (qn : Nat) (c : Cmd) (code : Nat) : State :=
  if code = E.ok && c.counted && (s.fence (fIndex (hFence c.bytes))).mode = 2 && s.noticeNeeded qn c then s.sendNotice qn c else s

/-- Journal bytes that a command's completion steps reserve on a port: those of its reply and of its fence's signal (R108). -/
def State.stepsNeed (s : State) (qn : Nat) (c : Cmd) (code : Nat) (p : Side) : Nat :=
  let q := s.queue qn
  let f := s.fence (fIndex (hFence c.bytes))
  let reply :=
    match (s.controlTarget q (s.replyAddr q c.slot) 16 .write).1 with
    | .host _ _ => if (s.ctx q.ctx).port = p && !s.mute qn && !c.silent code then 48 else 0
    | _ => 0
  reply + if code = E.ok && c.counted && f.mode ≠ 0 && f.state ≠ .broken && (s.ctx f.owner).port = p then 40 else 0

/-- The port whose journal has no room for a command's completion steps. -/
def State.stepsShort (s : State) (qn : Nat) (c : Cmd) (code : Nat) : Option Side :=
  [Side.a, Side.b].find? fun p => decide (s.stepsNeed qn c code p > 0) && !s.room p (s.stepsNeed qn c code p)

/-- Device addresses of the replies that a retirement writes. -/
def State.replyRanges (s : State) (qn : Nat) (c : Cmd) : List (Nat × Nat) :=
  let q := s.queue qn
  (c.slot :: q.deferred.map (·.1)).filterMap fun p =>
    match (s.controlTarget q (s.replyAddr q p) 16 .write).1 with
    | .loc a => some (a, 16)
    | _ => none

/-- The reply of a queue's head is held at its parked slot (R215). -/
def Queue.replyHeld (q : Queue) (c : Cmd) : Bool :=
  q.state = .parked && q.parkSlot = c.slot % q.slots && q.parkCode ≠ E.queueParked && !c.forced

/-- Steps 3 to 5 of R33, or what holds them: the deferred positions ahead come first, and stay written. -/
def State.steps35 (s : State) (qn : Nat) (c : Cmd) (code : Nat) : State :=
  if (s.queue qn).replyHeld c then s
  else
    let ranges := s.replyRanges qn c
    s.uncached (.cmd (.commandComplete qn)) [] ranges fun s =>
      let s := if s.mute qn || c.silent code then s else s.writeDeferred qn (s.queue qn).deferred.length
      if !s.signalReady qn c code then s.askNotice qn c code
      else
        match s.stepsShort qn c code with
        | some p => s.noRoom p
        | none =>
          match s.retire qn c code with
          | some t => t.disturb none ranges
          | none => s.replyBlocked qn c.slot (s.retireStamps qn c code)

/-- The completion steps of the oldest unretired command, whose work has ended with a code. One that an event from outside has ended
takes them for what it wrote; a skipped one wrote nothing (R168, R277). -/
def State.completeCmd (s : State) (qn : Nat) (c : Cmd) (code : Nat) : State :=
  if s.mapWaits qn c || s.halfDue c then s
  else if c.skipped then s.steps35 qn c code
  else if !(c.writesCounts code && decide (2 ≤ c.phase) && !c.lastDone code) && !s.landed qn c then s
  else if !c.lastDone code then s.lastWrites qn c code
  else
    let k := ctrlOf c.bytes
    let s := if k.inv && !c.invIssued then s.issueInv qn c k.clusters (s.writtenRanges qn c) else s
    match (s.queue qn).cmd c.slot with
    | some d => if d.invDone || hOpcode d.bytes = Op.invalidate then s.steps35 qn d (d.result.getD code) else s
    | none => s

/-- The reply of a rejected head slot, once every earlier command has retired, and the park (R173). -/
def State.rejectReply (s : State) (qn : Nat) : State :=
  let q := s.queue qn
  match q.reject with
  | none => s
  | some (pos, _, code) =>
    if q.rejectDone || !q.cmds.isEmpty then s
    else
      let c := Cmd.admitted pos (List.replicate 64 0) noStamp 0
      let ranges := s.replyRanges qn c
      s.uncached (.cmd (.commandComplete qn)) [] ranges fun s =>
        let s := s.writeDeferred qn q.deferred.length
        match (if s.stampsLeft 1 then s.reply qn c code else none) with
        | some s => ((s.modQueue qn fun q => { q with rejectDone := true }).park qn code pos).disturb none ranges
        | none => s.replyBlocked qn pos 1

/-- The home front end of a queue works in this tick: its twin carries traffic, and work is not held (R446, R480). -/
def State.works (s : State) (qn : Nat) : Bool :=
  s.acts (s.ctx (s.queue qn).ctx).home

/-- COMMAND_COMPLETE: the half steps that are due, then the completion steps of the queue's oldest command. The last writes of
step 1 and the steps after them may follow in one event. -/
def commandComplete (qn : Nat) (s : State) : State :=
  if !(s.queue qn).live || !s.works qn then s
  else
    let s := s.halfSteps qn
    let once := fun (s : State) =>
      match (s.queue qn).cmds with
      | [] => s.rejectReply qn
      | c :: _ =>
        match c.result with
        | some code => if c.doneAt ≤ s.time.bnd then s.completeCmd qn c code else s
        | none => s
    let first := (s.queue qn).cmds.head?
    let s := once s
    match first, (s.queue qn).cmds.head? with
    | some a, some b => if a.slot = b.slot && a.phase ≠ b.phase then once s else s
    | _, _ => s

/-! ### Opcodes that only end (R162, R164, R180) -/

/-- NOP, FENCE_SIGNAL and BARRIER. -/
def endAtStart (op : Nat) (r : CmdRef) (s : State) : State := begin r op none s fun qn c s => s.finish qn c.slot E.ok 0

/-- FENCE_WAIT: it finds its fence as it stands, and then waits. -/
def fenceWait (r : CmdRef) (s : State) : State :=
  begin r Op.fenceWait none s fun qn c s =>
    let i := fIndex (ph c.bytes 8)
    s.modCmd qn c.slot fun d => d.evalWait i (s.fence i) s.time.bnd

/-! ### WRITE_INLINE (R179) -/

/-- Pieces of a WRITE_INLINE. -/
def inlinePieces (b : List Byte) : Nat := (pf b 0 56 0 % 64 + pf b 8 8 0 + 63) / 64

/-- One piece of a WRITE_INLINE: its address, its bytes and their target. -/
def State.inlineAt (s : State) (qn : Nat) (b : List Byte) (i : Nat) : Nat × List Byte × Target :=
  let o := inlineDone b i
  let a := pf b 0 56 0 + o
  let d := (b.drop (pOff b + 16 + o)).take (inlineDone b (i + 1) - o)
  (a, d, (s.target (s.queue qn).ctx a d.length .write).1)

/-- Journal bytes that the pieces of a WRITE_INLINE from one on reserve (R108). -/
def State.inlineNeed (s : State) (qn : Nat) (b : List Byte) (i : Nat) : Nat :=
  (((List.range (inlinePieces b)).drop i).map fun k =>
    match s.inlineAt qn b k with
    | (_, d, .host _ _) => d.length + 32
    | _ => 0).sum

/-- A piece waits until the pieces before it are visible where it could be seen before them (R179, R309): those that went to the host,
until a flushing read covers them, and those that went to a peer, until it has acknowledged them. -/
def State.inlineWaits (s : State) (qn : Nat) (c : Cmd) (t : Target) : Bool :=
  let host := [Side.a, Side.b].any fun p => (s.port p).journal.any fun e => e.dataOf qn c.slot (2 ^ 64)
  match t with
  | .host _ _ => decide (c.peerLeft ≠ 0)
  | .peer g _ =>
    host || match s.grantOf (s.queue qn).ctx g with
      | some h => s.fab.writes.any fun w => w.queue = qn && w.slot = c.slot && decide (w.dev ≠ h.dev)
      | none => false
  | _ => host || decide (c.peerLeft ≠ 0)

/-- What one piece of a WRITE_INLINE does: written, or what stops it. -/
def State.inlinePiece (s : State) (qn : Nat) (c : Cmd) (i : Nat) : Except State State :=
  let b := c.bytes
  let q := s.queue qn
  let x := s.ctx q.ctx
  let (a, d, t) := s.inlineAt qn b i
  let wrote := fun (s : State) => s.modCmd qn c.slot fun y => { y with point := i + 1 }
  match s.stopOf q.ctx ⟨true, false, true, true⟩ .write a t with
  | some (.fault cva r l acc) => .error (s.unitFault qn c i cva r l acc)
  | some (.miss page acc) => .error (s.unitMiss qn c i page acc)
  | some (.code k) | some (.codeAt k _) => .error (s.endUnit qn c.slot i k)
  | none =>
    if s.inlineWaits qn c t then .error s
    else
      let s := s.touch q.ctx a .write
      match t with
      | .host h page =>
        if !s.canIssue x.port x.func then .error s
        else
          let s := s.modCmd qn c.slot fun y => { y with lastHost := some (s.port x.port).jseq }
          .ok (wrote (s.hostWrite x.port (if page.isSome then none else pasidOpt x)
            { seq := 0, queue := qn, slot := c.slot, unit := i, func := x.func, ctx := q.ctx, kind := .inline, addr := h, data := d,
              ro := false, poison := false, pasid := none, page := page, fence := none }))
      | _ =>
        let p : Piece := ⟨0, a, d.length, t⟩
        .ok ((wrote (s.writePiece qn c.slot i p (d.map fun y => (y, false)))).disturb (some (qn, c.slot)) (localRanges [p]))

/-- The pieces from the first not yet written, in ascending order. -/
def State.inlineFrom (s : State) (qn pos : Nat) : Nat → State
  | 0 => s
  | n + 1 =>
    match (s.queue qn).cmd pos with
    | none => s
    | some c =>
      if c.result.isSome || c.stall.isSome then s
      else if c.point ≥ inlinePieces c.bytes then s.finish qn pos E.ok 0
      else match s.inlinePiece qn c c.point with | .ok s => s.inlineFrom qn pos n | .error s => s

/-- The device addresses that a WRITE_INLINE writes. -/
def State.inlineRanges (s : State) (qn : Nat) (b : List Byte) : List (Nat × Nat) :=
  (s.pieces (s.queue qn).ctx .write (pf b 0 56 0) (pf b 8 8 0)).filterMap fun (_, n, t) =>
    match t with | .loc a => some (a, n) | _ => none

/-- A started WRITE_INLINE goes on. -/
def State.runInline (s : State) (r : CmdRef) : State :=
  match (s.queue r.queue).cmdAt r.slot with
  | none => s
  | some c =>
    let p := (s.ctx (s.queue r.queue).ctx).port
    let need := s.inlineNeed r.queue c.bytes c.point
    if hOpcode c.bytes ≠ Op.writeInline || !c.begun || c.result.isSome || c.skipped || !s.works r.queue || !s.slices r.queue then s
    else if need > 0 && !s.room p need then s.noRoom p
    else
      s.uncached (.cmd (.writeInline r)) [] (s.inlineRanges r.queue c.bytes) fun s =>
        s.inlineFrom r.queue c.slot (inlinePieces c.bytes + 1)

/-- WRITE_INLINE. -/
def writeInline (r : CmdRef) (s : State) : State := (begin r Op.writeInline none s fun _ _ s => s).runInline r

/-! ### LAUNCH (R182 to R184) -/

/-- A started LAUNCH is handed off when every domain it names is in service, and its intent notice is acknowledged. -/
def State.tryLaunch (s : State) (r : CmdRef) : State :=
  match (s.queue r.queue).cmdAt r.slot with
  | none => s
  | some c =>
    let qn := r.queue
    let b := c.bytes
    if hOpcode b ≠ Op.launch || !c.begun || c.result.isSome || c.skipped || c.phase ≠ 0 || !s.works qn || !s.slices qn then s
    else
      let named := (List.range 48).filter fun n => tst (pf b 8 47 0) n
      if named.any fun n => decide ((s.cd n).state = .outOfService) then s.finish qn c.slot E.outOfService 0
      else if named.any fun n => decide ((s.cd n).state = .resetting) then s
      else if s.noticeNeeded qn c then s.sendNotice qn c
      else
        let x := s.ctx (s.queue qn).ctx
        (s.modCmd qn c.slot fun d => { d with phase := 1, acts := 1 }).emit
          (.launch (s.queue qn).ctx x.gen x.pasid (pf b 0 56 8 * 256) (pf b 8 47 0) (pf b 16 31 0) (pf b 16 47 32) (pf b 16 63 48)
            ((b.drop (pOff b + 32)).take (pf b 24 8 0)) c.stamp)

/-- LAUNCH. -/
def launch (r : CmdRef) (s : State) : State := (begin r Op.launch none s fun _ _ s => s).tryLaunch r

/-- The codes of a scheduler's answer. -/
def launchCode (code : Nat) : Bool :=
  code = E.ok || code = E.badField || code = E.xltFault || code = E.xltPerm || code = E.outOfService

/-- LAUNCH_ANSWER: an answer of a stale context generation, or one to the work of a twin that has failed, is dropped and counted
(R42, R430). -/
def launchAnswer (r : CmdRef) (gen code : Nat) (s : State) : State :=
  let slot := (s.queue r.queue).ctx
  if s.rst.orphans.contains r then (s.modRst fun x => { x with orphans := x.orphans.erase r }).staleDomain
  else if (s.ctx slot).gen ≠ gen then s.staleCtx
  else
    match (s.queue r.queue).cmdAt r.slot with
    | none => s
    | some c =>
      if hOpcode c.bytes ≠ Op.launch || c.phase ≠ 1 || c.acts = 0 || !launchCode code then s
      else
        let s := s.modCmd r.queue c.slot fun d => { (d.finish code 0 s.time.bnd) with acts := 0 }
        if code ≠ E.ok then s
        else
          ((List.range 48).filter fun n => tst (pf c.bytes 8 47 0) n).foldl
            (fun s n => s.modCd n fun d => { d with launched := insertNat slot d.launched }) s

/-- INTENT_NOTICE_ACK (R438): the act may proceed; a LAUNCH is handed off. -/
def intentAck (r : CmdRef) (s : State) : State :=
  match (s.queue r.queue).cmdAt r.slot with
  | none => s
  | some c =>
    if c.notice && !c.noticeAck then (s.modCmd r.queue c.slot fun d => { d with noticeAck := true }).tryLaunch r else s

/-! ### ABORT (R181, R258, R510) -/

/-- ABORT does not touch a command of this kind: a LAUNCH handed off, and a control command, MAP or UNMAP that has started. -/
def Cmd.spared (c : Cmd) : Bool :=
  let op := hOpcode c.bytes
  (op = Op.launch && decide (c.phase ≠ 0)) ||
    ((op = Op.contextCtl || op = Op.planCtl || op = Op.map || op = Op.unmap) && c.begun)

/-- A command as an event from outside its work ends it: its residue is what it left unwritten. One that waits for its predicate word has
run no slice, and its residue is 0 (DESIGN CHOICE, log entry 189). -/
def Cmd.cutOff (c : Cmd) (code now : Nat) : Cmd := c.force code (if c.begun then c.left else 0) now

/-- The parts of pieces, laid out in order, on which bytes [o, o + n) of their data fall. -/
def cutPieces : List Piece → Nat → Nat → List Piece
  | [], _, _ => []
  | p :: t, o, n =>
    if n = 0 then []
    else if o ≥ p.len then cutPieces t (o - p.len) n
    else
      let k := min n (p.len - o)
      let tgt := match p.tgt with
        | .loc a => Target.loc (a + o)
        | .peer g x => .peer g (x + o)
        | .host a page => .host (a + o) page
        | x => x
      ⟨p.off + o, p.cva + o, k, tgt⟩ :: cutPieces t 0 (n - k)

/-- The source bytes of a claimed unit as far as they have come. -/
def State.partBytes (s : State) (bl : Blur) (rp : List Piece) (got : List (Nat × List PByte)) : List (Option PByte) :=
  (sourceOffsets rp).flatMap fun (off, p) =>
    if p.sync then (s.bytesOf bl [(p.cva, p.len, p.tgt)]).map some
    else
      (List.range p.len).map fun i =>
        (got.find? fun (o, d) => decide (o ≤ off + i) && decide (off + i < o + d.length)).bind fun (o, d) => d[off + i - o]?

/-- The bursts that engines have finished of the units in which they stop are written (R515): of those whose data is there, the ones that
a free value names. An accumulation goes on to the end of its unit instead (R279). -/
def State.landBursts (s : State) (qn : Nat) (c : Cmd) : State :=
  if accumulates c.bytes then s
  else
    let slot := (s.queue qn).ctx
    let x := s.ctx slot
    c.claims.foldl
      (fun s cl =>
        match s.work (s.blurOf qn c) slot c.bytes (4096 * cl.unit) (c.unitLen cl.unit) with
        | .error _ => s
        | .ok w =>
          match s.unitPieces slot { w with reads := [] } with
          | .error _ => s
          | .ok (_, wp) =>
            let src := s.partBytes (s.blurOf qn c) (s.translate slot .read w.reads) cl.got
            let r := w.make (src.map fun y => y.getD (0, false))
            let there := fun (o n : Nat) =>
              src.all Option.isSome || ((hOpcode c.bytes = Op.copy || hOpcode c.bytes = Op.copy2d) && ((src.drop o).take n).all Option.isSome)
            if r.code ≠ E.ok then s
            else
              (bursts burstSize (s.landing qn c cl.unit wp r.data)).foldl
                (fun s (o, d) =>
                  let ps := cutPieces wp o d.length
                  let need := s.journalNeed x.port ps
                  if there o d.length && Config.burstLanded s.time.bnd qn c.slot (8 * cl.unit + o / burstSize) &&
                      (s.inTheWay [] (localRanges ps)).isEmpty && (need = 0 || (s.canIssue x.port x.func && s.room x.port need)) then
                    (s.writePieces qn c.slot cl.unit ps d).disturb (some (qn, c.slot)) (localRanges ps)
                  else s) s) s

/-- A command that an ABORT ends: half steps that had begun are still completed (R257). -/
def Cmd.abortAt (c : Cmd) (now : Nat) (vector : Option Bool) : Cmd :=
  { c.cutOff E.aborted now with byAbort := true, vector := vector, halfAt := c.halfAt.filter fun a => decide (a ≤ now) }

/-- The commands of a queue that an ABORT ends. Where engines were moving one of them, the last raises the vector for all, whatever their
IRQ bits (R258). -/
def State.abortQueue (s : State) (tn : Nat) (skip : Cmd → Bool) : State :=
  let hit := fun (c : Cmd) => !skip c && !c.spared && !c.byAbort
  let l := (s.queue tn).cmds.filter hit
  let moving := l.any fun c => c.begun && isEngine (hOpcode c.bytes)
  let last := l.getLast?.map (·.slot)
  let frees := l.any fun c => hOpcode c.bytes = Op.fenceWait && c.begun && c.result.isNone
  (l.foldl (fun s c => if c.result.isNone then s.landBursts tn c else s) s).modQueue tn fun q =>
    { q with
      cmds := q.cmds.map fun c => if hit c then c.abortAt s.time.bnd (if moving then some (decide (last = some c.slot)) else none) else c
      releasedAt := if frees then s.time.bnd else q.releasedAt }

/-- ABORT. -/
def abort (r : CmdRef) (s : State) : State :=
  begin r Op.abort none s fun qn c s =>
    let tn := pf c.bytes 0 13 0
    let t := s.queue tn
    let skip := fun (d : Cmd) => tn = qn && d.slot = c.slot
    let n := t.cmds.countP fun d => !skip d && !d.spared && !d.byAbort
    (s.abortQueue tn skip).finish qn c.slot E.ok n

/-! ### Retried at a boundary -/

/-- A started command that waited for something to change goes on: WRITE_INLINE and LAUNCH, a predicate word that could not be asked
for, the control commands that wait for a boundary, and count words. -/
def State.retryCmd (s : State) (qn : Nat) (c : Cmd) : State :=
  let r : CmdRef := ⟨qn, c.slot % (s.queue qn).slots⟩
  if c.pred = .held && c.result.isNone then s.askWord qn c
  else if hOpcode c.bytes = Op.writeInline then s.runInline r
  else if hOpcode c.bytes = Op.launch then s.tryLaunch r
  else if hOpcode c.bytes = Op.contextCtl then s.retryCtl qn c
  else if hOpcode c.bytes = Op.dispatch then s.modCmd qn c.slot fun d => d.recount s.time.bnd
  else s

/-- Started commands that waited for something to change go on. -/
def State.retryStarted (s : State) : State :=
  s.queues.foldl (fun s (qn, q) => q.cmds.foldl (fun s c => s.retryCmd qn c) s) s

/-- The completion steps of a queue's commands, from the oldest on, as far as they can go (R254). -/
def State.completions (s : State) (qn : Nat) : Nat → State
  | 0 => s
  | n + 1 =>
    let t := commandComplete qn s
    if (t.queue qn).cmds.length = (s.queue qn).cmds.length then t else t.completions qn n

/-- At a boundary the half steps and completion steps that have fallen due run, ahead of every slice of the tick (R254, R256). -/
def State.allCompletions (s : State) : State :=
  s.queues.foldl (fun s (qn, q) => s.completions qn (q.cmds.length + 1)) s

end Sys2Proof.Machine
end

