-- ==== Sys2Proof/Machine/Collective.lean ====
section
/-! DEFINITION. Collectives (R383 to R389): the checks of admission, the tree, the steps of a member, the packets between members,
and how a collective ends. -/

namespace Sys2Proof.Machine

/-! ### Parameters (R383, R385) -/

/-- What a member computes from its command: the subop, OP, element bytes, COUNT, chunk bytes and units, the group's size, this
device's rank and relative rank, the depth. -/
structure CollPar where
  sub : Nat
  group : Nat
  tag : Nat
  root : Nat
  op : Nat
  dtype : Nat
  width : Nat
  count : Nat
  cu : Nat
  src : Nat
  dst : Nat
  n : Nat
  rank : Nat
  q : Nat
  depth : Nat
  deriving DecidableEq, Repr

def State.collPar (s : State) (b : List Byte) : CollPar :=
  let l := s.members (pf b 16 63 48)
  let n := l.length
  let root := pf b 16 13 0
  let r := l.idxOf s.fab.device
  { sub := hSubop b, group := pf b 16 63 48, tag := pf b 16 47 16, root := root, op := pf b 24 51 48, dtype := pf b 24 47 44
    width := if hSubop b ≤ 2 then 4 else 1, count := pf b 24 39 0, cu := pf b 32 47 32, src := pf b 0 56 0, dst := pf b 8 56 0
    n := n, rank := r, q := (r + n - root) % n, depth := treeDepth n }

def CollPar.reduces (p : CollPar) : Bool := p.sub = 1 || p.sub = 2
/-- Bytes of a block, and of what its chunks cover. -/
def CollPar.block (p : CollPar) : Nat := p.count * p.width
def CollPar.total (p : CollPar) : Nat := if p.sub = 2 || p.sub = 3 then p.n * p.block else if p.sub = 6 then 0 else p.block
def CollPar.size (p : CollPar) : Nat := 4096 * p.cu
def CollPar.chunks (p : CollPar) : Nat := if p.size = 0 then 0 else (p.total + p.size - 1) / p.size

/-- The length of a chunk. -/
def CollPar.chunkLen (p : CollPar) (c : Nat) : Nat := min p.size (p.total - c * p.size)

/-- A member's level. -/
def treeLevel : Nat → Nat → Nat
  | 0, _ => 0
  | k + 1, q => if q = 0 then 0 else 1 + treeLevel k (treeParent q)

/-- A relative rank lies in the subtree of another. -/
def treeUnder (top : Nat) : Nat → Nat → Bool
  | 0, q => decide (q = top)
  | k + 1, q => decide (q = top) || (decide (0 < q) && treeUnder top k (treeParent q))

def CollPar.level (p : CollPar) : Nat := treeLevel 5 p.q
def CollPar.children (p : CollPar) : List Nat := ((List.range 23).map fun i => 23 * p.q + 1 + i).filter (· < p.n)
/-- The rank of a relative rank. -/
def CollPar.rankOf (p : CollPar) (q : Nat) : Nat := (q + p.root) % p.n
/-- The ranks of a subtree, ascending. -/
def CollPar.subtree (p : CollPar) (q : Nat) : List Nat :=
  (List.range p.n).filter fun r => treeUnder q 5 ((r + p.n - p.root) % p.n)

/-- Where the blocks of ranks meet a chunk: rank, first byte, end. -/
def CollPar.pieces (p : CollPar) (ranks : List Nat) (c : Nat) : List (Nat × Nat × Nat) :=
  ranks.filterMap fun r =>
    let lo := max (r * p.block) (c * p.size)
    let hi := min ((r + 1) * p.block) (c * p.size + p.chunkLen c)
    if lo < hi then some (r, lo, hi) else none

/-! ### Admission (R383, R384) -/

/-- The part of check 6 that collectives have of their own. -/
def State.collCheck (s : State) (b : List Byte) : Nat :=
  let p := s.collPar b
  let l := s.members p.group
  let valid := if p.group = 0 then s.time.agreed else (s.group p.group).valid
  let bytes := fun (blocks : Nat) => blocks * p.count * p.width
  let grp := !valid || !l.contains s.fab.device
  let sized := decide (bytes (if p.sub = 2 || p.sub = 3 || p.sub = 4 then p.n else 1) > 2 ^ 40 - 1)
  let typed := if p.reduces then (p.op = 1 || p.op = 2 || p.op = 3) && (p.dtype = 5 || p.dtype = 6) else p.op = 0 && p.dtype = 1
  if sized || p.cu = 0 || decide (p.cu > 1600) then E.badLength
  else if !pz b 0 63 57 || !pz b 8 63 57 || !pz b 16 15 14 || !pz b 24 63 52 || !pz b 24 43 40 || !pz b 32 63 48 ||
      !pz b 32 31 0 || !pz b 40 63 57 || pf b 40 3 0 ≠ 0 || grp || decide (p.root ≥ p.n) || (p.sub ≠ 5 && p.root ≠ 0) || !typed ||
      (p.sub = 6 && !(p.src = 0 && p.dst = 0 && p.count = 0)) || ctrlBad Op.collective b (pw b 48) || pathOf b ≠ 0 ||
      (Ctrl.ofNat (pw b 48)).skipZero then E.badField
  else if s.queues.any fun (_, q) => q.cmds.any fun c =>
      hOpcode c.bytes = Op.collective && pf c.bytes 16 63 48 = p.group && pf c.bytes 16 47 16 = p.tag then E.locked
  else E.ok

/-- The checks of 08 and 11 that a command's own parameters must pass. -/
def State.extraCheck (s : State) (b : List Byte) : Nat :=
  let op := hOpcode b
  if op = Op.dispatch then dispatchCheck b
  else if op = Op.combine then combineCheck b
  else if op = Op.collective then s.collCheck b
  else if isTransform op then rowCheck b
  else E.ok

/-! ### Packets between members -/

def State.modColl (s : State) (r : CmdRef) (f : Coll → Coll) : State :=
  s.modFab fun x => { x with colls := x.colls.map fun c => if c.ref = r then f c else c }

def State.collOf (s : State) (r : CmdRef) : Option Coll := s.fab.colls.find? fun c => c.ref = r

def collMsgArgs : CollMsg → List Nat
  | .arrival => [0]
  | .release => [1]
  | .digest l => 2 :: l
  | .abort code => [3, code]

def collDirNum : CollDir → Nat
  | .up => 0 | .down => 1 | .direct => 2

/-- A COLL_CTL to a rank. -/
def State.collTell (s : State) (p : CollPar) (rank : Nat) (m : CollMsg) : State :=
  s.fabSend ((s.members p.group).getD rank 0) (plainPkt K.collCtl (p.group :: p.tag :: p.rank :: collMsgArgs m))

/-- A chunk to a rank; `ref` is set where its acknowledgement is awaited. -/
def State.collSend (s : State) (p : CollPar) (rank chunk : Nat) (d : CollDir) (data : List Byte) (ref : Option (CmdRef × Nat)) : State :=
  s.fabSend ((s.members p.group).getD rank 0)
    { plainPkt K.collData [p.group, p.tag, p.rank, chunk, collDirNum d] with data := data, ref := ref }

/-- A collective ends with an error at this member (R389). -/
def State.collEnd (s : State) (r : CmdRef) (code : Nat) : State :=
  let s := s.modFab fun x => { x with colls := x.colls.filter fun c => c.ref ≠ r }
  match (s.queue r.queue).cmdAt r.slot with
  | some c => if c.result.isSome then s else s.finish r.queue c.slot code 0
  | none => s

/-- A member aborts a collective: every other member is told, and it ends here with its own code. -/
def State.collAbort (s : State) (p : CollPar) (r : CmdRef) (told own : Nat) : State :=
  ((((List.range p.n).filter fun x => x ≠ p.rank).foldl (fun s x => s.collTell p x (.abort told)) s)).collEnd r own

/-! ### Arithmetic of reductions (R388) -/

/-- An FP32 value that is infinite or not a number. -/
def special32 (v : Nat) : Bool := bits v 30 23 = 255

/-- One element's sum, and whether it counts in SATURATED. The sum of a finite nonzero value with an infinite or NaN one is a
free value (R273 gives none). -/
def collSum (dtype a p : Nat) : Nat × Nat :=
  if dtype = 6 then accInt a ⟨decide (p ≥ 2 ^ 31), (if p ≥ 2 ^ 31 then 2 ^ 32 - p else p), 0⟩
  else if special32 p && !special32 a && a % 2 ^ 31 ≠ 0 then
    ((Config.sumSpecial a p).toNat, bit (Config.sumSpecialCounted a p))
  else fpAdd a p

/-- An FP32 value ordered as a number. -/
def ordered32 (v : Nat) : Int := if v < 2 ^ 31 then (v : Int) else -((v - 2 ^ 31 : Nat) : Int)

/-- One element's maximum or minimum, and whether a NaN won. -/
def collPick (dtype : Nat) (max_ : Bool) (a p : Nat) : Nat × Nat :=
  if dtype = 6 then
    let v := fun (x : Nat) => if x < 2 ^ 31 then (x : Int) else (x : Int) - 2 ^ 32
    (if (if max_ then decide (v p > v a) else decide (v p < v a)) then p else a, 0)
  else if num32 a = .nan || num32 p = .nan then (nan32, 1)
  else (if (if max_ then decide (ordered32 p > ordered32 a) else decide (ordered32 p < ordered32 a)) then p else a, 0)

/-- A child's contribution applied to a chunk: the new bytes, SATURATED and NAN_IN. -/
def collApply (p : CollPar) : List Byte → List Byte → List Byte × Nat × Nat
  | a0 :: a1 :: a2 :: a3 :: a, b0 :: b1 :: b2 :: b3 :: b =>
    let x := leNat [a0, a1, a2, a3]
    let y := leNat [b0, b1, b2, b3]
    let (v, s, n) := if p.op = 1 then let r := collSum p.dtype x y; (r.1, r.2, 0)
      else let r := collPick p.dtype (p.op = 2) x y; (r.1, 0, r.2)
    let (l, s', n') := collApply p a b
    (leBytes 4 v ++ l, s + s', n + n')
  | a, _ => (a, 0, 0)

/-! ### A member's work in a tick (R386, R387) -/

/-- A step: engine units, link units by device, the device memory that it reads and writes, and its effect. -/
structure CollWork where
  engine : Nat
  links : List (Nat × Nat)
  reads : List (Nat × Nat)
  writes : List (Nat × Nat)
  run : State → State

/-- What arrived from a child or the parent for a chunk. -/
def Coll.input (c : Coll) (rank chunk : Nat) (d : CollDir) : Option CollIn :=
  c.inbox.find? fun x => x.rank = rank && x.chunk = chunk && x.dir = d

/-- LOCAL bytes of a member's own memory. -/
def State.ownBytes (s : State) (slot cva n : Nat) : List PByte := s.bytesOf .none (s.pieces slot .read cva n)

/-- Bytes written in a member's own memory. -/
def State.ownWrite (s : State) (slot cva : Nat) (l : List PByte) : State :=
  ((s.pieces slot .write cva l.length).foldl
    (fun (acc : State × List PByte) (_, n, t) =>
      (match t with
        | .loc a => (acc.1.setMem (acc.1.mem.storeP a (acc.2.take n))).disturb none [(a, n)]
        | _ => acc.1, acc.2.drop n)) (s, l)).1

/-- The command of a collective changed. -/
def State.modRef (s : State) (r : CmdRef) (f : Cmd → Cmd) : State :=
  s.modQueue r.queue fun q => { q with cmds := q.cmds.map fun c => if c.slot % q.slots = r.slot then f c else c }

/-- A source read that was poisoned is kept with the command (R259). -/
def State.collPoison (s : State) (r : CmdRef) (l : List PByte) : State :=
  if l.any (·.2) then s.modRef r fun c => { c with poisoned := true } else s

def clean (l : List Byte) : List PByte := l.map fun b => (b, false)

/-- The step that climbs, of a reducing subop. -/
def State.climbReduce (s : State) (slot : Nat) (p : CollPar) (c : Coll) : Option CollWork :=
  let k := c.up
  let ins := p.children.filterMap fun q => c.input (p.rankOf q) k .up
  if k ≥ p.chunks || ins.length ≠ p.children.length then none
  else
    let off := k * p.size
    let len := p.chunkLen k
    let up := decide (0 < p.q)
    let kids := p.children.map fun q => (s.members p.group).getD (p.rankOf q) 0
    some
      { engine := p.cu + 2 * p.cu * ins.length + (if up then p.cu else p.cu * kids.length)
        links := if up then [((s.members p.group).getD (p.rankOf (treeParent p.q)) 0, p.cu)]
          else if p.sub = 1 then kids.map fun d => (d, p.cu)
          else (p.children.filter fun q => !(p.pieces (p.subtree q) k).isEmpty).map fun q => ((s.members p.group).getD (p.rankOf q) 0, p.cu)
        reads := [(p.src + off, len)]
        writes := if p.sub = 1 then [(p.dst + off, len)]
          else if up then [] else (p.pieces [p.rank] k).map fun (_, lo, hi) => (p.dst + (lo - p.rank * p.block), hi - lo)
        run := fun s =>
          let own := s.ownBytes slot (p.src + off) len
          let (data, sat, nan) := ins.foldl
            (fun (acc : List Byte × Nat × Nat) x =>
              let (l, s', n') := collApply p acc.1 x.data
              (l, acc.2.1 + s', acc.2.2 + n')) (own.map (·.1), 0, 0)
          let s := s.collPoison c.ref own
          let s := if p.sub = 1 then s.ownWrite slot (p.dst + off) (clean data) else s
          let s := s.modColl c.ref fun x =>
            { x with
              up := k + 1, sat := x.sat + sat, nan := x.nan + nan, inbox := x.inbox.filter fun y => !(y.chunk = k && y.dir = .up)
              down := (if up then x.down else k + 1) }
          if up then s.collSend p (p.rankOf (treeParent p.q)) k .up data none
          else
            let s := if p.sub = 1 then s
              else (p.pieces [p.rank] k).foldl
                (fun s (_, lo, hi) => s.ownWrite slot (p.dst + (lo - p.rank * p.block)) (clean ((data.drop (lo - off)).take (hi - lo)))) s
            (p.children.filter fun q => p.sub = 1 || !(p.pieces (p.subtree q) k).isEmpty).foldl
              (fun s q => s.collSend p (p.rankOf q) k .down data none) s }

/-- The bytes of ALLGATHER's pieces of a chunk that a node holds: its own block's and those that its children sent. -/
def State.gathered (s : State) (slot : Nat) (p : CollPar) (c : Coll) (k : Nat) : List PByte :=
  (p.pieces (p.subtree p.q) k).flatMap fun (r, lo, hi) =>
    if r = p.rank then s.ownBytes slot (p.src + (lo - r * p.block)) (hi - lo)
    else
      match p.children.find? fun q => (p.subtree q).contains r with
      | none => []
      | some q =>
        let before := (((p.pieces (p.subtree q) k).filter fun x => x.1 < r).map fun (_, a, b) => b - a).sum
        match c.input (p.rankOf q) k .up with
        | some x => clean ((x.data.drop before).take (hi - lo))
        | none => []

/-- A child's part of a chunk has come, or it has none. -/
def Coll.has (c : Coll) (p : CollPar) (k q : Nat) : Bool :=
  (p.pieces (p.subtree q) k).isEmpty || (c.input (p.rankOf q) k .up).isSome

/-- The step that climbs, of ALLGATHER: the next chunk in which the subtree has bytes. -/
def State.climbGather (s : State) (slot : Nat) (p : CollPar) (c : Coll) : Option CollWork :=
  if p.q = 0 then none
  else
    match (List.range p.chunks).find? fun k => decide (c.up ≤ k) && !(p.pieces (p.subtree p.q) k).isEmpty with
    | none => none
    | some k =>
      if !(p.children.all fun q => c.has p k q) then none
      else
        let own := p.pieces [p.rank] k
        let at_ := fun (lo : Nat) => p.src + (lo - p.rank * p.block)
        some
          { engine := p.cu + (if own.isEmpty then 0 else p.cu)
            links := [((s.members p.group).getD (p.rankOf (treeParent p.q)) 0, p.cu)]
            reads := own.map fun (_, lo, hi) => (at_ lo, hi - lo)
            writes := own.map fun (_, lo, hi) => (p.dst + lo, hi - lo)
            run := fun s =>
              let d := s.gathered slot p c k
              let s := s.collPoison c.ref d
              let s := own.foldl (fun s (_, lo, hi) => s.ownWrite slot (p.dst + lo) (s.ownBytes slot (at_ lo) (hi - lo))) s
              let s := s.modColl c.ref fun x =>
                { x with up := k + 1, inbox := x.inbox.filter fun y => !(y.chunk = k && y.dir = .up) }
              s.collSend p (p.rankOf (treeParent p.q)) k .up (d.map (·.1)) none }

/-- The root's step in descent: BROADCAST sends its SRC, ALLGATHER what it has gathered. -/
def State.rootSends (s : State) (slot : Nat) (p : CollPar) (c : Coll) : Option CollWork :=
  let k := c.down
  let whole := (List.range p.chunks).all fun k => p.children.all fun q => c.has p k q
  if p.q ≠ 0 || p.reduces || k ≥ p.chunks then none
  else if p.sub = 3 && (!whole || decide (s.time.bnd < c.startAt + p.depth + p.chunks - 1)) then none
  else
    let off := k * p.size
    let len := p.chunkLen k
    let kids := p.children.map fun q => (s.members p.group).getD (p.rankOf q) 0
    some
      { engine := p.cu + p.cu * kids.length
        links := kids.map fun d => (d, p.cu)
        reads := if p.sub = 3 then (p.pieces [p.rank] k).map fun (_, lo, hi) => (p.src + (lo - p.rank * p.block), hi - lo)
          else [(p.src + off, len)]
        writes := [(p.dst + off, len)]
        run := fun s =>
          let d := if p.sub = 3 then s.gathered slot p c k else s.ownBytes slot (p.src + off) len
          let s := (s.collPoison c.ref d).ownWrite slot (p.dst + off) d
          let s := s.modColl c.ref fun x => { x with down := k + 1 }
          p.children.foldl (fun s q => s.collSend p (p.rankOf q) k .down (d.map (·.1)) none) s }

/-- A chunk received from the parent is placed and goes on. -/
def State.descend (s : State) (slot : Nat) (p : CollPar) (c : Coll) : Option CollWork :=
  match c.inbox.find? fun x => x.dir = .down with
  | none => none
  | some x =>
    let k := x.chunk
    let off := k * p.size
    let mine := if p.sub = 2 then (p.pieces [p.rank] k).map fun (_, lo, hi) => (p.dst + (lo - p.rank * p.block), lo - off, hi - lo)
      else [(p.dst + off, 0, p.chunkLen k)]
    let next := p.children.filter fun q => p.sub ≠ 2 || !(p.pieces (p.subtree q) k).isEmpty
    some
      { engine := p.cu + p.cu * next.length
        links := next.map fun q => ((s.members p.group).getD (p.rankOf q) 0, p.cu)
        reads := []
        writes := mine.map fun (a, _, n) => (a, n)
        run := fun s =>
          let s := mine.foldl (fun s (a, o, n) => s.ownWrite slot a (clean ((x.data.drop o).take n))) s
          let s := s.modColl c.ref fun y => { y with down := k + 1, inbox := y.inbox.erase x }
          next.foldl (fun s q => s.collSend p (p.rankOf q) k .down x.data none) s }

/-- Chunks of one block of ALLTOALL. -/
def CollPar.per (p : CollPar) : Nat := if p.size = 0 then 0 else (p.block + p.size - 1) / p.size

/-- The next chunk of ALLTOALL: the own block first, then block q + k for k = 1 to N − 1. -/
def State.direct (s : State) (slot : Nat) (p : CollPar) (c : Coll) : Option CollWork :=
  if c.up ≥ p.n * p.per then none
  else
    let k := c.up / p.per
    let j := c.up % p.per
    let dest := (p.rank + k) % p.n
    let len := min p.size (p.block - j * p.size)
    let a := p.src + dest * p.block + j * p.size
    some
      { engine := p.cu, links := if k = 0 then [] else [((s.members p.group).getD dest 0, p.cu)]
        reads := [(a, len)], writes := if k = 0 then [(p.dst + dest * p.block + j * p.size, len)] else []
        run := fun s =>
          let d := s.ownBytes slot a len
          let s := (s.collPoison c.ref d).modColl c.ref fun x => { x with up := x.up + 1 }
          if k = 0 then s.ownWrite slot (p.dst + dest * p.block + j * p.size) d
          else
            let s := s.modRef c.ref fun x => { x with peerLeft := x.peerLeft + 1 }
            s.collSend p dest j .direct (d.map (·.1)) (some (c.ref, 0)) }

/-- ALLTOALL's blocks that have come are written. -/
def CollPar.directIn (p : CollPar) (slot : Nat) (c : Coll) : Option CollWork :=
  let l := c.inbox.filter fun x => x.dir = .direct
  if l.isEmpty then none
  else
    some
      { engine := 0, links := [], reads := []
        writes := l.map fun x => (p.dst + x.rank * p.block + x.chunk * p.size, x.data.length)
        run := fun s =>
          let s := l.foldl (fun s x => s.ownWrite slot (p.dst + x.rank * p.block + x.chunk * p.size) (clean x.data)) s
          s.modColl c.ref fun y => { y with down := y.down + l.length, inbox := y.inbox.filter fun x => x.dir ≠ .direct } }

/-- Fabric-engine units that the plan gives a queue in this tick and that no window has taken. -/
def State.fabricUnits (s : State) (qn : Nat) : Nat :=
  let l := s.entries.zipIdx.filter fun (e, i) =>
    enKind e = 0 && engineRole (enRes e) = 2 && enQueue e = qn && enApplies e s.cyclePos && s.acts (engineTwin (enRes e)) &&
      !s.plan.windows.contains (enRes e, i)
  (l.map fun (e, _) => s.units e).sum - s.linkUsed 64 qn

/-- Link units of works by link. -/
def State.collLinks (s : State) (l : List (Nat × Nat)) : List (Option Nat × Nat) :=
  let m := l.map fun (d, n) => ((s.route d).link, n)
  (m.map (·.1)).eraseDups.map fun k => (k, ((m.filter fun x => x.1 = k).map (·.2)).sum)

/-- The command that a subop's row of the table names. -/
def collInstr (sub : Nat) (r : CmdRef) : Instr :=
  match sub with
  | 1 => .allreduce r
  | 2 => .reduceScatter r
  | 3 => .allgather r
  | 4 => .alltoall r
  | 5 => .broadcast r
  | _ => .collectiveBarrier r

/-- Works done together when the allotments cover all of them and their pages are translated; the second component says whether
they were. -/
def State.doWorks (s : State) (qn : Nat) (c : Cmd) (p : CollPar) (r : CmdRef) (l : List CollWork) : State × Bool :=
  let slot := (s.queue qn).ctx
  let reads := l.flatMap (·.reads)
  let writes := l.flatMap (·.writes)
  let rp := reads.flatMap fun (a, n) => s.pieces slot .read a n
  let wp := writes.flatMap fun (a, n) => s.pieces slot .write a n
  let engine := (l.map (·.engine)).sum
  let links := s.collLinks (l.flatMap (·.links))
  match s.stopIn slot .local .read rp, s.stopIn slot .local .write wp with
  | some x, _ | none, some x => (s.stopAt qn c 0 0 x, false)
  | none, none =>
    if engine > s.fabricUnits qn || !s.linksFree qn links then (s, false)
    else
      let locs := fun (l : List (Nat × Nat × Target)) => l.filterMap fun (_, n, t) => match t with | .loc a => some (a, n) | _ => none
      let clear := (s.inTheWay (locs rp) (locs wp)).isEmpty
      (s.uncached (.cmd (collInstr p.sub r)) (locs rp) (locs wp) fun s =>
        let s := reads.foldl (fun s (a, _) => s.touch slot a .read) s
        let s := writes.foldl (fun s (a, _) => s.touch slot a .write) s
        let s := (s.useLinks qn links).useLinks qn (if engine = 0 then [] else [(some 64, engine)])
        let s := l.foldl (fun s w => w.run s) s
        s.modColl r fun c => { c with last := some s.time.bnd, waitFrom := s.time.bnd }, clear)

/-- ALLTOALL goes on with one chunk after another. -/
def State.directAll (s : State) (qn : Nat) (cmd : Cmd) (p : CollPar) (r : CmdRef) : Nat → State
  | 0 => s
  | k + 1 =>
    match s.collOf r with
    | none => s
    | some c =>
      match s.direct (s.queue qn).ctx p c with
      | none => s
      | some w =>
        let (s', ok) := s.doWorks qn cmd p r [w]
        if ok then s'.directAll qn cmd p r k else s'

/-- A barrier's step: arrivals climb, the release descends. -/
def State.barrierStep (s : State) (p : CollPar) (c : Coll) : State :=
  let all := p.children.all fun q => c.arrivals.contains (p.rankOf q)
  let down := fun (s : State) => p.children.foldl (fun s q => s.collTell p (p.rankOf q) .release) s
  if p.q = 0 then (if all && !c.released then down (s.modColl c.ref fun x => { x with released := true, down := 1 }) else s)
  else if !c.sent then
    if all then (s.modColl c.ref fun x => { x with sent := true }).collTell p (p.rankOf (treeParent p.q)) .arrival else s
  else if c.released && c.down = 0 then down (s.modColl c.ref fun x => { x with down := 1 })
  else s

/-- The last chunk that concerns a member. -/
def CollPar.lastChunk (p : CollPar) : Nat :=
  if p.sub ≠ 2 || p.q = 0 then p.chunks - 1
  else ((List.range p.chunks).filter fun k => !(p.pieces (p.subtree p.q) k).isEmpty).getLastD 0

/-- All of a member's work is done. -/
def CollPar.done (p : CollPar) (cmd : Cmd) (c : Coll) : Bool :=
  if p.sub = 6 then c.down = 1
  else if p.total = 0 then true
  else if p.sub = 4 then c.up = p.n * p.per && c.down = (p.n - 1) * p.per && cmd.peerLeft = 0
  else
    c.down > p.lastChunk && (p.sub = 5 || p.q = 0 || decide (c.up > if p.sub = 3 then
      ((List.range p.chunks).filter fun k => !(p.pieces (p.subtree p.q) k).isEmpty).getLastD 0 else p.chunks - 1))

/-- A member's end: all members retire at the boundary of R387. -/
def State.collFinish (s : State) (r : CmdRef) (qn : Nat) (cmd : Cmd) (p : CollPar) (c : Coll) : State :=
  let late := if p.sub = 4 || p.total = 0 && p.sub ≠ 6 then 0
    else (p.depth - p.level) + if p.sub = 6 then 0 else p.chunks - 1 - p.lastChunk
  let s := s.modFab fun x => { x with colls := x.colls.filter fun y => y.ref ≠ r }
  s.modCmd qn cmd.slot fun d =>
    { d.finish (if d.poisoned then E.poisoned else E.ok) 0 (s.time.bnd + late) with
      tally := if c.sat + c.nan = 0 then d.tally else Tbl.set (0, 0, 0, 0) d.tally 0 (c.sat, c.nan, 0, 0) }

/-- One step of a collective in a tick. -/
def State.collStep (s : State) (r : CmdRef) : State :=
  match s.collOf r, (s.queue r.queue).cmdAt r.slot with
  | some c, some cmd =>
    let qn := r.queue
    let p := s.collPar cmd.bytes
    let slot := (s.queue qn).ctx
    if c.last = some s.time.bnd || cmd.stall.isSome || s.clk.cutS || !s.acts (s.ctx slot).home || !s.slices qn then s
    else
      let early := decide (s.time.bnd < c.startAt + (p.depth - p.level)) && (p.reduces || p.sub = 3 || p.sub = 6)
      let s :=
        if early then s
        else if p.sub = 6 then s.barrierStep p c
        else if p.total = 0 then s
        else if p.sub = 4 then
          let s := match p.directIn slot c with | some w => (s.doWorks qn cmd p r [w]).1 | none => s
          s.directAll qn cmd p r (p.n * p.per)
        else
          let up := if p.reduces then s.climbReduce slot p c else if p.sub = 3 then s.climbGather slot p c else none
          let down := if p.q = 0 then s.rootSends slot p c else s.descend slot p c
          match up.toList ++ down.toList with
          | [] => s
          | l => (s.doWorks qn cmd p r l).1
      match s.collOf r, (s.queue qn).cmdAt r.slot with
      | some c, some cmd => if cmd.result.isNone && p.done cmd c then s.collFinish r qn cmd p c else s
      | _, _ => s
  | _, _ => s

/-! ### Start, arrivals and ends -/

/-- What the root compares: SUBOP, OP, DTYPE, COUNT, ROOT and CHUNK_UNITS. -/
def CollPar.digest (p : CollPar) : List Nat := [p.sub, p.op, p.dtype, p.count, p.root, p.cu]

/-- A COLL_CTL acts on a collective that is under way here (R384, R387, R389). -/
def State.collTake (s : State) (r : CmdRef) (rank : Nat) (m : CollMsg) : State :=
  match (s.queue r.queue).cmdAt r.slot with
  | none => s
  | some cmd =>
    let p := s.collPar cmd.bytes
    let s := s.modColl r fun c => { c with waitFrom := s.time.bnd }
    match m with
    | .arrival => s.modColl r fun c => { c with arrivals := c.arrivals ++ [rank] }
    | .release => s.modColl r fun c => { c with released := true }
    | .digest l => if l = p.digest then s else s.collAbort p r E.badField E.badField
    | .abort code => s.collEnd r code

/-- A collective's record is made when its command begins, with what came before it. -/
def State.collBegin (s : State) (r : CmdRef) (b : List Byte) : State :=
  let p := s.collPar b
  let mine := fun (g t : Nat) => g = p.group && t = p.tag
  let c : Coll :=
    { ref := r, group := p.group, tag := p.tag, up := 0, down := 0,
      inbox := (s.fab.early.filter fun (g, t, _) => mine g t).map fun x => x.2.2, arrivals := [], released := false, sent := false,
      startAt := s.time.bnd, last := none, waitFrom := s.time.bnd, sat := 0, nan := 0 }
  let ctl := s.fab.earlyCtl.filter fun (g, t, _, _) => mine g t
  let s := s.modFab fun x =>
    { x with
      colls := x.colls ++ [c], early := x.early.filter fun (g, t, _) => !mine g t
      earlyCtl := x.earlyCtl.filter fun (g, t, _, _) => !mine g t }
  let s := if p.q = 0 then s else s.collTell p (p.rankOf 0) (.digest p.digest)
  ctl.foldl (fun s (_, _, rank, m) => s.collTake r rank m) s

/-- A COLLECTIVE of a subop: it begins, or makes the step of a tick that waited. -/
def collective (sub : Nat) (r : CmdRef) (s : State) : State :=
  if (s.collOf r).isSome then s.collStep r
  else begin r Op.collective (some sub) s fun _ c s => (s.collBegin r c.bytes).collStep r

/-- COLL_DATA arrives (R34, R386): a chunk from a member. -/
def collData (i : Instr) (group tag rank chunk : Nat) (d : CollDir) (data : List Byte) (s : State) : State :=
  let x : CollIn := { rank := rank, chunk := chunk, dir := d, data := data }
  s.stamped i fun _ s =>
    match s.fab.colls.find? fun c => c.group = group && c.tag = tag with
    | some c => s.modColl c.ref fun y => { y with inbox := y.inbox ++ [x], waitFrom := s.time.bnd }
    | none => s.modFab fun f => { f with early := f.early ++ [(group, tag, x)] }

/-- COLL_CTL arrives (R34). -/
def collCtl (i : Instr) (group tag rank : Nat) (m : CollMsg) (s : State) : State :=
  s.stamped i fun _ s =>
    match s.fab.colls.find? fun c => c.group = group && c.tag = tag with
    | some c => s.collTake c.ref rank m
    | none => s.modFab fun f => { f with earlyCtl := f.earlyCtl ++ [(group, tag, rank, m)] }

/-- COLL_TIMEOUT of HX_FAB_CTL (R394). -/
def State.collTicks (s : State) : Nat := bits s.fab.ctl.toNat 55 32

/-- COLL_TIMEOUT: a member has waited COLL_TIMEOUT ticks for an input (R389). -/
def collTimeout (r : CmdRef) (s : State) : State :=
  match s.collOf r, (s.queue r.queue).cmdAt r.slot with
  | some c, some cmd =>
    if s.time.bnd ≥ c.waitFrom + s.collTicks then s.collAbort (s.collPar cmd.bytes) r E.linkLost E.linkLost else s
  | _, _ => s

/-- A collective whose command ended outside it, or a member of which cannot be reached, is aborted (R389). -/
def State.collCheckEnd (s : State) (c : Coll) : State :=
  let r := c.ref
  match (s.queue r.queue).cmdAt r.slot with
  | none => s.collEnd r E.aborted
  | some cmd =>
    let p := s.collPar cmd.bytes
    if cmd.result.isSome then s.collAbort p r (if cmd.result = some E.linkLost then E.linkLost else E.aborted) E.aborted
    else if (s.members p.group).any fun d => d ≠ s.fab.device && (s.route d).unreach then s.collAbort p r E.linkLost E.linkLost
    else s

/-- The collectives at a boundary: those that ended, then one step of each. -/
def State.collectives (s : State) : State :=
  let s := s.fab.colls.foldl (fun s c => s.collCheckEnd c) s
  (s.fab.colls.map (·.ref)).foldl (fun s r => s.collStep r) s

end Sys2Proof.Machine
end

