-- ==== Sys2Proof/Machine/Host.lean ====
section
/-! DEFINITION. The host ports (03): training, outages and resets of a port and of a function, placement regions and inbound
requests, completions, the journal with its flushing reads and replay, and a port's part of a boundary. -/

namespace Sys2Proof.Machine

/-! ### Capacity (R53, R67, R505) -/

/-- A generation's rate in units of 0.5 GT/s. -/
def genRate (g : Nat) : Nat :=
  match g with
  | 1 => 5 | 2 => 10 | 3 => 16 | 4 => 32 | 5 => 64 | 6 => 128 | 7 => 256 | _ => 0

/-- port_cap_now of a port at a period: the full x16 figure before any training. -/
def Port.capAt (p : Port) (period : Nat) : Nat :=
  let f := portFigure period p.cxl
  if !p.trained then f else f * (genRate p.speed * 2 ^ p.width) / (16 * if p.cxl then 128 else 256)

/-! ### Claims that wait on a port -/

/-- Units whose source data was asked for through a port are claimed anew, and predicate words are asked for anew: what they asked for
will not come (R42, R100). -/
def State.releaseClaims (s : State) (p : Side) : State :=
  (s.port p).reqs.foldl
    (fun s r =>
      match r.kind with
      | .source q pos u _ _ _ => s.modCmd q pos fun c => { c with claims := c.claims.filter fun x => x.unit ≠ u }
      | .word q pos => s.modCmd q pos fun c => if c.pred = .waiting then { c with pred := .held } else c
      | .signal _ _ _ => s) s

/-! ### Discarded writes (R100) -/

/-- A write that is discarded breaks its command's fence (R100): at once for one that has retired. -/
def State.breakDiscarded (s : State) (e : JEntry) : State :=
  match e.kind with
  | .fence | .atomicSignal => s.breakFence e.unit E.hostLost
  | .reply =>
    match e.fence with
    | some h => if (s.fenceOf h).isSome then s.breakFence (fIndex h) E.hostLost else s
    | none => s
  | .slice | .inline =>
    match (s.queue e.queue).cmd e.slot with
    | some c => if c.counted then s.breakFence (fIndex (hFence c.bytes)) E.hostLost else s
    | none => s
  | .fring => s

/-- The unretired commands of discarded writes end with HX_E_HOST_LOST, their residue counted from the lowest unit discarded. -/
def State.endDiscarded (s : State) (l : List JEntry) : State :=
  let data := l.filter fun e => e.kind = .slice || e.kind = .inline
  let who := (data.map fun e => (e.queue, e.slot)).eraseDups
  who.foldl
    (fun s (qn, pos) =>
      s.modCmd qn pos fun c =>
        if c.forced then c
        else
          let low := (data.filter fun e => e.queue = qn && e.slot = pos).foldl (fun m e => min m e.unit) c.point
          let d := { c with point := low }
          d.force E.hostLost d.left s.time.bnd) s

/-- Journal entries of a port that a test names are discarded. -/
def State.discard (s : State) (p : Side) (t : JEntry → Bool) : State :=
  let gone := (s.port p).journal.filter t
  let s := s.dropEntries p t
  (gone.foldl (fun s e => s.breakDiscarded e) s).endDiscarded gone

/-! ### Contexts of a port that is lost (R100, R103) -/

/-- A context's requests move to another port (R224, R439). -/
def State.movePort (s : State) (slot : Nat) (p : Side) : State :=
  let s := s.modCtx slot fun c => { c with port := p }
  (s.dropAtc fun e => e.ctx = slot).resendRequests fun r => r.ctx = slot

/-- A context takes the other port when its function is usable there, and is PARKED otherwise. -/
def State.rebind (s : State) (slot : Nat) : State :=
  let c := s.ctx slot
  if s.usable c.port.other c.func then s.movePort slot c.port.other
  else
    (s.modCtx slot fun c => if c.state = .running then { c with state := .parked, portPark := true } else c).resendRequests
      fun r => r.ctx = slot

/-- Contexts bound to a port that its loss moves: not its privileged context, none that teardown has begun. -/
def State.boundTo (s : State) (p : Side) : List Nat :=
  (s.ctxs.filter fun (i, c) => decide (2 ≤ i) && c.port = p && c.teardown.isNone && decide (c.state ≠ .free) && decide (c.state ≠ .dead)).map (·.1)

/-- The boundary after a hold window's end or a reset of a port. The entries of a function on which an event of a higher precedence came
in the same tick stay (R103), and leave again once the function may issue. -/
def State.losePort (s : State) (p : Side) : State :=
  let lost := fun (e : JEntry) => decide ((s.func p e.func).event < 4)
  let s := (s.releaseClaims p).discard p lost
  let s := s.modPort p fun x =>
    { x with
      discards := satAdd 255 x.discards 1, lost := none, inService := false, replayDue := false
      journal := x.journal.map fun e => { e with owed := true } }
  let s := s.dropAtc fun e => e.port = p
  let s := s.modXlt fun x => { x with ats := x.ats.filter fun r => r.port ≠ p, inv := x.inv.filter fun i => i.port ≠ p }
  let hit := (s.boundTo p).filter fun i => (s.func p (s.ctx i).func).event < 4
  hit.foldl (fun s i => s.rebind i) s

/-- VF Enable fell on a port, by itself or with an FLR of its PF: its VF contexts are handled as under a lost port. -/
def State.loseVfs (s : State) (p : Side) : State :=
  let hit := (s.boundTo p).filter fun i => let f := (s.ctx i).func; decide (f ≠ 0) && (s.func p f).event = 6
  let s := s.discard p fun e => hit.contains e.ctx
  let s := hit.foldl (fun s i => (s.dropAtc fun e => e.ctx = i && e.port = p).rebind i) s
  s

/-- What R100 leaves for the boundary, on both ports; then nothing is pending on any function. -/
def State.portLosses (s : State) : State :=
  let one := fun (s : State) (p : Side) =>
    let s := if (s.port p).lost.isSome then s.losePort p else s
    s.loseVfs p
  let s := one (one s .a) .b
  (s.mapFuncs fun _ f => { f with event := 0 }).keepFuncs fun x => x.2 ≠ Func.reset

/-- Contexts that were parked for want of a port run again when the port is back; their predictors are off for 64 ticks (R225). -/
def State.portReturns (s : State) : State :=
  s.mapCtxs fun _ c =>
    if c.portPark && c.state = .parked && (s.port c.port).up && (c.func = 0 || (s.port c.port).vfEnable) then
      { c with state := .running, portPark := false, predictFrom := s.time.bnd + 64 }
    else c

/-! ### Link events -/

/-- LINK_DOWN. -/
def linkDown (p : Side) (us : Nat) (s : State) : State :=
  let x := s.port p
  if !x.up then s
  else
    s.setPort p
      { x with
        up := false, retrains := satAdd 255 x.retrains 1, holding := true, holdStart := s.at us, holdMs := x.holdCfg }

/-- The embedded INTx state was lost with the link: Assert_INTA is sent again when its condition holds (R99). -/
def State.resendInta (s : State) (p : Side) : State :=
  let s := s.modPort p fun x => { x with inta := s.intaWanted p }
  if (s.port p).inta then s.emit (.inta p true) else s

/-- LINK_TRAINING_COMPLETE: the port returns to L0. CXL takes an offer, 256-byte flits and a rate of at least 32 GT/s, and runs at 64 GT/s
or at 32 (R87). An advance of the port's generation that R44 withholds holds the return back. -/
def linkTraining (p : Side) (speed width : Nat) (flit cxl : Bool) (s : State) : State :=
  let x := s.port p
  if x.up || !s.carries p || (x.genDue && s.domainHeld (50 + p.num)) then s
  else
    let kept := x.holding
    let mem := cxl && flit && x.offer && decide (5 ≤ speed)
    let s := s.setPort p
      { x with
        up := true, trained := true, training := false, speed := if mem then min speed 6 else speed, width := width, flit := flit
        cxl := mem, holding := false, replayDue := kept, replayAt := 0, genDue := false }
    let s := if x.genDue then s.advanceGen (50 + p.num) else s
    let s := if kept then s.resendRequests fun r => r.port = p else s
    (if (s.port p).cxl then s.comeBack [ptrHost p] else s).resendInta p

/-- HOLD_WINDOW_EXPIRY: the window ends in the tick that runs, with the link down. -/
def holdExpiry (p : Side) (s : State) : State :=
  let x := s.port p
  if x.holding && decide (s.time.us + periodUs s.time.period > x.holdStart + 1000 * x.holdMs) then
    s.stampedIf (x.cxl && !s.coh.dead.contains (ptrHost p)) (.holdWindowExpiry p) fun st s =>
      let s := s.setPort p { x with holding := false, lost := some 1, genDue := true }
      if x.cxl then s.declareDead st (ptrHost p) else s
  else s

/-- The bits of a function's configuration space that a reset of the function returns to their reset values; its function block
keeps its values through FLR (R227, R449). -/
def Func.clearConfig (f : Func) : Func :=
  let r := Func.reset
  { f with
    bme := r.bme, msix := r.msix, fmask := r.fmask, intDis := r.intDis, ro := r.ro, ats := r.ats, pri := r.pri
    prgAlloc := r.prgAlloc, d3 := r.d3, table := r.table, ready := r.ready, mps := r.mps, mrrs := r.mrrs, bars := r.bars
    ringHead := r.ringHead, ringTail := r.ringTail, ringPhase := r.ringPhase, lost := r.lost, rf := r.rf, full := r.full }

/-- VFs of a port whose TDI is frozen. -/
def Port.frozen (x : Port) : List Nat := (x.tdis.filter fun (_, t) => t.state.frozen).map (·.1)

/-- VFs whose TDI is frozen on a port enter ERROR (R460: their configuration is changed from outside). -/
def State.tdisError (s : State) (st : Nat) (p : Side) : State := (s.port p).frozen.foldl (fun s vf => s.tdiError p vf st) s

/-- A port and its functions after a hot or conventional reset. The functions' registers return to their reset values with their
configuration space, HX_IRQ_FUNC_VEC among them, for which R414 names no reset (DESIGN CHOICE, log entry 180); what R100 has yet to
apply to them stands. -/
def State.resetPort (s : State) (st : Nat) (p : Side) : State :=
  let x := s.port p
  let s := s.tdisError st p
  let r := Port.reset
  let s := s.modPort p fun x =>
    { x with
      capHidden := true, up := false, retrains := 0, holding := false, holdMs := r.holdMs, offer := r.offer, holdCfg := r.holdCfg, lost := some 2
      genDue := true, inService := false, replayDue := false, flushAddr := 0, replays := 0, discards := 0, refused := 0
      flushErr := false, full := false, acked := false, jacked := 0, lastAck := noStamp, mse := false, vfEnable := false
      bar4 := 0, hdm0 := 0, hdm1 := 0, disable := false, inta := false }
  let s := s.mapFuncs fun k f => if k / 128 = p.num then { Func.reset with event := f.event } else f
  let s := (s.keepFuncs fun x => x.2 ≠ Func.reset).dropSels p
  let s := s.modXlt fun t => { t with deadPrg := t.deadPrg.set p [], inv := t.inv.filter fun i => i.port ≠ p }
  if x.cxl then s.declareDead st (ptrHost p) else s

/-- PORT_RESET: a hot or conventional reset, stamped where it moves a TDI or an agent to a fault. -/
def portReset (p : Side) (s : State) : State :=
  let x := s.port p
  s.stampedIf (!x.frozen.isEmpty || (x.cxl && !s.coh.dead.contains (ptrHost p))) (.portReset p) fun st s => s.resetPort st p

/-! ### Function resets -/

/-- Vectors that keep their state through an FLR of the other port's PF (R409). -/
def State.vectorKept (s : State) (p : Side) (v : Nat) : Bool :=
  let f := s.func p.other 0
  f.privVec = v || f.errVec = v || f.fringVec = v ||
    s.queues.any fun (_, q) => q.live && !q.priv && q.vector = v && (s.ctx q.ctx).func = 0 && (s.ctx q.ctx).port = p.other

/-- The vectors of a function become QUIET. -/
def State.quietVectors (s : State) (p : Side) (f : Nat) : State :=
  ((s.vecKeys.filter fun (g, v) => g = f && !(f = 0 && s.vectorKept p v)).foldl (fun s (g, v) => s.modVec g v Vec.quieten) s).inta

/-- VF Enable falls: the VFs vanish, and their contexts bound to the port lose it at the boundary. -/
def State.dropVfs (s : State) (st : Nat) (p : Side) : State :=
  let s := (s.tdisError st p).modPort p fun x => { x with vfEnable := false }
  let fs := ((s.boundTo p).map fun i => (s.ctx i).func).eraseDups.filter (· ≠ 0)
  let s := s.mapFuncs fun k f => if k / 128 = p.num && k % 128 ≠ 0 then f.clearConfig else f
  fs.foldl (fun s f => s.modFunc p f fun x => { x with event := max x.event 6 }) s

/-- FLR of a function of a port (HX_XLT_FRING and HX_XLT_CTL alone keep their values, R227), and the return from D3hot (R100, R122, R458). -/
def State.functionReset (s : State) (st : Nat) (p : Side) (f : Nat) : State :=
  let hit := (s.ctxsOf f).filter fun i => decide (f ≠ 0) || (s.ctx i).port = p
  let s := if f = 0 then s.dropVfs st p else s
  let s := (s.dropFnSels p f).modFunc p f fun x => { x.clearConfig with flr := true, silenced := true, event := 7 }
  let s := if f = 0 then s else s.modFunc p.other f fun x => { x with silenced := true, ready := false, event := 7 }
  let s := if f = 0 then s.modPort p fun x => { x with mse := false } else s
  let s := if f = 0 then s
    else
      [Side.a, Side.b].foldl
        (fun s q => if (s.tdi q f).state = .unlocked then s else ((s.scrubOwned f).setTdi q f Tdi.none).tdiLog q f .unlocked st) s
  let s := [Side.a, Side.b].foldl
    (fun s q => s.dropEntries q fun e => e.func = f && (decide (f ≠ 0) || q = p)) s
  let s := s.dropAtc fun e => e.func = f && (decide (f ≠ 0) || e.port = p)
  let s := hit.foldl (fun s i => s.beginTeardown i E.contextDead st) s
  let s := if f = 0 then s.modQueue p.num fun q => { q with next := some .stopped, parking := none } else s
  s.quietVectors p f

/-- FLR. -/
def flr (p : Side) (f : Fin 128) (s : State) : State := s.stamped (.flr p f) fun st s => s.functionReset st p f.val

/-- Contexts of a function whose teardown still runs, and commands of a PF's privileged queue that its stop has yet to retire
(R122). -/
def State.tearing (s : State) (p : Side) (f : Nat) : Bool :=
  (s.ctxs.any fun (_, c) => c.func = f && (decide (f ≠ 0) || c.port = p) && c.teardown.isSome && decide (c.state ≠ .dead)) ||
    (decide (f = 0) && (decide ((s.queue p.num).next = some .stopped) ||
      (decide ((s.queue p.num).state = .stopped) && !(s.queue p.num).cmds.isEmpty)))

/-- FLR_COMPLETE: the function's teardown has ended, and it takes doorbells and requests again (R101). -/
def flrComplete (p : Side) (f : Nat) (s : State) : State :=
  if !(s.func p f).flr || s.tearing p f then s
  else
    let s := s.modFunc p f fun x => { x with flr := false, silenced := false }
    if f = 0 || (s.func p.other f).flr then s else s.modFunc p.other f fun x => { x with silenced := false }

/-- A configuration request reaches a function over its link; until the function's FLR has completed it is answered with Request Retry
Status (R101). -/
def State.configured (s : State) (p : Side) (f : Nat) (k : State → State) : State :=
  if !(s.port p).up then s else if (s.func p f).flr then s.emit (.cfgRetry p f) else k s

/-- VF_ENABLE_CLEAR. -/
def vfEnableClear (p : Side) (s : State) : State :=
  s.configured p 0 fun s =>
    if (s.port p).vfEnable then s.stampedIf (!(s.port p).frozen.isEmpty) (.vfEnableClear p) fun st s => s.dropVfs st p else s

/-- D3HOT_ENTRY: a VF is silenced on both ports (R100). -/
def d3hotEntry (p : Side) (f : Nat) (s : State) : State :=
  s.configured p f fun s =>
    let s := s.modFunc p f fun x => { x with d3 := true, ready := false, event := max x.event 5 }
    if f = 0 then s else s.modFunc p.other f fun x => { x with silenced := true, ready := false, event := max x.event 5 }

/-- D0_RETURN. -/
def d0Return (p : Side) (f : Fin 128) (s : State) : State :=
  s.configured p f.val fun s => if (s.func p f.val).d3 then s.stamped (.d0Return p f) fun st s => s.functionReset st p f.val else s

/-- BUS_MASTER_ENABLE_CLEAR. -/
def busMasterClear (p : Side) (f : Nat) (s : State) : State :=
  s.configured p f fun s => s.modFunc p f fun x => { x with bme := false, event := max x.event 4 }

/-- Sizes of the PF's BARs, and of a VF's in its SR-IOV capability; 0 where there is none (R91). -/
def Port.barSize (x : Port) (n : Nat) : Nat :=
  match n with
  | 0 => 2 ^ 25
  | 2 => 2 ^ 24
  | 4 => 2 ^ (36 + x.bar4)
  | 8 => 2 ^ 16
  | 10 => 2 ^ 18
  | _ => 0

/-- A BAR as it reads: its base, 64-bit, and prefetchable but for the BAR0s (R91; the bits are PCI Express's, PRESUMED, log entry 2). -/
def State.barWord (s : State) (p : Side) (n : Nat) : Nat :=
  let z := (s.port p).barSize n
  if z = 0 then 0 else Tbl.get 0 (s.func p 0).bars n / z * z + 4 + (if n = 0 || n = 8 then 0 else 8)

/-- What AER holds: Poisoned TLP Received and Completion Timeout among the uncorrectable errors, and in the upper half the advisory
non-fatal error (R97; the bits are PCI Express's, PRESUMED, log entry 2). -/
def Func.aerWord (f : Func) : Nat := fld (bit f.poisonedTlp) 12 + fld (bit f.cplTimeout) 14 + fld (bit f.advisory) 45

/-- What a read of configuration space returns (R84, R88, R91, R98). -/
def State.configRead (s : State) (p : Side) (f : Nat) : CfgField → Nat
  | .vendorId => 0x1F2C
  | .deviceId => if f = 0 then 0x4858 else 0x4859
  | .revisionId => 0x20
  | .classCode => 0x120000
  | .interruptPin => bit (f = 0)
  | .interruptStatus => bit (decide (f = 0) && s.intaWanted p)
  | .serialNumber => if f = 0 then Config.serial.toNat else 0
  | .vfDeviceId => if f = 0 then 0x4859 else 0
  | .initialVfs | .totalVfs => if f = 0 then 127 else 0
  | .firstVfOffset | .vfStride => bit (f = 0)
  | .bar n => if f = 0 then s.barWord p n.val else 0
  | .maxPayloadSupported => 512
  | .bar4Size => if f = 0 then 2 ^ (6 + (s.port p).bar4) else 0
  | .aer => (s.func p f).aerWord

/-- CONFIGURATION_REQUEST (R84, R88, R91, R93, R98, R101). A size that the function does not offer, and a PF's field at a VF, is
discarded (DESIGN CHOICE, log entry 181). -/
def configRequest (p : Side) (f : Nat) (c : Cfg) (s : State) : State :=
  s.configured p f fun s =>
    let fn := fun (g : Func → Func) => (s.modFunc p f g).inta
    match c with
    | .msixEnable v => fn fun x => { x with msix := v }
    | .functionMask v => fn fun x => { x with fmask := v }
    | .interruptDisable v => fn fun x => { x with intDis := v }
    | .busMasterSet => fn fun x => { x with bme := true }
    | .relaxedOrdering v => fn fun x => { x with ro := v }
    | .atsEnable v => fn fun x => { x with ats := v }
    | .priEnable v => if f = 0 then fn fun x => { x with pri := v } else s
    | .prgAllocation n => if f = 0 then fn fun x => { x with prgAlloc := min n 512 } else s
    | .priReset => s
    | .maxPayload n => if f = 0 && [128, 256, 512].contains n then fn fun x => { x with mps := n } else s
    | .maxReadRequest n => if f = 0 && [128, 256, 512, 1024, 2048, 4096].contains n then fn fun x => { x with mrrs := n } else s
    | .bar n a => if f = 0 && (s.port p).barSize n.val ≠ 0 then fn fun x => { x with bars := Tbl.set 0 x.bars n.val (a % 2 ^ 64) } else s
    | .aerClear => fn fun x => { x with poisonedTlp := false, advisory := false, cplTimeout := false }
    | .read x => s.emit (.cfgData p f (s.configRead p f x))
    | .vfEnableSet => if f = 0 then s.modPort p fun x => { x with vfEnable := true } else s
    | .memorySpace v => if f = 0 then s.modPort p fun x => { x with mse := v } else s
    | .bar4Size n => if f = 0 && !(s.port p).mse && decide (6 ≤ n) && decide (n ≤ 11) then s.modPort p fun x => { x with bar4 := n - 6 } else s
    | .hdmDecoder i n => if f = 0 then s.modPort p fun x => if i.val = 0 then { x with hdm0 := n } else { x with hdm1 := n } else s

/-! ### Placement regions (R104 to R107, R117) -/

def Region.base (r : Region) : Nat := bits r.d0.toNat 19 0 * 2 ^ 21
def Region.size (r : Region) : Nat := (bits r.d0.toNat 39 20 + 1) * 2 ^ 21
def Region.offset (r : Region) : Nat := bits r.d2.toNat 63 21 * 2 ^ 21
/-- The region accepts requests. -/
def Region.accepts (r : Region) : Bool := r.enabled && tst r.d3.toNat 36

/-- BAR4's present size in bytes. -/
def Port.bar4Bytes (p : Port) : Nat := 2 ^ (36 + p.bar4)

/-- A region backs an HDM decoder: 254 and 255 of a port trained as CXL with HDM set. -/
def Port.isHdm (p : Port) (i : Nat) (r : Region) : Bool := p.cxl && decide (254 ≤ i) && tst r.d3.toNat 37

/-- What a region will be once the boundary has come. -/
def Region.eff (r : Region) : Region :=
  match r.next with
  | some (some (a, b, c, d)) => { enabled := true, d0 := a, d1 := b, d2 := c, d3 := d, next := .none }
  | some .none => Region.none
  | .none => r

/-- Check 4 of R105: the window lies in BAR4 and overlaps no other region that is enabled. -/
def Port.windowBad (p : Port) (i : Nat) (r : Region) : Bool :=
  decide (r.base + r.size > p.bar4Bytes) ||
    p.regions.any fun (j, x) =>
      let y := x.eff
      decide (j ≠ i) && y.accepts && !p.isHdm j y && overlap r.base r.size y.base y.size

/-- Check 5 of R105: the rules of R107. -/
def Port.hdmBad (p : Port) (i : Nat) (r : Region) : Bool :=
  tst r.d3.toNat 37 &&
    (!p.isHdm i r || bits r.d3.toNat 31 0 ≠ 0 ||
      (let dec := if i = 254 then p.hdm0 else p.hdm1
       dec = 0 || r.size ≠ dec * 2 ^ 28))

/-- A commit of the staged descriptor to a region (R105): the code of the first check that fails, or the state. -/
def State.placeCommit (s : State) (p : Side) (i : Nat) (d0 d1 d2 d3 : Word) : Except Nat State :=
  let x := s.port p
  let r : Region := { enabled := true, d0 := d0, d1 := d1, d2 := d2, d3 := d3, next := none }
  let o := s.obj (regObj d1)
  if o.state = .free || o.owner ≠ regCtx d1 || o.attr % 2 = 1 then .error E.badHandle
  else if o.state = .retiring then .error E.objectRetiring
  else if r.offset + r.size > 65536 * o.size64k then .error E.badLength
  else if !x.isHdm i r && x.windowBad i r then .error E.badField
  else if x.hdmBad i r then .error E.badField
  else
    let old := Tbl.get Region.none x.regions i
    .ok (s.modPort p fun x => { x with regions := Tbl.set Region.none x.regions i { old with next := some (some (d0, d1, d2, d3)) } })

/-- A region is cleared from the next boundary (R106). -/
def State.placeClear (s : State) (p : Side) (i : Nat) : State :=
  let old := Tbl.get Region.none (s.port p).regions i
  s.modPort p fun x => { x with regions := Tbl.set Region.none x.regions i { old with next := some none } }

/-- Regions committed or cleared take effect. -/
def State.regionEffects (s : State) : State :=
  [Side.a, Side.b].foldl
    (fun s p =>
      s.modPort p fun x => { x with regions := (x.regions.map fun (i, r) => (i, r.eff)).filter fun (_, r) => r ≠ Region.none }) s

/-- The regions of a context are cleared (R106, R144). -/
def State.clearRegions (s : State) (slot : Nat) : State :=
  [Side.a, Side.b].foldl
    (fun s p =>
      s.modPort p fun x =>
        { x with
          regions := x.regions.map fun (i, r) =>
            if (r.enabled && regCtx r.d1 = slot) || regCtx r.eff.d1 = slot && r.eff.enabled then (i, { r with next := some none }) else (i, r) }) s

/-- The kind of access of a request and its length. -/
def bar4Len : Bar4Kind → Nat
  | .read n => n
  | .write d _ => d.length
  | .fetchAdd w _ | .swap w _ => w
  | .cas w _ _ => w

/-- Requests that Harson takes: writes of at most the supported payload, and the AtomicOps that it completes (R84). -/
def bar4Legal : Bar4Kind → Bool
  | .read n => decide (0 < n) && decide (n ≤ 4096)
  | .write d _ => decide (0 < d.length) && decide (d.length ≤ 512)
  | .fetchAdd w _ | .swap w _ => w = 4 || w = 8
  | .cas w _ _ => w = 8 || w = 16

/-- The permission bit of D3 that a kind needs. -/
def bar4Right : Bar4Kind → Nat
  | .read _ => 32
  | .write _ _ => 33
  | _ => 34

def bar4Write : Bar4Kind → Bool
  | .write _ _ => true
  | _ => false

/-- The device address of an inbound request, when a region admits it. A region committed with HDM set acts as a window while its port
does not run as CXL (DESIGN CHOICE, log entry 182). -/
def State.placed4 (s : State) (p : Side) (reqId addr : Nat) (k : Bar4Kind) : Option Nat :=
  let x := s.port p
  match x.regions.find? fun (i, r) => r.accepts && !x.isHdm i r && decide (r.base ≤ addr) && decide (addr + bar4Len k ≤ r.base + r.size) with
  | none => none
  | some (_, r) =>
    let d3 := r.d3.toNat
    let m := bits d3 31 16
    if bar4Legal k && decide (addr + bar4Len k ≤ x.bar4Bytes) && (reqId &&& m) = (bits d3 15 0 &&& m) && tst d3 (bar4Right k) then
      some ((s.obj (regObj r.d1)).base + r.offset + (addr - r.base))
    else none

/-- What an inbound request does at a device address; the engines' commands that read there notice a write (R253). -/
def State.access4 (s : State) (p : Side) (a : Nat) (k : Bar4Kind) : State :=
  let old := fun (w : Nat) => leNat (s.mem.readN a w)
  let put := fun (s : State) (m : Mem) (n : Nat) => (s.setMem m).disturb none [(a, n)]
  let swap := fun (w v : Nat) =>
    put (s.emit (.bar4Cpl p .ok (leBytes w (old w)) (s.mem.anyPoison a w)))
      (s.mem.storeP a ((leBytes w v).map fun b => (b, s.mem.anyPoison a w))) w
  match k with
  | .read n => s.emit (.bar4Cpl p .ok (s.mem.readN a n) (s.mem.anyPoison a n))
  | .write d bad => put s (s.mem.store a d bad) d.length
  | .fetchAdd w v => swap w (old w + v)
  | .swap w v => swap w v
  | .cas w c v => swap w (if old w = c % 256 ^ w then v else old w)

/-- An admitted request is made, or waits for the lines that agents hold. -/
def State.startAccess (s : State) (p : Side) (a : Nat) (k : Bar4Kind) : State :=
  let r := [(a, bar4Len k)]
  match k with
  | .read _ => s.uncached (.access p a k) r [] fun s => s.access4 p a k
  | _ => s.uncached (.access p a k) [] r fun s => s.access4 p a k

/-- INBOUND_BAR4_REQUEST: a region admits it on its arrival (R106), and it is made in its turn (R96). -/
def inboundBar4 (p : Side) (reqId addr : Nat) (k : Bar4Kind) (s : State) : State :=
  let x := s.port p
  let refuse := fun (s : State) =>
    if bar4Write k then s else s.inOrder p (.unsupported p) fun s => s.emit (.bar4Cpl p .unsupported [] false)
  if !x.up then s
  else if !x.mse then refuse s
  else
    match s.placed4 p reqId addr k with
    | none => refuse (s.regErrAt p 0 2 (addr / 2 ^ 21) E.peerDenied)
    | some a =>
      let s := match k with | .write _ true => s.aerAdvisory p | _ => s
      s.inOrder p (.access p a k) fun s => s.startAccess p a k

/-! ### Completions (R42, R97, R210) -/

/-- A request leaves the outstanding ones. -/
def State.dropReq (s : State) (p : Side) (tag : Nat) : State :=
  s.modPort p fun x => { x with reqs := x.reqs.filter fun r => r.tag ≠ tag }

/-- The generation that a request carried and that is no longer current: counted, and the completion dropped. -/
def State.staleReq (s : State) (p : Side) (r : Req) : Option State :=
  if (s.ctx r.ctx).gen ≠ r.ctxGen then some s.staleCtx
  else if (s.queue r.queue).gen ≠ r.queueGen then some s.staleQueue
  else if s.gen (50 + p.num) ≠ r.portGen || s.gen (48 + p.num) ≠ r.twinGen then some s.staleDomain
  else none

/-- An AtomicOp that the host has completed is no longer in doubt: its entry leaves the journal. -/
def State.atomicDone (s : State) (p : Side) (queue slot : Nat) : State :=
  s.dropEntries p fun e => e.kind = .atomicSignal && e.queue = queue && e.slot = slot

/-- HOST_COMPLETION. -/
def hostCompletion (p : Side) (tag : Nat) (st : CplStatus) (data : List Byte) (bad : Bool) (s : State) : State :=
  match (s.port p).reqs.find? fun r => r.tag = tag with
  | none => s
  | some r =>
    match (s.dropReq p tag).staleReq p r with
    | some s => s
    | none =>
      match r.kind with
      | .source q pos u off len _ =>
        if st ≠ .ok then (s.dropReq p tag).endUnit q pos u E.atsFailed
        else if data.length ≠ len then s
        else (s.dropReq p tag).sourceArrived q pos u off (data.map fun b => (b, bad))
      | .word q pos =>
        if st ≠ .ok then (s.dropReq p tag).finish q pos E.atsFailed 0
        else if data.length ≠ 8 then s
        else predicateRead ⟨q, pos % (s.queue q).slots⟩ r.queueGen (leNat data) bad s
      | .signal f q pos =>
        let s := (s.dropReq p tag).atomicDone p q pos
        if st = .ok then s else s.breakFence f E.hostLost

/-- The Completion Timeout of a function's request is reported by AER (R97). -/
def State.aerTimeout (s : State) (p : Side) (f : Nat) : State := s.modFunc p f fun x => { x with cplTimeout := true }

/-- The fence that a command at a position signals breaks (R97). -/
def State.breakCmdFence (s : State) (q pos code : Nat) : State :=
  match (s.queue q).cmd pos with
  | some c => if c.counted then s.breakFence (fIndex (hFence c.bytes)) code else s
  | none => s

/-- HOST_COMPLETION_TIMEOUT: the fence of the request's command becomes BROKEN with HX_E_HOST_LOST, and AER reports it. -/
def hostTimeout (p : Side) (tag : Nat) (s : State) : State :=
  match (s.port p).reqs.find? fun r => r.tag = tag with
  | none => s
  | some r =>
    let s := (s.dropReq p tag).aerTimeout p (s.ctx r.ctx).func
    match s.staleReq p r with
    | some _ => s
    | none =>
      match r.kind with
      | .source q pos u _ _ _ => (s.breakCmdFence q pos E.hostLost).endUnit q pos u E.hostLost
      | .word q pos => (s.breakCmdFence q pos E.hostLost).finish q pos E.hostLost 0
      | .signal f q pos => (s.atomicDone p q pos).breakFence f E.hostLost

/-! ### Flushing reads (R109, R110) -/

/-- FLUSH_READ_COMPLETE: the oldest flushing read of the generation that the completion carries. One of an older generation is dropped
(R42). -/
def flushComplete (p : Side) (gen : Nat) (ok : Bool) (s : State) : State :=
  let x := s.port p
  match x.flushes.find? fun f => f.gen = gen with
  | none => if gen ≠ s.gen (50 + p.num) then s.staleDomain else s
  | some f =>
    let s := s.setPort p { x with flushes := x.flushes.erase f }
    if gen ≠ s.gen (50 + p.num) then s.staleDomain
    else if !ok then s.modPort p fun x => { x with flushErr := true }
    else
      (s.dropEntries p fun e => decide (e.seq < f.cover) && !e.owed).modPort p fun x =>
        { x with jacked := max x.jacked f.cover, acked := true, lastAck := f.stamp, sent := [] }

/-- FLUSH_READ_TIMEOUT: the Completion Timeout of the port's PF. -/
def flushTimeout (p : Side) (s : State) : State :=
  let x := s.port p
  match x.flushes with
  | [] => s
  | _ :: t => (s.setPort p { x with flushes := t, flushErr := true }).aerTimeout p 0

/-- A flushing read leaves, stamped. -/
def State.sendFlush (s : State) (p : Side) : State :=
  if !s.canStamp then s
  else
    let (st, s) := s.stamp
    let x := s.port p
    let g := s.gen (50 + p.num)
    (s.setPort p { x with flushes := x.flushes ++ [{ cover := x.jseq, stamp := st, gen := g }] }).emit (.flushRead p x.flushAddr g)

/-- The flushing read of a boundary: while the journal holds entries, and behind a replay that has just ended (R109, R111). -/
def State.flush1 (s : State) (p : Side) (replayed : Bool) : State :=
  let x := s.port p
  if x.up && s.awake p && !x.replayDue && x.flushAddr ≠ 0 && (replayed || !x.journal.isEmpty) && decide (x.flushes.length < 4) then s.sendFlush p else s

/-! ### Replay (R111 to R113, R409) -/

/-- Unreplayed AtomicOps that pass a test break their fences and are counted (R112); each leaves the journal with the later entries of
its command. -/
def State.refuseAtomics (s : State) (p : Side) (t : JEntry → Bool) : State :=
  let at_ := (s.port p).journal.filter fun e => e.kind = .atomicSignal && t e
  let s := at_.foldl (fun s e => s.breakFence e.unit E.hostLost) s
  let after := fun (e : JEntry) => at_.any fun a => a.queue = e.queue && a.slot = e.slot && decide (a.seq ≤ e.seq) && e.kind ≠ .fring
  let who := (at_.map fun e => (e.queue, e.slot)).eraseDups
  (s.dropEntries p after).modPort p fun x => { x with refused := satAdd 255 x.refused who.length }

/-- Slot units of a port's host-egress engines for a queue in this tick. -/
def State.egressUnits (s : State) (p : Side) (q : Nat) : Nat :=
  ((s.entries.filter fun e =>
    enKind e = 0 && engineRole (enRes e) = 1 && engineTwin (enRes e) = p && enQueue e = q && enApplies e s.cyclePos).map s.units).sum

/-- A slice's bytes are beyond what its queue may send again in this tick; `used` is what has gone, by queue. -/
def State.beyond (s : State) (p : Side) (used : Tbl Nat) (e : JEntry) : Bool :=
  e.kind = .slice && decide (Tbl.get 0 used e.queue + e.data.length > 4096 * s.egressUnits p e.queue)

/-- The bytes that went, with one more entry's. -/
def sentAgain (used : Tbl Nat) (e : JEntry) : Tbl Nat :=
  if e.kind = .slice then Tbl.put used e.queue (Tbl.get 0 used e.queue + e.data.length) else used

/-- An entry goes out again as it stands. -/
def JEntry.out (e : JEntry) (p : Side) : Out := .hostWrite p e.func e.pasid e.addr e.data e.ro e.poison

/-- One journal entry changed. -/
def State.modEntry (s : State) (p : Side) (seq : Nat) (g : JEntry → JEntry) : State :=
  s.modPort p fun x => { x with journal := x.journal.map fun e => if e.seq = seq then g e else e }

/-- Journal entries are issued again in order, each queue's slices within its allotment; what is left continues in later ticks. Those of
a function that may not issue are owed (R100, R103). `used` is the bytes of slices issued by queue. -/
def State.replayFrom (s : State) (p : Side) : List JEntry → Tbl Nat → State × Tbl Nat × Bool
  | [], used => (s, used, true)
  | e :: t, used =>
    let pass := fun (s : State) => s.modPort p fun x => { x with replayAt := e.seq + 1 }
    if !s.fnIssues p e.func then (pass (s.modEntry p e.seq fun e => { e with owed := true })).replayFrom p t used
    else if s.beyond p used e then (s, used, false)
    else (pass (s.emit (e.out p))).replayFrom p t (sentAgain used e)

/-- What a replay sent counts against its queues' shares of the port (R111). -/
def State.countReplay (s : State) (p : Side) (used : Tbl Nat) : State :=
  used.foldl (fun s (q, n) => s.useLinks q [(some (65 + p.num), (n + 4095) / 4096)]) s

/-- A replay goes on at a boundary in L0. -/
def State.replay1 (s : State) (p : Side) : State :=
  let x := s.port p
  if !x.replayDue || !x.up then s
  else
    let s := if x.replayAt = 0 then s.refuseAtomics p fun e => s.fnIssues p e.func else s
    let (s, used, whole) := s.replayFrom p ((s.port p).journal.filter fun e => decide (x.replayAt ≤ e.seq) && !e.owed) []
    let s := s.countReplay p used
    if !whole then s
    else
      s.modPort p fun x => { x with replayDue := false, replays := satAdd 32767 x.replays 1 }

/-- Vectors delivered through a port since its last acknowledged flushing read are sent again, once (R409). -/
def State.resendVectors (s : State) (p : Side) : State :=
  s.emits ((s.port p).sent.map fun (f, v) => let e := Tbl.get MsixEntry.reset (s.func p f).table v; .msix p f v e.addr e.data)

/-- Entries owed are issued again at the end of the journal, once their functions may issue, within their queues' allotments. -/
def State.payFrom (s : State) (p : Side) : List JEntry → Tbl Nat → State × Tbl Nat
  | [], used => (s, used)
  | e :: t, used =>
    if !s.fnIssues p e.func then s.payFrom p t used
    else if s.beyond p used e then (s, used)
    else
      let s := s.modPort p fun x =>
        { x with
          journal := x.journal.filter (fun y => y.seq ≠ e.seq) ++ [{ e with owed := false, seq := x.jseq }], jseq := x.jseq + 1 }
      (s.emit (e.out p)).payFrom p t (sentAgain used e)

/-- What a port owes at a boundary in service; an AtomicOp is never sent again (R112). -/
def State.payOwed (s : State) (p : Side) : State :=
  let x := s.port p
  if !x.up || !x.inService || x.replayDue || !x.journal.any fun e => e.owed then s
  else
    let s := s.refuseAtomics p fun e => e.owed && s.fnIssues p e.func
    let (s, used) := s.payFrom p ((s.port p).journal.filter fun e => e.owed) []
    s.countReplay p used

/-! ### A port's part of a boundary -/

/-- Capacity follows the last training (R67); the port is in service once it is in L0 with Bus Master Enable set, and with it its
functions (R102). -/
def State.portState (s : State) (p : Side) : State :=
  let s := s.modPort p fun x =>
    { x with
      cap := x.capAt s.time.period, capHidden := x.capHidden && !x.up
      inService := x.inService || (x.up && (s.func p 0).bme && x.lost.isNone) }
  let x := s.port p
  s.mapFuncs fun k f =>
    if k / 128 = p.num && x.inService && x.up && f.bme && !f.flr && !f.d3 && (k % 128 = 0 || x.vfEnable) then { f with ready := true } else f

/-- A port's journalled requests and its flushing read at a boundary, and after a whole replay its vectors (R111, R409). -/
def State.portBoundary (s : State) (p : Side) : State :=
  let due := (s.port p).replayDue
  -- the first boundary in L0: snoops that the host has not answered are issued again (R346)
  let s := if due && (s.port p).up && (s.port p).cxl && (s.port p).replayAt = 0 then s.reissueSnoops p else s
  let s := (s.replay1 p).payOwed p
  let whole := due && !(s.port p).replayDue
  let s := s.flush1 p whole
  if whole then s.resendVectors p else s

/-- The ports at a boundary. -/
def State.hostBoundary (s : State) : State := (((s.portState .a).portState .b).portBoundary .a).portBoundary .b

end Sys2Proof.Machine
end

