-- ==== Sys2Proof/Machine/Recover.lean ====
section
/-! DEFINITION. Faults, resets and twin failover (13): the escalation ladder, compute-domain resets and their samples, the
mirror and what a survivor makes of it, planned detach, return to service, and supply dips. -/

namespace Sys2Proof.Machine

/-! ### Occurrences (R259, R417, R418) -/

/-- The device addresses of one burst of ranges. -/
def burstAddrs (b : Nat) (l : List (Nat × Nat)) : List Nat :=
  let a := l.flatMap fun (x, n) => (List.range n).map (x + ·)
  (a.drop (512 * (b % max 1 ((a.length + 511) / 512)))).take 512

/-- An uncorrectable error in an engine's burst buffer, a context named: a burst of the unit of that context that the engine wrote last in
this tick bears the mark, and its command ends with HX_E_POISONED; where there is none, a burst of the next unit (R259; log
entry 171). -/
def State.spoilUnit (s : State) (n k : Nat) : State :=
  let next := s.modEngine n fun e => { e with spoil := some (k, s.time.bnd) }
  match (s.engine n).last with
  | none => next
  | some (q, pos, u) =>
    match (s.queue q).cmd pos with
    | none => next
    | some c =>
      if (s.queue q).ctx ≠ k || c.forced then next
      else
        let l := burstAddrs (Config.errorBurst s.time.bnd q pos u) (localRanges (s.unitsWork k c.bytes fun v => v = u).2)
        (s.setMem (l.foldl (fun m a => m.mark a 1) s.mem)).modCmd q pos fun d =>
          { d with poisoned := true, result := if d.result = some E.ok then some E.poisoned else d.result }

/-- A log record that shared-plane storage lost: counted, and what its place then holds is not given (R419). -/
def State.loseRecord (s : State) (i : Nat) : State :=
  let (b, s) := s.freeBytes 32
  let w := fun (k : Nat) => w64 (rd b (8 * k) 8)
  s.modMgt fun m =>
    { m with log := Tbl.put m.log (i % 8192) (w 0, w 1, w 2, w 3), lost := satAdd 65535 m.lost 1, lostNew := m.lostNew + 1 }

/-- An error of shared-plane storage, corrected or not: a chip-wide event that names no context. One that is not corrected poisons the
coherent line, or loses the log record, that the storage held (R351, R419; log entry 209). -/
def State.sharedError (s : State) (corrected : Bool) (code detail : Nat) : State :=
  if corrected then s.chip 6 detail
  else
    let line := detail / 128 * 128
    let s :=
      if code = 1 then if (s.window line).isSome then s.poisonLine line else s
      else if code = 2 then
        s.modCoh fun c => { c with lines := c.lines.map fun x => if x.agent = .cache && x.line = line then { x with marks := 15 } else x }
      else if code = 3 then s.loseRecord detail
      else s
    s.chip 7 detail

/-- FAULT_OCCURRENCE. One that finds the tick's count used up is captured at once and stamped later (R36). A lost journal takes
every entry of its port with it (log entry 34). An error in a burst buffer poisons a burst of the context named (R259). -/
def faultOccurrence (t : Side) (src : Fin 15) (ctx : Option Nat) (code detail : Nat) (s : State) : State :=
  if 13 ≤ src.val then s.sharedError (src = 13) code detail
  else
  let s := s.occurNow t src code ctx detail
  if src = 0 then
    let s := s.modEngine (detail % 40) fun e => { e with uncorr := true }
    match ctx with
    | some k => s.spoilUnit (detail % 40) k
    | none => s
  else if src = 1 then s.modEngine (detail % 40) fun e => { e with corr := true }
  else if src = 7 then s.discard t fun _ => true
  else s

/-- A carried occurrence is stamped: its capture receives the stamp (R36). -/
def faultStamp (t : Side) (src : Nat) (s : State) : State :=
  let (st, s) := s.stamp
  s.modTwin t fun w =>
    let c := Tbl.get Capture.none w.col.caps src
    { w with col := { w.col with
        caps := if c.stamp = noStamp && tst w.col.first src then Tbl.set Capture.none w.col.caps src { c with stamp := st } else w.col.caps } }

/-! ### The ladder (R421 to R426) -/

/-- A collector is in the fault state (R425). -/
def Collector.inFault (c : Collector) : Bool := decide (0 < c.level) || c.pending ≠ 0

/-- Sources leave PENDING; an empty PENDING stops the timer (R421). -/
def Collector.ack (c : Collector) (sources : Nat) : Collector :=
  let p := c.pending - Nat.land c.pending sources
  let c := { c with pending := p, named := c.named.filter fun (s, _, _) => !tst sources s }
  if p = 0 then { c with grace := none, armed := false, lone := false } else c

/-- FLT_ACK. -/
def State.fltAck (s : State) (t : Side) (sources : Nat) : State := s.modTwin t fun w => { w with col := w.col.ack sources }

/-- A context that runs is PARKED at the next boundary, and its function told (R423). -/
def State.contain (s : State) (slot code : Nat) : State :=
  let c := s.ctx slot
  if c.priv || !(c.eff = .running || c.eff = .opened) then s
  else (s.setCtx slot { c with next := some .parked }).ctxReport slot 1 code s.time.last

/-- START of the pending sources, the greatest (R422). -/
def maxStart (pending : Nat) : Nat :=
  (List.range 13).foldl (fun m s => if tst pending s then max m (startOf s) else m) 0

/-- Resets of a twin within the last 600 s (R437). -/
def State.twinResets (s : State) (t : Side) : Nat := (s.twin t).resets.countP fun x => decide (s.time.now < x + 600000000)

/-- The step of R422 that a collector would take. -/
def State.ladderStep (s : State) (t : Side) : Nat :=
  let c := (s.twin t).col
  let step := max (c.level + 1) (maxStart c.pending)
  let step := if step = 1 && c.named.isEmpty then 2 else step
  if step = 2 && s.twinResets t = 2 then 3 else min step 3

/-- Every context that a pending source names is contained. -/
def State.containNamed (s : State) (t : Side) : State :=
  (s.twin t).col.named.foldl (fun s (_, x, code) => s.contain x code) s

/-- A twin will fail at the next boundary; the first cause stands. -/
def State.failAt (s : State) (t : Side) (why : FailCause) : State :=
  s.modTwin t fun w => { w with fail := w.fail.or (some why) }

/-- The pending detach is withdrawn at the next boundary. -/
def State.withdrawDetach (s : State) : State := s.modRst fun r => { r with detach := r.detach.map fun d => { d with withdrawn := true } }

/-- GRACE_TIMER_EXPIRY: the end of the GRACE-th tick, with PENDING not empty. -/
def graceExpiry (t : Side) (s : State) : State :=
  let c := (s.twin t).col
  if c.grace ≠ some 1 || c.pending = 0 then s
  else
    let step := s.ladderStep t
    if decide (2 ≤ step) && !s.serves t.other then
      let s := s.containNamed t
      let s := s.modTwin t fun w =>
        { w with col := { w.col with
            level := if w.col.named.isEmpty then w.col.level else max w.col.level 1, lone := true, grace := none, armed := true } }
      if (s.twin t.other).state = .detaching then s.withdrawDetach else s
    else
      let s := if step = 1 then s.containNamed t else s.failAt t (if step = 2 then .resetStep else .outStep)
      s.modTwin t fun w => { w with col := { w.col with level := step, pending := 0, named := [], grace := none, armed := false } }

/-- A collector at a boundary: the timer starts or counts; the quiet period runs; the fault state is left (R421, R425). -/
def State.collectorTick (s : State) (t : Side) : State :=
  let serves := s.serves t
  s.modTwin t fun w =>
    let c := w.col
    let c := { c with
      grace := if c.armed then some c.graceCfg else c.grace.map (· - 1), armed := false, quiet := c.quiet - 1 }
    let c := if decide (0 < c.level) && c.pending = 0 && c.quiet = 0 && serves then
        { c with level := 0, recoveries := satAdd 65535 c.recoveries 1 }
      else c
    { w with col := c }

/-! ### The safe state (R427, R428) -/

/-- A twin's collector cannot trust its own records: the twin stops at once, and the other records it. -/
def safeState (t : Side) (s : State) : State :=
  let s := s.modTwin t fun w => { w with col := { w.col with safe := true } }
  if !s.carries t then s
  else
    let s := s.failAt t .safe
    if !s.carries t.other then s
    else s.occurNow t.other 12 0 none t.num

/-! ### Compute domains (R431 to R434) -/

/-- Resets asserted within the last 60 s. -/
def State.cdResets (s : State) (n : Nat) : Nat := (s.cd n).times.countP fun x => decide (s.time.now < x + 60000000)

/-- CD_RESET. -/
def State.cdReset (s : State) (n : Nat) : Except Nat State :=
  let c := s.cd n
  if c.state = .outOfService then .error E.outOfService
  else if c.state = .resetting || c.stage ≠ 0 then .error E.locked
  else .ok (s.modCd n fun c => { c with stage := 1, returning := false })

/-- CD_RETURN. -/
def State.cdReturn (s : State) (n : Nat) : Except Nat State :=
  if (s.cd n).state ≠ .outOfService then .error E.badField
  else if (s.cd n).stage ≠ 0 then .error E.locked
  else .ok (s.modCd n fun c => { c with stage := 1, returning := true })

/-- STATE of HX_RST_CD_STATUS (R450). -/
def CdState.code : CdState → Nat
  | .inService => 0 | .resetting => 1 | .outOfService => 2

/-- HX_RST_CD_STATUS of a domain (R450). -/
def State.cdWord (s : State) (n : Nat) : Nat :=
  let c := s.cd n
  fld c.state.code 62 + fld (min 4 (s.cdResets n)) 59 + fld (s.gen n) 48 + fld c.miss 32 + fld c.total 16

/-- A domain takes a state, and a CD record says so (R467; log entry 18). -/
def State.setCdState (s : State) (n : Nat) (f : Cd → Cd) : State :=
  let t := s.modCd n f
  if (t.cd n).state = (s.cd n).state then t
  else t.log t.time.last 3 0 none (if (t.cd n).state = .outOfService then 2 else 0) n (t.cdWord n)

/-- The stage of a domain's reset that is due at a boundary. Invalidations aimed at a domain that goes into reset are complete at once
(R255, R431). -/
def State.cdStage (s : State) (n : Nat) : State :=
  let c := s.cd n
  match c.stage with
  | 1 =>
    (s.domainInvDone n).setCdState n (fun c =>
      { c with
        state := .resetting, stage := 2, miss := 0, sampleStamp := s.boundaryStamp, sampled := true, sample := [],
        awaiting := List.range 12, owners := c.launched }) |>.emits ((List.range 12).map fun i => .sampleRead n i (s.gen n))
  | 2 =>
    (s.modCd n fun c =>
      { c with
        stage := 3, times := (c.times.filter fun x => decide (s.time.now < x + 60000000)) ++ [s.time.now],
        total := satAdd 65535 c.total 1, miss := c.awaiting.foldl (fun m i => setBit m i true) c.miss,
        sample := c.awaiting.foldl (fun t i => Tbl.put t i none) c.sample, awaiting := [] }).emit (.cdReset n true)
  | 3 =>
    if !c.returning && decide (4 ≤ s.cdResets n) then
      (s.setCdState n fun c => { c with state := .outOfService, stage := 0, launched := [] }).chip 9 n
    else
      ((s.advanceGen n).setCdState n fun c =>
        { c with
          state := .inService, stage := 0, launched := [], returning := false, times := if c.returning then [] else c.times }).emit
        (.cdReset n false)
  | _ => s

/-- The stages of every domain at a boundary. -/
def State.cdStages (s : State) : State := (List.range 48).foldl (fun s n => s.cdStage n) s

/-- SAMPLE_RETURN: a core's 4 KiB, of the generation asked. -/
def sampleReturn (n core gen : Nat) (data : List Byte) (s : State) : State :=
  if gen ≠ s.gen n then s.staleDomain
  else if (s.cd n).stage ≠ 2 || !(s.cd n).awaiting.contains core || data.length ≠ 4096 then s
  else s.modCd n fun c => { c with awaiting := c.awaiting.filter (· ≠ core), sample := Tbl.put c.sample core (some data) }

/-- SAMPLE_TIMEOUT: 1,600 HCLK after the boundary. -/
def sampleTimeout (n core : Nat) (s : State) : State :=
  if (s.cd n).stage ≠ 2 || !(s.cd n).awaiting.contains core then s
  else
    s.modCd n fun c =>
      { c with awaiting := c.awaiting.filter (· ≠ core), sample := Tbl.put c.sample core none, miss := setBit c.miss core true }

/-- An 8-byte word of a sample: zero where no sample is held; of 4 KiB stored poisoned, a value that the manual does not give. -/
def State.sampleWord (s : State) (n core word : Nat) : Nat × State :=
  match Tbl.find (s.cd n).sample core with
  | some (some d) => (rd d (8 * word) 8, s)
  | some none => let (b, s) := s.freeBytes 8; (leNat b, s)
  | none => (0, s)

/-- A read of the sample by the operator is seen by the tenants whose launches it may show (R433, R462). -/
def State.sampleSeen (s : State) (n op : Nat) : State :=
  (s.cd n).owners.foldl (fun s c => s.observe c op s.time.last) s

/-! ### The mirror (R48) -/

/-- Contexts homed on a twin. -/
def State.homeOf (s : State) (t : Side) : List Nat :=
  (s.ctxs.filter fun (_, c) => decide (c.home = t) && decide (c.state ≠ .free)).map (·.1)

/-- Writes of commands to the host that no acknowledged flush of a port covers. -/
def Port.unflushed (x : Port) : List (Nat × Nat × Nat) :=
  (x.journal.filter fun e => e.kind = .slice || e.kind = .inline).map fun e => (e.queue, e.slot, e.unit)

/-- The mirror of a twin: what stands at the end of the tick just ended. -/
def State.mirrorOf (s : State) (t : Side) : Mirror :=
  let slots := s.homeOf t
  let vs := s.vecsOf slots
  let x := s.port t
  { stamp := s.boundaryStamp
    ctxs := s.ctxs.filter fun (i, _) => slots.contains i
    qs := s.queues.filter fun (_, q) => q.live && slots.contains q.ctx
    fences := s.fences.filter fun (_, f) => f.live && f.proxy.isNone && slots.contains f.owner
    lost := x.unflushed
    requests := s.xlt.requests.filter fun r => slots.contains r.ctx
    vecs := s.irq.vecs.filter fun (k, _) => vs.contains k
    raised := s.irq.raised.filter fun (_, _, o) => match o with | .ctx c => slots.contains c | .port _ | .chip => false
    count := if s.leads t then some s.time.last else none
    jhead := x.jhead, jtail := x.jtail, jacked := x.jacked, lastAck := x.lastAck }

/-- The mirror commits of a boundary, the first part of its event: each twin that serves, to the other when that serves too, of the
tick just ended (R48, R59). A commit that is missing leaves the mirror of the boundary before, from which a survivor takes over. -/
def State.mirrorCommit (s : State) (missA missB : Bool) : State :=
  if !(s.carries .a && s.carries .b) then s
  else
    let one := fun (u : State) (t : Side) (miss : Bool) =>
      if miss || (s.twin t).fail.isSome then u else u.modTwin t fun w => { w with mirror := some (s.mirrorOf t) }
    one (one s .a missA) .b missB

/-- After the departures and returns of the boundary: mirrors are kept while both twins serve, and then the standby order point holds
the count (R40, R48). -/
def State.mirrorKeep (s : State) : State :=
  let both := s.carries .a && s.carries .b
  let s := if both then s else [Side.a, Side.b].foldl (fun s t => s.modTwin t fun w => { w with mirror := none }) s
  s.modTime fun t => { t with standbyOk := both && (s.twin .a).mirror.isSome && (s.twin .b).mirror.isSome }

/-! ### What a survivor makes of a command (R318, R439, R440) -/

/-- Commands that continue from the mark that their own work keeps: what they did in the failed tick stands. -/
def continues (op : Nat) : Bool :=
  op = Op.map || op = Op.unmap || op = Op.invalidate || op = Op.contextCtl || op = Op.planCtl || op = Op.selftest || op = Op.collective

/-- A command's packets that peers have not acknowledged. -/
def State.unacked (s : State) (r : CmdRef) : Nat :=
  let ours := fun (p : FabPkt) => match p.ref with | some (x, _) => decide (x = r) | none => false
  (s.fab.paths.map fun (_, x) => x.unacked.countP (fun y => ours y.pkt) + x.waiting.countP ours).sum

/-- The lowest unit of a command among writes that the failed twin's port has not had acknowledged. -/
def lowestLost (lost : List (Nat × Nat × Nat)) (qn pos : Nat) : Option Nat :=
  match (lost.filter fun x => x.1 = qn && x.2.1 = pos).map (·.2.2) with
  | [] => none
  | u :: us => some (us.foldl min u)

/-- A command as the survivor takes it up. `m` is its mirror, `cur` what the failed tick made of it, `lost` the mirrored writes that
no flush covers. -/
def State.survive (s : State) (t : Side) (lost : List (Nat × Nat × Nat)) (qn : Nat) (m : Cmd) (cur : Option Cmd) : Cmd :=
  let op := hOpcode m.bytes
  let now := s.time.bnd
  let slots := (s.queue qn).slots
  let noticed := m.notice || (match cur with | some c => c.notice | none => false)
  let hostAdd := m.counted && (s.fence (fIndex (hFence m.bytes))).mode = 2
  let clear := fun (c : Cmd) => { c with claims := [], stall := none, invIssued := false, invAt := [], invLeft := 0, invRest := [] }
  let refused := (noticed && (m.result.isNone || hostAdd)) || (m.result = some E.ok && hostAdd && !m.skipped)
  match cur with
  | some c =>
    if continues op then
      { c with moved := c.begun || c.result.isSome, claims := [], stall := none, doneAt := if c.result.isSome then now else c.doneAt }
    else if c.byAbort then { (clear c) with moved := true, doneAt := now }
    else go op now slots noticed refused clear
  | none => go op now slots noticed refused clear
where
  go (op now slots : Nat) (noticed refused : Bool) (clear : Cmd → Cmd) : Cmd :=
    let m' := clear m
    let m' := { m' with
      peerLeft := s.unacked ⟨qn, m.slot % slots⟩, lastHost := if (s.ctx (s.queue qn).ctx).port = t then none else m.lastHost }
    if m.forced then { m' with moved := true }
    else if refused then { (m'.force E.replayRefused m.left now) with moved := true, acts := 0, started := true, notice := noticed }
    else
      let low := lowestLost lost qn m.slot
      let ended := m.result.isSome && (low.isNone || m.result ≠ some E.ok)
      if op = Op.fenceWait && m.begun then { m' with result := none, moved := true }
      else if ended then { m' with moved := true, doneAt := now }
      else if !m.begun then { m' with started := false, pred := .none }
      else if op = Op.writeInline then { m' with point := 0, result := none, moved := true }
      else
        { m' with
          point := match low with | some u => min u m.point | none => m.point
          above := if accumulates m.bytes then m.above else []
          result := none, moved := true
          aux := if op = Op.dispatch && m.phase = 0 then [] else m.aux
          phase := if op = Op.dispatch && m.phase = 2 then 1 else m.phase }

/-- A queue as the survivor takes it up (R439): its commands from the mirror, its producer index the mirrored one or a later one
that came through the survivor. What a control command did to the queue in the failed tick stands; a park that was due at the
mirrored boundary comes again. -/
def State.surviveQueue (s : State) (t : Side) (led : Bool) (lost : List (Nat × Nat × Nat)) (qn : Nat) (m : Queue) : State :=
  let q := s.queue qn
  let c := s.ctx q.ctx
  if !q.live || q.gen ≠ m.gen || m.state = .stopped || q.state = .stopped || q.next = some .stopped || c.teardown.isSome then s
  else
    let kept := q.rung.filter fun b => decide (m.prod < b.prod) && (!led || b.via ≠ t)
    let prod := kept.foldl (fun p b => max p b.prod) m.prod
    let cmds := m.cmds.map fun c =>
      s.survive t lost qn c ((q.cmds.find? fun d => d.slot = c.slot).or (q.ended.find? fun d => d.slot = c.slot))
    let ordered := match q.parking with | some (code, _) => decide (code = E.queueParked) | none => false
    let state := if m.next.isSome then .active else if m.state = .idle && !kept.isEmpty && c.runs then .active else m.state
    s.setQueue qn
      { q with
        cmds := cmds, cons := m.cons, ret := m.ret, reject := m.reject, rejectDone := m.rejectDone, deferred := m.deferred,
        rereads := 0, parking := if ordered then q.parking else if m.next.isSome then none else m.parking,
        prod := prod, prodPhase := if prod = 0 then false else q.phaseAt (prod - 1),
        bells := m.bells ++ kept, releasedAt := m.releasedAt, retiredAt := m.retiredAt, ended := [], rung := [],
        parkCode := m.parkCode, parkSlot := m.parkSlot, state := state }

/-- A context whose teardown the mirror records goes on from the step recorded there (R145); of every other the state stands. -/
def State.surviveCtx (s : State) (i : Nat) (m : Ctx) : State :=
  let c := s.ctx i
  if m.teardown.isNone || c.gen ≠ m.gen || c.state = .free then s
  else s.setCtx i { m with observed := c.observed, saturated := c.saturated, obsStamp := c.obsStamp }

/-- A fence that broke in the failed tick stands as the mirror has it, while commands that may break it again remain. -/
def Fence.restore (f : Fence) (m : Option Fence) : Fence :=
  match m with
  | some m =>
    if f.tag = m.tag && f.state = .broken && m.state ≠ .broken && decide (0 < f.signallers) then
      { f with state := m.state, value := m.value, code := m.code }
    else f
  | .none => f

/-- A fence whose signallers and waits are these commands' (R140, R151): a SIGNALLED fence with one to come is PENDING. -/
def Fence.recount (f : Fence) (i : Nat) (cmds : List Cmd) : Fence :=
  let n := cmds.countP fun (c : Cmd) => c.counted && fIndex (hFence c.bytes) = i
  let w := cmds.countP fun (c : Cmd) => hOpcode c.bytes = Op.fenceWait && fIndex (ph c.bytes 8) = i
  { f with signallers := n, waiters := w, state := if f.state = .signalled && decide (0 < n) then .pending else f.state }

/-- SIGNALLERS and WAITERS count the commands that the queues now hold. -/
def State.recountFences (s : State) (old : Tbl Fence) : State :=
  let cmds := s.queues.flatMap fun (_, q) => q.cmds
  s.mapFences fun i f => ((f.recount i cmds).restore (Tbl.find old i)).recount i cmds

/-- A vector's running state from the mirror, with the settings that stand (R410). -/
def Vec.restore (cur m : Vec) : Vec :=
  { cur with
    state := m.state, events := m.events, idle := m.idle, window := m.window, released := m.released, dueAt := m.dueAt, origin := m.origin
    delayNow := 0 }

/-- Vectors of the moved contexts: a vector delivered in the failed tick is due again, any other is as the mirror has it, and no
event raised in that tick is merged in; what was raised before it is raised still (R48, R410). -/
def State.surviveVecs (s : State) (slots : List Nat) (old : Tbl Vec) (raised : List (Nat × Nat × Origin)) : State :=
  let s := s.modIrq fun i => { i with
    raised := (i.raised.filter fun (_, _, o) => match o with | .ctx c => !slots.contains c | _ => true) ++ raised }
  (s.vecsOf slots).foldl
    (fun s k =>
      let f := k / 2048
      let v := k % 2048
      let m := Tbl.get Vec.reset old k
      let x := (s.vec f v).restore m
      let again := s.irq.delivered.contains (f, v)
      s.setVec f v (if again then { x with state := .due, events := max 1 x.events, window := none, dueAt := s.time.now } else x)) s

/-- LAUNCH commands of a set of contexts that the scheduler has not answered. -/
def State.launchesOut (s : State) (slots : List Nat) : List CmdRef :=
  s.queues.flatMap fun (n, q) =>
    if !slots.contains q.ctx then []
    else (q.cmds.filter fun c => hOpcode c.bytes = Op.launch && decide (c.acts ≠ 0)).map fun c => ⟨n, c.slot % q.slots⟩

/-- Requests made for the moved contexts are addressed to the failed twin: their answers will be dropped (R430, R439). -/
def State.orphanReqs (s : State) (slots : List Nat) : State :=
  let one := fun (s : State) (p : Side) =>
    s.modPort p fun x => { x with
      reqs := x.reqs.map fun r => if slots.contains r.ctx then { r with twinGen := (s.gen (48 + p.num) + 255) % 256 } else r }
  let s := one (one s .a) .b
  let s := s.modXlt fun x => { x with ats := x.ats.map fun r => if slots.contains r.ctx then { r with orphan := true } else r }
  let s := s.modRst fun r => { r with orphans := r.orphans ++ s.launchesOut slots }
  s.modFab fun f => { f with
    reads := f.reads.filter fun r => !slots.contains (s.queue r.queue).ctx
    invals := f.invals.filter fun (_, _, r, _) => !slots.contains (s.queue r.queue).ctx || !continues (hOpcode (((s.queue r.queue).cmdAt r.slot).elim [] (·.bytes))) }

/-- Fault records of the moved contexts are dropped: their accesses are walked again (R439). -/
def State.dropFaults (s : State) (slots : List Nat) : State :=
  s.modXlt fun x => { x with
    batch := x.batch.filter fun r => !slots.contains r.ctx, stalled := x.stalled.filter fun r => !slots.contains r.ctx }

/-! ### Twins leave service (R49 to R52, R500, R501) -/

/-- The host port of a twin that leaves service: its link goes down, and entries of the moved contexts leave its journal (R51,
R115). -/
def State.dropPort (s : State) (p : Side) (slots : List Nat) : State :=
  (s.dropEntries p fun e => slots.contains e.ctx).modPort p fun x =>
    { x with
      up := false, training := false
      retrains := if x.up then satAdd 255 x.retrains 1 else x.retrains
      holding := x.holding || x.up, holdStart := if x.up then s.time.now else x.holdStart, holdMs := if x.up then x.holdCfg else x.holdMs }

/-- The moved contexts take their new home, and a bound port that stays (R439, R507). -/
def State.rehome (s : State) (slots : List Nat) (from_ to_ : Side) : State :=
  slots.foldl
    (fun s i =>
      let s := (s.modCtx i fun c => { c with home := to_, homeNext := none, predictFrom := s.time.bnd + 64 }).purgeAll i
      let c := s.ctx i
      let s := if decide (2 ≤ i) && c.port = from_ && c.state ≠ .dead && c.teardown.isNone then s.rebind i
        else s.resendRequests fun r => r.ctx = i
      s.forgetDelay i) s

/-- Evaluate again the waits of the moved queues. -/
def State.rewait (s : State) : State := s.fences.foldl (fun s (i, f) => if f.live then s.wakeWaiters i else s) s

/-- A twin's caches are lost with it, and the predictor's history of the contexts that it homed (R48, R225). -/
def State.dropCaches (s : State) (t : Side) : State :=
  let slots := s.homeOf t
  s.modXlt fun x =>
    { x with
      tlb := x.tlb.set t [], atc := x.atc.set t [], walk := x.walk.set t []
      history := x.history.filter fun (qn, _) => !slots.contains (s.queue qn).ctx }

/-- Two mirrors of one boundary: a context that changed its home there stands in one of them. -/
def Mirror.join (l : List Mirror) (slots : List Nat) : Mirror :=
  { stamp := 0
    ctxs := (l.flatMap (·.ctxs)).filter fun x => slots.contains x.1
    qs := (l.flatMap (·.qs)).filter fun x => slots.contains x.2.ctx
    fences := (l.flatMap (·.fences)).filter fun x => slots.contains x.2.owner
    lost := l.flatMap (·.lost)
    requests := (l.flatMap (·.requests)).filter fun r => slots.contains r.ctx
    vecs := l.flatMap (·.vecs)
    raised := (l.flatMap (·.raised)).filter fun (_, _, o) => match o with | .ctx c => slots.contains c | .port _ | .chip => false
    count := none, jhead := 0, jtail := 0, jacked := 0, lastAck := noStamp }

/-- The page requests of the moved contexts are those of the mirror, and none has been sent (R48, R224). -/
def State.surviveRequests (s : State) (slots : List Nat) (l : List PageReq) : State :=
  s.modXlt fun x =>
    { x with
      requests := (x.requests.filter fun r => !slots.contains r.ctx) ++
        l.map fun r => { r with index := none, again := false, retried := r.retried || r.again } }

/-- The journal of a port whose twin failed: its tail and its last acknowledged flush are the mirror's, and its head follows from what
it still holds (R48, R115). -/
def Port.survive (x : Port) (m : Mirror) : Port :=
  { x with
    jhead := (m.jtail + journalSize - journalUsed x.journal % journalSize) % journalSize, jtail := m.jtail, jacked := m.jacked
    lastAck := m.lastAck }

/-- The survivor takes the failed twin's contexts from the mirror (R49, R439). -/
def State.failover (s : State) (t : Side) (led : Bool) : State :=
  let slots := s.homeOf t
  let m := Mirror.join ([Side.a, Side.b].filterMap fun x => (s.twin x).mirror) slots
  let own := (s.twin t).mirror
  let s := ((s.orphanReqs slots).dropFaults slots).dropCaches t
  let s := m.qs.foldl (fun s (n, q) => s.surviveQueue t led m.lost n q) s
  let s := m.ctxs.foldl (fun s (i, c) => s.surviveCtx i c) s
  let s := ((s.recountFences m.fences).surviveVecs slots m.vecs m.raised).surviveRequests slots m.requests
  let s := s.dropPort t slots
  let s := match own with | some x => s.modPort t fun p => p.survive x | none => s
  let s := (s.rehome slots t t.other).rewait
  s.modRst fun r => { r with failovers := satAdd 65535 r.failovers 1, failStamp := s.boundaryStamp }

/-- Both twins are out of service: the fences that peers hold break (R52). -/
def State.breakGranted (s : State) : State :=
  s.fab.grants.foldl (fun s (_, g) => if g.fence && g.enable then s.breakFence (fIndex g.target) E.outOfService else s) s

/-- A twin's reset after a failure, counted; the third within 600 s takes it out of service instead (R437, R500). -/
def State.afterFailure (s : State) (t : Side) (why : FailCause) : State :=
  let s := s.modTwin t fun w => { w with fail := none, ret := none, auto := false, test := none, standbyReq := false, mirror := none }
  if why = .outStep || decide (2 ≤ s.twinResets t) then (s.setTwinState t .outOfService).twinGates t false
  else
    s.modTwin t fun w =>
      { w with
        inReset := true, tested := false, measured := false
        resets := (w.resets.filter fun x => decide (s.time.now < x + 600000000)) ++ [s.time.now] }

/-- A twin that carries traffic fails: its contexts move to the survivor, or stay as they stand when there is none. -/
def State.departFailed (s : State) (t : Side) (why : FailCause) : State :=
  let led := s.leads t
  let o := t.other
  let s := if (match s.rst.detach with | some d => decide (d.twin = t) | none => false) then s.modRst fun r => { r with detach := none } else s
  if s.carries o && (s.twin o).fail.isNone then
    -- a DETACHING survivor returns to the state it held
    let s := if (s.twin o).state = .detaching then (s.setTwinState o (s.twin o).prior).modRst fun r => { r with detach := none } else s
    let s := s.failover t led
    let s := s.setTwinState t .detached
    let s := if led then s.setTwinState o .lead else s
    s.afterFailure t why
  else
    let slots := s.homeOf t
    let last := !s.carries o
    let s := slots.foldl (fun s i => s.modCtx i fun c => { c with homeless := true }) s
    let s := (s.dropCaches t).dropPort t []
    let s := (s.setTwinState t .detached).afterFailure t why
    if last then s.breakGranted else s

/-- A twin's failure is acted on: at a boundary at which work is not held (R441). -/
def State.departTwin (s : State) (t : Side) : State :=
  match (s.twin t).fail with
  | none => s
  | some why =>
    if s.carries t then s.departFailed t why
    else if why = .outStep && (s.twin t).state = .detached then
      ((s.modTwin t fun w => { w with fail := none, ret := none, auto := false, inReset := false }).setTwinState t .outOfService).twinGates t false
    else s.modTwin t fun w => { w with fail := none }

/-- Mirror commits that are missing at a boundary (R48, R428): each twin judges the other's. -/
def State.judgeMirrors (s : State) (missA missB : Bool) : State :=
  if !(s.carries .a && s.carries .b) then s
  else
    let note := fun (s : State) (t : Side) => s.occurLater t.other 11 0 none t.num
    if missA && missB then
      let t := if s.leadB then Side.a else Side.b
      safeState t ((note s .a) |> fun s => note s .b)
    else if missA then (note s .a).failAt .a .mirror
    else if missB then (note s .b).failAt .b .mirror
    else s

/-! ### Planned detach (R442, R443, R517) -/

/-- DETACH. -/
def State.detachAsk (s : State) (t : Side) (tick : Nat) : Except Nat State :=
  if !s.serves t then .error E.badField
  else if !s.serves t.other then .error E.outOfService
  else if s.rst.detach.isSome then .error E.locked
  else if tick ≠ 0 && decide (tick < s.time.tick + 4) then .error E.badField
  else
    let td := if tick = 0 then s.time.tick + 4 else tick
    .ok (s.modRst fun r => { r with
      detach := some { twin := t, tick := td, waited := 0, withdrawn := false, forced := false }, ctlTwin := decide (t = .b), ctlTick := td })

/-- DETACH_WITHDRAW. -/
def State.detachWithdraw (s : State) : Except Nat State := if s.rst.detach.isNone then .error E.badField else .ok s.withdrawDetach

/-- DETACH_FORCED: a detach that has waited 64 boundaries. -/
def detachForced (s : State) : State :=
  s.modRst fun r => { r with detach := r.detach.map fun d => { d with forced := d.forced || decide (64 ≤ d.waited) } }

/-- Every non-idempotent act of a twin's contexts has a known outcome, and its port's writes are covered (R443, R517). -/
def State.detachReady (s : State) (t : Side) : Bool :=
  let slots := s.homeOf t
  let acts := s.queues.any fun (_, q) => slots.contains q.ctx && q.cmds.any fun c => decide (c.acts ≠ 0)
  let adds := fun (p : Side) => (s.port p).reqs.any fun r => slots.contains r.ctx && (match r.kind with | .signal _ _ _ => true | _ => false)
  !acts && !adds .a && !adds .b && (s.port t).journal.isEmpty

/-- A queue moves with nothing lost: its commands go on from where they stand; `ownPort` says that its port stays behind. -/
def Queue.carryOver (q : Queue) (ownPort : Bool) : Queue :=
  { q with
    cmds := q.cmds.map fun (c : Cmd) =>
      { c with claims := [], moved := c.moved || c.begun || c.result.isSome, lastHost := if ownPort then .none else c.lastHost } }

/-- The move of a planned detach: nothing is lost, re-run or refused. -/
def State.detachMove (s : State) (t : Side) : State :=
  let slots := s.homeOf t
  let led := s.leads t
  let s := slots.foldl (fun s i => (s.queuesOf i).foldl (fun s qn => s.modQueue qn fun q => q.carryOver (decide ((s.ctx i).port = t))) s) s
  let s := ((s.orphanReqs slots).dropCaches t).dropPort t slots
  let s := s.rehome slots t t.other
  let s := s.setTwinState t .detached
  (if led then s.setTwinState t.other .lead else s).modTwin t fun w => { w with mirror := none }

/-- A detach at a boundary: it begins, is withdrawn, moves, waits, or is forced. -/
def State.detachStep (s : State) : State :=
  match s.rst.detach with
  | none => s
  | some d =>
    let t := d.twin
    let drop := fun (s : State) => s.modRst fun r => { r with detach := none }
    if d.withdrawn then
      drop (if (s.twin t).state = .detaching then s.setTwinState t (s.twin t).prior else s)
    else
      let s := if s.serves t then (s.modTwin t fun w => { w with prior := w.state }).setTwinState t .detaching else s
      if (s.twin t).state ≠ .detaching then drop s
      else if s.time.tick < d.tick then s
      else if s.detachReady t then drop (s.detachMove t)
      else if d.forced || decide (64 ≤ d.waited) then
        let s := drop s
        (s.modRst fun r => { r with forced := true }).departFailed t .mirror
      else s.modRst fun r => { r with detach := some { d with waited := d.waited + 1 } }

/-! ### Twins enter service (R444, R500, R507, R518) -/

/-- A twin's self-test starts: its gates go on before it does anything (R483). -/
def State.startTest (s : State) (t : Side) (o : TestOrigin) (kind : Nat) : State :=
  ((s.wakeTwin t).modTwin t fun w => { w with test := some (o, kind) }).twinGates t true

/-- A RETURN goes on to the step that it lacks (R444). -/
def State.goReturn (s : State) (t : Side) : State :=
  let w := s.twin t
  if !w.measured then s.modTwin t fun w => { w with ret := some .measure }
  else if !w.tested then (s.modTwin t fun w => { w with ret := some .test }).startTest t .returning 3
  else s.modTwin t fun w => { w with ret := some .load }

/-- A RETURN begins for a DETACHED twin: held while the twin is treated as in self-test (R194, R488). -/
def State.beginReturn (s : State) (t : Side) : State :=
  let s := (s.wakeTwin t).twinGates t true
  if (s.twin t).ret.isSome || (s.twin t).inReset then s
  else if s.inSelftest t || (s.twin t).loading then s.modTwin t fun w => { w with ret := some .held }
  else s.goReturn t

/-- A slot watches the source that fired. -/
def Wake.matches (w : Wake) (kind arg : Nat) : Bool := w.enable && w.kind ≠ 0 && w.kind = kind && w.arg = arg

/-- Sources that fire in one ACLK cycle: HIT bits, one wake, RETURN, and a standby withdrawn (R412, R413). -/
def wakeFire (sources : List (Nat × Nat)) (s : State) : State :=
  let hits := s.irq.wakes.filter fun (_, w) => sources.any fun (k, a) => w.matches k a
  let names := fun (t : Side) => hits.any fun (_, w) => tst w.action t.num
  let returns := fun (t : Side) => hits.any fun (_, w) => tst w.action t.num && w.ret
  let woken := [Side.a, Side.b].any fun t => names t && (s.twin t).standby
  let s := s.modIrq fun i => { i with hit := hits.foldl (fun h (k, _) => setBit h k true) i.hit }
  let s := if woken then s.modIrq fun i => { i with wakeCount := satAdd 65535 i.wakeCount 1 } else s
  [Side.a, Side.b].foldl
    (fun s t =>
      if !names t then s
      else if (s.twin t).standby then
        let s := s.wakeTwin t
        if returns t && (s.twin t).state = .detached then s.beginReturn t else s
      else if (s.twin t).standbyReq then
        (s.modTwin t fun w => { w with standbyReq := false }).modIrq fun i => { i with cancelled := true }
      else s) s


/-- The mirror format that both twins write: the lower of their images' (R469). -/
def State.mirrorFmt (s : State) : Nat :=
  let fmt := fun (t : Side) => if (s.twin t).image.isEmpty then none else some (s.twin t).mirrorFmt
  match fmt .a, fmt .b with
  | some a, some b => min a b
  | some a, none => a
  | none, some b => b
  | none, none => 0

/-- A twin can read the mirror format in use. -/
def State.readsMirror (s : State) (t : Side) : Bool := (s.twin t).image.isEmpty || decide ((s.twin t).mirrorMin ≤ s.mirrorFmt)

/-- TWIN_RETURN (R444, R469). -/
def State.twinReturn (s : State) (t : Side) : Except Nat State :=
  if (s.twin t).state ≠ .detached then .error E.badField
  else if !s.readsMirror .a || !s.readsMirror .b then .error E.badField
  else .ok (s.beginReturn t)

/-- A twin that is out of service becomes DETACHED, its resets forgotten (R436, R437). -/
def State.clearOosNow (s : State) (t : Side) : State := (s.modTwin t fun w => { w with resets := [] }).setTwinState t .detached

/-- CLEAR_OOS, through the management controller. -/
def State.clearOos (s : State) (t : Side) : Except Nat State :=
  if (s.twin t).state ≠ .outOfService then .error E.badField else .ok (s.clearOosNow t)

/-- TWIN_RESET_RELEASE: the generation advances, and the twin goes on by itself (R500); R44 may hold the release back. -/
def twinResetRelease (t : Side) (s : State) : State :=
  if !(s.twin t).inReset || s.domainHeld (48 + t.num) then s
  else
    (s.modTwin t fun w =>
      { w with inReset := false, auto := true, ret := some .measure, fail := none, standby := false, col := { w.col with safe := false } }).advanceGen
      (48 + t.num)

/-- What a twin that becomes LEAD alone does with the contexts that lost their home (R501). -/
def State.takeHomeless (s : State) (t : Side) : State :=
  let lost := (s.ctxs.filter fun (_, c) => c.homeless).map (·.1)
  let s := lost.foldl
    (fun s i => if i < 2 then s else (s.modCtx i fun c => { c with home := t, homeless := false }).beginTeardown i E.outOfService s.boundaryStamp) s
  [0, 1].foldl
    (fun s i =>
      let s := s.modCtx i fun c => { c with home := t, homeless := false }
      s.modQueue i fun q =>
        { q with
          state := .idle, next := none, parking := none
          cmds := q.cmds.map fun c => if c.forced then c else { c.force E.outOfService 0 s.time.bnd with byAbort := true, claims := [] } }) s

/-- A twin enters service (R518): its port trains, and its privileged context comes home. -/
def State.enterService (s : State) (t : Side) : State :=
  let alone := !s.carries t.other
  let s := (s.modTwin t fun w => { w with ret := none, auto := false, fail := none, standby := false }).loadPlans t
  let s := s.setTwinState t (if s.serves t.other || s.carries t.other then .active else .lead)
  let s := if alone then s.takeHomeless t
    else (s.modCtx t.num fun c => { c with home := t, homeNext := none }).forgetDelay t.num
  let s := s.modTwin t.other fun w => { w with col := { w.col with lone := false } }
  (s.modPort t fun x => { x with training := true }).emit (.train t)

/-- Returns of a boundary: a twin whose steps are done enters service; a commit that is PENDING holds it until its switch
(log entry 27). -/
def State.enterTwin (s : State) (t : Side) : State :=
  let s := if (s.twin t).ret = some .held && !s.inSelftest t && !(s.twin t).loading then s.goReturn t else s
  let w := s.twin t
  if w.state = .detached && (w.ret = some .load || w.ret = some .ready) && s.plan.pend.isNone then s.enterService t else s

/-- Twin departures and returns of a boundary (R59). While work is held no failure is acted on (R441). -/
def State.twinEvents (s : State) : State :=
  if s.rst.held then s
  else
    let s := (s.departTwin .a).departTwin .b
    let s := s.detachStep
    (s.enterTwin .a).enterTwin .b

/-! ### Supply dips (R445 to R447) -/

/-- PWRWARN_ASSERT. -/
def pwrwarnAssert (us : Nat) (s : State) : State :=
  let s := s.reach us
  if s.rst.warn.isSome && !s.rst.cleared then s
  else s.modRst fun r => { r with warn := some (s.at us), cleared := false }

/-- PWRWARN_CLEAR: the dip is recorded; work resumes at the next boundary. -/
def pwrwarnClear (us : Nat) (s : State) : State :=
  let s := s.reach us
  match s.rst.warn with
  | none => s
  | some w =>
    if s.rst.cleared then s
    else
      let n := s.at us - w
      let s := s.modRst fun r =>
        { r with cleared := true, dips := satAdd 65535 r.dips 1, lastUs := min 65535 n, dip := true, long := r.long || decide (256 < n) }
      let s := s.chip 4 (min 65535 n)
      if 256 < n then s.chip 5 (min 65535 n) else s

/-- The checkpoint's bytes (R447). -/
def State.checkpoint (s : State) : List Byte :=
  let state := fun (t : Side) => (s.twin t).state.code
  let mirror := if s.carries .a || s.carries .b then s.boundaryStamp else noStamp
  let port := fun (p : Side) => leBytes 8 (s.port p).lastAck ++ leBytes 8 (fld (s.port p).jhead 32 + (s.port p).jtail)
  let head :=
    leBytes 4 0x4B435848 ++ leBytes 2 1 ++ leBytes 2 (state .a + fld (state .b) 3 + fld (bit s.leadB) 6) ++
      leBytes 8 s.boundaryStamp ++ leBytes 8 s.time.last ++ leBytes 8 mirror ++ port .a ++ port .b
  head ++ sha384 head ++ List.replicate (4096 - 112) 0

/-- A boundary during a warning: work is held and the checkpoint written; after it, work resumes. -/
def State.supply (s : State) : State :=
  match s.rst.warn with
  | none => s
  | some _ =>
    if s.rst.cleared then s.modRst fun r => { r with warn := none, cleared := false, held := false }
    else if s.rst.held then s
    else s.modRst fun r => { r with held := true, ckpt := s.checkpoint, ckptValid := true }

end Sys2Proof.Machine
end

