-- ==== Sys2Proof/Machine/Clock.lean ====
section
/-! DEFINITION. Clocks, start-up and self-test (15), and the measured start of a twin (14: R452 to R454, R502): sources and
gates, the frequency counter, power-up, images and their checks, self-tests and what ends them. -/

namespace Sys2Proof.Machine

/-! ### The image store and the measurement slots (R452 to R454) -/

/-- What an erased byte of the image store reads as (PRESUMED: NOR flash; log entry 35). -/
def erased : Byte := 0xFF

/-- Bytes of the image store. -/
def State.flashRead (s : State) (a n : Nat) : List Byte := (List.range n).map fun i => Tbl.get erased s.mgt.flash (a + i)

/-- Bytes programmed into the image store. -/
def State.flashWrite (s : State) (a : Nat) (l : List Byte) : State :=
  s.modMgt fun m => { m with flash := l.zipIdx.foldl (fun t (b, i) => Tbl.set erased t (a + i) b) m.flash }

/-- Where the image lies, and the most it can hold. -/
def imageBase : Nat := 0x10000
def imageMax : Nat := 2 ^ 25 - 2 ^ 16

/-- A measurement slot: zero until something is measured into it. -/
def State.meas (s : State) (n : Nat) : List Byte := Tbl.get (List.replicate 48 0) s.mgt.meas n

/-- A VALUE slot is replaced. -/
def State.measSet (s : State) (n : Nat) (d : List Byte) : State :=
  s.modMgt fun m => { m with meas := Tbl.set (List.replicate 48 0) m.meas n d }

/-- An EXTEND slot takes in a digest. -/
def State.measExtend (s : State) (n : Nat) (d : List Byte) : State := s.measSet n (sha384 (s.meas n ++ d))

/-- The slot of a twin's image. -/
def imageSlot (t : Side) : Nat := 1 + t.num

/-- Check 3: the header (R454). -/
def headerOk (h : List Byte) : Bool :=
  rd h 0 4 = 0x574D5848 && rd h 4 2 = 1 && decide (256 ≤ rd h 8 4) && decide (rd h 8 4 ≤ imageMax) && rd h 0xE 2 = 0 &&
    (h.drop 0x78).all (· = 0)

/-- The first failing check of an image for a twin, 0 for none: 1 header, 2 signature, 3 SVN, 4 mirror format (R453, R467). -/
def State.imageCheck (s : State) (t : Side) (image : List Byte) : Nat :=
  let h := image.take 256
  let o := s.twin t.other
  if !headerOk h then 1
  else if !Config.releaseSignatureOk image then 2
  else if rd h 6 2 < s.mgt.minSvn then 3
  else if !o.image.isEmpty && decide (min (rd h 0xC 1) o.mirrorFmt < rd h 0xD 1) then 4
  else 0

/-- An FW record (R467). -/
def State.fwLog (s : State) (t : Side) (check : Nat) : State :=
  s.log s.time.last 8 0 none (if check = 0 then 0 else 2) (t.num + fld check 1) (s.twin t).version.toNat

/-- A twin is taken out of service by its start, its measurement or its self-test. -/
def State.outOfService (s : State) (t : Side) : State :=
  let s := s.modTwin t fun w => { w with ret := none, auto := false, test := none }
  (if (s.twin t).boot then s else s.setTwinState t .outOfService).twinGates t false

/-! ### The states at power-up (R47, R507) -/

/-- When each twin's start has ended, the twins take their states: the first that passed leads, and each that serves trains its
port. -/
def State.bootStates (s : State) : State :=
  let pass := fun (t : Side) => (s.twin t).measured && (s.twin t).tested
  let a := pass .a
  let b := pass .b
  let s := s.modTwin .a fun w => { w with state := if a then .lead else .outOfService }
  let s := s.modTwin .b fun w => { w with state := if !b then .outOfService else if a then .active else .lead }
  let s := if a then s else s.twinGates .a false
  let s := if b then s else s.twinGates .b false
  let s := s.modPlan fun p => { p with allot := s.wantedSet }
  let home := fun (s : State) (t : Side) =>
    s.modCtx t.num fun c => if pass t then c else if pass t.other then { c with home := t.other } else { c with homeless := true }
  let s := home (home s .a) .b
  let train := fun (s : State) (t : Side) =>
    if pass t then (s.modPort t fun x => { x with training := true }).emit (.train t) else s
  train (train s .a) .b

/-- A twin's start at power-up has ended; the states follow once both have. -/
def State.bootEnds (s : State) (t : Side) : State :=
  if !(s.twin t).boot then s
  else
    let s := s.modTwin t fun w => { w with boot := false }
    if (s.twin t.other).boot then s else s.bootStates

/-! ### Power-up (R474 to R477) -/

/-- A state that the start-up sequencer has reached. -/
def State.atPhase (s : State) (n : Nat) (k : State → State) : State := if s.clk.phase = n then k s else s

/-- The newest valid page of the log mirror: its generation (R429, R468). A page is valid when its first record is of type PAGE;
of the 2,048 pages the one with the highest sequence is the newest. -/
def State.keptGen (s : State) : Nat :=
  let page := fun (i : Nat) => s.flashRead (0x3000000 + 4096 * i) 32
  let best := (List.range 2048).foldl
    (fun (m : Option (Nat × Nat)) i =>
      let r := page i
      if rd r 8 8 ≠ 0 then m
      else
        match m with
        | some (q, _) => if q < rd r 24 8 then some (rd r 24 8, rd r 16 8 % 256) else m
        | none => some (rd r 24 8, rd r 16 8 % 256)) none
  match best with | some (_, g) => g | none => 255

/-- POWER_UP. The device's generation is the kept value plus one. -/
def powerUp (xstart : Nat) (s : State) : State :=
  s.atPhase 0 fun s =>
    let s := s.modClk fun c => { c with phase := 1, xstart := xstart }
    s.modRst fun r => { r with gens := Tbl.set 0 r.gens 52 ((s.keptGen + 1) % 256) }

/-- IOSC_TRIM. -/
def ioscTrim (s : State) : State := s.atPhase 1 fun s => s.modClk fun c => { c with phase := 2, iosc := true }

/-- XTAL_CHECK: the cycles counted over 2,500 IOSC cycles. -/
def xtalCheck (count : Nat) (s : State) : State :=
  s.atPhase 2 fun s =>
    if 2450 ≤ count ∧ count ≤ 2550 then s.modClk fun c => { c with phase := 3, xtal := true, aclk := true }
    else if s.clk.checks + 1 < 8 then s.modClk fun c => { c with checks := c.checks + 1 }
    else s.modClk fun c => { c with phase := 6, checks := 8, xtalFail := true, mclk := true, gates := setBit c.gates 37 false }

/-- A stored checkpoint is valid: its magic, its format and its digest (R447). -/
def ckptOk (b : List Byte) : Bool :=
  rd b 0 4 = 0x4B435848 && rd b 4 2 = 1 && (b.drop 0x40).take 48 = sha384 (b.take 0x40)

/-- A valid checkpoint is copied into the log, four records (R446, R467). -/
def State.copyCheckpoint (s : State) : State :=
  if !ckptOk s.rst.ckpt then s
  else
    [0, 1, 2, 3].foldl
      (fun s k => s.log s.time.last 5 0 none 1 (rd s.rst.ckpt (16 * k) 8) (rd s.rst.ckpt (16 * k + 8) 8)) s

/-- PLL_LOCKED: every PLL; the management controller starts, and both twins begin their image load. -/
def pllLocked (s : State) : State :=
  s.atPhase 3 fun s =>
    let s := s.modClk fun c => { c with phase := 4, locks := 255, mpll := true, mclk := true }
    let s := s.copyCheckpoint
    (s.modTwin .a fun w => { w with loading := true }).modTwin .b fun w => { w with loading := true }

/-- The expected signature of a test: target 0 twin A, 1 twin B, 2 shared plane; kind 1 LBIST, 2 MBIST (R499). -/
def expectSig (target kind : Nat) : Word :=
  match target, kind with
  | 0, 1 => 0x3A91C04E7B25D6F8
  | 0, 2 => 0x5E072B9C81D4A36F
  | 1, 1 => 0xC4D819A362F05B7E
  | 1, 2 => 0x8F6BE2150C9A47D3
  | 2, 2 => 0x17E49D5AB8306C2F
  | _, _ => 0

/-- SHARED_MBIST_DONE: a pass begins fabric discovery; a failure keeps the shared plane and the twins in reset. -/
def sharedMbist (sig : Word) (s : State) : State :=
  s.atPhase 4 fun s =>
    let ok := sig = expectSig 2 2
    s.modClk fun c => { c with sharedSig := sig, sharedResult := if ok then 1 else 2, phase := if ok then 5 else 7 }

/-! ### Images (R453, R502) -/

/-- A twin takes an image that it has read: its store, and what the header says. -/
def State.takeImage (s : State) (t : Side) (image : List Byte) : State :=
  let h := image.take 256
  s.modTwin t fun w =>
    { w with image := image, svn := rd h 6 2, mirrorFmt := rd h 0xC 1, mirrorMin := rd h 0xD 1, version := w64 (rd h 0x10 8) }

/-- IMAGE_LOAD_DONE: checks 3 to 6; the digest to the twin's slot and into slot 6; then the self-test (R453). Where the header
gives no length, the digest is of bytes that the manual does not fix. -/
def imageLoadDone (t : Side) (s : State) : State :=
  if !(s.twin t).loading || s.clk.phase = 7 then s
  else
    let s := s.modTwin t fun w => { w with loading := false }
    let h := s.flashRead imageBase 256
    let whole := decide (256 ≤ rd h 8 4) && decide (rd h 8 4 ≤ imageMax)
    let image := if whole then s.flashRead imageBase (rd h 8 4) else h
    let check := s.imageCheck t image
    let (digest, s) := if whole then (sha384 image, s) else s.freeBytes 48
    let s := (s.takeImage t image).measExtend 6 digest
    let s := s.fwLog t check
    if check = 0 then
      ((s.measSet (imageSlot t) digest).modTwin t fun w => { w with measured := true }).startTest t
        (if (s.twin t).boot then .start else .fwLoad) 3
    else ((s.measSet (imageSlot t) (List.replicate 48 0)).outOfService t).bootEnds t

/-- IMAGE_REMEASURE_DONE: checks 3 to 6 on the held copy; a pass goes on to the self-test (R502). -/
def imageRemeasureDone (t : Side) (s : State) : State :=
  let w := s.twin t
  if w.ret ≠ some .measure then s
  else
    let check := s.imageCheck t w.image
    if check = 0 then
      ((s.measSet (imageSlot t) (sha384 w.image)).modTwin t fun w => { w with measured := true, ret := some .test }).startTest t .returning 3
    else
      let s := (s.measSet (imageSlot t) (List.replicate 48 0)).fwLog t check
      s.outOfService t

/-! ### Self-test (R485 to R488, R491, R499) -/

/-- SELFTEST on a privileged queue. -/
def selftest (r : CmdRef) (s : State) : State :=
  begin r Op.selftest none s fun qn c s =>
    let t := Side.ofBool (tst (pw c.bytes 0) 0)
    let w := s.twin t
    if w.state ≠ .detached then s.finish qn c.slot E.outOfService 0
    else if w.test.isSome || w.loading then s.finish qn c.slot E.locked 0
    else s.startTest t (.command ⟨qn, c.slot⟩) (pf c.bytes 0 2 1)

/-- The result record of a SELFTEST, written before its reply (R486). -/
def State.testRecord (s : State) (r : CmdRef) (lbist mbist : Word) : State :=
  match (s.queue r.queue).cmd r.slot with
  | none => s
  | some c =>
    let a := pf c.bytes 8 56 4 * 16
    if a = 0 then s
    else
      let data := (leBytes 8 lbist.toNat ++ leBytes 8 mbist.toNat).map fun b => (b, false)
      let t := (s.target (s.queue r.queue).ctx a 16 .write).1
      match t with
      | .loc _ | .host _ _ => s.writePiece r.queue r.slot 0 ⟨0, a, 16, t⟩ data
      | .fail k _ => s.finish r.queue r.slot (reasonCode k) 0
      | _ => s

/-- A SELFTEST command ends with a code, unless what it writes has failed already. -/
def State.endTest (s : State) (r : CmdRef) (code : Nat) : State :=
  match (s.queue r.queue).cmd r.slot with
  | some c => if c.result.isSome then s else s.finish r.queue r.slot code 0
  | none => s

/-- SELFTEST_DONE: the signatures of the tests that ran; the twin is reset, and its generation advances. -/
def selftestDone (t : Side) (mbist lbist : Word) (s : State) : State :=
  match (s.twin t).test with
  | none => s
  | some (origin, kind) =>
    let l := kind % 2 = 1
    let m := 2 ≤ kind
    let pass := (!l || lbist = expectSig t.num 1) && (!m || mbist = expectSig t.num 2)
    let s := s.modTwin t fun w =>
      { w with
        test := none, testResult := if pass then 1 else 2, tested := pass
        sigL := if l then lbist else w.sigL, sigM := if m then mbist else w.sigM }
    let s := s.advanceGen (48 + t.num)
    let s := match origin with
      | .command r => s.testRecord r (if l then lbist else 0) (if m then mbist else 0)
      | _ => s
    if pass then
      match origin with
      | .start => s.bootEnds t
      | .returning => s.modTwin t fun w => { w with ret := some .load }
      | .command r => s.endTest r E.ok
      | .fwLoad => s
      | .management => if (s.twin t).state = .outOfService then s.twinGates t false else s
    else
      let s := s.fwLog t 5
      let s := if (s.twin t).state = .outOfService && !(s.twin t).boot then s.twinGates t false else s.outOfService t
      match origin with
      | .start => s.bootEnds t
      | .command r => s.endTest r E.outOfService
      | _ => s

/-- A supply warning stops a twin's self-test at once; a SELFTEST retires when work resumes (R488). -/
def State.stopTest (s : State) (t : Side) : State :=
  match (s.twin t).test with
  | none => s
  | some (origin, _) =>
    let s := s.modTwin t fun w =>
      { w with test := none, testResult := 3, tested := false, ret := if origin = .returning then none else w.ret }
    match origin with
    | .command r => s.modCmd r.queue r.slot fun c => c.finish E.aborted 0 (s.time.bnd + 1)
    | .start => (s.outOfService t).bootEnds t
    | _ => s

/-- PWRWARN_ASSERT with what it does to self-tests. -/
def warnAsserted (us : Nat) (s : State) : State := ((pwrwarnAssert us s).stopTest .a).stopTest .b

/-- A self-test through the management controller (R487, R488). -/
def State.bistGo (s : State) (t : Side) (kind : Nat) : Except Nat State :=
  let w := s.twin t
  if s.inSelftest t || w.loading then .error E.locked
  else if !(w.state = .detached || w.state = .outOfService) || w.boot then .error E.badField
  else .ok (s.startTest t .management kind)

/-- POWER_FAIL_RESET: everything returns to its reset value but what outlives a loss of supply: the checkpoint, the image store
and the fuses (R446, R454, R464). What has left the device has left it. -/
def powerFail (s : State) : State :=
  { State.reset with
    pending := s.pending, out := s.out, freeCtr := s.freeCtr
    rst := { State.reset.rst with ckpt := s.rst.ckpt }
    mgt := { State.reset.mgt with
      flash := s.mgt.flash, minSvn := s.mgt.minSvn, credLock := s.mgt.credLock, creds := s.mgt.creds, pages := s.mgt.pages } }

/-! ### Sources (R472, R478 to R480) -/

/-- A class B field of HX_CLK_SRC by its number 0 TCLK, 1 HCLK_S, 2 HCLK_A, 3 HCLK_B. -/
def Clk.field (c : Clk) (k : Nat) : Nat :=
  match k with
  | 0 => c.tclk
  | 1 => c.hclkS
  | 2 => c.hclk.a
  | _ => c.hclk.b

/-- The field takes a code. -/
def Clk.setField (c : Clk) (k v : Nat) : Clk :=
  match k with
  | 0 => { c with tclk := v }
  | 1 => { c with hclkS := v }
  | 2 => { c with hclk := c.hclk.set .a v }
  | _ => { c with hclk := c.hclk.set .b v }

/-- The twin whose clock a field is. -/
def clkTwin (k : Nat) : Option Side := if k = 2 then some .a else if k = 3 then some .b else none

/-- HX_CLK_SRC as it reads. -/
def Clk.src (c : Clk) : Nat :=
  fld (bit !c.pend.isEmpty) 12 + fld c.hclk.b 10 + fld c.hclk.a 8 + fld c.hclkS 6 + fld c.tclk 4 + fld (bit c.mclk) 1 + bit c.aclk

/-- CLOCK_SOURCE_WRITE: the checks of R478 and R479 in their order, class B first. -/
def State.clkSrcWrite (s : State) (v : Nat) : Except Nat State :=
  let c := s.clk
  let want := fun (k : Nat) => bits v (5 + 2 * k) (4 + 2 * k)
  let changed := [0, 1, 2, 3].filter fun k => want k ≠ c.field k
  let serving := fun (k : Nat) => match clkTwin k with | some t => s.carries t | none => false
  let testing := fun (k : Nat) => match clkTwin k with | some t => s.inSelftest t | none => false
  if !changed.isEmpty && !c.pend.isEmpty then .error E.locked
  else if changed.any fun k => want k = 3 || (want k = 2 && decide (k < 2)) then .error E.badField
  else if changed.any fun k => (want k = 2 && serving k) || testing k then .error E.locked
  else if changed.any fun k => decide (want k < 2) && !tst c.locks (2 * k + want k) then .error E.sourceNotReady
  else
    let a := tst v 0
    let m := tst v 1
    if (a != c.aclk && !tst c.seen (if a then 1 else 0)) || (m != c.mclk && !tst c.seen (if m then 2 else 0)) then
      .error E.sourceNotReady
    else
      let late := fun (k : Nat) => k = 1 || serving k
      let s := s.modClk fun c => { c with aclk := a, mclk := m, pend := c.pend ++ changed.map fun k => (4 + 2 * k, want k, late k) }
      .ok (if changed.any late then s.modPlan fun p => { p with forClock := true } else s)

/-- Class B switches of a boundary; `epoch`: a throttle epoch begins (R479). -/
def State.clkSwitch (s : State) (epoch : Bool) : State :=
  let now := s.clk.pend.filter fun (_, _, late) => !late || epoch
  s.modClk fun c =>
    let c := now.foldl (fun c (lo, v, _) => c.setField ((lo - 4) / 2) v) c
    { c with pend := c.pend.filter fun (_, _, late) => late && !epoch }

/-- HX_CLK_STATUS as it reads. -/
def Clk.status (c : Clk) : Nat :=
  fld (bit c.xtalFail) 47 + fld (bit c.xtalLost) 46 + fld c.lost 41 + fld c.locks 8 + fld (bit c.mpll) 2 + fld (bit c.xtal) 1 + bit c.iosc

/-- A read of HX_CLK_STATUS marks the ready flags that it returns as 1 (R478). -/
def Clk.markSeen (c : Clk) : Clk := { c with seen := Nat.lor c.seen (bit c.iosc + 2 * bit c.xtal + 4 * bit c.mpll) }

/-- A lock flag falls; where the PLL is in use, what R480 says. -/
def State.loseLock (s : State) (k : Nat) (spare : Bool) : State :=
  let s := s.modClk fun c => { c with locks := setBit c.locks (2 * k + bit spare) false }
  if s.clk.field k ≠ bit spare then s
  else
    let s := s.modClk fun c => { c with lost := setBit c.lost (3 - k) true }
    match clkTwin k with
    | some t => if s.carries t then s.failAt t .clock else s
    | none =>
      if tst s.clk.locks (2 * k + bit !spare) then s.modClk fun c => { c.setField k (bit !spare) with cutS := c.cutS || decide (k = 1) }
      else s.modClk fun c => { c with dead := true }

/-- MPLL loses lock: MCLK moves at once to IOSC direct. -/
def State.loseMpll (s : State) : State :=
  s.modClk fun c => { c with mpll := false, mclk := false, seen := setBit c.seen 2 false, lost := setBit c.lost 4 true }

/-- PLL_LOSS_OF_LOCK. -/
def pllLoss (p : Pll) (s : State) : State :=
  match p with
  | .mpll => s.loseMpll
  | .tclk spare => s.loseLock 0 spare
  | .hclkS spare => s.loseLock 1 spare
  | .hclk t spare => s.loseLock (2 + t.num) spare

/-- XTAL_LOST: ACLK and MCLK move to IOSC, and every PLL then loses lock. -/
def xtalLost (s : State) : State :=
  let s := s.modClk fun c => { c with aclk := false, xtal := false, xtalLost := true, locks := 0, seen := setBit c.seen 1 false }
  [0, 1, 2, 3].foldl (fun s k => (s.loseLock k false).loseLock k true) s.loseMpll

/-! ### Gates (R481 to R483) -/

/-- The position in which a gate is locked, when it is. -/
def State.gateLock (s : State) (n : Nat) : Option Bool :=
  let on := fun (b : Bool) => if b then some true else none
  if n = 0 then some true
  else if n = 1 then
    on ((s.objs.any fun (_, o) => decide (o.state ≠ .free) && tst o.attr 15) ||
      s.coh.lines.any fun l => l.agent = .cache && decide (l.state ≠ .i))
  else if n = 2 then on (!s.fab.colls.isEmpty || s.fab.global.isSome)
  else if n < 27 then on ((Tbl.get FabLink.none s.fab.links (n - 3)).up)
  else if n < 37 then
    let t := Side.ofBool (decide (32 ≤ n))
    if s.carries t || s.inSelftest t then some true
    else if (s.twin t).standby || ((s.twin t).state = .outOfService) then some false
    else none
  else if n = 37 then if s.clk.xtalFail then some false else none
  else if n = 38 then on s.mgt.creds.isEmpty
  else on (s.mgt.flashBusy.isSome || (s.twin .a).loading || (s.twin .b).loading)

/-- A gate is on: where a condition locks it, in the position in which Harson holds it. The gates of the twins Harson operates itself
(R483). -/
def State.gateOn (s : State) (n : Nat) : Bool :=
  if 27 ≤ n ∧ n < 37 then tst s.clk.gates n else (s.gateLock n).getD (tst s.clk.gates n)

/-- HX_CLK_GATE as it reads. -/
def State.gateWord (s : State) : Nat := ((List.range 40).map fun n => fld (bit (s.gateOn n)) n).sum

/-- A boundary keeps the positions in which gates have been held, and the shared plane's units go on (R480, R481). -/
def State.clkBoundary (s : State) : State := s.modClk fun c => { c with gates := s.gateWord, cutS := false }

/-- A gate's parent. -/
def gateParent (n : Nat) : Option Nat :=
  if 1 ≤ n ∧ n ≤ 26 then some 0 else if 28 ≤ n ∧ n ≤ 31 then some 27 else if 33 ≤ n ∧ n ≤ 36 then some 32 else none

/-- CLOCK_GATE_WRITE, checked as a whole against the state that it would leave (R482; log entry 36 says why the third check is
never the first to fail). -/
def State.gateWrite (s : State) (v : Nat) : Except Nat State :=
  let all := List.range 40
  let under := fun (n : Nat) => match gateParent n with | some p => tst v n && !tst v p | none => false
  if all.any fun n => tst v n != s.gateOn n && (s.gateLock n).isSome then .error E.locked
  else if all.any under then .error E.gateBusy
  else .ok (s.modClk fun c => { c with gates := v })

/-! ### Frequency counter (R484) -/

/-- The clock of a code is stopped or gated. -/
def State.clkStopped (s : State) (code : Nat) : Bool :=
  let c := s.clk
  let off := fun (t : Side) => !tst c.gates (gateBase t) || (if c.field (2 + t.num) = 2 then !c.xtal else !tst c.locks (4 + 2 * t.num + c.field (2 + t.num)))
  match code with
  | 1 => !c.xtal
  | 4 | 5 => c.dead
  | 6 => off .a
  | 7 => off .b
  | 8 => !tst c.locks (1 - c.tclk)
  | 9 => !tst c.locks (2 + (1 - c.hclkS))
  | 0xA => !tst c.locks (4 + (1 - c.hclk.a))
  | 0xB => !tst c.locks (6 + (1 - c.hclk.b))
  | _ => false

/-- FCNT_GO: a count starts, and any that runs stops. -/
def State.fcntGo (s : State) : State := s.modClk fun c => { c with busy := true, done := false, timeout := false, count := 0 }

/-- The cycles that a count has seen: none of a stopped target. -/
def State.fcntSeen (s : State) (count : Nat) : Nat :=
  if s.clkStopped (bits s.clk.fcnt.toNat 27 24) then 0 else count % 2 ^ 32

/-- FCNT_DONE: the window ends. -/
def fcntDone (count : Nat) (s : State) : State :=
  if !s.clk.busy then s else s.modClk fun c => { c with busy := false, done := true, count := s.fcntSeen count }

/-- FCNT_TIMEOUT: 2^25 ACLK cycles after GO. -/
def fcntTimeout (count : Nat) (s : State) : State :=
  if !s.clk.busy then s else s.modClk fun c => { c with busy := false, done := true, timeout := true, count := s.fcntSeen count }

/-! ### Standby (R411, R413, R488) -/

/-- STANDBY_REQUEST for a twin. -/
def State.standbyAsk (s : State) (t : Side) : Except Nat State :=
  if (s.twin t).state ≠ .detached then .error E.badField
  else if s.inSelftest t then .error E.locked
  else .ok (s.modTwin t fun w => { w with standbyReq := true })

/-- Standby begins at a boundary. -/
def State.standbyStep (s : State) (t : Side) : State :=
  if !(s.twin t).standbyReq then s
  else
    let s := s.modTwin t fun w => { w with standbyReq := false }
    if (s.twin t).state = .detached then (s.modTwin t fun w => { w with standby := true }).twinGates t false else s

end Sys2Proof.Machine
end

