-- ==== Sys2Proof/Machine/Fabric.lean ====
section
/-! DEFINITION. Packets of the fabric at this device, window grants, proxy fences and peer groups (11: R359 to R361, R366 to
R382, R395, R396). -/

namespace Sys2Proof.Machine

/-! ### Acknowledgement (R373 to R375) -/

/-- What follows from packets that their destination has delivered: the commands' counts, and OFFERED of a grant. -/
def State.freed (s : State) (l : List FabSent) : State :=
  l.foldl
    (fun s x =>
      match x.pkt.ref with
      | some (r, _) => s.modRef r fun c => { c with peerLeft := c.peerLeft - 1 }
      | none =>
        if x.pkt.kind = K.grantOffer then
          s.modGrant x.pkt.grant fun g => if g.tag = x.pkt.tag && g.enable then { g with offered := !g.refused } else g
        else s) s

/-- A sent packet that an ACK covers. -/
def FabSent.covered (x : FabSent) (valid : Nat) (upTo : List Nat) : Bool :=
  tst valid x.cls && decide ((upTo.getD x.cls 0 + 65536 - x.pseq) % 65536 < 32768)

/-- ACK: what it covers is freed, and the timer begins again (R375). -/
def takeAck (h : FabHdr) (valid : Nat) (upTo : List Nat) (s : State) : State :=
  let x := s.path h.src
  let gone := x.unacked.filter fun y => y.covered valid upTo
  let left := x.unacked.filter fun y => !y.covered valid upTo
  if gone.isEmpty then s
  else
    (s.modPath h.src fun x =>
      { x with
        unacked := left, changes := 0
        timer := if left.any fun y => needsAck y.pkt.kind then some (s.time.bnd + s.ackTicks) else none }).freed gone

/-- Data sent again counts against the link allotments of the queues that it belongs to, eight packets to a unit (R320, R374). -/
def State.countResent (s : State) (d : Nat) (l : List FabSent) : State :=
  let qs := (l.filterMap fun y => if y.cls = 1 then y.pkt.ref.map fun r => r.1.queue else none)
  qs.eraseDups.foldl (fun s q => s.useLinks q [((s.route d).link, (qs.count q + 7) / 8)]) s

/-- PFACK: what the destination delivered under the generation before is freed, the rest is sent again (R374). -/
def takePfack (h : FabHdr) (counts : List Nat) (s : State) : State :=
  let x := s.path h.src
  if x.fence.isNone then s
  else
    let first := fun (k : Nat) => ((x.unacked.find? fun y => y.cls = k).map (·.pseq)).getD 0
    let gone := x.unacked.filter fun y =>
      decide ((y.pseq + 65536 - first y.cls) % 65536 < (counts.getD y.cls 0 + 65536 - first y.cls) % 65536)
    ((s.pfackDeliver h.src counts).countResent h.src (x.unacked.filter fun y => !gone.contains y)).freed gone

/-- PATHFENCE: the transport has adopted the generation; the answer counts what came under the one before. -/
def takePathfence (h : FabHdr) (old : FabRx) (s : State) : State :=
  s.sendPfack h.src { plainPkt K.pfack old.expect with addr := 15 }

/-- A command whose units are all written ends because one of them did not reach its peer: its residue begins there. -/
def Cmd.loseUnit (c : Cmd) (u code now : Nat) : Cmd :=
  if c.result.isSome && c.result ≠ some E.ok then c
  else
    { c with
      result := some code
      residue := if isEngine (hOpcode c.bytes) then streamLen c.bytes - min (streamLen c.bytes) (4096 * u) else c.residue
      doneAt := now }

/-- A command ends because of what happened to one of its units on the fabric. -/
def State.loseUnit (s : State) (r : CmdRef) (u code : Nat) : State :=
  match (s.queue r.queue).cmdAt r.slot with
  | none => s
  | some c => if c.result.isSome then s.modRef r fun c => c.loseUnit u code s.time.bnd else s.endUnit r.queue c.slot u code

/-- The grants held of a device are dropped (R380). -/
def State.dropHeld (s : State) (p : HeldGrant → Bool) : State :=
  s.modFab fun f => { f with have_ := f.have_.filter fun (_, g) => !p g }

/-- A proxy that breaks is an event of its context, PROXY_BROKEN (R398, R449). -/
def State.proxyEvent (s : State) (old new : Fence) : State :=
  if new.state = .broken && old.state ≠ .broken then s.ctxReport old.owner 2 new.code s.time.last else s

/-- The proxies of fences of a device break. -/
def State.breakProxies (s : State) (p : Nat × Nat → Bool) (code : Nat) : State :=
  s.fences.foldl
    (fun s (i, f) =>
      match f.proxy with
      | some x => if p x then (s.breakFence i code).proxyEvent f (f.breakWith code) else s
      | none => s) s

/-- A destination is lost (R375, R380, R381, R347, R350): the commands that wait for it end with HX_E_LINK_LOST, its proxies
break, the grants held of it are dropped, its agents are dead at this home and its lines leave the remote line cache. -/
def State.deviceLost (s : State) (st d : Nat) : State :=
  let x := s.path d
  let sent := x.unacked.map (·.pkt) ++ x.waiting
  let s := s.modRoute d fun r => { r with unreach := true, change := false }
  let s := s.modPath d fun x => { x with unacked := [], waiting := [], fence := none, timer := none, changes := 0 }
  let s := sent.foldl
    (fun s p =>
      match p.ref with
      | some (r, u) => (s.loseUnit r u E.linkLost).modRef r fun c => { c with peerLeft := c.peerLeft - 1 }
      | none => s) s
  let s := (s.fab.reads.filter fun r => r.dev = d).foldl
    (fun s r => s.endUnit r.queue r.slot r.unit E.linkLost) s
  let s := (s.fab.invals.filter fun x => x.1 = d).foldl
    (fun s (_, _, r, _) => s.modRef r fun c => { c with result := some E.linkLost, invLeft := c.invLeft - 1 }) s
  let s := s.emits ((s.fab.bypass.filter fun x => x.1 = d).map fun (_, _, a, line) => .agentFail a d line E.linkLost 1)
  let s := s.modFab fun f =>
    { f with
      reads := f.reads.filter fun r => r.dev ≠ d, invals := f.invals.filter fun x => x.1 ≠ d, bypass := f.bypass.filter fun x => x.1 ≠ d }
  let s := (s.breakProxies (fun x => x.1 = d) E.linkLost).dropHeld fun g => g.dev = d
  (s.declareDead st (ptrCache d)).dropLines d

/-- ACK_TIMEOUT: a path change at the next boundary, or after four without progress the destination is lost. -/
def ackTimeout (d : Nat) (s : State) : State :=
  let x := s.path d
  match x.timer with
  | none => s
  | some t =>
    if s.time.bnd < t then s
    else if x.changes ≥ 4 then s.stamped (.ackTimeout d) fun st s => s.deviceLost st d
    else (s.modPath d fun x => { x with timer := none, changes := x.changes + 1 }).modRoute d fun r => { r with change := true }

/-! ### Peer accesses (R366, R367, R378) -/

/-- A packet's data with the poison of its marks. -/
def marked (data : List Byte) (marks : Nat) : List PByte := data.zipIdx.map fun (b, i) => (b, tst marks (i / 32))

/-- The write of an admitted WRITE; it waits for the lines that agents hold (R325). -/
def serveWrite (c : Instr) (h : FabHdr) (data : List Byte) (marks : Nat) (s : State) : State :=
  s.uncached (.cmd c) [] [(h.addr, data.length)] fun s =>
    (s.setMem (s.mem.storeP h.addr (marked data marks))).disturb none [(h.addr, data.length)]

/-- A WRITE: made under its grant, or refused. -/
def takeWrite (c : Instr) (h : FabHdr) (data : List Byte) (marks : Nat) (s : State) : State :=
  if s.grantOk h data.length 1 then serveWrite c h data marks s else s.nakTo h E.peerDenied

/-- The RDATA of an admitted READ. -/
def serveRead (c : Instr) (h : FabHdr) (len : Nat) (s : State) : State :=
  s.uncached (.cmd c) [(h.addr, len)] [] fun s =>
    let l := s.mem.readP h.addr len
    s.fabSend h.src { plainPkt K.rdata [] with tag := h.tag, rgen := h.rgen, data := l.map (·.1), marks := marksOf l }

/-- A READ. -/
def takeRead (c : Instr) (h : FabHdr) (len : Nat) (s : State) : State :=
  if s.grantOk h len 0 then serveRead c h len s else s.nakTo h E.peerDenied

/-- The read that a reply answers. -/
def State.readOf (s : State) (h : FabHdr) : Option FabRead := s.fab.reads.find? fun r => r.dev = h.src && r.tag = h.tag

/-- A read that has been answered. -/
def State.dropRead (s : State) (h : FabHdr) : State :=
  s.modFab fun f => { f with reads := f.reads.filter fun r => !(r.dev = h.src && r.tag = h.tag) }

/-- The reply to a read that an agent made uncached (R327): its data, or the code of its refusal. -/
def State.bypassed (s : State) (h : FabHdr) (k : Agent → Nat → Out) : State :=
  match s.fab.bypass.find? fun x => x.1 = h.src && x.2.1 = h.tag with
  | some (d, t, a, line) =>
    (s.modFab fun f => { f with bypass := f.bypass.filter fun x => !(x.1 = d && x.2.1 = t) }).emit (k a line)
  | none => s

/-- RDATA. -/
def takeRdata (c : Instr) (h : FabHdr) (data : List Byte) (marks : Nat) (s : State) : State :=
  match s.readOf h with
  | none => s.bypassed h fun a line => .agentData a h.src line data marks
  | some r =>
    if (s.queue r.queue).gen ≠ h.rgen then (s.dropRead h).staleQueue
    else if data.length ≠ r.len then s
    else s.stamped c fun _ s => (s.dropRead h).sourceArrived r.queue r.slot r.unit r.offset (marked data marks)

/-- NAK: the command whose access was refused ends with its code; an offer is refused. -/
def takeNak (c : Instr) (h : FabHdr) (code : Nat) (s : State) : State :=
  match s.readOf h, s.fab.writes.reverse.find? fun w => w.dev = h.src && w.tag = h.tag with
  | some r, _ =>
    if (s.queue r.queue).gen ≠ h.rgen then (s.dropRead h).staleQueue
    else s.stamped c fun _ s => (s.dropRead h).endUnit r.queue r.slot r.unit code
  | none, some w =>
    if (s.queue w.queue).gen ≠ h.rgen then s.staleQueue
    else s.stamped c fun _ s => s.loseUnit ⟨w.queue, w.slot % (s.queue w.queue).slots⟩ w.unit code
  | none, none =>
    match s.fab.grants.find? fun (_, g) => g.enable && g.holder = h.src && g.tag = h.tag with
    | some (i, _) => s.stamped c fun _ s => s.modGrant i fun g => { g with refused := true, offered := false }
    | none => s.bypassed h fun a line => .agentFail a h.src line code 1

/-! ### Invalidation of peers (R382) -/

/-- INVAL. -/
def takeInval (c : Instr) (h : FabHdr) (clusters : Nat) (ranges : List (Nat × Nat)) (s : State) : State :=
  s.stamped c fun _ s =>
    let live := s.liveDomains clusters
    if live = 0 || ranges.isEmpty then s.fabSend h.src { plainPkt K.invalDone [] with tag := h.tag, rgen := h.rgen }
    else
      (s.modFab fun f =>
        { f with
          served := f.served ++ [(h.src, h.tag, h.rgen, (domainsOf live).map fun n => (n, ranges.length))]
          invRest := f.invRest ++ ranges.map fun x => ⟨⟨16384 + h.src, h.tag⟩, none, live, [x]⟩ }).servedRest

/-- One range of a peer's invalidation is complete at one domain; after the last the peer is told. -/
def State.servedDone (s : State) (src tag n : Nat) : State :=
  match s.fab.served.find? fun x => x.1 = src && x.2.1 = tag with
  | none => s
  | some (_, _, g, left) =>
    let rest := s.fab.served.filter fun x => !(x.1 = src && x.2.1 = tag)
    let left := lessAt left n
    if left.isEmpty then
      (s.modFab fun f => { f with served := rest }).fabSend src { plainPkt K.invalDone [] with tag := tag, rgen := g }
    else s.modFab fun f => { f with served := rest ++ [(src, tag, g, left)] }

/-- INVAL_DONE. -/
def takeInvalDone (c : Instr) (h : FabHdr) (s : State) : State :=
  match s.fab.invals.find? fun x => x.1 = h.src && x.2.1 = h.tag with
  | none => s
  | some (_, _, r, _) =>
    let drop := fun (s : State) => s.modFab fun f => { f with invals := f.invals.filter fun x => !(x.1 = h.src && x.2.1 = h.tag) }
    if (s.queue r.queue).gen ≠ h.rgen then (drop s).staleQueue
    else s.stamped c fun _ s => (drop s).peerInvDone r

/-! ### Grants (R377 to R380) -/

/-- HX_FAB_GRANT_SEL with COMMIT: the checks of R377, in order. -/
def State.grantCommit (s : State) (i d0 d1 d2 d3 : Nat) : Except Nat State :=
  let holder := bits d0 63 50
  let ctx := bits d0 37 26
  let fence := tst d0 4
  let rights := bits d0 2 0
  let target := bits d1 31 0
  let offset := bits d2 63 16 * 65536
  let size := bits d3 24 0
  let o := s.obj (target % 2 ^ 22)
  let live := if fence then (match s.fenceOf target with | some f => f.owner = ctx | none => false) else o.state ≠ .free && o.owner = ctx
  if !live then .error E.badHandle
  else if !fence && o.state = .retiring then .error E.objectRetiring
  else if !fence && o.attr % 2 = 1 then .error E.badHandle
  else if fence && !(size = 0 && offset = 0 && rights = 0) then .error E.badLength
  else if !fence && offset + 65536 * size > 65536 * o.size64k then .error E.badLength
  else if holder = s.fab.device || (s.route holder).unreach || (!fence && rights = 0) then .error E.badField
  else
    let g := s.grant i
    let tag := s.fab.nextTag
    let gen := (g.ggen + 1) % 256
    let s := s.modGrant i fun _ =>
      { holder := holder, holderCtx := bits d0 49 38, ctx := ctx, offered := false, refused := false, enable := true,
        fence := fence, rights := rights, ggen := gen, target := target, offset := offset, size64k := size, ending := false,
        tag := tag % 4096 }
    let base := if fence then 0 else o.base + offset
    .ok ((s.modFab fun f => { f with nextTag := tag + 1 }).fabSend holder
      { plainPkt K.grantOffer [base, 65536 * size, rights, bits d0 49 38, bit fence] with
        grant := i, ggen := gen, tag := tag % 4096 })

/-- HX_FAB_GRANT_SEL with CLEAR: the grant ends at the next boundary (R379). -/
def State.grantClear (s : State) (i : Nat) : State := if (s.grant i).enable then s.modGrant i fun g => { g with ending := true } else s

/-- What a grant names is no longer there: its object is not LIVE, or its fence has been freed. -/
def State.grantGone (s : State) (g : GrantEnt) : Bool :=
  if g.fence then (s.fenceOf g.target).isNone
  else (s.obj (g.target % 2 ^ 22)).state ≠ .live || (s.obj (g.target % 2 ^ 22)).owner ≠ g.ctx

/-- Grants that end at this boundary (R379). -/
def State.endGrants (s : State) : State :=
  s.fab.grants.foldl
    (fun s (i, g) =>
      if g.enable && (g.ending || s.grantGone g) then
        let gen := (g.ggen + 1) % 256
        (s.modGrant i fun g => { g with enable := false, ending := false, offered := false, ggen := gen }).fabSend g.holder
          { plainPkt K.grantRevoke [] with grant := i, ggen := gen }
      else s) s

/-- The lowest free place among the grants held. -/
def State.heldPlace (s : State) : Option Nat :=
  if s.fab.have_.length ≥ 65536 then none
  else (List.range (s.fab.have_.length + 1)).find? fun i => (Tbl.find s.fab.have_ i).isNone

/-- GRANT_OFFER: recorded, in place of the same grant's earlier record, or refused for want of room. -/
def takeOffer (c : Instr) (h : FabHdr) (base size rights ctx : Nat) (fence : Bool) (s : State) : State :=
  s.stamped c fun _ s =>
    let g : HeldGrant :=
      { dev := h.src, id := h.grant, ggen := h.ggen, base := base, size := size, rights := rights, ctx := ctx, fence := fence }
    match s.heldGrant h.src h.grant, s.heldPlace with
    | some (i, _), _ | none, some i => s.modFab fun f => { f with have_ := Tbl.put f.have_ i g }
    | none, none => s.nakTo h E.peerDenied

/-- GRANT_REVOKE: the grant is no longer held, and its proxies break (R379, R381). -/
def takeRevoke (c : Instr) (h : FabHdr) (s : State) : State :=
  s.stamped c fun _ s =>
    (s.dropHeld fun g => g.dev = h.src && g.id = h.grant).breakProxies (fun x => x = (h.src, h.grant)) E.peerDenied

/-! ### Proxies (R381, R396) -/

/-- HX_FAB_PROXY_SEL with BIND. The owner learns of the binding by a FENCE_UPD toward it whose operand is 1, and answers with
the fence's state (DEDUCED, log entry 38). -/
def State.proxyBind (s : State) (handle dev id : Nat) : Except Nat State :=
  match s.fenceOf handle, s.heldGrant dev id with
  | none, _ => .error E.badHandle
  | some _, none => .error E.peerDenied
  | some f, some (_, g) =>
    if !g.fence then .error E.peerDenied
    else if f.owner ≠ g.ctx || f.mode ≠ 0 || f.signallers > 0 || f.proxy.isSome then .error E.badHandle
    else
      .ok ((s.modFence (fIndex handle) fun f => { f with proxy := some (dev, id) }).fabSend dev
        { plainPkt K.fenceUpd [] with grant := id, ggen := g.ggen, addr := 1 })

/-- HX_FAB_PROXY_SEL with UNBIND. -/
def State.proxyUnbind (s : State) (handle : Nat) : Except Nat State :=
  match s.fenceOf handle with
  | none => .error E.badHandle
  | some f => if f.proxy.isNone then .error E.badHandle else .ok (s.modFence (fIndex handle) fun f => { f with proxy := none })

/-- A proxy after an update: VALUE only rises, a BROKEN state is copied with its first code. -/
def Fence.update (f : Fence) (value st code scope : Nat) : Fence :=
  let f := { f with value := max f.value value, scope := scope }
  if f.state = .broken then f
  else if st = 2 then f.breakWith code
  else { f with state := if st = 1 then .signalled else .pending }

/-- FENCE_UPD: the owner's fence as it stands, or a binding that asks for it. -/
def takeFenceUpd (c : Instr) (h : FabHdr) (value st code scope : Nat) (s : State) : State :=
  s.stamped c fun _ s =>
    if h.addr = 1 then
      let g := s.grant h.grant
      if g.enable && g.fence && g.holder = h.src then s.notifyFence (fIndex g.target) else s
    else
      s.fences.foldl
        (fun s (i, f) =>
          if f.proxy = some (h.src, h.grant) then
            let g := f.update value st code scope
            (s.putFence i g).proxyEvent f g
          else s) s

/-! ### Groups (R360, R361) -/

/-- Something under way names a group. -/
def State.groupUsed (s : State) (g : Nat) : Bool :=
  (s.queues.any fun (_, q) => q.cmds.any fun c => hOpcode c.bytes = Op.collective && pf c.bytes 16 63 48 = g) ||
    (match s.plan.pend with | some m => m.fabric && m.group = g | none => false) ||
    (s.coh.domains.any fun (_, d) => d.valid && d.group = g) ||
    (match s.fab.global with | some x => x.group = g | none => false)

/-- The digest of a member list. -/
def listDigest (l : List Nat) : List Byte := sha384 (l.flatMap fun d => leBytes 2 d)

/-- Rank 0 answers members. -/
def State.groupAnswer (s : State) (g : Nat) (dest : List Nat) (agree : Bool) : State :=
  dest.foldl (fun s d => s.fabSend d (plainPkt K.group [g, bit agree])) s

/-- Rank 0 compares the digests that have come with its own; a member that commits after the agreement has failed learns it too. -/
def State.groupJudge (s : State) (g : Nat) : State :=
  let x := s.group g
  if x.members = 0 || x.rank ≠ 0 || x.answered then s
  else if x.mismatch then
    if x.first.any fun t => decide (s.time.bnd < t + 4096) then
      (s.modGroup g fun x => { x with early := [] }).groupAnswer g (x.early.map (·.1)) false
    else s
  else
    let own := listDigest x.list
    let came := x.early.map (·.1)
    if x.early.any fun (_, d) => d ≠ own then
      (s.modGroup g fun x => { x with mismatch := true, valid := false, early := [] }).groupAnswer g (x.matched ++ came).eraseDups false
    else
      let m := (x.matched ++ came).eraseDups
      if m.length + 1 = x.members then
        (s.modGroup g fun x => { x with matched := m, early := [], answered := true }).groupAnswer g m true
      else s.modGroup g fun x => { x with matched := m, early := [] }

/-- HX_FAB_GROUP_SEL with COMMIT. -/
def State.groupCommit (s : State) (g members list : Nat) : Except Nat State :=
  let o := s.obj list
  let ids := (List.range members).map fun i => leNat (s.mem.readN (o.base + 2 * i) 2)
  let held := (s.group g).members > 0
  if g = 0 || members = 0 || members > 16384 then .error E.badField
  else if o.state ≠ .live || o.owner > 1 then .error E.badHandle
  else if 2 * members > 65536 * o.size64k then .error E.badLength
  else if !ids.contains s.fab.device then .error E.badField
  else if s.groupUsed g then .error E.locked
  else if !held && decide ((s.fab.groups.countP fun (_, x) => decide (x.members > 0)) ≥ 1024) then .error E.badLength
  else
    let early := (s.group g).early
    let first := (s.group g).first
    let rank := ids.idxOf s.fab.device
    let s := s.modGroup g fun _ =>
      { members := members, rank := rank, obj := list, list := ids, valid := false, mismatch := false, matched := []
        early := if rank = 0 then early else [], first := some (if early.isEmpty then s.time.bnd else first.getD s.time.bnd)
        answered := false }
    .ok (if rank = 0 then s.groupJudge g
      else s.fabSend (ids.headD 0) { plainPkt K.group [g] with data := listDigest ids })

/-- HX_FAB_GROUP_SEL with CLEAR. -/
def State.groupClear (s : State) (g : Nat) : Except Nat State :=
  if g = 0 then .error E.badField
  else if s.groupUsed g then .error E.locked
  else .ok (s.modGroup g fun _ => Group.none)

/-- GROUP_DIGEST_RECEIPT: rank 0 keeps a member's digest and compares once it has its own. -/
def takeDigest (c : Instr) (h : FabHdr) (g : Nat) (d : List Byte) (s : State) : State :=
  s.stamped c fun _ s =>
    (s.modGroup g fun x =>
      { x with early := x.early ++ [(h.src, d)], first := some (x.first.getD s.time.bnd) }).groupJudge g

/-- GROUP_DIGEST_ANSWER. -/
def takeAnswer (c : Instr) (h : FabHdr) (g : Nat) (agree : Bool) (s : State) : State :=
  s.stamped c fun _ s =>
    if (s.group g).members = 0 || (s.group g).list.head? ≠ some h.src then s
    else s.modGroup g fun x => if agree then { x with answered := true } else { x with mismatch := true, valid := false, answered := false }

/-- GROUP_AGREE_TIMEOUT: 4,096 ticks have passed since the first commit and the members do not agree. -/
def groupAgreeTimeout (g : Nat) (s : State) : State :=
  let x := s.group g
  match x.first with
  | none => s
  | some t =>
    if x.members = 0 || x.valid || x.answered || x.mismatch || decide (s.time.bnd < t + 4096) then s
    else
      let s := s.modGroup g fun x => { x with mismatch := true }
      if x.rank = 0 then s.groupAnswer g x.matched false else s

/-- Groups whose answer has arrived are VALID (R360). -/
def State.groupsBoundary (s : State) : State :=
  s.modFab fun f =>
    { f with groups := Tbl.mapVal (fun _ (x : Group) => if x.answered && !x.mismatch then { x with valid := true } else x) f.groups }

/-! ### Routes at a boundary (R372, R376, R395) -/

/-- HX_FAB_ROUTE_SEL with COMMIT. -/
def State.routeCommit (s : State) (d alts : Nat) : Except Nat State :=
  let l := (List.range 4).filterMap fun i => altLink alts i
  if d = s.fab.device || l.isEmpty || l.any fun k => decide (k > 23) then .error E.badField
  else .ok (s.modRoute d fun r => { r with next := some alts })

/-- HX_FAB_ROUTE_SEL with REPIN. -/
def State.repin (s : State) (d : Nat) : State := s.modRoute d fun r => { r with change := true }

/-- A route's new alternatives: an active link that stays keeps its path; one that goes is a path change. -/
def Route.install (r : Route) (alts hops delay : Nat) (clear : Bool) : Route :=
  let kept := r.link.isSome && (List.range 4).any fun i => altLink alts i = r.link
  let at_ := ((List.range 4).find? fun i => altLink alts i = r.link).getD 0
  { r with
    alts := alts, hops := hops, delay := delay
    active := if kept then at_ else if r.link.isSome then r.active else 0
    next := .none, fresh := .none
    unreach := r.unreach && !(clear && alts ≠ 0), change := r.change || (r.link.isSome && !kept && alts ≠ 0) }

/-- Part 6 of the boundary event: committed and refreshed alternatives, then the path changes that are due. -/
def State.pathEvents (s : State) : State :=
  s.fab.routes.foldl
    (fun s (d, r) =>
      let s := match r.fresh with
        | some (a, h, y) => if a = 0 then (s.modRoute d fun r => r.install 0 0 0 false).deviceLost s.boundaryStamp d else s.modRoute d fun r => r.install a h y true
        | none => s
      let s := match r.next with | some a => s.modRoute d fun r => r.install a r.hops r.delay false | none => s
      if (s.route d).change && !(s.route d).unreach then s.pathChange d else s) s

/-! ### Delivery -/

/-- FENCE_UPD, INVAL and the other control packets with the effect that follows their delivery; also RDATA and NAK. -/
def fabParts : Instr → Option (FabHdr × Nat × (State → State))
  | .fenceUpd h v st code scope => some (h, K.fenceUpd, takeFenceUpd (.fenceUpd h v st code scope) h v st.val code scope)
  | .inval h cl l => some (h, K.inval, takeInval (.inval h cl l) h cl l)
  | .invalDone h => some (h, K.invalDone, takeInvalDone (.invalDone h) h)
  | .grantOffer h b n r c f => some (h, K.grantOffer, takeOffer (.grantOffer h b n r c f) h b n r c f)
  | .grantRevoke h => some (h, K.grantRevoke, takeRevoke (.grantRevoke h) h)
  | .groupDigestReceipt h g d => some (h, K.group, takeDigest (.groupDigestReceipt h g d) h g d)
  | .groupDigestAnswer h g a => some (h, K.group, takeAnswer (.groupDigestAnswer h g a) h g a)
  | .rdata h d m => some (h, K.rdata, takeRdata (.rdata h d m) h d m)
  | .nak h code => some (h, K.nak, takeNak (.nak h code) h code)
  | _ => none

end Sys2Proof.Machine
end

