-- ==== Sys2Proof/Machine/Discovery.lean ====
section
/-! DEFINITION. Discovery, the tree and its map, routes, beacons and joins, links going up and down, and the global operations
(11: R362 to R365, R371, R376, R390 to R392). -/

namespace Sys2Proof.Machine

/-! ### This device among its neighbours -/

/-- The shared plane is up: discovery has begun (R477). -/
def State.discovering (s : State) : Bool := s.clk.phase = 5

/-- This device's serial number. -/
def ownSerial : Nat := Config.serial.toNat

/-- The pinned id, when HX_FAB_ID_CTL has one. -/
def State.pinId (s : State) : Option Nat := if tst s.fab.idCtl.toNat 14 then some (bits s.fab.idCtl.toNat 13 0) else none

/-- Links that are up. -/
def State.linksUp (s : State) : List (Nat × FabLink) := s.fab.links.filter fun (_, l) => l.up

/-- This device's record for the census. -/
def State.ownNode (s : State) : FabNode :=
  { serial := ownSerial, pin := s.pinId, dist := s.fab.dist
    parent := match s.fab.parent with | some l => (s.flink l).peerSerial | none => ownSerial
    parentLink := match s.fab.parent with | some l => (s.flink l).peerLink | none => 0
    gen := s.gen 52
    links := (s.linksUp.filter fun x => x.2.heard).map fun (l, x) => (l, x.peerSerial, x.peerLink, x.delay) }

/-- The HELLO that this device sends on a link (R362). -/
def State.helloOut (s : State) (l : Nat) : Out :=
  .hop l K.hello [ownSerial, l, match s.pinId with | some p => p + 1 | none => 0, s.fab.best, s.fab.dist]

/-- Pairs in lexical order. -/
def pairLt (a b : Nat × Nat) : Bool := decide (a.1 < b.1) || (a.1 = b.1 && decide (a.2 < b.2))

/-- The least of a list of pairs. -/
def pairMin : List (Nat × Nat) → Option (Nat × Nat)
  | [] => none
  | a :: t => match pairMin t with | some b => if pairLt b a then some b else some a | none => some a

/-- Election: the smallest serial known, and the distance from it. -/
def State.elect (s : State) : State :=
  let near := (s.linksUp.filter fun x => x.2.heard).map fun (_, x) => (x.best, x.dist + 1)
  match pairMin ((ownSerial, 0) :: near) with
  | some (b, d) =>
    if b = s.fab.best && d = s.fab.dist then s else s.modFab fun f => { f with best := b, dist := d, quiet := 0 }
  | none => s

/-- The tree parent's link: the neighbour one hop nearer with the smallest serial, by the lower link. -/
def State.electParent (s : State) : Option Nat :=
  let near := s.linksUp.filter fun x => x.2.heard && x.2.best = s.fab.best && x.2.dist + 1 = s.fab.dist
  (pairMin (near.map fun (l, x) => (x.peerSerial, l))).map (·.2)

/-! ### The map (R362, R363) -/

/-- A device of a census. -/
def nodeOf (l : List FabNode) (serial : Nat) : Option FabNode := l.find? fun n => n.serial = serial

/-- A device's links that both ends report: own link, neighbour's serial, neighbour's link, delay. -/
def edges (l : List FabNode) (n : FabNode) : List (Nat × Nat × Nat × Nat) :=
  n.links.filter fun (k, p, pk, _) =>
    (nodeOf l p).any fun m => m.links.any fun (a, b, c, _) => a = pk && b = n.serial && c = k

/-- Later records replace earlier ones. -/
def mergeNodes (old new : List FabNode) : List FabNode :=
  (old.filter fun n => !(new.any fun m => m.serial = n.serial)) ++ new

/-- A census is complete when every neighbour it names is in it. -/
def censusDone (l : List FabNode) : Bool := l.all fun n => n.links.all fun (_, p, _, _) => (nodeOf l p).isSome

/-- One round of the distances from the root. -/
def relaxDist (l : List FabNode) (root : Nat) (d : List (Nat × Nat)) : List (Nat × Nat) :=
  l.map fun n =>
    (n.serial,
      if n.serial = root then 0
      else (edges l n).foldl (fun m (_, p, _, _) => min m (((d.find? fun x => x.1 = p).map (·.2)).getD (2 ^ 20) + 1)) (2 ^ 20))

/-- The devices that the root reaches, with distances and parents. -/
def treeNodes (l : List FabNode) (root : Nat) : List FabNode :=
  let d := (List.range (l.length + 1)).foldl (fun d _ => relaxDist l root d) (l.map fun n => (n.serial, 2 ^ 20))
  let far := fun (x : Nat) => ((d.find? fun y => y.1 = x).map (·.2)).getD (2 ^ 20)
  (l.filter fun n => decide (far n.serial < 2 ^ 20)).map fun n =>
    let up := (edges l n).filter fun (_, p, _, _) => far p + 1 = far n.serial
    match pairMin (up.map fun (k, p, _, _) => (p, k)) with
    | some (p, k) =>
      { n with dist := far n.serial, parent := p, parentLink := ((up.find? fun x => x.1 = k).map fun x => x.2.2.1).getD 0 }
    | none => { n with dist := far n.serial, parent := n.serial, parentLink := 0 }

/-- A list of devices sorted by the parent's link toward them. -/
def insertNode (n : FabNode) : List FabNode → List FabNode
  | [] => [n]
  | m :: t => if n.parentLink < m.parentLink then n :: m :: t else m :: insertNode n t

/-- A device's children in ascending link order. -/
def childrenOf (l : List FabNode) (serial : Nat) : List FabNode :=
  (l.filter fun n => n.parent = serial && n.serial ≠ serial).foldr insertNode []

/-- The devices of a subtree in preorder. -/
def preorder (l : List FabNode) : Nat → Nat → List Nat
  | 0, _ => []
  | k + 1, serial => serial :: (childrenOf l serial).flatMap fun c => preorder l k c.serial

/-- The lowest id that is not used. -/
def lowestFree (used : List Nat) : Nat := ((List.range (used.length + 1)).find? fun i => !used.contains i).getD 0

/-- Ids: those held, then pins by the smaller serial, then the lowest free ones in preorder (R363, R365). -/
def assignIds (l : List FabNode) (root : Nat) (old : List (Nat × Nat)) : List (FabNode × Nat) :=
  let kept := l.filterMap fun n => (old.find? fun x => x.1 = n.serial)
  let fresh := l.filter fun n => !(kept.any fun x => x.1 = n.serial)
  let pinned := fresh.filterMap fun n =>
    match n.pin with
    | some p =>
      if (kept.any fun x => x.2 = p) || fresh.any fun m => m.pin = some p && decide (m.serial < n.serial) then none
      else some (n.serial, p)
    | none => none
  let order := preorder l l.length root
  let ids := order.foldl
    (fun (ids : List (Nat × Nat)) serial => if ids.any fun x => x.1 = serial then ids else ids ++ [(serial, lowestFree (ids.map (·.2)))])
    (kept ++ pinned)
  l.filterMap fun n => (ids.find? fun x => x.1 = n.serial).map fun x => (n, x.2)

/-! ### Routes (R371) -/

/-- The cost of the best legal path from a device, by whether it has already descended: hops and latency. -/
abbrev Costs := List (Nat × Bool × Nat × Nat)

def costOf (t : Costs) (serial : Nat) (down : Bool) : Option (Nat × Nat) :=
  (t.find? fun x => x.1 = serial && x.2.1 = down).map fun x => x.2.2

/-- A step over a link: legal unless it climbs after a descent; and whether the path has then descended. -/
def legalStep (fr m : FabNode) (down : Bool) : Option Bool :=
  if m.dist < fr.dist then (if down then none else some false) else some (down || decide (fr.dist < m.dist))

/-- The cost of going on over one link. -/
def viaLink (l : List FabNode) (t : Costs) (n : FabNode) (down : Bool) (e : Nat × Nat × Nat × Nat) : Option (Nat × Nat) :=
  match nodeOf l e.2.1 with
  | none => none
  | some m =>
    match legalStep n m down with
    | none => none
    | some d => (costOf t m.serial d).map fun (h, y) => (h + 1, y + e.2.2.2)

/-- One round of the costs toward a destination. -/
def relaxCosts (l : List FabNode) (dest : Nat) (t : Costs) : Costs :=
  l.flatMap fun n =>
    [false, true].filterMap fun down =>
      if n.serial = dest then some (n.serial, down, 0, 0)
      else (pairMin ((edges l n).filterMap fun e => viaLink l t n down e)).map fun c => (n.serial, down, c)

/-- Numbers sorted by a key, the key's ties by the number. -/
def insertAlt (a : Nat × Nat) : List (Nat × Nat) → List (Nat × Nat)
  | [] => [a]
  | b :: t => if pairLt a b then a :: b :: t else b :: insertAlt a t

/-- The route of a device to a destination: its alternatives, hops and DELAY. -/
def routeFor (l : List FabNode) (self dest rounds : Nat) : Nat × Nat × Nat :=
  match nodeOf l self with
  | none => (0, 0, 0)
  | some n =>
    let t := (List.range rounds).foldl (fun t _ => relaxCosts l dest t) []
    let all := (edges l n).filterMap fun e => (viaLink l t n false e).map fun (h, y) => (e.1, h, y)
    let hops := all.foldl (fun m x => min m x.2.1) (2 ^ 20)
    let best := (((all.filter fun x => x.2.1 = hops).map fun x => (x.2.2, x.1)).foldr insertAlt []).take 4
    let alts := (best.zipIdx.map fun ((_, k), i) => (32 + k) * 2 ^ (6 * i)).sum
    if best.isEmpty then (0, 0, 0)
    else (alts, hops, min 65535 (best.foldl (fun m x => max m x.1) 0 + 64 * hops))

/-- The grants held of devices whose reset-domain generation changed are dropped, and their proxies break (R380); agents of devices that
have returned may come back (R349). -/
def State.dropChanged (s : State) (m : List (FabNode × Nat)) : State :=
  let old := fun (d : Nat) => (s.fab.map.find? fun x => x.2 = d).map fun x => x.1.gen
  let changed := (m.filter fun (n, d) => match old d with | some g => g ≠ n.gen | none => false).map (·.2)
  let fresh := (m.filter fun (_, d) => (old d).isNone).map (·.2)
  let s := s.comeBack ((changed ++ fresh).map ptrCache)
  if changed.isEmpty then s
  else (s.breakProxies (fun x => changed.contains x.1) E.peerDenied).dropHeld fun g => changed.contains g.dev

/-- A map takes effect at this device: ids, the tree, its neighbours and its routes; at once in discovery, at the next boundary
for a refresh (R362, R376). In discovery a device that has lost its pinned id sets CONFLICT (R363). -/
def State.installMap (s : State) (m : List (FabNode × Nat)) (now : Bool) : State :=
  let l := m.map (·.1)
  let idOf := fun (serial : Nat) => ((m.find? fun x => x.1.serial = serial).map (·.2))
  match m.find? fun x => x.1.serial = ownSerial with
  | none => s
  | some (me, id) =>
    let s := s.dropChanged m
    let deep := l.foldl (fun d n => max d n.dist) 0
    let rootId := ((m.find? fun x => x.1.dist = 0).map (·.2)).getD 0
    let up := (me.links.find? fun (_, p, pk, _) => p = me.parent && pk = me.parentLink).map (·.1)
    let s := s.modFab fun f =>
      { f with
        map := m, device := id, root := rootId, isRoot := me.dist = 0, diameter := min 32 deep, dist := me.dist
        parent := if me.dist = 0 then none else up, detached := f.detached || decide (me.dist > 32)
        conflict := f.conflict || (now && (match s.pinId with | some p => p ≠ id | none => false))
        links := Tbl.mapVal (fun k (x : FabLink) =>
          match me.links.find? fun e => e.1 = k with
          | some (_, p, pk, _) => { x with peerDev := (idOf p).getD x.peerDev, peerLink := pk }
          | none => x) f.links }
    let dests := (m.map (·.2)).filter fun d => d ≠ id
    let gone := (s.fab.routes.map (·.1)).filter fun d => !dests.contains d
    let s := dests.foldl
      (fun s d =>
        let serial := ((m.find? fun x => x.2 = d).map fun x => x.1.serial).getD 0
        let r := routeFor l ownSerial serial (2 * deep + 2)
        if now then s.modRoute d fun x => { x with alts := r.1, hops := r.2.1, delay := r.2.2 }
        else s.modRoute d fun x => { x with fresh := some r }) s
    gone.foldl (fun s d => s.modRoute d fun x => { x with fresh := some (0, 0, 0) }) s

/-- The map goes on down the tree. -/
def State.sendMap (s : State) : State :=
  s.emits ((childrenOf (s.fab.map.map (·.1)) ownSerial).map fun c => .mapHop c.parentLink s.fab.map)

/-- The root makes the map of what it knows; devices that it no longer reaches leave it. -/
def State.makeMap (s : State) (now : Bool) : State :=
  let l := treeNodes s.fab.nodes ownSerial
  let old := s.fab.map.map fun (n, d) => (n.serial, d)
  let s := s.modFab fun f => { f with nodes := l }
  (s.installMap (assignIds l ownSerial old) now).sendMap

/-- This device's record goes to the root, or the root makes a new map (R376). -/
def State.report (s : State) : State :=
  if s.fab.phase ≠ 5 then s
  else if s.fab.isRoot then (s.modFab fun f => { f with nodes := mergeNodes f.nodes [s.ownNode] }).makeMap false
  else match s.fab.parent with | some l => s.emit (.censusHop l [s.ownNode]) | none => s

/-! ### The phases (R362) -/

/-- A phase begins. -/
def State.enterPhase (s : State) (n : Nat) : State := s.modFab fun f => { f with phase := n, quiet := 0, length := 0 }

/-- DISCOVERY_PHASE_END. -/
def discoveryPhaseEnd (s : State) : State :=
  if !s.discovering then s
  else
    match s.fab.phase with
    | 0 =>
      if s.fab.quiet ≥ 16 && s.fab.length ≥ 64 then (s.enterPhase 1).modFab fun f => { f with best := ownSerial, dist := 0 } else s
    | 1 =>
      if s.fab.quiet < 33 then s
      else
        let root := s.fab.best = ownSerial
        let s := (s.enterPhase 2).modFab fun f =>
          { f with isRoot := root, parent := if root then none else s.electParent, detached := decide (f.dist > 32) }
        if root then s.modFab fun f => { f with nodes := mergeNodes f.nodes [s.ownNode] }
        else match s.fab.parent with
          | some l => s.emit (.censusHop l (s.ownNode :: s.fab.nodes))
          | none => s
    | 2 => if !s.fab.isRoot then s.enterPhase 3 else if censusDone s.fab.nodes then (s.enterPhase 3).makeMap true else s
    | 3 =>
      if s.fab.map.isEmpty then s
      else if !s.fab.isRoot then s.enterPhase 4
      else (s.enterPhase 4).modFab fun f => { f with startIn := some (f.diameter + 2) }
    | _ => s

/-- HELLO: what a neighbour is, what it knows of the root, and the answer of a running fabric (R362, R365). -/
def hello (link serial peerLink best dist : Nat) (answer : Option FabAnswer) (s : State) : State :=
  if !s.discovering || !(s.flink link).up then s
  else
    let s := s.modLink link fun x => { x with heard := true, peerSerial := serial, peerLink := peerLink, best := best, dist := dist }
    match answer with
    | some a =>
      if s.fab.phase = 0 || (s.fab.joining && s.fab.parent.isNone) then
        let s := (s.enterPhase 6).modFab fun f => { f with joining := true, parent := some link, root := a.root, steady := 0 }
        (s.modLink link fun x => { x with peerDev := a.device }).emit (.censusHop link [s.ownNode])
      else s
    | none =>
      if s.fab.phase = 1 then s.elect
      else if s.fab.phase = 5 then
        s.emit (.hop link K.hello
          [ownSerial, link, match s.pinId with | some p => p + 1 | none => 0, s.fab.best, s.fab.dist, s.fab.root, s.fab.device, s.time.tick])
      else s

/-- PROBE: the sixteenth round trip of a link gives its one-way delay. -/
def probe (link roundTrip : Nat) (s : State) : State :=
  let x := s.flink link
  if !s.discovering || !x.up || x.probes.length ≥ 16 then s
  else
    let l := x.probes ++ [roundTrip]
    s.modLink link fun x =>
      { x with probes := l, delay := if l.length = 16 then min 65535 ((l.foldl min roundTrip + 1) / 2) else x.delay }

/-- CENSUS: records of a subtree on their way to the root. -/
def census (nodes : List FabNode) (s : State) : State :=
  if !s.discovering || s.fab.phase = 0 then s
  else if s.fab.phase = 1 || (s.fab.isRoot && s.fab.phase < 5) then s.modFab fun f => { f with nodes := mergeNodes f.nodes nodes }
  else if s.fab.isRoot then (s.modFab fun f => { f with nodes := mergeNodes f.nodes nodes }).makeMap false
  else match s.fab.parent with | some l => s.emit (.censusHop l nodes) | none => s

/-- FABRIC_MAP_PACKET. -/
def fabricMap (link : Nat) (m : List (FabNode × Nat)) (s : State) : State :=
  if !s.discovering || s.fab.parent ≠ some link then s
  else if s.fab.phase = 2 || s.fab.phase = 3 then ((s.enterPhase 3).installMap m true).sendMap
  else if s.fab.phase ≥ 5 then (s.installMap m false).sendMap
  else s

/-! ### The tick and the join (R364, R365) -/

/-- This device leaves the fabric's tick: it joins anew. -/
def State.rejoin (s : State) (detached : Bool) : State :=
  s.modFab fun f => { f with phase := 6, joining := true, parent := none, steady := 0, detached := f.detached || detached, missed := 0 }

/-- An offset measured by a beacon (R364). -/
def State.skewed (s : State) (offset : Int) : State :=
  let a := offset.natAbs
  let n := if a > 50 then s.fab.skewTicks + 1 else 0
  let s := s.modFab fun f =>
    { f with
      missed := 0, skewNow := (offset % 65536).toNat, skewMax := max f.skewMax (min a 65535), skewTicks := n
      skew := f.skew || decide (n = 16) }
  if n = 16 then s.chip 2 (min a 65535) else s

/-- BEACON. -/
def beacon (link number : Nat) (offset : Int) (s : State) : State :=
  if !s.discovering || s.fab.parent ≠ some link then s
  else
    match s.fab.phase with
    | 3 | 4 =>
      if s.fab.startIn.isSome then s
      else (s.enterPhase 4).modFab fun f => { f with startIn := some number }
    | 5 => let s := s.skewed offset; if offset.natAbs > 1000 then s.rejoin true else s
    | 6 =>
      let s := s.skewed offset
      let n := if offset.natAbs ≤ 50 then s.fab.steady + 1 else 0
      if n ≥ 16 && s.time.agreed then
        s.modFab fun f => { f with phase := 5, joining := false, detached := decide (f.dist > 32), steady := 0 }
      else s.modFab fun f => { f with steady := n }
    | _ => s

/-- BEACON_LOSS: four ticks without a beacon (R364). Whether a neighbour of the lost root still hears one is judged by the map
(DEDUCED, log entry 39). -/
def beaconLoss (s : State) : State :=
  if s.fab.phase ≠ 5 || s.fab.isRoot || s.fab.missed < 4 then s
  else
    let l := s.fab.map.map (·.1)
    let distOf := fun (x : FabLink) => ((nodeOf l x.peerSerial).map (·.dist)).getD (2 ^ 20)
    let near := s.linksUp.filter fun (k, x) => distOf x + 1 = s.fab.dist && some k ≠ s.fab.parent
    match pairMin (near.map fun (k, x) => (x.peerSerial, k)) with
    | some (_, k) => s.modFab fun f => { f with parent := some k, missed := 0 }
    | none =>
      let first := l.all fun n => n.dist ≠ 1 || decide (ownSerial ≤ n.serial)
      if s.fab.dist = 1 && first then
        let root := l.filter fun n => n.dist ≠ 0
        (s.modFab fun f => { f with isRoot := true, parent := none, missed := 0, nodes := root }).makeMap false
      else s.rejoin false

/-- FABRIC_JOIN: the id that the root gives, and the fabric's number for the next boundary. -/
def fabricJoin (link device root number : Nat) (s : State) : State :=
  if !s.fab.joining then s
  else
    let pin := s.pinId
    let s := (s.advanceGen 52).comeBack (List.range 32)
    let s := s.modFab fun f =>
      { f with
        device := device, root := root, parent := some link, steady := 0
        conflict := f.conflict || (match pin with | some p => p ≠ device | none => false) }
    s.modTime fun t => { t with jumpTo := if number > t.tick + 1 then some number else none, agreed := t.agreed || decide (number ≤ t.tick + 1) }

/-! ### Links (R376) -/

/-- FABRIC_LINK_DOWN: entries that use the link change path at the next boundary, and the loss is reported. -/
def fabricLinkDown (link : Nat) (s : State) : State :=
  if !(s.flink link).up then s
  else
    let s := s.modLink link fun x =>
      { x with up := false, downs := satAdd 255 x.downs 1, upFor := 0, reported := false, heard := false, probes := [] }
    let s := s.modFab fun f =>
      { f with routes := Tbl.mapVal (fun _ (r : Route) => if r.link = some link then { r with change := true } else r) f.routes }
    s.report

/-- LINK_REPORTED_UP: a link whose gate is off stays down (R482). -/
def linkReportedUp (link peerDev peerLink : Nat) (s : State) : State :=
  if (s.flink link).up || !tst s.clk.gates (3 + link) then s
  else
    (s.modLink link fun x =>
      { x with up := true, peerDev := peerDev, peerLink := peerLink, upFor := 0, reported := false, heard := false, probes := [] }).modFab
      fun f => { f with quiet := if f.phase = 0 then 0 else f.quiet }

/-- FABRIC_LINK_UP: up for 16 ticks, reported to the root. -/
def fabricLinkUp (link : Nat) (s : State) : State :=
  let x := s.flink link
  if !x.up || x.reported || decide (x.upFor < 16) then s else (s.modLink link fun x => { x with reported := true }).report

/-! ### Global operations (R390 to R392) -/

/-- What an operation's root tells the members below. -/
def State.sendGo (s : State) (x : Global) : State :=
  match x.tick with
  | some t => s.emits ((s.treeBelow x.group).map fun d => .globalHop d (.go x.reset x.group t x.snapTick))
  | none => s

/-- The root admits an operation in this tick. -/
def State.admitGlobal (s : State) (reset : Bool) (g snap : Nat) : State :=
  let t := s.time.tick
  let x : Global :=
    { reset := reset, group := g, tick := some t, snapTick := max snap (t + treeDepth (s.members g).length), confirms := 0,
      done := false, restored := false, told := false, via := none }
  (s.modFab fun f => { f with global := some x }).sendGo x

/-- HX_FAB_GLOBAL with GO, asked through a port's PF or by the management controller. -/
def State.globalGo (s : State) (reset : Bool) (g snap : Nat) (via : Option Side) : Except Nat State :=
  if s.fab.global.isSome then .error E.locked
  else if (reset && g ≠ 0) || !s.time.agreed || !(s.members g).contains s.fab.device || (g ≠ 0 && !(s.group g).valid) then .error E.badField
  else if s.rankIn g = 0 then .ok (s.admitGlobal reset g snap)
  else
    let x : Global :=
      { reset := reset, group := g, tick := none, snapTick := snap, confirms := 0, done := false, restored := false, told := false,
        via := via }
    .ok ((s.modFab fun f => { f with global := some x }).emit (.globalHop ((s.members g).headD 0) (.ask reset g snap)))

/-- What a GLOBAL does: a request at its root, the operation on its way down, a confirmation, or a refusal. -/
def State.takeGlobal (s : State) (src : Nat) (m : GlobalMsg) : State :=
  match m with
  | .ask reset g snap => if s.fab.global.isSome then s.emit (.globalHop src .refuse) else s.admitGlobal reset g snap
  | .go reset g t snap =>
    let x : Global :=
      { reset := reset, group := g, tick := some t, snapTick := snap, confirms := 0, done := false, restored := false, told := false,
        via := s.fab.global.bind (·.via) }
    (s.modFab fun f => { f with global := some x }).sendGo x
  | .confirm => s.modFab fun f => { f with global := f.global.map fun x => { x with confirms := x.confirms + 1 } }
  | .refuse =>
    match s.fab.global with
    | some x =>
      -- an operation that came down meanwhile goes on
      let s := s.modFab fun f => { f with global := if x.tick.isSome then some { x with via := none } else none }
      match x.via with | some p => s.regErrAt p 0 0 0x105088 E.locked | none => s
    | none => s

/-- GLOBAL arrives, and is stamped (R34). -/
def globalPacket (c : Instr) (src : Nat) (m : GlobalMsg) (s : State) : State := s.stamped c fun _ s => s.takeGlobal src m

/-- The snapshot of this device (R391, R467). -/
def State.snapshot (s : State) : State :=
  (s.log s.boundaryStamp 4 0 none 0 s.time.last ((s.slot s.plan.active).planId.toNat)).modFab fun f =>
    { f with snapStamp := s.boundaryStamp }

/-- The reset of this device's Harson state (R392). -/
def State.globalReset (s : State) : State :=
  let s := s.ctxs.foldl (fun s (i, _) => s.beginTeardown i E.aborted s.boundaryStamp) s
  let s := s.fences.foldl (fun s (i, f) => if f.proxy.isSome then s.modFence i fun f => { f with proxy := none } else s) s
  (s.modFab fun f =>
    { f with
      have_ := []
      grants := Tbl.mapVal (fun _ (g : GrantEnt) =>
        if g.enable then { g with enable := false, offered := false, ending := false, ggen := (g.ggen + 1) % 256 } else g) f.grants
      }).advanceGen 52 |>.comeBack (List.range 32)

/-- The operation under way at a boundary. -/
def State.globalStep (s : State) : State :=
  match s.fab.global with
  | none => s
  | some x =>
    match x.tick with
    | none => s
    | some t =>
      let now := s.time.tick
      let d := treeDepth (s.members x.group).length
      let due := if x.reset then t + d else x.snapTick
      let half := if x.reset then t + d + 4 else x.snapTick + 1
      let last := if x.reset then t + 2 * d + 4 else x.snapTick + d + 1
      let set := fun (s : State) (f : Global → Global) => s.modFab fun y => { y with global := y.global.map f }
      let s := if !x.done && decide (now ≥ due) then
          set (if x.reset then s.globalReset else s.snapshot) fun x => { x with done := true }
        else s
      let s := if x.reset && !x.restored && decide (now ≥ half) then
          set (s.modPlan fun p => { p with restore := true }) fun x => { x with restored := true }
        else s
      let s := if !x.told && decide (now ≥ half) && decide (x.confirms ≥ (s.treeBelow x.group).length) then
          let s := set s fun x => { x with told := true }
          if s.rankIn x.group = 0 then s else s.emit (.globalHop (s.treeAbove x.group) .confirm)
        else s
      if now ≥ last then s.modFab fun f => { f with global := none } else s

/-! ### The fabric at a boundary -/

/-- INBOUND_STALL counts a tick in which a receive buffer stood full (R370): whether one did is a free value (log entry 120). -/
def State.countStall (s : State) : State :=
  let (full, s) := s.free 2
  s.modFab fun f => { f with stall := satAdd 4095 f.stall full }

/-- What the transport counts and sends at a boundary: links' ages, HELLOs and PROBEs, the tick's beginning, BEACONs. -/
def State.fabricTick (s : State) : State :=
  let s := s.modFab fun f =>
    { f with
      links := Tbl.mapVal (fun _ (x : FabLink) => if x.up then { x with upFor := x.upFor + 1 } else x) f.links
      writes := f.writes.filter fun w => ((s.queue w.queue).cmd w.slot).isSome }
  let s := if s.linksUp.isEmpty then s else s.countStall
  if !s.discovering then s
  else
    let up := s.linksUp
    let s := s.modFab fun f => { f with quiet := f.quiet + 1, length := f.length + 1 }
    let s := if s.fab.phase < 2 || s.fab.joining then s.emits (up.map fun x => s.helloOut x.1)
      else s.emits ((up.filter fun x => !x.2.heard).map fun x => s.helloOut x.1)
    let s := s.emits ((up.filter fun x => decide (x.2.probes.length < 16)).map fun x => .hop x.1 K.probe [])
    let kids := childrenOf (s.fab.map.map (·.1)) ownSerial
    let s := match s.fab.startIn with
      | some n =>
        if n ≤ 1 then
          (s.modTime fun t => { t with agreed := true }).modFab fun f => { f with phase := 5, startIn := none, missed := 0 }
        else
          (s.modFab fun f => { f with startIn := some (n - 1) }).emits (kids.map fun c => .hop c.parentLink K.beacon [n - 1])
      | none => s
    if s.fab.phase = 5 && s.time.agreed then
      (s.modFab fun f => { f with missed := if f.isRoot then 0 else f.missed + 1 }).emits
        (kids.map fun c => .hop c.parentLink K.beacon [s.time.tick])
    else s

end Sys2Proof.Machine
end

