-- ==== Sys2Proof/Machine/Trust.lean ====
section
/-! DEFINITION. Attestation and the management controller (14): SPDM, IDE and TDISP, management requests, credentials, the
image region, sensors and the log's mirror. -/

namespace Sys2Proof.Machine

/-! ### SPDM (R451, R455, R456) -/

/-- A path on which the management controller or a port's DOE mailbox can be reached (R455, R476, R477, R480, R482). -/
def State.spdmUp (s : State) : SpdmPath → Bool
  | .doe p => decide (s.clk.phase = 4 ∨ s.clk.phase = 5) && (s.port p).up
  | .mctpI3c => decide (4 ≤ s.clk.phase) && s.gateOn 38
  | .mctpNet => decide (4 ≤ s.clk.phase) && s.clk.phase ≠ 6 && s.clk.mclk && s.gateOn 37

/-- A response: 0 the request's own, 1 ERROR UnsupportedRequest, 2 another ERROR. -/
def State.spdmSay (s : State) (path : SpdmPath) (session code : Nat) (body : List Byte) : State :=
  s.emit (.spdm path session code body)

/-- A request on a path that can be reached. -/
def State.spdm (s : State) (path : SpdmPath) (k : State → State) : State := if s.spdmUp path then k s else s

/-- A session by its number. -/
def State.session (s : State) (path : SpdmPath) (id : Nat) : Option Session :=
  s.mgt.sessions.find? fun x => x.path = path && x.id = id

/-- The session with a change, or gone. -/
def State.modSession (s : State) (path : SpdmPath) (id : Nat) (f : Session → Option Session) : State :=
  s.modMgt fun m => { m with sessions := m.sessions.filterMap fun x => if x.path = path && x.id = id then f x else some x }

/-- A request inside a session whose FINISH has completed. -/
def State.inSession (s : State) (path : SpdmPath) (id : Nat) (k : Session → State → State) : State :=
  s.spdm path fun s =>
    match s.session path id with
    | some x => if x.ready then k x s else s.spdmSay path id 2 []
    | none => s.spdmSay path id 2 []

/-- GET_VERSION: 1.2 and 1.3. -/
def getVersion (path : SpdmPath) (s : State) : State := s.spdm path fun s => s.spdmSay path 0 0 [0x12, 0x13]

/-- GET_CAPABILITIES: sessions; mutual authentication on MCTP. -/
def getCapabilities (path : SpdmPath) (s : State) : State :=
  s.spdm path fun s => s.spdmSay path 0 0 (match path with | .doe _ => [4, 0] | _ => [8, 1])

/-- NEGOTIATE_ALGORITHMS: of what is asked, bit 0 ECDSA P-384, 1 SHA-384, 2 secp384r1, 3 AES-256-GCM. -/
def negotiate (path : SpdmPath) (asked : Nat) (s : State) : State :=
  s.spdm path fun s => s.spdmSay path 0 0 (leBytes 1 (asked % 16))

/-- GET_DIGESTS: slot 0. -/
def getDigests (path : SpdmPath) (s : State) : State := s.spdm path fun s => s.spdmSay path 0 0 (sha384 Config.certChain)

/-- GET_CERTIFICATE: slot 0 only. -/
def getCertificate (path : SpdmPath) (slot offset len : Nat) (s : State) : State :=
  s.spdm path fun s =>
    if slot = 0 then s.spdmSay path 0 0 ((Config.certChain.drop offset).take len) else s.spdmSay path 0 2 []

/-- CHALLENGE: an answer signed by the alias key. -/
def challenge (path : SpdmPath) (slot : Nat) (nonce : List Byte) (s : State) : State :=
  s.spdm path fun s =>
    if slot = 0 then
      let body := sha384 Config.certChain ++ nonce
      s.spdmSay path 0 0 (body ++ Config.aliasSign body)
    else s.spdmSay path 0 2 []

/-- GET_MEASUREMENTS: index n + 1 is slot n, 0xFF every slot, 0 their number; with a nonce the answer is signed. -/
def getMeasurements (path : SpdmPath) (session : Option Nat) (index : Nat) (nonce : List Byte) (s : State) : State :=
  s.spdm path fun s =>
    let ok := match session with | some id => (match s.session path id with | some x => x.ready | none => false) | none => true
    let body :=
      if index = 0 then some (leBytes 1 16)
      else if index = 0xFF then some ((List.range 16).flatMap fun n => s.meas n)
      else if index ≤ 16 then some (s.meas (index - 1))
      else none
    match ok, body with
    | true, some b => s.spdmSay path (session.getD 0) 0 (if nonce.isEmpty then b else b ++ Config.aliasSign (b ++ nonce))
    | _, _ => s.spdmSay path (session.getD 0) 2 []

/-- Every credential slot is empty. -/
def Mgt.empty (m : Mgt) : Bool := m.creds.isEmpty

/-- Sessions that a path may hold: 4 on each port, 8 on MCTP in all. -/
def State.sessionRoom (s : State) (path : SpdmPath) : Bool :=
  match path with
  | .doe p => decide ((s.mgt.sessions.countP fun x => x.path = .doe p) < 4)
  | _ => decide ((s.mgt.sessions.countP fun x => x.path = .mctpI3c || x.path = .mctpNet) < 8)

/-- KEY_EXCHANGE: a session begins. On MCTP the requester must authenticate, but over I3C while no credential is set (R465). -/
def keyExchange (path : SpdmPath) (slot : Nat) (withAuth : Bool) (exchange : List Byte) (s : State) : State :=
  s.spdm path fun s =>
    let mctp := match path with | .doe _ => false | _ => true
    let auth := mctp && !s.mgt.empty
    if slot ≠ 0 || !s.sessionRoom path || (auth && !withAuth) || (s.mgt.empty && path = .mctpNet) then s.spdmSay path 0 2 []
    else
      let id := s.mgt.nextSession
      let x : Session := { path := path, id := id, ready := false, auth := auth, slot := none, roles := 0, updates := 0 }
      (s.modMgt fun m => { m with sessions := m.sessions ++ [x], nextSession := id + 1 }).spdmSay path id 0 (Config.aliasSign exchange)

/-- The credential slot whose hash is that of a public key. -/
def Mgt.slotOf (m : Mgt) (key : List Byte) : Option (Nat × Nat) :=
  (m.creds.find? fun (_, h, _) => h = sha384 key).map fun (i, _, r) => (i, r)

/-- FINISH: the session is secured; a requester that matches no credential slot is refused (R465). -/
def finish (path : SpdmPath) (id : Nat) (key : Option (List Byte)) (s : State) : State :=
  s.spdm path fun s =>
    match s.session path id with
    | none => s.spdmSay path id 2 []
    | some x =>
      if x.ready then s.spdmSay path id 2 []
      else if x.auth then
        match key.bind s.mgt.slotOf with
        | some (i, r) => (s.modSession path id fun y => some { y with ready := true, slot := some i, roles := r }).spdmSay path id 0 []
        | none => (s.modSession path id fun _ => none).spdmSay path id 2 []
      else
        let roles := match path with | .doe _ => 0 | _ => 16
        (s.modSession path id fun y => some { y with ready := true, roles := roles }).spdmSay path id 0 []

/-- HEARTBEAT. -/
def heartbeat (path : SpdmPath) (id : Nat) (s : State) : State := s.inSession path id fun _ s => s.spdmSay path id 0 []

/-- KEY_UPDATE. -/
def keyUpdate (path : SpdmPath) (id : Nat) (s : State) : State :=
  s.inSession path id fun _ s => (s.modSession path id fun y => some { y with updates := y.updates + 1 }).spdmSay path id 0 []

/-- END_SESSION. -/
def endSession (path : SpdmPath) (id : Nat) (s : State) : State :=
  s.inSession path id fun _ s => (s.modSession path id fun _ => none).spdmSay path id 0 []

/-- Any other request. -/
def spdmUnsupported (path : SpdmPath) (code : Nat) (s : State) : State :=
  s.spdm path fun s => s.spdmSay path 0 1 (leBytes 1 code)

/-! ### IDE (R457) -/

def State.stream (s : State) (p : Side) (n : Nat) : Stream := Tbl.get Stream.none (s.port p).streams n
def State.setStream (s : State) (p : Side) (n : Nat) (v : Stream) : State :=
  s.modPort p fun x => { x with streams := Tbl.set Stream.none x.streams n v }

/-- A stream holds the keys of a set. -/
def Stream.keyed (x : Stream) (set : Bool) : Bool := if set then x.keys1 else x.keys0

/-- KEY_PROG. -/
def keyProg (p : Side) (id n : Nat) (set : Bool) (s : State) : State :=
  s.inSession (.doe p) id fun _ s =>
    let x := s.stream p n
    (s.setStream p n (if set then { x with keys1 := true } else { x with keys0 := true })).spdmSay (.doe p) id 0 []

/-- K_SET_GO: the stream is Secure with that key set, once its keys are programmed. -/
def kSetGo (p : Side) (id n : Nat) (set : Bool) (s : State) : State :=
  s.inSession (.doe p) id fun _ s =>
    let x := s.stream p n
    if x.keyed set then (s.setStream p n { x with secure := true, keySet := set }).spdmSay (.doe p) id 0 []
    else s.spdmSay (.doe p) id 2 []

/-- K_SET_STOP: the key set is used no more, and its keys are gone. -/
def kSetStop (p : Side) (id n : Nat) (set : Bool) (s : State) : State :=
  s.inSession (.doe p) id fun _ s =>
    let x := s.stream p n
    let x := if set then { x with keys1 := false } else { x with keys0 := false }
    (s.setStream p n { x with secure := x.secure && x.keySet ≠ set }).spdmSay (.doe p) id 0 []

/-- IDE_INTEGRITY_FAILURE: the stream is Insecure and every TDI bound to it is in ERROR. -/
def ideFailure (p : Side) (n : Fin 8) (s : State) : State :=
  let bound := fun (s : State) => (s.port p).tdis.filter fun (_, t) => t.stream = n.val && t.state.frozen
  s.stampedIf (!(bound s).isEmpty) (.ideIntegrityFailure p n) fun st s =>
    let x := s.stream p n.val
    let s := s.setStream p n.val { x with secure := false, fails := satAdd 65535 x.fails 1 }
    (bound s).foldl (fun s (vf, _) => s.tdiError p vf st) s

/-! ### TDISP (R458 to R461) -/

/-- The locked configuration of a VF's TDI, item by item in the order of R459. -/
def State.tdiItems (s : State) (vf : Nat) : List Nat :=
  let l := s.ctxsOf vf
  (l.flatMap fun i =>
      let c := s.ctx i
      [i, c.loc, c.pasid, c.root, bit c.terminate, c.share]) ++
    (l.flatMap fun i =>
      let p := s.part i
      let q := Tbl.get (0, 0) s.coh.parts i
      [p.1, p.2.1, p.2.2, q.1, q.2]) ++
    (s.fab.grants.filter fun (_, g) => g.enable && l.contains g.ctx).flatMap (fun (i, g) => [i, g.holder, g.holderCtx, g.ctx, g.target]) ++
    (s.fences.filter fun (_, f) => f.live && l.contains f.owner).flatMap (fun (i, f) =>
      match f.proxy with | some (d, g) => [i, d, g] | none => []) ++
    (s.vecKeys.filter fun (f, _) => f = vf).flatMap fun (f, v) => match (s.vec f v).route with | some (c, n) => [v, c, n] | none => []

/-- The bytes over which a TDI's CONFIG digest is taken. -/
def State.tdiConfig (s : State) (p : Side) (vf : Nat) : List Byte :=
  let t := s.tdi p vf
  if t.state.frozen then t.config else Config.configBytes (s.tdiItems vf)

/-- A TDISP request of a VF that exists. -/
def State.tdisp (s : State) (p : Side) (id vf : Nat) (k : Tdi → State → State) : State :=
  s.inSession (.doe p) id fun _ s =>
    if vf = 0 || !(s.port p).vfEnable then s.spdmSay (.doe p) id 2 [] else k (s.tdi p vf) s

/-- LOCK_INTERFACE: from CONFIG_UNLOCKED, with a Secure stream. -/
def lockInterface (p : Side) (id vf n : Nat) (s : State) : State :=
  s.tdisp p id vf fun t s =>
    if t.state ≠ .unlocked || !(s.stream p n).secure then s.spdmSay (.doe p) id 2 []
    else
      let c := Config.configBytes (s.tdiItems vf)
      ((s.setTdi p vf { state := .locked, stream := n, lockTick := s.time.tick, config := c }).tdiLog p vf .locked s.time.last).spdmSay
        (.doe p) id 0 []

/-- START_INTERFACE: from CONFIG_LOCKED. -/
def startInterface (p : Side) (id vf : Nat) (s : State) : State :=
  s.tdisp p id vf fun t s =>
    if t.state ≠ .locked then s.spdmSay (.doe p) id 2 []
    else ((s.setTdi p vf { t with state := .run }).tdiLog p vf .run s.time.last).spdmSay (.doe p) id 0 []

/-- STOP_INTERFACE: to CONFIG_UNLOCKED from every state. -/
def stopInterface (p : Side) (id vf : Nat) (s : State) : State :=
  s.tdisp p id vf fun t s =>
    let s := if t.state = .unlocked then s else (s.setTdi p vf Tdi.none).tdiLog p vf .unlocked s.time.last
    let s := if t.state = .error then
        (s.modFunc .a vf fun f => { f with silenced := false }).modFunc .b vf fun f => { f with silenced := false }
      else s
    s.spdmSay (.doe p) id 0 []

/-- The device-specific area of a DEVICE_INTERFACE_REPORT (R461). -/
def State.tdiReport (s : State) (p : Side) (vf : Nat) : List Byte :=
  let l := s.ctxsOf vf
  let plan := s.slot s.plan.active
  sha384 (s.tdiConfig p vf) ++ plan.digest ++ leBytes 8 plan.planId.toNat ++ leBytes 8 s.time.last ++ leBytes 4 0 ++
    leBytes 2 l.length ++ leBytes 2 0 ++
    l.flatMap fun i =>
      let c := s.ctx i
      leBytes 2 i ++ leBytes 1 c.gen ++ leBytes 1 (bit c.saturated) ++ leBytes 4 c.observed ++ leBytes 8 c.obsStamp

/-- DEVICE_INTERFACE_REPORT. -/
def interfaceReport (p : Side) (id vf : Nat) (s : State) : State :=
  s.tdisp p id vf fun _ s => s.spdmSay (.doe p) id 0 (s.tdiReport p vf)

/-- TDI_VIOLATION: the access is discarded and counted, and the TDI moves to ERROR (R460). -/
def tdiViolation (p : Side) (vf : Fin 128) (space : Fin 4) (offset : Nat) (s : State) : State :=
  if !(s.tdi p vf.val).state.frozen then s
  else
    s.stamped (.tdiViolation p vf space offset) fun st s =>
      (s.regErrAt p vf.val space.val offset E.notAuthorised).tdiError p vf.val st

/-! ### Management requests (R463 to R465) -/

/-- Roles by bit: OBSERVE, OPERATE, UPDATE, DEBUG, ADMIN. -/
def roleObserve : Nat := 0
def roleOperate : Nat := 1
def roleUpdate : Nat := 2
def roleDebug : Nat := 3
def roleAdmin : Nat := 4

/-- The reply to a management request. -/
def State.mgtSay (s : State) (r : MgtReq) (code : Nat) (body : List Byte) : State := s.emit (.mgmt r code body)

/-- A management request: carried by a secured session of MCTP, stamped as it is admitted, refused without its role or with the code of
the first of its own checks that fails, and then nothing changes (R21); one marked † is extended into slot 7 and logged before it takes
effect. -/
def mgtRequest (c : Instr) (r : MgtReq) (op role : Nat) (dagger : Option (List Nat)) (check : Session → State → Nat) (s : State)
    (k : Session → State → State) : State :=
  match r.path with
  | .doe _ => s
  | _ =>
    if !s.spdmUp r.path then s
    else
      match s.session r.path r.session with
      | none => s
      | some x =>
        if !x.ready then s
        else
          s.stamped c fun st s =>
            if !tst x.roles role then s.mgtSay r E.notAuthorised []
            else if check x s ≠ E.ok then s.mgtSay r (check x s) []
            else
              match dagger with
              | none => k x s
              | some args =>
                k x ((s.measExtend 7 (sha384 (Config.requestBytes op r.tag args))).log st 7 0 none 0 op (x.slot.getD 8))

/-- A request that makes no check of its own. -/
def noCheck (_ : Session) (_ : State) : Nat := E.ok

/-- A record of the log as bytes. -/
def logBytes (x : Word × Word × Word × Word) : List Byte :=
  leBytes 8 x.1.toNat ++ leBytes 8 x.2.1.toNat ++ leBytes 8 x.2.2.1.toNat ++ leBytes 8 x.2.2.2.toNat

/-- The log's record at an index. -/
def State.logAt (s : State) (i : Nat) : Word × Word × Word × Word := Tbl.get (0, 0, 0, 0) s.mgt.log (i % 8192)

/-- LOG_READ. -/
def logRead (c : Instr) (r : MgtReq) (index count : Nat) (s : State) : State :=
  mgtRequest c r 0x0003 roleObserve none (fun _ _ => if count > 32 then E.badLength else if index ≥ 8192 then E.badField else E.ok) s
    fun _ s => s.mgtSay r E.ok ((List.range count).flatMap fun i => logBytes (s.logAt (index + i)))

/-- SENSOR_READ: the value and state of each sensor. -/
def sensorRead (c : Instr) (r : MgtReq) (s : State) : State :=
  mgtRequest c r 0x0004 roleObserve none noCheck s fun _ s =>
    s.mgtSay r E.ok ((List.range 24).flatMap fun i =>
      let x := Tbl.get (0, 0) s.mgt.sensors i
      leBytes 2 x.1 ++ leBytes 1 x.2)

/-! ### The image region (R453, R464, R469) -/

/-- A load reads the image. -/
def State.imageRead (s : State) : Bool := (s.twin .a).loading || (s.twin .b).loading

/-- A range lies in the image region. -/
def inImage (offset n : Nat) : Bool := decide (imageBase ≤ offset) && decide (offset + n ≤ 2 ^ 25)

/-- FLASH_ERASE: `count` sectors of 64 KiB. -/
def flashErase (c : Instr) (r : MgtReq) (offset count : Nat) (s : State) : State :=
  mgtRequest c r 0x0010 roleUpdate none
    (fun _ s =>
      if s.imageRead || s.mgt.flashBusy.isSome then E.locked
      else if offset % 65536 ≠ 0 || count = 0 || !inImage offset (65536 * count) then E.badField
      else E.ok) s
    fun _ s =>
      (s.modMgt fun m =>
        { m with flash := m.flash.filter fun x => !(decide (offset ≤ x.1) && decide (x.1 < offset + 65536 * count)), flashBusy := some .erase }).mgtSay
        r E.ok []

/-- FLASH_WRITE: up to 4 KiB. -/
def flashProgram (c : Instr) (r : MgtReq) (offset : Nat) (data : List Byte) (s : State) : State :=
  mgtRequest c r 0x0011 roleUpdate none
    (fun _ s =>
      if s.imageRead || s.mgt.flashBusy.isSome then E.locked
      else if data.isEmpty || data.length > 4096 then E.badLength
      else if !inImage offset data.length then E.badField
      else E.ok) s
    fun _ s => ((s.flashWrite offset data).modMgt fun m => { m with flashBusy := some .program }).mgtSay r E.ok []

/-- FLASH_READ: up to 4 KiB of the image store. -/
def flashFetch (c : Instr) (r : MgtReq) (offset len : Nat) (s : State) : State :=
  mgtRequest c r 0x0012 roleObserve none (fun _ _ => if len > 4096 then E.badLength else if offset + len > 2 ^ 26 then E.badField else E.ok) s
    fun _ s => s.mgtSay r E.ok (s.flashRead offset len)

/-- FW_LOAD: a DETACHED twin is reset and loads its image; its checks follow. -/
def fwLoad (c : Instr) (r : MgtReq) (t : Side) (s : State) : State :=
  mgtRequest c r 0x0013 roleUpdate (some [t.num])
    (fun _ s =>
      if s.mgt.flashBusy.isSome || s.inSelftest t || (s.twin t).loading then E.locked
      else if (s.twin t).state ≠ .detached then E.badField
      else E.ok) s
    fun _ s =>
      (s.modTwin t fun w =>
        { w with loading := true, tested := false, measured := false, standby := false, standbyReq := false, mirror := none }).mgtSay r E.ok []

/-- FW_RESTORE: an in-service twin's image goes back to the image region. -/
def fwRestore (c : Instr) (r : MgtReq) (t : Side) (s : State) : State :=
  mgtRequest c r 0x0014 roleUpdate (some [t.num])
    (fun _ s =>
      if s.imageRead || s.mgt.flashBusy.isSome then E.locked
      else if !(s.twin t).state.serves then E.badField
      else E.ok) s
    fun _ s => (s.flashWrite imageBase (s.twin t).image).modMgt fun m => { m with flashBusy := some (.restore r) }

/-- IMAGE_REGION_WRITE_DONE. -/
def imageWriteDone (s : State) : State :=
  let t := s.modMgt fun m => { m with flashBusy := none }
  match s.mgt.flashBusy with
  | some (.restore r) => t.mgtSay r E.ok []
  | _ => t

/-! ### Debug access (R462) -/

/-- The owners of the objects that a range of device memory touches. -/
def State.ownersIn (s : State) (a n : Nat) : List Nat :=
  ((s.objs.filter fun (_, o) => o.state ≠ .free && overlap a n o.base (65536 * o.size64k)).map fun x => x.2.owner).eraseDups

/-- A debug session touches contexts: recorded before anything is returned or changed. -/
def State.touched (s : State) (l : List Nat) (op stamp : Nat) : State := l.foldl (fun s i => s.observe i op stamp) s

/-- The reading that follows the record. -/
def debugServeRead (c : Instr) (r : MgtReq) (a n : Nat) (s : State) : State :=
  s.uncached (.cmd c) [(a, n)] [] fun s => s.mgtSay r E.ok (s.mem.readN a n)

/-- DEBUG_READ. -/
def debugRead (c : Instr) (r : MgtReq) (a n : Nat) (s : State) : State :=
  mgtRequest c r 0x0020 roleDebug none
    (fun _ _ => if n > 4096 then E.badLength else if a + n > Config.deviceMemory then E.badField else E.ok) s
    fun _ s => debugServeRead c r a n (s.touched (s.ownersIn a n) 0x0020 s.time.last)

/-- The writing that follows the record. -/
def debugServeWrite (c : Instr) (r : MgtReq) (a : Nat) (data : List Byte) (s : State) : State :=
  s.uncached (.cmd c) [] [(a, data.length)] fun s => ((s.setMem (s.mem.store a data false)).disturb none [(a, data.length)]).mgtSay r E.ok []

/-- DEBUG_WRITE. -/
def debugWrite (c : Instr) (r : MgtReq) (a : Nat) (data : List Byte) (s : State) : State :=
  mgtRequest c r 0x0021 roleDebug (some (a :: data.map (·.toNat)))
    (fun _ _ => if data.length > 4096 then E.badLength else if a + data.length > Config.deviceMemory then E.badField else E.ok) s
    fun _ s => debugServeWrite c r a data (s.touched (s.ownersIn a data.length) 0x0021 s.time.last)

/-- CC_HALT: a control core of a twin halts, makes a step or goes on. -/
def ccHalt (c : Instr) (r : MgtReq) (t : Side) (core : Nat) (act : CcAct) (s : State) : State :=
  let n := match act with | .halt => 0 | .step => 1 | .resume => 2
  mgtRequest c r 0x0022 roleDebug (some [t.num, core, n]) noCheck s fun _ s =>
    let s := if s.carries t then s.touched (s.homeOf t) 0x0022 s.time.last else s
    let s := match act with
      | .halt => s.modTwin t fun w => { w with halted := setBit w.halted core true }
      | .step => s
      | .resume => s.modTwin t fun w => { w with halted := setBit w.halted core false }
    s.mgtSay r E.ok []

/-! ### Credentials, fuses and measurements (R452, R465) -/

/-- The credential set as it is mirrored and measured, in slot order. -/
def Mgt.credImage (m : Mgt) : List Byte :=
  (List.range 8).flatMap fun i => let x := Tbl.get ([], 0) m.creds i; Config.credBytes x.1 x.2

/-- CRED_SET. -/
def credSet (c : Instr) (r : MgtReq) (slot : Nat) (hash : List Byte) (roles : Nat) (s : State) : State :=
  mgtRequest c r 0x0030 roleAdmin (some (slot :: roles :: hash.map (·.toNat)))
    (fun x s =>
      if s.mgt.credLock && x.slot.isNone then E.notAuthorised
      else if hash.length ≠ 48 then E.badLength
      else if roles ≥ 32 then E.badField
      else E.ok) s
    fun _ s =>
      let s := s.modMgt fun m => { m with creds := Tbl.put m.creds slot (hash, roles) }
      ((s.measSet 4 (sha384 s.mgt.credImage)).flashWrite 0x2000000 (s.mgt.credImage.take 65536)).mgtSay r E.ok []

/-- The security fuses are measured anew. -/
def State.fuseMeas (s : State) : State := s.measSet 3 (sha384 (Config.fuseBytes s.mgt.minSvn s.mgt.credLock))

/-- CRED_LOCK. -/
def credLock (c : Instr) (r : MgtReq) (s : State) : State :=
  mgtRequest c r 0x0031 roleAdmin (some []) noCheck s fun _ s =>
    (s.modMgt fun m => { m with credLock := true }).fuseMeas.mgtSay r E.ok []

/-- SVN_RAISE: never lowered. -/
def svnRaise (c : Instr) (r : MgtReq) (svn : Nat) (s : State) : State :=
  mgtRequest c r 0x0032 roleAdmin (some [svn]) (fun _ s => if svn < s.mgt.minSvn || svn ≥ 65536 then E.badField else E.ok) s
    fun _ s => (s.modMgt fun m => { m with minSvn := max m.minSvn svn }).fuseMeas.mgtSay r E.ok []

/-- MEAS_EXTEND: one of slots 8 to 15. -/
def measExtend (c : Instr) (r : MgtReq) (slot : Nat) (d : List Byte) (s : State) : State :=
  mgtRequest c r 0x0033 roleOperate none (fun _ _ => if slot < 8 || slot > 15 then E.badField else if d.length ≠ 48 then E.badLength else E.ok) s
    fun _ s => (s.measExtend slot d).mgtSay r E.ok []

/-! ### Sensors (R466, R471) -/

/-- The limits of a sensor: WARN in bits 15:0, CRIT in 31:16, HYST in 47:32; those of ROM until they are written. -/
def State.limits (s : State) (i : Nat) : Word :=
  (Tbl.find s.mgt.limits i).getD
    (w64 ((Config.sensorWarn i).toNat + fld (Config.sensorCrit i).toNat 16 + fld (Config.sensorHyst i).toNat 32))

/-- The number that a sensor's 16 bits stand for: temperatures are signed. -/
def sensorNum (i v : Nat) : Int := if i < 12 && decide (v ≥ 32768) then (v : Int) - 65536 else v

/-- A sensor is at or beyond a limit; a voltage is beyond a limit when it lies below it. -/
def beyond (i v limit : Nat) : Bool :=
  if 12 ≤ i ∧ i < 20 then decide (v ≤ limit) else decide (sensorNum i v ≥ sensorNum i limit)

/-- A sensor is back past a limit by a hysteresis. -/
def backPast (i v limit hyst : Nat) : Bool :=
  if 12 ≤ i ∧ i < 20 then decide (v ≥ limit + hyst) else decide (sensorNum i v ≤ sensorNum i limit - hyst)

/-- The state after a sample: 0 NORMAL, 1 WARN, 2 CRIT. -/
def sensorState (i v : Nat) (limits : Word) (old : Nat) : Nat :=
  let w := bits limits.toNat 15 0
  let c := bits limits.toNat 31 16
  let h := bits limits.toNat 47 32
  let crit := if old = 2 then !backPast i v c h else beyond i v c
  let warn := if old ≥ 1 then !backPast i v w h else beyond i v w
  if crit then 2 else if warn then 1 else 0

/-- One sensor's sample. -/
def State.sample1 (s : State) (i v : Nat) : State :=
  let old := (Tbl.get (0, 0) s.mgt.sensors i).2
  let new := sensorState i v (s.limits i) old
  let s := s.modMgt fun m => { m with sensors := Tbl.set (0, 0) m.sensors i (v, new) }
  if new = old then s
  else
    let s := s.log s.time.last 9 0 none (if new = 2 then 3 else new) (i + fld new 8) v
    if new = 2 then s.chip 10 i else s

/-- SENSOR_SAMPLE: every sensor. -/
def sensorSample (values : List Nat) (s : State) : State :=
  if s.clk.phase < 4 then s else (values.take 24).zipIdx.foldl (fun s (v, i) => s.sample1 i (v % 65536)) s

/-- Some sensor is in WARN or CRIT: the epochs that begin are throttled. -/
def State.sensorThrottle (s : State) : Bool := s.mgt.sensors.any fun x => x.2.2 ≠ 0

/-! ### The log's mirror (R468) -/

/-- LOG_MIRROR_WRITE: one page, of a PAGE record and up to 127 records, padded with zeros. -/
def logMirrorWrite (s : State) : State :=
  if s.clk.phase < 4 || !s.gateOn 39 then s
  else
    let s := if s.mgt.lostNew = 0 then s
      else
        let n := s.mgt.lostNew
        (s.modMgt fun m => { m with lostNew := 0 }).log s.time.last 0xB 0 none 1 n 0
    let m := s.mgt
    let n := min 127 (m.written - m.mirrored)
    let head := logBytes (w64 s.time.last, logWord 0 0 none 0, w64 (s.gen 52), w64 m.pages)
    let recs := (List.range n).flatMap fun i => logBytes (s.logAt (m.mirrored + i))
    let page := head ++ recs ++ List.replicate (4096 - 32 - recs.length) 0
    (s.flashWrite (0x3000000 + 4096 * (m.pages % 2048)) page).modMgt fun m =>
      { m with mirrored := m.mirrored + n, pages := m.pages + 1 }

end Sys2Proof.Machine
end

