-- ==== Sys2Proof/Machine/Flags.lean ====
section
/-! DEFINITION. The registers by name: where each stands, which of its bits are fields, what a write may not set, and the
fields of which each path has its own copy (R10 to R18, R492 to R498). -/

namespace Sys2Proof.Machine

/-- The registers of BAR0 (R498): the function block, the port block, the shared-plane window. -/
inductive Reg where
  | idPart | idRev | idSerial | idFunc | objQuerySel | objQueryD (n : Fin 4) | xltFring | xltFringPtr | xltFaultResp
  | xltCtl | xltStatus | xltProbeVa | xltProbeSel | xltProbeEntry | irqFuncVec | irqVecSel | irqVec | irqAck
  | fltRegErr | fltCtxEvent | fltCtxStamp | cmdPortStatus | cmdPortCtl | cmdJournalFlushAddr | cmdJournalStatus
  | cmdJournalLastAck | objPlaceSel | objPlaceD (n : Fin 4) | objPrivRing | objPrivReply | irqGlobal | cmdStampLast
  | cmdStampState | objTableBase | objCount0 | objCount1 | xltPartSel | xltPart | xltPartTotal | ceSel | ceStatus
  | ceMoved | ceCount | ceErr | cohCtl | cohPartSel | cohPart | cohPartTotal | cohDomainSel | cohDomain | cohStatus
  | cohCount | cohCount1 | cohDead | cohDeadStamp | cohRlcStatus | cohDirProbe | cohDirEntry (n : Fin 3) | fabStatus
  | fabIdCtl | fabCtl | fabSkew | fabLinkSel | fabLink | fabRouteSel | fabRoute | fabGrantSel | fabGrantD (n : Fin 4)
  | fabProxySel | fabProxy | fabGroupSel | fabGroup | fabGlobal | fabSnapTick | fabSnapStamp | fabCount | irqRouteSel
  | irqRoute | irqWakeSel | irqWake | irqWakeCtl | irqWakeStatus | fltStaleGen | fltSel | fltFirst | fltCaptureSel
  | fltCapture0 | fltCapture1 | fltAck | fltCtl | fltState | fltChip | rstTwinCtl | rstTwinStatus | rstFailoverStamp
  | rstCdSel | rstCdCtl | rstCdStatus | rstCdSampleStamp | rstSampleSel | rstSampleData | rstDomainSel | rstDomain
  | rstDip | clkStatus | clkSrc | clkGate | clkFcntCtl | clkFcnt | clkBistCtl | clkBistStatus | clkBistSel
  | clkBistSig | clkBistExpect | mgtSensorSel | mgtSensor | mgtSensorLimit | mgtLogPtr | mgtLogSel
  | mgtLogData (n : Fin 4) | mgtCredSel | mgtCred | mgtCredHash (n : Fin 6) | mgtNet | secMeasSel
  | secMeas (n : Fin 6) | secStatus | secIdeSel | secIde | secTdiSel | secTdi | planStatus | planCommitTick
  | planSwitchTick | planSel | planAckCe | planAckUnit | planId | planDigest (n : Fin 6) | planEpoch
  deriving DecidableEq, Repr

/-- Byte offset in BAR0 (R498). -/
def Reg.offset : Reg → Nat
  | .idPart => 0x0 | .idRev => 0x8 | .idSerial => 0x10 | .idFunc => 0x18 | .objQuerySel => 0x100
  | .objQueryD n => 0x108 + 8 * n.val | .xltFring => 0x200 | .xltFringPtr => 0x208 | .xltFaultResp => 0x210
  | .xltCtl => 0x218 | .xltStatus => 0x220 | .xltProbeVa => 0x228 | .xltProbeSel => 0x230 | .xltProbeEntry => 0x238
  | .irqFuncVec => 0x300 | .irqVecSel => 0x308 | .irqVec => 0x310 | .irqAck => 0x318 | .fltRegErr => 0x400
  | .fltCtxEvent => 0x408 | .fltCtxStamp => 0x410 | .cmdPortStatus => 0x10000 | .cmdPortCtl => 0x10008
  | .cmdJournalFlushAddr => 0x10010 | .cmdJournalStatus => 0x10018 | .cmdJournalLastAck => 0x10020
  | .objPlaceSel => 0x10100 | .objPlaceD n => 0x10108 + 8 * n.val | .objPrivRing => 0x10128
  | .objPrivReply => 0x10130 | .irqGlobal => 0x10300 | .cmdStampLast => 0x100000 | .cmdStampState => 0x100008
  | .objTableBase => 0x101000 | .objCount0 => 0x101008 | .objCount1 => 0x101010 | .xltPartSel => 0x102000
  | .xltPart => 0x102008 | .xltPartTotal => 0x102010 | .ceSel => 0x103000 | .ceStatus => 0x103008
  | .ceMoved => 0x103010 | .ceCount => 0x103018 | .ceErr => 0x103020 | .cohCtl => 0x104000 | .cohPartSel => 0x104008
  | .cohPart => 0x104010 | .cohPartTotal => 0x104018 | .cohDomainSel => 0x104020 | .cohDomain => 0x104028
  | .cohStatus => 0x104030 | .cohCount => 0x104038 | .cohCount1 => 0x104040 | .cohDead => 0x104048
  | .cohDeadStamp => 0x104050 | .cohRlcStatus => 0x104058 | .cohDirProbe => 0x104060
  | .cohDirEntry n => 0x104068 + 8 * n.val | .fabStatus => 0x105000 | .fabIdCtl => 0x105008 | .fabCtl => 0x105010
  | .fabSkew => 0x105018 | .fabLinkSel => 0x105020 | .fabLink => 0x105028 | .fabRouteSel => 0x105030
  | .fabRoute => 0x105038 | .fabGrantSel => 0x105040 | .fabGrantD n => 0x105048 + 8 * n.val
  | .fabProxySel => 0x105068 | .fabProxy => 0x105070 | .fabGroupSel => 0x105078 | .fabGroup => 0x105080
  | .fabGlobal => 0x105088 | .fabSnapTick => 0x105090 | .fabSnapStamp => 0x105098 | .fabCount => 0x1050A0
  | .irqRouteSel => 0x106000 | .irqRoute => 0x106008 | .irqWakeSel => 0x106010 | .irqWake => 0x106018
  | .irqWakeCtl => 0x106020 | .irqWakeStatus => 0x106028 | .fltStaleGen => 0x107000 | .fltSel => 0x107008
  | .fltFirst => 0x107010 | .fltCaptureSel => 0x107018 | .fltCapture0 => 0x107020 | .fltCapture1 => 0x107028
  | .fltAck => 0x107030 | .fltCtl => 0x107038 | .fltState => 0x107040 | .fltChip => 0x107048
  | .rstTwinCtl => 0x108000 | .rstTwinStatus => 0x108008 | .rstFailoverStamp => 0x108010 | .rstCdSel => 0x108018
  | .rstCdCtl => 0x108020 | .rstCdStatus => 0x108028 | .rstCdSampleStamp => 0x108030 | .rstSampleSel => 0x108038
  | .rstSampleData => 0x108040 | .rstDomainSel => 0x108048 | .rstDomain => 0x108050 | .rstDip => 0x108058
  | .clkStatus => 0x109000 | .clkSrc => 0x109008 | .clkGate => 0x109010 | .clkFcntCtl => 0x109018
  | .clkFcnt => 0x109020 | .clkBistCtl => 0x109028 | .clkBistStatus => 0x109030 | .clkBistSel => 0x109038
  | .clkBistSig => 0x109040 | .clkBistExpect => 0x109048 | .mgtSensorSel => 0x10A000 | .mgtSensor => 0x10A008
  | .mgtSensorLimit => 0x10A010 | .mgtLogPtr => 0x10A018 | .mgtLogSel => 0x10A020
  | .mgtLogData n => 0x10A028 + 8 * n.val | .mgtCredSel => 0x10A048 | .mgtCred => 0x10A050
  | .mgtCredHash n => 0x10A058 + 8 * n.val | .mgtNet => 0x10A088 | .secMeasSel => 0x10B000
  | .secMeas n => 0x10B008 + 8 * n.val | .secStatus => 0x10B038 | .secIdeSel => 0x10B040 | .secIde => 0x10B048
  | .secTdiSel => 0x10B050 | .secTdi => 0x10B058 | .planStatus => 0x10C000 | .planCommitTick => 0x10C008
  | .planSwitchTick => 0x10C010 | .planSel => 0x10C018 | .planAckCe => 0x10C020 | .planAckUnit => 0x10C028
  | .planId => 0x10C030 | .planDigest n => 0x10C038 + 8 * n.val | .planEpoch => 0x10C068

/-- The bits of a register that are fields; every other bit is reserved (R13). -/
def Reg.mask : Reg → Nat
  | .idPart => 0xFFFF | .idRev => 0xFFFF | .idFunc => 0xFF | .objQuerySel => 0x80000003FFFFFFFF
  | .xltFring => 0x1FFFFFFFFFFF01F | .xltFringPtr => 0xFFFF0000FFFF | .xltFaultResp => 0x3FFFF
  | .xltCtl => 0x1FFFFFFFFFFFF | .xltStatus => 0x8000FFFFFFFF0003 | .xltProbeVa => 0x1FFFFFFFFFFFFFF
  | .xltProbeSel => 0xC7FFFF0000000FFF | .irqFuncVec => 0x7FF07FF07FF | .irqVecSel => 0x7FF
  | .irqVec => 0xFFFF03FF001FFFFF | .irqAck => 0xC0000000000007FF | .fltRegErr => 0xFFFFFFFFC1FFFFFF
  | .fltCtxEvent => 0xFFFFFFFFF0000000 | .cmdPortStatus => 0xFFFFFF00000FFC | .cmdPortCtl => 0x807F
  | .cmdJournalFlushAddr => 0xFFFFFFFFFFFFFFFC | .cmdJournalStatus => 0xFFFFFFFFE0003FFF
  | .objPlaceSel => 0xC0000000000000FF | .objPlaceD 0 => 0xFFFFFFFFFF | .objPlaceD 1 => 0x3FFFFFFFF
  | .objPlaceD 2 => 0xFFFFFFFFFFE00000 | .objPlaceD 3 => 0x37FFFFFFFF | .objPrivRing => 0x1FFFFFFFFFFF01F
  | .objPrivReply => 0x1FFFFFFFFFFF000 | .irqGlobal => 0xFFFF0001 | .cmdStampState => 0x1F
  | .objTableBase => 0xFFFFFFFFF0000000 | .objCount0 => 0x1FFF00007FFF | .objCount1 => 0x7FFFFF001FFFFF
  | .xltPartSel => 0x8000000000000FFF | .xltPart => 0xFFFFFFFF03FF | .xltPartTotal => 0xFFFFFFFF03FF | .ceSel => 0x3F
  | .ceStatus => 0xFFFC0000FC | .ceErr => 0x7 | .cohCtl => 0x1 | .cohPartSel => 0x8000000000000FFF
  | .cohPart => 0xFF03FF | .cohPartTotal => 0xFF03FF | .cohDomainSel => 0x800000000000007F
  | .cohDomain => 0x107FFFFFF | .cohDead => 0xFFFFFF0000000000 | .cohRlcStatus => 0xFFFF000FFFFF
  | .cohDirProbe => 0xC00001FFFFFFFF80 | .cohDirEntry 0 => 0xFFFFFFFFFFFFFFFF | .cohDirEntry 1 => 0xFE000FFF000007FF
  | .cohDirEntry 2 => 0xFFFFFFFFFFFFFFFF | .fabStatus => 0xFFFFFFFFFFC0001F | .fabIdCtl => 0x7FFF
  | .fabCtl => 0xFFFFFF0000000F | .fabSkew => 0xFFFFFFFF | .fabLinkSel => 0x1F | .fabLink => 0xFFFFE1FF0000FFFF
  | .fabRouteSel => 0xC000000000003FFF | .fabRoute => 0xFFE0FFFFFFFFFFFF | .fabGrantSel => 0xC00000000000FFFF
  | .fabGrantD 0 => 0xFFFFFFFFFC0000F7 | .fabGrantD 1 => 0xFF000000FFFFFFFF | .fabGrantD 2 => 0xFFFFFFFFFFFF0000
  | .fabGrantD 3 => 0x1FFFFFF | .fabProxySel => 0xC0000000FFFFFFFF | .fabProxy => 0xFFFFFFFC00000000
  | .fabGroupSel => 0xC00000000000FFFF | .fabGroup => 0xFFFFFFFE003FFFFF | .fabGlobal => 0xF00000000000FFFF
  | .fabSnapTick => 0xFFFFFFFFFFFF | .irqRouteSel => 0x800000000007F7FF | .irqRoute => 0x1FF1F | .irqWakeSel => 0x1F
  | .irqWake => 0xF00FFFFFFFFFFFFF | .irqWakeCtl => 0xC00000000000000B | .irqWakeStatus => 0xFFFF0000FFFFFFFF
  | .fltStaleGen => 0x8FFFFFFFFFFFFFFF | .fltSel => 0x1 | .fltFirst => 0x1FFF | .fltCaptureSel => 0xF
  | .fltCapture1 => 0xFFFFFFF8FFFFFFFF | .fltAck => 0x1FFF | .fltCtl => 0x1FFFF001FFF | .fltChip => 0x7FF
  | .rstTwinCtl => 0xF001FFFFFFFFFFFF | .rstTwinStatus => 0xFFC0FFFFC0000000 | .rstCdSel => 0x3F
  | .rstCdCtl => 0xC000000000000000 | .rstCdStatus => 0xF8FF0FFFFFFF0000 | .rstSampleSel => 0x800000000007FFFF
  | .rstDomainSel => 0x3F | .rstDomain => 0xFF | .rstDip => 0x8000FFFFFFFF0007 | .clkStatus => 0xFE000000FF07
  | .clkSrc => 0x1FF3 | .clkGate => 0xFFFFFFFFFF | .clkFcntCtl => 0x80000000FFFFFFFF | .clkFcnt => 0xE0000000FFFFFFFF
  | .clkBistCtl => 0x8000000000000007 | .clkBistStatus => 0x63F | .clkBistSel => 0xF | .mgtSensorSel => 0x1F
  | .mgtSensor => 0x30000000000FFFF | .mgtSensorLimit => 0xFFFFFFFFFFFF | .mgtLogPtr => 0xFFFF00001FFF1FFF
  | .mgtLogSel => 0x1FFF | .mgtCredSel => 0x7 | .mgtCred => 0x800000000000001F | .mgtNet => 0xFFFFFFFFFFFF
  | .secMeasSel => 0xF | .secStatus => 0xFFFFFFFFFFFFFF07 | .secIdeSel => 0xF | .secIde => 0xFFFF000000000101
  | .secTdiSel => 0xFF | .secTdi => 0xE700FFFFFFFFFFFF | .planStatus => 0xFFFEFFF000
  | .planCommitTick => 0xFFFFFFFFFFFF | .planSwitchTick => 0xFFFFFFFFFFFF | .planSel => 0x3
  | .planAckCe => 0xFFFFFFFFFF | .planAckUnit => 0x3FFFFFF | .planEpoch => 0x8000FFFFFFFF03FF
  | _ => 2 ^ 64 - 1

/-- Registers of every function's block. -/
def fnRegs : List Reg :=
  [.idPart, .idRev, .idSerial, .idFunc, .objQuerySel, .objQueryD 0, .objQueryD 1, .objQueryD 2, .objQueryD 3,
   .xltFring, .xltFringPtr, .xltFaultResp, .xltCtl, .xltStatus, .xltProbeVa, .xltProbeSel, .xltProbeEntry,
   .irqFuncVec, .irqVecSel, .irqVec, .irqAck, .fltRegErr, .fltCtxEvent, .fltCtxStamp]

/-- Registers of a port's block, in its PF's BAR0. -/
def portRegs : List Reg :=
  [.cmdPortStatus, .cmdPortCtl, .cmdJournalFlushAddr, .cmdJournalStatus, .cmdJournalLastAck, .objPlaceSel,
   .objPlaceD 0, .objPlaceD 1, .objPlaceD 2, .objPlaceD 3, .objPrivRing, .objPrivReply, .irqGlobal]

/-- Registers of the shared-plane window. -/
def sharedRegs0 : List Reg :=
  [.cmdStampLast, .cmdStampState, .objTableBase, .objCount0, .objCount1, .xltPartSel, .xltPart, .xltPartTotal,
   .ceSel, .ceStatus, .ceMoved, .ceCount, .ceErr, .cohCtl, .cohPartSel, .cohPart, .cohPartTotal, .cohDomainSel,
   .cohDomain, .cohStatus, .cohCount, .cohCount1, .cohDead, .cohDeadStamp, .cohRlcStatus, .cohDirProbe,
   .cohDirEntry 0, .cohDirEntry 1, .cohDirEntry 2, .fabStatus, .fabIdCtl, .fabCtl, .fabSkew, .fabLinkSel, .fabLink,
   .fabRouteSel, .fabRoute, .fabGrantSel, .fabGrantD 0, .fabGrantD 1]

/-- Registers of the shared-plane window. -/
def sharedRegs1 : List Reg :=
  [.fabGrantD 2, .fabGrantD 3, .fabProxySel, .fabProxy, .fabGroupSel, .fabGroup, .fabGlobal, .fabSnapTick,
   .fabSnapStamp, .fabCount, .irqRouteSel, .irqRoute, .irqWakeSel, .irqWake, .irqWakeCtl, .irqWakeStatus,
   .fltStaleGen, .fltSel, .fltFirst, .fltCaptureSel, .fltCapture0, .fltCapture1, .fltAck, .fltCtl, .fltState,
   .fltChip, .rstTwinCtl, .rstTwinStatus, .rstFailoverStamp, .rstCdSel, .rstCdCtl, .rstCdStatus, .rstCdSampleStamp,
   .rstSampleSel, .rstSampleData, .rstDomainSel, .rstDomain, .rstDip, .clkStatus, .clkSrc]

/-- Registers of the shared-plane window. -/
def sharedRegs2 : List Reg :=
  [.clkGate, .clkFcntCtl, .clkFcnt, .clkBistCtl, .clkBistStatus, .clkBistSel, .clkBistSig, .clkBistExpect,
   .mgtSensorSel, .mgtSensor, .mgtSensorLimit, .mgtLogPtr, .mgtLogSel, .mgtLogData 0, .mgtLogData 1, .mgtLogData 2,
   .mgtLogData 3, .mgtCredSel, .mgtCred, .mgtCredHash 0, .mgtCredHash 1, .mgtCredHash 2, .mgtCredHash 3,
   .mgtCredHash 4, .mgtCredHash 5, .mgtNet, .secMeasSel, .secMeas 0, .secMeas 1, .secMeas 2, .secMeas 3, .secMeas 4,
   .secMeas 5, .secStatus, .secIdeSel, .secIde, .secTdiSel, .secTdi, .planStatus, .planCommitTick]

/-- Registers of the shared-plane window. -/
def sharedRegs3 : List Reg :=
  [.planSwitchTick, .planSel, .planAckCe, .planAckUnit, .planId, .planDigest 0, .planDigest 1, .planDigest 2,
   .planDigest 3, .planDigest 4, .planDigest 5, .planEpoch]

/-- Registers of the shared-plane window. -/
def sharedRegs : List Reg := sharedRegs0 ++ sharedRegs1 ++ sharedRegs2 ++ sharedRegs3

/-- The register at an offset of a function's BAR0: a VF's holds its function block alone (R17, R493). -/
def regAt (f offset : Nat) : Option Reg :=
  (if offset < 0x10000 then fnRegs else if f ≠ 0 then [] else if offset < 0x100000 then portRegs else sharedRegs).find?
    fun r => r.offset = offset

/-- Fields marked RW that only the management controller writes (R470, R487). -/
def Reg.mgmtOnly : Reg → Bool
  | .mgtSensorSel | .mgtSensorLimit | .mgtLogSel | .mgtCredSel | .secMeasSel | .secIdeSel | .secTdiSel | .clkBistCtl => true
  | _ => false

/-- What a path's copy of a field reads as before the path has written it (R498). -/
def Reg.selReset : Reg → Nat
  | .secTdiSel | .clkBistSel => 1
  | .clkFcntCtl => 0x1000C350
  | .xltPart => 0x800040000
  | .cohDirEntry n => if n = 0 then 2 ^ 64 - 1 else 0
  | _ => 0

/-- At most one of the bits that the list names is set. -/
def oneOf (v : Nat) (l : List Nat) : Bool := decide (l.countP (tst v ·) ≤ 1)

/-- A value that a register's own table calls illegal, beyond its reserved bits (R14, R18). An ARG of HX_IRQ_WAKE that its KIND does not use is
none (DESIGN CHOICE, log entry 183). -/
def Reg.illegal (f v : Nat) : Reg → Bool
  | .xltFring => decide (bits v 4 0 < 6) || decide (16 < bits v 4 0)
  | .xltCtl => bits v 47 24 = 0 || bits v 23 0 = 0
  | .irqFuncVec =>
    [bits v 42 32, bits v 26 16, bits v 10 0].any (fun x => decide (vecCount f ≤ x)) || (f ≠ 0 && bits v 42 32 ≠ 0)
  | .irqVecSel | .irqAck => decide (vecCount f ≤ bits v 10 0)
  | .irqVec => bits v 17 10 = 0
  | .cmdPortCtl => bits v 6 0 = 0 || decide (100 < bits v 6 0)
  | .objPrivRing => decide (bits v 4 0 < 8) || decide (16 < bits v 4 0)
  | .xltPart => decide (32768 < bits v 47 32) || decide (16384 < bits v 31 16) || decide (512 < bits v 9 0)
  | .ceSel => decide (40 ≤ v)
  | .cohPart => decide (128 < bits v 23 16) || decide (512 < bits v 9 0)
  | .cohDomain => decide (1024 < bits v 26 16)
  | .fabCtl => bits v 55 32 = 0 || bits v 3 0 = 0
  | .fabLinkSel => decide (24 ≤ v)
  | .fabGroup => bits v 61 47 = 0 || decide (16384 < bits v 61 47)
  | .fabGlobal => bits v 62 61 = 0 || bits v 62 61 = 3
  | .irqRouteSel => decide (vecCount (bits v 18 12) ≤ bits v 10 0)
  | .irqWake => decide (6 < bits v 51 48)
  | .fltCaptureSel => decide (13 ≤ v)
  | .fltCtl => decide (bits v 40 24 < 64) || decide (65536 < bits v 40 24) || bits v 12 0 = 0 || decide (4096 < bits v 12 0)
  | .rstTwinCtl => !oneOf v [63, 62, 61, 60]
  | .rstCdSel => decide (48 ≤ v)
  | .rstCdCtl => !oneOf v [63, 62]
  | .rstSampleSel => decide (48 ≤ bits v 18 13) || decide (12 ≤ bits v 12 9)
  | .rstDomainSel => decide (53 ≤ v)
  | .clkFcntCtl => decide (12 ≤ bits v 31 28) || decide (12 ≤ bits v 27 24) || bits v 23 0 = 0
  | .clkBistCtl => bits v 2 1 = 0
  | .clkBistSel => bits v 3 2 = 3 || bits v 1 0 = 0 || bits v 1 0 = 3 || (bits v 3 2 = 2 && bits v 1 0 = 1)
  | .mgtSensorSel => decide (24 ≤ v)
  | .secTdiSel => bits v 6 0 = 0
  | _ => false

/-- A write sets a reserved bit (R13). -/
def Reg.reserved (r : Reg) (v : Nat) : Bool := Nat.land v r.mask ≠ v

/-- Where a path's copy of a field stands. -/
def selKey (path : Path) (r : Reg) : Nat :=
  (if r.offset < 0x100000 then Path.copy path else Path.sharedCopy path) * 2 ^ 25 + r.offset

/-- A path's copy of a register's fields (R495). -/
def State.sel (s : State) (path : Path) (r : Reg) : Nat := ((Tbl.find s.sels (selKey path r)).getD (w64 r.selReset)).toNat

/-- The same, written. -/
def State.setSel (s : State) (path : Path) (r : Reg) (v : Nat) : State :=
  { s with
    sels := if w64 v = w64 r.selReset then Tbl.del s.sels (selKey path r) else Tbl.put s.sels (selKey path r) (w64 v) }

/-! ### Codes of the states (R72, R149 to R151, R329, R401, R450) -/

def CtxState.code : CtxState → Nat
  | .free => 0 | .opened => 1 | .running => 2 | .parked => 3 | .draining => 4 | .dead => 5

def QState.code : QState → Nat
  | .idle => 0 | .active => 1 | .parked => 2 | .stopped => 3

def ObjState.code : ObjState → Nat
  | .free => 0 | .live => 1 | .retiring => 2

def FenceState.code : FenceState → Nat
  | .pending => 0 | .signalled => 1 | .broken => 2

def SlotState.code : SlotState → Nat
  | .empty => 0 | .loading => 1 | .staged => 2 | .pending => 3 | .active => 4

def VecState.code : VecState → Nat
  | .quiet => 0 | .waiting => 1 | .due => 2 | .service => 3

def DirState.code : DirState → Nat
  | .i => 0 | .s => 1 | .o => 2 | .x => 3

end Sys2Proof.Machine
end

