-- ==== Sys2Proof/Machine/Regs.lean ====
section
/-! DEFINITION. What a read of each register returns, and what a write of each does (R10 to R18, R492 to R498, and the
chapters that the tables name). -/

namespace Sys2Proof.Machine

/-! ### Reads -/

/-- The function through which a path acts: the PF for the alias and for the management controller (R464, R496). -/
def Path.func : Path → Nat
  | .bar _ f _ => f.val
  | _ => 0

/-- Words of bytes as a register array shows them: bytes 8n to 8n + 7. -/
def wordAt (l : List Byte) (n : Nat) : Nat := leNat ((l.drop (8 * n)).take 8)

def Func.statusWord (f : Func) (stalled : Nat) : Nat := fld f.lost 32 + fld stalled 16 + fld (bit f.rf) 1 + bit f.full

/-- HX_IRQ_VEC of a vector (R414). -/
def Vec.word (x : Vec) : Nat :=
  fld x.state.code 62 + fld x.events 48 + fld x.delayNow 32 + fld (bit x.autoAck) 20 + fld (bit x.adapt) 19 + fld (bit x.idle) 18 +
    fld x.count 10 + x.delay

/-- The function block (R148, R227, R228, R414, R449, R497). -/
def State.readFn (s : State) (path : Path) : Reg → Nat
  | .idPart => 0x4858
  | .idRev => 0x0200
  | .idSerial => Config.serial.toNat
  | .idFunc => fld (Path.side path).num 7 + Path.func path
  | .objQuerySel => s.sel path .objQuerySel
  | .objQueryD n => s.sel path (.objQueryD n)
  | .xltFring =>
    let x := s.func (Path.side path) (Path.func path)
    (x.fringNext.getD x.fring).toNat
  | .xltFringPtr =>
    let x := s.func (Path.side path) (Path.func path)
    fld x.ringTail 32 + x.ringHead
  | .xltCtl => (s.func (Path.side path) (Path.func path)).ctl.toNat
  | .xltStatus =>
    (s.func (Path.side path) (Path.func path)).statusWord (s.stalledCount (Path.side path) (Path.func path))
  | .xltProbeVa => s.sel path .xltProbeVa
  | .xltProbeSel => s.sel path .xltProbeSel
  | .xltProbeEntry => s.sel path .xltProbeEntry
  | .irqFuncVec =>
    let x := s.func (Path.side path) (Path.func path)
    fld x.privVec 32 + fld x.errVec 16 + x.fringVec
  | .irqVecSel => s.sel path .irqVecSel
  | .irqVec => (s.vec (Path.func path) (s.sel path .irqVecSel)).word
  | .fltRegErr =>
    let x := s.func (Path.side path) (Path.func path)
    fld x.errCount 48 + fld x.errCode 32 + fld x.errSpace 30 + x.errOffset
  | .fltCtxEvent => (s.func (Path.side path) (Path.func path)).ctxEvent.toNat
  | .fltCtxStamp => (s.func (Path.side path) (Path.func path)).ctxStamp
  | _ => 0

/-- HX_CMD_PORT_STATUS (R116). -/
def Port.statusWord (x : Port) : Nat :=
  fld (if x.capHidden then 0 else x.cap) 40 + fld x.retrains 32 + fld (bit x.holding) 11 +
    if x.up then fld 1 10 + fld (bit x.flit) 9 + fld (bit x.cxl) 8 + fld x.speed 5 + fld x.width 2 else 0

/-- HX_CMD_JOURNAL_STATUS (R116). -/
def Port.journalWord (x : Port) : Nat :=
  fld x.replays 48 + fld x.discards 40 + fld x.refused 32 + fld (bit x.flushErr) 31 + fld (bit x.full) 30 +
    fld (bit x.acked) 29 + (journalUsed x.journal + 1023) / 1024

/-- The descriptor committed to a region (R117). -/
def Region.word (r : Region) (n : Fin 4) : Nat :=
  match n with
  | 0 => r.d0.toNat | 1 => r.d1.toNat | 2 => r.d2.toNat | 3 => r.d3.toNat

/-- A region as its registers show it: what was last committed, and zeros once it is cleared (DESIGN CHOICE, log entry 184). -/
def Region.committed (r : Region) : Region :=
  match r.next with
  | .none => r
  | some .none => Region.none
  | some (some (d0, d1, d2, d3)) => { r with d0 := d0, d1 := d1, d2 := d2, d3 := d3 }

/-- The port block (R116, R117, R152, R415). -/
def State.readPort (s : State) (path : Path) : Reg → Nat
  | .cmdPortStatus => (s.port (Path.side path)).statusWord
  | .cmdPortCtl => fld (bit (s.port (Path.side path)).offer) 15 + (s.port (Path.side path)).holdCfg
  | .cmdJournalFlushAddr => (s.port (Path.side path)).flushAddr
  | .cmdJournalStatus => (s.port (Path.side path)).journalWord
  | .cmdJournalLastAck => (s.port (Path.side path)).lastAck
  | .objPlaceSel => s.sel path .objPlaceSel
  | .objPlaceD n => (Tbl.get Region.none (s.port (Path.side path)).regions (s.sel path .objPlaceSel)).committed.word n
  | .objPrivRing => (s.port (Path.side path)).privRing.toNat
  | .objPrivReply => (s.port (Path.side path)).privReply.toNat
  | .irqGlobal => fld (s.heldBy (Path.side path)) 16 + bit (s.port (Path.side path)).disable
  | _ => 0

/-- HX_CE_STATUS of an engine (R260). Between two commands a window is open while it waits for a translation; a unit moves while its
source data is awaited. -/
def State.engineStatus (s : State) (n : Nat) : Nat :=
  let x := s.engine n
  let open_ := ((Tbl.find s.plan.waits n).bind fun (i, _) => s.entries[i]?).elim 0x3FFF enQueue
  let busy := s.queues.any fun (_, q) => q.cmds.any fun c => c.claims.any fun k => k.engine = n
  fld open_ 26 + fld (bit (x.corr || x.poisonSrc || x.uncorr)) 7 + fld (bit busy) 6 + fld (engineRole n) 4 +
    fld (engineTwin n).num 3 + fld (bit (s.serves (engineTwin n))) 2

/-- Stamps, tables and counts, partitions, engines (R39, R40, R147, R153, R226, R260). -/
def State.readCore (s : State) (path : Path) : Reg → Nat
  | .cmdStampLast => s.time.last
  | .cmdStampState =>
    fld (bit s.time.jumped) 4 + fld (bit s.time.wrapped) 3 + fld (bit s.time.carry) 2 + fld (bit s.time.standbyOk) 1 + bit s.leadB
  | .objTableBase => tableBase
  | .objCount0 =>
    fld (s.ctxs.countP fun (_, c) => decide (c.state ≠ .free)) 32 + s.queues.countP fun (_, q) => q.live
  | .objCount1 =>
    fld (s.objs.countP fun (_, o) => decide (o.state ≠ .free)) 32 + s.fences.countP fun (_, f) => f.live
  | .xltPartSel => s.sel path .xltPartSel
  | .xltPart =>
    let p := s.part (s.sel path .xltPartSel)
    fld p.1 32 + fld p.2.1 16 + p.2.2
  | .xltPartTotal =>
    let p := s.partSums
    fld p.1 32 + fld p.2.1 16 + p.2.2
  | .ceSel => s.sel path .ceSel
  | .ceStatus => s.engineStatus (s.sel path .ceSel)
  | .ceMoved => (s.engine (s.sel path .ceSel)).moved
  | .ceCount => fld (s.engine (s.sel path .ceSel)).skipped 32 + (s.engine (s.sel path .ceSel)).idle
  | .ceErr =>
    let x := s.engine (s.sel path .ceSel)
    fld (bit x.uncorr) 2 + fld (bit x.poisonSrc) 1 + bit x.corr
  | _ => 0

/-- Banks committed over all slots (R327). -/
def State.bankSums (s : State) : Nat × Nat := ((s.coh.parts.map fun x => x.2.1).sum, (s.coh.parts.map fun x => x.2.2).sum)

/-- The three words of a directory entry as a probe shows them (R358). -/
def DirEntry.words (e : DirEntry) (ctx : Nat) : Nat × Nat × Nat :=
  let ptr := fun (i : Nat) => fld (e.ptrs.getD i 0xFFFF) (16 * i)
  (ptr 3 + ptr 2 + ptr 1 + ptr 0,
   fld e.state.code 62 + fld (bit e.blocked.isSome) 61 + fld (bit !e.awaits.isEmpty) 60 + fld (bit e.bcast) 59 + fld e.pred 57 +
     fld ctx 32 + e.count,
   e.presence)

/-- The coherence registers (R354 to R358). -/
def State.readCoh (s : State) (path : Path) : Reg → Nat
  | .cohCtl => bit s.coh.predOn
  | .cohPartSel => s.sel path .cohPartSel
  | .cohPart =>
    let p := Tbl.get (0, 0) s.coh.parts (s.sel path .cohPartSel)
    fld p.2 16 + p.1
  | .cohPartTotal => fld s.bankSums.2 16 + s.bankSums.1
  | .cohDomainSel => s.sel path .cohDomainSel
  | .cohDomain =>
    let d := s.domain (s.sel path .cohDomainSel)
    fld (bit d.valid) 32 + fld d.members 16 + d.group
  | .cohStatus =>
    fld (bit s.coh.sweep.isSome) 63 + fld (min 32767 (s.coh.dir.countP fun (_, e) => e.blocked.isSome)) 48 +
      fld (s.coh.dir.countP fun (_, e) => e.bcast) 24 + s.coh.dir.countP fun (_, e) => decide (e.state ≠ .i)
  | .cohCount => fld s.coh.proto 48 + fld s.coh.timeouts 32 + fld s.coh.deferred 16 + s.coh.stalePut
  | .cohCount1 => fld s.coh.poisoned 32 + s.coh.evictions
  | .cohDead => fld s.coh.deadAgent 48 + fld s.coh.deadCount 40
  | .cohDeadStamp => s.coh.deadStamp
  | .cohRlcStatus => fld s.coh.drops 32 + s.coh.lines.countP fun l => decide (l.agent = .cache) && decide (l.state ≠ .i)
  | .cohDirProbe => s.sel path .cohDirProbe
  | .cohDirEntry n => s.sel path (.cohDirEntry n)
  | _ => 0

/-- HX_FAB_ROUTE of a destination (R371). -/
def Route.word (r : Route) : Nat :=
  fld r.pgen 56 + fld r.active 54 + fld (bit r.unreach) 53 + fld r.alts 24 + fld r.hops 16 + r.delay

/-- The four words of a grant (R396). -/
def GrantEnt.word (g : GrantEnt) (n : Fin 4) : Nat :=
  match n with
  | 0 =>
    fld g.holder 50 + fld g.holderCtx 38 + fld g.ctx 26 + fld (bit g.offered) 7 + fld (bit g.refused) 6 + fld (bit g.enable) 5 +
      fld (bit g.fence) 4 + g.rights
  | 1 => fld g.ggen 56 + g.target
  | 2 => g.offset
  | 3 => g.size64k

/-- HX_FAB_GROUP: group 0 is the whole fabric (R360, R396). -/
def State.groupWord (s : State) (g : Nat) : Nat :=
  let x := s.group g
  if g = 0 then fld (bit s.time.agreed) 63 + fld (s.members 0).length 47 + fld (s.rankIn 0) 33
  else fld (bit x.valid) 63 + fld (bit x.mismatch) 62 + fld x.members 47 + fld x.rank 33 + x.obj

/-- HX_FAB_PROXY of the selected fence: the FENCE grant it is bound to (R396). -/
def State.proxyWord (s : State) (h : Nat) : Nat :=
  match s.fenceOf h with
  | some f => match f.proxy with | some (d, g) => fld d 50 + fld g 34 | none => 0
  | none => 0

/-- The fabric registers (R394 to R397). -/
def State.readFab (s : State) (path : Path) : Reg → Nat
  | .fabStatus =>
    fld s.fab.root 50 + fld s.fab.device 36 + fld s.fab.diameter 30 + fld s.linksUp.length 25 + fld s.fab.phase 22 +
      fld (bit s.fab.conflict) 4 + fld (bit s.fab.skew) 3 + fld (bit s.fab.detached) 2 + fld (bit s.fab.isRoot) 1 + bit s.time.agreed
  | .fabIdCtl => s.fab.idCtl.toNat
  | .fabCtl => s.fab.ctl.toNat
  | .fabSkew => fld s.fab.skewMax 16 + s.fab.skewNow
  | .fabLinkSel => s.sel path .fabLinkSel
  | .fabLink =>
    let l := s.flink (s.sel path .fabLinkSel)
    fld l.peerDev 50 + fld l.peerLink 45 + fld l.downs 33 + fld (bit l.up) 32 + l.delay
  | .fabRouteSel => s.sel path .fabRouteSel
  | .fabRoute => (s.route (s.sel path .fabRouteSel)).word
  | .fabGrantSel => s.sel path .fabGrantSel
  | .fabGrantD n => (s.grant (s.sel path .fabGrantSel)).word n
  | .fabProxySel => s.sel path .fabProxySel
  | .fabProxy => s.proxyWord (s.sel path .fabProxySel)
  | .fabGroupSel => s.sel path .fabGroupSel
  | .fabGroup => s.groupWord (s.sel path .fabGroupSel)
  | .fabGlobal => s.sel path .fabGlobal + fld (bit s.fab.global.isSome) 60
  | .fabSnapTick => s.sel path .fabSnapTick
  | .fabSnapStamp => s.fab.snapStamp
  | .fabCount => fld s.fab.bad 52 + fld s.fab.stall 40 + fld s.fab.late 28 + fld s.fab.gap 14 + s.fab.repins
  | _ => 0

/-- HX_IRQ_ROUTE of the selected pair (R416). -/
def Vec.routeWord (x : Vec) : Nat :=
  match x.routeNext.getD x.route with
  | some (core, id) => fld 1 16 + fld id 8 + core
  | none => 0

def Wake.word (w : Wake) : Nat := fld (bit w.enable) 63 + fld w.action 61 + fld (bit w.ret) 60 + fld w.kind 48 + w.arg

/-- HX_FLT_CAPTURE1 (R448). -/
def Capture.word (c : Capture) : Nat :=
  fld c.code 48 + (match c.ctx with | some x => fld 1 47 + fld x 35 | .none => 0) + fld c.occur 16 + c.detail

/-- HX_FLT_STATE (R448). -/
def Collector.word (c : Collector) : Nat :=
  fld c.recoveries 48 + fld c.pending 35 + fld (c.grace.getD 0) 22 + fld (min c.quiet c.quietCfg) 5 + fld (bit c.lone) 4 +
    fld (bit c.safe) 3 + fld (bit c.inFault) 2 + c.level

/-- The twin that HX_FLT_SEL names. -/
def State.fltTwin (s : State) (path : Path) : Side := Side.ofBool (tst (s.sel path .fltSel) 0)

/-- Routes, wake slots and collectors (R45, R416, R448). -/
def State.readIrq (s : State) (path : Path) : Reg → Nat
  | .irqRouteSel => s.sel path .irqRouteSel
  | .irqRoute => (s.vec (bits (s.sel path .irqRouteSel) 18 12) (bits (s.sel path .irqRouteSel) 10 0)).routeWord
  | .irqWakeSel => s.sel path .irqWakeSel
  | .irqWake => (Tbl.get Wake.none s.irq.wakes (s.sel path .irqWakeSel)).word
  | .irqWakeCtl => fld (bit s.irq.cancelled) 3 + fld (bit (s.twin .b).standby) 1 + bit (s.twin .a).standby
  | .irqWakeStatus => fld s.irq.wakeCount 48 + s.irq.hit
  | .fltStaleGen =>
    fld s.rst.staleCtx 48 + fld s.rst.staleQueue 36 + fld s.rst.stalePasid 24 + fld s.rst.stalePath 12 + s.rst.staleDomain
  | .fltSel => s.sel path .fltSel
  | .fltFirst => (s.twin (s.fltTwin path)).col.first
  | .fltCaptureSel => s.sel path .fltCaptureSel
  | .fltCapture0 => (Tbl.get Capture.none (s.twin (s.fltTwin path)).col.caps (s.sel path .fltCaptureSel)).stamp
  | .fltCapture1 => (Tbl.get Capture.none (s.twin (s.fltTwin path)).col.caps (s.sel path .fltCaptureSel)).word
  | .fltCtl => fld (s.twin (s.fltTwin path)).col.quietCfg 24 + (s.twin (s.fltTwin path)).col.graceCfg
  | .fltState => (s.twin (s.fltTwin path)).col.word
  | .fltChip => s.rst.chip
  | _ => 0

/-- The reset registers (R450). -/
def State.readRst (s : State) (path : Path) : Reg → Nat
  | .rstTwinCtl => fld (bit s.rst.ctlTwin) 48 + (s.rst.detach.map fun d => d.tick).getD s.rst.ctlTick
  | .rstTwinStatus =>
    fld (s.twin .a).state.code 61 + fld (s.twin .b).state.code 58 + fld (min 3 (s.twinResets .a)) 56 +
      fld (min 3 (s.twinResets .b)) 54 + fld s.rst.failovers 32 + fld (bit s.rst.detach.isSome) 31 + fld (bit s.rst.forced) 30
  | .rstFailoverStamp => s.rst.failStamp
  | .rstCdSel => s.sel path .rstCdSel
  | .rstCdStatus => s.cdWord (s.sel path .rstCdSel)
  | .rstCdSampleStamp => (s.cd (s.sel path .rstCdSel)).sampleStamp
  | .rstSampleSel =>
    let v := s.sel path .rstSampleSel
    v + fld (bit (s.cd (bits v 18 13)).sampled) 63
  | .rstDomainSel => s.sel path .rstDomainSel
  | .rstDomain => s.gen (s.sel path .rstDomainSel)
  | .rstDip =>
    fld s.rst.dips 32 + fld s.rst.lastUs 16 + fld (bit s.rst.ckptValid) 2 + fld (bit s.rst.long) 1 + bit s.rst.dip
  | _ => 0

/-- The last signature of a test (R491). -/
def State.bistSig (s : State) (target kind : Nat) : Nat :=
  match target with
  | 2 => s.clk.sharedSig.toNat
  | t =>
    let w := s.twin (if t = 1 then .b else .a)
    (if kind = 1 then w.sigL else w.sigM).toNat

/-- The clock registers (R489 to R491). -/
def State.readClk (s : State) (path : Path) : Reg → Nat
  | .clkStatus => s.clk.status
  | .clkSrc => s.clk.src
  | .clkGate => s.gateWord
  | .clkFcntCtl => s.sel path .clkFcntCtl
  | .clkFcnt => fld (bit s.clk.done) 63 + fld (bit s.clk.timeout) 62 + fld (bit s.clk.busy) 61 + s.clk.count
  | .clkBistCtl => fld s.clk.bistKind 1 + bit s.clk.bistTwin
  | .clkBistStatus =>
    fld (bit (s.twin .b).test.isSome) 10 + fld (bit (s.twin .a).test.isSome) 9 + fld s.clk.sharedResult 4 +
      fld (s.twin .b).testResult 2 + (s.twin .a).testResult
  | .clkBistSel => s.sel path .clkBistSel
  | .clkBistSig => s.bistSig (bits (s.sel path .clkBistSel) 3 2) (bits (s.sel path .clkBistSel) 1 0)
  | .clkBistExpect => (expectSig (bits (s.sel path .clkBistSel) 3 2) (bits (s.sel path .clkBistSel) 1 0)).toNat
  | _ => 0

/-- A record of the event log by its words. -/
def logWordAt (x : Word × Word × Word × Word) (n : Fin 4) : Nat :=
  match n with
  | 0 => x.1.toNat | 1 => x.2.1.toNat | 2 => x.2.2.1.toNat | 3 => x.2.2.2.toNat

/-- The management and security registers (R470, R471). -/
def State.readMgt (s : State) (path : Path) : Reg → Nat
  | .mgtSensorSel => s.sel path .mgtSensorSel
  | .mgtSensor =>
    let x := Tbl.get (0, 0) s.mgt.sensors (s.sel path .mgtSensorSel)
    fld x.2 56 + x.1
  | .mgtSensorLimit => (s.limits (s.sel path .mgtSensorSel)).toNat
  | .mgtLogPtr => fld s.mgt.lost 48 + fld (s.mgt.mirrored % 8192) 16 + s.mgt.written % 8192
  | .mgtLogSel => s.sel path .mgtLogSel
  | .mgtLogData n => logWordAt (s.logAt (s.sel path .mgtLogSel)) n
  | .mgtCredSel => s.sel path .mgtCredSel
  | .mgtCred =>
    match Tbl.find s.mgt.creds (s.sel path .mgtCredSel) with
    | some (_, roles) => fld 1 63 + roles
    | none => 0
  | .mgtCredHash n =>
    match Tbl.find s.mgt.creds (s.sel path .mgtCredSel) with
    | some (h, _) => wordAt h n
    | none => 0
  | .mgtNet => Config.mac.toNat
  | .secMeasSel => s.sel path .secMeasSel
  | .secMeas n => wordAt (s.meas (s.sel path .secMeasSel)) n
  | .secStatus =>
    fld s.mgt.minSvn 48 + fld (s.twin .b).svn 32 + fld (s.twin .a).svn 16 + fld s.mirrorFmt 8 + fld (bit s.mgt.flashBusy.isSome) 2 +
      fld (bit s.mgt.credLock) 1 + bit s.mgt.empty
  | .secIdeSel => s.sel path .secIdeSel
  | .secIde =>
    let v := s.sel path .secIdeSel
    let x := s.stream (Side.ofBool (tst v 3)) (bits v 2 0)
    fld x.fails 48 + fld (bit x.keySet) 8 + bit x.secure
  | .secTdiSel => s.sel path .secTdiSel
  | .secTdi =>
    let v := s.sel path .secTdiSel
    let t := s.tdi (Side.ofBool (tst v 7)) (bits v 6 0)
    fld t.state.code 61 + fld t.stream 56 + t.lockTick
  | _ => 0

/-- HX_PLAN_STATUS (R83). -/
def State.planWord (s : State) : Nat :=
  let st := fun (i : Nat) => fld (s.slot i).state.code (12 + 3 * i)
  fld (bit s.plan.diverged) 39 + fld (bit s.plan.short) 38 + fld (bit s.plan.withdrawn) 37 + fld (bit s.plan.throttled) 36 +
    fld s.plan.allot 34 +
    (match s.plan.pend with | some m => fld (bit m.fabric) 33 + fld 1 32 + fld m.slot 30 | none => 0) +
    fld s.plan.active 28 + fld s.time.period 25 + st 3 + st 2 + st 1 + st 0

/-- The plan registers (R83). -/
def State.readPlan (s : State) (path : Path) : Reg → Nat
  | .planStatus => s.planWord
  | .planCommitTick => (s.plan.pend.map fun m => m.tick).getD 0
  | .planSwitchTick => s.plan.switchTick
  | .planSel => s.sel path .planSel
  | .planAckCe => (s.slot (s.sel path .planSel)).ackCe
  | .planAckUnit => fld (s.slot (s.sel path .planSel)).ackFront 24 + (s.slot (s.sel path .planSel)).ackLink
  | .planId => (s.slot (s.sel path .planSel)).planId.toNat
  | .planDigest n => wordAt (s.slot (s.sel path .planSel)).digest n
  | .planEpoch => fld s.plan.epochs 16 + epochTicks s.time.period
  | _ => 0

/-- What a register reads, before any effect of the read: its block's offset chooses the table. -/
def State.peek (s : State) (path : Path) (r : Reg) : Nat :=
  let o := r.offset
  if o < 0x10000 then s.readFn path r
  else if o < 0x100000 then s.readPort path r
  else if o < 0x104000 then s.readCore path r
  else if o < 0x105000 then s.readCoh path r
  else if o < 0x106000 then s.readFab path r
  else if o < 0x108000 then s.readIrq path r
  else if o < 0x109000 then s.readRst path r
  else if o < 0x10A000 then s.readClk path r
  else if o < 0x10C000 then s.readMgt path r
  else s.readPlan path r

/-- SAMPLE_DATA_READ: the selected word; WORD rises by one modulo 512, and the tenants see it (R433, R450, R462). -/
def State.sampleRead (s : State) (path : Path) : Nat × State :=
  let v := s.sel path .rstSampleSel
  let n := bits v 18 13
  let s := s.sampleSeen n Reg.rstSampleData.offset
  let (w, s) := s.sampleWord n (bits v 12 9) (bits v 8 0)
  (w, s.setSel path .rstSampleSel (v - bits v 8 0 + (bits v 8 0 + 1) % 512))

/-- CLK_STATUS_READ: the ready flags that it returns are marked as seen (R478). -/
def State.clkStatusRead (s : State) : Nat × State := (s.clk.status, s.modClk Clk.markSeen)

/-- A read of a register with what it does. -/
def State.readReg (s : State) (path : Path) : Reg → Nat × State
  | .rstSampleData => s.sampleRead path
  | .clkStatus => s.clkStatusRead
  | r => (s.peek path r, s)

/-! ### Writes: the function block -/

/-- A context that a function may see: the PF every one, a VF its own (R148, R228). -/
def State.seesCtx (s : State) (f slot : Nat) : Bool :=
  decide (slot < 4096) && (f = 0 || (decide ((s.ctx slot).func = f) && decide ((s.ctx slot).state ≠ .free)))

/-- D0 to D3 of a context (R149). -/
def State.ctxWords (s : State) (i : Nat) : Nat × Nat × Nat × Nat :=
  let c := s.ctx i
  (fld c.gen 56 + fld c.state.code 53 + fld c.home.num 52 + fld c.port.num 51 + fld (bit c.terminate) 50 + fld (bit c.priv) 49 +
     fld c.func 42 + fld c.loc 36 + fld c.pasid 16 + fld c.pasidGen 8 + (s.queuesOf i).length,
   fld c.share 48 + c.observed, c.root, c.endStamp)

/-- D0 to D3 of a queue (R150); a privileged queue's rings and its vector are its port's (R152, R398). -/
def State.queueWords (s : State) (i : Nat) : Nat × Nat × Nat × Nat :=
  let q := s.queue i
  let x := s.port (s.ctx q.ctx).port
  (fld q.gen 56 + fld q.state.code 54 + fld (bit q.priv) 53 + fld q.ctx 41 + fld q.loc 35 + fld q.size 30 +
     fld (if q.priv then (s.func (s.ctx q.ctx).port 0).privVec else q.vector) 19,
   fld (bit (q.phaseAt q.cons)) 51 + fld (bit q.prodPhase) 50 + fld q.parkSlot 32 + fld (q.cons % q.slots) 16 + q.prod % q.slots,
   if q.priv then bits x.privRing.toNat 56 12 else q.ring,
   fld q.parkCode 48 + if q.priv then bits x.privReply.toNat 56 12 else q.reply)

/-- D0 to D3 of a fence: a VF that shares it and does not own it sees VALUE, STATE and CODE alone (R148, R151). -/
def Fence.words (f : Fence) (own : Bool) : Nat × Nat × Nat × Nat :=
  if own then
    (f.value, f.hostAddr,
     fld f.tag 52 + fld f.state.code 50 + fld f.mode 48 + fld f.scope 46 + fld f.owner 34 + fld f.share 16 + f.code,
     fld f.signallers 47 + fld f.waiters 22)
  else (f.value, 0, fld f.state.code 50 + f.code, 0)

/-- D0 to D3 of a memory object (R151). -/
def State.objWords (s : State) (i : Nat) : Nat × Nat × Nat × Nat :=
  let o := s.obj i
  (o.base, fld (s.refs i) 32 + o.size64k, fld o.state.code 50 + fld o.owner 38, o.freeStamp)

/-- A VF shares a fence: one of its contexts has the fence's share group. -/
def State.sharesFence (s : State) (f : Nat) (x : Fence) : Bool :=
  x.share ≠ 0 && (s.ctxsOf f).any fun c => decide ((s.ctx c).share = x.share)

/-- What HX_OBJ_QUERY_SEL selects: the context that the selection touches and the four words (R148). -/
def State.query (s : State) (f kind i : Nat) : Option (Nat × Nat × Nat × Nat × Nat) :=
  match kind with
  | 0 => if s.seesCtx f i then some (i, s.ctxWords i) else none
  | 1 => if (s.queue i).live && s.seesCtx f (s.queue i).ctx then some ((s.queue i).ctx, s.queueWords i) else none
  | 2 =>
    let x := s.fence (fIndex i)
    if !x.live || x.tag ≠ fTag i then none
    else if s.seesCtx f x.owner then some (x.owner, x.words true)
    else if s.sharesFence f x then some (x.owner, x.words false)
    else none
  | _ =>
    if 2 ^ 22 ≤ i then none
    else if f = 0 && decide ((s.obj i).state = .free) then some (0, s.objWords i)
    else if decide ((s.obj i).state ≠ .free) && s.seesCtx f (s.obj i).owner then some ((s.obj i).owner, s.objWords i)
    else none

/-- Four words into the path's own D0 to D3. -/
def State.setQuery (s : State) (path : Path) (w : Nat × Nat × Nat × Nat) : State :=
  (((s.setSel path (.objQueryD 0) w.1).setSel path (.objQueryD 1) w.2.1).setSel path (.objQueryD 2) w.2.2.1).setSel path
    (.objQueryD 3) w.2.2.2

/-- OBJ_QUERY_SELECT: what the operator looks at is observed before it is shown (R462). -/
def State.selectQuery (s : State) (path : Path) (v : Nat) : State :=
  let f := Path.func path
  let sel := v % 2 ^ 34
  match s.query f (bits v 33 32) (bits v 31 0) with
  | none => (s.setQuery path (0, 0, 0, 0)).setSel path .objQuerySel sel
  | some (c, _) =>
    let s := if f = 0 then s.observe c Reg.objQuerySel.offset s.time.last else s
    match s.query f (bits v 33 32) (bits v 31 0) with
    | none => s
    | some (_, w) => (s.setQuery path w).setSel path .objQuerySel (sel + fld 1 63)

/-- XLT_PROBE: the walk of the path's own CVA; the operator's probe of a VF's context is observed (R228, R462). -/
def State.runProbe (s : State) (path : Path) (v : Nat) : State :=
  let f := Path.func path
  let slot := bits v 11 0
  let s := if f = 0 then s.observe slot Reg.xltProbeSel.offset s.time.last else s
  let (ok, level, code, e) := if s.seesCtx f slot then s.probe slot (s.sel path .xltProbeVa) (f ≠ 0) else (false, 0, 0, 0)
  (s.setSel path .xltProbeSel (fld (bit ok) 62 + fld level 56 + fld code 40 + slot)).setSel path .xltProbeEntry e

/-- Writes of the function block. -/
def State.writeFn (s : State) (path : Path) (v : Nat) : Reg → Except Nat State
  | .objQuerySel => .ok (s.selectQuery path v)
  | .xltFring => .ok (s.modFunc (Path.side path) (Path.func path) fun x => { x with fringNext := some (w64 v) })
  | .xltFringPtr => .ok (s.modFunc (Path.side path) (Path.func path) fun x => { x with ringHead := bits v 15 0 })
  | .xltFaultResp => s.faultResp (Path.side path) (Path.func path) v
  | .xltCtl => .ok (s.modFunc (Path.side path) (Path.func path) fun x => { x with ctl := w64 v })
  | .xltStatus =>
    .ok (s.modFunc (Path.side path) (Path.func path) fun x =>
      { x with lost := (if tst v 63 then 0 else x.lost), rf := x.rf && !tst v 1, full := x.full && !tst v 0 })
  | .xltProbeVa => .ok (s.setSel path .xltProbeVa v)
  | .xltProbeSel =>
    if tst v 63 then .ok (s.runProbe path v)
    else .ok (s.setSel path .xltProbeSel (s.sel path .xltProbeSel / 4096 * 4096 + bits v 11 0))
  | .irqFuncVec =>
    .ok (s.modFunc (Path.side path) (Path.func path) fun x =>
      { x with privVec := bits v 42 32, errVec := bits v 26 16, fringVec := bits v 10 0 })
  | .irqVecSel => .ok (s.setSel path .irqVecSel v)
  | .irqVec => .ok (s.modVec (Path.func path) (s.sel path .irqVecSel) fun x => x.settings v)
  | .irqAck => .ok (irqAck (Path.func path) v s)
  | .fltRegErr =>
    .ok (s.modFunc (Path.side path) (Path.func path) fun x => { x with errCount := if tst v 63 then 0 else x.errCount })
  | _ => .ok s

/-! ### Writes: the port block -/

/-- Do an action when its bit is set. -/
def when_ (b : Bool) (k : State → Except Nat State) (s : State) : Except Nat State := if b then k s else .ok s

/-- Two steps of one write: an error of either rejects the whole. -/
def andThen (x : Except Nat State) (k : State → Except Nat State) : Except Nat State :=
  match x with
  | .ok s => k s
  | .error e => .error e

/-- The privileged queue of a port. -/
def State.privIdle (s : State) (p : Side) : Bool := decide ((s.queue p.num).state = .idle)

/-- A region's descriptor as the path has loaded it. -/
def State.descriptor (s : State) (path : Path) (r : Fin 4 → Reg) (n : Fin 4) : Nat := s.sel path (r n)

/-- Writes of the port block. A new size of the privileged queue's ring keeps its counts of slots, from which its indices follow (DESIGN
CHOICE, log entry 185). -/
def State.writePort (s : State) (path : Path) (v : Nat) : Reg → Except Nat State
  | .cmdPortCtl => .ok (s.modPort (Path.side path) fun x => { x with offer := tst v 15, holdCfg := bits v 6 0 })
  | .cmdJournalFlushAddr => .ok (s.modPort (Path.side path) fun x => { x with flushAddr := v })
  | .cmdJournalStatus =>
    .ok (s.modPort (Path.side path) fun x =>
      let z := fun (n : Nat) => if tst v 63 then 0 else n
      { x with
        replays := z x.replays, discards := z x.discards, refused := z x.refused
        flushErr := x.flushErr && !tst v 31, full := x.full && !tst v 30 })
  | .objPlaceSel =>
    let i := bits v 7 0
    let d := fun (n : Fin 4) => w64 (s.descriptor path .objPlaceD n)
    andThen (when_ (tst v 63) (fun s => s.placeCommit (Path.side path) i (d 0) (d 1) (d 2) (d 3)) s) fun s =>
      .ok ((if tst v 62 then s.placeClear (Path.side path) i else s).setSel path .objPlaceSel i)
  | .objPlaceD n => .ok (s.setSel path (.objPlaceD n) v)
  | .objPrivRing =>
    if !s.privIdle (Path.side path) then .error E.locked
    else
      .ok ((s.modPort (Path.side path) fun x => { x with privRing := w64 v }).modQueue (Path.side path).num fun q =>
        { q with size := bits v 4 0 })
  | .objPrivReply =>
    if !s.privIdle (Path.side path) then .error E.locked
    else .ok (s.modPort (Path.side path) fun x => { x with privReply := w64 v })
  | .irqGlobal => .ok (s.modPort (Path.side path) fun x => { x with disable := tst v 0 })
  | _ => .ok s

/-! ### Writes: the shared-plane window -/

/-- Stamps, partitions and engines (R40, R226, R260). -/
def State.writeCore (s : State) (path : Path) (v : Nat) : Reg → Except Nat State
  | .cmdStampState =>
    .ok (s.modTime fun t => { t with jumped := t.jumped && !tst v 4, wrapped := t.wrapped && !tst v 3, carry := t.carry && !tst v 2 })
  | .xltPartSel =>
    let i := bits v 11 0
    andThen (when_ (tst v 63) (fun s => s.partCommit i (s.sel path .xltPart)) s) fun s => .ok (s.setSel path .xltPartSel i)
  | .xltPart => .ok (s.setSel path .xltPart v)
  | .ceSel => .ok (s.setSel path .ceSel v)
  | .ceCount =>
    .ok (if tst v 63 then s.modEngine (s.sel path .ceSel) fun x => { x with skipped := 0, idle := 0 } else s)
  | .ceErr =>
    .ok (s.modEngine (s.sel path .ceSel) fun x =>
      { x with uncorr := x.uncorr && !tst v 2, poisonSrc := x.poisonSrc && !tst v 1, corr := x.corr && !tst v 0 })
  | _ => .ok s

/-- COH_PART_COMMIT's checks, in order, and its effect (R355). -/
def State.bankCommit (s : State) (slot v : Nat) : Except Nat State :=
  let s' := s.modCoh fun c => { c with parts := Tbl.set (0, 0) c.parts slot (bits v 9 0, bits v 23 16) }
  if (s.ctx slot).state ≠ .free then .error E.locked
  else if decide (512 < s'.bankSums.1) || decide (128 < s'.bankSums.2) then .error E.badLength
  else .ok s'

/-- COH_DOMAIN_COMMIT's checks, in order, and its effect (R356). -/
def State.domainCommit (s : State) (i v : Nat) : Except Nat State :=
  let d : Domain := { valid := tst v 32, members := bits v 26 16, group := bits v 15 0 }
  if s.objs.any fun (_, o) => decide (o.state ≠ .free) && aCoherent o.attr && decide (aDomain o.attr = i) then .error E.locked
  else if d.valid && (d.members = 0 || decide (1024 < d.members) || !(s.members d.group).contains s.fab.device) then .error E.badField
  else .ok (s.modCoh fun c => { c with domains := Tbl.set Domain.none c.domains i d })

/-- COH_DIR_PROBE: the entry of a line of a coherent window; the window's owner is observed first (R358, R462). -/
def State.probeLine (s : State) (path : Path) (v : Nat) : State :=
  let line := bits v 40 7 * 128
  let put := fun (s : State) (ok : Bool) (w : Nat × Nat × Nat) =>
    (((s.setSel path .cohDirProbe (fld (bit ok) 62 + fld (bits v 40 7) 7)).setSel path (.cohDirEntry 0) w.1).setSel path
      (.cohDirEntry 1) w.2.1).setSel path (.cohDirEntry 2) w.2.2
  match s.window line with
  | none => put s false (DirEntry.none.words 0)
  | some o =>
    let s := s.observe o.owner Reg.cohDirProbe.offset s.time.last
    put s true ((s.dirE line).words o.owner)

/-- Writes of the coherence registers (R354 to R358). -/
def State.writeCoh (s : State) (path : Path) (v : Nat) : Reg → Except Nat State
  | .cohCtl => .ok (s.modCoh fun c => { c with predOn := tst v 0 })
  | .cohPartSel =>
    let i := bits v 11 0
    andThen (when_ (tst v 63) (fun s => s.bankCommit i (s.sel path .cohPart)) s) fun s => .ok (s.setSel path .cohPartSel i)
  | .cohPart => .ok (s.setSel path .cohPart v)
  | .cohDomainSel =>
    let i := bits v 6 0
    andThen (when_ (tst v 63) (fun s => s.domainCommit i (s.sel path .cohDomain)) s) fun s => .ok (s.setSel path .cohDomainSel i)
  | .cohDomain => .ok (s.setSel path .cohDomain v)
  | .cohCount =>
    .ok (if tst v 63 then s.modCoh fun c => { c with proto := 0, timeouts := 0, deferred := 0, stalePut := 0 } else s)
  | .cohCount1 => .ok (if tst v 63 then s.modCoh fun c => { c with poisoned := 0, evictions := 0 } else s)
  | .cohDirProbe =>
    if tst v 63 then .ok (s.probeLine path v)
    else .ok (s.setSel path .cohDirProbe (s.sel path .cohDirProbe / 2 ^ 62 * 2 ^ 62 + fld (bits v 40 7) 7))
  | _ => .ok s

/-- A context whose locked configuration is frozen: it is bound to a VF whose TDI is CONFIG_LOCKED or RUN (R459). -/
def State.ctxFrozen (s : State) (slot : Nat) : Bool :=
  decide ((s.ctx slot).state ≠ .free) && decide ((s.ctx slot).func ≠ 0) && s.tdiFrozen (s.ctx slot).func

/-- A change of a grant is a change of the locked configuration of the context that it names, before or after (R459). -/
def State.grantFrozen (s : State) (i d0 : Nat) (commit : Bool) : Bool :=
  ((s.grant i).enable && s.ctxFrozen (s.grant i).ctx) || (commit && s.ctxFrozen (bits d0 37 26))

/-- A proxy binding belongs to the context that owns the fence (R459). -/
def State.proxyFrozen (s : State) (h : Nat) : Bool :=
  match s.fenceOf h with
  | some f => s.ctxFrozen f.owner
  | none => false

/-- A write is rejected with HX_E_LOCKED while what it would change is frozen. -/
def unless_ (frozen : Bool) (x : Except Nat State) : Except Nat State := if frozen then .error E.locked else x

/-- The port through whose PF a global operation was asked for; none for the management controller. -/
def Path.asker : Path → Option Side
  | .mgmt _ => none
  | p => some (Path.side p)

/-- Writes of the grant, proxy and group registers (R396). -/
def State.writeGrants (s : State) (path : Path) (v : Nat) : Reg → Except Nat State
  | .fabGrantSel =>
    let i := bits v 15 0
    let d := fun (n : Fin 4) => s.descriptor path .fabGrantD n
    unless_ ((tst v 63 || tst v 62) && s.grantFrozen i (d 0) (tst v 63)) <|
      andThen (when_ (tst v 63) (fun s => s.grantCommit i (d 0) (d 1) (d 2) (d 3)) s) fun s =>
        .ok ((if tst v 62 then s.grantClear i else s).setSel path .fabGrantSel i)
  | .fabGrantD n => .ok (s.setSel path (.fabGrantD n) v)
  | .fabProxySel =>
    let h := bits v 31 0
    let w := s.sel path .fabProxy
    unless_ ((tst v 63 || tst v 62) && s.proxyFrozen h) <|
      andThen (when_ (tst v 63) (fun s => s.proxyBind h (bits w 63 50) (bits w 49 34)) s) fun s =>
        andThen (when_ (tst v 62) (fun s => s.proxyUnbind h) s) fun s => .ok (s.setSel path .fabProxySel h)
  | .fabProxy => .ok (s.setSel path .fabProxy v)
  | .fabGroupSel =>
    let g := bits v 15 0
    let w := s.sel path .fabGroup
    andThen (when_ (tst v 63) (fun s => s.groupCommit g (bits w 61 47) (bits w 21 0)) s) fun s =>
      andThen (when_ (tst v 62) (fun s => s.groupClear g) s) fun s => .ok (s.setSel path .fabGroupSel g)
  | .fabGroup => .ok (s.setSel path .fabGroup v)
  | _ => .ok s

/-- Writes of the other fabric registers (R394, R395, R397). -/
def State.writeFab (s : State) (path : Path) (v : Nat) : Reg → Except Nat State
  | .fabStatus => .ok (s.modFab fun f => { f with conflict := f.conflict && !tst v 4, skew := f.skew && !tst v 3 })
  | .fabIdCtl => .ok (s.modFab fun f => { f with idCtl := w64 v })
  | .fabCtl => .ok (s.modFab fun f => { f with ctl := w64 v })
  | .fabLinkSel => .ok (s.setSel path .fabLinkSel v)
  | .fabRouteSel =>
    let d := bits v 13 0
    andThen (when_ (tst v 63) (fun s => s.routeCommit d (bits (s.sel path .fabRoute) 47 24)) s) fun s =>
      .ok ((if tst v 62 then s.repin d else s).setSel path .fabRouteSel d)
  | .fabRoute => .ok (s.setSel path .fabRoute v)
  | .fabGlobal =>
    andThen
      (when_ (tst v 63)
        (fun s => s.globalGo (tst v 62) (bits v 15 0) (bits (s.sel path .fabSnapTick) 47 0) (Path.asker path)) s)
      fun s => .ok (s.setSel path .fabGlobal (fld (bits v 62 61) 61 + bits v 15 0))
  | .fabSnapTick => .ok (s.setSel path .fabSnapTick v)
  | .fabCount => .ok (if tst v 63 then s.modFab fun f => { f with bad := 0, stall := 0, late := 0, gap := 0, repins := 0 } else s)
  | r => s.writeGrants path v r

/-- IRQ_ROUTE_COMMIT: the route of the pair from the next boundary (R400). -/
def State.routeVec (s : State) (f n w : Nat) : State :=
  s.modVec f n fun x => { x with routeNext := some (if tst w 16 then some (bits w 4 0, bits w 15 8) else none) }

/-- Writes of the routes, the wake watcher, the stale counts and the collectors (R45, R416, R448). -/
def State.writeIrq (s : State) (path : Path) (v : Nat) : Reg → Except Nat State
  | .irqRouteSel =>
    unless_ (tst v 63 && bits v 18 12 ≠ 0 && s.tdiFrozen (bits v 18 12)) <|
      .ok ((if tst v 63 then s.routeVec (bits v 18 12) (bits v 10 0) (s.sel path .irqRoute) else s).setSel path .irqRouteSel (v % 2 ^ 63))
  | .irqRoute => .ok (s.setSel path .irqRoute v)
  | .irqWakeSel => .ok (s.setSel path .irqWakeSel v)
  | .irqWake =>
    .ok (s.modIrq fun i =>
      { i with
        wakes := Tbl.set Wake.none i.wakes (s.sel path .irqWakeSel)
          { enable := tst v 63, action := bits v 62 61, ret := tst v 60, kind := bits v 51 48, arg := bits v 47 0 } })
  | .irqWakeCtl =>
    andThen (when_ (tst v 62) (fun s => s.standbyAsk .a) s) fun s =>
      andThen (when_ (tst v 63) (fun s => s.standbyAsk .b) s) fun s =>
        .ok (s.modIrq fun i => { i with cancelled := i.cancelled && !tst v 3 })
  | .irqWakeStatus => .ok (s.modIrq fun i => { i with hit := i.hit - Nat.land i.hit (bits v 31 0) })
  | .fltStaleGen =>
    .ok (if tst v 63 then s.modRst fun r => { r with staleCtx := 0, staleQueue := 0, stalePasid := 0, stalePath := 0, staleDomain := 0 }
         else s)
  | .fltSel => .ok (s.setSel path .fltSel v)
  | .fltFirst =>
    .ok (s.modTwin (s.fltTwin path) fun w => { w with col := { w.col with first := w.col.first - Nat.land w.col.first v } })
  | .fltCaptureSel => .ok (s.setSel path .fltCaptureSel v)
  | .fltAck => .ok (s.fltAck (s.fltTwin path) v)
  | .fltCtl =>
    .ok (s.modTwin (s.fltTwin path) fun w => { w with col := { w.col with quietCfg := bits v 40 24, graceCfg := bits v 12 0 } })
  | .fltChip => .ok (s.modRst fun r => { r with chip := r.chip - Nat.land r.chip v })
  | _ => .ok s

/-- HX_RST_TWIN_CTL (R442, R444, R450). -/
def State.twinCtl (s : State) (mgmt : Bool) (v : Nat) : Except Nat State :=
  let t := Side.ofBool (tst v 48)
  if tst v 61 && !mgmt then .error E.notAuthorised
  else
    let s' := s.modRst fun r => { r with ctlTwin := tst v 48, ctlTick := bits v 47 0 }
    if tst v 63 then s'.detachAsk t (bits v 47 0)
    else if tst v 62 then s'.twinReturn t
    else if tst v 61 then s'.clearOos t
    else if tst v 60 then s'.detachWithdraw
    else .ok s'

/-- Writes of the reset registers (R450). -/
def State.writeRst (s : State) (path : Path) (v : Nat) : Reg → Except Nat State
  | .rstTwinCtl => s.twinCtl (Path.fn path).isNone v
  | .rstTwinStatus => .ok (s.modRst fun r => { r with forced := r.forced && !tst v 30 })
  | .rstCdSel => .ok (s.setSel path .rstCdSel v)
  | .rstCdCtl =>
    if tst v 63 then s.cdReset (s.sel path .rstCdSel) else if tst v 62 then s.cdReturn (s.sel path .rstCdSel) else .ok s
  | .rstSampleSel => .ok (s.setSel path .rstSampleSel (v % 2 ^ 63))
  | .rstDomainSel => .ok (s.setSel path .rstDomainSel v)
  | .rstDip =>
    .ok (s.modRst fun r =>
      { r with dips := (if tst v 63 then 0 else r.dips), long := r.long && !tst v 1, dip := r.dip && !tst v 0 })
  | _ => .ok s

/-- Bits of HX_CLK_STATUS that a one clears (R489). -/
def Clk.clear (c : Clk) (v : Nat) : Clk :=
  { c with xtalLost := c.xtalLost && !tst v 46, lost := c.lost - Nat.land c.lost (bits v 45 41) }

/-- Writes of the clock registers (R479, R482, R484, R487, R489 to R491). -/
def State.writeClk (s : State) (path : Path) (v : Nat) : Reg → Except Nat State
  | .clkStatus => .ok (s.modClk fun c => c.clear v)
  | .clkSrc => s.clkSrcWrite v
  | .clkGate => s.gateWrite v
  | .clkFcntCtl =>
    .ok (let s := s.setSel path .clkFcntCtl (v % 2 ^ 63)
         if tst v 63 then (s.modClk fun c => { c with fcnt := w64 (v % 2 ^ 63) }).fcntGo else s)
  | .clkBistCtl =>
    andThen (when_ (tst v 63) (fun s => s.bistGo (Side.ofBool (tst v 0)) (bits v 2 1)) s) fun s =>
      .ok (s.modClk fun c => { c with bistKind := bits v 2 1, bistTwin := tst v 0 })
  | .clkBistSel => .ok (s.setSel path .clkBistSel v)
  | _ => .ok s

/-- Writes of the management, security and plan registers (R83, R470, R471). -/
def State.writeMgt (s : State) (path : Path) (v : Nat) : Reg → Except Nat State
  | .mgtSensorSel => .ok (s.setSel path .mgtSensorSel v)
  | .mgtSensorLimit => .ok (s.modMgt fun m => { m with limits := Tbl.put m.limits (s.sel path .mgtSensorSel) (w64 v) })
  | .mgtLogSel => .ok (s.setSel path .mgtLogSel v)
  | .mgtCredSel => .ok (s.setSel path .mgtCredSel v)
  | .secMeasSel => .ok (s.setSel path .secMeasSel v)
  | .secIdeSel => .ok (s.setSel path .secIdeSel v)
  | .secTdiSel => .ok (s.setSel path .secTdiSel v)
  | .planStatus =>
    .ok (s.modPlan fun p =>
      { p with diverged := p.diverged && !tst v 39, short := p.short && !tst v 38, withdrawn := p.withdrawn && !tst v 37 })
  | .planSel => .ok (s.setSel path .planSel v)
  | .planEpoch => .ok (if tst v 63 then s.modPlan fun p => { p with epochs := 0 } else s)
  | _ => .ok s

/-- The write of a register by its block. -/
def State.pokeReg (s : State) (path : Path) (v : Nat) (r : Reg) : Except Nat State :=
  let o := r.offset
  if o < 0x10000 then s.writeFn path v r
  else if o < 0x100000 then s.writePort path v r
  else if o < 0x104000 then s.writeCore path v r
  else if o < 0x105000 then s.writeCoh path v r
  else if o < 0x106000 then s.writeFab path v r
  else if o < 0x108000 then s.writeIrq path v r
  else if o < 0x109000 then s.writeRst path v r
  else if o < 0x10A000 then s.writeClk path v r
  else s.writeMgt path v r

/-- A write of a register, checked as a whole: who may write it, the reserved bits, the illegal values, then what the register's
own rules say (R13 to R15, R470). -/
def State.writeReg (s : State) (path : Path) (r : Reg) (v : Nat) : Except Nat State :=
  if r.mgmtOnly && (Path.fn path).isSome then .error E.notAuthorised
  else if r.reserved v || Reg.illegal (Path.func path) v r then .error E.badField
  else s.pokeReg path v r

/-! ### The MSI-X table and PBA (R92, R493, R496) -/

/-- Where the MSI-X table, and the PBA, of a function begin in its BAR0. -/
def msixBase (f : Nat) : Nat := if f = 0 then 0x1F00000 else 0xF000
def pbaBase (f : Nat) : Nat := if f = 0 then 0x1F10000 else 0xF800

/-- The vector whose table entry an offset lies in, and the word of the entry. -/
def msixAt (f offset : Nat) : Option (Nat × Nat) :=
  if msixBase f ≤ offset && decide (offset < msixBase f + 16 * vecCount f) then
    some ((offset - msixBase f) / 16, (offset - msixBase f) / 8 % 2)
  else none

/-- An offset lies in the PBA. -/
def inPba (f offset : Nat) : Bool := pbaBase f ≤ offset && decide (offset < pbaBase f + vecCount f / 8)

/-- A word of an MSI-X entry written: the address, or the data and the Mask bit. -/
def MsixEntry.put (e : MsixEntry) (word v : Nat) : MsixEntry :=
  if word = 0 then { e with addr := w64 v } else { e with data := bits v 31 0, mask := tst v 32 }

/-- What lies at an offset of a path's BAR0. -/
inductive Place where
  | reg (r : Reg)
  | msix (v word : Nat)
  | pba
  | nothing
  deriving DecidableEq, Repr

/-- The place of an offset. -/
def placeAt (f offset : Nat) : Place :=
  match regAt f offset with
  | some r => .reg r
  | none =>
    match msixAt f offset with
    | some (v, w) => .msix v w
    | none => if inPba f offset then .pba else .nothing

/-- The alias and the management controller do not reach the MSI-X table. -/
def Path.viaBar : Path → Bool
  | .bar _ _ _ => true
  | _ => false

/-- A legal aligned write of one 8-byte word through a path (R17, R496). -/
def State.writeAt (s : State) (path : Path) (offset v : Nat) : Except Nat State :=
  match placeAt (Path.func path) offset with
  | .reg r => s.writeReg path r v
  | .msix n w =>
    if !Path.viaBar path then .error (if (Path.fn path).isSome then E.notAuthorised else E.badField)
    else
      .ok (s.modFunc (Path.side path) (Path.func path) fun x =>
        { x with table := Tbl.set MsixEntry.reset x.table n ((Tbl.get MsixEntry.reset x.table n).put w v) })
  | .pba => if Path.viaBar path then .ok s else .error (if (Path.fn path).isSome then E.notAuthorised else E.badField)
  | .nothing => .error E.badField

/-- An access of BAR0 that violates its TDI is discarded and counted, and the TDI moves to ERROR (R460). -/
def State.violation (s : State) (path : Path) (offset st : Nat) : State :=
  match Path.fn path with
  | some (p, f) => (s.tdiError p f st).regErr path 0 offset E.notAuthorised
  | none => s

/-- A write of BAR0 as a host, a core or the management controller sends it: poisoned data is discarded (R97), a function that is
not there takes nothing, a frozen TDI's register is not reached without its stream (R460), and a rejected write is counted where it
came through (R14, R449). -/
def writeRegister (path : Path) (offset : Nat) (value : Word) (poisoned : Bool) (s : State) : State :=
  if s.deaf path then s
  else if poisoned then (s.aerPoison path).regErr path 0 offset E.poisoned
  else if s.tdiViolates path then s.stamped (.registerWrite path offset value poisoned) fun st s => s.violation path offset st
  else if offset % 8 ≠ 0 then s.regErr path 0 offset E.badLength
  else
    match s.writeAt path offset value.toNat with
    | .ok s => s.inta
    | .error code => s.regErr path 0 offset code

/-- A write of BAR0 in its turn (R96). -/
def writeArrives (path : Path) (offset : Nat) (value : Word) (poisoned : Bool) (s : State) : State :=
  s.inOrderAt path (.registerWrite path offset value poisoned) fun s => writeRegister path offset value poisoned s

/-- A write of a register by name: what every command that is one register's write does. -/
def writeNamed (path : Path) (r : Reg) (value : Word) (s : State) : State := writeArrives path r.offset value false s

/-- What a read through a path returns, with what it does: an offset that holds no register reads as zero (R17). -/
def State.readAt (s : State) (path : Path) (offset : Nat) : Nat × State :=
  match placeAt (Path.func path) offset with
  | .reg r => s.readReg path r
  | .msix n w =>
    if !Path.viaBar path then (0, s)
    else
      let e := Tbl.get MsixEntry.reset (s.func (Path.side path) (Path.func path)).table n
      (if w = 0 then e.addr.toNat else fld (bit e.mask) 32 + e.data, s)
  | .pba =>
    if !Path.viaBar path then (0, s)
    else
      let b := 8 * (offset - pbaBase (Path.func path))
      ((List.range 64).foldl (fun n i => n + fld (bit (decide ((s.vec (Path.func path) (b + i)).state = .due))) i) 0, s)
  | .nothing => (0, s)

/-- The half of a register that a 4-byte read addresses, or the whole of it (R16). -/
def halfOf (offset width w : Nat) : Nat := if width = 8 then w else w / 2 ^ (8 * (offset % 8)) % 2 ^ 32

/-- BAR0_BAD_ACCESS, of any width: an aligned read of 4 or 8 bytes returns what it addresses; any other read returns zeros, and any write
but an aligned one of 8 bytes is discarded; either is recorded (R16). -/
def badAccess (path : Path) (offset width : Nat) (isWrite : Bool) (s : State) : State :=
  let fits := offset % max 1 width = 0 && (width = 8 || (width = 4 && !isWrite))
  let zeros := fun (s : State) => if isWrite then s else s.emit (.regData path offset 0)
  if s.deaf path then s
  else if s.tdiViolates path then
    s.stamped (.bar0BadAccess path offset width isWrite) fun st s => zeros (s.violation path offset st)
  else if !fits then zeros (s.regErr path 0 offset E.badLength)
  else if isWrite then s
  else
    let (w, s) := s.readAt path (offset - offset % 8)
    s.emit (.regData path offset (w64 (halfOf offset width w)))

/-- An access of BAR0 in its turn (R96). -/
def accessArrives (path : Path) (offset width : Nat) (isWrite : Bool) (s : State) : State :=
  s.inOrderAt path (.bar0BadAccess path offset width isWrite) fun s => badAccess path offset width isWrite s

/-- A read that the table lists as a command: its value goes out by the path that asked. -/
def readNamed (path : Path) (r : Reg) (s : State) : State := accessArrives path r.offset 8 false s

/-- REG_READ (R464, R494). -/
def mgtRead (c : Instr) (r : MgtReq) (side : Side) (offset : Nat) (s : State) : State :=
  mgtRequest c r 0x0001 roleObserve none (fun _ _ => if offset % 8 ≠ 0 then E.badLength else E.ok) s
    fun _ s =>
      let (w, s) := s.readAt (.mgmt side) offset
      s.mgtSay r E.ok (leBytes 8 w)

/-- REG_WRITE: with the rules of a BAR0 write (R464, R494). -/
def mgtWrite (c : Instr) (r : MgtReq) (side : Side) (offset : Nat) (value : Word) (s : State) : State :=
  mgtRequest c r 0x0002 roleOperate none (fun _ _ => if offset % 8 ≠ 0 then E.badLength else E.ok) s
    fun _ s =>
      match s.writeAt (.mgmt side) offset value.toNat with
      | .ok s => s.inta.mgtSay r E.ok []
      | .error code => s.mgtSay r code []

/-- CLEAR_OOS: the management operation, or the register's bit by a path (R436, R450, R464). -/
def clearOosCmd (c : Instr) (req : Option MgtReq) (path : Path) (value : Word) (s : State) : State :=
  match req with
  | none => writeNamed path .rstTwinCtl value s
  | some r =>
    let twin := Side.ofBool (tst value.toNat 48)
    mgtRequest c r 0x0034 roleOperate (some [value.toNat]) (fun _ s => if (s.twin twin).state ≠ .outOfService then E.badField else E.ok) s
      fun _ s => (s.clearOosNow twin).mgtSay r E.ok []

end Sys2Proof.Machine
end

