-- ==== Sys2Proof/Machine/Deliver.lean ====
section
/-! DEFINITION. What waits and is done later: packets held for their delivery time, events carried for want of a stamp, and
accesses that waited for the lines of coherent windows (R36, R325, R342, R369). -/

namespace Sys2Proof.Machine

/-! ### Coherence messages -/

/-- What a home asks of an agent, as a message. -/
def askMsg (op : CohOp) (home line req : Nat) (owner : Bool) : CohMsg :=
  { op := op, home := home, line := line, src := .none, dst := .none, req := req, owner := owner, data := [], marks := 0,
    done := false, late := false }

/-- A Miss at the home; one that its sender marked is counted (R335, R339). -/
def State.missTake (s : State) (line src : Nat) (star : Bool) : State :=
  (if star then s.protoError else s).takeMiss line src

/-- The effect of a coherence message: the header it came under, its kind, and what it does once delivered. -/
def cohParts : Instr → Option (Option FabHdr × CohOp × (State → State))
  | .rds v src l => some (v, .rds, homeRequest v src l .rds)
  | .rdx v src l => some (v, .rdx, homeRequest v src l .rdx)
  | .upg v src l => some (v, .upg, homeRequest v src l .upg)
  | .puts v src l => some (v, .puts, homePut v src l .puts [] 0)
  | .pute v src l => some (v, .pute, homePut v src l .pute [] 0)
  | .puto v src l d m => some (v, .puto, homePut v src l .puto d m.val)
  | .putm v src l d m => some (v, .putm, homePut v src l .putm d m.val)
  | .fwds v a h l r o => some (v, .fwds, fun s => s.agentAsked a (askMsg .fwds h l r o))
  | .fwdx v a h l r o => some (v, .fwdx, fun s => s.agentAsked a (askMsg .fwdx h l r o))
  | .inv v a h l => some (v, .inv, fun s => s.agentAsked a (askMsg .inv h l 0 false))
  | .snpcur v a h l => some (v, .snpCur, fun s => s.agentAsked a (askMsg .snpCur h l 0 false))
  | .snprecall v a h l => some (v, .snpRecall, fun s => s.agentAsked a (askMsg .snpRecall h l 0 false))
  | .datas v a h l d m x => some (v, .datas, fun s => s.takeData a h l .datas d m.val x)
  | .datae v a h l d m x => some (v, .datae, fun s => s.takeData a h l .datae d m.val x)
  | .datao v a h l d m x => some (v, .datao, fun s => s.takeData a h l .datao d m.val x)
  | .datam v a h l d m x => some (v, .datam, fun s => s.takeData a h l .datam d m.val x)
  | .upgack v a h l => some (v, .upgAck, fun s => State.takeAck s a h l .upgAck)
  | .grant v a h l => some (v, .grant, fun s => State.takeAck s a h l .grant)
  | .ackdone v a h l => some (v, .ackDone, fun s => State.takeAck s a h l .ackDone)
  | .putack v a h l => some (v, .putAck, fun s => State.takeAck s a h l .putAck)
  | .staleputack v a h l => some (v, .stalePutAck, fun s => State.takeAck s a h l .stalePutAck)
  | .fwddoneack v a h l => some (v, .fwdDoneAck, fun s => State.takeAck s a h l .fwdDoneAck)
  | .invack v src l late => some (v, .invAck, homeAnswer l late fun s => s.takeInvAck l src)
  | .fwddone v src l r k late => some (v, .fwdDone k, homeAnswer l late fun s => s.takeFwdDone l src r k)
  | .snprsp v src l d m keep late => some (v, .snpRsp keep, homeAnswer l late fun s => s.takeSnpRsp l src d m.val keep)
  | .miss v src l star late => some (v, .miss star, homeAnswer l late fun s => s.missTake l src star)
  | _ => none

/-! ### FIXED_DELAY_DELIVERY (R369) -/

/-- A held packet is delivered: its effect, then its acknowledgement. -/
def State.deliverHeld (s : State) (c : Instr) : State :=
  match c with
  | .collCtl h g t r m => s.deliverPkt h K.collCtl (collCtl c g t r m)
  | _ =>
    match fabParts c, cohParts c with
    | some (h, kind, k), _ => s.deliverPkt h kind k
    | none, some (some h, op, k) => s.deliverPkt h (cohKind op) k
    | none, _ => s

/-- Every packet held whose delivery time has come by a microsecond of the tick. -/
def deliveries (us : Nat) (s : State) : State :=
  let s := s.reach us
  let now := (s.time.us + us) * 1000
  let due := s.fab.held.filter fun x => decide (x.1 ≤ now)
  let s := s.modFab fun f => { f with held := f.held.filter fun x => !decide (x.1 ≤ now) }
  due.foldl (fun s x => s.deliverHeld x.2) s

/-! ### Accesses that waited for lines (R325, R342, R343) -/

/-- Device memory in which the next slots of a ring lie, as many as a chain may take and the doorbell has made ready. -/
def State.slotRanges (s : State) (qn : Nat) : List (Nat × Nat) :=
  let q := s.queue qn
  (List.range (min 8 (q.prod - q.cons))).filterMap fun i =>
    match (s.controlTarget q (s.ringAddr q (q.cons + i)) 64 .read).1 with
    | .loc a => some (a, 64)
    | _ => none

/-- SLOT_FETCH: reading a ring in a coherent window waits for the lines that agents hold. -/
def fetchSlot (qn gen : Nat) (bytes : List Byte) (poisoned : Bool) (s : State) : State :=
  let fetch := fun (s : State) => slotFetch qn gen bytes poisoned s.extraCheck s
  if gen ≠ (s.queue qn).gen || !s.canFetch qn then fetch s
  else s.uncached (.cmd (.slotFetch ⟨qn, gen⟩ bytes poisoned)) (s.slotRanges qn) [] fetch

/-- Device memory in which the predicate word that a command waits for lies. -/
def State.wordRanges (s : State) (r : CmdRef) : List (Nat × Nat) :=
  let q := s.queue r.queue
  match q.cmdAt r.slot with
  | some c =>
    match (s.target q.ctx (predAddr c.bytes) 8 .read).1 with
    | .loc a => if c.pred = .waiting then [(a, 8)] else []
    | _ => []
  | none => []

/-- PREDICATE_READ_COMPLETE, likewise. -/
def readPredicate (r : CmdRef) (gen word : Nat) (poisoned : Bool) (s : State) : State :=
  s.uncached (.cmd (.predicateReadComplete ⟨r, gen⟩ word poisoned)) (s.wordRanges r) [] fun s => predicateRead r gen word poisoned s

/-- What waited for lines is done. -/
def State.serveWaiting (s : State) (w : Waiting) : State :=
  match w with
  | .engineUnit qn pos u e => s.runUnit qn pos u e
  | .access p a k => s.startAccess p a k
  | .unsupported p => s.emit (.bar4Cpl p .unsupported [] false)
  | .cmd c =>
    match c with
    | .commandComplete qn => commandComplete qn s
    | .writeInline r => s.runInline r
    | .allreduce r | .reduceScatter r | .allgather r | .alltoall r | .broadcast r | .collectiveBarrier r => s.collStep r
    | .slotFetch t b p => fetchSlot t.queue t.gen b p s
    | .predicateReadComplete t w p => readPredicate t.ref t.gen w p s
    | .write h d m => serveWrite c h d m s
    | .read h n => serveRead c h n s
    | .debugRead r a n => debugServeRead c r a n s
    | .debugWrite r a d => debugServeWrite c r a d s
    | _ => s

/-- What arrived at a port behind a write that waited is taken (R96). -/
def State.takeBehind (s : State) (w : Waiting) : State :=
  match w with
  | .access p a k => s.startAccess p a k
  | .unsupported p => s.emit (.bar4Cpl p .unsupported [] false)
  | .engineUnit _ _ _ _ => s
  | .cmd c =>
    match c with
    | .doorbell path off w v bad => doorbell c path off w v bad s
    | .registerWrite path off v bad => writeRegister path off v bad s
    | .bar0BadAccess path off w wr => badAccess path off w wr s
    | _ => s

/-- What waits at a port is taken in its order, up to the next write that has to wait. -/
def State.drainBehind (s : State) (p : Side) : Nat → State
  | 0 => s
  | n + 1 =>
    match (s.port p).behind with
    | [] => s
    | w :: t => if s.writeWaits p then s else ((s.modPort p fun x => { x with behind := t }).takeBehind w).drainBehind p n

/-- BLOCKING_OP_START: the operation at the head of a line's queue starts; where the lines of an access's group are all ready,
the access is made, the lines go on, and so does what arrived behind it. -/
def blockingStart (line : Nat) (s : State) : State :=
  let s := (s.startBlock line).settleLine line
  match s.readyGroup line with
  | some (g, lines, w) =>
    let s := s.modCoh fun c => { c with serving := lines, groups := c.groups.filter fun x => x.1 ≠ g }
    let s := (s.serveWaiting w).releaseGroup g lines
    (s.drainBehind .a (s.port .a).behind.length).drainBehind .b (s.port .b).behind.length
  | none => s

/-! ### Carried events (R36, R56) -/

/-- An event that waited for a stamp is taken again, at the start of the tick. -/
def State.replay (s : State) (c : Instr) : State :=
  match c with
  | .doorbell path off w v bad => doorbell c path off w v bad s
  | .registerWrite path off v bad => writeRegister path off v bad s
  | .bar0BadAccess path off w wr => badAccess path off w wr s
  | .commandComplete qn => commandComplete qn s
  | .drainLimit i => drainLimit c i s
  | .holdWindowExpiry p => holdExpiry p s
  | .portReset p => portReset p s
  | .flr p f => flr p f s
  | .d0Return p f => d0Return p f s
  | .vfEnableClear p => vfEnableClear p s
  | .ackTimeout d => ackTimeout d s
  | .homeTimeout a => homeTimeout a s
  | .global_ _ src m => globalPacket c src m s
  | .ideIntegrityFailure p n => ideFailure p n s
  | .tdiViolation p vf sp off => tdiViolation p vf sp off s
  | .collData _ g t r k d b => collData c g t r k d b s
  | .collCtl _ g t r m => collCtl c g t r m s
  | .vectorDelivery f v _ => vectorDelivery c f.val v.val 0 s
  | .faultOccurrence t src _ _ _ => if s.canStamp then faultStamp t src.val s else s.carry c
  | .prgResponse p f i g code => prgResponse c p f.val i g code s
  | .regRead r side off => mgtRead c r side off s
  | .regWrite r side off v => mgtWrite c r side off v s
  | .logRead r i n => logRead c r i n s
  | .sensorRead r => sensorRead c r s
  | .flashErase r o n => flashErase c r o n s
  | .flashWrite r o d => flashProgram c r o d s
  | .flashRead r o n => flashFetch c r o n s
  | .fwLoad r t => fwLoad c r t s
  | .fwRestore r t => fwRestore c r t s
  | .debugRead r a n => debugRead c r a n s
  | .debugWrite r a d => debugWrite c r a d s
  | .ccHalt r t n act => ccHalt c r t n.val act s
  | .credSet r n h roles => credSet c r n.val h roles s
  | .credLock r => credLock c r s
  | .svnRaise r n => svnRaise c r n s
  | .measExtend r n d => Machine.measExtend c r n d s
  | .clearOos r path v => clearOosCmd c r path v s
  | _ => match fabParts c with | some (_, _, k) => k s | none => s

/-- The events carried from the tick before, in arrival order. -/
def State.replayCarried (s : State) : State :=
  let l := s.time.carried
  l.foldl (fun s c => s.replay c) (s.modTime fun t => { t with carried := [] })

end Sys2Proof.Machine
end

