-- ==== Sys2Proof/Machine/CohCommands.lean ====
section
/-! DEFINITION. Coherence messages, agents and CXL.mem as commands (10). -/

namespace Sys2Proof.Machine

/-- AGENT_READ (R333). -/
def execAgentRead (agent : Agent) (ctx : Nat) (home line : Nat) (s : State) : Host.Outcome State Fault Refusal :=
  .next (Machine.agentRead agent ctx home line s)

/-- AGENT_WRITE (R333). -/
def execAgentWrite (agent : Agent) (ctx : Nat) (home line : Nat) (offset : Nat) (data : List Byte) (s : State) : Host.Outcome State Fault Refusal :=
  .next (Machine.agentWrite agent ctx home line offset data s)

/-- AGENT_EVICT (R333). -/
def execAgentEvict (agent : Agent) (_ctx : Nat) (home line : Nat) (s : State) : Host.Outcome State Fault Refusal :=
  .next (Machine.agentEvict agent home line s)

/-- WIN_HOLD_EXPIRY (R334). -/
def execWinHoldExpiry (agent : Agent) (home line : Nat) (s : State) : Host.Outcome State Fault Refusal :=
  .next (Machine.winHoldExpiry agent home line s)

/-- RDS (R338). -/
def execRds (via : Option FabHdr) (src line : Nat) (s : State) : Host.Outcome State Fault Refusal :=
  .next (s.cohArrive (.rds via src line) via .rds (homeRequest via src line .rds))

/-- RDX (R338). -/
def execRdx (via : Option FabHdr) (src line : Nat) (s : State) : Host.Outcome State Fault Refusal :=
  .next (s.cohArrive (.rdx via src line) via .rdx (homeRequest via src line .rdx))

/-- UPG (R338). -/
def execUpg (via : Option FabHdr) (src line : Nat) (s : State) : Host.Outcome State Fault Refusal :=
  .next (s.cohArrive (.upg via src line) via .upg (homeRequest via src line .upg))

/-- PUTS (R340). -/
def execPuts (via : Option FabHdr) (src line : Nat) (s : State) : Host.Outcome State Fault Refusal :=
  .next (s.cohArrive (.puts via src line) via .puts (homePut via src line .puts [] 0))

/-- PUTE (R340). -/
def execPute (via : Option FabHdr) (src line : Nat) (s : State) : Host.Outcome State Fault Refusal :=
  .next (s.cohArrive (.pute via src line) via .pute (homePut via src line .pute [] 0))

/-- PUTO (R340). -/
def execPuto (via : Option FabHdr) (src line : Nat) (data : List Byte) (marks : Fin 16) (s : State) : Host.Outcome State Fault Refusal :=
  .next (s.cohArrive (.puto via src line data marks) via .puto (homePut via src line .puto data marks.val))

/-- PUTM (R340). -/
def execPutm (via : Option FabHdr) (src line : Nat) (data : List Byte) (marks : Fin 16) (s : State) : Host.Outcome State Fault Refusal :=
  .next (s.cohArrive (.putm via src line data marks) via .putm (homePut via src line .putm data marks.val))

/-- FWDS (R335). -/
def execFwds (via : Option FabHdr) (agent : Agent) (home line : Nat) (req : Nat) (owner : Bool) (s : State) : Host.Outcome State Fault Refusal :=
  .next (s.cohArrive (.fwds via agent home line req owner) via .fwds fun s => s.agentAsked agent (askMsg .fwds home line req owner))

/-- FWDX (R335). -/
def execFwdx (via : Option FabHdr) (agent : Agent) (home line : Nat) (req : Nat) (owner : Bool) (s : State) : Host.Outcome State Fault Refusal :=
  .next (s.cohArrive (.fwdx via agent home line req owner) via .fwdx fun s => s.agentAsked agent (askMsg .fwdx home line req owner))

/-- INV (R335). -/
def execInv (via : Option FabHdr) (agent : Agent) (home line : Nat) (s : State) : Host.Outcome State Fault Refusal :=
  .next (s.cohArrive (.inv via agent home line) via .inv fun s => s.agentAsked agent (askMsg .inv home line 0 false))

/-- SNPCUR (R335). -/
def execSnpcur (via : Option FabHdr) (agent : Agent) (home line : Nat) (s : State) : Host.Outcome State Fault Refusal :=
  .next (s.cohArrive (.snpcur via agent home line) via .snpCur fun s => s.agentAsked agent (askMsg .snpCur home line 0 false))

/-- SNPRECALL (R335). -/
def execSnprecall (via : Option FabHdr) (agent : Agent) (home line : Nat) (s : State) : Host.Outcome State Fault Refusal :=
  .next (s.cohArrive (.snprecall via agent home line) via .snpRecall fun s => s.agentAsked agent (askMsg .snpRecall home line 0 false))

/-- DATAS (R336). -/
def execDatas (via : Option FabHdr) (agent : Agent) (home line : Nat) (data : List Byte) (marks : Fin 16) (done : Bool) (s : State) : Host.Outcome State Fault Refusal :=
  .next (s.cohArrive (.datas via agent home line data marks done) via .datas fun s => s.takeData agent home line .datas data marks.val done)

/-- DATAE (R336). -/
def execDatae (via : Option FabHdr) (agent : Agent) (home line : Nat) (data : List Byte) (marks : Fin 16) (done : Bool) (s : State) : Host.Outcome State Fault Refusal :=
  .next (s.cohArrive (.datae via agent home line data marks done) via .datae fun s => s.takeData agent home line .datae data marks.val done)

/-- DATAO (R336). -/
def execDatao (via : Option FabHdr) (agent : Agent) (home line : Nat) (data : List Byte) (marks : Fin 16) (done : Bool) (s : State) : Host.Outcome State Fault Refusal :=
  .next (s.cohArrive (.datao via agent home line data marks done) via .datao fun s => s.takeData agent home line .datao data marks.val done)

/-- DATAM (R336). -/
def execDatam (via : Option FabHdr) (agent : Agent) (home line : Nat) (data : List Byte) (marks : Fin 16) (done : Bool) (s : State) : Host.Outcome State Fault Refusal :=
  .next (s.cohArrive (.datam via agent home line data marks done) via .datam fun s => s.takeData agent home line .datam data marks.val done)

/-- UPGACK (R336). -/
def execUpgack (via : Option FabHdr) (agent : Agent) (home line : Nat) (s : State) : Host.Outcome State Fault Refusal :=
  .next (s.cohArrive (.upgack via agent home line) via .upgAck fun s => State.takeAck s agent home line .upgAck)

/-- GRANT (R336). -/
def execGrant (via : Option FabHdr) (agent : Agent) (home line : Nat) (s : State) : Host.Outcome State Fault Refusal :=
  .next (s.cohArrive (.grant via agent home line) via .grant fun s => State.takeAck s agent home line .grant)

/-- ACKDONE (R336). -/
def execAckdone (via : Option FabHdr) (agent : Agent) (home line : Nat) (s : State) : Host.Outcome State Fault Refusal :=
  .next (s.cohArrive (.ackdone via agent home line) via .ackDone fun s => State.takeAck s agent home line .ackDone)

/-- PUTACK (R336). -/
def execPutack (via : Option FabHdr) (agent : Agent) (home line : Nat) (s : State) : Host.Outcome State Fault Refusal :=
  .next (s.cohArrive (.putack via agent home line) via .putAck fun s => State.takeAck s agent home line .putAck)

/-- STALEPUTACK (R336). -/
def execStaleputack (via : Option FabHdr) (agent : Agent) (home line : Nat) (s : State) : Host.Outcome State Fault Refusal :=
  .next (s.cohArrive (.staleputack via agent home line) via .stalePutAck fun s => State.takeAck s agent home line .stalePutAck)

/-- FWDDONEACK (R336). -/
def execFwddoneack (via : Option FabHdr) (agent : Agent) (home line : Nat) (s : State) : Host.Outcome State Fault Refusal :=
  .next (s.cohArrive (.fwddoneack via agent home line) via .fwdDoneAck fun s => State.takeAck s agent home line .fwdDoneAck)

/-- INVACK (R339). -/
def execInvack (via : Option FabHdr) (src line : Nat) (late : Bool) (s : State) : Host.Outcome State Fault Refusal :=
  .next (s.cohArrive (.invack via src line late) via .invAck (homeAnswer line late fun s => s.takeInvAck line src))

/-- FWDDONE (R339). -/
def execFwddone (via : Option FabHdr) (src line : Nat) (req : Nat) (kind : FwdKind) (late : Bool) (s : State) : Host.Outcome State Fault Refusal :=
  .next (s.cohArrive (.fwddone via src line req kind late) via (.fwdDone kind) (homeAnswer line late fun s => s.takeFwdDone line src req kind))

/-- SNPRSP (R339). -/
def execSnprsp (via : Option FabHdr) (src line : Nat) (data : List Byte) (marks : Fin 16) (keep late : Bool) (s : State) : Host.Outcome State Fault Refusal :=
  .next (s.cohArrive (.snprsp via src line data marks keep late) via (.snpRsp keep) (homeAnswer line late fun s => s.takeSnpRsp line src data marks.val keep))

/-- MISS (R339). -/
def execMiss (via : Option FabHdr) (src line : Nat) (star late : Bool) (s : State) : Host.Outcome State Fault Refusal :=
  .next (s.cohArrive (.miss via src line star late) via (.miss star) (homeAnswer line late fun s => s.missTake line src star))

/-- BLOCKING_OP_START (R343). -/
def execBlockingOpStart (line : Nat) (s : State) : Host.Outcome State Fault Refusal := .next (blockingStart line s)

/-- HOME_TIMEOUT (R347). -/
def execHomeTimeout (agent : Nat) (s : State) : Host.Outcome State Fault Refusal := .next (Machine.homeTimeout agent s)

/-- RLC_HOME_TIMEOUT (R350). -/
def execRlcHomeTimeout (home : Nat) (s : State) : Host.Outcome State Fault Refusal := .next (Machine.rlcHomeTimeout home s)

/-- MEMRD (R345). -/
def execMemrd (p : Side) (decoder : Fin 2) (addr : Nat) (m : CxlMeta) (s : State) : Host.Outcome State Fault Refusal :=
  .next (hostRequest p decoder.val addr (.memRd m) s)

/-- MEMRDDATA (R345). -/
def execMemrddata (p : Side) (decoder : Fin 2) (addr : Nat) (m : CxlMeta) (s : State) : Host.Outcome State Fault Refusal :=
  .next (hostRequest p decoder.val addr (.memRdData m) s)

/-- MEMINV (R345). -/
def execMeminv (p : Side) (decoder : Fin 2) (addr : Nat) (m : CxlMeta) (s : State) : Host.Outcome State Fault Refusal :=
  .next (hostRequest p decoder.val addr (.memInv m) s)

/-- MEMCLNEVCT (R345). -/
def execMemclnevct (p : Side) (decoder : Fin 2) (addr : Nat) (s : State) : Host.Outcome State Fault Refusal :=
  .next (hostRequest p decoder.val addr .memClnEvct s)

/-- MEMWR (R345). -/
def execMemwr (p : Side) (decoder : Fin 2) (addr : Nat) (m : CxlMeta) (data : List Byte) (poisoned : Bool) (s : State) : Host.Outcome State Fault Refusal :=
  .next (hostRequest p decoder.val addr (.memWr m data poisoned) s)

/-- BICONFLICT (R345). -/
def execBiconflict (p : Side) (decoder : Fin 2) (addr : Nat) (s : State) : Host.Outcome State Fault Refusal :=
  .next (hostRequest p decoder.val addr .biConflict s)

/-- BIRSP (R345). -/
def execBirsp (p : Side) (decoder : Fin 2) (addr : Nat) (rsp : CxlMeta) (s : State) : Host.Outcome State Fault Refusal :=
  .next (biRsp p decoder.val addr rsp s)

end Sys2Proof.Machine
end

