-- ==== Sys2Proof/Machine/Tick.lean ====
section
/-! DEFINITION. The tick boundary: one boundary event, its parts in their order, and what a new tick begins with (R32, R36, R53
to R59, R81, R82, R129, R133, R137, R144). -/

namespace Sys2Proof.Machine

/-! ### The tick and its stamp (R35 to R40, R53 to R56, R365) -/

/-- The number of the tick that begins, with what a join or a wrap sets. -/
def Time.advance (t : Time) : Time :=
  let own := if t.agreed then t.tick + 1 else 0
  let next := match t.jumpTo with | some n => max n own | none => own
  let jumped := match t.jumpTo with | some n => decide (own < n) | none => false
  let wraps := decide (2 ^ 48 ≤ next)
  let tick := next % 2 ^ 48
  let us := t.us + periodUs t.period
  { t with
    tick := tick, seq := if tick = 0 && !wraps then t.seq else 0
    jumped := t.jumped || jumped, wrapped := t.wrapped || wraps, agreed := t.agreed || t.jumpTo.isSome, jumpTo := none
    bnd := t.bnd + 1, us := us, now := max t.now us }

/-- The boundary event is stamped, where a twin leads or comes to lead at it, and the count of TICK zero is not used up. -/
def State.stampBoundary (s : State) : State :=
  let leads := s.lead.isSome || s.twinEvents.lead.isSome
  if leads && decide (s.time.seq < 65535) then
    let v := s.time.tick * 65536 + s.time.seq
    s.modTime fun t => { t with seq := t.seq + 1, last := v, bstamp := v }
  else s.modTime fun t => { t with bstamp := noStamp }

/-- What a tick counts begins anew; units claimed and not written are released (R57, R58, R248). -/
def Cmd.release (c : Cmd) : Cmd := { c with claims := [], above := if accumulates c.bytes then c.above else [] }

def Queue.newTick (q : Queue) : Queue :=
  { q with replies := 0, ended := [], rung := [], invTick := 0, cmds := q.cmds.map Cmd.release }

/-- Windows that wait for a translation close, their slices' micro-TLBs with them (R206, R208), and the units that engines wrote in the
tick just ended are no longer the last. -/
def State.slicesEnd (s : State) : State :=
  let s := (s.plan.waits.map (·.1)).foldl (fun s n => s.waitEnds n) s
  let s := s.modXlt fun x => { x with micro := [], passing := x.passing.filter fun t => decide (s.time.bnd < t.2) }
  s.mapEngines fun e => { e with last := none }

def State.newTick (s : State) : State :=
  let s := s.slicesEnd.modPlan fun p => { p with windows := [], waits := [], linkUsed := [], frontUsed := [] }
  (s.mapQueues fun _ q => q.newTick).modIrq fun i => { i with delivered := [] }

/-! ### Plans (R68 to R70, R81 to R83) -/

/-- The start plan that a fabric-wide reset restored takes effect as this boundary's plan switch, and the PLAN registers return to
their reset values (R83); 0x10C018 is HX_PLAN_SEL. -/
def State.restorePlan (s : State) : State :=
  if !s.plan.restore then s
  else
    let s := match s.plan.pend with | some m => s.withdraw m E.aborted | none => s
    let s := [0, 1, 2, 3].foldl (fun s i => s.finishRef (s.slot i).stage E.aborted) s
    (s.dropSelsAt 0x10C018).modPlan fun p =>
      { p with
        slots := Tbl.set .none [] 0 (s.startPlanNow s.time.period), active := 0, switchTick := s.time.tick, restore := false
        diverged := false, short := false, withdrawn := false, epochs := 0 }

/-- Plan switch, with the measurement of the plan that is then active (R81, R452). -/
def State.planPart (s : State) : State :=
  let t := s.loadsDone.commitStep.planSwitch.restorePlan
  if t.plan.active = s.plan.active && !s.plan.restore then t else t.measSet 5 t.activePlan.digest

/-- A throttle epoch begins with the tick (R69). -/
def State.epochBegins (s : State) : Bool := ticksSince s.time.tick s.time.tp % epochTicks s.time.period = 0

/-- The throttle state of the epoch, decided where one begins (R70, R479). -/
def State.throttlePart (s : State) : State :=
  let begins := s.epochBegins
  let s :=
    if !begins then s
    else
      let on := s.plan.request || s.plan.limit || s.sensorThrottle || s.plan.forClock
      s.modPlan fun p =>
        { p with throttled := on, forClock := false, epochs := if on then satAdd (2 ^ 32 - 1) p.epochs 1 else p.epochs }
  (s.clkSwitch begins).clkBoundary

/-- PORT_SHORT is set while a port's capacity is below that of the plan (R67). -/
def State.portShort (s : State) : State :=
  let p := s.activePlan
  if (s.port .a).cap < p.cap0 || (s.port .b).cap < p.cap1 then s.modPlan fun x => { x with short := true } else s

/-! ### Queues (R44, R122, R129) -/

/-- A queue stops: its unretired commands end with a code. `quiet` leaves their fences PENDING (R129, R144). -/
def Queue.stopWith (q : Queue) (code now : Nat) (quiet : Bool) : Queue :=
  { q with
    state := .stopped, next := .none, parking := .none, gen := (q.gen + 1) % 256, reject := .none, rejectDone := false, rereads := 0
    cmds := q.cmds.map fun c =>
      if c.forced then { c with quietFence := c.quietFence || quiet }
      else { c.cutOff code now with byAbort := true, quietFence := c.quietFence || quiet } }

/-- Nothing remains of a queue's work. -/
def Queue.empty (q : Queue) : Bool := q.cmds.isEmpty && q.cons = q.prod && q.reject.isNone

/-- The transition of one queue at a boundary. -/
def State.queueStep (s : State) (n : Nat) : State :=
  let q := s.queue n
  let now := s.time.bnd
  if !q.live then s
  else
    match q.next with
    | some .stopped => if s.queueHeld n then s else s.setQueue n (q.stopWith E.aborted now false)
    | some _ => s.setQueue n { q with state := if q.empty then .idle else .active, next := none, parking := none }
    | none =>
      match q.parking with
      | some (code, slot) =>
        (s.setQueue n { q with state := .parked, parking := none, parkCode := code, parkSlot := slot }).raiseQueue n
      | none =>
        if q.state = .active && q.empty then s.setQueue n { q with state := .idle }
        else if q.state = .stopped && q.destroy && q.cmds.isEmpty then s.setQueue n { Queue.none with gen := q.gen }
        else if q.state = .stopped && q.priv && q.cmds.isEmpty && !(s.func (Side.ofBool (decide (n = 1))) 0).flr && !s.queueHeld n then
          (s.setQueue n { Queue.none with live := true, priv := true, ctx := q.ctx, gen := (q.gen + 1) % 256 }).modPort
            (Side.ofBool (decide (n = 1))) fun x => { x with privRing := 8, privReply := 0 }
        else s

/-- The queue transitions of a boundary. -/
def State.queueSteps (s : State) : State := (s.queues.map (·.1)).foldl (fun s n => s.queueStep n) s

/-- Deferred replies of queues that have become IDLE or PARKED are written (R165). -/
def State.flushDeferred (s : State) : State :=
  s.queues.foldl
    (fun s (n, q) =>
      if !q.deferred.isEmpty && (q.state = .idle || q.state = .parked) && s.works n then
        let s := s.writeDeferred n q.deferred.length
        match (s.queue n).deferred with
        | (pos, _, _) :: _ => s.replyStops n pos
        | [] => s
      else s) s

/-! ### Contexts (R44, R46, R133, R225) -/

/-- Queues of a context that runs again take up the doorbells that came meanwhile (R133). -/
def State.wakeQueues (s : State) (slot : Nat) : State :=
  (s.queuesOf slot).foldl
    (fun s n => s.modQueue n fun q => if q.state = .idle && decide (q.cons ≠ q.prod) then { q with state := .active } else q) s

/-- The transition of one context at a boundary. -/
def State.ctxStep (s : State) (i : Nat) : State :=
  let c := s.ctx i
  let off := s.time.bnd + 64
  let s :=
    match c.next with
    | some .opened =>
      if s.genHeld i then s
      else
        s.setCtx i
          { c with state := .opened, next := none, gen := (c.gen + 1) % 256, home := if s.carries c.home then c.home else c.home.other }
    | some .running => (s.setCtx i { c with state := .running, next := none, predictFrom := off }).wakeQueues i
    | some x => s.setCtx i { c with state := x, next := none }
    | none => s
  match (s.ctx i).homeNext with
  | some t =>
    if s.carries t then ((s.modCtx i fun c => { c with home := t, homeNext := none, predictFrom := off }).purgeAll i).forgetDelay i
    else s.modCtx i fun c => { c with homeNext := none }
  | none => s

/-- A draining context goes on to teardown: every queue IDLE, one PARKED, or its limit reached (R133). -/
def State.drainStep (s : State) (i : Nat) : State :=
  let c := s.ctx i
  if c.state ≠ .draining || c.teardown.isSome then s
  else
    match c.drainLeft with
    | none => s
    | some n =>
      let qs := (s.queuesOf i).map s.queue
      if n = 0 || qs.all (fun q => q.state = .idle) || qs.any (fun q => q.state = .parked) then
        s.beginTeardown i E.contextDead s.boundaryStamp
      else s.setCtx i { c with drainLeft := some (n - 1) }

/-! ### Teardown (R144, R145, R513) -/

/-- Step 1: every queue of the context is STOPPED, and its unretired commands end. -/
def State.tearStop (s : State) (i code : Nat) : State :=
  let qs := s.queuesOf i
  if qs.any fun n => decide ((s.queue n).state ≠ .stopped) && s.queueHeld n then s
  else
    let s := qs.foldl
      (fun s n => s.modQueue n fun q =>
        if q.state = .stopped then { q with next := none, parking := none } else q.stopWith code s.time.bnd true) s
    s.modCtx i fun c => { c with state := .draining, next := none, drainLeft := none, homeNext := none, teardown := some (3, code) }

/-- The ATS invalidations that the host has outstanding for a context's PASID are answered (R144). -/
def State.answerAts (s : State) (i : Nat) : State :=
  let c := s.ctx i
  let mine := fun (v : AtsInv) => v.func = c.func && v.pasid = some c.pasid
  let due := s.xlt.inv.filter mine
  (s.modXlt fun x => { x with inv := x.inv.filter fun v => !mine v }).emits (due.map fun v => .atsInvDone v.port v.func v.itag)

/-- Steps 3 and 4: the fences break, the caches are purged, the invalidations of the host are answered, the objects retire and the
regions go. -/
def State.tearFences (s : State) (i code : Nat) : State :=
  if (s.queuesOf i).any fun n => !(s.queue n).cmds.isEmpty then s
  else
    let mine := (s.fences.filter fun (_, f) => f.live && decide (f.owner = i)).map (·.1)
    let s := ((mine.foldl (fun s f => s.breakFence f code) s).purgeAll i).answerAts i
    let f := (s.ctx i).func
    let secret := f ≠ 0 && (decide ((s.tdi .a f).state ≠ .unlocked) || decide ((s.tdi .b f).state ≠ .unlocked))
    let stamp := s.boundaryStamp
    let s := s.mapObjs fun _ o =>
      if o.state = ObjState.live && o.owner = i then { o with state := ObjState.retiring, freeStamp := stamp, scrub := o.scrub || secret } else o
    ((s.clearRegions i).modXlt fun x => { x with requests := x.requests.filter fun r => !(r.ctx = i && r.index.isNone) }).modCtx i
      fun c => { c with teardown := some (5, code) }

/-- CLOSE and KILL of a context retire once it is DEAD. -/
def State.endClose (s : State) (i : Nat) : State :=
  let mine := fun (c : Cmd) =>
    hOpcode c.bytes = Op.contextCtl && (hSubop c.bytes = 6 || hSubop c.bytes = 7) && pf c.bytes 0 11 0 = i && c.begun && c.result.isNone
  let one := fun (s : State) (n : Nat) =>
    s.modQueue n fun q => { q with cmds := q.cmds.map fun c => if mine c then c.finish E.ok 0 s.time.bnd else c }
  one (one s 0) 1

/-- The PASID binding's generation advances, unless R44 withholds it. -/
def State.tearPasid (s : State) (i code : Nat) : State :=
  if s.pasidHeld i then s.modCtx i fun c => { c with teardown := some (6, code) }
  else s.modCtx i fun c => { c with pasidGen := (c.pasidGen + 1) % 256, teardown := some (7, code) }

/-- Step 5: the mappings go, and the context is DEAD. -/
def State.tearMaps (s : State) (i code : Nat) : State :=
  let tables := (s.xlt.tables.filter fun t => t.1 = i).map (·.2)
  let root := (s.ctx i).root
  let s := s.setMem (s.mem.clearPage root)
  let s := s.modXlt fun x =>
    { x with
      tables := x.tables.filter fun t => t.1 ≠ i, frees := x.frees.filter fun t => t.1 ≠ i
      changes := x.changes.filter fun c => c.1 ≠ i
      writes := x.writes.filter fun w => !(root :: tables).contains (w.1 / 4096 * 4096) }
  ((s.modCtx i fun c => { c with state := .dead }).tearPasid i code).endClose i

/-- FREE: the slot keeps its generations and what was observed of it. -/
def Ctx.freed (c : Ctx) : Ctx :=
  { Ctx.none with
    gen := c.gen, pasidGen := c.pasidGen, endStamp := c.endStamp, observed := c.observed, saturated := c.saturated, obsStamp := c.obsStamp }

/-- The step of a context's teardown that is due at a boundary. -/
def State.tearStep (s : State) (i : Nat) : State :=
  let c := s.ctx i
  match c.teardown with
  | none => s
  | some (n, code) =>
    if c.homeless then s
    else if n = 1 then s.tearStop i code
    else if n = 3 then s.tearFences i code
    else if n = 5 then s.tearMaps i code
    else if n = 6 then s.tearPasid i code
    else s.setCtx i c.freed

/-! ### Memory objects (R137, R459) -/

/-- A range of device memory is written as zeros. -/
def Mem.zeros (m : Mem) (a n : Nat) : Mem :=
  { bytes := m.bytes.filter fun (k, _) => !(decide (a ≤ k) && decide (k < a + n))
    poison := m.poison.filter fun w => !(decide (a ≤ 32 * w) && decide (32 * w < a + n)) }

/-- An object whose mappings are gone, and whose removed translations nothing uses any more, becomes FREE; the range of one that a
TDI's lock covered is scrubbed, and may be named again a boundary later. -/
def State.objStep (s : State) (i : Nat) : State :=
  let o := s.obj i
  if o.state = .free then (if o.scrub then s.setObj i Obj.none else s)
  else if !(o.unmapped && o.state = .retiring) then s
  else if o.uses = none then s.setObj i { o with uses := some s.useMarks }
  else if o.uses.any fun m => !m.isEmpty && !s.usesClear o.owner m then s
  else
    let s := match o.freeCmd with | some r => s.modCmd r.queue r.slot fun c => c.finish E.ok 0 s.time.bnd | none => s
    if o.scrub || s.tdiFrozen (s.ctx o.owner).func then
      (s.setObj i { Obj.none with base := o.base, size64k := o.size64k, scrub := true }).setMem (s.mem.zeros o.base (65536 * o.size64k))
    else s.setObj i Obj.none

def State.objSteps (s : State) : State := (s.objs.map (·.1)).foldl (fun s i => s.objStep i) s

/-! ### Vectors (R400) -/

/-- Routes committed in the tick before take effect. -/
def State.vecRoutes (s : State) : State :=
  s.modIrq fun i =>
    { i with
      vecs := (Tbl.mapVal (fun _ (v : Vec) =>
        match v.routeNext with | some r => { v with route := r, routeNext := none } | none => v) i.vecs).filter
          fun x => decide (x.2 ≠ Vec.reset) }

/-! ### The boundary (R59) -/

/-- A supply warning that has cleared ends its hold at the boundary, before anything is acted on (R441, R446). -/
def State.supplyOver (s : State) : State := if s.rst.cleared then s.supply else s

/-- The parts of the boundary event, in the order of R59, with the transitions that take effect with it; a grace timer that ran out
at the end of the tick just ended comes before them (log entry 28). The mirror holds what stands at the end of the tick just ended,
before the transitions of this boundary (log entry 46). -/
def State.boundaryEvent (s : State) (missA missB : Bool) : State :=
  let tearing := (s.ctxs.filter fun (_, c) => c.teardown.isSome).map (·.1)
  let s := graceExpiry .b (graceExpiry .a s.supplyOver)
  let s := (((s.mirrorCommit missA missB).judgeMirrors missA missB).twinEvents).mirrorKeep.newTick
  let s := s.globalStep.planPart
  let s := s.modPlan fun p => { p with allot := s.wantedSet }
  let s := s.throttlePart.pathEvents
  let s := s.portLosses.portReturns
  let s := (s.ctxs.map (·.1)).foldl (fun s i => s.ctxStep i) s
  let s := (tearing.foldl (fun s i => s.tearStep i) s.regionEffects).queueSteps
  let s := (s.ctxs.map (·.1)).foldl (fun s i => s.drainStep i) s
  let s := s.objSteps.vecRoutes
  let changes := s.xlt.changes
  let s := (s.applyMaps.endRecords changes).clearStalls
  let s := s.endGrants.groupsBoundary
  let s := ((s.collectorTick .a).collectorTick .b).cdStages
  ((s.standbyStep .a).standbyStep .b).supply

/-- Invalidations that waited for room are issued: each command's, then those asked for by peers (R255). -/
def State.restsIssued (s : State) : State :=
  let s := s.modFab fun f => { f with invTick := 0 }
  (s.queues.foldl
    (fun s (n, q) => if s.works n then (q.cmds.filter fun c => !c.invRest.isEmpty).foldl (fun s c => s.issueRest n c) s else s)
    s).servedRest

/-- What the new tick begins with: events that waited for a stamp, then what Harson issues at its boundary. -/
def State.tickBegins (s : State) : State :=
  let s := s.replayCarried.hostBoundary.portShort
  let s := s.restsIssued.flushDeferred
  let s := if s.rst.held then s else s.reaskPages.sendPageRequests
  s.faultRings.retryStarted.collectives.allCompletions.fabricTick.inta

/-- TICK_BOUNDARY: the TCLK count reaches a boundary. Before the PLLs lock, and while the shared plane has no clock, no tick
runs (R477, R480). -/
def boundary (missA missB : Bool) (s : State) : State :=
  if !(s.clk.phase = 4 || s.clk.phase = 5) || s.clk.dead then s
  else
    let s := s.modTime Time.advance
    (s.stampBoundary.boundaryEvent missA missB).tickBegins

end Sys2Proof.Machine
end

