-- ==== Sys2Proof/Machine/ControlCommands.lean ====
section
/-! DEFINITION. CONTEXT_CTL as commands (04), with the attributes of coherent windows (10). -/

namespace Sys2Proof.Machine

/-- Attributes that OBJ_CREATE may not have (R322, R323): COHERENT, ORDER, HOST, EMB, PEERS and DOMAIN. A DOMAIN without PEERS is
illegal (DEDUCED, log entry 47). -/
def windowAttrBad (s : State) (slot _base _size attr : Nat) : Bool :=
  if !tst attr 15 then bits attr 14 4 ≠ 0
  else
    tst attr 0 || bits attr 13 11 = 0 || (tst attr 11 && !(s.domain (bits attr 10 4)).valid) ||
      (!tst attr 11 && bits attr 10 4 ≠ 0) || (Tbl.get (0, 0) s.coh.parts slot).1 = 0

/-- The command at a slot that starts in the step from `s` to `t`, is not rejected, and may act at the boundary of this tick: its
start was not released within the tick (R247). -/
def State.startsOnTime (s t : State) (r : CmdRef) : Option Cmd :=
  match (s.queue r.queue).cmdAt r.slot, (t.queue r.queue).cmdAt r.slot with
  | some c, some d =>
    if !c.begun && d.begun && (d.result.isNone || d.result = some E.ok) && decide (d.claimFrom ≤ t.time.bnd) then some d else none
  | _, _ => none

/-- A transition takes effect at the first boundary after its trigger's stamp (R129, R133, R144), and a command's stamp is its
doorbell's (R160): the boundary at which the command becomes eligible. So the transition of a context that a command orders when it
starts at a boundary is part of that boundary (DEDUCED, log entry 170); one whose start was released within a tick waits for the
next. -/
def State.atStamp (s : State) (r : CmdRef) (t : State) : State :=
  match s.startsOnTime t r with
  | none => t
  | some c =>
    let slot := pf c.bytes 0 11 0
    let u := t.ctxStep slot
    match (s.ctx slot).teardown, (u.ctx slot).teardown with
    | none, some (1, code) => if (u.ctx slot).homeless then u else u.tearStop slot code
    | _, _ => u.drainStep slot

/-- The same for the transition of a queue. -/
def State.queueAtStamp (s : State) (r : CmdRef) (t : State) : State :=
  match s.startsOnTime t r with
  | none => t
  | some c => t.queueStep (pf c.bytes 0 25 12)

/-- OPEN (R132). -/
def execOpen (ref : CmdRef) (s : State) : Host.Outcome State Fault Refusal := .next (s.atStamp ref (ctxOpen ref s))

/-- START (R133). -/
def execStart (ref : CmdRef) (s : State) : Host.Outcome State Fault Refusal := .next (s.atStamp ref (ctxStart ref s))

/-- PARK (R133). -/
def execPark (ref : CmdRef) (s : State) : Host.Outcome State Fault Refusal := .next (s.atStamp ref (ctxPark ref s))

/-- RESUME (R133). -/
def execResume (ref : CmdRef) (s : State) : Host.Outcome State Fault Refusal := .next (s.atStamp ref (ctxResume ref s))

/-- SET_HOME (R46). -/
def execSetHome (ref : CmdRef) (s : State) : Host.Outcome State Fault Refusal := .next (s.atStamp ref (ctxSetHome ref s))

/-- CLOSE (R133). -/
def execClose (ref : CmdRef) (s : State) : Host.Outcome State Fault Refusal := .next (s.atStamp ref (ctxClose ref s))

/-- KILL (R133). -/
def execKill (ref : CmdRef) (s : State) : Host.Outcome State Fault Refusal := .next (s.atStamp ref (ctxKill ref s))

/-- DRAIN_LIMIT (R133). -/
def execDrainLimit (ctx : Nat) (s : State) : Host.Outcome State Fault Refusal := .next (Machine.drainLimit (.drainLimit ctx) ctx s)

/-- Q_CREATE (R126). -/
def execQCreate (ref : CmdRef) (s : State) : Host.Outcome State Fault Refusal := .next (qCreate ref s)

/-- Q_PARK (R131). -/
def execQPark (ref : CmdRef) (s : State) : Host.Outcome State Fault Refusal := .next (s.queueAtStamp ref (qPark ref s))

/-- Q_RESUME (R129). -/
def execQResume (ref : CmdRef) (s : State) : Host.Outcome State Fault Refusal := .next (s.queueAtStamp ref (qResume ref s))

/-- Q_STOP (R129). -/
def execQStop (ref : CmdRef) (s : State) : Host.Outcome State Fault Refusal := .next (s.queueAtStamp ref (qStop ref s))

/-- Q_DESTROY (R131). -/
def execQDestroy (ref : CmdRef) (s : State) : Host.Outcome State Fault Refusal := .next (s.queueAtStamp ref (qDestroy ref s))

/-- OBJ_CREATE (R135). -/
def execObjCreate (ref : CmdRef) (s : State) : Host.Outcome State Fault Refusal := .next (objCreateWith windowAttrBad ref s)

/-- OBJ_FREE (R137). -/
def execObjFree (ref : CmdRef) (s : State) : Host.Outcome State Fault Refusal := .next (objFree ref s)

/-- OBJECT_FREED (R137). -/
def execObjectFreed (obj : Nat) (s : State) : Host.Outcome State Fault Refusal := .next (Machine.objectFreed obj s)

/-- FENCE_ALLOC (R138). -/
def execFenceAlloc (ref : CmdRef) (s : State) : Host.Outcome State Fault Refusal := .next (fenceAlloc ref s)

/-- FENCE_RESET (R140). -/
def execFenceReset (ref : CmdRef) (s : State) : Host.Outcome State Fault Refusal := .next (fenceReset ref s)

/-- FENCE_FREE (R142). -/
def execFenceFree (ref : CmdRef) (s : State) : Host.Outcome State Fault Refusal := .next (fenceFree ref s)

end Sys2Proof.Machine
end

