-- ==== Sys2Proof/Machine/EngineCommands.lean ====
section
/-! DEFINITION. Data movement and transforms as commands (07, 08). -/

namespace Sys2Proof.Machine

/-- CE_WINDOW_START (R242). -/
def execCeWindowStart (engine : Fin 40) (entry : Nat) (s : State) : Host.Outcome State Fault Refusal :=
  .next (ceWindow engine.val entry s)

/-- COPY (R234). -/
def execCopy (ref : CmdRef) (s : State) : Host.Outcome State Fault Refusal := .next (engineStart Op.copy ref s)

/-- COPY_2D (R235). -/
def execCopy2d (ref : CmdRef) (s : State) : Host.Outcome State Fault Refusal := .next (engineStart Op.copy2d ref s)

/-- GATHER (R237). -/
def execGather (ref : CmdRef) (s : State) : Host.Outcome State Fault Refusal := .next (engineStart Op.gather ref s)

/-- SCATTER (R237). -/
def execScatter (ref : CmdRef) (s : State) : Host.Outcome State Fault Refusal := .next (engineStart Op.scatter ref s)

/-- FILL (R240). -/
def execFill (ref : CmdRef) (s : State) : Host.Outcome State Fault Refusal := .next (engineStart Op.fill ref s)

/-- QUANTIZE (R269). -/
def execQuantize (ref : CmdRef) (s : State) : Host.Outcome State Fault Refusal := .next (engineStart Op.quantize ref s)

/-- DEQUANTIZE (R270). -/
def execDequantize (ref : CmdRef) (s : State) : Host.Outcome State Fault Refusal := .next (engineStart Op.dequantize ref s)

/-- ACCUMULATE (R271). -/
def execAccumulate (ref : CmdRef) (s : State) : Host.Outcome State Fault Refusal := .next (engineStart Op.accumulate ref s)

/-- COMPACT (R285). -/
def execCompact (ref : CmdRef) (s : State) : Host.Outcome State Fault Refusal := .next (engineStart Op.compact ref s)

/-- EXPAND (R286). -/
def execExpand (ref : CmdRef) (s : State) : Host.Outcome State Fault Refusal := .next (engineStart Op.expand ref s)

/-- DISPATCH (R290). -/
def execDispatch (ref : CmdRef) (s : State) : Host.Outcome State Fault Refusal := .next (engineStart Op.dispatch ref s)

/-- COMBINE (R295). -/
def execCombine (ref : CmdRef) (s : State) : Host.Outcome State Fault Refusal := .next (engineStart Op.combine ref s)

end Sys2Proof.Machine
end

