-- ==== Sys2Proof/Machine/FabricCommands.lean ====
section
/-! DEFINITION. Fabric packets, discovery and collectives as commands (11). -/

namespace Sys2Proof.Machine

/-- The counts of a PFACK, a class whose field is not valid counting as nothing delivered (R367). -/
def State.pfackCounts (s : State) (h : FabHdr) (valid : Nat) (counts : List Nat) : List Nat :=
  (List.range 4).map fun k =>
    if tst valid k then counts.getD k 0
    else (((s.path h.src).unacked.find? fun y => y.cls = k).map (·.pseq)).getD 0

/-- A PATHFENCE: what had been delivered under the generation before is what its answer counts (R373). -/
def fenceArrives (h : FabHdr) (previous : Nat) (s : State) : State :=
  let h' := { h with addr := previous }
  s.arrive (.pathfence h previous) h' K.pathfence (takePathfence h' (s.rx h.src))

/-- CORE_INVALIDATE_DONE for a command of this device, or for a range that a peer asked for (R255, R382). -/
def coreInvalidated (r : CmdRef) (n gen : Nat) (s : State) : State :=
  if gen ≠ s.gen n then s.staleDomain
  else if r.queue < 16384 then s.coreDone r n else s.servedDone (r.queue - 16384) r.slot n

/-- DISCOVERY_PHASE_END (R362). -/
def execDiscoveryPhaseEnd (s : State) : Host.Outcome State Fault Refusal := .next (Machine.discoveryPhaseEnd s)

/-- HELLO (R362). -/
def execHello (link : Fin 24) (serial : Nat) (peerLink : Nat) (_pin : Option Nat) (best dist : Nat) (answer : Option FabAnswer) (s : State) : Host.Outcome State Fault Refusal :=
  .next (Machine.hello link.val serial peerLink best dist answer s)

/-- PROBE (R362). -/
def execProbe (link : Fin 24) (roundTrip : Nat) (s : State) : Host.Outcome State Fault Refusal :=
  .next (Machine.probe link.val roundTrip s)

/-- CENSUS (R362). -/
def execCensus (_link : Fin 24) (nodes : List FabNode) (s : State) : Host.Outcome State Fault Refusal :=
  .next (Machine.census nodes s)

/-- FABRIC_MAP_PACKET (R362). -/
def execFabricMapPacket (link : Fin 24) (map : FabMap) (s : State) : Host.Outcome State Fault Refusal :=
  .next (fabricMap link.val map.nodes s)

/-- BEACON (R364). -/
def execBeacon (link : Fin 24) (number : Nat) (offset : Int) (s : State) : Host.Outcome State Fault Refusal :=
  .next (Machine.beacon link.val number offset s)

/-- BEACON_LOSS (R364). -/
def execBeaconLoss (s : State) : Host.Outcome State Fault Refusal := .next (Machine.beaconLoss s)

/-- FABRIC_JOIN (R365). -/
def execFabricJoin (link : Fin 24) (device root number : Nat) (s : State) : Host.Outcome State Fault Refusal :=
  .next (Machine.fabricJoin link.val device root number s)

/-- GLOBAL (R390). -/
def execGlobal (link : Fin 24) (src : Nat) (msg : GlobalMsg) (s : State) : Host.Outcome State Fault Refusal :=
  .next (globalPacket (.global_ link src msg) src msg s)

/-- FABRIC_LINK_DOWN (R376). -/
def execFabricLinkDown (link : Fin 24) (s : State) : Host.Outcome State Fault Refusal := .next (Machine.fabricLinkDown link.val s)

/-- FABRIC_LINK_UP (R376). -/
def execFabricLinkUp (link : Fin 24) (s : State) : Host.Outcome State Fault Refusal := .next (Machine.fabricLinkUp link.val s)

/-- LINK_REPORTED_UP (R376). -/
def execLinkReportedUp (link : Fin 24) (peerDev peerLink : Nat) (s : State) : Host.Outcome State Fault Refusal :=
  .next (Machine.linkReportedUp link.val peerDev peerLink s)

/-- WRITE (R378). -/
def execWrite (h : FabHdr) (data : List Byte) (marks : Nat) (s : State) : Host.Outcome State Fault Refusal :=
  .next (s.arrive (.write h data marks) h K.write (takeWrite (.write h data marks) h data marks))

/-- READ (R378). -/
def execRead (h : FabHdr) (len : Nat) (s : State) : Host.Outcome State Fault Refusal :=
  .next (s.arrive (.read h len) h K.read (takeRead (.read h len) h len))

/-- RDATA (R367). -/
def execRdata (h : FabHdr) (data : List Byte) (marks : Nat) (s : State) : Host.Outcome State Fault Refusal :=
  .next (s.arrive (.rdata h data marks) h K.rdata (takeRdata (.rdata h data marks) h data marks))

/-- NAK (R378). -/
def execNak (h : FabHdr) (code : Nat) (s : State) : Host.Outcome State Fault Refusal :=
  .next (s.arrive (.nak h code) h K.nak (takeNak (.nak h code) h code))

/-- ACK (R373). -/
def execAck (h : FabHdr) (valid : Nat) (upTo : List Nat) (s : State) : Host.Outcome State Fault Refusal :=
  .next (s.arrive (.ack h valid upTo) h K.ack (takeAck h valid upTo))

/-- ACK_TIMEOUT (R375). -/
def execAckTimeout (dev : Nat) (s : State) : Host.Outcome State Fault Refusal := .next (Machine.ackTimeout dev s)

/-- FIXED_DELAY_DELIVERY (R369). -/
def execFixedDelayDelivery (us : Nat) (s : State) : Host.Outcome State Fault Refusal := .next (deliveries us s)

/-- PATHFENCE (R373). The transport adopts the generation before the answer counts what came under the old one. -/
def execPathfence (h : FabHdr) (previous : Nat) (s : State) : Host.Outcome State Fault Refusal :=
  .next (fenceArrives h previous s)

/-- PFACK (R374). -/
def execPfack (h : FabHdr) (valid : Nat) (counts : List Nat) (s : State) : Host.Outcome State Fault Refusal :=
  .next (s.arrive (.pfack h valid counts) h K.pfack (takePfack h (s.pfackCounts h valid counts)))

/-- FENCE_UPD (R381). -/
def execFenceUpd (h : FabHdr) (value : Nat) (state : Fin 3) (code scope : Nat) (s : State) : Host.Outcome State Fault Refusal :=
  .next (s.arrive (.fenceUpd h value state code scope) h K.fenceUpd (takeFenceUpd (.fenceUpd h value state code scope) h value state.val code scope))

/-- INVAL (R382). -/
def execInval (h : FabHdr) (clusters : Nat) (ranges : List (Nat × Nat)) (s : State) : Host.Outcome State Fault Refusal :=
  .next (s.arrive (.inval h clusters ranges) h K.inval (takeInval (.inval h clusters ranges) h clusters ranges))

/-- INVAL_DONE (R382). -/
def execInvalDone (h : FabHdr) (s : State) : Host.Outcome State Fault Refusal :=
  .next (s.arrive (.invalDone h) h K.invalDone (takeInvalDone (.invalDone h) h))

/-- GRANT_OFFER (R377). -/
def execGrantOffer (h : FabHdr) (base size rights ctx : Nat) (fence : Bool) (s : State) : Host.Outcome State Fault Refusal :=
  .next (s.arrive (.grantOffer h base size rights ctx fence) h K.grantOffer (takeOffer (.grantOffer h base size rights ctx fence) h base size rights ctx fence))

/-- GRANT_REVOKE (R379). -/
def execGrantRevoke (h : FabHdr) (s : State) : Host.Outcome State Fault Refusal :=
  .next (s.arrive (.grantRevoke h) h K.grantRevoke (takeRevoke (.grantRevoke h) h))

/-- GROUP_DIGEST_RECEIPT (R360). -/
def execGroupDigestReceipt (h : FabHdr) (group : Nat) (digest : List Byte) (s : State) : Host.Outcome State Fault Refusal :=
  .next (s.arrive (.groupDigestReceipt h group digest) h K.group (takeDigest (.groupDigestReceipt h group digest) h group digest))

/-- GROUP_DIGEST_ANSWER (R360). -/
def execGroupDigestAnswer (h : FabHdr) (group : Nat) (agree : Bool) (s : State) : Host.Outcome State Fault Refusal :=
  .next (s.arrive (.groupDigestAnswer h group agree) h K.group (takeAnswer (.groupDigestAnswer h group agree) h group agree))

/-- GROUP_AGREE_TIMEOUT (R360). -/
def execGroupAgreeTimeout (group : Nat) (s : State) : Host.Outcome State Fault Refusal :=
  .next (Machine.groupAgreeTimeout group s)

/-- COLL_DATA (R386). -/
def execCollData (h : FabHdr) (group tag : Nat) (rank chunk : Nat) (dir : CollDir) (data : List Byte) (s : State) : Host.Outcome State Fault Refusal :=
  .next (s.arrive (.collData h group tag rank chunk dir data) h K.collData (collData (.collData h group tag rank chunk dir data) group tag rank chunk dir data))

/-- COLL_CTL (R384). -/
def execCollCtl (h : FabHdr) (group tag : Nat) (rank : Nat) (msg : CollMsg) (s : State) : Host.Outcome State Fault Refusal :=
  .next (s.arrive (.collCtl h group tag rank msg) h K.collCtl (collCtl (.collCtl h group tag rank msg) group tag rank msg))

/-- CORE_INVALIDATE_DONE (R255). -/
def execCoreInvalidateDone (tag : InvTag) (s : State) : Host.Outcome State Fault Refusal :=
  .next (coreInvalidated tag.ref tag.domain.val tag.gen s)

/-- ALLREDUCE (R387). -/
def execAllreduce (ref : CmdRef) (s : State) : Host.Outcome State Fault Refusal := .next (collective 1 ref s)

/-- REDUCE_SCATTER (R387). -/
def execReduceScatter (ref : CmdRef) (s : State) : Host.Outcome State Fault Refusal := .next (collective 2 ref s)

/-- ALLGATHER (R387). -/
def execAllgather (ref : CmdRef) (s : State) : Host.Outcome State Fault Refusal := .next (collective 3 ref s)

/-- ALLTOALL (R387). -/
def execAlltoall (ref : CmdRef) (s : State) : Host.Outcome State Fault Refusal := .next (collective 4 ref s)

/-- BROADCAST (R387). -/
def execBroadcast (ref : CmdRef) (s : State) : Host.Outcome State Fault Refusal := .next (collective 5 ref s)

/-- COLLECTIVE_BARRIER (R387). -/
def execCollectiveBarrier (ref : CmdRef) (s : State) : Host.Outcome State Fault Refusal := .next (collective 6 ref s)

/-- COLL_TIMEOUT (R389). -/
def execCollTimeout (ref : CmdRef) (s : State) : Host.Outcome State Fault Refusal := .next (Machine.collTimeout ref s)

end Sys2Proof.Machine
end

