-- ==== Sys2Proof/Machine/FaultCommands.lean ====
section
/-! DEFINITION. Interrupts, wake, faults, twins and compute domains as commands (12, 13). -/

namespace Sys2Proof.Machine

/-- EVENT_RAISED (R402). -/
def execEventRaised (us : Nat) (s : State) : Host.Outcome State Fault Refusal := .next (Machine.eventRaised us s)

/-- MODERATION_RELEASE (R404). -/
def execModerationRelease (f : Fin 128) (v : Fin 2048) (us : Nat) (s : State) : Host.Outcome State Fault Refusal :=
  .next (Machine.moderationRelease f.val v.val us s)

/-- VECTOR_DELIVERY (R407). -/
def execVectorDelivery (f : Fin 128) (v : Fin 2048) (us : Nat) (s : State) : Host.Outcome State Fault Refusal :=
  .next (Machine.vectorDelivery (.vectorDelivery f v us) f.val v.val us s)

/-- WAKE_SOURCE_FIRE (R412). -/
def execWakeSourceFire (sources : List (Nat × Nat)) (s : State) : Host.Outcome State Fault Refusal := .next (wakeFire sources s)

/-- FAULT_OCCURRENCE (R418). -/
def execFaultOccurrence (t : Side) (source : Fin 15) (ctx : Option Nat) (code detail : Nat) (s : State) : Host.Outcome State Fault Refusal :=
  .next (Machine.faultOccurrence t source ctx code detail s)

/-- GRACE_TIMER_EXPIRY (R422). -/
def execGraceTimerExpiry (t : Side) (s : State) : Host.Outcome State Fault Refusal := .next (graceExpiry t s)

/-- SAFE_STATE (R427). -/
def execSafeState (t : Side) (s : State) : Host.Outcome State Fault Refusal := .next (Machine.safeState t s)

/-- DETACH_FORCED (R443). -/
def execDetachForced (s : State) : Host.Outcome State Fault Refusal := .next (Machine.detachForced s)

/-- SAMPLE_RETURN (R432). -/
def execSampleReturn (cd : Fin 48) (core gen : Nat) (data : List Byte) (s : State) : Host.Outcome State Fault Refusal :=
  .next (Machine.sampleReturn cd.val core gen data s)

/-- SAMPLE_TIMEOUT (R432). -/
def execSampleTimeout (cd : Fin 48) (core : Nat) (s : State) : Host.Outcome State Fault Refusal :=
  .next (Machine.sampleTimeout cd.val core s)

end Sys2Proof.Machine
end

