-- ==== Sys2Proof/Machine/HostCommands.lean ====
section
/-! DEFINITION. Events of the host ports as commands (03). -/

namespace Sys2Proof.Machine

/-- LINK_DOWN (R100). -/
def execLinkDown (p : Side) (us : Nat) (s : State) : Host.Outcome State Fault Refusal := .next (Machine.linkDown p us s)

/-- LINK_TRAINING_COMPLETE (R87). -/
def execLinkTrainingComplete (p : Side) (speed width : Fin 8) (flit cxl : Bool) (s : State) : Host.Outcome State Fault Refusal :=
  .next (linkTraining p speed.val width.val flit cxl s)

/-- HOLD_WINDOW_EXPIRY (R100). -/
def execHoldWindowExpiry (p : Side) (s : State) : Host.Outcome State Fault Refusal := .next (holdExpiry p s)

/-- PORT_RESET (R100). -/
def execPortReset (p : Side) (s : State) : Host.Outcome State Fault Refusal := .next (Machine.portReset p s)

/-- FLR (R100). -/
def execFlr (p : Side) (f : Fin 128) (s : State) : Host.Outcome State Fault Refusal := .next (Machine.flr p f s)

/-- FLR_COMPLETE (R101). -/
def execFlrComplete (p : Side) (f : Fin 128) (s : State) : Host.Outcome State Fault Refusal :=
  .next (Machine.flrComplete p f.val s)

/-- VF_ENABLE_CLEAR (R100). -/
def execVfEnableClear (p : Side) (s : State) : Host.Outcome State Fault Refusal := .next (Machine.vfEnableClear p s)

/-- D3HOT_ENTRY (R100). -/
def execD3hotEntry (p : Side) (f : Fin 128) (s : State) : Host.Outcome State Fault Refusal := .next (Machine.d3hotEntry p f.val s)

/-- D0_RETURN (R100). -/
def execD0Return (p : Side) (f : Fin 128) (s : State) : Host.Outcome State Fault Refusal := .next (Machine.d0Return p f s)

/-- BUS_MASTER_ENABLE_CLEAR (R100). -/
def execBusMasterEnableClear (p : Side) (f : Fin 128) (s : State) : Host.Outcome State Fault Refusal :=
  .next (busMasterClear p f.val s)

/-- INBOUND_BAR4_REQUEST (R104). -/
def execInboundBar4Request (p : Side) (reqId addr : Nat) (kind : Bar4Kind) (s : State) : Host.Outcome State Fault Refusal :=
  .next (inboundBar4 p reqId addr kind s)

/-- HOST_COMPLETION (R42). -/
def execHostCompletion (p : Side) (tag : Nat) (status : CplStatus) (data : List Byte) (poisoned : Bool) (s : State) : Host.Outcome State Fault Refusal :=
  .next (Machine.hostCompletion p tag status data poisoned s)

/-- HOST_COMPLETION_TIMEOUT (R97). -/
def execHostCompletionTimeout (p : Side) (tag : Nat) (s : State) : Host.Outcome State Fault Refusal := .next (hostTimeout p tag s)

/-- FLUSH_READ_COMPLETE (R109). -/
def execFlushReadComplete (p : Side) (cpl : FlushCpl) (s : State) : Host.Outcome State Fault Refusal :=
  .next (flushComplete p cpl.gen cpl.ok s)

/-- FLUSH_READ_TIMEOUT (R109). -/
def execFlushReadTimeout (p : Side) (s : State) : Host.Outcome State Fault Refusal := .next (flushTimeout p s)

/-- CONFIGURATION_REQUEST (R98). -/
def execConfigurationRequest (p : Side) (f : Fin 128) (cfg : Cfg) (s : State) : Host.Outcome State Fault Refusal :=
  .next (configRequest p f.val cfg s)

end Sys2Proof.Machine
end

