-- ==== Sys2Proof/Machine/QueueCommands.lean ====
section
/-! DEFINITION. Doorbells, slot fetches, the commands of 05 and their completion as commands. -/

namespace Sys2Proof.Machine

/-- DOORBELL (R124). -/
def execDoorbell (path : Path) (offset width : Nat) (value : Word) (poisoned : Bool) (s : State) : Host.Outcome State Fault Refusal :=
  .next (s.inOrderAt path (.doorbell path offset width value poisoned) fun s =>
    doorbell (.doorbell path offset width value poisoned) path offset width value poisoned s)

/-- SLOT_FETCH (R32). -/
def execSlotFetch (tag : QueueTag) (bytes : List Byte) (poisoned : Bool) (s : State) : Host.Outcome State Fault Refusal :=
  .next (fetchSlot tag.queue tag.gen bytes poisoned s)

/-- PREDICATE_READ_COMPLETE (R168). -/
def execPredicateReadComplete (tag : WordTag) (word : Nat) (poisoned : Bool) (s : State) : Host.Outcome State Fault Refusal :=
  .next (readPredicate tag.ref tag.gen word poisoned s)

/-- COMMAND_COMPLETE (R33). -/
def execCommandComplete (queue : Nat) (s : State) : Host.Outcome State Fault Refusal := .next (commandComplete queue s)

/-- NOP (R162). -/
def execNop (ref : CmdRef) (s : State) : Host.Outcome State Fault Refusal := .next (endAtStart Op.nop ref s)

/-- FENCE_SIGNAL (R164). -/
def execFenceSignal (ref : CmdRef) (s : State) : Host.Outcome State Fault Refusal := .next (endAtStart Op.fenceSignal ref s)

/-- FENCE_WAIT (R141). -/
def execFenceWait (ref : CmdRef) (s : State) : Host.Outcome State Fault Refusal := .next (fenceWait ref s)

/-- WRITE_INLINE (R179). -/
def execWriteInline (ref : CmdRef) (s : State) : Host.Outcome State Fault Refusal := .next (writeInline ref s)

/-- BARRIER (R180). -/
def execBarrier (ref : CmdRef) (s : State) : Host.Outcome State Fault Refusal := .next (endAtStart Op.barrier ref s)

/-- MAP (R187). -/
def execMap (ref : CmdRef) (s : State) : Host.Outcome State Fault Refusal := .next (mapCmd ref s)

/-- UNMAP (R188). -/
def execUnmap (ref : CmdRef) (s : State) : Host.Outcome State Fault Refusal := .next (unmapCmd ref s)

/-- INVALIDATE (R189). -/
def execInvalidate (ref : CmdRef) (s : State) : Host.Outcome State Fault Refusal := .next (invalidateCmd ref s)

/-- LAUNCH (R183). -/
def execLaunch (ref : CmdRef) (s : State) : Host.Outcome State Fault Refusal := .next (launch ref s)

/-- LAUNCH_ANSWER (R184). -/
def execLaunchAnswer (ref : CmdRef) (gen code : Nat) (s : State) : Host.Outcome State Fault Refusal :=
  .next (launchAnswer ref gen code s)

/-- ABORT (R181). -/
def execAbort (ref : CmdRef) (s : State) : Host.Outcome State Fault Refusal := .next (abort ref s)

/-- INTENT_NOTICE_ACK (R438). -/
def execIntentNoticeAck (ref : CmdRef) (s : State) : Host.Outcome State Fault Refusal := .next (intentAck ref s)

end Sys2Proof.Machine
end

