-- ==== Sys2Proof/Machine/RegCommands.lean ====
section
/-! DEFINITION. Register accesses as commands (12 to 16): each row that is one register's write or read. -/

namespace Sys2Proof.Machine

/-- FAULT_RESP_RETRY (R219). -/
def execFaultRespRetry (path : Path) (value : Word) (s : State) : Host.Outcome State Fault Refusal :=
  .next (writeNamed path .xltFaultResp value s)

/-- FAULT_RESP_FAIL (R219). -/
def execFaultRespFail (path : Path) (value : Word) (s : State) : Host.Outcome State Fault Refusal :=
  .next (writeNamed path .xltFaultResp value s)

/-- XLT_PROBE (R228). -/
def execXltProbe (path : Path) (value : Word) (s : State) : Host.Outcome State Fault Refusal :=
  .next (writeNamed path .xltProbeSel value s)

/-- FRING_PROGRAM (R227). -/
def execFringProgram (path : Path) (value : Word) (s : State) : Host.Outcome State Fault Refusal :=
  .next (writeNamed path .xltFring value s)

/-- PLACE_COMMIT (R105). -/
def execPlaceCommit (path : Path) (value : Word) (s : State) : Host.Outcome State Fault Refusal :=
  .next (writeNamed path .objPlaceSel value s)

/-- PLACE_CLEAR (R106). -/
def execPlaceClear (path : Path) (value : Word) (s : State) : Host.Outcome State Fault Refusal :=
  .next (writeNamed path .objPlaceSel value s)

/-- JOURNAL_STATUS_CLEAR (R116). -/
def execJournalStatusClear (path : Path) (value : Word) (s : State) : Host.Outcome State Fault Refusal :=
  .next (writeNamed path .cmdJournalStatus value s)

/-- OBJ_QUERY_SELECT (R148). -/
def execObjQuerySelect (path : Path) (value : Word) (s : State) : Host.Outcome State Fault Refusal :=
  .next (writeNamed path .objQuerySel value s)

/-- XLT_PART_COMMIT (R226). -/
def execXltPartCommit (path : Path) (value : Word) (s : State) : Host.Outcome State Fault Refusal :=
  .next (writeNamed path .xltPartSel value s)

/-- XLT_STATUS_CLEAR (R227). -/
def execXltStatusClear (path : Path) (value : Word) (s : State) : Host.Outcome State Fault Refusal :=
  .next (writeNamed path .xltStatus value s)

/-- STALE_GEN_CLEAR (R45). -/
def execStaleGenClear (path : Path) (value : Word) (s : State) : Host.Outcome State Fault Refusal :=
  .next (writeNamed path .fltStaleGen value s)

/-- CE_COUNT_CLEAR (R260). -/
def execCeCountClear (path : Path) (value : Word) (s : State) : Host.Outcome State Fault Refusal :=
  .next (writeNamed path .ceCount value s)

/-- PLAN_EPOCH_CLEAR (R83). -/
def execPlanEpochClear (path : Path) (value : Word) (s : State) : Host.Outcome State Fault Refusal :=
  .next (writeNamed path .planEpoch value s)

/-- REG_ERR_CLEAR (R449). -/
def execRegErrClear (path : Path) (value : Word) (s : State) : Host.Outcome State Fault Refusal :=
  .next (writeNamed path .fltRegErr value s)

/-- DIP_CLEAR (R450). -/
def execDipClear (path : Path) (value : Word) (s : State) : Host.Outcome State Fault Refusal :=
  .next (writeNamed path .rstDip value s)

/-- COH_COUNT_CLEAR (R357). -/
def execCohCountClear (path : Path) (value : Word) (s : State) : Host.Outcome State Fault Refusal :=
  .next (writeNamed path .cohCount value s)

/-- COH_COUNT1_CLEAR (R357). -/
def execCohCount1Clear (path : Path) (value : Word) (s : State) : Host.Outcome State Fault Refusal :=
  .next (writeNamed path .cohCount1 value s)

/-- FAB_COUNT_CLEAR (R397). -/
def execFabCountClear (path : Path) (value : Word) (s : State) : Host.Outcome State Fault Refusal :=
  .next (writeNamed path .fabCount value s)

/-- IRQ_ACK (R403). -/
def execIrqAck (path : Path) (value : Word) (s : State) : Host.Outcome State Fault Refusal :=
  .next (writeNamed path .irqAck value s)

/-- IRQ_IDLE (R403). -/
def execIrqIdle (path : Path) (value : Word) (s : State) : Host.Outcome State Fault Refusal :=
  .next (writeNamed path .irqAck value s)

/-- IRQ_DISABLE_WRITE (R408). -/
def execIrqDisableWrite (path : Path) (value : Word) (s : State) : Host.Outcome State Fault Refusal :=
  .next (writeNamed path .irqGlobal value s)

/-- IRQ_ROUTE_COMMIT (R400). -/
def execIrqRouteCommit (path : Path) (value : Word) (s : State) : Host.Outcome State Fault Refusal :=
  .next (writeNamed path .irqRouteSel value s)

/-- STANDBY_REQUEST (R411). -/
def execStandbyRequest (path : Path) (value : Word) (s : State) : Host.Outcome State Fault Refusal :=
  .next (writeNamed path .irqWakeCtl value s)

/-- FLT_ACK (R421). -/
def execFltAck (path : Path) (value : Word) (s : State) : Host.Outcome State Fault Refusal :=
  .next (writeNamed path .fltAck value s)

/-- DETACH (R442). -/
def execDetach (path : Path) (value : Word) (s : State) : Host.Outcome State Fault Refusal :=
  .next (writeNamed path .rstTwinCtl value s)

/-- DETACH_WITHDRAW (R436). -/
def execDetachWithdraw (path : Path) (value : Word) (s : State) : Host.Outcome State Fault Refusal :=
  .next (writeNamed path .rstTwinCtl value s)

/-- TWIN_RETURN (R444). -/
def execTwinReturn (path : Path) (value : Word) (s : State) : Host.Outcome State Fault Refusal :=
  .next (writeNamed path .rstTwinCtl value s)

/-- CD_RESET (R431). -/
def execCdReset (path : Path) (value : Word) (s : State) : Host.Outcome State Fault Refusal :=
  .next (writeNamed path .rstCdCtl value s)

/-- CD_RETURN (R434). -/
def execCdReturn (path : Path) (value : Word) (s : State) : Host.Outcome State Fault Refusal :=
  .next (writeNamed path .rstCdCtl value s)

/-- CLOCK_SOURCE_WRITE (R479). -/
def execClockSourceWrite (path : Path) (value : Word) (s : State) : Host.Outcome State Fault Refusal :=
  .next (writeNamed path .clkSrc value s)

/-- CLOCK_GATE_WRITE (R482). -/
def execClockGateWrite (path : Path) (value : Word) (s : State) : Host.Outcome State Fault Refusal :=
  .next (writeNamed path .clkGate value s)

/-- FCNT_GO (R484). -/
def execFcntGo (path : Path) (value : Word) (s : State) : Host.Outcome State Fault Refusal :=
  .next (writeNamed path .clkFcntCtl value s)

/-- BIST_GO (R487). -/
def execBistGo (path : Path) (value : Word) (s : State) : Host.Outcome State Fault Refusal :=
  .next (writeNamed path .clkBistCtl value s)

/-- GRANT_COMMIT (R377). -/
def execGrantCommit (path : Path) (value : Word) (s : State) : Host.Outcome State Fault Refusal :=
  .next (writeNamed path .fabGrantSel value s)

/-- GRANT_CLEAR (R379). -/
def execGrantClear (path : Path) (value : Word) (s : State) : Host.Outcome State Fault Refusal :=
  .next (writeNamed path .fabGrantSel value s)

/-- PROXY_BIND (R381). -/
def execProxyBind (path : Path) (value : Word) (s : State) : Host.Outcome State Fault Refusal :=
  .next (writeNamed path .fabProxySel value s)

/-- PROXY_UNBIND (R396). -/
def execProxyUnbind (path : Path) (value : Word) (s : State) : Host.Outcome State Fault Refusal :=
  .next (writeNamed path .fabProxySel value s)

/-- GROUP_COMMIT (R360). -/
def execGroupCommit (path : Path) (value : Word) (s : State) : Host.Outcome State Fault Refusal :=
  .next (writeNamed path .fabGroupSel value s)

/-- GROUP_CLEAR (R361). -/
def execGroupClear (path : Path) (value : Word) (s : State) : Host.Outcome State Fault Refusal :=
  .next (writeNamed path .fabGroupSel value s)

/-- ROUTE_COMMIT (R395). -/
def execRouteCommit (path : Path) (value : Word) (s : State) : Host.Outcome State Fault Refusal :=
  .next (writeNamed path .fabRouteSel value s)

/-- REPIN (R372). -/
def execRepin (path : Path) (value : Word) (s : State) : Host.Outcome State Fault Refusal :=
  .next (writeNamed path .fabRouteSel value s)

/-- GLOBAL_SNAPSHOT (R391). -/
def execGlobalSnapshot (path : Path) (value : Word) (s : State) : Host.Outcome State Fault Refusal :=
  .next (writeNamed path .fabGlobal value s)

/-- GLOBAL_RESET (R392). -/
def execGlobalReset (path : Path) (value : Word) (s : State) : Host.Outcome State Fault Refusal :=
  .next (writeNamed path .fabGlobal value s)

/-- COH_DOMAIN_COMMIT (R356). -/
def execCohDomainCommit (path : Path) (value : Word) (s : State) : Host.Outcome State Fault Refusal :=
  .next (writeNamed path .cohDomainSel value s)

/-- COH_PART_COMMIT (R355). -/
def execCohPartCommit (path : Path) (value : Word) (s : State) : Host.Outcome State Fault Refusal :=
  .next (writeNamed path .cohPartSel value s)

/-- COH_DIR_PROBE (R358). -/
def execCohDirProbe (path : Path) (value : Word) (s : State) : Host.Outcome State Fault Refusal :=
  .next (writeNamed path .cohDirProbe value s)

/-- REGISTER_WRITE (R14). -/
def execRegisterWrite (path : Path) (offset : Nat) (value : Word) (poisoned : Bool) (s : State) : Host.Outcome State Fault Refusal :=
  .next (writeArrives path offset value poisoned s)

/-- BAR0_BAD_ACCESS (R16). -/
def execBar0BadAccess (path : Path) (offset width : Nat) (isWrite : Bool) (s : State) : Host.Outcome State Fault Refusal :=
  .next (accessArrives path offset width isWrite s)

/-- SAMPLE_DATA_READ (R433). -/
def execSampleDataRead (path : Path) (s : State) : Host.Outcome State Fault Refusal := .next (readNamed path .rstSampleData s)

/-- CLK_STATUS_READ (R478). -/
def execClkStatusRead (path : Path) (s : State) : Host.Outcome State Fault Refusal := .next (readNamed path .clkStatus s)

/-- CLEAR_OOS (R436). -/
def execClearOos (req : Option MgtReq) (path : Path) (value : Word) (s : State) : Host.Outcome State Fault Refusal :=
  .next (clearOosCmd (.clearOos req path value) req path value s)

/-- REG_READ (R464). -/
def execRegRead (req : MgtReq) (side : Side) (offset : Nat) (s : State) : Host.Outcome State Fault Refusal :=
  .next (mgtRead (.regRead req side offset) req side offset s)

/-- REG_WRITE (R464). -/
def execRegWrite (req : MgtReq) (side : Side) (offset : Nat) (value : Word) (s : State) : Host.Outcome State Fault Refusal :=
  .next (mgtWrite (.regWrite req side offset value) req side offset value s)

end Sys2Proof.Machine
end

