-- ==== Sys2Proof/Machine/Startup.lean ====
section
/-! DEFINITION. Start-up, self-tests, clocks, gates and the supply as commands (13, 15). -/

namespace Sys2Proof.Machine

/-- POWER_UP (R477). -/
def execPowerUp (xstart : Fin 8) (s : State) : Host.Outcome State Fault Refusal := .next (powerUp xstart.val s)

/-- IOSC_TRIM (R477). -/
def execIoscTrim (s : State) : Host.Outcome State Fault Refusal := .next (ioscTrim s)

/-- XTAL_CHECK (R476). -/
def execXtalCheck (count : Nat) (s : State) : Host.Outcome State Fault Refusal := .next (xtalCheck count s)

/-- PLL_LOCKED (R477). -/
def execPllLocked (s : State) : Host.Outcome State Fault Refusal := .next (pllLocked s)

/-- SHARED_MBIST_DONE (R477). -/
def execSharedMbistDone (sig : Word) (s : State) : Host.Outcome State Fault Refusal := .next (sharedMbist sig s)

/-- IMAGE_LOAD_DONE (R453). -/
def execImageLoadDone (t : Side) (s : State) : Host.Outcome State Fault Refusal := .next (imageLoadDone t s)

/-- IMAGE_REMEASURE_DONE (R502). -/
def execImageRemeasureDone (t : Side) (s : State) : Host.Outcome State Fault Refusal := .next (imageRemeasureDone t s)

/-- SELFTEST_DONE (R485). -/
def execSelftestDone (t : Side) (mbist lbist : Word) (s : State) : Host.Outcome State Fault Refusal :=
  .next (selftestDone t mbist lbist s)

/-- TWIN_RESET_RELEASE (R500). -/
def execTwinResetRelease (t : Side) (s : State) : Host.Outcome State Fault Refusal := .next (twinResetRelease t s)

/-- PWRWARN_ASSERT (R446). -/
def execPwrwarnAssert (us : Nat) (s : State) : Host.Outcome State Fault Refusal := .next (warnAsserted us s)

/-- PWRWARN_CLEAR (R446). -/
def execPwrwarnClear (us : Nat) (s : State) : Host.Outcome State Fault Refusal := .next (pwrwarnClear us s)

/-- POWER_FAIL_RESET (R446). -/
def execPowerFailReset (s : State) : Host.Outcome State Fault Refusal := .next (powerFail s)

/-- PLL_LOSS_OF_LOCK (R480). -/
def execPllLossOfLock (pll : Pll) (s : State) : Host.Outcome State Fault Refusal := .next (pllLoss pll s)

/-- XTAL_LOST (R480). -/
def execXtalLost (s : State) : Host.Outcome State Fault Refusal := .next (Machine.xtalLost s)

/-- FCNT_DONE (R484). -/
def execFcntDone (count : Nat) (s : State) : Host.Outcome State Fault Refusal := .next (fcntDone count s)

/-- FCNT_TIMEOUT (R484). -/
def execFcntTimeout (count : Nat) (s : State) : Host.Outcome State Fault Refusal := .next (fcntTimeout count s)

/-- SELFTEST (R486). -/
def execSelftest (ref : CmdRef) (s : State) : Host.Outcome State Fault Refusal := .next (selftest ref s)

end Sys2Proof.Machine
end

