-- ==== Sys2Proof/Machine/Ticks.lean ====
section
/-! DEFINITION. The tick boundary, plans and deadlines of a tick as commands (02). -/

namespace Sys2Proof.Machine

/-- TICK_BOUNDARY (R59). -/
def execTickBoundary (missA missB : Bool) (s : State) : Host.Outcome State Fault Refusal := .next (boundary missA missB s)

/-- THROTTLE_REQUEST (R26, R70). The power management's throttle request and the package limit state that it gives are weighed from
the next epoch on. -/
def execThrottleRequest (input : PowerInput) (s : State) : Host.Outcome State Fault Refusal :=
  .next (s.modPlan fun p => { p with request := input.request, limit := input.limit })

/-- STAGE (R73). -/
def execStage (ref : CmdRef) (s : State) : Host.Outcome State Fault Refusal := .next (planStage ref s)

/-- PLAN_UNIT_ACK (R74). -/
def execPlanUnitAck (slot : Fin 4) (unit : PlanUnit) (s : State) : Host.Outcome State Fault Refusal :=
  .next (planUnitAck slot.val unit s)

/-- PLAN_LOAD_TIMEOUT (R74). -/
def execPlanLoadTimeout (slot : Fin 4) (s : State) : Host.Outcome State Fault Refusal := .next (planLoadTimeout slot.val s)

/-- COMMIT (R77). -/
def execCommit (ref : CmdRef) (s : State) : Host.Outcome State Fault Refusal := .next (planCommit ref s)

/-- PLAN_STAGING_CHECK (R78). -/
def execPlanStagingCheck (s : State) : Host.Outcome State Fault Refusal := .next (planStagingCheck s)

/-- PLAN_GROUP_DECISION (R79). -/
def execPlanGroupDecision (note : TreeNote) (s : State) : Host.Outcome State Fault Refusal :=
  .next (planGroupDecision note.dev note.group note.tick note.up note.stands s)

/-- PLAN_DECISION_MISSED (R80). -/
def execPlanDecisionMissed (s : State) : Host.Outcome State Fault Refusal := .next (planDecisionMissed s)

/-- WITHDRAW (R193). -/
def execWithdraw (ref : CmdRef) (s : State) : Host.Outcome State Fault Refusal := .next (planWithdraw ref s)

/-- RELEASE (R72). -/
def execRelease (ref : CmdRef) (s : State) : Host.Outcome State Fault Refusal := .next (planRelease ref s)

end Sys2Proof.Machine
end

