-- ==== Sys2Proof/Machine/TrustCommands.lean ====
section
/-! DEFINITION. SPDM, IDE, TDISP, management and sensors as commands (14). -/

namespace Sys2Proof.Machine

/-- GET_VERSION (R455). -/
def execGetVersion (path : SpdmPath) (s : State) : Host.Outcome State Fault Refusal := .next (Machine.getVersion path s)

/-- GET_CAPABILITIES (R455). -/
def execGetCapabilities (path : SpdmPath) (s : State) : Host.Outcome State Fault Refusal := .next (Machine.getCapabilities path s)

/-- NEGOTIATE_ALGORITHMS (R455). -/
def execNegotiateAlgorithms (path : SpdmPath) (asked : Nat) (s : State) : Host.Outcome State Fault Refusal :=
  .next (negotiate path asked s)

/-- GET_DIGESTS (R455). -/
def execGetDigests (path : SpdmPath) (s : State) : Host.Outcome State Fault Refusal := .next (Machine.getDigests path s)

/-- GET_CERTIFICATE (R451). -/
def execGetCertificate (path : SpdmPath) (slot offset len : Nat) (s : State) : Host.Outcome State Fault Refusal :=
  .next (Machine.getCertificate path slot offset len s)

/-- CHALLENGE (R455). -/
def execChallenge (path : SpdmPath) (slot : Nat) (nonce : List Byte) (s : State) : Host.Outcome State Fault Refusal :=
  .next (Machine.challenge path slot nonce s)

/-- GET_MEASUREMENTS (R455). -/
def execGetMeasurements (path : SpdmPath) (session : Option Nat) (index : Nat) (nonce : List Byte) (s : State) : Host.Outcome State Fault Refusal :=
  .next (Machine.getMeasurements path session index nonce s)

/-- KEY_EXCHANGE (R455). -/
def execKeyExchange (path : SpdmPath) (slot : Nat) (withAuth : Bool) (exchange : List Byte) (s : State) : Host.Outcome State Fault Refusal :=
  .next (Machine.keyExchange path slot withAuth exchange s)

/-- FINISH (R465). -/
def execFinish (path : SpdmPath) (session : Nat) (key : Option (List Byte)) (s : State) : Host.Outcome State Fault Refusal :=
  .next (Machine.finish path session key s)

/-- HEARTBEAT (R455). -/
def execHeartbeat (path : SpdmPath) (session : Nat) (s : State) : Host.Outcome State Fault Refusal :=
  .next (Machine.heartbeat path session s)

/-- KEY_UPDATE (R455). -/
def execKeyUpdate (path : SpdmPath) (session : Nat) (s : State) : Host.Outcome State Fault Refusal :=
  .next (Machine.keyUpdate path session s)

/-- END_SESSION (R455). -/
def execEndSession (path : SpdmPath) (session : Nat) (s : State) : Host.Outcome State Fault Refusal :=
  .next (Machine.endSession path session s)

/-- SPDM_UNSUPPORTED_REQUEST (R455). -/
def execSpdmUnsupportedRequest (path : SpdmPath) (code : Nat) (s : State) : Host.Outcome State Fault Refusal :=
  .next (spdmUnsupported path code s)

/-- KEY_PROG (R457). -/
def execKeyProg (p : Side) (session : Nat) (stream : Fin 8) (keySet : Bool) (s : State) : Host.Outcome State Fault Refusal :=
  .next (Machine.keyProg p session stream.val keySet s)

/-- K_SET_GO (R457). -/
def execKSetGo (p : Side) (session : Nat) (stream : Fin 8) (keySet : Bool) (s : State) : Host.Outcome State Fault Refusal :=
  .next (Machine.kSetGo p session stream.val keySet s)

/-- K_SET_STOP (R457). -/
def execKSetStop (p : Side) (session : Nat) (stream : Fin 8) (keySet : Bool) (s : State) : Host.Outcome State Fault Refusal :=
  .next (Machine.kSetStop p session stream.val keySet s)

/-- IDE_INTEGRITY_FAILURE (R457). -/
def execIdeIntegrityFailure (p : Side) (stream : Fin 8) (s : State) : Host.Outcome State Fault Refusal :=
  .next (ideFailure p stream s)

/-- LOCK_INTERFACE (R458). -/
def execLockInterface (p : Side) (session : Nat) (vf : Fin 128) (stream : Fin 8) (s : State) : Host.Outcome State Fault Refusal :=
  .next (Machine.lockInterface p session vf.val stream.val s)

/-- START_INTERFACE (R458). -/
def execStartInterface (p : Side) (session : Nat) (vf : Fin 128) (s : State) : Host.Outcome State Fault Refusal :=
  .next (Machine.startInterface p session vf.val s)

/-- STOP_INTERFACE (R458). -/
def execStopInterface (p : Side) (session : Nat) (vf : Fin 128) (s : State) : Host.Outcome State Fault Refusal :=
  .next (Machine.stopInterface p session vf.val s)

/-- DEVICE_INTERFACE_REPORT (R461). -/
def execDeviceInterfaceReport (p : Side) (session : Nat) (vf : Fin 128) (s : State) : Host.Outcome State Fault Refusal :=
  .next (interfaceReport p session vf.val s)

/-- TDI_VIOLATION (R460). -/
def execTdiViolation (p : Side) (vf : Fin 128) (space : Fin 4) (offset : Nat) (s : State) : Host.Outcome State Fault Refusal :=
  .next (Machine.tdiViolation p vf space offset s)

/-- LOG_READ (R464). -/
def execLogRead (req : MgtReq) (index count : Nat) (s : State) : Host.Outcome State Fault Refusal :=
  .next (Machine.logRead (.logRead req index count) req index count s)

/-- SENSOR_READ (R464). -/
def execSensorRead (req : MgtReq) (s : State) : Host.Outcome State Fault Refusal :=
  .next (Machine.sensorRead (.sensorRead req) req s)

/-- FLASH_ERASE (R464). -/
def execFlashErase (req : MgtReq) (offset count : Nat) (s : State) : Host.Outcome State Fault Refusal :=
  .next (Machine.flashErase (.flashErase req offset count) req offset count s)

/-- FLASH_WRITE (R464). -/
def execFlashWrite (req : MgtReq) (offset : Nat) (data : List Byte) (s : State) : Host.Outcome State Fault Refusal :=
  .next (flashProgram (.flashWrite req offset data) req offset data s)

/-- FLASH_READ (R464). -/
def execFlashRead (req : MgtReq) (offset len : Nat) (s : State) : Host.Outcome State Fault Refusal :=
  .next (flashFetch (.flashRead req offset len) req offset len s)

/-- FW_LOAD (R453). -/
def execFwLoad (req : MgtReq) (t : Side) (s : State) : Host.Outcome State Fault Refusal :=
  .next (Machine.fwLoad (.fwLoad req t) req t s)

/-- FW_RESTORE (R469). -/
def execFwRestore (req : MgtReq) (t : Side) (s : State) : Host.Outcome State Fault Refusal :=
  .next (Machine.fwRestore (.fwRestore req t) req t s)

/-- DEBUG_READ (R462). -/
def execDebugRead (req : MgtReq) (addr len : Nat) (s : State) : Host.Outcome State Fault Refusal :=
  .next (Machine.debugRead (.debugRead req addr len) req addr len s)

/-- DEBUG_WRITE (R462). -/
def execDebugWrite (req : MgtReq) (addr : Nat) (data : List Byte) (s : State) : Host.Outcome State Fault Refusal :=
  .next (Machine.debugWrite (.debugWrite req addr data) req addr data s)

/-- CC_HALT (R462). -/
def execCcHalt (req : MgtReq) (t : Side) (core : Fin 8) (act : CcAct) (s : State) : Host.Outcome State Fault Refusal :=
  .next (Machine.ccHalt (.ccHalt req t core act) req t core.val act s)

/-- CRED_SET (R465). -/
def execCredSet (req : MgtReq) (slot : Fin 8) (hash : List Byte) (roles : Nat) (s : State) : Host.Outcome State Fault Refusal :=
  .next (Machine.credSet (.credSet req slot hash roles) req slot.val hash roles s)

/-- CRED_LOCK (R465). -/
def execCredLock (req : MgtReq) (s : State) : Host.Outcome State Fault Refusal := .next (Machine.credLock (.credLock req) req s)

/-- SVN_RAISE (R464). -/
def execSvnRaise (req : MgtReq) (svn : Nat) (s : State) : Host.Outcome State Fault Refusal :=
  .next (Machine.svnRaise (.svnRaise req svn) req svn s)

/-- MEAS_EXTEND (R452). -/
def execMeasExtend (req : MgtReq) (slot : Nat) (digest : List Byte) (s : State) : Host.Outcome State Fault Refusal :=
  .next (Machine.measExtend (.measExtend req slot digest) req slot digest s)

/-- SENSOR_SAMPLE (R466). -/
def execSensorSample (values : List Nat) (s : State) : Host.Outcome State Fault Refusal := .next (Machine.sensorSample values s)

/-- LOG_MIRROR_WRITE (R468). -/
def execLogMirrorWrite (s : State) : Host.Outcome State Fault Refusal := .next (Machine.logMirrorWrite s)

/-- IMAGE_REGION_WRITE_DONE (R464). -/
def execImageRegionWriteDone (s : State) : Host.Outcome State Fault Refusal := .next (imageWriteDone s)

end Sys2Proof.Machine
end

