-- ==== Sys2Proof/Machine/XltCommands.lean ====
section
/-! DEFINITION. Translation events as commands (06). -/

namespace Sys2Proof.Machine

/-- WALK_COMPLETE (R203). -/
def execWalkComplete (ctx queue cva : Nat) (access : Access) (s : State) : Host.Outcome State Fault Refusal :=
  .next (walkComplete ctx queue cva access s)

/-- ATS_TRANSLATION_COMPLETION (R211). -/
def execAtsTranslationCompletion (p : Side) (tag : Nat) (result : AtsResult) (s : State) : Host.Outcome State Fault Refusal :=
  .next (atsCompletion p tag result s)

/-- ATS_INVALIDATION_REQUEST (R212). -/
def execAtsInvalidationRequest (p : Side) (f : Fin 128) (itag : Nat) (pasid : Option Nat) (addr size : Nat) (s : State) : Host.Outcome State Fault Refusal :=
  .next (atsInvalidate p f.val itag pasid addr size s)

/-- ATS_INVALIDATION_COMPLETION (R212). -/
def execAtsInvalidationCompletion (p : Side) (f : Fin 128) (itag : Nat) (s : State) : Host.Outcome State Fault Refusal :=
  .next (atsInvDone p f.val itag s)

/-- PRG_RESPONSE (R223). -/
def execPrgResponse (p : Side) (f : Fin 128) (index gen : Nat) (code : PrgCode) (s : State) : Host.Outcome State Fault Refusal :=
  .next (Machine.prgResponse (.prgResponse p f index gen code) p f.val index gen code s)

/-- PRI_TIMEOUT (R223). -/
def execPriTimeout (p : Side) (index : Nat) (s : State) : Host.Outcome State Fault Refusal := .next (Machine.priTimeout p index s)

/-- STALL_LIMIT (R219). -/
def execStallLimit (p : Side) (f : Fin 128) (id : Nat) (s : State) : Host.Outcome State Fault Refusal :=
  .next (Machine.stallLimit p f.val id s)

end Sys2Proof.Machine
end

