-- ==== Sys2Proof/Machine/Dispatch.lean ====
section
/-! DEFINITION. The dispatcher: one arm for each command, each a direct call of its meaning. -/

namespace Sys2Proof.Machine

def exec (i : Instr) (s : State) : Host.Outcome State Fault Refusal :=
  match i with
  | .powerUp xstart => Sys2Proof.Machine.execPowerUp xstart s
  | .ioscTrim => Sys2Proof.Machine.execIoscTrim s
  | .xtalCheck count => Sys2Proof.Machine.execXtalCheck count s
  | .pllLocked => Sys2Proof.Machine.execPllLocked s
  | .sharedMbistDone sig => Sys2Proof.Machine.execSharedMbistDone sig s
  | .imageLoadDone t => Sys2Proof.Machine.execImageLoadDone t s
  | .imageRemeasureDone t => Sys2Proof.Machine.execImageRemeasureDone t s
  | .selftestDone t mbist lbist => Sys2Proof.Machine.execSelftestDone t mbist lbist s
  | .twinResetRelease t => Sys2Proof.Machine.execTwinResetRelease t s
  | .tickBoundary missA missB => Sys2Proof.Machine.execTickBoundary missA missB s
  | .throttleRequest input => Sys2Proof.Machine.execThrottleRequest input s
  | .detachForced => Sys2Proof.Machine.execDetachForced s
  | .discoveryPhaseEnd => Sys2Proof.Machine.execDiscoveryPhaseEnd s
  | .ceWindowStart engine entry => Sys2Proof.Machine.execCeWindowStart engine entry s
  | .walkComplete ctx queue cva access => Sys2Proof.Machine.execWalkComplete ctx queue cva access s
  | .atsTranslationCompletion p tag result => Sys2Proof.Machine.execAtsTranslationCompletion p tag result s
  | .atsInvalidationRequest p f itag pasid addr size => Sys2Proof.Machine.execAtsInvalidationRequest p f itag pasid addr size s
  | .atsInvalidationCompletion p f itag => Sys2Proof.Machine.execAtsInvalidationCompletion p f itag s
  | .prgResponse p f index gen code => Sys2Proof.Machine.execPrgResponse p f index gen code s
  | .priTimeout p index => Sys2Proof.Machine.execPriTimeout p index s
  | .stallLimit p f id => Sys2Proof.Machine.execStallLimit p f id s
  | .faultRespRetry path value => Sys2Proof.Machine.execFaultRespRetry path value s
  | .faultRespFail path value => Sys2Proof.Machine.execFaultRespFail path value s
  | .xltProbe path value => Sys2Proof.Machine.execXltProbe path value s
  | .fringProgram path value => Sys2Proof.Machine.execFringProgram path value s
  | .doorbell path offset width value poisoned => Sys2Proof.Machine.execDoorbell path offset width value poisoned s
  | .slotFetch tag bytes poisoned => Sys2Proof.Machine.execSlotFetch tag bytes poisoned s
  | .predicateReadComplete tag word poisoned => Sys2Proof.Machine.execPredicateReadComplete tag word poisoned s
  | .commandComplete queue => Sys2Proof.Machine.execCommandComplete queue s
  | .nop ref => Sys2Proof.Machine.execNop ref s
  | .fenceSignal ref => Sys2Proof.Machine.execFenceSignal ref s
  | .fenceWait ref => Sys2Proof.Machine.execFenceWait ref s
  | .writeInline ref => Sys2Proof.Machine.execWriteInline ref s
  | .barrier ref => Sys2Proof.Machine.execBarrier ref s
  | .copy ref => Sys2Proof.Machine.execCopy ref s
  | .copy2d ref => Sys2Proof.Machine.execCopy2d ref s
  | .gather ref => Sys2Proof.Machine.execGather ref s
  | .scatter ref => Sys2Proof.Machine.execScatter ref s
  | .fill ref => Sys2Proof.Machine.execFill ref s
  | .quantize ref => Sys2Proof.Machine.execQuantize ref s
  | .dequantize ref => Sys2Proof.Machine.execDequantize ref s
  | .accumulate ref => Sys2Proof.Machine.execAccumulate ref s
  | .compact ref => Sys2Proof.Machine.execCompact ref s
  | .expand ref => Sys2Proof.Machine.execExpand ref s
  | .dispatch ref => Sys2Proof.Machine.execDispatch ref s
  | .combine ref => Sys2Proof.Machine.execCombine ref s
  | .allreduce ref => Sys2Proof.Machine.execAllreduce ref s
  | .reduceScatter ref => Sys2Proof.Machine.execReduceScatter ref s
  | .allgather ref => Sys2Proof.Machine.execAllgather ref s
  | .alltoall ref => Sys2Proof.Machine.execAlltoall ref s
  | .broadcast ref => Sys2Proof.Machine.execBroadcast ref s
  | .collectiveBarrier ref => Sys2Proof.Machine.execCollectiveBarrier ref s
  | .collTimeout ref => Sys2Proof.Machine.execCollTimeout ref s
  | .map ref => Sys2Proof.Machine.execMap ref s
  | .unmap ref => Sys2Proof.Machine.execUnmap ref s
  | .invalidate ref => Sys2Proof.Machine.execInvalidate ref s
  | .coreInvalidateDone tag => Sys2Proof.Machine.execCoreInvalidateDone tag s
  | .launch ref => Sys2Proof.Machine.execLaunch ref s
  | .launchAnswer ref gen code => Sys2Proof.Machine.execLaunchAnswer ref gen code s
  | .open_ ref => Sys2Proof.Machine.execOpen ref s
  | .start ref => Sys2Proof.Machine.execStart ref s
  | .park ref => Sys2Proof.Machine.execPark ref s
  | .resume ref => Sys2Proof.Machine.execResume ref s
  | .setHome ref => Sys2Proof.Machine.execSetHome ref s
  | .close ref => Sys2Proof.Machine.execClose ref s
  | .kill ref => Sys2Proof.Machine.execKill ref s
  | .drainLimit ctx => Sys2Proof.Machine.execDrainLimit ctx s
  | .qCreate ref => Sys2Proof.Machine.execQCreate ref s
  | .qPark ref => Sys2Proof.Machine.execQPark ref s
  | .qResume ref => Sys2Proof.Machine.execQResume ref s
  | .qStop ref => Sys2Proof.Machine.execQStop ref s
  | .qDestroy ref => Sys2Proof.Machine.execQDestroy ref s
  | .objCreate ref => Sys2Proof.Machine.execObjCreate ref s
  | .objFree ref => Sys2Proof.Machine.execObjFree ref s
  | .objectFreed obj => Sys2Proof.Machine.execObjectFreed obj s
  | .fenceAlloc ref => Sys2Proof.Machine.execFenceAlloc ref s
  | .fenceReset ref => Sys2Proof.Machine.execFenceReset ref s
  | .fenceFree ref => Sys2Proof.Machine.execFenceFree ref s
  | .stage ref => Sys2Proof.Machine.execStage ref s
  | .planUnitAck slot unit => Sys2Proof.Machine.execPlanUnitAck slot unit s
  | .planLoadTimeout slot => Sys2Proof.Machine.execPlanLoadTimeout slot s
  | .commit ref => Sys2Proof.Machine.execCommit ref s
  | .planStagingCheck => Sys2Proof.Machine.execPlanStagingCheck s
  | .planGroupDecision note => Sys2Proof.Machine.execPlanGroupDecision note s
  | .planDecisionMissed => Sys2Proof.Machine.execPlanDecisionMissed s
  | .withdraw ref => Sys2Proof.Machine.execWithdraw ref s
  | .release ref => Sys2Proof.Machine.execRelease ref s
  | .selftest ref => Sys2Proof.Machine.execSelftest ref s
  | .abort ref => Sys2Proof.Machine.execAbort ref s
  | .intentNoticeAck ref => Sys2Proof.Machine.execIntentNoticeAck ref s
  | .linkDown p us => Sys2Proof.Machine.execLinkDown p us s
  | .linkTrainingComplete p speed width flit cxl => Sys2Proof.Machine.execLinkTrainingComplete p speed width flit cxl s
  | .holdWindowExpiry p => Sys2Proof.Machine.execHoldWindowExpiry p s
  | .portReset p => Sys2Proof.Machine.execPortReset p s
  | .flr p f => Sys2Proof.Machine.execFlr p f s
  | .flrComplete p f => Sys2Proof.Machine.execFlrComplete p f s
  | .vfEnableClear p => Sys2Proof.Machine.execVfEnableClear p s
  | .d3hotEntry p f => Sys2Proof.Machine.execD3hotEntry p f s
  | .d0Return p f => Sys2Proof.Machine.execD0Return p f s
  | .busMasterEnableClear p f => Sys2Proof.Machine.execBusMasterEnableClear p f s
  | .inboundBar4Request p reqId addr kind => Sys2Proof.Machine.execInboundBar4Request p reqId addr kind s
  | .hostCompletion p tag status data poisoned => Sys2Proof.Machine.execHostCompletion p tag status data poisoned s
  | .hostCompletionTimeout p tag => Sys2Proof.Machine.execHostCompletionTimeout p tag s
  | .flushReadComplete p cpl => Sys2Proof.Machine.execFlushReadComplete p cpl s
  | .flushReadTimeout p => Sys2Proof.Machine.execFlushReadTimeout p s
  | .placeCommit path value => Sys2Proof.Machine.execPlaceCommit path value s
  | .placeClear path value => Sys2Proof.Machine.execPlaceClear path value s
  | .journalStatusClear path value => Sys2Proof.Machine.execJournalStatusClear path value s
  | .objQuerySelect path value => Sys2Proof.Machine.execObjQuerySelect path value s
  | .xltPartCommit path value => Sys2Proof.Machine.execXltPartCommit path value s
  | .xltStatusClear path value => Sys2Proof.Machine.execXltStatusClear path value s
  | .staleGenClear path value => Sys2Proof.Machine.execStaleGenClear path value s
  | .ceCountClear path value => Sys2Proof.Machine.execCeCountClear path value s
  | .planEpochClear path value => Sys2Proof.Machine.execPlanEpochClear path value s
  | .regErrClear path value => Sys2Proof.Machine.execRegErrClear path value s
  | .dipClear path value => Sys2Proof.Machine.execDipClear path value s
  | .cohCountClear path value => Sys2Proof.Machine.execCohCountClear path value s
  | .cohCount1Clear path value => Sys2Proof.Machine.execCohCount1Clear path value s
  | .fabCountClear path value => Sys2Proof.Machine.execFabCountClear path value s
  | .registerWrite path offset value poisoned => Sys2Proof.Machine.execRegisterWrite path offset value poisoned s
  | .bar0BadAccess path offset width isWrite => Sys2Proof.Machine.execBar0BadAccess path offset width isWrite s
  | .eventRaised us => Sys2Proof.Machine.execEventRaised us s
  | .moderationRelease f v us => Sys2Proof.Machine.execModerationRelease f v us s
  | .vectorDelivery f v us => Sys2Proof.Machine.execVectorDelivery f v us s
  | .irqAck path value => Sys2Proof.Machine.execIrqAck path value s
  | .irqIdle path value => Sys2Proof.Machine.execIrqIdle path value s
  | .irqDisableWrite path value => Sys2Proof.Machine.execIrqDisableWrite path value s
  | .irqRouteCommit path value => Sys2Proof.Machine.execIrqRouteCommit path value s
  | .standbyRequest path value => Sys2Proof.Machine.execStandbyRequest path value s
  | .wakeSourceFire sources => Sys2Proof.Machine.execWakeSourceFire sources s
  | .faultOccurrence t source ctx code detail => Sys2Proof.Machine.execFaultOccurrence t source ctx code detail s
  | .graceTimerExpiry t => Sys2Proof.Machine.execGraceTimerExpiry t s
  | .fltAck path value => Sys2Proof.Machine.execFltAck path value s
  | .safeState t => Sys2Proof.Machine.execSafeState t s
  | .detach path value => Sys2Proof.Machine.execDetach path value s
  | .detachWithdraw path value => Sys2Proof.Machine.execDetachWithdraw path value s
  | .twinReturn path value => Sys2Proof.Machine.execTwinReturn path value s
  | .clearOos req path value => Sys2Proof.Machine.execClearOos req path value s
  | .cdReset path value => Sys2Proof.Machine.execCdReset path value s
  | .cdReturn path value => Sys2Proof.Machine.execCdReturn path value s
  | .sampleReturn cd core gen data => Sys2Proof.Machine.execSampleReturn cd core gen data s
  | .sampleTimeout cd core => Sys2Proof.Machine.execSampleTimeout cd core s
  | .sampleDataRead path => Sys2Proof.Machine.execSampleDataRead path s
  | .pwrwarnAssert us => Sys2Proof.Machine.execPwrwarnAssert us s
  | .pwrwarnClear us => Sys2Proof.Machine.execPwrwarnClear us s
  | .powerFailReset => Sys2Proof.Machine.execPowerFailReset s
  | .clockSourceWrite path value => Sys2Proof.Machine.execClockSourceWrite path value s
  | .clkStatusRead path => Sys2Proof.Machine.execClkStatusRead path s
  | .clockGateWrite path value => Sys2Proof.Machine.execClockGateWrite path value s
  | .pllLossOfLock pll => Sys2Proof.Machine.execPllLossOfLock pll s
  | .xtalLost => Sys2Proof.Machine.execXtalLost s
  | .fcntGo path value => Sys2Proof.Machine.execFcntGo path value s
  | .fcntDone count => Sys2Proof.Machine.execFcntDone count s
  | .fcntTimeout count => Sys2Proof.Machine.execFcntTimeout count s
  | .bistGo path value => Sys2Proof.Machine.execBistGo path value s
  | .hello link serial peerLink pin best dist answer => Sys2Proof.Machine.execHello link serial peerLink pin best dist answer s
  | .probe link roundTrip => Sys2Proof.Machine.execProbe link roundTrip s
  | .census link nodes => Sys2Proof.Machine.execCensus link nodes s
  | .fabricMapPacket link map => Sys2Proof.Machine.execFabricMapPacket link map s
  | .beacon link number offset => Sys2Proof.Machine.execBeacon link number offset s
  | .beaconLoss => Sys2Proof.Machine.execBeaconLoss s
  | .fabricJoin link device root number => Sys2Proof.Machine.execFabricJoin link device root number s
  | .global_ link src msg => Sys2Proof.Machine.execGlobal link src msg s
  | .fabricLinkDown link => Sys2Proof.Machine.execFabricLinkDown link s
  | .fabricLinkUp link => Sys2Proof.Machine.execFabricLinkUp link s
  | .write h data marks => Sys2Proof.Machine.execWrite h data marks s
  | .read h len => Sys2Proof.Machine.execRead h len s
  | .rdata h data marks => Sys2Proof.Machine.execRdata h data marks s
  | .nak h code => Sys2Proof.Machine.execNak h code s
  | .ack h valid upTo => Sys2Proof.Machine.execAck h valid upTo s
  | .ackTimeout dev => Sys2Proof.Machine.execAckTimeout dev s
  | .fixedDelayDelivery us => Sys2Proof.Machine.execFixedDelayDelivery us s
  | .pathfence h previous => Sys2Proof.Machine.execPathfence h previous s
  | .pfack h valid counts => Sys2Proof.Machine.execPfack h valid counts s
  | .fenceUpd h value state code scope => Sys2Proof.Machine.execFenceUpd h value state code scope s
  | .inval h clusters ranges => Sys2Proof.Machine.execInval h clusters ranges s
  | .invalDone h => Sys2Proof.Machine.execInvalDone h s
  | .grantCommit path value => Sys2Proof.Machine.execGrantCommit path value s
  | .grantClear path value => Sys2Proof.Machine.execGrantClear path value s
  | .grantOffer h base size rights ctx fence => Sys2Proof.Machine.execGrantOffer h base size rights ctx fence s
  | .grantRevoke h => Sys2Proof.Machine.execGrantRevoke h s
  | .proxyBind path value => Sys2Proof.Machine.execProxyBind path value s
  | .proxyUnbind path value => Sys2Proof.Machine.execProxyUnbind path value s
  | .groupCommit path value => Sys2Proof.Machine.execGroupCommit path value s
  | .groupClear path value => Sys2Proof.Machine.execGroupClear path value s
  | .groupDigestAnswer h group agree => Sys2Proof.Machine.execGroupDigestAnswer h group agree s
  | .groupAgreeTimeout group => Sys2Proof.Machine.execGroupAgreeTimeout group s
  | .routeCommit path value => Sys2Proof.Machine.execRouteCommit path value s
  | .repin path value => Sys2Proof.Machine.execRepin path value s
  | .globalSnapshot path value => Sys2Proof.Machine.execGlobalSnapshot path value s
  | .globalReset path value => Sys2Proof.Machine.execGlobalReset path value s
  | .collData h group tag rank chunk dir data => Sys2Proof.Machine.execCollData h group tag rank chunk dir data s
  | .collCtl h group tag rank msg => Sys2Proof.Machine.execCollCtl h group tag rank msg s
  | .cohDomainCommit path value => Sys2Proof.Machine.execCohDomainCommit path value s
  | .cohPartCommit path value => Sys2Proof.Machine.execCohPartCommit path value s
  | .cohDirProbe path value => Sys2Proof.Machine.execCohDirProbe path value s
  | .agentRead agent ctx home line => Sys2Proof.Machine.execAgentRead agent ctx home line s
  | .agentWrite agent ctx home line offset data => Sys2Proof.Machine.execAgentWrite agent ctx home line offset data s
  | .agentEvict agent ctx home line => Sys2Proof.Machine.execAgentEvict agent ctx home line s
  | .winHoldExpiry agent home line => Sys2Proof.Machine.execWinHoldExpiry agent home line s
  | .rds via src line => Sys2Proof.Machine.execRds via src line s
  | .rdx via src line => Sys2Proof.Machine.execRdx via src line s
  | .upg via src line => Sys2Proof.Machine.execUpg via src line s
  | .puts via src line => Sys2Proof.Machine.execPuts via src line s
  | .pute via src line => Sys2Proof.Machine.execPute via src line s
  | .puto via src line data marks => Sys2Proof.Machine.execPuto via src line data marks s
  | .putm via src line data marks => Sys2Proof.Machine.execPutm via src line data marks s
  | .fwds via agent home line req owner => Sys2Proof.Machine.execFwds via agent home line req owner s
  | .fwdx via agent home line req owner => Sys2Proof.Machine.execFwdx via agent home line req owner s
  | .inv via agent home line => Sys2Proof.Machine.execInv via agent home line s
  | .snpcur via agent home line => Sys2Proof.Machine.execSnpcur via agent home line s
  | .snprecall via agent home line => Sys2Proof.Machine.execSnprecall via agent home line s
  | .datas via agent home line data marks done => Sys2Proof.Machine.execDatas via agent home line data marks done s
  | .datae via agent home line data marks done => Sys2Proof.Machine.execDatae via agent home line data marks done s
  | .datao via agent home line data marks done => Sys2Proof.Machine.execDatao via agent home line data marks done s
  | .datam via agent home line data marks done => Sys2Proof.Machine.execDatam via agent home line data marks done s
  | .upgack via agent home line => Sys2Proof.Machine.execUpgack via agent home line s
  | .grant via agent home line => Sys2Proof.Machine.execGrant via agent home line s
  | .ackdone via agent home line => Sys2Proof.Machine.execAckdone via agent home line s
  | .invack via src line late => Sys2Proof.Machine.execInvack via src line late s
  | .fwddone via src line req kind late => Sys2Proof.Machine.execFwddone via src line req kind late s
  | .snprsp via src line data marks keep late => Sys2Proof.Machine.execSnprsp via src line data marks keep late s
  | .miss via src line star late => Sys2Proof.Machine.execMiss via src line star late s
  | .putack via agent home line => Sys2Proof.Machine.execPutack via agent home line s
  | .staleputack via agent home line => Sys2Proof.Machine.execStaleputack via agent home line s
  | .fwddoneack via agent home line => Sys2Proof.Machine.execFwddoneack via agent home line s
  | .blockingOpStart line => Sys2Proof.Machine.execBlockingOpStart line s
  | .regRead req side offset => Sys2Proof.Machine.execRegRead req side offset s
  | .regWrite req side offset value => Sys2Proof.Machine.execRegWrite req side offset value s
  | .logRead req index count => Sys2Proof.Machine.execLogRead req index count s
  | .sensorRead req => Sys2Proof.Machine.execSensorRead req s
  | .flashErase req offset count => Sys2Proof.Machine.execFlashErase req offset count s
  | .flashWrite req offset data => Sys2Proof.Machine.execFlashWrite req offset data s
  | .flashRead req offset len => Sys2Proof.Machine.execFlashRead req offset len s
  | .fwLoad req t => Sys2Proof.Machine.execFwLoad req t s
  | .fwRestore req t => Sys2Proof.Machine.execFwRestore req t s
  | .debugRead req addr len => Sys2Proof.Machine.execDebugRead req addr len s
  | .debugWrite req addr data => Sys2Proof.Machine.execDebugWrite req addr data s
  | .ccHalt req t core act => Sys2Proof.Machine.execCcHalt req t core act s
  | .credSet req slot hash roles => Sys2Proof.Machine.execCredSet req slot hash roles s
  | .credLock req => Sys2Proof.Machine.execCredLock req s
  | .svnRaise req svn => Sys2Proof.Machine.execSvnRaise req svn s
  | .measExtend req slot digest => Sys2Proof.Machine.execMeasExtend req slot digest s
  | .groupDigestReceipt h group digest => Sys2Proof.Machine.execGroupDigestReceipt h group digest s
  | .homeTimeout agent => Sys2Proof.Machine.execHomeTimeout agent s
  | .rlcHomeTimeout home => Sys2Proof.Machine.execRlcHomeTimeout home s
  | .memrd p decoder addr m => Sys2Proof.Machine.execMemrd p decoder addr m s
  | .memrddata p decoder addr m => Sys2Proof.Machine.execMemrddata p decoder addr m s
  | .meminv p decoder addr m => Sys2Proof.Machine.execMeminv p decoder addr m s
  | .memclnevct p decoder addr => Sys2Proof.Machine.execMemclnevct p decoder addr s
  | .memwr p decoder addr m data poisoned => Sys2Proof.Machine.execMemwr p decoder addr m data poisoned s
  | .biconflict p decoder addr => Sys2Proof.Machine.execBiconflict p decoder addr s
  | .birsp p decoder addr rsp => Sys2Proof.Machine.execBirsp p decoder addr rsp s
  | .getVersion path => Sys2Proof.Machine.execGetVersion path s
  | .getCapabilities path => Sys2Proof.Machine.execGetCapabilities path s
  | .negotiateAlgorithms path asked => Sys2Proof.Machine.execNegotiateAlgorithms path asked s
  | .getDigests path => Sys2Proof.Machine.execGetDigests path s
  | .getCertificate path slot offset len => Sys2Proof.Machine.execGetCertificate path slot offset len s
  | .challenge path slot nonce => Sys2Proof.Machine.execChallenge path slot nonce s
  | .getMeasurements path session index nonce => Sys2Proof.Machine.execGetMeasurements path session index nonce s
  | .keyExchange path slot withAuth exchange => Sys2Proof.Machine.execKeyExchange path slot withAuth exchange s
  | .finish path session key => Sys2Proof.Machine.execFinish path session key s
  | .heartbeat path session => Sys2Proof.Machine.execHeartbeat path session s
  | .keyUpdate path session => Sys2Proof.Machine.execKeyUpdate path session s
  | .endSession path session => Sys2Proof.Machine.execEndSession path session s
  | .spdmUnsupportedRequest path code => Sys2Proof.Machine.execSpdmUnsupportedRequest path code s
  | .keyProg p session stream keySet => Sys2Proof.Machine.execKeyProg p session stream keySet s
  | .kSetGo p session stream keySet => Sys2Proof.Machine.execKSetGo p session stream keySet s
  | .kSetStop p session stream keySet => Sys2Proof.Machine.execKSetStop p session stream keySet s
  | .ideIntegrityFailure p stream => Sys2Proof.Machine.execIdeIntegrityFailure p stream s
  | .lockInterface p session vf stream => Sys2Proof.Machine.execLockInterface p session vf stream s
  | .startInterface p session vf => Sys2Proof.Machine.execStartInterface p session vf s
  | .stopInterface p session vf => Sys2Proof.Machine.execStopInterface p session vf s
  | .deviceInterfaceReport p session vf => Sys2Proof.Machine.execDeviceInterfaceReport p session vf s
  | .tdiViolation p vf space offset => Sys2Proof.Machine.execTdiViolation p vf space offset s
  | .sensorSample values => Sys2Proof.Machine.execSensorSample values s
  | .logMirrorWrite => Sys2Proof.Machine.execLogMirrorWrite s
  | .configurationRequest p f cfg => Sys2Proof.Machine.execConfigurationRequest p f cfg s
  | .imageRegionWriteDone => Sys2Proof.Machine.execImageRegionWriteDone s
  | .linkReportedUp link peerDev peerLink => Sys2Proof.Machine.execLinkReportedUp link peerDev peerLink s

end Sys2Proof.Machine
end

