-- ==== Sys2Proof/Safety.lean ====
section
/-! DEFINITION. The words that claims use: a safe answer, what a command leads to, the parts of State and what each row may
change, a command of a ring that may begin, and the invariants. -/

namespace Sys2Proof

/-- A step answers a next state. -/
def Safe (o : Host.Outcome Machine.State Machine.Fault Machine.Refusal) : Prop := ∃ t, o = .next t

namespace Machine

/-- A command leads a state to a next state, of which P holds. -/
def Goes (c : Instr) (s : State) (P : State → Prop) : Prop := ∃ t, exec c s = .next t ∧ P t

/-! ### The parts of State -/

/-- The parts of State beside the queue of commands. -/
inductive Part where
  /-- the order point and the tick -/
  | time
  /-- the twins -/
  | twins
  /-- contexts -/
  | ctxs
  /-- queues -/
  | queues
  /-- fences -/
  | fences
  /-- memory objects -/
  | objs
  /-- translation -/
  | xlt
  /-- host ports -/
  | ports
  /-- functions -/
  | funcs
  /-- interrupts and wake -/
  | irq
  /-- plans -/
  | plan
  /-- copy-engine registers -/
  | engines
  /-- resets and supply -/
  | rst
  /-- clocks and start-up -/
  | clk
  /-- trust and management -/
  | mgt
  /-- coherent windows -/
  | coh
  /-- the fabric -/
  | fab
  /-- device memory and its marks -/
  | mem
  /-- selectors and staging -/
  | sels
  /-- what is sent -/
  | out
  /-- the number of the next free value -/
  | freeCtr
  deriving DecidableEq, Repr

/-- Two states agree on the queue of commands and on every part that is not named. -/
structure Same (but : List Part) (s t : State) : Prop where
  pending : t.pending = s.pending
  time : Part.time ∉ but → t.time = s.time
  twins : Part.twins ∉ but → t.twins = s.twins
  ctxs : Part.ctxs ∉ but → t.ctxs = s.ctxs
  queues : Part.queues ∉ but → t.queues = s.queues
  fences : Part.fences ∉ but → t.fences = s.fences
  objs : Part.objs ∉ but → t.objs = s.objs
  xlt : Part.xlt ∉ but → t.xlt = s.xlt
  ports : Part.ports ∉ but → t.ports = s.ports
  funcs : Part.funcs ∉ but → t.funcs = s.funcs
  irq : Part.irq ∉ but → t.irq = s.irq
  plan : Part.plan ∉ but → t.plan = s.plan
  engines : Part.engines ∉ but → t.engines = s.engines
  rst : Part.rst ∉ but → t.rst = s.rst
  clk : Part.clk ∉ but → t.clk = s.clk
  mgt : Part.mgt ∉ but → t.mgt = s.mgt
  coh : Part.coh ∉ but → t.coh = s.coh
  fab : Part.fab ∉ but → t.fab = s.fab
  mem : Part.mem ∉ but → t.mem = s.mem
  sels : Part.sels ∉ but → t.sels = s.sels
  out : Part.out ∉ but → t.out = s.out
  freeCtr : Part.freeCtr ∉ but → t.freeCtr = s.freeCtr

/-- The parts of State that a row can change: no rule of the row reaches another. -/
def touches : Instr → List Part
  | .ioscTrim .. | .xtalCheck .. | .sharedMbistDone .. | .fcntDone .. | .fcntTimeout .. =>
    [.clk]
  | .throttleRequest .. =>
    [.plan]
  | .detachForced .. | .sampleReturn .. | .sampleTimeout .. =>
    [.rst]
  | .atsInvalidationRequest .. =>
    [.xlt]
  | .linkDown .. =>
    [.ports]
  | .flrComplete .. =>
    [.funcs]
  | .probe .. | .linkReportedUp .. =>
    [.fab]
  | .getVersion .. | .getCapabilities .. | .negotiateAlgorithms .. | .getDigests .. | .getCertificate ..
  | .challenge .. | .getMeasurements .. | .heartbeat .. | .spdmUnsupportedRequest .. | .deviceInterfaceReport .. =>
    [.out]
  | .logMirrorWrite .. =>
    [.mgt]
  | .powerUp .. =>
    [.rst, .clk]
  | .twinResetRelease .. =>
    [.twins, .rst]
  | .atsInvalidationCompletion .. =>
    [.xlt, .out]
  | .priTimeout .. | .stallLimit .. =>
    [.queues, .xlt]
  | .launchAnswer .. =>
    [.queues, .rst]
  | .drainLimit .. =>
    [.time, .ctxs]
  | .objectFreed .. =>
    [.objs, .xlt]
  | .planUnitAck .. | .planLoadTimeout .. =>
    [.queues, .plan]
  | .planStagingCheck .. | .planGroupDecision .. =>
    [.plan, .out]
  | .intentNoticeAck .. =>
    [.queues, .out]
  | .d3hotEntry .. | .busMasterEnableClear .. =>
    [.funcs, .out]
  | .flushReadComplete .. =>
    [.ports, .rst]
  | .flushReadTimeout .. =>
    [.ports, .funcs]
  | .pllLossOfLock .. | .xtalLost .. =>
    [.twins, .clk]
  | .hello .. | .groupAgreeTimeout .. =>
    [.fab, .out]
  | .rlcHomeTimeout .. =>
    [.coh, .out]
  | .keyExchange .. | .finish .. | .keyUpdate .. | .endSession .. | .imageRegionWriteDone .. =>
    [.mgt, .out]
  | .keyProg .. | .kSetGo .. | .kSetStop .. =>
    [.ports, .out]
  | .pllLocked .. =>
    [.twins, .clk, .mgt]
  | .collTimeout .. =>
    [.queues, .fab, .out]
  | .wakeSourceFire .. =>
    [.twins, .irq, .clk]
  | .agentRead .. | .agentWrite .. | .agentEvict .. | .winHoldExpiry .. =>
    [.coh, .fab, .out]
  | .logRead .. | .sensorRead .. | .flashErase .. | .flashWrite .. | .flashRead .. | .fwRestore .. | .credSet ..
  | .credLock .. | .svnRaise .. | .measExtend .. =>
    [.time, .mgt, .out]
  | .lockInterface .. | .startInterface .. =>
    [.ports, .mgt, .out]
  | .sensorSample .. =>
    [.irq, .rst, .mgt]
  | .configurationRequest .. =>
    [.ports, .funcs, .out]
  | .nop .. | .fenceSignal .. | .fenceWait .. | .barrier .. | .copy .. | .copy2d .. | .gather .. | .scatter ..
  | .fill .. | .quantize .. | .dequantize .. | .accumulate .. | .compact .. | .expand .. | .dispatch .. | .combine ..
  | .launch .. =>
    [.queues, .ports, .plan, .out]
  | .coreInvalidateDone .. =>
    [.queues, .rst, .fab, .out]
  | .eventRaised .. | .moderationRelease .. | .vectorDelivery .. =>
    [.time, .ports, .irq, .out]
  | .pwrwarnClear .. =>
    [.time, .irq, .rst, .mgt]
  | .beacon .. =>
    [.irq, .rst, .mgt, .fab]
  | .fabricJoin .. =>
    [.time, .rst, .coh, .fab]
  | .global_ .. =>
    [.time, .funcs, .fab, .out]
  | .fwLoad .. =>
    [.time, .twins, .mgt, .out]
  | .stopInterface .. =>
    [.ports, .funcs, .mgt, .out]
  | .imageRemeasureDone .. =>
    [.twins, .irq, .rst, .clk, .mgt]
  | .unmap .. | .invalidate .. =>
    [.queues, .xlt, .ports, .plan, .out]
  | .qCreate .. | .stage .. | .commit .. | .withdraw .. | .release .. =>
    [.queues, .fences, .ports, .plan, .out]
  | .planDecisionMissed .. =>
    [.queues, .irq, .plan, .rst, .mgt]
  | .linkTrainingComplete .. =>
    [.xlt, .ports, .rst, .coh, .out]
  | .graceTimerExpiry .. =>
    [.twins, .ctxs, .funcs, .irq, .rst]
  | .safeState .. =>
    [.time, .twins, .irq, .rst, .mgt]
  | .pathfence .. =>
    [.irq, .rst, .mgt, .fab, .out]
  | .debugRead .. =>
    [.time, .ctxs, .mgt, .coh, .out]
  | .ccHalt .. =>
    [.time, .twins, .ctxs, .mgt, .out]
  | .memrd .. | .memrddata .. | .meminv .. | .memclnevct .. | .memwr .. | .biconflict .. | .birsp .. =>
    [.funcs, .coh, .fab, .mem, .out]
  | .prgResponse .. =>
    [.time, .queues, .xlt, .funcs, .rst, .out]
  | .map .. =>
    [.queues, .xlt, .ports, .plan, .mem, .out]
  | .qPark .. | .qResume .. | .qStop .. | .qDestroy .. =>
    [.queues, .fences, .ports, .irq, .plan, .out]
  | .objFree .. =>
    [.queues, .fences, .objs, .ports, .plan, .out]
  | .fenceAlloc .. =>
    [.queues, .fences, .ports, .plan, .out, .freeCtr]
  | .fenceReset .. | .fenceFree .. =>
    [.queues, .fences, .ports, .plan, .fab, .out]
  | .selftest .. =>
    [.twins, .queues, .ports, .plan, .clk, .out]
  | .abort .. =>
    [.queues, .ports, .plan, .fab, .mem, .out]
  | .inboundBar4Request .. =>
    [.queues, .ports, .funcs, .coh, .mem, .out]
  | .read .. | .fwds .. | .fwdx .. | .inv .. | .snpcur .. | .snprecall .. | .datas .. | .datae .. | .datao ..
  | .datam .. | .upgack .. | .grant .. | .ackdone .. | .putack .. | .staleputack .. | .fwddoneack .. =>
    [.irq, .rst, .mgt, .coh, .fab, .out]
  | .ack .. =>
    [.queues, .irq, .rst, .mgt, .fab, .out]
  | .inval .. | .grantOffer .. | .groupDigestAnswer .. | .collData .. | .groupDigestReceipt .. =>
    [.time, .irq, .rst, .mgt, .fab, .out]
  | .ideIntegrityFailure .. | .tdiViolation .. =>
    [.time, .ctxs, .objs, .ports, .funcs, .mgt]
  | .discoveryPhaseEnd .. | .census .. | .fabricMapPacket .. | .beaconLoss .. | .fabricLinkDown .. | .fabricLinkUp .. =>
    [.queues, .fences, .funcs, .irq, .coh, .fab, .out]
  | .doorbell .. =>
    [.time, .ctxs, .queues, .objs, .ports, .funcs, .mgt]
  | .objCreate .. =>
    [.queues, .fences, .objs, .ports, .plan, .out, .freeCtr]
  | .vfEnableClear .. =>
    [.time, .ctxs, .objs, .ports, .funcs, .mgt, .out]
  | .hostCompletionTimeout .. =>
    [.queues, .fences, .ports, .funcs, .rst, .fab, .out]
  | .nak .. | .invalDone .. | .collCtl .. =>
    [.time, .queues, .irq, .rst, .mgt, .fab, .out]
  | .pfack .. =>
    [.queues, .irq, .plan, .rst, .mgt, .fab, .out]
  | .regRead .. =>
    [.time, .ctxs, .clk, .mgt, .sels, .out, .freeCtr]
  | .debugWrite .. =>
    [.time, .ctxs, .queues, .mgt, .coh, .mem, .out]
  | .walkComplete .. =>
    [.time, .twins, .queues, .xlt, .irq, .rst, .mgt, .out]
  | .start .. | .park .. | .resume .. | .setHome .. =>
    [.ctxs, .queues, .fences, .xlt, .ports, .irq, .plan, .out]
  | .write .. =>
    [.queues, .irq, .rst, .mgt, .coh, .fab, .mem, .out]
  | .rds .. | .rdx .. | .upg .. | .puts .. | .pute .. | .puto .. | .putm .. | .invack .. | .fwddone .. | .snprsp ..
  | .miss .. =>
    [.funcs, .irq, .rst, .mgt, .coh, .fab, .mem, .out]
  | .open_ .. =>
    [.ctxs, .queues, .fences, .xlt, .ports, .irq, .plan, .mem, .out]
  | .fenceUpd .. | .grantRevoke .. =>
    [.time, .queues, .fences, .funcs, .irq, .rst, .mgt, .fab, .out]
  | .homeTimeout .. =>
    [.time, .funcs, .irq, .rst, .mgt, .coh, .fab, .mem, .out]
  | .imageLoadDone .. =>
    [.twins, .ctxs, .ports, .irq, .plan, .rst, .clk, .mgt, .out, .freeCtr]
  | .slotFetch .. =>
    [.time, .twins, .queues, .fences, .xlt, .irq, .rst, .mgt, .coh, .out]
  | .predicateReadComplete .. =>
    [.time, .twins, .queues, .xlt, .ports, .irq, .rst, .mgt, .coh, .out]
  | .holdWindowExpiry .. =>
    [.time, .ports, .funcs, .irq, .rst, .mgt, .coh, .fab, .mem, .out]
  | .bar0BadAccess .. | .sampleDataRead .. | .clkStatusRead .. =>
    [.time, .ctxs, .objs, .ports, .funcs, .clk, .mgt, .sels, .out, .freeCtr]
  | .close .. | .kill .. =>
    [.ctxs, .queues, .fences, .objs, .xlt, .ports, .funcs, .irq, .plan, .mgt, .out]
  | .flr .. | .d0Return .. =>
    [.time, .ctxs, .queues, .objs, .xlt, .ports, .funcs, .irq, .mgt, .sels, .out]
  | .pwrwarnAssert .. =>
    [.time, .twins, .ctxs, .queues, .ports, .irq, .plan, .rst, .clk, .mgt, .out]
  | .ackTimeout .. =>
    [.time, .queues, .fences, .funcs, .irq, .rst, .mgt, .coh, .fab, .mem, .out]
  | .selftestDone .. =>
    [.twins, .ctxs, .queues, .ports, .irq, .plan, .rst, .clk, .mgt, .fab, .mem, .out]
  | .faultOccurrence .. =>
    [.time, .twins, .queues, .fences, .ports, .irq, .engines, .rst, .mgt, .coh, .fab, .mem, .out, .freeCtr]
  | .writeInline .. | .allreduce .. | .reduceScatter .. | .allgather .. | .alltoall .. | .broadcast ..
  | .collectiveBarrier .. =>
    [.time, .twins, .queues, .xlt, .ports, .irq, .plan, .rst, .mgt, .coh, .fab, .mem, .out]
  | .rdata .. =>
    [.time, .twins, .queues, .xlt, .ports, .irq, .engines, .rst, .mgt, .coh, .fab, .mem, .out]
  | .ceWindowStart .. =>
    [.time, .twins, .queues, .xlt, .ports, .irq, .plan, .engines, .rst, .mgt, .coh, .fab, .mem, .out]
  | .commandComplete .. =>
    [.time, .twins, .queues, .fences, .xlt, .ports, .irq, .plan, .rst, .mgt, .coh, .fab, .mem, .out]
  | .portReset .. =>
    [.time, .ctxs, .objs, .xlt, .ports, .funcs, .irq, .rst, .mgt, .coh, .fab, .mem, .sels, .out]
  | .hostCompletion .. =>
    [.time, .twins, .queues, .fences, .xlt, .ports, .irq, .engines, .rst, .mgt, .coh, .fab, .mem, .out]
  | .fixedDelayDelivery .. =>
    [.time, .twins, .queues, .fences, .xlt, .ports, .funcs, .irq, .engines, .rst, .mgt, .coh, .fab, .mem, .out]
  | .atsTranslationCompletion .. =>
    [.time, .twins, .queues, .xlt, .ports, .funcs, .irq, .plan, .engines, .rst, .mgt, .coh, .fab, .mem, .out,
      .freeCtr]
  | .regWrite .. =>
    [.time, .twins, .ctxs, .queues, .fences, .xlt, .ports, .funcs, .irq, .plan, .engines, .rst, .clk, .mgt, .coh,
      .fab, .sels, .out]
  | .faultRespRetry .. | .faultRespFail .. | .xltProbe .. | .fringProgram .. | .placeCommit .. | .placeClear ..
  | .journalStatusClear .. | .objQuerySelect .. | .xltPartCommit .. | .xltStatusClear .. | .staleGenClear ..
  | .ceCountClear .. | .planEpochClear .. | .regErrClear .. | .dipClear .. | .cohCountClear .. | .cohCount1Clear ..
  | .fabCountClear .. | .registerWrite .. | .irqAck .. | .irqIdle .. | .irqDisableWrite .. | .irqRouteCommit ..
  | .standbyRequest .. | .fltAck .. | .detach .. | .detachWithdraw .. | .twinReturn .. | .clearOos .. | .cdReset ..
  | .cdReturn .. | .clockSourceWrite .. | .clockGateWrite .. | .fcntGo .. | .bistGo .. | .grantCommit ..
  | .grantClear .. | .proxyBind .. | .proxyUnbind .. | .groupCommit .. | .groupClear .. | .routeCommit .. | .repin ..
  | .globalSnapshot .. | .globalReset .. | .cohDomainCommit .. | .cohPartCommit .. | .cohDirProbe .. =>
    [.time, .twins, .ctxs, .queues, .fences, .objs, .xlt, .ports, .funcs, .irq, .plan, .engines, .rst, .clk,
      .mgt, .coh, .fab, .sels, .out]
  | .powerFailReset .. =>
    [.time, .twins, .ctxs, .queues, .fences, .objs, .xlt, .ports, .funcs, .irq, .plan, .engines, .rst, .clk,
      .mgt, .coh, .fab, .mem, .sels]
  | .tickBoundary .. | .blockingOpStart .. =>
    [.time, .twins, .ctxs, .queues, .fences, .objs, .xlt, .ports, .funcs, .irq, .plan, .engines, .rst, .clk,
      .mgt, .coh, .fab, .mem, .sels, .out, .freeCtr]

/-! ### A ring command that begins (R161, R166, R247) -/

/-- The state in which an admitted command without a predicate has begun: it counts against the front-end allotment, and its
units may be claimed from this boundary, or from the next where a hold was released in this one. -/
def State.startedAt (s : State) (r : CmdRef) (c : Cmd) : State :=
  (s.markStart r.queue c.slot).modCmd r.queue c.slot fun d => { d with begun := true, claimFrom := s.startFrom r.queue c }

/-- The rows at which a ring command begins: what they name, the opcode and the sub-opcode (R161, R162). -/
def startRow : Instr → Option (CmdRef × Nat × Option Nat)
  | .nop r => some (r, Op.nop, none)
  | .fenceSignal r => some (r, Op.fenceSignal, none)
  | .fenceWait r => some (r, Op.fenceWait, none)
  | .writeInline r => some (r, Op.writeInline, none)
  | .barrier r => some (r, Op.barrier, none)
  | .copy r => some (r, Op.copy, none)
  | .copy2d r => some (r, Op.copy2d, none)
  | .gather r => some (r, Op.gather, none)
  | .scatter r => some (r, Op.scatter, none)
  | .fill r => some (r, Op.fill, none)
  | .quantize r => some (r, Op.quantize, none)
  | .dequantize r => some (r, Op.dequantize, none)
  | .accumulate r => some (r, Op.accumulate, none)
  | .compact r => some (r, Op.compact, none)
  | .expand r => some (r, Op.expand, none)
  | .dispatch r => some (r, Op.dispatch, none)
  | .combine r => some (r, Op.combine, none)
  | .allreduce r => some (r, Op.collective, some 1)
  | .reduceScatter r => some (r, Op.collective, some 2)
  | .allgather r => some (r, Op.collective, some 3)
  | .alltoall r => some (r, Op.collective, some 4)
  | .broadcast r => some (r, Op.collective, some 5)
  | .collectiveBarrier r => some (r, Op.collective, some 6)
  | .map r => some (r, Op.map, none)
  | .unmap r => some (r, Op.unmap, none)
  | .invalidate r => some (r, Op.invalidate, none)
  | .launch r => some (r, Op.launch, none)
  | .open_ r => some (r, Op.contextCtl, some 1)
  | .start r => some (r, Op.contextCtl, some 2)
  | .park r => some (r, Op.contextCtl, some 3)
  | .resume r => some (r, Op.contextCtl, some 4)
  | .setHome r => some (r, Op.contextCtl, some 5)
  | .close r => some (r, Op.contextCtl, some 6)
  | .kill r => some (r, Op.contextCtl, some 7)
  | .qCreate r => some (r, Op.contextCtl, some 0x10)
  | .qPark r => some (r, Op.contextCtl, some 0x11)
  | .qResume r => some (r, Op.contextCtl, some 0x12)
  | .qStop r => some (r, Op.contextCtl, some 0x13)
  | .qDestroy r => some (r, Op.contextCtl, some 0x14)
  | .objCreate r => some (r, Op.contextCtl, some 0x20)
  | .objFree r => some (r, Op.contextCtl, some 0x21)
  | .fenceAlloc r => some (r, Op.contextCtl, some 0x30)
  | .fenceReset r => some (r, Op.contextCtl, some 0x31)
  | .fenceFree r => some (r, Op.contextCtl, some 0x32)
  | .stage r => some (r, Op.planCtl, some 1)
  | .commit r => some (r, Op.planCtl, some 2)
  | .withdraw r => some (r, Op.planCtl, some 3)
  | .release r => some (r, Op.planCtl, some 4)
  | .selftest r => some (r, Op.selftest, none)
  | .abort r => some (r, Op.abort, none)
  | _ => none

/-- The command that a reference names is admitted, has the opcode and the sub-opcode, and has neither begun nor ended. -/
def Waits (s : State) (r : CmdRef) (op : Nat) (sub : Option Nat) (c : Cmd) : Prop :=
  (s.queue r.queue).cmdAt r.slot = some c ∧ hOpcode c.bytes = op ∧ (∀ x, sub = some x → hSubop c.bytes = x) ∧ c.begun = false ∧ c.result = none

/-- The command begins, and the state in which it has begun: one without a predicate as its start rule allows, one with a
predicate once that held. -/
def Begins (s : State) (r : CmdRef) (op : Nat) (sub : Option Nat) (c : Cmd) (u : State) : Prop :=
  Waits s r op sub c ∧
    ((c.pred = .decided ∧ u = s.modCmd r.queue c.slot fun d => { d with begun := true, claimFrom := max d.claimFrom s.time.bnd }) ∨
      (c.pred ≠ .decided ∧ s.startable r.queue c = true ∧ hPred c.bytes = false ∧ u = s.startedAt r c))

/-- A control command begins, its handles pass the checks left for its start, and u is the state in which the fence it signals counts
it (R140, R172). -/
def Checked (s : State) (r : CmdRef) (op sub : Nat) (c : Cmd) (u : State) : Prop :=
  ∃ v, Begins s r op (some sub) c v ∧ v.handleChecks r.queue c.slot c.stamp c.bytes = E.ok ∧ u = v.countSignal r.queue c

/-- A CONTEXT_CTL command begins and passes the checks that every subop shares: its handles, no privileged slot or queue named,
and a context in a state that allows the subop (R134, R172, R176). -/
def CtlBegins (s : State) (r : CmdRef) (sub : Nat) (c : Cmd) (u : State) : Prop :=
  Checked s r Op.contextCtl sub c u ∧
    namesPriv sub (pf c.bytes 0 11 0) (pf c.bytes 0 25 12) = false ∧
    ((sub = 0x32 ∧ ((u.ctx (pf c.bytes 0 11 0)).eff = .free ∨ (u.ctx (pf c.bytes 0 11 0)).eff = .dead)) ∨
      ctxCode sub (u.ctx (pf c.bytes 0 11 0)).eff = E.ok)

/-- A PLAN_CTL command begins and its handles pass. -/
def PlanBegins (s : State) (r : CmdRef) (sub : Nat) (c : Cmd) (u : State) : Prop := Checked s r Op.planCtl sub c u

/-- No engine command under way reads the ranges of device memory: a change of them leaves no destination undefined (R253). -/
def Quiet (s : State) (l : List (Nat × Nat)) : Prop :=
  ∀ x ∈ s.queues, ∀ c ∈ x.2.cmds, c.begun = true → isEngine (hOpcode c.bytes) = true →
    rangesMeet (localRanges (s.unitsWork x.2.ctx c.bytes fun _ => true).1) l = false

/-! ### Registers and the rows that write them (12 to 16) -/

/-- The rows that are one register's write: the path, the register and the value. -/
def writeRow : Instr → Option (Path × Reg × Word)
  | .faultRespRetry p v => some (p, .xltFaultResp, v)
  | .faultRespFail p v => some (p, .xltFaultResp, v)
  | .xltProbe p v => some (p, .xltProbeSel, v)
  | .fringProgram p v => some (p, .xltFring, v)
  | .placeCommit p v => some (p, .objPlaceSel, v)
  | .placeClear p v => some (p, .objPlaceSel, v)
  | .journalStatusClear p v => some (p, .cmdJournalStatus, v)
  | .objQuerySelect p v => some (p, .objQuerySel, v)
  | .xltPartCommit p v => some (p, .xltPartSel, v)
  | .xltStatusClear p v => some (p, .xltStatus, v)
  | .staleGenClear p v => some (p, .fltStaleGen, v)
  | .ceCountClear p v => some (p, .ceCount, v)
  | .planEpochClear p v => some (p, .planEpoch, v)
  | .regErrClear p v => some (p, .fltRegErr, v)
  | .dipClear p v => some (p, .rstDip, v)
  | .cohCountClear p v => some (p, .cohCount, v)
  | .cohCount1Clear p v => some (p, .cohCount1, v)
  | .fabCountClear p v => some (p, .fabCount, v)
  | .irqAck p v => some (p, .irqAck, v)
  | .irqIdle p v => some (p, .irqAck, v)
  | .irqDisableWrite p v => some (p, .irqGlobal, v)
  | .irqRouteCommit p v => some (p, .irqRouteSel, v)
  | .standbyRequest p v => some (p, .irqWakeCtl, v)
  | .fltAck p v => some (p, .fltAck, v)
  | .detach p v => some (p, .rstTwinCtl, v)
  | .detachWithdraw p v => some (p, .rstTwinCtl, v)
  | .twinReturn p v => some (p, .rstTwinCtl, v)
  | .clearOos none p v => some (p, .rstTwinCtl, v)
  | .cdReset p v => some (p, .rstCdCtl, v)
  | .cdReturn p v => some (p, .rstCdCtl, v)
  | .clockSourceWrite p v => some (p, .clkSrc, v)
  | .clockGateWrite p v => some (p, .clkGate, v)
  | .fcntGo p v => some (p, .clkFcntCtl, v)
  | .bistGo p v => some (p, .clkBistCtl, v)
  | .grantCommit p v => some (p, .fabGrantSel, v)
  | .grantClear p v => some (p, .fabGrantSel, v)
  | .proxyBind p v => some (p, .fabProxySel, v)
  | .proxyUnbind p v => some (p, .fabProxySel, v)
  | .groupCommit p v => some (p, .fabGroupSel, v)
  | .groupClear p v => some (p, .fabGroupSel, v)
  | .routeCommit p v => some (p, .fabRouteSel, v)
  | .repin p v => some (p, .fabRouteSel, v)
  | .globalSnapshot p v => some (p, .fabGlobal, v)
  | .globalReset p v => some (p, .fabGlobal, v)
  | .cohDomainCommit p v => some (p, .cohDomainSel, v)
  | .cohPartCommit p v => some (p, .cohPartSel, v)
  | .cohDirProbe p v => some (p, .cohDirProbe, v)
  | _ => none

/-- Nothing waits ahead of what arrives by the path: a BAR takes accesses in the order of arrival (R96, R299). -/
def State.atOnce (s : State) : Path → Bool
  | .bar p _ _ => !(s.writeWaits p || !(s.port p).behind.isEmpty)
  | _ => true

/-- An access arrives: its function is there, and its TDI does not turn it away (R90, R101, R460). -/
def Reaches (s : State) (p : Path) : Prop := s.atOnce p = true ∧ s.deaf p = false ∧ s.tdiViolates p = false

/-- A write arrives at a register that the path's BAR0 holds and may write, with a legal value (R13, R14, R17). -/
def Writes (s : State) (p : Path) (r : Reg) (v : Word) : Prop :=
  Reaches s p ∧ regAt (Path.func p) r.offset = some r ∧ (r.mgmtOnly = false ∨ Path.fn p = none) ∧ r.reserved v.toNat = false ∧
    Reg.illegal (Path.func p) v.toNat r = false

/-! ### Packets of the fabric (R366, R367, R369, R373) -/

/-- The rows that are one packet's arrival: its header and its kind. -/
def packetRow (c : Instr) : Option (FabHdr × Nat) :=
  match fabParts c, cohParts c with
  | some (h, k, _), _ => some (h, k)
  | none, some (some h, op, _) => some (h, cohKind op)
  | none, _ =>
    match c with
    | .write h _ _ => some (h, K.write)
    | .read h _ => some (h, K.read)
    | .ack h _ _ => some (h, K.ack)
    | .pfack h _ _ => some (h, K.pfack)
    | .collData h _ _ _ _ _ _ => some (h, K.collData)
    | .collCtl h _ _ _ _ => some (h, K.collCtl)
    | _ => none

/-- A kind is delivered exactly DELAY after SENT (R369; the transport's own kinds act on arrival, log entry 21). -/
def fixedKind (kind : Nat) : Bool := (kindClass kind = 0 || kindClass kind = 2) && kind ≠ K.ack && kind ≠ K.pfack

/-- A packet is well addressed: the class and channel of its kind, toward this device. -/
def Addressed (s : State) (h : FabHdr) (kind : Nat) : Prop :=
  h.tc.val = kindClass kind ∧ h.vc.val = kindVc kind ∧ h.dst = s.fab.device

/-- A packet passes the checks of R373: its path generation, its reset-domain generation and its place in order. -/
def InOrder (s : State) (h : FabHdr) (kind : Nat) : Prop :=
  Addressed s h kind ∧ h.pgen = (s.rx h.src).gen ∧ h.dgen = s.gen 52 ∧ h.pseq = (s.rx h.src).expect.getD h.tc.val 0

/-- The state in which a packet in order has been counted. -/
def State.countedPkt (s : State) (h : FabHdr) : State :=
  s.setRx h.src { s.rx h.src with expect := bumpAt (s.rx h.src).expect h.tc.val fun n => (n + 1) % 65536 }

/-- A packet is delivered as it arrives, and v is the state in which it acts: counted, and in LATE where it came after its
time (R369, R373). -/
def Delivered (s : State) (h : FabHdr) (kind : Nat) (v : State) : Prop :=
  InOrder s h kind ∧ (fixedKind kind = true → (s.route h.src).delay ≤ h.age) ∧
    v = if fixedKind kind = true ∧ (s.route h.src).delay < h.age then
      ((s.countedPkt h).modFab fun x => { x with late := satAdd 4095 x.late 1 }).chip 3 h.src
    else s.countedPkt h

/-- A coherence message acts in a state: on the die in the one it comes to, through the fabric in the one of its delivery. -/
def Comes (s : State) (via : Option FabHdr) (kind : Nat) (v : State) : Prop :=
  match via with
  | none => v = s
  | some h => Delivered s h kind v

/-- What follows a coherence message's effect: the acknowledgement of its packet (R373). -/
def State.acked (s : State) (via : Option FabHdr) : State := match via with | none => s | some h => s.sendAck h

/-! ### Management requests (R464, R465) -/

/-- The rows that are management requests: the request, its operation code, the role it needs, and for one that R464 marks † what is
extended into slot 7. -/
def mgtRow : Instr → Option (MgtReq × Nat × Nat × Option (List Nat))
  | .regRead r _ _ => some (r, 0x0001, roleObserve, none)
  | .regWrite r _ _ _ => some (r, 0x0002, roleOperate, none)
  | .logRead r _ _ => some (r, 0x0003, roleObserve, none)
  | .sensorRead r => some (r, 0x0004, roleObserve, none)
  | .flashErase r _ _ => some (r, 0x0010, roleUpdate, none)
  | .flashWrite r _ _ => some (r, 0x0011, roleUpdate, none)
  | .flashRead r _ _ => some (r, 0x0012, roleObserve, none)
  | .fwLoad r t => some (r, 0x0013, roleUpdate, some [t.num])
  | .fwRestore r t => some (r, 0x0014, roleUpdate, some [t.num])
  | .debugRead r _ _ => some (r, 0x0020, roleDebug, none)
  | .debugWrite r a d => some (r, 0x0021, roleDebug, some (a :: d.map (·.toNat)))
  | .ccHalt r t n .halt => some (r, 0x0022, roleDebug, some [t.num, n.val, 0])
  | .ccHalt r t n .step => some (r, 0x0022, roleDebug, some [t.num, n.val, 1])
  | .ccHalt r t n .resume => some (r, 0x0022, roleDebug, some [t.num, n.val, 2])
  | .credSet r n h roles => some (r, 0x0030, roleAdmin, some (n.val :: roles :: h.map (·.toNat)))
  | .credLock r => some (r, 0x0031, roleAdmin, some [])
  | .svnRaise r n => some (r, 0x0032, roleAdmin, some [n])
  | .measExtend r _ _ => some (r, 0x0033, roleOperate, none)
  | .clearOos (some r) _ v => some (r, 0x0034, roleOperate, some [v.toNat])
  | _ => none

/-- A request arrives in a secured session of MCTP, on a path that is up (R455, R463). -/
def Carried (s : State) (r : MgtReq) (x : Session) : Prop :=
  (r.path = .mctpI3c ∨ r.path = .mctpNet) ∧ s.spdmUp r.path = true ∧ s.session r.path r.session = some x ∧ x.ready = true

/-- The context in a slot is of function `f` and of a PASID that an invalidation names, and a page lies in its range (R212). -/
def State.usesPage (s : State) (f : Nat) (pasid : Option Nat) (addr n slot : Nat) (page : Option Nat) : Bool :=
  (s.ctx slot).func = f && (match pasid with | some x => decide ((s.ctx slot).pasid = x) | none => true) &&
    page.any fun x => inRange x 0 addr n

/-- The state in which an admitted request acts: stamped; one that R464 marks † extended into slot 7 and logged. -/
def State.asked (s : State) (r : MgtReq) (op : Nat) (dagger : Option (List Nat)) (x : Session) : State :=
  match dagger with
  | none => s.stamp.2
  | some args =>
    (s.stamp.2.measExtend 7 (sha384 (Config.requestBytes op r.tag args))).log s.stamp.1 7 0 none 0 op (x.slot.getD 8)

/-- A row is a management request that its session's role admits, and u is the state in which it acts. -/
def Asks (c : Instr) (s : State) (r : MgtReq) (x : Session) (u : State) : Prop :=
  ∃ op role dagger, mgtRow c = some (r, op, role, dagger) ∧ Carried s r x ∧ s.canStamp = true ∧ tst x.roles role = true ∧
    u = s.asked r op dagger x

end Machine
end Sys2Proof
end

