-- ==== Sys2Proof/Certificates/Slice0/Obligations.lean ====
section
/-! DEFINITION. The statements for the provers. -/

open Sys2Proof Sys2Proof.Machine

/-- Step runs the command at the front of the queue on the state with the queue's rest; the model's own choice (log entry 14):
with no command waiting the block idles. -/
def Obligations.StepRunsFrontCommandOrIdles : Prop :=
  (∀ (c : Instr) (l : List Instr) (s : State), step { s with pending := c :: l } = exec c { s with pending := l }) ∧
  (∀ s : State, s.pending = [] → step s = .next s)

/-- Every step answers a next state, and takes exactly the front command off the queue. -/
def Obligations.StepAnswersAndTakesOnlyTheFront : Prop :=
  ∀ s : State, ∃ t, step s = .next t ∧ t.pending = s.pending.tail

/-- Each row changes at most the parts of State that `touches` names for it: its frame. -/
def Obligations.EachRowTouchesOnlyItsParts : Prop :=
  ∀ (c : Instr) (s t : State), exec c s = .next t → Same (touches c) s t

/-- Device memory keeps its one canonical form over every step (invariant). -/
def Obligations.EveryStepKeepsMemoryCanonical : Prop :=
  ∀ s t : State, s.mem.wf = true → step s = .next t → t.mem.wf = true

/-- At most one twin leads, over every step (R34, R47, R518): the order point is never two. -/
def Obligations.EveryStepKeepsAtMostOneLead : Prop :=
  ∀ s t : State, ¬(s.leads .a = true ∧ s.leads .b = true) → step s = .next t → ¬(t.leads .a = true ∧ t.leads .b = true)

/-- A blown fuse stays blown over every step, a loss of supply included: the credential lock is never undone, and MIN_SVN never
falls (R464, R465). -/
def Obligations.NoStepUnblowsAFuse : Prop :=
  ∀ s t : State, step s = .next t → (s.mgt.credLock = true → t.mgt.credLock = true) ∧ s.mgt.minSvn ≤ t.mgt.minSvn

/-- The state after reset meets the invariants. -/
def Obligations.ResetMeetsTheInvariants : Prop :=
  State.reset.mem.wf = true ∧ ¬(State.reset.leads .a = true ∧ State.reset.leads .b = true) ∧
  State.reset.pending = []

/-- Reset (R39, R54, R83, R435, R448, R498; the twins' state before their start ends is the model's choice, log entry 1): the
stamps at all ones, 8 µs ticks, the start plan ACTIVE, no context but the two privileged ones, every clock on its slow source
and every gate on, empty device memory, and HX_CMD_STAMP_LAST, HX_XLT_FRING, HX_XLT_CTL, HX_COH_AGENT_STATUS and HX_CLK_FCNT_CTL
as the register map gives them. -/
def Obligations.ResetLeavesTheSpecifiedState : Prop :=
  State.reset.time.last = 2 ^ 64 - 1 ∧ State.reset.time.tick = 0 ∧ periodUs State.reset.time.period = 8 ∧
  (State.reset.slot 0).state = .active ∧ (∀ n, n ≠ 0 → (State.reset.slot n).state = .empty) ∧
  (∀ n, 2 ≤ n → (State.reset.ctx n).state = .free) ∧ (State.reset.ctx 0).state = .running ∧ (State.reset.ctx 1).state = .running ∧
  (∀ n, 2 ≤ n → (State.reset.queue n).live = false) ∧ (∀ n, (State.reset.fence n).live = false) ∧
  (∀ n, (State.reset.obj n).state = .free) ∧ (∀ a, State.reset.mem.read a = 0) ∧
  (∀ f v, (State.reset.vec f v).state = .quiet) ∧ (∀ n, (State.reset.cd n).state = .inService) ∧
  (∀ t, State.reset.twin t = Twin.reset) ∧ (∀ p, State.reset.port p = Port.reset) ∧ (∀ n, State.reset.engine n = Engine.reset) ∧
  (∀ p f, (State.reset.func p f).fring = 6 ∧ (State.reset.func p f).ctl = 0x000101E84801E848) ∧
  State.reset.clk.gates = 2 ^ 40 - 1 ∧ State.reset.clk.fcnt = 0x1000C350 ∧ State.reset.clk.aclk = false ∧
  State.reset.coh.deadAgent = 0xFFFF ∧ State.reset.fab.phase = 0

/-- The start-up sequencer (R476, R477): each of its events, in its phase, leads to the next. -/
def Obligations.StartUpSequenceRuns : Prop :=
  (∀ (s : State) (x : Fin 8), s.clk.phase = 0 →
    exec (.powerUp x) s = .next { s with
      clk := { s.clk with phase := 1, xstart := x.val }
      rst := { s.rst with gens := Tbl.set 0 s.rst.gens 52 ((s.keptGen + 1) % 256) } }) ∧
  (∀ s : State, s.clk.phase = 1 → exec .ioscTrim s = .next { s with clk := { s.clk with phase := 2, iosc := true } }) ∧
  (∀ (s : State) (n : Nat), s.clk.phase = 2 → 2450 ≤ n → n ≤ 2550 →
    exec (.xtalCheck n) s = .next { s with clk := { s.clk with phase := 3, xtal := true, aclk := true } }) ∧
  (∀ (s : State) (n : Nat), s.clk.phase = 2 → (n < 2450 ∨ 2550 < n) → s.clk.checks < 7 →
    exec (.xtalCheck n) s = .next { s with clk := { s.clk with checks := s.clk.checks + 1 } }) ∧
  (∀ (s : State) (n : Nat), s.clk.phase = 2 → (n < 2450 ∨ 2550 < n) → s.clk.checks = 7 →
    exec (.xtalCheck n) s =
      .next { s with clk :=
        { s.clk with phase := 6, checks := 8, xtalFail := true, mclk := true, gates := setBit s.clk.gates 37 false } }) ∧
  (∀ s : State, s.clk.phase = 3 → ∃ t, exec .pllLocked s = .next t ∧
    t.clk = { s.clk with phase := 4, locks := 255, mpll := true, mclk := true } ∧
    (∀ x, t.twin x = { s.twin x with loading := true }) ∧
    t.mgt.written = s.mgt.written + (if ckptOk s.rst.ckpt then 4 else 0) ∧ Same [.twins, .clk, .mgt] s t) ∧
  (∀ s : State, s.clk.phase = 4 → exec (.sharedMbistDone 0x17E49D5AB8306C2F) s =
    .next { s with clk := { s.clk with sharedSig := 0x17E49D5AB8306C2F, sharedResult := 1, phase := 5 } }) ∧
  (∀ (s : State) (g : Word), s.clk.phase = 4 → g ≠ 0x17E49D5AB8306C2F →
    exec (.sharedMbistDone g) s = .next { s with clk := { s.clk with sharedSig := g, sharedResult := 2, phase := 7 } })

/-- A twin's image (R453, R502): read whole from the image store, measured into the twin's slot and extended into slot 6, and
followed by the self-test when every check passes; the slot set to zero and the twin not in service when one fails; the held copy
measured again after a reset. -/
def Obligations.ImagesAreMeasured : Prop :=
  (∀ (s : State) (x : Side) (h image : List Byte), (s.twin x).loading = true → s.clk.phase ≠ 7 → h = s.flashRead imageBase 256 →
    256 ≤ rd h 8 4 → rd h 8 4 ≤ imageMax → image = s.flashRead imageBase (rd h 8 4) → s.imageCheck x image = 0 →
    Goes (.imageLoadDone x) s fun t =>
      (t.twin x).image = image ∧ (t.twin x).loading = false ∧ (t.twin x).measured = true ∧
      (t.twin x).test = some (if (s.twin x).boot then .start else .fwLoad, 3) ∧ t.twin x.other = s.twin x.other ∧
      t.mgt.meas = ((s.measExtend 6 (sha384 image)).measSet (imageSlot x) (sha384 image)).mgt.meas) ∧
  (∀ (s : State) (x : Side) (h image : List Byte), (s.twin x).loading = true → s.clk.phase ≠ 7 → h = s.flashRead imageBase 256 →
    256 ≤ rd h 8 4 → rd h 8 4 ≤ imageMax → image = s.flashRead imageBase (rd h 8 4) → s.imageCheck x image ≠ 0 →
    (s.twin x).boot = false →
    Goes (.imageLoadDone x) s fun t =>
      (t.twin x).image = image ∧ (t.twin x).loading = false ∧ (t.twin x).state = .outOfService ∧
      t.mgt.meas = ((s.measExtend 6 (sha384 image)).measSet (imageSlot x) (List.replicate 48 0)).mgt.meas) ∧
  (∀ (s : State) (x : Side), (s.twin x).ret = some .measure → s.imageCheck x (s.twin x).image = 0 →
    Goes (.imageRemeasureDone x) s fun t =>
      t.mgt.meas = (s.measSet (imageSlot x) (sha384 (s.twin x).image)).mgt.meas ∧ (t.twin x).measured = true ∧
      (t.twin x).test = some (.returning, 3) ∧ (t.twin x).ret = some .test) ∧
  (∀ (s : State) (x : Side), (s.twin x).ret = some .measure → s.imageCheck x (s.twin x).image ≠ 0 → (s.twin x).boot = false →
    Goes (.imageRemeasureDone x) s fun t =>
      t.mgt.meas = (s.measSet (imageSlot x) (List.replicate 48 0)).mgt.meas ∧ (t.twin x).state = .outOfService)

/-- Self-tests (R485, R486, R499, R500): a SELFTEST command starts the tests that it names on a DETACHED twin; the signatures decide
the result; the twin is reset, and its generation advances; the release from a failure's reset advances it too, and waits
while a reply of that generation is outstanding (R44). -/
def Obligations.SelfTestsAreJudgedBySignature : Prop :=
  (∀ (s u : State) (r : CmdRef) (c : Cmd), Begins s r Op.selftest none c u →
    (u.twin (Side.ofBool (tst (pw c.bytes 0) 0))).state = .detached → (u.twin (Side.ofBool (tst (pw c.bytes 0) 0))).test = none →
    (u.twin (Side.ofBool (tst (pw c.bytes 0) 0))).loading = false →
    exec (.selftest r) s =
      .next (u.startTest (Side.ofBool (tst (pw c.bytes 0) 0)) (.command ⟨r.queue, c.slot⟩) (pf c.bytes 0 2 1))) ∧
  (∀ (s : State) (x : Side) (o : TestOrigin) (kind : Nat) (m l : Word), (s.twin x).test = some (o, kind) →
    Goes (.selftestDone x m l) s fun t =>
      t.rst.gens = Tbl.set 0 s.rst.gens (48 + x.num) ((s.gen (48 + x.num) + 1) % 256) ∧ (t.twin x).test = none ∧
      (t.twin x).sigL = (if kind % 2 = 1 then l else (s.twin x).sigL) ∧ (t.twin x).sigM = (if 2 ≤ kind then m else (s.twin x).sigM) ∧
      (t.twin x).testResult =
        if (kind % 2 = 1 → l = expectSig x.num 1) ∧ (2 ≤ kind → m = expectSig x.num 2) then 1 else 2) ∧
  (∀ (s : State) (x : Side), (s.twin x).inReset = true → s.domainHeld (48 + x.num) = true → exec (.twinResetRelease x) s = .next s) ∧
  (∀ (s : State) (x : Side), (s.twin x).inReset = true → s.domainHeld (48 + x.num) = false →
    Goes (.twinResetRelease x) s fun t =>
      t.rst.gens = Tbl.set 0 s.rst.gens (48 + x.num) ((s.gen (48 + x.num) + 1) % 256) ∧ (t.twin x).inReset = false ∧
        (t.twin x).ret = some .measure ∧
      (t.twin x).auto = true ∧ (t.twin x).state = (s.twin x).state ∧ Same [.twins, .rst] s t)

/-- The clock monitor (R480) and the frequency counter's end (R484). -/
def Obligations.ClockMonitorAndCounterAct : Prop :=
  (∀ s : State, exec (.pllLossOfLock .mpll) s = .next { s with
    clk := { s.clk with mpll := false, mclk := false, seen := setBit s.clk.seen 2 false, lost := setBit s.clk.lost 4 true } }) ∧
  (∀ (s : State) (b : Bool), s.clk.tclk = bit b → tst s.clk.locks (bit !b) = true →
    exec (.pllLossOfLock (.tclk b)) s = .next { s with
      clk := { s.clk with locks := setBit s.clk.locks (bit b) false, lost := setBit s.clk.lost 3 true, tclk := bit !b } }) ∧
  (∀ (s : State) (b : Bool), s.clk.hclkS = bit b → tst s.clk.locks (2 + bit !b) = false →
    exec (.pllLossOfLock (.hclkS b)) s = .next { s with
      clk := { s.clk with locks := setBit s.clk.locks (2 + bit b) false, lost := setBit s.clk.lost 2 true, dead := true } }) ∧
  (∀ (s : State) (x : Side) (b : Bool), s.clk.hclk.get x = bit b → s.carries x = true → (s.twin x).fail = none →
    exec (.pllLossOfLock (.hclk x b)) s = .next (({ s with
      clk := { s.clk with locks := setBit s.clk.locks (4 + 2 * x.num + bit b) false,
                          lost := setBit s.clk.lost (1 - x.num) true } } : State).modTwin x fun w => { w with fail := some .clock })) ∧
  (∀ (s : State) (x : Side) (b : Bool), s.clk.hclk.get x ≠ bit b →
    exec (.pllLossOfLock (.hclk x b)) s =
      .next { s with clk := { s.clk with locks := setBit s.clk.locks (4 + 2 * x.num + bit b) false } }) ∧
  (∀ s : State, Goes .xtalLost s fun t =>
    t.clk.aclk = false ∧ t.clk.mclk = false ∧ t.clk.xtal = false ∧ t.clk.xtalLost = true ∧ t.clk.locks = 0 ∧ t.clk.mpll = false ∧
    (s.clk.tclk < 2 ∨ s.clk.hclkS < 2 → t.clk.dead = true) ∧ Same [.twins, .clk] s t) ∧
  (∀ (s : State) (n : Nat), s.clk.busy = true → exec (.fcntDone n) s = .next { s with
    clk := { s.clk with busy := false, done := true, count := if s.clkStopped (bits s.clk.fcnt.toNat 27 24) then 0 else n % 2 ^ 32 } }) ∧
  (∀ (s : State) (n : Nat), s.clk.busy = true → exec (.fcntTimeout n) s = .next { s with
    clk := { s.clk with busy := false, done := true, timeout := true,
                        count := if s.clkStopped (bits s.clk.fcnt.toNat 27 24) then 0 else n % 2 ^ 32 } })

/-- The supply warning and a loss of supply (R446, R447). -/
def Obligations.SupplyWarningsAreRecorded : Prop :=
  (∀ (s : State) (us : Nat), s.rst.warn = none → Goes (.pwrwarnAssert us) s fun t =>
    t.rst.warn = some (s.time.us + us) ∧ t.rst.cleared = false ∧ (t.twin .a).test = none ∧ (t.twin .b).test = none ∧
    t.mem = s.mem ∧ t.fences = s.fences) ∧
  (∀ (s : State) (us w : Nat), s.rst.warn = some w → s.rst.cleared = false → Goes (.pwrwarnClear us) s fun t =>
    t.rst.cleared = true ∧ t.rst.dips = satAdd 65535 s.rst.dips 1 ∧ t.rst.lastUs = min 65535 (s.time.us + us - w) ∧ t.rst.dip = true ∧
    (t.rst.long = true ↔ s.rst.long = true ∨ 256 < s.time.us + us - w) ∧ tst t.rst.chip 4 = true ∧
    Same [.time, .irq, .rst, .mgt] s t) ∧
  (∀ s : State, Goes .powerFailReset s fun t =>
    t.rst.ckpt = s.rst.ckpt ∧ t.mgt.flash = s.mgt.flash ∧ t.mgt.minSvn = s.mgt.minSvn ∧ t.mgt.credLock = s.mgt.credLock ∧
    t.mgt.creds = s.mgt.creds ∧ t.pending = s.pending ∧ t.clk = State.reset.clk ∧ t.time = State.reset.time ∧
    t.ctxs = State.reset.ctxs ∧ t.mem = State.reset.mem ∧ t.plan = State.reset.plan)

/-- A doorbell write (R31, R96, R97, R101, R123, R124): behind a write of its port that waits it waits too; a function that
takes none drops it; one that is poisoned, or is no aligned 8-byte access, is refused and recorded; with no stamp left it is carried to
the next tick; one that reaches a queue and that
R124 takes leaves the queue as `Queue.ring1` computes, at the stamp of the write, and one that R124 refuses changes no queue. -/
def Obligations.DoorbellsAreTakenOrRefused : Prop :=
  (∀ (s : State) (p : Side) (f : Fin 128) (e : Option (Fin 8)) (off width : Nat) (v : Word) (b : Bool), s.atOnce (.bar p f e) = false →
    exec (.doorbell (.bar p f e) off width v b) s =
      .next (s.modPort p fun x => { x with behind := x.behind ++ [.cmd (.doorbell (.bar p f e) off width v b)] })) ∧
  (∀ (s : State) (path : Path) (off width : Nat) (v : Word), s.atOnce path = true → s.deaf path = false →
    exec (.doorbell path off width v true) s = .next ((s.aerPoison path).regErr path 1 off E.poisoned)) ∧
  (∀ (s : State) (path : Path) (off width : Nat) (v : Word), s.atOnce path = true → s.deaf path = false →
    width ≠ 8 ∨ off % 8 ≠ 0 →
    exec (.doorbell path off width v false) s = .next (s.regErr path 1 off E.badLength)) ∧
  (∀ (s : State) (path : Path) (off width : Nat) (v : Word) (b : Bool), s.atOnce path = true → s.deaf path = true →
    exec (.doorbell path off width v b) s = .next s) ∧
  (∀ (s : State) (path : Path) (off : Nat) (v : Word), s.atOnce path = true → off % 8 = 0 → s.deaf path = false →
    s.anyService = true → s.canStamp = false →
    exec (.doorbell path off 8 v false) s = .next (s.carry (.doorbell path off 8 v false))) ∧
  (∀ (s u : State) (path : Path) (off slot qn : Nat) (v : Word), s.atOnce path = true → off % 8 = 0 → s.deaf path = false →
    s.anyService = true → s.tdiViolates path = false → s.canStamp = true → u = s.stamp.2 → u.doorCtx path off = some slot →
    off % 4096 < 0x200 → u.localQueue slot (off % 4096 / 8) = some qn → (u.queue qn).state ≠ .stopped →
    (u.ctx (u.queue qn).ctx).state ≠ .draining → (u.queue qn).priv = false →
    (∀ q, (u.queue qn).ring1 (Path.side path) v.toNat s.stamp.1 (decide ((u.ctx (u.queue qn).ctx).state = .running)) = .taken q →
      exec (.doorbell path off 8 v false) s = .next (u.setQueue qn q)) ∧
    (∀ code, (u.queue qn).ring1 (Path.side path) v.toNat s.stamp.1 (decide ((u.ctx (u.queue qn).ctx).state = .running)) = .reject code →
      exec (.doorbell path off 8 v false) s = .next (u.regErr path 1 off code)))

/-- What a doorbell that is taken makes of a queue whose ring is not overfull (R124): the producer index is the one written, it
does not fall, no more than the ring's slots are ready, and an IDLE queue of a RUNNING context becomes ACTIVE when slots are added. -/
def Obligations.DoorbellWritesTheProducerIndex : Prop :=
  ∀ (q q' : Queue) (via : Side) (value stamp : Nat) (running : Bool), q.ret ≤ q.prod → q.prod ≤ q.ret + q.slots →
    q.ring1 via value stamp running = .taken q' →
    q'.prod % q.slots = value % 2 ^ 32 ∧ q.prod ≤ q'.prod ∧ q'.prod ≤ q.ret + q.slots ∧ q'.ret = q.ret ∧ q'.cons = q.cons ∧
      q'.cmds = q.cmds ∧ (q.prod < q'.prod → q.state = .idle → running = true → q'.state = .active)

/-- SLOT_FETCH (R42, R128, R158, R172, R173): a head slot with the expected phase, whose chain is ready and whose checks pass, is
admitted; one whose checks fail is rejected with the first failing check's code; a poisoned one parks the queue; with 1,024 commands
admitted and unretired nothing is fetched; a read of an older generation of the queue is dropped. -/
def Obligations.SlotFetchAdmitsTheHeadSlot : Prop :=
  (∀ (s : State) (qn : Nat) (q : Queue) (given head b : List Byte) (p : Bool), q = s.queue qn → s.canFetch qn = true →
    s.inTheWay (s.slotRanges qn) [] = [] → s.slotBytes q (s.ringAddr q q.cons) 64 given p = .ok (head, false) →
    hPhase head = q.phaseAt q.cons → q.cons % q.slots + hChain head + 1 ≤ q.slots → q.cons + hChain head + 1 ≤ q.prod →
    s.chainBytes q p (hChain head + 1) (s.ringAddr q q.cons) given = .ok (b, false) →
    exec (.slotFetch ⟨qn, q.gen⟩ given p) s = .next
      (if s.admitCode qn q.cons b s.extraCheck = E.ok then s.admitCmd qn q.cons b
       else s.setQueue qn { q with
         reject := some (q.cons, hChain head + 1, s.admitCode qn q.cons b s.extraCheck), rejectDone := false, rereads := 0 })) ∧
  (∀ (s : State) (qn : Nat) (q : Queue) (given head : List Byte) (p : Bool), q = s.queue qn → s.canFetch qn = true →
    s.inTheWay (s.slotRanges qn) [] = [] → s.slotBytes q (s.ringAddr q q.cons) 64 given p = .ok (head, true) →
    exec (.slotFetch ⟨qn, q.gen⟩ given p) s = .next (s.setQueue qn (q.park E.poisoned (q.cons % q.slots)))) ∧
  (∀ (s : State) (qn : Nat) (given : List Byte) (p : Bool), 1024 ≤ (s.queue qn).cmds.length →
    exec (.slotFetch ⟨qn, (s.queue qn).gen⟩ given p) s = .next s) ∧
  (∀ (s : State) (qn g : Nat) (given : List Byte) (p : Bool), g ≠ (s.queue qn).gen →
    exec (.slotFetch ⟨qn, g⟩ given p) s = .next s.staleQueue)

/-- A command with a predicate (R100, R166, R167): when its start rule allows it, it is started and its predicate word is asked for,
a word in host memory once its function may issue requests; the command does nothing else until the word is read. -/
def Obligations.PredicatedCommandsAskForTheirWord : Prop :=
  (∀ (i : Instr) (s : State) (r : CmdRef) (op : Nat) (sub : Option Nat) (c : Cmd), startRow i = some (r, op, sub) → Waits s r op sub c →
    c.pred ≠ .decided → s.startable r.queue c = true → hPred c.bytes = true → s.collOf r = none →
    exec i s = .next (((s.markStart r.queue c.slot).modCmd r.queue c.slot fun d =>
      { d with pred := .held, claimFrom := s.startFrom r.queue c }).askWord r.queue c)) ∧
  (∀ (s : State) (qn : Nat) (q : Queue) (c : Cmd) (t : Target), q = s.queue qn →
    t = (s.target q.ctx (bits (rd c.bytes 16 8) 56 3 * 8) 8 .read).1 →
    ((∀ b page, t ≠ .host b page) → s.askWord qn c = (s.modCmd qn c.slot fun d => { d with pred := .waiting }).emit
      (.wordRead qn (c.slot % q.slots) (bits (rd c.bytes 16 8) 56 3 * 8) q.gen)) ∧
    (∀ b page, t = .host b page →
      s.canIssue (s.ctx q.ctx).port (s.ctx q.ctx).func = true → s.tagFree (s.ctx q.ctx).port = true →
      s.askWord qn c =
        (((s.request (s.ctx q.ctx).port (.word qn c.slot) q.ctx qn page).2.modCmd qn c.slot fun d => { d with pred := .waiting }).emit
          (.wordRead qn (c.slot % q.slots) (bits (rd c.bytes 16 8) 56 3 * 8) q.gen))) ∧
    (∀ b page, t = .host b page →
      s.canIssue (s.ctx q.ctx).port (s.ctx q.ctx).func = false ∨ s.tagFree (s.ctx q.ctx).port = false → s.askWord qn c = s))

/-- PREDICATE_READ_COMPLETE (R42, R167, R168), of a word in device memory: a clean word on which the predicate holds lets the command
begin, one on which it does not ends the command with HX_OK as skipped, and a poisoned one ends it with HX_E_POISONED; a word of an
older generation of the queue is dropped, and one whose command has been ended decides nothing. -/
def Obligations.PredicatesDecideCommands : Prop :=
  (∀ (s u : State) (r : CmdRef) (a given : Nat) (bad : Bool) (c : Cmd), (s.queue r.queue).cmdAt r.slot = some c → c.pred = .waiting →
    c.result = none → u = s.dropWord r.queue c.slot →
      (s.target (s.queue r.queue).ctx (bits (rd c.bytes 16 8) 56 3 * 8) 8 .read).1 = .loc a →
    (u.target (s.queue r.queue).ctx (bits (rd c.bytes 16 8) 56 3 * 8) 8 .read).1 = .loc a → s.inTheWay [(a, 8)] [] = [] →
    let v := u.touch (s.queue r.queue).ctx (bits (rd c.bytes 16 8) 56 3 * 8) .read
    exec (.predicateReadComplete ⟨r, (s.queue r.queue).gen⟩ given bad) s = .next
      (if s.mem.anyPoison a 8 = true then v.finish r.queue c.slot E.poisoned 0
       else if predHolds (rd c.bytes 16 1 % 8) (rd c.bytes 24 8) (s.mem.word a) = true then
         v.modCmd r.queue c.slot fun d => { d with pred := .decided }
       else (v.finish r.queue c.slot E.ok 0).modCmd r.queue c.slot fun d => { d with skipped := true, pred := .decided, begun := true })) ∧
  (∀ (s : State) (r : CmdRef) (g w : Nat) (bad : Bool), s.inTheWay (s.wordRanges r) [] = [] → g ≠ (s.queue r.queue).gen →
    exec (.predicateReadComplete ⟨r, g⟩ w bad) s = .next s.staleQueue) ∧
  (∀ (s : State) (r : CmdRef) (w : Nat) (bad : Bool) (c : Cmd), s.inTheWay (s.wordRanges r) [] = [] →
    (s.queue r.queue).cmdAt r.slot = some c → c.result ≠ none →
    exec (.predicateReadComplete ⟨r, (s.queue r.queue).gen⟩ w bad) s = .next (s.dropWord r.queue c.slot))

/-- NOP, FENCE_SIGNAL and BARRIER end with HX_OK as they begin; FENCE_WAIT is judged by its fence as it finds it (R141, R162, R164,
R180). -/
def Obligations.EndingCommandsEndAsTheyBegin : Prop :=
  (∀ (s u : State) (r : CmdRef) (c : Cmd), Begins s r Op.nop none c u → exec (.nop r) s = .next (u.finish r.queue c.slot E.ok 0)) ∧
  (∀ (s u : State) (r : CmdRef) (c : Cmd), Begins s r Op.fenceSignal none c u →
    exec (.fenceSignal r) s = .next (u.finish r.queue c.slot E.ok 0)) ∧
  (∀ (s u : State) (r : CmdRef) (c : Cmd), Begins s r Op.barrier none c u →
    exec (.barrier r) s = .next (u.finish r.queue c.slot E.ok 0)) ∧
  (∀ (s u : State) (r : CmdRef) (c : Cmd), Begins s r Op.fenceWait none c u →
    exec (.fenceWait r) s = .next (u.modCmd r.queue c.slot fun d =>
      d.evalWait (fIndex (ph c.bytes 8)) (u.fence (fIndex (ph c.bytes 8))) u.time.bnd)) ∧
  (∀ (d : Cmd) (f : Fence) (now : Nat), hOpcode d.bytes = Op.fenceWait → d.begun = true → d.result = none →
    fTag (ph d.bytes 8) = f.tag →
    d.evalWait (fIndex (ph d.bytes 8)) f now =
      match waitOutcome f (pw d.bytes 0) with | some (code, residue) => d.finish code residue now | none => d) ∧
  (∀ (f : Fence) (target : Nat), (target ≤ f.value → waitOutcome f target = some (E.ok, 0)) ∧
    (f.value < target → f.state = .broken → waitOutcome f target = some (E.fenceBroken, f.code)) ∧
    (f.value < target → f.state ≠ .broken → waitOutcome f target = none))

/-- A data-movement or transform command begins (R161, R241, R247): from then on its units may be claimed. -/
def Obligations.EngineCommandsBegin : Prop :=
  (∀ (s u : State) (r : CmdRef) (c : Cmd), Begins s r Op.copy none c u → exec (.copy r) s = .next u) ∧
  (∀ (s u : State) (r : CmdRef) (c : Cmd), Begins s r Op.copy2d none c u → exec (.copy2d r) s = .next u) ∧
  (∀ (s u : State) (r : CmdRef) (c : Cmd), Begins s r Op.gather none c u → exec (.gather r) s = .next u) ∧
  (∀ (s u : State) (r : CmdRef) (c : Cmd), Begins s r Op.scatter none c u → exec (.scatter r) s = .next u) ∧
  (∀ (s u : State) (r : CmdRef) (c : Cmd), Begins s r Op.fill none c u → exec (.fill r) s = .next u) ∧
  (∀ (s u : State) (r : CmdRef) (c : Cmd), Begins s r Op.quantize none c u → exec (.quantize r) s = .next u) ∧
  (∀ (s u : State) (r : CmdRef) (c : Cmd), Begins s r Op.dequantize none c u → exec (.dequantize r) s = .next u) ∧
  (∀ (s u : State) (r : CmdRef) (c : Cmd), Begins s r Op.accumulate none c u → exec (.accumulate r) s = .next u) ∧
  (∀ (s u : State) (r : CmdRef) (c : Cmd), Begins s r Op.compact none c u → exec (.compact r) s = .next u) ∧
  (∀ (s u : State) (r : CmdRef) (c : Cmd), Begins s r Op.expand none c u → exec (.expand r) s = .next u) ∧
  (∀ (s u : State) (r : CmdRef) (c : Cmd), Begins s r Op.dispatch none c u → exec (.dispatch r) s = .next u) ∧
  (∀ (s u : State) (r : CmdRef) (c : Cmd), Begins s r Op.combine none c u → exec (.combine r) s = .next u) ∧
  (∀ (s u : State) (r : CmdRef) (op : Nat) (c : Cmd), Begins s r op none c u →
    ∀ d ∈ (u.queue r.queue).cmds, d.slot = c.slot → d.begun = true)

/-- WRITE_INLINE of one piece into device memory (R179), while no engine command under way reads those bytes (R253): its bytes are
written, and it ends with HX_OK. -/
def Obligations.WriteInlineWritesItsBytes : Prop :=
  ∀ (s u v : State) (r : CmdRef) (c : Cmd) (a n : Nat), Begins s r Op.writeInline none c u →
    u.works r.queue = true → u.slices r.queue = true → c.skipped = false → c.stall = none → c.point = 0 → c.peerLeft = 0 →
    (∀ p, ∀ e ∈ (u.port p).journal, e.dataOf r.queue c.slot (2 ^ 64) = false) →
    n = pf c.bytes 8 8 0 → 0 < n →
    pf c.bytes 0 56 0 % 64 + n ≤ 64 → n ≤ (c.bytes.drop (pOff c.bytes + 16)).length →
    (u.target (u.queue r.queue).ctx (pf c.bytes 0 56 0) n .write).1 = .loc a → u.inTheWay [] (u.inlineRanges r.queue c.bytes) = [] →
    v = ((u.touch (u.queue r.queue).ctx (pf c.bytes 0 56 0) .write).setMem
      (u.mem.storeP a (((c.bytes.drop (pOff c.bytes + 16)).take n).map fun x => (x, false)))).modCmd r.queue c.slot (fun y =>
        { y with point := 1 }) →
    Quiet v [(a, n)] →
    Goes (.writeInline r) s fun t =>
      t.mem = s.mem.storeP a (((c.bytes.drop (pOff c.bytes + 16)).take n).map fun x => (x, false)) ∧
      ∃ d, (t.queue r.queue).cmdAt r.slot = some d ∧ d.result = some E.ok ∧ d.residue = 0

/-- LAUNCH (R182 to R184): once its domains are in service and its notice is not needed, the descriptor is handed off; the answer
of a current generation ends it with the answer's code; a stale answer is dropped and counted; INTENT_NOTICE_ACK lets the act go on. -/
def Obligations.LaunchesAreHandedOffAndAnswered : Prop :=
  (∀ (s u : State) (r : CmdRef) (c : Cmd), Begins s r Op.launch none c u → u.works r.queue = true → u.slices r.queue = true →
    c.skipped = false → c.phase = 0 → (∀ n, n < 48 → tst (pf c.bytes 8 47 0) n = true → (u.cd n).state = .inService) →
    u.serves (u.ctx (u.queue r.queue).ctx).home.other = false →
    exec (.launch r) s = .next
      ((u.modCmd r.queue c.slot fun d => { d with phase := 1, acts := 1 }).emit
        (.launch (u.queue r.queue).ctx (u.ctx (u.queue r.queue).ctx).gen (u.ctx (u.queue r.queue).ctx).pasid
          (pf c.bytes 0 56 8 * 256) (pf c.bytes 8 47 0) (pf c.bytes 16 31 0) (pf c.bytes 16 47 32) (pf c.bytes 16 63 48)
          ((c.bytes.drop (pOff c.bytes + 32)).take (pf c.bytes 24 8 0)) c.stamp))) ∧
  (∀ (s : State) (r : CmdRef) (c : Cmd) (gen code : Nat), s.rst.orphans.contains r = false → (s.ctx (s.queue r.queue).ctx).gen = gen →
    (s.queue r.queue).cmdAt r.slot = some c → hOpcode c.bytes = Op.launch → c.phase = 1 → c.acts ≠ 0 → launchCode code = true →
    Goes (.launchAnswer r gen code) s fun t =>
      t.queues = (s.modCmd r.queue c.slot fun d => { (d.finish code 0 s.time.bnd) with acts := 0 }).queues ∧
        (code ≠ E.ok → t.rst = s.rst) ∧ Same [.queues, .rst] s t) ∧
  (∀ (s : State) (r : CmdRef) (gen code : Nat), s.rst.orphans.contains r = false → (s.ctx (s.queue r.queue).ctx).gen ≠ gen →
    exec (.launchAnswer r gen code) s = .next s.staleCtx) ∧
  (∀ (s : State) (r : CmdRef) (gen code : Nat), s.rst.orphans.contains r = true →
    exec (.launchAnswer r gen code) s = .next (s.modRst fun x => { x with orphans := x.orphans.erase r }).staleDomain) ∧
  (∀ (s : State) (r : CmdRef) (c : Cmd), (s.queue r.queue).cmdAt r.slot = some c → c.notice = true → c.noticeAck = false →
    hOpcode c.bytes ≠ Op.launch →
    exec (.intentNoticeAck r) s = .next (s.modCmd r.queue c.slot fun d => { d with noticeAck := true }))

/-- ABORT (R181, R258, R510): the commands of the target that are neither spared nor aborted already end with HX_E_ABORTED, and the
ABORT ends with HX_OK and their number; of the commands that engines were moving, the last alone raises the vector. -/
def Obligations.AbortEndsTheTargetsCommands : Prop :=
  (∀ (s u : State) (r : CmdRef) (c : Cmd), Begins s r Op.abort none c u →
    exec (.abort r) s = .next
      ((u.abortQueue (pf c.bytes 0 13 0) fun d => pf c.bytes 0 13 0 = r.queue && d.slot = c.slot).finish r.queue c.slot E.ok
        ((u.queue (pf c.bytes 0 13 0)).cmds.countP fun d =>
          !(pf c.bytes 0 13 0 = r.queue && d.slot = c.slot) && !d.spared && !d.byAbort))) ∧
  (∀ (s : State) (n : Nat) (skip : Cmd → Bool) (l : List Cmd),
    l = (s.queue n).cmds.filter (fun c => !skip c && !c.spared && !c.byAbort) → (∀ c ∈ l, c.claims = []) →
    s.abortQueue n skip = s.modQueue n fun q =>
      { q with
        cmds := q.cmds.map fun c =>
          if (!skip c && !c.spared && !c.byAbort) = true then
            c.abortAt s.time.bnd (if l.any (fun c => c.begun && isEngine (hOpcode c.bytes)) then
              some (decide (l.getLast?.map (·.slot) = some c.slot)) else none)
          else c
        releasedAt := if l.any fun c => hOpcode c.bytes = Op.fenceWait && c.begun && c.result.isNone then s.time.bnd
          else q.releasedAt }) ∧
  (∀ (d : Cmd) (now : Nat) (v : Option Bool),
    (d.abortAt now v).result = some E.aborted ∧ (d.abortAt now v).forced = true ∧ (d.abortAt now v).byAbort = true ∧
      (d.abortAt now v).vector = v ∧ (accumulates d.bytes = false → (d.abortAt now v).claims = []) ∧
      (d.abortAt now v).residue = if d.begun then d.left else 0)

/-- COMMAND_COMPLETE (R33, R127): a queue's oldest command, ended, with its work landed, no half step due, nothing else left of
steps 1 and 2, no deferred position ahead of it and room for its completion steps, while no engine command reads its reply's bytes, takes
steps 3 to 5 and leaves the queue: its slots
are free. -/
def Obligations.CommandCompleteRetiresTheHead : Prop :=
  ∀ (s t : State) (qn code : Nat) (c : Cmd) (l : List Cmd), (s.queue qn).live = true → s.works qn = true →
    (s.queue qn).cmds = c :: l → (∀ d ∈ (s.queue qn).cmds, s.halfDue d = false) → c.result = some code → c.doneAt ≤ s.time.bnd →
    s.mapWaits qn c = false →
    (c.skipped = true ∨ (s.landed qn c = true ∧ (code ≠ E.ok ∨ hOpcode c.bytes ≠ Op.dispatch) ∧ statsAddr c.bytes = 0 ∧
      c.tally = [] ∧ (ctrlOf c.bytes).inv = false ∧ c.invDone = true)) →
    (s.queue qn).replyHeld c = false → (s.queue qn).deferred = [] → s.signalReady qn c code = true → s.stepsShort qn c code = none →
    s.inTheWay [] (s.replyRanges qn c) = [] → s.retire qn c code = some t → Quiet t (s.replyRanges qn c) →
    exec (.commandComplete qn) s = .next t ∧ (∀ d ∈ (t.queue qn).cmds, d.slot ≠ c.slot) ∧
      (t.queue qn).ret = c.slot + hChain c.bytes + 1

/-- MAP, UNMAP and INVALIDATE (R187, R188, R189), and a core's answer (R255): the checks of MAP answer their codes; entries written
take effect at the boundary; UNMAP that would split a page answers HX_E_BAD_FIELD; INVALIDATE drops translations at once and ends
when no core has still to answer; an answer of an older generation of its domain is dropped (R42). -/
def Obligations.MappingCommandsWriteEntries : Prop :=
  (∀ (s u : State) (r : CmdRef) (c : Cmd), Begins s r Op.map none c u →
    exec (.map r) s = .next
      (match u.mapRun (u.queue r.queue).ctx c.bytes with
      | .error code => u.finish r.queue c.slot code 0
      | .ok v => v.awaitEffect r.queue c.slot)) ∧
  (∀ (s u : State) (r : CmdRef) (c : Cmd), Begins s r Op.unmap none c u →
    (∀ x ∈ u.leaves (u.queue r.queue).ctx,
      (leafPage x.1 x.2.1 x.2.2.2).1 + (leafPage x.1 x.2.1 x.2.2.2).2 ≤ pf c.bytes 0 56 0 ∨
        pf c.bytes 0 56 0 + 4096 * pf c.bytes 8 44 0 ≤ (leafPage x.1 x.2.1 x.2.2.2).1) →
    exec (.unmap r) s = .next
      (((u.prune (u.queue r.queue).ctx 4).changes (u.queue r.queue).ctx (pf c.bytes 0 56 0 / 4096) (pf c.bytes 8 44 0) true).awaitEffect
        r.queue c.slot)) ∧
  (∀ (s u : State) (r : CmdRef) (c : Cmd) (x : Nat × Nat × Nat × Nat), Begins s r Op.unmap none c u →
    x ∈ u.leaves (u.queue r.queue).ctx → (leafPage x.1 x.2.1 x.2.2.2).1 < pf c.bytes 0 56 0 →
    pf c.bytes 0 56 0 < (leafPage x.1 x.2.1 x.2.2.2).1 + (leafPage x.1 x.2.1 x.2.2.2).2 → 0 < pf c.bytes 8 44 0 →
    exec (.unmap r) s = .next (u.finish r.queue c.slot E.badField 0)) ∧
  (∀ (s u : State) (r : CmdRef) (c : Cmd), Begins s r Op.invalidate none c u → tst (pw c.bytes 24) 1 = true →
    tst (pw c.bytes 24) 0 = false →
    exec (.invalidate r) s = .next
      ((u.purge (u.queue r.queue).ctx (pf c.bytes 0 56 0 / 4096)
        ((pf c.bytes 0 56 0 + pf c.bytes 8 39 0 + 4095) / 4096 - pf c.bytes 0 56 0 / 4096)).finish r.queue c.slot E.ok 0)) ∧
  (∀ (s u : State) (r : CmdRef) (c : Cmd), Begins s r Op.invalidate none c u → tst (pw c.bytes 24) 1 = false →
    tst (pw c.bytes 24) 0 = true → u.liveDomains (pf c.bytes 16 47 0) ≠ 0 → 0 < u.invRoom →
    exec (.invalidate r) s = .next
      (((u.modCmd r.queue c.slot fun d =>
          { d with
            invIssued := true, invLeft := 0, invRest := []
            invAt := (domainsOf (u.liveDomains (pf c.bytes 16 47 0))).map fun n => (n, 1) }).modQueue r.queue fun q =>
          { q with invTick := q.invTick + 1 }).emits
        [.coreInv ((domainsOf (u.liveDomains (pf c.bytes 16 47 0))).map fun n => (n, u.gen n)) (pf c.bytes 0 56 0) (pf c.bytes 8 39 0)
          ⟨r.queue, c.slot % (u.queue r.queue).slots⟩])) ∧
  (∀ (s u : State) (r : CmdRef) (c : Cmd), Begins s r Op.invalidate none c u → tst (pw c.bytes 24) 1 = false →
    tst (pw c.bytes 24) 0 = true → u.liveDomains (pf c.bytes 16 47 0) = 0 →
    exec (.invalidate r) s = .next ((u.modCmd r.queue c.slot fun d =>
      { d with invIssued := true, invAt := [], invLeft := 0, invRest := [] }).finish r.queue c.slot E.ok 0)) ∧
  (∀ (s : State) (r : CmdRef) (n : Fin 48) (g : Nat), g ≠ s.gen n.val → exec (.coreInvalidateDone ⟨r, n, g⟩) s = .next s.staleDomain) ∧
  (∀ (s : State) (r : CmdRef) (n : Fin 48), r.queue < 16384 →
    exec (.coreInvalidateDone ⟨r, n, s.gen n.val⟩) s = .next (s.modQueue r.queue fun q => { q with
      cmds := q.cmds.map fun c =>
        if c.slot % q.slots = r.slot then ({ c with invAt := lessAt c.invAt n.val } : Cmd).afterInv s.time.bnd else c })) ∧
  (∀ (c : Cmd) (now : Nat), (hOpcode c.bytes = Op.invalidate → c.invIssued = true → c.invDone = true →
    c.afterInv now = c.finish E.ok 0 now) ∧
    (c.invDone = false → c.afterInv now = c))

/-- OPEN, START, PARK, RESUME and SET_HOME (R46, R132, R133, R134, R190, R199) end with HX_OK, the context's transition standing from
the first boundary after the command's stamp (`State.atStamp`: the boundary at which the command starts, the model's reading, log
entry 170); a subop that the context's state does not allow ends with the code of R134 and changes nothing else. -/
def Obligations.ContextsOpenStartParkResume : Prop :=
  (∀ (s u : State) (r : CmdRef) (c : Cmd) (home : Side), CtlBegins s r 1 c u → u.tdiFrozen (pf c.bytes 0 18 12) = false →
    u.chooseHome (pf c.bytes 0 27 26) = some home →
    (∀ y ∈ u.ctxs, y.2.eff ≠ .free → y.2.func = pf c.bytes 0 18 12 →
      (pf c.bytes 0 18 12 = 0 ∨ y.2.loc ≠ pf c.bytes 0 24 19) ∧ (y.2.priv = true ∨ y.2.pasid ≠ pf c.bytes 8 19 0)) →
    (u.poolAt (pf c.bytes 16 63 12 * 4096)).isSome = true → u.poolBound (pf c.bytes 16 63 12 * 4096) = false →
    u.pasidHeld (pf c.bytes 0 11 0) = false →
    exec (.open_ r) s = .next (s.atStamp r
      ((((u.freeFences (pf c.bytes 0 11 0)).setMem (u.mem.clearPage (pf c.bytes 16 63 12 * 4096))).setCtx (pf c.bytes 0 11 0)
        { Ctx.none with
          next := some .opened, gen := (u.ctx (pf c.bytes 0 11 0)).gen, home := home, port := Side.ofBool (tst (pw c.bytes 0) 25),
          terminate := tst (pw c.bytes 0) 28, func := pf c.bytes 0 18 12, loc := pf c.bytes 0 24 19, pasid := pf c.bytes 8 19 0,
          pasidGen := ((u.ctx (pf c.bytes 0 11 0)).pasidGen + 1) % 256, share := pf c.bytes 0 47 32,
          root := pf c.bytes 16 63 12 * 4096 }).finish r.queue c.slot E.ok 0))) ∧
  (∀ (s u : State) (r : CmdRef) (c : Cmd), CtlBegins s r 2 c u →
    exec (.start r) s = .next (s.atStamp r
      ((u.setCtx (pf c.bytes 0 11 0) { u.ctx (pf c.bytes 0 11 0) with next := some .running }).finish r.queue c.slot E.ok 0))) ∧
  (∀ (s u : State) (r : CmdRef) (c : Cmd), CtlBegins s r 3 c u →
    exec (.park r) s = .next (s.atStamp r
      ((u.setCtx (pf c.bytes 0 11 0) { u.ctx (pf c.bytes 0 11 0) with next := some .parked }).finish r.queue c.slot E.ok 0))) ∧
  (∀ (s u : State) (r : CmdRef) (c : Cmd), CtlBegins s r 4 c u →
    exec (.resume r) s = .next (s.atStamp r
      ((u.setCtx (pf c.bytes 0 11 0) { u.ctx (pf c.bytes 0 11 0) with next := some .running, portPark := false }).finish
        r.queue c.slot E.ok 0))) ∧
  (∀ (s u : State) (r : CmdRef) (c : Cmd), CtlBegins s r 5 c u → u.serves (if pf c.bytes 0 13 12 = 1 then .a else .b) = true →
    exec (.setHome r) s = .next (s.atStamp r
      ((u.setCtx (pf c.bytes 0 11 0)
        { u.ctx (pf c.bytes 0 11 0) with homeNext := some (if pf c.bytes 0 13 12 = 1 then .a else .b) }).finish r.queue c.slot E.ok 0))) ∧
  (∀ (i : Instr) (s u : State) (r : CmdRef) (c : Cmd) (sub : Nat), startRow i = some (r, Op.contextCtl, some sub) →
    Checked s r Op.contextCtl sub c u → namesPriv sub (pf c.bytes 0 11 0) (pf c.bytes 0 25 12) = false → sub ≠ 0x32 →
    ctxCode sub (u.ctx (pf c.bytes 0 11 0)).eff ≠ E.ok →
    exec i s = .next (u.finish r.queue c.slot (ctxCode sub (u.ctx (pf c.bytes 0 11 0)).eff) 0))

/-- CLOSE, KILL and DRAIN_LIMIT (R133, R144, R145): teardown, or a drain of DRAIN_TICKS, begins at the first boundary after the
command's stamp (`State.atStamp`, the model's reading, log entry 170); the drain's end
begins the teardown at its own stamp, in the next tick where none is left (R36); the first trigger's code and stamp stand. -/
def Obligations.ContextsAreTornDown : Prop :=
  (∀ (s u : State) (r : CmdRef) (c : Cmd), CtlBegins s r 7 c u →
    exec (.kill r) s = .next (s.atStamp r
      ((u.unlockFor (pf c.bytes 0 11 0) c.stamp).beginTeardown (pf c.bytes 0 11 0) E.contextDead c.stamp))) ∧
  (∀ (s u v : State) (r : CmdRef) (c : Cmd), CtlBegins s r 6 c u → v = u.unlockFor (pf c.bytes 0 11 0) c.stamp →
    exec (.close r) s = .next (s.atStamp r
      (if tst (pw c.bytes 0) 12 = true ∧ (v.ctx (pf c.bytes 0 11 0)).teardown = none then
        v.setCtx (pf c.bytes 0 11 0)
          { v.ctx (pf c.bytes 0 11 0) with next := some .draining, drainLeft := some (pf c.bytes 0 47 32) }
       else v.beginTeardown (pf c.bytes 0 11 0) E.contextDead c.stamp))) ∧
  (∀ (s : State) (n : Nat), (s.ctx n).state = .draining → (s.ctx n).drainLeft = some 0 →
    (s.canStamp = true → exec (.drainLimit n) s = .next (s.stamp.2.beginTeardown n E.contextDead s.stamp.1)) ∧
    (s.canStamp = false → exec (.drainLimit n) s = .next (s.carry (.drainLimit n)))) ∧
  (∀ (s : State) (n code stamp : Nat), 2 ≤ n → (s.ctx n).state ≠ .free → (s.ctx n).state ≠ .dead →
    ((s.ctx n).teardown = none → s.beginTeardown n code stamp =
      s.setCtx n { s.ctx n with teardown := some (1, code), endStamp := stamp, next := none, drainLeft := none }) ∧
    ((s.ctx n).teardown ≠ none → s.beginTeardown n code stamp = s))

/-- Q_CREATE, Q_PARK, Q_RESUME, Q_STOP and Q_DESTROY (R126, R129, R131): their effects where the queue's state allows them, from
the first boundary after the command's stamp (`State.queueAtStamp`, the model's reading, log entry 170), and the codes of R131 where
it does not; a Q_CREATE of a queue that a Q_DESTROY before it is giving up waits for that (R191; log entry 177). -/
def Obligations.QueuesFollowTheirStates : Prop :=
  (∀ (s u : State) (r : CmdRef) (c : Cmd), CtlBegins s r 0x10 c u → (u.queue (pf c.bytes 0 25 12)).live = false →
    u.localQueue (pf c.bytes 0 11 0) (pf c.bytes 0 31 26) = none →
    pf c.bytes 0 47 37 < vecCount (u.ctx (pf c.bytes 0 11 0)).func →
    ((u.queuesOf (pf c.bytes 0 11 0)).filter fun n => (u.queue n).live && !(u.queue n).destroy).length < 64 →
    u.queueHeld (pf c.bytes 0 25 12) = false →
    exec (.qCreate r) s = .next
      ((u.setQueue (pf c.bytes 0 25 12)
        { Queue.none with
          live := true, gen := ((u.queue (pf c.bytes 0 25 12)).gen + 1) % 256, ctx := pf c.bytes 0 11 0, loc := pf c.bytes 0 31 26,
          size := pf c.bytes 0 36 32, vector := pf c.bytes 0 47 37, ring := pf c.bytes 8 56 12, reply := pf c.bytes 16 56 12 }).finish
        r.queue c.slot E.ok 0)) ∧
  (∀ (s u : State) (r : CmdRef) (c : Cmd), CtlBegins s r 0x10 c u → (u.queue (pf c.bytes 0 25 12)).destroy = true →
    (u.queue (pf c.bytes 0 25 12)).live = true → (∀ n, u.localQueue (pf c.bytes 0 11 0) (pf c.bytes 0 31 26) = some n →
      (u.queue n).destroy = true) →
    pf c.bytes 0 47 37 < vecCount (u.ctx (pf c.bytes 0 11 0)).func →
    ((u.queuesOf (pf c.bytes 0 11 0)).filter fun n => (u.queue n).live && !(u.queue n).destroy).length < 64 →
    exec (.qCreate r) s = .next u) ∧
  (∀ (i : Instr) (s u : State) (r : CmdRef) (c : Cmd) (q : Queue) (sub : Nat), 0x11 ≤ sub → sub ≤ 0x14 →
    startRow i = some (r, Op.contextCtl, some sub) → CtlBegins s r sub c u → q = u.queue (pf c.bytes 0 25 12) → q.live = true →
    q.ctx = pf c.bytes 0 11 0 → q.destroy = false →
    exec i s = .next (s.queueAtStamp r
      (if queueCode sub q.eff ≠ E.ok then u.finish r.queue c.slot (queueCode sub q.eff) 0
       else (u.setQueue (pf c.bytes 0 25 12)
        (if sub = 0x11 then q.park E.queueParked (q.ret % q.slots)
         else if sub = 0x12 then q.resume (tst (pw c.bytes 0) 26) u.time.bnd
         else if sub = 0x13 then { q with next := some .stopped, parking := none }
         else { q with destroy := true })).finish r.queue c.slot E.ok 0))) ∧
  (∀ (q : Queue) (now : Nat), q.resume false now =
    { q with reject := none, rejectDone := false, parking := none,
             next := some (if q.cmds = [] ∧ q.cons = q.prod then .idle else .active) })

/-- OBJ_CREATE, OBJ_FREE and OBJECT_FREED (R135, R137, R198): a freed object's mappings are removed as UNMAP removes them, and one that
had some waits for the accesses under way through them (`uses`). -/
def Obligations.ObjectsAreMadeAndFreed : Prop :=
  (∀ (s u v : State) (r : CmdRef) (c : Cmd) (start i : Nat), CtlBegins s r 0x20 c u →
    (pf c.bytes 24 15 0 % 2 = 1 → pf c.bytes 0 11 0 < 2) →
    pf c.bytes 8 63 16 * 65536 + 65536 * pf c.bytes 16 24 0 ≤ tableBase →
    u.objOverlap (pf c.bytes 0 11 0) (pf c.bytes 8 63 16 * 65536) (65536 * pf c.bytes 16 24 0) = false →
    windowAttrBad u (pf c.bytes 0 11 0) (pf c.bytes 8 63 16 * 65536) (pf c.bytes 16 24 0) (pf c.bytes 24 15 0) = false →
    (∀ y ∈ u.objs, y.2.state ≠ .free → y.2.mark ≠ some (c.mark r.queue)) → u.free 4194304 = (start, v) →
    nextFree (fun i => decide ((v.obj i).state ≠ .free) || (v.obj i).scrub) 4194304 (v.objs.length + 1) start = some i →
    exec (.objCreate r) s = .next
      ((v.setObj i
        { Obj.none with
          state := .live, base := pf c.bytes 8 63 16 * 65536, size64k := pf c.bytes 16 24 0, owner := pf c.bytes 0 11 0,
          attr := pf c.bytes 24 15 0, mark := some (c.mark r.queue) }).finish r.queue c.slot E.ok i)) ∧
  (∀ (s u : State) (r : CmdRef) (c : Cmd) (o : Obj), CtlBegins s r 0x21 c u → o = u.obj (pf c.bytes 0 33 12) → o.state = .live →
    o.owner = pf c.bytes 0 11 0 → (o.attr % 2 = 1 → u.poolBound o.base = false) →
    exec (.objFree r) s = .next
      (u.setObj (pf c.bytes 0 33 12) { o with state := .retiring, freeStamp := c.stamp, freeCmd := some ⟨r.queue, c.slot⟩ })) ∧
  (∀ (s u : State) (r : CmdRef) (c : Cmd), CtlBegins s r 0x21 c u → (u.obj (pf c.bytes 0 33 12)).state = .retiring →
    (u.obj (pf c.bytes 0 33 12)).owner = pf c.bytes 0 11 0 →
    exec (.objFree r) s = .next (u.finish r.queue c.slot E.objectRetiring 0)) ∧
  (∀ (s : State) (i : Nat), (s.obj i).state = .retiring → (s.obj i).unmapped = false → s.refs i = 0 →
    Goes (.objectFreed i) s fun t =>
      t.objs = (s.setObj i { s.obj i with
        unmapped := true
        uses :=
          if (s.obj i).owner < 2 ∨ (s.ctx (s.obj i).owner).state = .free ∨ (s.ctx (s.obj i).owner).state = .dead ∨
            (∀ x ∈ s.leaves (s.obj i).owner, ¬(eType x.2.2.2 = 0 ∧ bits x.2.2.2 63 42 = i)) then some [] else none }).objs ∧
      ((s.obj i).owner < 2 → t.xlt = s.xlt) ∧ Same [.objs, .xlt] s t) ∧
  (∀ (s : State) (i : Nat), s.refs i ≠ 0 → exec (.objectFreed i) s = .next s)

/-- FENCE_ALLOC, FENCE_RESET and FENCE_FREE (R119, R138, R140, R142). -/
def Obligations.FencesAreMadeResetAndFreed : Prop :=
  (∀ (s u v : State) (r : CmdRef) (c : Cmd) (start i : Nat), CtlBegins s r 0x30 c u →
    (pf c.bytes 0 47 32 = 0 ∨ (pf c.bytes 0 47 32 = (u.ctx (pf c.bytes 0 11 0)).share ∧
      (u.tdiFrozen (u.ctx (pf c.bytes 0 11 0)).func = false ∨
        ∀ y ∈ u.ctxs, y.2.eff ≠ .free → y.2.share = pf c.bytes 0 47 32 → y.2.func = (u.ctx (pf c.bytes 0 11 0)).func))) →
    (∀ y ∈ u.fences, y.2.live = true → y.2.mark ≠ some (c.mark r.queue)) → u.free 1048576 = (start, v) →
    nextFree (fun i => (v.fence i).live) 1048576 (v.fences.length + 1) start = some i →
    exec (.fenceAlloc r) s = .next
      ((v.setFence i
        { Fence.none with
          live := true, value := pw c.bytes 8, hostAddr := pw c.bytes 16, tag := ((v.fence i).tag + 1) % 4096,
          mode := pf c.bytes 0 13 12, scope := pf c.bytes 0 15 14, owner := pf c.bytes 0 11 0, share := pf c.bytes 0 47 32,
          mark := some (c.mark r.queue) }).finish r.queue c.slot E.ok (fHandle i (((v.fence i).tag + 1) % 4096)))) ∧
  (∀ (s u : State) (r : CmdRef) (c : Cmd) (f : Fence), CtlBegins s r 0x31 c u → u.fenceOf (ph c.bytes 8) = some f →
    f.owner = pf c.bytes 0 11 0 →
    exec (.fenceReset r) s = .next
      (if f.state ≠ .broken then u.finish r.queue c.slot E.badField 0
       else (u.putFence (fIndex (ph c.bytes 8))
          { f with state := if f.signallers > 0 then .pending else .signalled, code := E.ok }).finish r.queue c.slot E.ok 0)) ∧
  (∀ (s u : State) (r : CmdRef) (c : Cmd) (f : Fence), CtlBegins s r 0x32 c u → u.fenceOf (ph c.bytes 8) = some f →
    f.owner = pf c.bytes 0 11 0 →
    exec (.fenceFree r) s = .next
      ((u.putFence (fIndex (ph c.bytes 8))
        ({ f with freeing := true, freeCmd := some ⟨r.queue, c.slot⟩ }.breakWith E.aborted)).settleFree (fIndex (ph c.bytes 8))))

/-- A FENCE_ALLOC that finds no fence index free, and an OBJ_CREATE that finds no object index free, end with HX_E_BAD_LENGTH, and
nothing is allocated (R508, R135). -/
def Obligations.FullTablesAnswerBadLength : Prop :=
  (∀ (s u : State) (r : CmdRef) (c : Cmd), CtlBegins s r 0x30 c u →
    (pf c.bytes 0 47 32 = 0 ∨ (pf c.bytes 0 47 32 = (u.ctx (pf c.bytes 0 11 0)).share ∧
      (u.tdiFrozen (u.ctx (pf c.bytes 0 11 0)).func = false ∨
        ∀ y ∈ u.ctxs, y.2.eff ≠ .free → y.2.share = pf c.bytes 0 47 32 → y.2.func = (u.ctx (pf c.bytes 0 11 0)).func))) →
    (∀ y ∈ u.fences, y.2.live = true → y.2.mark ≠ some (c.mark r.queue)) → (∀ i < 2 ^ 20, (u.fence i).live = true) →
    Goes (.fenceAlloc r) s fun t => t.queues = (u.finish r.queue c.slot E.badLength 0).queues ∧ t.fences = u.fences) ∧
  (∀ (s u : State) (r : CmdRef) (c : Cmd), CtlBegins s r 0x20 c u →
    (pf c.bytes 24 15 0 % 2 = 1 → pf c.bytes 0 11 0 < 2) →
    pf c.bytes 8 63 16 * 65536 + 65536 * pf c.bytes 16 24 0 ≤ tableBase →
    u.objOverlap (pf c.bytes 0 11 0) (pf c.bytes 8 63 16 * 65536) (65536 * pf c.bytes 16 24 0) = false →
    windowAttrBad u (pf c.bytes 0 11 0) (pf c.bytes 8 63 16 * 65536) (pf c.bytes 16 24 0) (pf c.bytes 24 15 0) = false →
    (∀ y ∈ u.objs, y.2.state ≠ .free → y.2.mark ≠ some (c.mark r.queue)) →
    (∀ i < 2 ^ 22, (u.obj i).state ≠ .free) →
    Goes (.objCreate r) s fun t => t.queues = (u.finish r.queue c.slot E.badLength 0).queues ∧ t.objs = s.objs)

/-- STAGE, RELEASE, COMMIT and WITHDRAW (R72 to R74, R77, R78, R193, R198, R506). -/
def Obligations.PlansAreStagedAndCommitted : Prop :=
  (∀ (s u : State) (r : CmdRef) (c : Cmd) (o : Obj) (a : Nat), PlanBegins s r 1 c u → (u.slot (pf c.bytes 0 1 0)).state = .empty →
    o = u.obj (pf c.bytes 8 21 0) → o.attr % 2 = 0 → a = o.base + pw c.bytes 16 → u.imageCode a (65536 * o.size64k - pw c.bytes 16) = E.ok →
    exec (.stage r) s = .next
      (u.setSlot (pf c.bytes 0 1 0)
        { PlanSlot.none with
          state := .loading, period := rd (u.mem.readN a 128) 6 1, keep := rd (u.mem.readN a 128) 7 1,
          cycle := rd (u.mem.readN a 128) 8 1 + 1, cap0 := rd (u.mem.readN a 128) 0xA 2, cap1 := rd (u.mem.readN a 128) 0xC 2,
          planId := w64 (rd (u.mem.readN a 128) 0x20 8), digest := (u.mem.image a).digest, both := (u.mem.image a).both,
          alone := (u.mem.image a).alone, obj := some (pf c.bytes 8 21 0), loadedAt := u.time.bnd, stage := some ⟨r.queue, c.slot⟩ })) ∧
  (∀ (s u : State) (r : CmdRef) (c : Cmd), PlanBegins s r 1 c u → (u.slot (pf c.bytes 0 1 0)).state ≠ .empty →
    exec (.stage r) s = .next (u.finish r.queue c.slot E.locked 0)) ∧
  (∀ (s u : State) (r : CmdRef) (c : Cmd), PlanBegins s r 1 c u → (u.slot (pf c.bytes 0 1 0)).state = .empty →
    (u.obj (pf c.bytes 8 21 0)).attr % 2 = 1 → exec (.stage r) s = .next (u.finish r.queue c.slot E.xltPerm 0)) ∧
  (∀ (s u : State) (r : CmdRef) (c : Cmd) (p : PlanSlot), PlanBegins s r 4 c u → p = u.slot (pf c.bytes 0 1 0) →
    exec (.release r) s = .next
      (if p.state = .empty then u.finish r.queue c.slot E.badField 0
       else if p.state = .pending ∨ p.state = .active then u.finish r.queue c.slot E.locked 0
       else (((u.setSlot (pf c.bytes 0 1 0) .none).finishRef p.stage E.aborted).finish r.queue c.slot E.ok 0))) ∧
  (∀ (s u : State) (r : CmdRef) (c : Cmd) (p : PlanSlot) (t : Nat), PlanBegins s r 2 c u → p = u.slot (pf c.bytes 0 1 0) →
    u.time.agreed = true → p.state = .loading ∨ p.state = .staged → pf c.bytes 0 3 2 = 1 → t = pf c.bytes 8 47 0 →
    c.admTick + 3 ≤ t → t ≤ c.admTick + 2 ^ 20 → p.period = u.time.period → u.plan.pend = none →
    exec (.commit r) s = .next
      ((u.setSlot (pf c.bytes 0 1 0) { p with state := .pending, prev := p.state }).modPlan fun x =>
        { x with pend := some { slot := pf c.bytes 0 1 0, tick := t, fabric := false, group := pf c.bytes 0 31 16,
                                cmd := ⟨r.queue, c.slot⟩, check := none, decision := none, results := [], sent := false } })) ∧
  (∀ (s u : State) (r : CmdRef) (c : Cmd), PlanBegins s r 2 c u → u.time.agreed = true →
    (u.slot (pf c.bytes 0 1 0)).state ≠ .loading → (u.slot (pf c.bytes 0 1 0)).state ≠ .staged →
    exec (.commit r) s = .next (u.finish r.queue c.slot
      (match (u.slot (pf c.bytes 0 1 0)).state with | .empty => E.planNotStaged | .pending => E.locked | _ => E.badField) 0)) ∧
  (∀ (s u : State) (r : CmdRef) (c : Cmd) (m : Commit), PlanBegins s r 3 c u → u.plan.pend = some m → m.slot = pf c.bytes 0 1 0 →
    (u.slot m.slot).state = .pending →
    exec (.withdraw r) s = .next
      (if m.check.isSome then u.finish r.queue c.slot E.locked 0
       else (((u.withdraw m E.aborted).modPlan fun x => { x with withdrawn := true }).modCmd m.cmd.queue m.cmd.slot fun c =>
        { c with quietFence := true }).finish r.queue c.slot E.ok 0))

/-- Loading and the two-phase switch (R26, R70, R74, R78, R79, R80): acknowledgements, the load's limit of 64 ticks, the staging check,
the results that go up a group's tree, the root's decision and its way down, a decision missed, and the throttle's inputs. -/
def Obligations.PlanEventsDecideSwitches : Prop :=
  (∀ (s : State) (i : Fin 4) (u : PlanUnit) (p : PlanSlot), p = (s.slot i.val).ackBy u → (s.slot i.val).stage.isSome = true →
    (s.slot i.val).failed = false → s.unitServes u = true →
    exec (.planUnitAck i u) s = .next
      (if s.allAcked p = true then
        (s.setSlot i.val { p with state := if p.state = .loading then .staged else p.state, stage := none }).finishRef p.stage E.ok
       else s.setSlot i.val p)) ∧
  (∀ (s : State) (i : Fin 4) (p : PlanSlot), p = s.slot i.val → p.stage.isSome = true → p.failed = false →
    p.loadedAt + 64 ≤ s.time.bnd →
    exec (.planLoadTimeout i) s = .next
      ((s.setSlot i.val (match p.state with
        | .pending => { p with failed := true, stage := none }
        | .loading | .empty => .none
        | .staged | .active => { p with stage := none })).finishRef p.stage E.planNotStaged)) ∧
  (∀ (s : State) (m k : Commit), s.plan.pend = some m → m.check = none → s.time.tick = s.checkTick m →
    k = { m with
      check := some (s.allAcked (s.slot m.slot) && !(s.slot m.slot).failed)
      decision := if m.fabric then m.decision else some (s.allAcked (s.slot m.slot) && !(s.slot m.slot).failed) } →
    (m.fabric = false ∨ m.sent = true ∨ s.rankIn m.group = 0 ∨ s.groupResult k = none →
      exec .planStagingCheck s = .next (s.modPlan fun x => { x with pend := some k })) ∧
    (∀ ok, m.fabric = true → m.sent = false → s.rankIn m.group ≠ 0 → s.groupResult k = some ok →
      exec .planStagingCheck s = .next
        ((s.modPlan fun x => { x with pend := some { k with sent := true } }).emit
          (.planHop (s.treeAbove m.group) m.group m.tick true ok)))) ∧
  (∀ (s : State) (m : Commit) (dev : Nat) (ok : Bool), s.plan.pend = some m → m.fabric = true → dev ∈ s.treeBelow m.group →
    (∀ r ∈ m.results, r.1 ≠ dev) →
    exec (.planGroupDecision ⟨dev, m.group, m.tick, true, ok⟩) s = .next
      (s.modPlan fun x => { x with pend := some { m with results := m.results ++ [(dev, ok)] } }).reportUp) ∧
  (∀ (s : State) (m : Commit) (ok : Bool), s.plan.pend = some m → m.fabric = true → m.check.isSome = true → m.decision = none →
    s.rankIn m.group ≠ 0 → s.time.tick + 2 ≤ m.tick → m.tick ≤ s.time.tick + 1 + s.commitDepth true m.group →
    exec (.planGroupDecision ⟨s.treeAbove m.group, m.group, m.tick, false, ok⟩) s = .next
      ((s.tellDecision m.group m.tick ok).modPlan fun x =>
        { x with pend := some { m with decision := some (ok && decide (m.check = some true)) } })) ∧
  (∀ (s : State) (m : Commit), s.plan.pend = some m → m.fabric = true → m.decision = none → s.rankIn m.group = 0 →
    m.tick ≤ s.time.tick + 1 + s.commitDepth true m.group →
    s.rootDecides = (s.modPlan fun x => { x with pend := some { m with decision := some (decide (s.groupResult m = some true)) }
      }).tellDecision
      m.group m.tick (decide (s.groupResult m = some true))) ∧
  (∀ (s : State) (m : Commit), s.plan.pend = some m → m.fabric = true → m.decision = none → s.rankIn m.group ≠ 0 →
    s.time.tick + 2 = m.tick →
    Goes .planDecisionMissed s fun t =>
      t.plan.pend = none ∧ t.plan.diverged = true ∧ t.plan.active = s.plan.active ∧ tst t.rst.chip 0 = true ∧
      t.queues = (s.finish m.cmd.queue m.cmd.slot E.planNotStaged 0).queues) ∧
  (∀ (s : State) (on limit : Bool), exec (.throttleRequest ⟨on, limit⟩) s = .next
    (s.modPlan fun p => { p with request := on, limit := limit }))

/-- TICK_BOUNDARY (R53, R55, R56, R59, R477): the tick is advanced and the boundary event stamped, then its parts are taken in
order, then the new tick begins; with no clock, or before the PLLs have locked, no tick runs. -/
def Obligations.BoundariesAdvanceTheTick : Prop :=
  (∀ (s : State) (a b : Bool), s.clk.phase = 4 ∨ s.clk.phase = 5 → s.clk.dead = false →
    exec (.tickBoundary a b) s = .next
      ((({ s with time := s.time.advance } : State).stampBoundary.boundaryEvent a b).tickBegins)) ∧
  (∀ (s : State) (a b : Bool), (s.clk.phase ≠ 4 ∧ s.clk.phase ≠ 5) ∨ s.clk.dead = true → exec (.tickBoundary a b) s = .next s) ∧
  (∀ t : Time, t.advance.bnd = t.bnd + 1 ∧ t.advance.us = t.us + periodUs t.period ∧ t.advance.period = t.period ∧
    t.advance.last = t.last) ∧
  (∀ t : Time, t.agreed = true → t.jumpTo = none → t.tick + 1 < 2 ^ 48 → t.advance.tick = t.tick + 1 ∧ t.advance.seq = 0) ∧
  (∀ (t : Time) (n : Nat), t.agreed = true → t.jumpTo = some n → t.tick + 1 < n → n < 2 ^ 48 →
    t.advance.tick = n ∧ t.advance.jumped = true) ∧
  (∀ t : Time, t.agreed = false → t.jumpTo = none → t.advance.tick = 0 ∧ t.advance.seq = t.seq) ∧
  (∀ s : State, s.lead.isSome = true → s.time.seq < 65535 →
    s.stampBoundary.time = { s.time with
      seq := s.time.seq + 1, last := s.time.tick * 65536 + s.time.seq, bstamp := s.time.tick * 65536 + s.time.seq })

/-- A window in which nothing is to be claimed is counted idle, and its engine's micro-TLB is empty; one that the set in force does not
give, or before which an earlier entry of its engine has its window, is no window (R63, R206, R242, R246). -/
def Obligations.WindowsFollowTheSetInForce : Prop :=
  (∀ (s v : State) (n : Fin 40) (i : Nat) (e : Word), s.entries[i]? = some e → enKind e = 0 → enRes e = n.val →
    enApplies e s.cyclePos = true → (n.val, i) ∉ s.plan.windows → s.acts (engineTwin n.val) = true →
    (∀ x ∈ s.windowsAhead n.val i, (n.val, x.2) ∈ s.plan.windows) →
    v = ((s.waitEnds n.val).modPlan fun p => { p with windows := p.windows ++ [(n.val, i)] }) → 0 < v.units e - v.tookUnits i e →
    v.nextWork n.val (enQueue e) = none →
    exec (.ceWindowStart n i) s = .next
      (((v.modXlt fun x => { x with micro := x.micro.filter fun m => m.engine ≠ n.val }).modPlan fun p =>
        { p with waits := Tbl.del p.waits n.val }).modEngine n.val fun x => { x with idle := satAdd (2 ^ 32 - 1) x.idle 1 })) ∧
  (∀ (s : State) (n : Fin 40) (i : Nat) (e : Word), s.entries[i]? = some e →
    (enKind e ≠ 0 ∨ enRes e ≠ n.val ∨ enApplies e s.cyclePos = false ∨ (n.val, i) ∈ s.plan.windows ∨ s.acts (engineTwin n.val) = false ∨
      ∃ x ∈ s.windowsAhead n.val i, (n.val, x.2) ∉ s.plan.windows) →
    exec (.ceWindowStart n i) s = .next s)

/-- A COPY of at most one unit between pages of device memory that share no byte, of which no agent holds a line, which is the one
unretired command of its queue and whose cost fills the window (R231, R234, R241 to R244, R246), with no other engine command under way
and no error in the engine's burst buffer: its destination then holds what its source held, every other byte of memory is as before,
and its work has ended. -/
def Obligations.WindowMovesACopysBytes : Prop :=
  ∀ (s v : State) (n : Fin 40) (i : Nat) (e : Word) (c : Cmd) (a d len : Nat),
    s.entries[i]? = some e → enKind e = 0 → enRes e = n.val → enApplies e s.cyclePos = true → (n.val, i) ∉ s.plan.windows →
    s.acts (engineTwin n.val) = true → (∀ x ∈ s.windowsAhead n.val i, (n.val, x.2) ∈ s.plan.windows) →
    v = ((s.waitEnds n.val).modPlan fun p => { p with windows := p.windows ++ [(n.val, i)] }) →
    v.mayStart (v.windowFrom n.val i) = true →
    v.nextWork n.val (enQueue e) = some (c, 0) → (v.queue (enQueue e)).cmds = [c] → hOpcode c.bytes = Op.copy →
    pathOf c.bytes = 0 → c.point = 0 → c.above = [] → c.poisoned = false → c.blurred = false → c.forced = false → c.ends = none →
    c.result = none → len = pf c.bytes 16 39 0 → 0 < len → len ≤ 4096 →
    (∀ x, x = v ∨ x = v.engineView n.val (enQueue e) →
      x.pieces (v.queue (enQueue e)).ctx .read (pf c.bytes 0 56 0) len = [(pf c.bytes 0 56 0, len, .loc a)] ∧
      x.pieces (v.queue (enQueue e)).ctx .write (pf c.bytes 8 56 0) len = [(pf c.bytes 8 56 0, len, .loc d)]) →
    unitCost c.bytes (plainWork c.bytes 0 len) [⟨0, pf c.bytes 0 56 0, len, .loc a⟩] [⟨0, pf c.bytes 8 56 0, len, .loc d⟩] =
      32 * (v.units e - v.tookUnits i e) → 0 < v.units e - v.tookUnits i e →
    (Ctrl.ofNat (pw c.bytes (ctrlOff Op.copy))).inv = false → v.inTheWay [(a, len)] [(d, len)] = [] →
    a + len ≤ d ∨ d + len ≤ a → s.mem.anyPoison a len = false → s.mem.wf = true →
    (v.engine n.val).spoil ≠ some ((v.queue (enQueue e)).ctx, v.time.bnd) →
    (∀ y ∈ s.queues, ∀ k ∈ y.2.cmds, k.begun = true → isEngine (hOpcode k.bytes) = true → y.1 = enQueue e ∧ k.slot = c.slot) →
    Goes (.ceWindowStart n i) s fun t =>
      t.mem.readN d len = s.mem.readN a len ∧
      (∀ x, x < d ∨ d + len ≤ x → t.mem.read x = s.mem.read x) ∧
      ∃ y, (t.queue (enQueue e)).cmd c.slot = some y ∧ y.result = some E.ok ∧ y.residue = 0 ∧ y.doneAt = s.time.bnd + 1

/-- COLLECTIVE (R383 to R387, R389): each subop begins with its record and makes its first step; goes on with a step in a later
tick; a barrier's root whose members have all arrived releases them and ends with HX_OK; a member that has waited COLL_TIMEOUT ticks
aborts with HX_E_LINK_LOST. -/
def Obligations.CollectivesBeginStepAndEnd : Prop :=
  (∀ (i : Instr) (s u : State) (r : CmdRef) (c : Cmd) (sub : Nat), startRow i = some (r, Op.collective, some sub) →
    Begins s r Op.collective (some sub) c u → s.collOf r = none → exec i s = .next ((u.collBegin r c.bytes).collStep r)) ∧
  (∀ (i : Instr) (s : State) (r : CmdRef) (sub : Nat), startRow i = some (r, Op.collective, some sub) → (s.collOf r).isSome = true →
    exec i s = .next (s.collStep r)) ∧
  (∀ (s : State) (r : CmdRef) (b : List Byte), (s.collPar b).q = 0 → s.fab.early = [] → s.fab.earlyCtl = [] →
    (s.collBegin r b).fab.colls = s.fab.colls ++
      [{ ref := r, group := pf b 16 63 48, tag := pf b 16 47 16, up := 0, down := 0, inbox := [], arrivals := [], released := false,
         sent := false, startAt := s.time.bnd, last := none, waitFrom := s.time.bnd, sat := 0, nan := 0 }]) ∧
  (∀ (s : State) (r : CmdRef) (c : Coll) (d : Cmd), s.collOf r = some c → (s.queue r.queue).cmdAt r.slot = some d →
    hSubop d.bytes = 6 → (s.collPar d.bytes).q = 0 → c.last ≠ some s.time.bnd → d.stall = none → d.result = none → d.poisoned = false →
    s.clk.cutS = false → s.acts (s.ctx (s.queue r.queue).ctx).home = true → s.slices r.queue = true →
      c.startAt + (s.collPar d.bytes).depth ≤ s.time.bnd →
    (∀ q ∈ (s.collPar d.bytes).children, (s.collPar d.bytes).rankOf q ∈ c.arrivals) → c.released = false → c.sat = 0 → c.nan = 0 →
    Goes (.collectiveBarrier r) s fun t =>
      t.collOf r = none ∧ ∃ e, (t.queue r.queue).cmdAt r.slot = some e ∧ e.result = some E.ok ∧
        e.doneAt = s.time.bnd + (s.collPar d.bytes).depth) ∧
  (∀ (s : State) (r : CmdRef) (c : Coll) (d : Cmd), s.collOf r = some c → (s.queue r.queue).cmdAt r.slot = some d →
    c.waitFrom + s.collTicks ≤ s.time.bnd →
    exec (.collTimeout r) s = .next (s.collAbort (s.collPar d.bytes) r E.linkLost E.linkLost))

/-- Every row that is one register's write, and REGISTER_WRITE of the register's offset (R13, R14, R470, R97): a reserved bit or an
illegal value rejects the write as a whole with HX_E_BAD_FIELD, a register that only the management controller writes with
HX_E_NOT_AUTHORISED, a misaligned offset with HX_E_BAD_LENGTH, poisoned data with HX_E_POISONED; a legal write does what the
register's own rules say, or is rejected with their code. A rejection changes HX_FLT_REG_ERR of the function alone, and poisoned data is
reported to its
function's AER too. A write that arrives at a port behind a waiting one waits in its turn (R96). -/
def Obligations.RegisterWritesAreTakenOrRejectedWhole : Prop :=
  (∀ (i : Instr) (s : State) (p : Path) (r : Reg) (v : Word), writeRow i = some (p, r, v) ∨ i = .registerWrite p r.offset v false →
    Reaches s p → regAt (Path.func p) r.offset = some r →
    exec i s = .next
      (if r.mgmtOnly = true ∧ Path.fn p ≠ none then s.regErr p 0 r.offset E.notAuthorised
       else if Nat.land v.toNat r.mask ≠ v.toNat ∨ Reg.illegal (Path.func p) v.toNat r = true then s.regErr p 0 r.offset E.badField
       else match s.pokeReg p v.toNat r with
        | .ok t => t.inta
        | .error code => s.regErr p 0 r.offset code)) ∧
  (∀ (s : State) (p : Path) (o : Nat) (v : Word), s.atOnce p = true → s.deaf p = false →
    exec (.registerWrite p o v true) s = .next ((s.aerPoison p).regErr p 0 o E.poisoned)) ∧
  (∀ (s : State) (p : Path) (o : Nat) (v : Word) (b : Bool), s.atOnce p = true → s.deaf p = true →
    exec (.registerWrite p o v b) s = .next s) ∧
  (∀ (s : State) (p : Side) (f : Fin 128) (n : Option (Fin 8)) (o : Nat) (v : Word) (b : Bool), s.atOnce (.bar p f n) = false →
    exec (.registerWrite (.bar p f n) o v b) s = .next (s.modPort p fun x =>
      { x with behind := x.behind ++ [.cmd (.registerWrite (.bar p f n) o v b)] })) ∧
  (∀ (s : State) (p : Path) (o : Nat) (v : Word), Reaches s p → o % 8 ≠ 0 →
    exec (.registerWrite p o v false) s = .next (s.regErr p 0 o E.badLength)) ∧
  (∀ (s : State) (p : Path) (o code : Nat) (q : Side) (f : Nat), Path.fn p = some (q, f) →
    s.regErr p 0 o code = s.modFunc q f fun x =>
      { x with errCount := satAdd 32767 x.errCount 1, errCode := code, errSpace := 0, errOffset := o % 2 ^ 25 })

/-- An offset in BAR0 that holds no register reads as zero; a write to it is discarded and recorded with HX_E_BAD_FIELD (R17). -/
def Obligations.HolesReadZeroAndTakeNoWrite : Prop :=
  ∀ (s : State) (p : Path) (q : Side) (f o : Nat) (v : Word), Path.fn p = some (q, f) → placeAt f o = .nothing →
    s.readAt p o = (0, s) ∧
    (Reaches s p → o % 8 = 0 → exec (.registerWrite p o v false) s = .next (s.modFunc q f fun x =>
      { x with errCount := satAdd 32767 x.errCount 1, errCode := E.badField, errSpace := 0, errOffset := o % 2 ^ 25 }))

/-- HX_CMD_STAMP_LAST holds the last stamp that the lead order point issued, and reads the same by every path (R39). -/
def Obligations.StampLastShowsTheLastStamp : Prop :=
  (∀ (s : State) (p : Path), s.readReg p .cmdStampLast = (s.time.last, s)) ∧
  (∀ (s : State), s.lead ≠ none →
    ∃ n t, s.stamp = (n, t) ∧ ∀ p, t.readReg p .cmdStampLast = (n, t)) ∧
  (∀ p, State.reset.readReg p .cmdStampLast = (0xFFFFFFFFFFFFFFFF, State.reset))

/-- Accesses of BAR0 by width, and the two reads that do something (R16, R433, R478): an aligned read of 4 or 8 bytes returns the half
or the whole of what it addresses; a read of another width or alignment returns zeros and is recorded with HX_E_BAD_LENGTH, a write is
discarded and recorded; SAMPLE_DATA_READ returns the selected
word and moves WORD on; CLK_STATUS_READ marks the ready flags that it returns as seen. The rows that
clear counts set each count to zero, clear the bits written as one, and change nothing else. -/
def Obligations.ReadsReturnAndClearsSetToZero : Prop :=
  (∀ (s : State) (p : Path) (o w : Nat) (isWrite : Bool), Reaches s p → ¬ (0 < w ∧ o % w = 0 ∧ (w = 8 ∨ (w = 4 ∧ isWrite = false))) →
    exec (.bar0BadAccess p o w isWrite) s = .next
      (if isWrite = true then s.regErr p 0 o E.badLength else (s.regErr p 0 o E.badLength).emit (.regData p o 0))) ∧
  (∀ (s t : State) (p : Path) (o w v : Nat), Reaches s p → w = 4 ∨ w = 8 → o % w = 0 → s.readAt p (o - o % 8) = (v, t) →
    exec (.bar0BadAccess p o w false) s = .next
      (t.emit (.regData p o (w64 (if w = 8 then v else if o % 8 = 0 then v % 2 ^ 32 else v / 2 ^ 32 % 2 ^ 32))))) ∧
  (∀ (s : State) (p : Path), Reaches s p → Path.func p = 0 →
    exec (.clkStatusRead p) s = .next ((s.modClk Clk.markSeen).emit (.regData p 0x109000 (w64 s.clk.status)))) ∧
  (∀ (s : State) (p : Path) (n core word : Nat) (d : List Byte), Reaches s p → Path.func p = 0 →
    n = bits (s.sel p .rstSampleSel) 18 13 → core = bits (s.sel p .rstSampleSel) 12 9 → word = bits (s.sel p .rstSampleSel) 8 0 →
    (s.cd n).owners = [] → Tbl.find (s.cd n).sample core = some (some d) →
    exec (.sampleDataRead p) s = .next
      ((s.setSel p .rstSampleSel (s.sel p .rstSampleSel - word + (word + 1) % 512)).emit
        (.regData p Reg.rstSampleData.offset (w64 (rd d (8 * word) 8))))) ∧
  (∀ (s : State) (p : Path) (n : Nat), Reaches s p → Path.func p = 0 → n = bits (s.sel p .rstSampleSel) 18 13 →
    (s.cd n).owners = [] → (s.cd n).sample = [] →
    ∃ v, exec (.sampleDataRead p) s = .next ((s.setSel p .rstSampleSel v).emit (.regData p Reg.rstSampleData.offset 0))) ∧
  (∀ (s : State) (p : Path) (v : Word), Writes s p .cmdJournalStatus v → tst v.toNat 63 = true →
    exec (.journalStatusClear p v) s = .next (s.modPort (Path.side p) fun x =>
      { x with replays := 0, discards := 0, refused := 0, flushErr := x.flushErr && !tst v.toNat 31,
               full := x.full && !tst v.toNat 30 }).inta) ∧
  (∀ (s : State) (p : Path) (v : Word), Writes s p .xltStatus v → tst v.toNat 63 = true →
    exec (.xltStatusClear p v) s = .next (s.modFunc (Path.side p) (Path.func p) fun x =>
      { x with lost := 0, rf := x.rf && !tst v.toNat 1, full := x.full && !tst v.toNat 0 }).inta) ∧
  (∀ (s : State) (p : Path) (v : Word), Writes s p .fltStaleGen v → tst v.toNat 63 = true →
    exec (.staleGenClear p v) s = .next (s.modRst fun r =>
      { r with staleCtx := 0, staleQueue := 0, stalePasid := 0, stalePath := 0, staleDomain := 0 }).inta) ∧
  (∀ (s : State) (p : Path) (v : Word), Writes s p .ceCount v → tst v.toNat 63 = true →
    exec (.ceCountClear p v) s = .next (s.modEngine (s.sel p .ceSel) fun x => { x with skipped := 0, idle := 0 }).inta) ∧
  (∀ (s : State) (p : Path) (v : Word), Writes s p .planEpoch v → tst v.toNat 63 = true →
    exec (.planEpochClear p v) s = .next (s.modPlan fun x => { x with epochs := 0 }).inta) ∧
  (∀ (s : State) (p : Path) (v : Word), Writes s p .fltRegErr v → tst v.toNat 63 = true →
    exec (.regErrClear p v) s = .next (s.modFunc (Path.side p) (Path.func p) fun x => { x with errCount := 0 }).inta) ∧
  (∀ (s : State) (p : Path) (v : Word), Writes s p .rstDip v → tst v.toNat 63 = true →
    exec (.dipClear p v) s = .next (s.modRst fun r =>
      { r with dips := 0, long := r.long && !tst v.toNat 1, dip := r.dip && !tst v.toNat 0 }).inta) ∧
  (∀ (s : State) (p : Path) (v : Word), Writes s p .cohCount v → tst v.toNat 63 = true →
    exec (.cohCountClear p v) s = .next (s.modCoh fun c => { c with proto := 0, timeouts := 0, deferred := 0, stalePut := 0 }).inta) ∧
  (∀ (s : State) (p : Path) (v : Word), Writes s p .cohCount1 v → tst v.toNat 63 = true →
    exec (.cohCount1Clear p v) s = .next (s.modCoh fun c => { c with poisoned := 0, evictions := 0 }).inta) ∧
  (∀ (s : State) (p : Path) (v : Word), Writes s p .fabCount v → tst v.toNat 63 = true →
    exec (.fabCountClear p v) s = .next (s.modFab fun f => { f with bad := 0, stall := 0, late := 0, gap := 0, repins := 0 }).inta)

/-- The commits of driver and operator (R105, R106, R148, R219, R226, R227, R228): the effect of each where its
checks pass, and the code of the first check that fails. -/
def Obligations.RegistersCommitWhatTheyStage : Prop :=
  (∀ (s t : State) (p : Path) (v : Word), Writes s p .objPlaceSel v → tst v.toNat 63 = true → tst v.toNat 62 = false →
    s.placeCommit (Path.side p) (bits v.toNat 7 0) (w64 (s.sel p (.objPlaceD 0))) (w64 (s.sel p (.objPlaceD 1)))
      (w64 (s.sel p (.objPlaceD 2))) (w64 (s.sel p (.objPlaceD 3))) = .ok t →
    exec (.placeCommit p v) s = .next (t.setSel p .objPlaceSel (bits v.toNat 7 0)).inta) ∧
  (∀ (s : State) (p : Side) (i : Nat) (d0 d1 d2 d3 : Word) (o : Obj) (g : Region), o = s.obj (regObj d1) →
    g = { enabled := true, d0 := d0, d1 := d1, d2 := d2, d3 := d3, next := none } →
    s.placeCommit p i d0 d1 d2 d3 =
      (if o.state = .free ∨ o.owner ≠ regCtx d1 ∨ o.attr % 2 = 1 then .error E.badHandle
       else if o.state = .retiring then .error E.objectRetiring
       else if 65536 * o.size64k < g.offset + g.size then .error E.badLength
       else if (s.port p).isHdm i g = false ∧ (s.port p).windowBad i g = true then .error E.badField
       else if (s.port p).hdmBad i g = true then .error E.badField
       else .ok (s.modPort p fun x => { x with
         regions := Tbl.set Region.none x.regions i
          { Tbl.get Region.none (s.port p).regions i with next := some (some (d0, d1, d2, d3)) } }))) ∧
  (∀ (s : State) (p : Path) (v : Word), Writes s p .objPlaceSel v → tst v.toNat 63 = false → tst v.toNat 62 = true →
    exec (.placeClear p v) s = .next
      (((s.modPort (Path.side p) fun x => { x with
        regions := Tbl.set Region.none x.regions (bits v.toNat 7 0)
          { Tbl.get Region.none (s.port (Path.side p)).regions (bits v.toNat 7 0) with next := some none } }).setSel p .objPlaceSel
          (bits v.toNat 7 0)).inta)) ∧
  (∀ (s : State) (p : Path) (v : Word), Writes s p .xltPartSel v → tst v.toNat 63 = true →
    exec (.xltPartCommit p v) s = .next
      (match s.partCommit (bits v.toNat 11 0) (s.sel p .xltPart) with
       | .ok t => (t.setSel p .xltPartSel (bits v.toNat 11 0)).inta
       | .error code => s.regErr p 0 0x102000 code)) ∧
  (∀ (s t : State) (n v : Nat), t = (s.modXlt fun x => { x with part := Tbl.set (8, 4, 0) x.part n (bits v 47 32, bits v 31 16,
    bits v 9 0) }) →
    s.partCommit n v =
      (if (s.ctx n).state ≠ .free then .error E.locked
       else if bits v 47 32 % 8 ≠ 0 ∨ bits v 31 16 % 4 ≠ 0 then .error E.badField
       else if 32768 < t.partSums.1 ∨ 16384 < t.partSums.2.1 ∨ 512 < t.partSums.2.2 then .error E.badLength
       else .ok t)) ∧
  (∀ (i : Instr) (s : State) (p : Path) (v : Word), i = .faultRespRetry p v ∨ i = .faultRespFail p v → Writes s p .xltFaultResp v →
    exec i s = .next
      (if bits v.toNat 17 16 ≠ 1 ∧ bits v.toNat 17 16 ≠ 2 then s.regErr p 0 0x210 E.badField
       else if (s.stalledAt (Path.side p) (Path.func p) (bits v.toNat 15 0)).isNone = true then s.regErr p 0 0x210 E.badHandle
       else (s.modXlt fun x => { x with
        responses := x.responses ++
          [(funcKey (Path.side p) (Path.func p), bits v.toNat 15 0, decide (bits v.toNat 17 16 = 2))] }).inta)) ∧
  (∀ (s : State) (p : Path) (v : Word), Writes s p .xltFring v →
    exec (.fringProgram p v) s = .next (s.modFunc (Path.side p) (Path.func p) fun x => { x with fringNext := some v }).inta) ∧
  (∀ (s : State) (p : Path) (v : Word), Writes s p .xltProbeSel v → tst v.toNat 63 = true → Path.func p ≠ 0 →
    s.seesCtx (Path.func p) (bits v.toNat 11 0) = true →
    exec (.xltProbe p v) s = .next
      (((s.setSel p .xltProbeSel
        (fld (bit (s.probe (bits v.toNat 11 0) (s.sel p .xltProbeVa) true).1) 62 +
         fld (s.probe (bits v.toNat 11 0) (s.sel p .xltProbeVa) true).2.1 56 +
         fld (s.probe (bits v.toNat 11 0) (s.sel p .xltProbeVa) true).2.2.1 40 + bits v.toNat 11 0)).setSel p .xltProbeEntry
         (s.probe (bits v.toNat 11 0) (s.sel p .xltProbeVa) true).2.2.2).inta)) ∧
  (∀ (s : State) (p : Path) (v : Word) (c w0 w1 w2 w3 : Nat), Writes s p .objQuerySel v → Path.func p ≠ 0 →
    s.query (Path.func p) (bits v.toNat 33 32) (bits v.toNat 31 0) = some (c, w0, w1, w2, w3) →
    exec (.objQuerySelect p v) s = .next
      ((s.setQuery p (w0, w1, w2, w3)).setSel p .objQuerySel (v.toNat % 2 ^ 34 + 2 ^ 63)).inta) ∧
  (∀ (s : State) (p : Path) (v : Word), Writes s p .objQuerySel v →
    s.query (Path.func p) (bits v.toNat 33 32) (bits v.toNat 31 0) = none →
    exec (.objQuerySelect p v) s = .next
      ((s.setQuery p (0, 0, 0, 0)).setSel p .objQuerySel (v.toNat % 2 ^ 34)).inta)

/-- The commits of the coherence registers (R355, R356, R358): a slot's banks, a domain, and the probe of a directory entry, whose
owner is observed first. -/
def Obligations.CoherenceRegistersCommit : Prop :=
  (∀ (s t : State) (p : Path) (v : Word), Writes s p .cohPartSel v → tst v.toNat 63 = true →
    t = (s.modCoh fun c => { c with
      parts := Tbl.set (0, 0) c.parts (bits v.toNat 11 0) (bits (s.sel p .cohPart) 9 0, bits (s.sel p .cohPart) 23 16) }) →
    exec (.cohPartCommit p v) s = .next
      (if (s.ctx (bits v.toNat 11 0)).state ≠ .free then s.regErr p 0 0x104008 E.locked
       else if 512 < t.bankSums.1 ∨ 128 < t.bankSums.2 then s.regErr p 0 0x104008 E.badLength
       else (t.setSel p .cohPartSel (bits v.toNat 11 0)).inta)) ∧
  (∀ (s : State) (p : Path) (v : Word) (n w : Nat) (d : Domain), Writes s p .cohDomainSel v → tst v.toNat 63 = true →
    n = bits v.toNat 6 0 → w = s.sel p .cohDomain → d = { valid := tst w 32, members := bits w 26 16, group := bits w 15 0 } →
    exec (.cohDomainCommit p v) s = .next
      (if (∃ y ∈ s.objs, y.2.state ≠ .free ∧ aCoherent y.2.attr = true ∧ aDomain y.2.attr = n) then s.regErr p 0 0x104020 E.locked
       else if d.valid = true ∧ (d.members = 0 ∨ 1024 < d.members ∨ s.fab.device ∉ s.members d.group) then
        s.regErr p 0 0x104020 E.badField
       else ((s.modCoh fun c => { c with domains := Tbl.set Domain.none c.domains n d }).setSel p .cohDomainSel n).inta)) ∧
  (∀ (s : State) (p : Path) (v : Word), Writes s p .cohDirProbe v → tst v.toNat 63 = true →
    s.window (bits v.toNat 40 7 * 128) = none →
    exec (.cohDirProbe p v) s = .next
      ((((s.setSel p .cohDirProbe (fld (bits v.toNat 40 7) 7)).setSel p (.cohDirEntry 0) (DirEntry.none.words 0).1).setSel p
        (.cohDirEntry 1) (DirEntry.none.words 0).2.1).setSel p (.cohDirEntry 2) (DirEntry.none.words 0).2.2).inta) ∧
  (∀ (s t : State) (p : Path) (v : Word) (o : Obj) (w0 w1 w2 : Nat), Writes s p .cohDirProbe v → tst v.toNat 63 = true →
    s.window (bits v.toNat 40 7 * 128) = some o → t = s.observe o.owner Reg.cohDirProbe.offset s.time.last →
    (t.dirE (bits v.toNat 40 7 * 128)).words o.owner = (w0, w1, w2) →
    exec (.cohDirProbe p v) s = .next
      ((((t.setSel p .cohDirProbe (2 ^ 62 + fld (bits v.toNat 40 7) 7)).setSel p (.cohDirEntry 0) w0).setSel p
        (.cohDirEntry 1) w1).setSel p (.cohDirEntry 2) w2).inta)

/-- The interrupt and fault registers (R400, R402, R403, R408, R411, R421): each row's effect through HX_IRQ_ACK, HX_IRQ_GLOBAL,
HX_IRQ_ROUTE_SEL, HX_IRQ_WAKE_CTL and HX_FLT_ACK. -/
def Obligations.InterruptRegistersAct : Prop :=
  (∀ (i : Instr) (s : State) (p : Path) (v : Word), i = .irqAck p v ∨ i = .irqIdle p v → Writes s p .irqAck v →
    exec i s = .next (s.modVec (Path.func p) (bits v.toNat 10 0)
      fun x => x.ack (tst v.toNat 63) (tst v.toNat 62) s.time.now).inta.inta) ∧
  (∀ (x : Vec) (now : Nat), x.state = .service → (x.ack true false now).state = (if x.events = 0 then .quiet else .waiting) ∧
    (x.ack true false now).events = x.events) ∧
  (∀ (x : Vec) (now : Nat), x.state = .waiting ∨ x.state = .due →
    (x.ack true false now).state = .quiet ∧ (x.ack true false now).events = 0) ∧
  (∀ (x : Vec) (now : Nat), (x.ack false true now).idle = true ∧
    (x.state = .waiting → (x.ack false true now).state = .due) ∧ (x.state ≠ .waiting → (x.ack false true now).state = x.state)) ∧
  (∀ (s : State) (p : Path) (v : Word), Writes s p .irqGlobal v →
    exec (.irqDisableWrite p v) s = .next (s.modPort (Path.side p) fun x => { x with disable := tst v.toNat 0 }).inta) ∧
  (∀ (s : State) (p : Path) (v : Word), Writes s p .irqRouteSel v → tst v.toNat 63 = true →
    exec (.irqRouteCommit p v) s = .next
      (if bits v.toNat 18 12 ≠ 0 ∧ s.tdiFrozen (bits v.toNat 18 12) = true then s.regErr p 0 Reg.irqRouteSel.offset E.locked
       else ((s.modVec (bits v.toNat 18 12) (bits v.toNat 10 0) fun x =>
        { x with routeNext := some (if tst (s.sel p .irqRoute) 16 = true then
            some (bits (s.sel p .irqRoute) 4 0,
              bits (s.sel p .irqRoute) 15 8) else none) }).setSel p .irqRouteSel (v.toNat % 2 ^ 63)).inta)) ∧
  (∀ (s : State) (p : Path) (v : Word) (t : Side), Writes s p .irqWakeCtl v → tst v.toNat (match t with | .a => 62 | .b => 63) = true →
    tst v.toNat (match t with | .a => 63 | .b => 62) = false →
    exec (.standbyRequest p v) s = .next
      (if (s.twin t).state ≠ .detached then s.regErr p 0 Reg.irqWakeCtl.offset E.badField
       else if s.inSelftest t = true then s.regErr p 0 Reg.irqWakeCtl.offset E.locked
       else ((s.modTwin t fun w => { w with standbyReq := true }).modIrq fun i =>
        { i with cancelled := i.cancelled && !tst v.toNat 3 }).inta)) ∧
  (∀ (s : State) (p : Path) (v : Word) (t : Side), Writes s p .fltAck v → t = Side.ofBool (tst (s.sel p .fltSel) 0) →
    exec (.fltAck p v) s = .next (s.modTwin t fun w => { w with col := w.col.ack v.toNat }).inta) ∧
  (∀ (c : Collector) (n : Nat), (c.ack n).pending = c.pending - Nat.land c.pending n ∧
    (c.pending - Nat.land c.pending n = 0 → (c.ack n).grace = none) ∧
    (c.pending - Nat.land c.pending n ≠ 0 → (c.ack n).grace = c.grace))

/-- The reset and clock registers (R431, R434, R436, R442, R444, R478, R479, R482, R484, R487): each row's checks in their order, and
its effect. -/
def Obligations.ResetAndClockRegistersAct : Prop :=
  (∀ (s u : State) (p : Path) (v : Word) (t : Side), Writes s p .rstTwinCtl v → tst v.toNat 63 = true → tst v.toNat 61 = false →
    t = Side.ofBool (tst v.toNat 48) → u = (s.modRst fun r => { r with ctlTwin := tst v.toNat 48, ctlTick := bits v.toNat 47 0 }) →
    exec (.detach p v) s = .next
      (if s.serves t = false then s.regErr p 0 0x108000 E.badField
       else if s.serves t.other = false then s.regErr p 0 0x108000 E.outOfService
       else if s.rst.detach ≠ none then s.regErr p 0 0x108000 E.locked
       else if bits v.toNat 47 0 ≠ 0 ∧ bits v.toNat 47 0 < s.time.tick + 4 then s.regErr p 0 0x108000 E.badField
       else (u.modRst fun r => { r with
        detach := some { twin := t, tick := if bits v.toNat 47 0 = 0 then s.time.tick + 4 else bits v.toNat 47 0,
                         waited := 0, withdrawn := false, forced := false },
        ctlTwin := decide (t = .b), ctlTick := if bits v.toNat 47 0 = 0 then s.time.tick + 4 else bits v.toNat 47 0 }).inta)) ∧
  (∀ (s u : State) (p : Path) (v : Word), Writes s p .rstTwinCtl v → tst v.toNat 63 = false → tst v.toNat 62 = false →
    tst v.toNat 61 = false → tst v.toNat 60 = true →
    u = (s.modRst fun r => { r with ctlTwin := tst v.toNat 48, ctlTick := bits v.toNat 47 0 }) →
    exec (.detachWithdraw p v) s = .next
      (if s.rst.detach = none then s.regErr p 0 0x108000 E.badField
       else (u.modRst fun r => { r with detach := r.detach.map fun d => { d with withdrawn := true } }).inta)) ∧
  (∀ (s u : State) (p : Path) (v : Word) (t : Side), Writes s p .rstTwinCtl v → tst v.toNat 63 = false → tst v.toNat 62 = true →
    tst v.toNat 61 = false → t = Side.ofBool (tst v.toNat 48) →
    u = (s.modRst fun r => { r with ctlTwin := tst v.toNat 48, ctlTick := bits v.toNat 47 0 }) →
    exec (.twinReturn p v) s = .next
      (if (s.twin t).state ≠ .detached then s.regErr p 0 0x108000 E.badField
       else if s.readsMirror .a = false ∨ s.readsMirror .b = false then s.regErr p 0 0x108000 E.badField
       else (u.beginReturn t).inta)) ∧
  (∀ (s u : State) (t : Side), u = (s.wakeTwin t).twinGates t true → (u.twin t).ret = none → (u.twin t).inReset = false →
    (u.inSelftest t = true ∨ (u.twin t).loading = true → s.beginReturn t = u.modTwin t fun w => { w with ret := some .held }) ∧
    (u.inSelftest t = false → (u.twin t).loading = false → (u.twin t).measured = true → (u.twin t).tested = true →
      s.beginReturn t = u.modTwin t fun w => { w with ret := some .load })) ∧
  (∀ (s u : State) (p : Path) (v : Word) (t : Side), Writes s p .rstTwinCtl v → Path.fn p = none → tst v.toNat 63 = false →
    tst v.toNat 62 = false → tst v.toNat 61 = true → t = Side.ofBool (tst v.toNat 48) →
    u = (s.modRst fun r => { r with ctlTwin := tst v.toNat 48, ctlTick := bits v.toNat 47 0 }) →
    exec (.clearOos none p v) s = .next
      (if (s.twin t).state ≠ .outOfService then s
       else ((u.modTwin t fun w => { w with resets := [] }).setTwinState t .detached).inta)) ∧
  (∀ (s : State) (p : Path) (v : Word), Writes s p .rstTwinCtl v → Path.fn p ≠ none → tst v.toNat 61 = true →
    exec (.clearOos none p v) s = .next (s.regErr p 0 0x108000 E.notAuthorised)) ∧
  (∀ (s : State) (p : Path) (v : Word) (n : Nat), Writes s p .rstCdCtl v → tst v.toNat 63 = true → n = s.sel p .rstCdSel →
    exec (.cdReset p v) s = .next
      (if (s.cd n).state = .outOfService then s.regErr p 0 Reg.rstCdCtl.offset E.outOfService
       else if (s.cd n).state = .resetting ∨ (s.cd n).stage ≠ 0 then s.regErr p 0 Reg.rstCdCtl.offset E.locked
       else (s.modCd n fun c => { c with stage := 1, returning := false }).inta)) ∧
  (∀ (s : State) (p : Path) (v : Word) (n : Nat), Writes s p .rstCdCtl v → tst v.toNat 63 = false → tst v.toNat 62 = true →
    n = s.sel p .rstCdSel →
    exec (.cdReturn p v) s = .next
      (if (s.cd n).state ≠ .outOfService then s.regErr p 0 Reg.rstCdCtl.offset E.badField
       else if (s.cd n).stage ≠ 0 then s.regErr p 0 Reg.rstCdCtl.offset E.locked
       else (s.modCd n fun c => { c with stage := 1, returning := true }).inta)) ∧
  (∀ (s : State) (p : Path) (v : Word), Writes s p .clkSrc v →
    (∀ k < 4, bits v.toNat (5 + 2 * k) (4 + 2 * k) = s.clk.field k) →
    (tst v.toNat 0 = s.clk.aclk ∨ tst s.clk.seen (if tst v.toNat 0 then 1 else 0) = true) →
    (tst v.toNat 1 = s.clk.mclk ∨ tst s.clk.seen (if tst v.toNat 1 then 2 else 0) = true) →
    exec (.clockSourceWrite p v) s = .next (s.modClk fun c => { c with aclk := tst v.toNat 0, mclk := tst v.toNat 1 }).inta) ∧
  (∀ (s : State) (p : Path) (v : Word) (k w : Nat), Writes s p .clkSrc v → k < 4 → w < 2 → w ≠ s.clk.field k → s.clk.pend = [] →
    bits v.toNat (5 + 2 * k) (4 + 2 * k) = w → (∀ j < 4, j ≠ k → bits v.toNat (5 + 2 * j) (4 + 2 * j) = s.clk.field j) →
    (∀ t, clkTwin k = some t → s.inSelftest t = false) → tst v.toNat 0 = s.clk.aclk → tst v.toNat 1 = s.clk.mclk →
    exec (.clockSourceWrite p v) s = .next
      (if tst s.clk.locks (2 * k + w) = false then s.regErr p 0 Reg.clkSrc.offset E.sourceNotReady
       else
        let late := decide (k = 1) || (match clkTwin k with | some t => s.carries t | none => false)
        ((s.modClk fun c => { c with pend := [(4 + 2 * k, w, late)] }).modPlan fun p =>
          { p with forClock := p.forClock || late }).inta)) ∧
  (∀ (s : State) (p : Path) (v : Word), Writes s p .clkGate v →
    ((∃ n < 40, tst v.toNat n ≠ s.gateOn n ∧ s.gateLock n ≠ none) →
      exec (.clockGateWrite p v) s = .next (s.regErr p 0 Reg.clkGate.offset E.locked)) ∧
    ((∀ n < 40, tst v.toNat n = s.gateOn n ∨ s.gateLock n = none) →
      ((∃ n < 40, ∃ q, gateParent n = some q ∧ tst v.toNat n = true ∧ tst v.toNat q = false) →
        exec (.clockGateWrite p v) s = .next (s.regErr p 0 Reg.clkGate.offset E.gateBusy)) ∧
      ((∀ n < 40, ∀ q, gateParent n = some q → tst v.toNat n = true → tst v.toNat q = true) →
        exec (.clockGateWrite p v) s = .next (s.modClk fun c => { c with gates := v.toNat }).inta))) ∧
  (∀ (s : State) (p : Path) (v : Word), Writes s p .clkFcntCtl v → tst v.toNat 63 = true →
    exec (.fcntGo p v) s = .next ((s.setSel p .clkFcntCtl (v.toNat % 2 ^ 63)).modClk fun c =>
      { c with fcnt := w64 (v.toNat % 2 ^ 63), busy := true, done := false, timeout := false, count := 0 }).inta) ∧
  (∀ (s : State) (p : Path) (v : Word) (t : Side), Writes s p .clkBistCtl v → tst v.toNat 63 = true → t = Side.ofBool (tst v.toNat 0) →
    exec (.bistGo p v) s = .next
      (if s.inSelftest t = true ∨ (s.twin t).loading = true then s.regErr p 0 Reg.clkBistCtl.offset E.locked
       else if ¬ (((s.twin t).state = .detached ∨ (s.twin t).state = .outOfService) ∧ (s.twin t).boot = false) then
        s.regErr p 0 Reg.clkBistCtl.offset E.badField
       else ((s.startTest t .management (bits v.toNat 2 1)).modClk fun c =>
        { c with bistKind := bits v.toNat 2 1, bistTwin := tst v.toNat 0 }).inta))

/-- The fabric registers (R360, R361, R372, R377, R379, R381, R391, R392, R395, R396): the effect of each row where its checks pass,
and the codes of the checks. -/
def Obligations.FabricRegistersCommit : Prop :=
  (∀ (s : State) (p : Path) (v : Word) (i d0 d1 d2 d3 : Nat), Writes s p .fabGrantSel v → tst v.toNat 63 = true →
    tst v.toNat 62 = false → i = bits v.toNat 15 0 → d0 = s.sel p (.fabGrantD 0) → d1 = s.sel p (.fabGrantD 1) →
    d2 = s.sel p (.fabGrantD 2) → d3 = s.sel p (.fabGrantD 3) →
    exec (.grantCommit p v) s = .next
      (if s.grantFrozen i d0 true = true then s.regErr p 0 Reg.fabGrantSel.offset E.locked
       else match s.grantCommit i d0 d1 d2 d3 with
        | .ok t => (t.setSel p .fabGrantSel i).inta
        | .error code => s.regErr p 0 Reg.fabGrantSel.offset code)) ∧
  (∀ (s : State) (i d0 d1 d2 d3 : Nat) (o : Obj) (g : GrantEnt), tst d0 4 = false → o = s.obj (bits d1 31 0 % 2 ^ 22) → g = s.grant i →
    o.state = .live → o.owner = bits d0 37 26 → o.attr % 2 = 0 →
    65536 * bits d2 63 16 + 65536 * bits d3 24 0 ≤ 65536 * o.size64k →
    bits d0 63 50 ≠ s.fab.device → (s.route (bits d0 63 50)).unreach = false → bits d0 2 0 ≠ 0 →
    s.grantCommit i d0 d1 d2 d3 = .ok
      (((s.modGrant i fun _ =>
        { holder := bits d0 63 50, holderCtx := bits d0 49 38, ctx := bits d0 37 26, offered := false, refused := false, enable := true,
          fence := false, rights := bits d0 2 0, ggen := (g.ggen + 1) % 256, target := bits d1 31 0,
          offset := bits d2 63 16 * 65536, size64k := bits d3 24 0, ending := false, tag := s.fab.nextTag % 4096 }).modFab fun f =>
          { f with nextTag := s.fab.nextTag + 1 }).fabSend (bits d0 63 50)
        { plainPkt K.grantOffer [o.base + bits d2 63 16 * 65536, 65536 * bits d3 24 0, bits d0 2 0, bits d0 49 38, 0] with
          grant := i, ggen := (g.ggen + 1) % 256, tag := s.fab.nextTag % 4096 })) ∧
  (∀ (s : State) (i d0 d1 d2 d3 : Nat), tst d0 4 = false →
    ((s.obj (bits d1 31 0 % 2 ^ 22)).state = .free ∨ (s.obj (bits d1 31 0 % 2 ^ 22)).owner ≠ bits d0 37 26) →
    s.grantCommit i d0 d1 d2 d3 = .error E.badHandle) ∧
  (∀ (s : State) (p : Path) (v : Word) (i : Nat), Writes s p .fabGrantSel v → tst v.toNat 63 = false → tst v.toNat 62 = true →
    i = bits v.toNat 15 0 →
    exec (.grantClear p v) s = .next
      (if s.grantFrozen i (s.sel p (.fabGrantD 0)) false = true then s.regErr p 0 Reg.fabGrantSel.offset E.locked
       else ((if (s.grant i).enable = true then s.modGrant i fun g => { g with ending := true } else s).setSel p .fabGrantSel i).inta)) ∧
  (∀ (s : State) (p : Path) (v : Word) (h w k : Nat) (f : Fence) (g : HeldGrant), Writes s p .fabProxySel v → tst v.toNat 63 = true →
    tst v.toNat 62 = false → h = bits v.toNat 31 0 → s.proxyFrozen h = false → w = s.sel p .fabProxy → s.fenceOf h = some f →
    s.heldGrant (bits w 63 50) (bits w 49 34) = some (k, g) → g.fence = true → f.owner = g.ctx → f.mode = 0 → f.signallers = 0 →
    f.proxy = none →
    exec (.proxyBind p v) s = .next
      ((((s.modFence (fIndex h) fun f => { f with proxy := some (bits w 63 50, bits w 49 34) }).fabSend (bits w 63 50)
        { plainPkt K.fenceUpd [] with grant := bits w 49 34, ggen := g.ggen, addr := 1 }).setSel p .fabProxySel h).inta)) ∧
  (∀ (s : State) (p : Path) (v : Word) (h : Nat), Writes s p .fabProxySel v → tst v.toNat 63 = true →
    h = bits v.toNat 31 0 → s.fenceOf h = none →
    exec (.proxyBind p v) s = .next (s.regErr p 0 Reg.fabProxySel.offset E.badHandle)) ∧
  (∀ (s : State) (p : Path) (v : Word) (h : Nat) (f : Fence), Writes s p .fabProxySel v → tst v.toNat 63 = false →
    tst v.toNat 62 = true → h = bits v.toNat 31 0 → s.proxyFrozen h = false → s.fenceOf h = some f →
    exec (.proxyUnbind p v) s = .next
      (if f.proxy = none then s.regErr p 0 Reg.fabProxySel.offset E.badHandle
       else ((s.modFence (fIndex h) fun f => { f with proxy := none }).setSel p .fabProxySel h).inta)) ∧
  (∀ (s : State) (p : Path) (v : Word) (g w : Nat), Writes s p .fabGroupSel v → tst v.toNat 63 = true → tst v.toNat 62 = false →
    g = bits v.toNat 15 0 → w = s.sel p .fabGroup →
    exec (.groupCommit p v) s = .next
      (match s.groupCommit g (bits w 61 47) (bits w 21 0) with
       | .ok t => (t.setSel p .fabGroupSel g).inta
       | .error code => s.regErr p 0 Reg.fabGroupSel.offset code)) ∧
  (∀ (s : State) (g n list : Nat) (o : Obj) (ids : List Nat), o = s.obj list →
    ids = ((List.range n).map fun i => leNat (s.mem.readN (o.base + 2 * i) 2)) → g ≠ 0 → n ≠ 0 → n ≤ 16384 →
    (o.state ≠ .live ∨ 1 < o.owner → s.groupCommit g n list = .error E.badHandle) ∧
    (o.state = .live → o.owner ≤ 1 → 65536 * o.size64k < 2 * n → s.groupCommit g n list = .error E.badLength) ∧
    (o.state = .live → o.owner ≤ 1 → 2 * n ≤ 65536 * o.size64k →
      (s.fab.device ∉ ids → s.groupCommit g n list = .error E.badField) ∧
      (s.fab.device ∈ ids → s.groupUsed g = true → s.groupCommit g n list = .error E.locked) ∧
      (s.fab.device ∈ ids → s.groupUsed g = false → 0 < (s.group g).members → ids.idxOf s.fab.device ≠ 0 →
        s.groupCommit g n list = .ok
          ((s.modGroup g fun _ =>
            { members := n, rank := ids.idxOf s.fab.device, obj := list, list := ids, valid := false, mismatch := false, matched := [],
              early := [], first := some (if (s.group g).early.isEmpty then s.time.bnd else (s.group g).first.getD s.time.bnd),
              answered := false }).fabSend (ids.headD 0) { plainPkt K.group [g] with data := listDigest ids })))) ∧
  (∀ (s : State) (p : Path) (v : Word) (g : Nat), Writes s p .fabGroupSel v → tst v.toNat 63 = false → tst v.toNat 62 = true →
    g = bits v.toNat 15 0 →
    exec (.groupClear p v) s = .next
      (if g = 0 then s.regErr p 0 Reg.fabGroupSel.offset E.badField
       else if s.groupUsed g = true then s.regErr p 0 Reg.fabGroupSel.offset E.locked
       else ((s.modGroup g fun _ => Group.none).setSel p .fabGroupSel g).inta)) ∧
  (∀ (s : State) (p : Path) (v : Word) (d w : Nat), Writes s p .fabRouteSel v → tst v.toNat 63 = true → tst v.toNat 62 = false →
    d = bits v.toNat 13 0 → w = bits (s.sel p .fabRoute) 47 24 →
    exec (.routeCommit p v) s = .next
      (if d = s.fab.device ∨ ((List.range 4).filterMap fun i => altLink w i) = [] ∨
          (∃ k ∈ (List.range 4).filterMap fun i => altLink w i, 23 < k) then
        s.regErr p 0 Reg.fabRouteSel.offset E.badField
       else ((s.modRoute d fun r => { r with next := some w }).setSel p .fabRouteSel d).inta)) ∧
  (∀ (s : State) (p : Path) (v : Word) (d : Nat), Writes s p .fabRouteSel v → tst v.toNat 63 = false → tst v.toNat 62 = true →
    d = bits v.toNat 13 0 →
    exec (.repin p v) s = .next ((s.modRoute d fun r => { r with change := true }).setSel p .fabRouteSel d).inta) ∧
  (∀ (i : Instr) (s : State) (p : Path) (v : Word) (g : Nat) (rst : Bool) (x : Global), i = .globalSnapshot p v ∨ i = .globalReset p v →
    Writes s p .fabGlobal v → tst v.toNat 63 = true → rst = tst v.toNat 62 → g = bits v.toNat 15 0 →
    x = { reset := rst, group := g, tick := none, snapTick := bits (s.sel p .fabSnapTick) 47 0, confirms := 0, done := false,
          restored := false, told := false, via := Path.asker p } →
    (s.fab.global ≠ none → exec i s = .next (s.regErr p 0 Reg.fabGlobal.offset E.locked)) ∧
    (s.fab.global = none → ((rst = true ∧ g ≠ 0) ∨ s.time.agreed = false ∨ s.fab.device ∉ s.members g ∨
        (g ≠ 0 ∧ (s.group g).valid = false)) → exec i s = .next (s.regErr p 0 Reg.fabGlobal.offset E.badField)) ∧
    (s.fab.global = none → (rst = true → g = 0) → s.time.agreed = true → s.fab.device ∈ s.members g →
      (g = 0 ∨ (s.group g).valid = true) →
      exec i s = .next
        ((if s.rankIn g = 0 then s.admitGlobal rst g (bits (s.sel p .fabSnapTick) 47 0)
          else (s.modFab fun f => { f with global := some x }).emit
            (.globalHop ((s.members g).headD 0) (.ask rst g (bits (s.sel p .fabSnapTick) 47 0)))).setSel p .fabGlobal
          (fld (bits v.toNat 62 61) 61 + g)).inta))

/-- Translation events (R42, R203, R205, R208, R210 to R213, R216, R219, R221, R223): a walk's leaf enters the caches, a host page that
the ATC does not hold is asked for, and a failure takes R214's effect and looks ahead; an ATS completion of the current PASID generation
fills the ATC, and fails the accesses that wait for it or asks for the page where it grants nothing; one of an old generation, or of a twin
that has failed, is dropped and counted; an ATS invalidation drops what it names and is completed when its reads and writes are done; page
requests go on, or fail; a stalled record meets its limit. -/
def Obligations.TranslationEventsAct : Prop :=
  (∀ (s : State) (n q cva : Nat) (acc : Access), (s.queue q).live = true → (s.queue q).ctx = n → (s.ctx n).priv = false → cva < 2 ^ 57 →
    (∀ r l, (s.target n cva 1 acc).1 ≠ .fail r l) → (∀ p, (s.target n cva 1 acc).1 ≠ .miss p) →
    exec (.walkComplete n q cva acc) s = .next ((s.touch n cva acc).predict n q cva)) ∧
  (∀ (s : State) (n q cva r l u : Nat) (acc : Access) (c : Cmd), (s.queue q).live = true → (s.queue q).ctx = n →
    (s.ctx n).priv = false → cva < 2 ^ 57 → (s.target n cva 1 acc).1 = .fail r l → s.unitFor q cva acc = some (c, u) →
    exec (.walkComplete n q cva acc) s = .next ((s.unitFault q c u cva r l acc).lookAhead q c u (s.tickUnits q c.bytes))) ∧
  (∀ (s : State) (n q cva page u : Nat) (acc : Access) (c : Cmd), (s.queue q).live = true → (s.queue q).ctx = n →
    (s.ctx n).priv = false → cva < 2 ^ 57 → (s.target n cva 1 acc).1 = .miss page → s.unitFor q cva acc = some (c, u) →
    exec (.walkComplete n q cva acc) s = .next (((s.touch n cva acc).unitMiss q c u page acc).predict n q cva)) ∧
  (∀ (s : State) (n cva e l : Nat) (acc : Access), (s.ctx n).priv = false → s.leafOf n cva acc = .leaf e l → 0 < (s.part n).1 →
    (((s.touch n cva acc).xlt.tlb.get (s.ctx n).home).any fun y =>
      y.ctx = n && y.page / 2 ^ y.sizeLog = cva / 4096 / 2 ^ y.sizeLog) = true) ∧
  (∀ (s u : State) (p : Side) (tag : Nat) (r : AtsReq), s.xlt.ats.find? (fun r => r.port = p && r.tag = tag) = some r →
    u = (s.modXlt fun x => { x with ats := x.ats.filter fun y => !(y.port = p && y.tag = tag) }) →
    r.pasidGen = (s.ctx r.ctx).pasidGen → (s.ctx r.ctx).state ≠ .free → (s.ctx r.ctx).state ≠ .dead → r.stale = false →
    r.orphan = false →
    (∀ (addr k : Nat) (rr w : Bool), (r.access ≠ .write → rr = true) → (r.access ≠ .read → w = true) →
      exec (.atsTranslationCompletion p tag (.success addr k rr w)) s = .next ((u.fillAtc r addr k rr w).resumeWindows r.ctx)) ∧
    (∀ (addr k : Nat) (rr w : Bool), r.queue ≠ 16384 → (r.access ≠ .write ∧ rr = false) ∨ (r.access ≠ .read ∧ w = false) →
      exec (.atsTranslationCompletion p tag (.success addr k rr w)) s = .next
        ((u.hostAbsent r.ctx r.queue r.slot r.unit r.page r.access).resumeWindows r.ctx)) ∧
    exec (.atsTranslationCompletion p tag .failed) s = .next
      ((u.failPage r.ctx r.page Reason.atsFailed r.access false
        (if r.queue = 16384 then none else some (r.queue, r.slot, r.unit))).resumeWindows r.ctx) ∧
    exec (.atsTranslationCompletion p tag .timedOut) s = .next
      (((u.modFunc p (s.ctx r.ctx).func fun x => { x with cplTimeout := true }).failPage r.ctx r.page Reason.atsFailed r.access false
        (if r.queue = 16384 then none else some (r.queue, r.slot, r.unit))).resumeWindows r.ctx)) ∧
  (∀ (s : State) (r : AtsReq) (addr k : Nat) (rr w : Bool), 0 < (s.part r.ctx).2.1 →
    ∃ e ∈ (s.fillAtc r addr k rr w).xlt.atc.get (s.ctx r.ctx).home, e.ctx = r.ctx ∧ e.page = r.page ∧ e.addr = addr ∧ e.sizeLog = k ∧
      e.r = rr ∧ e.w = w) ∧
  (∀ (s u : State) (p : Side) (tag : Nat) (x : AtsResult) (r : AtsReq), s.xlt.ats.find? (fun r => r.port = p && r.tag = tag) = some r →
    u = (s.modXlt fun x => { x with ats := x.ats.filter fun y => !(y.port = p && y.tag = tag) }) → x ≠ .timedOut →
    (r.orphan = true → exec (.atsTranslationCompletion p tag x) s = .next
      ((u.modRst fun r => { r with staleDomain := satAdd 4095 r.staleDomain 1 }).resumeWindows r.ctx)) ∧
    (r.orphan = false → r.pasidGen ≠ (s.ctx r.ctx).pasidGen → exec (.atsTranslationCompletion p tag x) s = .next
      ((u.modRst fun r => { r with stalePasid := satAdd 4095 r.stalePasid 1 }).resumeWindows r.ctx))) ∧
  (∀ (s : State) (p : Side) (f : Fin 128) (itag addr n : Nat) (pasid : Option Nat),
    (s.xlt.inv.filter fun i => i.port = p && i.func = f.val).length < 32 →
    Goes (.atsInvalidationRequest p f itag pasid addr n) s fun t =>
      (∃ cover reads, t.xlt.inv = s.xlt.inv ++
        [{ port := p, func := f.val, itag := itag, pasid := pasid, cover := cover, reads := reads }] ∧
        (∀ e ∈ (s.port p).journal, s.usesPage f.val pasid addr n e.ctx e.page = true → e.seq < cover) ∧
        (∀ r ∈ (s.port p).reqs, s.usesPage f.val pasid addr n r.ctx r.page = true → r.tag ∈ reads)) ∧
      (∀ x, ∀ e ∈ t.xlt.atc.get x, e ∈ s.xlt.atc.get x ∧
        ¬ (e.port = p ∧ e.func = f.val ∧ (∀ q, pasid = some q → e.pasid = q) ∧ inRange e.page e.sizeLog addr n = true)) ∧
      (∀ x, ∀ e ∈ s.xlt.atc.get x,
        ¬ (e.port = p ∧ e.func = f.val ∧ (∀ q, pasid = some q → e.pasid = q) ∧ inRange e.page e.sizeLog addr n = true) →
        e ∈ t.xlt.atc.get x) ∧ Same [.xlt] s t) ∧
  (∀ (s : State) (p : Side) (f : Fin 128) (itag : Nat) (i : AtsInv),
    s.xlt.inv.find? (fun i => i.port = p && i.func = f.val && i.itag = itag) = some i → (s.port p).up = true →
    i.cover ≤ (s.port p).jacked → (∀ r ∈ (s.port p).reqs, r.tag ∉ i.reads) →
    exec (.atsInvalidationCompletion p f itag) s = .next
      ((s.modXlt fun x => { x with inv := x.inv.erase i }).emit (.atsInvDone p f.val itag))) ∧
  (∀ (s u : State) (n : Nat) (p : Side) (f : Fin 128) (i g : Nat) (code : PrgCode) (mine : PageReq → Bool),
    s.canStamp = true → s.stamp = (n, u) →
    mine = (fun r => r.port = p && r.func = f.val && r.index = some i && r.pasidGen = g && (u.ctx r.ctx).pasidGen = g) →
    exec (.prgResponse p f i g code) s = .next
      (if u.xlt.requests.any mine = false then u.modRst fun r => { r with stalePasid := satAdd 4095 r.stalePasid 1 }
       else match code with
        | .success => (u.xlt.requests.filter mine).foldl
            (fun s r => match r.users with
              | (q, pos, w) :: _ => s.atsRequest r.ctx r.page r.access q pos w
              | [] => s.atsRequest r.ctx r.page r.access 16384 0 0)
            (u.modXlt fun x =>
              { x with requests := x.requests.map fun r => if mine r then { r with again := true, index := none } else r })
        | .invalidRequest => u.failRequests mine
        | .responseFailure => (u.modFunc p 0 fun x => { x with rf := true }).failRequests fun r => r.port = p)) ∧
  (∀ (s : State) (p : Side) (i : Nat) (mine : PageReq → Bool),
    mine = (fun r => r.port = p && r.index = some i && decide (s.time.bnd ≥ r.sentAt + bits (s.func p r.func).ctl.toNat 47 24)) →
    s.xlt.requests.any mine = true →
    exec (.priTimeout p i) s = .next
      ((s.failRequests mine).modXlt fun x => { x with deadPrg := x.deadPrg.set p (insertNat i (x.deadPrg.get p)) })) ∧
  (∀ (s : State) (p : Side) (f : Fin 128) (id : Nat) (r : FaultRec), s.stalledAt p f.val id = some r →
    r.raised + bits (s.func p f.val).ctl.toNat 23 0 + 1 ≤ s.time.bnd →
    exec (.stallLimit p f id) s = .next (s.failRecord r E.xltFault))

/-- Links and ports (R86, R87, R99, R100): LINK_DOWN opens the hold window and counts; training returns the port to L0 with what was
negotiated, CXL only where it was offered, flits are in use and the rate is 32 GT/s or more, and has a journal kept in the window
replayed, unless an advance of its generation is withheld (R44); at the window's end and at a reset the port is marked as lost and its
generation waits to advance; a port trained as CXL is then declared dead as an agent. -/
def Obligations.LinksGoDownAndReturn : Prop :=
  (∀ (s : State) (p : Side) (us : Nat), (s.port p).up = true →
    exec (.linkDown p us) s = .next (s.setPort p
      { s.port p with
        up := false, retrains := satAdd 255 (s.port p).retrains 1, holding := true, holdStart := s.time.us + us,
        holdMs := (s.port p).holdCfg })) ∧
  (∀ (s : State) (p : Side) (speed width : Fin 8) (flit cxl : Bool), (s.port p).up = false → s.carries p = true →
    ((s.port p).genDue = true → s.domainHeld (50 + p.num) = false) →
    Goes (.linkTrainingComplete p speed width flit cxl) s fun t =>
      (t.port p).up = true ∧ (t.port p).speed = (if (t.port p).cxl = true then min speed.val 6 else speed.val) ∧
        (t.port p).width = width.val ∧ (t.port p).flit = flit ∧
      (t.port p).cxl = (cxl && flit && (s.port p).offer && decide (5 ≤ speed.val)) ∧ (t.port p).holding = false ∧
      (t.port p).replayDue = (s.port p).holding ∧ (t.port p).journal = (s.port p).journal ∧
      (t.port p).regions = (s.port p).regions ∧ Same [.xlt, .ports, .rst, .coh, .out] s t) ∧
  (∀ (s : State) (p : Side) (speed width : Fin 8) (flit cxl : Bool),
    (s.port p).up = true ∨ s.carries p = false ∨ ((s.port p).genDue = true ∧ s.domainHeld (50 + p.num) = true) →
    exec (.linkTrainingComplete p speed width flit cxl) s = .next s) ∧
  (∀ (s : State) (p : Side), (s.port p).holding = true → (s.port p).cxl = false →
    (s.port p).holdStart + 1000 * (s.port p).holdMs < s.time.us + periodUs s.time.period →
    exec (.holdWindowExpiry p) s = .next (s.setPort p { s.port p with holding := false, lost := some 1, genDue := true })) ∧
  (∀ (s u : State) (p : Side) (n : Nat), (s.port p).holding = true → (s.port p).cxl = true → ptrHost p ∉ s.coh.dead →
    (s.port p).holdStart + 1000 * (s.port p).holdMs < s.time.us + periodUs s.time.period → s.stamp = (n, u) →
    exec (.holdWindowExpiry p) s = .next
      (if s.canStamp = true then (u.setPort p { s.port p with holding := false, lost := some 1, genDue := true }).declareDead n (ptrHost p)
       else s.carry (.holdWindowExpiry p))) ∧
  (∀ (s : State) (p : Side), (s.port p).cxl = false → (s.port p).tdis = [] →
    Goes (.portReset p) s fun t =>
      (t.port p).up = false ∧ (t.port p).lost = some 2 ∧ (t.port p).genDue = true ∧ (t.port p).vfEnable = false ∧
      (t.port p).mse = false ∧ (t.port p).bar4 = 0 ∧ (t.port p).retrains = 0 ∧ (t.port p).lastAck = 2 ^ 64 - 1 ∧
      (t.port p).capHidden = true ∧ (t.port p).regions = (s.port p).regions ∧ (t.port p).journal = (s.port p).journal ∧
      (t.port p).privRing = (s.port p).privRing ∧ t.port p.other = s.port p.other ∧
      (∀ y ∈ t.funcs, y.1 / 128 ≠ p.num → y ∈ s.funcs) ∧ (∀ y ∈ s.funcs, y.1 / 128 ≠ p.num → y.2 ≠ Func.reset → y ∈ t.funcs) ∧
      (∀ y ∈ t.funcs, y.1 / 128 = p.num → ∃ f, (y.1, f) ∈ s.funcs ∧ y.2 = { Func.reset with event := f.event }) ∧
      Same [.xlt, .ports, .funcs, .sels] s t)

/-- Function resets and configuration (R84, R88, R93, R97, R98, R100, R101, R122, R458): FLR and the return from D3hot end the function's
contexts; an FLR completes once their teardown has; the Bus Master Enable and D3hot events wait for the boundary; a configuration
request sets its field, and is retried while the function is in FLR. -/
def Obligations.FunctionsAreResetAndConfigured : Prop :=
  (∀ (i : Instr) (s u : State) (p : Side) (f : Fin 128) (n : Nat),
    i = .flr p f ∨ (i = .d0Return p f ∧ (s.func p f.val).d3 = true ∧ (s.port p).up = true ∧ (s.func p f.val).flr = false) → f.val ≠ 0 →
    (s.tdi .a f.val).state = .unlocked → (s.tdi .b f.val).state = .unlocked → s.stamp = (n, u) →
    (s.canStamp = false → exec i s = .next (s.carry i)) ∧
    (s.canStamp = true → Goes i s fun t =>
      t.ctxs = ((s.ctxsOf f.val).foldl (fun v k => v.beginTeardown k E.contextDead n) s).ctxs ∧
      t.funcs = ((s.modFunc p f.val fun x => { x.clearConfig with flr := true, silenced := true, event := 7 }).modFunc p.other f.val
          fun x => { x with silenced := true, ready := false, event := 7 }).funcs ∧
      (∀ q, (t.port q).journal = (s.port q).journal.filter fun e => !decide (e.func = f.val)) ∧
      (∀ q, t.xlt.atc.get q = (s.xlt.atc.get q).filter fun e => !decide (e.func = f.val)))) ∧
  (∀ (x : Func), x.clearConfig.fring = x.fring ∧ x.clearConfig.ctl = x.ctl ∧ x.clearConfig.bme = false ∧ x.clearConfig.msix = false ∧
    x.clearConfig.d3 = false ∧ x.clearConfig.errCount = x.errCount) ∧
  (∀ (s : State) (p : Side) (f : Fin 128), (s.func p f.val).flr = true → s.tearing p f.val = false → f.val = 0 →
    exec (.flrComplete p f) s = .next (s.modFunc p f.val fun x => { x with flr := false, silenced := false })) ∧
  (∀ (s u : State) (p : Side) (f : Fin 128), (s.func p f.val).flr = true → s.tearing p f.val = false → f.val ≠ 0 →
    u = (s.modFunc p f.val fun x => { x with flr := false, silenced := false }) →
    exec (.flrComplete p f) s = .next
      (if (u.func p.other f.val).flr = true then u else u.modFunc p.other f.val fun x => { x with silenced := false })) ∧
  (∀ (s : State) (p : Side) (f : Fin 128), s.tearing p f.val = true → exec (.flrComplete p f) s = .next s) ∧
  (∀ (s : State) (p : Side), (s.port p).vfEnable = true → (s.port p).tdis = [] → (s.port p).up = true → (s.func p 0).flr = false →
    Goes (.vfEnableClear p) s fun t => t.ports = (s.modPort p fun x => { x with vfEnable := false }).ports ∧ Same [.ports, .funcs] s t) ∧
  (∀ (s u : State) (p : Side) (f : Fin 128), (s.port p).up = true → (s.func p f.val).flr = false →
    u = (s.modFunc p f.val fun x => { x with d3 := true, ready := false, event := max x.event 5 }) →
    exec (.d3hotEntry p f) s = .next
      (if f.val = 0 then u
       else u.modFunc p.other f.val fun x => { x with silenced := true, ready := false, event := max x.event 5 })) ∧
  (∀ (s : State) (p : Side) (f : Fin 128), (s.port p).up = true → (s.func p f.val).flr = false →
    exec (.busMasterEnableClear p f) s = .next (s.modFunc p f.val fun x => { x with bme := false, event := max x.event 4 })) ∧
  (∀ (i : Instr) (s : State) (p : Side) (f : Fin 128) (c : Cfg),
    i = .configurationRequest p f c ∨ i = .d3hotEntry p f ∨ i = .busMasterEnableClear p f ∨ i = .d0Return p f ∨
      (i = .vfEnableClear p ∧ f.val = 0) →
    ((s.port p).up = true → (s.func p f.val).flr = true → exec i s = .next (s.emit (.cfgRetry p f.val))) ∧
    ((s.port p).up = false → exec i s = .next s)) ∧
  (∀ (s : State) (p : Side) (f : Fin 128) (v : Bool), (s.port p).up = true → (s.func p f.val).flr = false →
    exec (.configurationRequest p f (.msixEnable v)) s = .next (s.modFunc p f.val fun x => { x with msix := v }).inta ∧
    exec (.configurationRequest p f (.functionMask v)) s = .next (s.modFunc p f.val fun x => { x with fmask := v }).inta ∧
    exec (.configurationRequest p f (.interruptDisable v)) s = .next (s.modFunc p f.val fun x => { x with intDis := v }).inta ∧
    exec (.configurationRequest p f .busMasterSet) s = .next (s.modFunc p f.val fun x => { x with bme := true }).inta ∧
    exec (.configurationRequest p f (.relaxedOrdering v)) s = .next (s.modFunc p f.val fun x => { x with ro := v }).inta ∧
    exec (.configurationRequest p f (.atsEnable v)) s = .next (s.modFunc p f.val fun x => { x with ats := v }).inta) ∧
  (∀ (s : State) (p : Side) (v : Bool) (n : Nat), (s.port p).up = true → (s.func p 0).flr = false →
    exec (.configurationRequest p 0 .vfEnableSet) s = .next (s.modPort p fun x => { x with vfEnable := true }) ∧
    exec (.configurationRequest p 0 (.memorySpace v)) s = .next (s.modPort p fun x => { x with mse := v }) ∧
    ((s.port p).mse = false → 6 ≤ n → n ≤ 11 →
      exec (.configurationRequest p 0 (.bar4Size n)) s = .next (s.modPort p fun x => { x with bar4 := n - 6 })) ∧
    (n = 128 ∨ n = 256 ∨ n = 512 →
      exec (.configurationRequest p 0 (.maxPayload n)) s = .next (s.modFunc p 0 fun x => { x with mps := n }).inta) ∧
    exec (.configurationRequest p 0 .aerClear) s = .next (s.modFunc p 0 fun x =>
      { x with poisonedTlp := false, advisory := false, cplTimeout := false }).inta) ∧
  (∀ (s : State) (p : Side) (f : Fin 128) (x : CfgField), (s.port p).up = true → (s.func p f.val).flr = false →
    exec (.configurationRequest p f (.read x)) s = .next (s.emit (.cfgData p f.val (s.configRead p f.val x))))

/-- Requests from the host and completions of Harson's (R42, R84, R96, R97, R104, R109): a request that a placement region admits reads or
writes the window's bytes, and no byte outside them changes; one that none admits is recorded with HX_E_PEER_DENIED and, unless it is a
write, answered as unsupported; one that arrives behind a waiting write waits in its turn; a completion is matched by its tag and its
generations, and a timeout is reported by AER; a flushing read frees what it covers, unless its generation is old. -/
def Obligations.HostRequestsAndCompletionsAct : Prop :=
  (∀ (s : State) (p : Side) (id addr a n : Nat), (s.port p).up = true → (s.port p).mse = true → s.placed4 p id addr (.read n) = some a →
    s.coh.dir = [] → s.writeWaits p = false → (s.port p).behind = [] →
    exec (.inboundBar4Request p id addr (.read n)) s = .next (s.emit (.bar4Cpl p .ok (s.mem.readN a n) (s.mem.anyPoison a n)))) ∧
  (∀ (s u : State) (p : Side) (id addr a : Nat) (d : List Byte) (bad : Bool), s.mem.wf = true → (s.port p).up = true →
    (s.port p).mse = true → s.placed4 p id addr (.write d bad) = some a → s.coh.dir = [] → s.writeWaits p = false →
    (s.port p).behind = [] →
    u = (if bad = true then s.modFunc p 0 fun v => { v with poisonedTlp := true, advisory := true } else s) →
    Quiet (u.setMem (s.mem.store a d bad)) [(a, d.length)] →
    Goes (.inboundBar4Request p id addr (.write d bad)) s fun t =>
      t = u.setMem (s.mem.store a d bad) ∧
      t.mem.readN a d.length = d ∧ (∀ x, x < a ∨ a + d.length ≤ x → t.mem.read x = s.mem.read x) ∧
      t.mem.wf = true ∧ (bad = true → d ≠ [] → t.mem.anyPoison a d.length = true)) ∧
  (∀ (s : State) (p : Side) (id addr : Nat) (k : Bar4Kind), (s.port p).up = true → (s.port p).mse = true → s.placed4 p id addr k = none →
    s.writeWaits p = false → (s.port p).behind = [] →
    exec (.inboundBar4Request p id addr k) s = .next
      (if bar4Write k = true then s.regErrAt p 0 2 (addr / 2 ^ 21) E.peerDenied
       else (s.regErrAt p 0 2 (addr / 2 ^ 21) E.peerDenied).emit (.bar4Cpl p .unsupported [] false))) ∧
  (∀ (s : State) (p : Side) (id addr a : Nat) (k : Bar4Kind), (s.port p).up = true → (s.port p).mse = true →
    s.placed4 p id addr k = some a → (∀ d, k ≠ .write d true) → s.writeWaits p = true ∨ (s.port p).behind ≠ [] →
    exec (.inboundBar4Request p id addr k) s = .next (s.modPort p fun x => { x with behind := x.behind ++ [.access p a k] })) ∧
  (∀ (s : State) (p : Side) (tag q pos u off len : Nat) (x) (d : List Byte) (bad : Bool) (r : Req),
    (s.port p).reqs.find? (fun r => r.tag = tag) = some r → r.kind = .source q pos u off len x → (s.dropReq p tag).staleReq p r = none →
    d.length = len →
    exec (.hostCompletion p tag .ok d bad) s = .next ((s.dropReq p tag).sourceArrived q pos u off (d.map fun b => (b, bad)))) ∧
  (∀ (s : State) (p : Side) (tag q pos u off len : Nat) (x) (st : CplStatus) (d : List Byte) (bad : Bool) (r : Req),
    (s.port p).reqs.find? (fun r => r.tag = tag) = some r → r.kind = .source q pos u off len x → (s.dropReq p tag).staleReq p r = none →
    st ≠ .ok → exec (.hostCompletion p tag st d bad) s = .next ((s.dropReq p tag).endUnit q pos u E.atsFailed)) ∧
  (∀ (s v : State) (p : Side) (tag f q pos : Nat) (st : CplStatus) (d : List Byte) (bad : Bool) (r : Req),
    (s.port p).reqs.find? (fun r => r.tag = tag) = some r → r.kind = .signal f q pos → (s.dropReq p tag).staleReq p r = none →
    v = (s.dropReq p tag).modFunc p (s.ctx r.ctx).func (fun x => { x with cplTimeout := true }) →
    exec (.hostCompletion p tag st d bad) s = .next
      (if st = .ok then (s.dropReq p tag).atomicDone p q pos
       else ((s.dropReq p tag).atomicDone p q pos).breakFence f E.hostLost) ∧
    exec (.hostCompletionTimeout p tag) s = .next ((v.atomicDone p q pos).breakFence f E.hostLost)) ∧
  (∀ (s v : State) (p : Side) (tag : Nat) (st : CplStatus) (d : List Byte) (bad : Bool) (r : Req),
    (s.port p).reqs.find? (fun r => r.tag = tag) = some r → (s.dropReq p tag).staleReq p r = some v →
    exec (.hostCompletion p tag st d bad) s = .next v) ∧
  (∀ (s v : State) (p : Side) (tag q pos u off len : Nat) (x) (r : Req) (c : Cmd),
    (s.port p).reqs.find? (fun r => r.tag = tag) = some r → r.kind = .source q pos u off len x → (s.dropReq p tag).staleReq p r = none →
    v = (s.dropReq p tag).modFunc p (s.ctx r.ctx).func (fun x => { x with cplTimeout := true }) → (s.queue q).cmd pos = some c →
    exec (.hostCompletionTimeout p tag) s = .next
      (if c.counted = true then (v.breakFence (fIndex (hFence c.bytes)) E.hostLost).endUnit q pos u E.hostLost
       else v.endUnit q pos u E.hostLost)) ∧
  (∀ (s : State) (p : Side) (gen : Nat) (f : Flush), (s.port p).flushes.find? (fun f => f.gen = gen) = some f →
    gen = s.gen (50 + p.num) →
    (Goes (.flushReadComplete p ⟨gen, true⟩) s fun t =>
      (t.port p).journal = (s.port p).journal.filter (fun e => !(decide (e.seq < f.cover) && !e.owed)) ∧
      (t.port p).flushes = (s.port p).flushes.erase f ∧ (t.port p).jacked = max (s.port p).jacked f.cover ∧ (t.port p).acked = true ∧
      (t.port p).lastAck = f.stamp ∧ (t.port p).sent = [] ∧ Same [.ports] s t) ∧
    exec (.flushReadComplete p ⟨gen, false⟩) s = .next (s.setPort p
      { s.port p with flushes := (s.port p).flushes.erase f, flushErr := true })) ∧
  (∀ (s : State) (p : Side) (gen : Nat) (ok : Bool), gen ≠ s.gen (50 + p.num) →
    Goes (.flushReadComplete p ⟨gen, ok⟩) s fun t =>
      (t.port p).journal = (s.port p).journal ∧ (t.port p).lastAck = (s.port p).lastAck ∧
      t.rst = { s.rst with staleDomain := satAdd 4095 s.rst.staleDomain 1 } ∧ Same [.ports, .rst] s t) ∧
  (∀ (s : State) (p : Side) (f : Flush) (l : List Flush), (s.port p).flushes = f :: l →
    exec (.flushReadTimeout p) s = .next
      ((s.setPort p { s.port p with flushes := l, flushErr := true }).modFunc p 0 fun x => { x with cplTimeout := true }))

/-- Interrupt events (R402, R404, R405, R407, R412): an event reaches its vector, moderation releases it when COUNT events have come or
D µs have passed, a DUE vector is delivered in ascending order with DELAY_NOW as R405 sets it, and a source that fires sets HIT bits and
wakes the twins in standby that its slots name. -/
def Obligations.InterruptEventsAct : Prop :=
  (∀ (s u : State) (us f v : Nat) (o : Origin) (l : List (Nat × Nat × Origin)), s.irq.raised = (f, v, o) :: l → u = s.reach us →
    exec (.eventRaised us) s = .next (((u.modIrq fun i => { i with raised := l }).modVec f v fun x => x.event u.time.now o).inta)) ∧
  (∀ (x : Vec) (now : Nat) (o : Origin),
    (x.state = .quiet → (x.event now o).events = 1 ∧ (x.event now o).state = (if x.idle = true then .due else .waiting)) ∧
    (x.state = .waiting → (x.event now o).events = min (x.events + 1) 16383 ∧
      (x.event now o).state = (if x.idle = true then .due else .waiting)) ∧
    (x.state = .due ∨ x.state = .service → (x.event now o).events = min (x.events + 1) 16383 ∧ (x.event now o).state = x.state)) ∧
  (∀ (s u : State) (f : Fin 128) (v : Fin 2048) (us : Nat), u = s.reach us →
    exec (.moderationRelease f v us) s = .next (u.modVec f.val v.val fun x => x.moderate u.time.now).inta) ∧
  (∀ (x : Vec) (now o c d : Nat), x.state = .waiting → x.window = some (o, c, d) → o ≤ now →
    (c ≤ x.events ∨ o + d ≤ now → (x.moderate now).state = .due ∧ (x.moderate now).events = x.events ∧
      (x.moderate now).released = some (if c ≤ x.events then 0 else if x.events = 1 then 1 else 2)) ∧
    (x.events < c → now < o + d → x.moderate now = x)) ∧
  (∀ (s u : State) (f : Fin 128) (v : Fin 2048) (us : Nat), u = s.reach us → u.deliverable f.val v.val = true →
    (∀ g w, (g, w) ∈ u.vecKeys → vecKey g w < vecKey f.val v.val → u.deliverable g w = false) → u.canStamp = true →
    exec (.vectorDelivery f v us) s = .next (u.deliver f.val v.val)) ∧
  (∀ (s : State) (f v : Nat), (s.vec f v).route = none →
    (s.deliver f v).irq.delivered = s.irq.delivered ++ [(f, v)] ∧
    .msix (s.vecPort f v) f v (Tbl.get MsixEntry.reset (s.func (s.vecPort f v) f).table v).addr
      (Tbl.get MsixEntry.reset (s.func (s.vecPort f v) f).table v).data ∈ (s.deliver f v).out ∧
    (s.deliver f v).irq.vecs = (s.setVec f v (s.vec f v).delivered).irq.vecs) ∧
  (∀ (x : Vec), x.delivered.state = (if x.autoAck = true then .quiet else .service) ∧ x.delivered.events = 0 ∧
    x.delivered.idle = false ∧ (x.adapt = false → x.delivered.delayNow = x.delayNow) ∧
    (x.adapt = true → x.delivered.delayNow =
      (if x.released = some 0 then min (max (2 * x.delayNow) 1) x.delay
       else if x.released = some 1 then x.delayNow / 2 else x.delayNow))) ∧
  (∀ (s : State) (f : Fin 128) (v : Fin 2048) (us : Nat), (s.reach us).deliverable f.val v.val = false →
    exec (.vectorDelivery f v us) s = .next (s.reach us)) ∧
  (∀ (s : State) (src : List (Nat × Nat)) (hits : Tbl Wake) (names : Side → Bool),
    hits = (s.irq.wakes.filter fun (_, w) => src.any fun (k, a) => w.matches k a) →
    names = (fun t => hits.any fun (_, w) => tst w.action t.num) →
    Goes (.wakeSourceFire src) s fun t =>
      t.irq.hit = hits.foldl (fun h (k, _) => setBit h k true) s.irq.hit ∧
      t.irq.wakeCount = (if (names .a = true ∧ (s.twin .a).standby = true) ∨ (names .b = true ∧ (s.twin .b).standby = true) then
        satAdd 65535 s.irq.wakeCount 1 else s.irq.wakeCount) ∧
      (∀ q, names q = true → (t.twin q).standby = false) ∧
      (∀ q, names q = true → (s.twin q).standby = false → (s.twin q).standbyReq = true →
        (t.twin q).standbyReq = false ∧ t.irq.cancelled = true) ∧
      (∀ q, names q = false → t.twin q = s.twin q) ∧ Same [.twins, .irq, .clk] s t)

/-- Fault collectors and samples (R418, R421 to R424, R427, R432, R443): an occurrence is captured afresh when its bit of FIRST is clear
and counted otherwise, and enters PENDING unless its source is a Record; an error of shared-plane storage is a chip-wide event and
poisons the coherent line that it met (R419; log entry 209); an uncorrectable error of a burst buffer marks a
burst of the unit that its engine wrote last, or waits for the next (log entry 171); the timer's end takes the step of the ladder; a twin
whose
collector cannot be trusted stops; a sample's core returns, or is missed. -/
def Obligations.FaultsAreCapturedAndEscalate : Prop :=
  (∀ (s u v : State) (t : Side) (src : Fin 15) (ctx : Option Nat) (code detail n : Nat), src.val < 13 → s.canStamp = true →
    s.stamp = (n, u) → v = u.occur t src.val n code ctx detail →
    exec (.faultOccurrence t src ctx code detail) s = .next
      (if src.val = 0 then
        (match ctx with
         | none => v.modEngine (detail % 40) fun e => { e with uncorr := true }
         | some k => (v.modEngine (detail % 40) fun e => { e with uncorr := true }).spoilUnit (detail % 40) k)
       else if src.val = 1 then v.modEngine (detail % 40) fun e => { e with corr := true }
       else if src.val = 7 then v.discard t fun _ => true
       else v)) ∧
  (∀ (s : State) (t : Side) (src : Fin 15) (ctx : Option Nat) (code detail : Nat), s.canStamp = false → 7 < src.val →
    src.val < 13 → exec (.faultOccurrence t src ctx code detail) s = .next
      ((s.occurLater t src code ctx detail).modTime fun x => { x with carry := true })) ∧
  (∀ (s : State) (t : Side) (ctx : Option Nat) (code detail : Nat),
    exec (.faultOccurrence t 13 ctx code detail) s = .next (s.chip 6 detail) ∧
    exec (.faultOccurrence t 14 ctx 0 detail) s = .next (s.chip 7 detail) ∧
    ((s.window (detail / 128 * 128)).isSome = true →
      exec (.faultOccurrence t 14 ctx 1 detail) s = .next ((s.poisonLine (detail / 128 * 128)).chip 7 detail))) ∧
  (∀ (s : State) (n k : Nat),
    (s.engine n).last = none ∨ (∃ q pos u, (s.engine n).last = some (q, pos, u) ∧ ((s.queue q).cmd pos = none ∨ (s.queue q).ctx ≠ k)) →
    s.spoilUnit n k = s.modEngine n fun e => { e with spoil := some (k, s.time.bnd) }) ∧
  (∀ (s : State) (t : Side) (src n code detail : Nat) (ctx : Option Nat),
    ((s.occur t src n code ctx detail).twin t).col = (s.twin t).col.occur src n code ctx detail) ∧
  (∀ (c : Collector) (src n code detail : Nat) (ctx : Option Nat), Tbl.wf Capture.none c.caps = true →
    (tst c.first src = false → Tbl.get Capture.none (c.occur src n code ctx detail).caps src =
      { stamp := n, code := code, ctx := ctx, occur := 1, detail := detail % 65536 }) ∧
    (tst c.first src = true → Tbl.get Capture.none (c.occur src n code ctx detail).caps src =
      { Tbl.get Capture.none c.caps src with occur := satAdd 65535 (Tbl.get Capture.none c.caps src).occur 1 }) ∧
    (c.occur src n code ctx detail).first = setBit c.first src true ∧
    (startOf src = 0 → (c.occur src n code ctx detail).pending = c.pending ∧ (c.occur src n code ctx detail).grace = c.grace) ∧
    (startOf src ≠ 0 → (c.occur src n code ctx detail).pending = setBit c.pending src true)) ∧
  (∀ (s : State) (t : Side) (c : Collector), c = (s.twin t).col → c.grace = some 1 → c.pending ≠ 0 →
    (s.ladderStep t = 1 → exec (.graceTimerExpiry t) s = .next
      ((s.containNamed t).modTwin t fun w =>
        { w with col := { w.col with level := 1, pending := 0, named := [], grace := none, armed := false } })) ∧
    (2 ≤ s.ladderStep t → s.serves t.other = true → exec (.graceTimerExpiry t) s = .next
      ((s.failAt t (if s.ladderStep t = 2 then .resetStep else .outStep)).modTwin t fun w =>
        { w with col := { w.col with level := s.ladderStep t, pending := 0, named := [], grace := none, armed := false } })) ∧
    (2 ≤ s.ladderStep t → s.serves t.other = false → (s.twin t.other).state ≠ .detaching →
      exec (.graceTimerExpiry t) s = .next
        ((s.containNamed t).modTwin t fun w =>
          { w with col := { w.col with
              level := if w.col.named.isEmpty = true then w.col.level else max w.col.level 1, lone := true, grace := none,
              armed := true } }))) ∧
  (∀ (s : State) (t : Side), ((s.twin t).col.grace ≠ some 1 ∨ (s.twin t).col.pending = 0) → exec (.graceTimerExpiry t) s = .next s) ∧
  (∀ (s u v : State) (t : Side) (n : Nat), s.carries t = true → s.carries t.other = true →
    u = (s.modTwin t fun w => { w with col := { w.col with safe := true }, fail := w.fail.or (some .safe) }) → u.canStamp = true →
    u.stamp = (n, v) → exec (.safeState t) s = .next (v.occur t.other 12 n 0 none t.num)) ∧
  (∀ (s : State) (t : Side), s.carries t = true → s.carries t.other = false →
    exec (.safeState t) s = .next
      (s.modTwin t fun w => { w with col := { w.col with safe := true }, fail := w.fail.or (some .safe) })) ∧
  (∀ (s : State) (d : Detach), s.rst.detach = some d → 64 ≤ d.waited →
    exec .detachForced s = .next (s.modRst fun r => { r with detach := some { d with forced := true } })) ∧
  (∀ (s : State) (n : Fin 48) (core gen : Nat) (d : List Byte), gen = s.gen n.val → (s.cd n.val).stage = 2 →
    core ∈ (s.cd n.val).awaiting → d.length = 4096 →
    exec (.sampleReturn n core gen d) s = .next (s.modCd n.val fun c =>
      { c with awaiting := c.awaiting.filter (· ≠ core), sample := Tbl.put c.sample core (some d) })) ∧
  (∀ (s : State) (n : Fin 48) (core gen : Nat) (d : List Byte), gen ≠ s.gen n.val →
    exec (.sampleReturn n core gen d) s = .next (s.modRst fun r => { r with staleDomain := satAdd 4095 r.staleDomain 1 })) ∧
  (∀ (s : State) (n : Fin 48) (core : Nat), (s.cd n.val).stage = 2 → core ∈ (s.cd n.val).awaiting →
    exec (.sampleTimeout n core) s = .next (s.modCd n.val fun c =>
      { c with awaiting := c.awaiting.filter (· ≠ core), sample := Tbl.put c.sample core none, miss := setBit c.miss core true }))

/-- Discovery, the tick and links (R362 to R365, R376): each phase ends as its rule says; HELLO, PROBE and CENSUS add what a
neighbour told; a map is installed and goes on down the tree; beacons start the tick, measure the skew, and their loss has a device
take another parent, the root, or the join; links go up and down and are reported. -/
def Obligations.DiscoveryAndLinksAct : Prop :=
  (∀ (s : State), s.discovering = true → s.fab.phase = 0 →
    exec .discoveryPhaseEnd s = .next
      (if 16 ≤ s.fab.quiet ∧ 64 ≤ s.fab.length then
        s.modFab fun f => { f with phase := 1, quiet := 0, length := 0, best := ownSerial, dist := 0 } else s)) ∧
  (∀ (s : State), s.discovering = true → s.fab.phase = 1 → s.fab.quiet < 33 → exec .discoveryPhaseEnd s = .next s) ∧
  (∀ (s : State), s.discovering = true → s.fab.phase = 1 → 33 ≤ s.fab.quiet → s.fab.best = ownSerial →
    Goes .discoveryPhaseEnd s fun t => t.fab.phase = 2 ∧ t.fab.isRoot = true ∧ t.fab.parent = none ∧ t.out = s.out) ∧
  (∀ (s : State), s.discovering = true → s.fab.phase = 1 → 33 ≤ s.fab.quiet → s.fab.best ≠ ownSerial →
    Goes .discoveryPhaseEnd s fun t => t.fab.phase = 2 ∧ t.fab.isRoot = false ∧ t.fab.parent = s.electParent ∧
      (∀ l, s.electParent = some l → ∃ n, t.out = s.out ++ [.censusHop l (n :: s.fab.nodes)] ∧ n.serial = ownSerial)) ∧
  (∀ (s : State), s.discovering = true → s.fab.phase = 2 → s.fab.isRoot = true → censusDone s.fab.nodes = true →
    exec .discoveryPhaseEnd s = .next ((s.modFab fun f => { f with phase := 3, quiet := 0, length := 0 }).makeMap true)) ∧
  (∀ (s : State), s.discovering = true → s.fab.phase = 3 → s.fab.isRoot = true → s.fab.map ≠ [] →
    exec .discoveryPhaseEnd s = .next
      (s.modFab fun f => { f with phase := 4, quiet := 0, length := 0, startIn := some (f.diameter + 2) })) ∧
  (∀ (s : State) (link : Fin 24) (serial pl best dist : Nat) (pin : Option Nat), s.discovering = true → (s.flink link.val).up = true →
    s.fab.phase = 1 →
    exec (.hello link serial pl pin best dist none) s = .next
      (s.modLink link.val fun x => { x with heard := true, peerSerial := serial, peerLink := pl, best := best, dist := dist }).elect) ∧
  (∀ (s : State) (l b d : Nat), pairMin ((ownSerial, 0) :: (s.linksUp.filter fun x => x.2.heard).map fun x => (x.2.best, x.2.dist + 1)) =
      some (b, d) → s.elect.fab.best = b ∧ s.elect.fab.dist = d ∧
      (l = s.fab.quiet → s.elect.fab.quiet = if b = s.fab.best ∧ d = s.fab.dist then l else 0)) ∧
  (∀ (s : State) (link : Fin 24) (serial pl best dist : Nat) (pin : Option Nat) (a : FabAnswer), s.discovering = true →
    (s.flink link.val).up = true → s.fab.phase = 0 →
    Goes (.hello link serial pl pin best dist (some a)) s fun t => t.fab.phase = 6 ∧ t.fab.joining = true ∧
      t.fab.parent = some link.val ∧ t.fab.root = a.root) ∧
  (∀ (s : State) (link : Fin 24) (n : Nat) (x : FabLink), s.discovering = true → x = s.flink link.val → x.up = true →
    x.probes.length < 16 →
    exec (.probe link n) s = .next (s.modLink link.val fun y =>
      { y with probes := x.probes ++ [n],
               delay := if x.probes.length = 15 then min 65535 (((x.probes ++ [n]).foldl min n + 1) / 2) else y.delay })) ∧
  (∀ (s : State) (link : Fin 24) (l : List FabNode), s.discovering = true → 1 ≤ s.fab.phase → s.fab.phase < 5 →
    (s.fab.phase = 1 ∨ s.fab.isRoot = true) →
    exec (.census link l) s = .next (s.modFab fun f => { f with nodes := mergeNodes f.nodes l })) ∧
  (∀ (s : State) (link : Fin 24) (l : List FabNode), s.discovering = true → s.fab.phase = 5 → s.fab.isRoot = true →
    exec (.census link l) s = .next ((s.modFab fun f => { f with nodes := mergeNodes f.nodes l }).makeMap false)) ∧
  (∀ (s : State) (link : Fin 24) (l : List FabNode) (p : Nat), s.discovering = true → 2 ≤ s.fab.phase → s.fab.isRoot = false →
    s.fab.parent = some p → exec (.census link l) s = .next (s.emit (.censusHop p l))) ∧
  (∀ (s : State) (link : Fin 24) (m : FabMap), s.discovering = true → s.fab.parent = some link.val →
    s.fab.phase = 2 ∨ s.fab.phase = 3 →
    exec (.fabricMapPacket link m) s = .next
      (((s.modFab fun f => { f with phase := 3, quiet := 0, length := 0 }).installMap m.nodes true).sendMap)) ∧
  (∀ (s : State) (link : Fin 24) (m : FabMap), s.discovering = true → s.fab.parent = some link.val → s.fab.phase = 5 →
    exec (.fabricMapPacket link m) s = .next ((s.installMap m.nodes false).sendMap)) ∧
  (∀ (s : State) (link : Fin 24) (n : Nat) (o : Int), s.discovering = true → s.fab.parent = some link.val →
    s.fab.phase = 3 ∨ s.fab.phase = 4 → s.fab.startIn = none →
    exec (.beacon link n o) s = .next (s.modFab fun f => { f with phase := 4, quiet := 0, length := 0, startIn := some n })) ∧
  (∀ (s : State) (link : Fin 24) (n : Nat) (o : Int) (u : State), s.discovering = true → s.fab.parent = some link.val →
    s.fab.phase = 5 → u = s.skewed o →
    exec (.beacon link n o) s = .next
      (if 1000 < o.natAbs then u.modFab fun f =>
        { f with phase := 6, joining := true, parent := none, steady := 0, detached := true, missed := 0 } else u)) ∧
  (∀ (s : State) (o : Int), (s.fab.skewTicks + 1 = 16 → o.natAbs ≤ 50) →
    s.skewed o = s.modFab fun f =>
      { f with missed := 0, skewNow := (o % 65536).toNat, skewMax := max f.skewMax (min o.natAbs 65535),
               skewTicks := if 50 < o.natAbs then s.fab.skewTicks + 1 else 0 }) ∧
  (∀ (s : State), s.fab.phase = 5 → s.fab.isRoot = false → 4 ≤ s.fab.missed → s.linksUp = [] → s.fab.dist ≠ 1 →
    exec .beaconLoss s = .next (s.modFab fun f => { f with phase := 6, joining := true, parent := none, steady := 0, missed := 0 })) ∧
  (∀ (s : State), s.fab.phase = 5 → s.fab.isRoot = false → 4 ≤ s.fab.missed → s.linksUp = [] → s.fab.dist = 1 →
    (∀ n ∈ s.fab.map, n.1.dist = 1 → ownSerial ≤ n.1.serial) →
    exec .beaconLoss s = .next ((s.modFab fun f =>
      { f with isRoot := true, parent := none, missed := 0, nodes := (s.fab.map.map (·.1)).filter fun n => n.dist ≠ 0 }).makeMap false)) ∧
  (∀ (s : State) (link : Fin 24) (d r n : Nat), s.fab.joining = true →
    exec (.fabricJoin link d r n) s = .next
      ((((s.advanceGen 52).comeBack (List.range 32)).modFab fun f =>
        { f with device := d, root := r, parent := some link.val, steady := 0,
                 conflict := f.conflict || (match s.pinId with | some p => p ≠ d | none => false) }).modTime fun t =>
        { t with jumpTo := if n > t.tick + 1 then some n else none, agreed := t.agreed || decide (n ≤ t.tick + 1) })) ∧
  (∀ (s : State) (link : Fin 24), (s.flink link.val).up = true →
    exec (.fabricLinkDown link) s = .next
      (((s.modLink link.val fun x =>
        { x with up := false, downs := satAdd 255 x.downs 1, upFor := 0, reported := false, heard := false, probes := [] }).modFab fun f =>
        { f with routes := Tbl.mapVal (fun _ (r : Route) =>
            if r.link = some link.val then { r with change := true } else r) f.routes }).report)) ∧
  (∀ (s : State) (link : Fin 24), (s.flink link.val).up = true → (s.flink link.val).reported = false → 16 ≤ (s.flink link.val).upFor →
    exec (.fabricLinkUp link) s = .next ((s.modLink link.val fun x => { x with reported := true }).report)) ∧
  (∀ (s : State) (link : Fin 24) (d l : Nat), (s.flink link.val).up = false → tst s.clk.gates (3 + link.val) = true →
    exec (.linkReportedUp link d l) s = .next
      ((s.modLink link.val fun x =>
        { x with up := true, peerDev := d, peerLink := l, upFor := 0, reported := false, heard := false, probes := [] }).modFab fun f =>
        { f with quiet := if f.phase = 0 then 0 else f.quiet }))

/-- Global operations and groups (R360, R390 to R392): the root admits the one operation under way and tells the members below; the
others take it over, confirm, or are refused; rank 0 compares member lists by digest and answers, also a member
that commits once the lists have been found to differ; a group that has not agreed in 4,096
ticks shows MISMATCH. -/
def Obligations.GlobalOperationsAndGroupsAgree : Prop :=
  (∀ (s : State) (link : Fin 24) (src : Nat) (m : GlobalMsg), s.canStamp = false →
    exec (.global_ link src m) s = .next (s.carry (.global_ link src m))) ∧
  (∀ (s u : State) (link : Fin 24) (src g snap n : Nat) (rst : Bool), s.canStamp = true → s.stamp = (n, u) →
    exec (.global_ link src (.ask rst g snap)) s = .next
      (if s.fab.global = none then u.admitGlobal rst g snap else u.emit (.globalHop src .refuse))) ∧
  (∀ (s : State) (g snap : Nat) (rst : Bool) (x : Global),
    x = { reset := rst, group := g, tick := some s.time.tick, snapTick := max snap (s.time.tick + treeDepth (s.members g).length),
          confirms := 0, done := false, restored := false, told := false, via := none } →
    s.admitGlobal rst g snap = (s.modFab fun f => { f with global := some x }).emits
      ((s.treeBelow g).map fun d => .globalHop d (.go rst g s.time.tick x.snapTick))) ∧
  (∀ (s u : State) (link : Fin 24) (src g t snap n : Nat) (rst : Bool) (x : Global), s.canStamp = true → s.stamp = (n, u) →
    x = { reset := rst, group := g, tick := some t, snapTick := snap, confirms := 0, done := false, restored := false, told := false,
          via := s.fab.global.bind (·.via) } →
    exec (.global_ link src (.go rst g t snap)) s = .next ((u.modFab fun f => { f with global := some x }).emits
      ((u.treeBelow g).map fun d => .globalHop d (.go rst g t snap)))) ∧
  (∀ (s u : State) (link : Fin 24) (src n : Nat) (x : Global), s.canStamp = true → s.stamp = (n, u) → s.fab.global = some x →
    exec (.global_ link src .confirm) s = .next (u.modFab fun f => { f with global := some { x with confirms := x.confirms + 1 } }) ∧
    (x.tick = none → exec (.global_ link src .refuse) s = .next
      (match x.via with
       | none => u.modFab fun f => { f with global := none }
       | some p => (u.modFab fun f => { f with global := none }).regErrAt p 0 0 0x105088 E.locked))) ∧
  (∀ (s u : State) (h : FabHdr) (g n : Nat) (d : List Byte), s.canStamp = true → s.stamp = (n, u) →
    takeDigest (.groupDigestReceipt h g d) h g d s = (u.modGroup g fun x =>
      { x with early := x.early ++ [(h.src, d)], first := some (x.first.getD u.time.bnd) }).groupJudge g) ∧
  (∀ (s : State) (g : Nat) (x : Group), x = s.group g → x.members ≠ 0 → x.rank = 0 → x.mismatch = false → x.answered = false →
    ((∃ y ∈ x.early, y.2 ≠ listDigest x.list) →
      s.groupJudge g = (s.modGroup g fun x => { x with mismatch := true, valid := false, early := [] }).groupAnswer g
        (x.matched ++ x.early.map (·.1)).eraseDups false) ∧
    ((∀ y ∈ x.early, y.2 = listDigest x.list) → (x.matched ++ x.early.map (·.1)).eraseDups.length + 1 = x.members →
      s.groupJudge g = (s.modGroup g fun x =>
        { x with matched := ((s.group g).matched ++ (s.group g).early.map (·.1)).eraseDups, early := [], answered := true }).groupAnswer g
        (x.matched ++ x.early.map (·.1)).eraseDups true)) ∧
  (∀ (s : State) (g t : Nat) (x : Group), x = s.group g → x.members ≠ 0 → x.rank = 0 → x.mismatch = true → x.answered = false →
    x.first = some t → s.time.bnd < t + 4096 →
    s.groupJudge g = (s.modGroup g fun x => { x with early := [] }).groupAnswer g (x.early.map (·.1)) false) ∧
  (∀ (s u : State) (h : FabHdr) (g n : Nat) (agree : Bool), s.canStamp = true → s.stamp = (n, u) → (u.group g).members ≠ 0 →
    (u.group g).list.head? = some h.src →
    takeAnswer (.groupDigestAnswer h g agree) h g agree s = u.modGroup g fun x =>
      if agree = true then { x with answered := true } else { x with mismatch := true, valid := false, answered := false }) ∧
  (∀ (s : State) (g t : Nat) (x : Group), x = s.group g → x.first = some t → x.members ≠ 0 → x.valid = false → x.answered = false →
    x.mismatch = false → t + 4096 ≤ s.time.bnd →
    exec (.groupAgreeTimeout g) s = .next
      (if x.rank = 0 then (s.modGroup g fun x => { x with mismatch := true }).groupAnswer g x.matched false
       else s.modGroup g fun x => { x with mismatch := true }))

/-- Arriving packets (R366, R367, R369, R373): a wrong class or channel is counted BAD; a packet for another device goes on; a path
or reset-domain generation that differs and a PSEQ out of order are dropped and counted; a packet in order is counted and held for its
delivery time; a PATHFENCE that names the generation held is adopted and answered, one that names another, under a generation not held, is
dropped. -/
def Obligations.PacketsAreChecked : Prop :=
  (∀ (c : Instr) (s : State) (h : FabHdr) (k : Nat), packetRow c = some (h, k) →
    (h.tc.val ≠ kindClass k ∨ h.vc.val ≠ kindVc k → exec c s = .next (s.modFab fun x => { x with bad := satAdd 2047 x.bad 1 })) ∧
    (h.tc.val = kindClass k → h.vc.val = kindVc k → h.dst ≠ s.fab.device → exec c s = .next (s.forward h)) ∧
    (Addressed s h k → h.pgen ≠ (s.rx h.src).gen → exec c s = .next s.stalePath) ∧
    (Addressed s h k → h.pgen = (s.rx h.src).gen → h.dgen ≠ s.gen 52 → exec c s = .next s.staleDomain) ∧
    (Addressed s h k → h.pgen = (s.rx h.src).gen → h.dgen = s.gen 52 → h.pseq ≠ (s.rx h.src).expect.getD h.tc.val 0 →
      exec c s = .next (s.modFab fun x => { x with gap := satAdd 16383 x.gap 1 })) ∧
    (InOrder s h k → fixedKind k = true → h.age < (s.route h.src).delay →
      exec c s = .next ((s.countedPkt h).modFab fun x =>
        { x with held := insertHeld x.held (s.arrivalNs h + ((s.route h.src).delay - h.age)) c }))) ∧
  (∀ (s : State) (h : FabHdr) (n : Nat), Addressed s h K.pathfence →
    (n % 256 = (s.rx h.src).gen → exec (.pathfence h n) s =
      .next ((s.setRx h.src { gen := h.pgen, expect := [0, 0, 0, 0] }).sendPfack h.src
        { plainPkt K.pfack (s.rx h.src).expect with addr := 15 })) ∧
    (n % 256 ≠ (s.rx h.src).gen → h.pgen ≠ (s.rx h.src).gen → exec (.pathfence h n) s = .next s.stalePath)) ∧
  (∀ (s : State) (us t : Nat) (c : Instr) (h : FabHdr) (k : Nat) (f : State → State), (s.reach us).fab.held = [(t, c)] →
    t ≤ ((s.reach us).time.us + us) * 1000 → fabParts c = some (h, k, f) → (∀ h g t r m, c ≠ .collCtl h g t r m) →
    exec (.fixedDelayDelivery us) s = .next (((s.reach us).modFab fun x => { x with held := [] }).deliverPkt h k f)) ∧
  (∀ (s : State) (us : Nat), (∀ x ∈ (s.reach us).fab.held, ((s.reach us).time.us + us) * 1000 < x.1) →
    exec (.fixedDelayDelivery us) s = .next ((s.reach us).modFab fun x => { x with held := (s.reach us).fab.held }))

/-- Packets delivered (R366, R373 to R382, R386): each has its kind's effect, then its acknowledgement where it needs one. -/
def Obligations.DeliveredPacketsAct : Prop :=
  (∀ (s v : State) (h : FabHdr) (d : List Byte) (m : Nat), Delivered s h K.write v →
    (v.grantOk h d.length 1 = true → v.inTheWay [] [(h.addr, d.length)] = [] →
      Quiet (v.setMem (v.mem.storeP h.addr (marked d m))) [(h.addr, d.length)] →
      exec (.write h d m) s = .next ((v.setMem (v.mem.storeP h.addr (marked d m))).sendAck h)) ∧
    (v.grantOk h d.length 1 = false → exec (.write h d m) s = .next ((v.nakTo h E.peerDenied).sendAck h))) ∧
  (∀ (s v : State) (h : FabHdr) (n : Nat), Delivered s h K.read v →
    (v.grantOk h n 0 = true → v.inTheWay [(h.addr, n)] [] = [] →
      exec (.read h n) s = .next ((v.fabSend h.src { plainPkt K.rdata [] with
        tag := h.tag, rgen := h.rgen, data := (v.mem.readP h.addr n).map (·.1), marks := marksOf (v.mem.readP h.addr n) }).sendAck h)) ∧
    (v.grantOk h n 0 = false → exec (.read h n) s = .next ((v.nakTo h E.peerDenied).sendAck h))) ∧
  (∀ (s v : State) (h : FabHdr) (d : List Byte) (m : Nat) (r : FabRead), Delivered s h K.rdata v → v.readOf h = some r →
    ((v.queue r.queue).gen ≠ h.rgen → exec (.rdata h d m) s = .next (((v.dropRead h).staleQueue).sendAck h)) ∧
    ((v.queue r.queue).gen = h.rgen → d.length = r.len → v.canStamp = true →
      exec (.rdata h d m) s = .next (((v.stamp.2.dropRead h).sourceArrived r.queue r.slot r.unit r.offset (marked d m)).sendAck h))) ∧
  (∀ (s v : State) (h : FabHdr) (code : Nat) (r : FabRead), Delivered s h K.nak v → v.readOf h = some r →
    (v.queue r.queue).gen = h.rgen → v.canStamp = true →
    exec (.nak h code) s = .next (((v.stamp.2.dropRead h).endUnit r.queue r.slot r.unit code).sendAck h)) ∧
  (∀ (s v u : State) (h : FabHdr) (code : Nat) (w : FabWrite), Delivered s h K.nak v → v.readOf h = none →
    (v.fab.writes.reverse.find? fun w => w.dev = h.src && w.tag = h.tag) = some w →
    (v.queue w.queue).gen = h.rgen → v.canStamp = true → u = v.stamp.2 →
    exec (.nak h code) s = .next ((u.loseUnit ⟨w.queue, w.slot % (u.queue w.queue).slots⟩ w.unit code).sendAck h)) ∧
  (∀ (s : State) (r : CmdRef) (u code : Nat) (c : Cmd), (s.queue r.queue).cmdAt r.slot = some c →
    (c.result = none → s.loseUnit r u code = s.endUnit r.queue c.slot u code) ∧
    (c.result = some E.ok → isEngine (hOpcode c.bytes) = true → ∃ d, ((s.loseUnit r u code).queue r.queue).cmdAt r.slot = some d ∧
      d.result = some code ∧ d.residue = streamLen c.bytes - min (streamLen c.bytes) (4096 * u))) ∧
  (∀ (s v : State) (h : FabHdr) (valid : Nat) (upTo : List Nat) (l : List FabSent), Delivered s h K.ack v →
    l = (v.path h.src).unacked.filter (fun y => !y.covered valid upTo) →
    ((v.path h.src).unacked.any (fun y => y.covered valid upTo) = true →
      exec (.ack h valid upTo) s = .next ((v.modPath h.src fun x =>
        { x with
          unacked := l, changes := 0
          timer := if l.any fun y => needsAck y.pkt.kind then some (v.time.bnd + v.ackTicks) else none }).freed
        ((v.path h.src).unacked.filter fun y => y.covered valid upTo))) ∧
    ((v.path h.src).unacked.any (fun y => y.covered valid upTo) = false → exec (.ack h valid upTo) s = .next v)) ∧
  (∀ (s v : State) (h : FabHdr) (valid : Nat) (counts : List Nat), Delivered s h K.pfack v → (v.path h.src).fence = none →
    exec (.pfack h valid counts) s = .next v) ∧
  (∀ (s v : State) (h : FabHdr) (l : Nat) (a0 a1 a2 a3 : Nat) (keep : List FabSent), Delivered s h K.pfack v →
    (v.path h.src).fence.isSome = true → (v.path h.src).waiting = [] → (v.route h.src).link = some l →
    keep = [0, 1, 2, 3].flatMap (fun k => renumber (v.path h.src).unacked k ([a0, a1, a2, a3].getD k 0) ((v.path h.src).next.getD k 0)) →
    Goes (.pfack h 15 [a0, a1, a2, a3]) s fun t => ∃ gone, t = (((v.modPath h.src fun x =>
      { x with
        unacked := keep, fence := none, waiting := [], changes := 0
        next := [0, 1, 2, 3].map fun k => (v.path h.src).next.getD k 0 + (keep.filter fun y => y.cls = k).length
        timer := if keep.any fun y => needsAck y.pkt.kind then some (v.time.bnd + v.ackTicks) else none }).emits
          (keep.map fun y => .packet l h.src (v.route h.src).pgen y.pseq (v.devGen h.src) y.pkt)).countResent h.src
            ((v.path h.src).unacked.filter fun y => !gone.contains y)).freed gone ∧
      ∀ y ∈ gone, y ∈ (v.path h.src).unacked) ∧
  (∀ (s : State) (d t : Nat), (s.path d).timer = some t →
    (s.time.bnd < t → exec (.ackTimeout d) s = .next s) ∧
    (t ≤ s.time.bnd → (s.path d).changes < 4 → exec (.ackTimeout d) s = .next
      ((s.modPath d fun x => { x with timer := none, changes := (s.path d).changes + 1 }).modRoute d fun r => { r with change := true })) ∧
    (t ≤ s.time.bnd → 4 ≤ (s.path d).changes → s.canStamp = true →
      exec (.ackTimeout d) s = .next (s.stamp.2.deviceLost s.stamp.1 d))) ∧
  (∀ (s v u : State) (h : FabHdr) (value code scope : Nat) (st : Fin 3), Delivered s h K.fenceUpd v → v.canStamp = true → u = v.stamp.2 →
    (h.addr = 1 → (u.grant h.grant).enable = true → (u.grant h.grant).fence = true → (u.grant h.grant).holder = h.src →
      exec (.fenceUpd h value st code scope) s = .next ((u.notifyFence (fIndex (u.grant h.grant).target)).sendAck h)) ∧
    (h.addr ≠ 1 → exec (.fenceUpd h value st code scope) s = .next ((u.fences.foldl (fun s x =>
      if x.2.proxy = some (h.src, h.grant) then
        (s.putFence x.1 (x.2.update value st.val code scope)).proxyEvent x.2 (x.2.update value st.val code scope)
      else s) u).sendAck h))) ∧
  (∀ (f : Fence) (value code scope : Nat),
    (f.update value 1 code scope).value = max f.value value ∧
    (f.state ≠ .broken → (f.update value 1 code scope).state = .signalled ∧ (f.update value 0 code scope).state = .pending ∧
      (f.update value 2 code scope).state = .broken ∧ (f.update value 2 code scope).code = code) ∧
    (f.state = .broken → (f.update value 1 code scope).state = .broken ∧ (f.update value 2 code scope).code = f.code)) ∧
  (∀ (s v u : State) (h : FabHdr) (cl : Nat) (l : List (Nat × Nat)), Delivered s h K.inval v → v.canStamp = true → u = v.stamp.2 →
    (u.liveDomains cl = 0 ∨ l = [] →
      exec (.inval h cl l) s = .next ((u.fabSend h.src { plainPkt K.invalDone [] with tag := h.tag, rgen := h.rgen }).sendAck h)) ∧
    (u.liveDomains cl ≠ 0 → l ≠ [] →
      exec (.inval h cl l) s = .next ((u.modFab fun f =>
        { f with
          served := f.served ++ [(h.src, h.tag, h.rgen, (domainsOf (u.liveDomains cl)).map fun n => (n, l.length))]
          invRest := f.invRest ++ l.map fun x => ⟨⟨16384 + h.src, h.tag⟩, none, u.liveDomains cl, [x]⟩ }).servedRest.sendAck h))) ∧
  (∀ (s v u : State) (h : FabHdr) (r : CmdRef) (cl : Nat), Delivered s h K.invalDone v →
    (v.fab.invals.find? fun x => x.1 = h.src && x.2.1 = h.tag) = some (h.src, h.tag, r, cl) →
    (v.queue r.queue).gen = h.rgen → v.canStamp = true → u = v.stamp.2 →
    exec (.invalDone h) s = .next (((u.modFab fun f =>
      { f with invals := f.invals.filter fun x => !(x.1 = h.src && x.2.1 = h.tag) }).peerInvDone r).sendAck h)) ∧
  (∀ (s : State) (r : CmdRef) (n : Fin 48) (gen : Nat) (c : Cmd), gen = s.gen n.val → r.queue < 16384 →
    (s.queue r.queue).cmdAt r.slot = some c →
    Goes (.coreInvalidateDone ⟨r, n, gen⟩) s fun t => Same [.queues] s t ∧
      (t.queue r.queue).cmdAt r.slot = some (({ c with
        invAt := Tbl.set 0 c.invAt n.val (Tbl.get 0 c.invAt n.val - 1) } : Cmd).afterInv s.time.bnd)) ∧
  (∀ (c : Cmd) (now : Nat), hOpcode c.bytes = Op.invalidate → c.result = none →
    (c.afterInv now).result = (if c.invIssued = true ∧ c.invAt = [] ∧ c.invLeft = 0 then some E.ok else none)) ∧
  (∀ (s : State) (r : CmdRef) (n : Fin 48) (gen : Nat), gen ≠ s.gen n.val →
    exec (.coreInvalidateDone ⟨r, n, gen⟩) s = .next (s.modRst fun x => { x with staleDomain := satAdd 4095 x.staleDomain 1 })) ∧
  (∀ (s : State) (r : CmdRef) (n : Fin 48) (gen src g : Nat) (left : Tbl Nat), gen = s.gen n.val → r.queue = 16384 + src →
    (s.fab.served.find? fun x => x.1 = src && x.2.1 = r.slot) = some (src, r.slot, g, left) →
    exec (.coreInvalidateDone ⟨r, n, gen⟩) s = .next (if Tbl.set 0 left n.val (Tbl.get 0 left n.val - 1) = [] then
      (s.modFab fun f => { f with served := s.fab.served.filter fun x => !(x.1 = src && x.2.1 = r.slot) }).fabSend src
        { plainPkt K.invalDone [] with tag := r.slot, rgen := g }
      else s.modFab fun f => { f with
        served := (s.fab.served.filter fun x => !(x.1 = src && x.2.1 = r.slot)) ++
          [(src, r.slot, g, Tbl.set 0 left n.val (Tbl.get 0 left n.val - 1))] })) ∧
  (∀ (s v u : State) (h : FabHdr) (b n r ctx : Nat) (f : Bool) (g : HeldGrant), Delivered s h K.grantOffer v → v.canStamp = true →
    u = v.stamp.2 →
    g = { dev := h.src, id := h.grant, ggen := h.ggen, base := b, size := n, rights := r, ctx := ctx, fence := f } →
    (∀ i x, u.heldGrant h.src h.grant = some (i, x) → exec (.grantOffer h b n r ctx f) s =
      .next ((u.modFab fun y => { y with have_ := Tbl.put y.have_ i g }).sendAck h)) ∧
    (∀ i, u.heldGrant h.src h.grant = none → u.heldPlace = some i → exec (.grantOffer h b n r ctx f) s =
      .next ((u.modFab fun y => { y with have_ := Tbl.put y.have_ i g }).sendAck h)) ∧
    (u.heldGrant h.src h.grant = none → u.heldPlace = none → exec (.grantOffer h b n r ctx f) s =
      .next ((u.nakTo h E.peerDenied).sendAck h))) ∧
  (∀ (s v : State) (h : FabHdr), Delivered s h K.grantRevoke v → v.canStamp = true →
    exec (.grantRevoke h) s = .next (((v.stamp.2.dropHeld fun g => g.dev = h.src && g.id = h.grant).breakProxies
      (fun x => x = (h.src, h.grant)) E.peerDenied).sendAck h)) ∧
  (∀ (s v : State) (h : FabHdr) (g : Nat) (d : List Byte), Delivered s h K.group v →
    exec (.groupDigestReceipt h g d) s = .next ((takeDigest (.groupDigestReceipt h g d) h g d v).sendAck h)) ∧
  (∀ (s v : State) (h : FabHdr) (g : Nat) (a : Bool), Delivered s h K.group v →
    exec (.groupDigestAnswer h g a) s = .next ((takeAnswer (.groupDigestAnswer h g a) h g a v).sendAck h)) ∧
  (∀ (s v u : State) (h : FabHdr) (g t r ch : Nat) (dir : CollDir) (d : List Byte), Delivered s h K.collData v → v.canStamp = true →
    u = v.stamp.2 →
    (∀ c, (u.fab.colls.find? fun c => c.group = g && c.tag = t) = some c → exec (.collData h g t r ch dir d) s =
      .next ((u.modColl c.ref fun y =>
        { y with inbox := y.inbox ++ [{ rank := r, chunk := ch, dir := dir, data := d }], waitFrom := u.time.bnd }).sendAck h)) ∧
    ((u.fab.colls.find? fun c => c.group = g && c.tag = t) = none → exec (.collData h g t r ch dir d) s =
      .next ((u.modFab fun f => { f with early := f.early ++ [(g, t, { rank := r, chunk := ch, dir := dir, data := d })] }).sendAck h))) ∧
  (∀ (s v u : State) (h : FabHdr) (g t r : Nat) (m : CollMsg), Delivered s h K.collCtl v → v.canStamp = true → u = v.stamp.2 →
    ((u.fab.colls.find? fun c => c.group = g && c.tag = t) = none → exec (.collCtl h g t r m) s =
      .next ((u.modFab fun f => { f with earlyCtl := f.earlyCtl ++ [(g, t, r, m)] }).sendAck h)) ∧
    (∀ c cmd, (u.fab.colls.find? fun c => c.group = g && c.tag = t) = some c → (u.queue c.ref.queue).cmdAt c.ref.slot = some cmd →
      m = .arrival → exec (.collCtl h g t r m) s = .next (((u.modColl c.ref fun y => { y with waitFrom := u.time.bnd }).modColl c.ref
        fun y => { y with arrivals := y.arrivals ++ [r] }).sendAck h))) ∧
  (∀ (s : State), (∀ x ∈ s.fab.invRest, x.ranges.length = 1) → s.servedRest = (s.modFab fun f =>
      { f with invTick := f.invTick + min s.invRoom f.invRest.length, invRest := f.invRest.drop s.invRoom }).emits
        ((s.fab.invRest.take s.invRoom).flatMap fun x => x.ranges.map fun y =>
          .coreInv ((domainsOf x.mask).map fun n => (n, s.gen n)) y.1 y.2 x.ref))

/-- Caching agents (R327, R333 to R336, R350): reads, stores and evictions of an agent; what the home and other agents ask, deferred
while a line is on its way or held; data and acknowledgements, each in the states that expect it, else counted; the end of a hold; a
home that is lost. -/
def Obligations.CoherentAgentsAct : Prop :=
  (∀ (s : State) (a : Agent) (ctx home line : Nat) (x : AgentLine), s.banked a ctx = true → x = s.aline a home line →
    (x.state = .s ∨ x.state = .e ∨ x.state = .o ∨ x.state = .m → x.stores = [] →
      exec (.agentRead a ctx home line) s = .next
        ((s.emits (List.replicate (x.reads + 1) (.agentData x.agent x.home x.line x.data x.marks))).setAline
          { x with reads := 0, ctx := ctx })) ∧
    (x.state = .i → a ≠ .cache → x.stores = [] → exec (.agentRead a ctx home line) s = .next
      ((s.setAline { x with reads := x.reads + 1, ctx := ctx, state := .isD }).toHome x .rds [] 0 0 false)) ∧
    (x.state = .i → a ≠ .cache → ∀ off d, exec (.agentWrite a ctx home line off d) s = .next
      ((s.setAline { x with stores := x.stores ++ [(off, d)], ctx := ctx, state := .imD }).toHome x .rdx [] 0 0 false)) ∧
    (x.state = .e ∨ x.state = .m → x.stores = [] → x.reads = 0 → ∀ off d, exec (.agentWrite a ctx home line off d) s = .next
      (s.setAline { x with data := overlay x.data off d, marks := storeMarks x.marks off d.length, state := .m, ctx := ctx })) ∧
    (x.state = .s → x.stores = [] → x.reads = 0 → ∀ off d, exec (.agentWrite a ctx home line off d) s = .next
      ((s.setAline { x with stores := [(off, d)], ctx := ctx, state := .smO }).toHome x .upg [] 0 0 false)) ∧
    (x.state = .o → x.stores = [] → x.reads = 0 → ∀ off d, exec (.agentWrite a ctx home line off d) s = .next
      ((s.setAline { x with stores := [(off, d)], ctx := ctx, state := .omO }).toHome x .upg [] 0 0 false)) ∧
    (x.state = .s → exec (.agentEvict a ctx home line) s = .next ((s.setAline { x with state := .siA }).toHome x .puts [] 0 0 false)) ∧
    (x.state = .e → exec (.agentEvict a ctx home line) s = .next ((s.setAline { x with state := .eiA }).toHome x .pute [] 0 0 false)) ∧
    (x.state = .o → exec (.agentEvict a ctx home line) s = .next
      ((s.setAline { x with state := .oiA }).toHome x .puto x.data x.marks 0 false)) ∧
    (x.state = .m → exec (.agentEvict a ctx home line) s = .next
      ((s.setAline { x with state := .miA }).toHome x .putm x.data x.marks 0 false)) ∧
    (x.hold = true → exec (.winHoldExpiry a home line) s = .next
      ((s.setAline { x with hold := false }).serveDeferred a home line (x.deferred.length + 1)))) ∧
  (∀ (s : State) (ctx home line : Nat), s.banked .cache ctx = false →
    exec (.agentRead .cache ctx home line) s = .next (s.uncachedRead .cache home line) ∧
    ∀ off d, exec (.agentWrite .cache ctx home line off d) s = .next (s.uncachedWrite home line off d)) ∧
  (∀ (s : State) (home : Nat), (∃ x ∈ s.coh.lines, x.agent = .cache ∧ x.home = home ∧ x.unanswered = true ∧ x.since + 5 ≤ s.time.bnd) →
    exec (.rlcHomeTimeout home) s = .next ((s.modCoh fun c =>
      { c with
        lines := c.lines.filter fun x => !(x.agent = .cache && x.home = home)
        drops := satAdd 65535 c.drops (s.coh.lines.filter fun x => x.agent = .cache && x.home = home).length }).emits
      (((s.coh.lines.filter fun x => x.agent = .cache && x.home = home).filter fun x => 0 < x.reads + x.stores.length).map fun x =>
        .agentFail x.agent home x.line E.linkLost (x.reads + x.stores.length)))) ∧
  (∀ (s : State) (home : Nat), (∀ x ∈ s.coh.lines, x.agent = .cache → x.home = home → x.unanswered = true → s.time.bnd < x.since + 5) →
    exec (.rlcHomeTimeout home) s = .next s) ∧
  (∀ (s v : State) (via : Option FabHdr) (a : Agent) (h l r : Nat) (o : Bool) (x : AgentLine), Comes s via K.cohReq v → x = v.aline a h l →
    (x.state = .isD ∨ x.state = .imD ∨ x.state = .imA true ∨ x.state = .imA false ∨ x.state = .xmG ∨
      (x.hold = true ∧ (x.state = .s ∨ x.state = .e ∨ x.state = .o ∨ x.state = .m)) →
      exec (.inv via a h l) s = .next ((v.setAline { x with deferred := x.deferred ++ [askMsg .inv h l 0 false] }).acked via) ∧
      exec (.fwds via a h l r o) s = .next ((v.setAline { x with deferred := x.deferred ++ [askMsg .fwds h l r o] }).acked via) ∧
      exec (.fwdx via a h l r o) s = .next ((v.setAline { x with deferred := x.deferred ++ [askMsg .fwdx h l r o] }).acked via) ∧
      exec (.snpcur via a h l) s = .next ((v.setAline { x with deferred := x.deferred ++ [askMsg .snpCur h l 0 false] }).acked via) ∧
      exec (.snprecall via a h l) s = .next ((v.setAline { x with deferred := x.deferred ++ [askMsg .snpRecall h l 0 false] }).acked via)) ∧
    (x.state = .i →
      exec (.inv via a h l) s = .next ((v.toHome x .invAck [] 0 0 false).acked via) ∧
      exec (.fwds via a h l r o) s = .next ((v.missHome x false false).acked via) ∧
      exec (.fwdx via a h l r o) s = .next ((v.missHome x false false).acked via) ∧
      exec (.snpcur via a h l) s = .next ((v.missHome x false false).acked via) ∧
      exec (.snprecall via a h l) s = .next ((v.missHome x false false).acked via)) ∧
    (x.hold = false → x.state = .s →
      exec (.inv via a h l) s = .next (((v.settleAline { x with state := .i, hold := false }).toHome x .invAck [] 0 0 false).acked via) ∧
      exec (.fwds via a h l r o) s = .next ((v.missHome x true false).acked via) ∧
      exec (.snpcur via a h l) s = .next ((v.toHome x (.snpRsp true) x.data x.marks 0 false).acked via)) ∧
    (x.hold = false → x.state = .smO →
      exec (.inv via a h l) s = .next (((v.setAline { x with state := .imD }).toHome x .invAck [] 0 0 false).acked via)) ∧
    (x.hold = false → x.state = .e ∨ x.state = .o ∨ x.state = .m →
      exec (.inv via a h l) s = .next ((v.missHome x true false).acked via) ∧
      exec (.fwds via a h l r o) s = .next (((v.settleAline { x with state := .o }).passData x r .datas .keep false).acked via) ∧
      exec (.snprecall via a h l) s = .next
        (((v.settleAline { x with state := .i, hold := false }).toHome x (.snpRsp false) x.data x.marks 0 false).acked via)) ∧
    (x.hold = false → x.state = .e → o = false → exec (.fwdx via a h l r o) s = .next
      (((v.settleAline { x with state := .i, hold := false }).passData x r .datae .gone false).acked via)) ∧
    (x.hold = false → x.state = .o ∨ x.state = .m → o = false → exec (.fwdx via a h l r o) s = .next
      (((v.settleAline { x with state := .i, hold := false }).passData x r .datam .gone false).acked via)) ∧
    (x.hold = false → x.state = .o ∨ x.state = .m → o = true → exec (.fwdx via a h l r o) s = .next
      (((v.setAline { x with state := .iF, passed := some r, owed := true }).passData x r .datam .gone false).acked via)) ∧
    (x.hold = false → x.state = .e ∨ x.state = .o → exec (.snpcur via a h l) s = .next
      ((v.toHome x (.snpRsp true) x.data x.marks 0 false).acked via)) ∧
    (x.hold = false → x.state = .m → exec (.snpcur via a h l) s = .next
      (((v.setAline { x with state := .e }).toHome x (.snpRsp true) x.data x.marks 0 false).acked via)) ∧
    (x.hold = false → x.state = .eiA ∨ x.state = .oiA ∨ x.state = .miA →
      exec (.fwds via a h l r o) s = .next
        (((v.setAline { x with state := .iiA, passed := some r, owed := o }).passData x r .datao .pass false).acked via) ∧
      exec (.snpcur via a h l) s = .next
        (((v.setAline { x with state := .iiA }).toHome x (.snpRsp false) x.data x.marks 0 false).acked via) ∧
      exec (.snprecall via a h l) s = .next
        (((v.setAline { x with state := .iiA }).toHome x (.snpRsp false) x.data x.marks 0 false).acked via))) ∧
  (∀ (s v : State) (via : Option FabHdr) (a : Agent) (h l : Nat) (d : List Byte) (m : Fin 16) (x y : AgentLine), Comes s via K.cohRsp v →
    x = v.aline a h l → y = { x with data := d, marks := m.val } →
    (x.state = .isD →
      exec (.datas via a h l d m true) s = .next ((v.settleAline { y with state := .s, hold := true }).acked via) ∧
      exec (.datao via a h l d m true) s = .next ((v.settleAline { y with state := .o, hold := true }).acked via) ∧
      exec (.datae via a h l d m true) s = .next ((v.settleAline { y with state := .e, hold := true }).acked via) ∧
      exec (.datam via a h l d m true) s = .next ((v.settleAline { y with state := .m, hold := true }).acked via) ∧
      exec (.datas via a h l d m false) s = .next
        (((v.settleAline { y with state := .s, hold := false }).serveDeferred x.agent x.home x.line (x.deferred.length + 1)).acked via) ∧
      exec (.datae via a h l d m false) s = .next ((v.setAline { y with state := .imA false }).acked via) ∧
      exec (.datam via a h l d m false) s = .next ((v.setAline { y with state := .imA true }).acked via)) ∧
    (x.state = .imD →
      exec (.datae via a h l d m true) s = .next ((v.settleAline { y with state := .m, hold := true }).acked via) ∧
      exec (.datam via a h l d m true) s = .next ((v.settleAline { y with state := .m, hold := true }).acked via) ∧
      exec (.datam via a h l d m false) s = .next ((v.setAline { y with state := .imA true }).acked via)) ∧
    (x.state ≠ .isD → x.state ≠ .imD → ∀ b,
      exec (.datas via a h l d m b) s = .next (v.protoError.acked via) ∧
      exec (.datae via a h l d m b) s = .next (v.protoError.acked via) ∧
      exec (.datao via a h l d m b) s = .next (v.protoError.acked via) ∧
      exec (.datam via a h l d m b) s = .next (v.protoError.acked via))) ∧
  (∀ (s v : State) (via : Option FabHdr) (a : Agent) (h l : Nat) (x : AgentLine), Comes s via K.cohRsp v → x = v.aline a h l →
    (x.state = .imA false → exec (.ackdone via a h l) s = .next ((v.settleAline { x with state := .e, hold := true }).acked via)) ∧
    (x.state = .imA true → exec (.ackdone via a h l) s = .next ((v.settleAline { x with state := .m, hold := true }).acked via)) ∧
    (x.state = .smO ∨ x.state = .omO → exec (.upgack via a h l) s = .next ((v.setAline { x with state := .xmG }).acked via)) ∧
    (x.state = .xmG → exec (.grant via a h l) s = .next ((v.settleAline { x with state := .m, hold := true }).acked via)) ∧
    (x.state = .siA ∨ x.state = .eiA ∨ x.state = .oiA ∨ x.state = .miA →
      exec (.putack via a h l) s = .next ((v.settleAline { x with state := .i, passed := none }).acked via)) ∧
    (x.state = .iiA → x.owed = false →
      exec (.staleputack via a h l) s = .next ((v.settleAline { x with state := .i, passed := none }).acked via)) ∧
    (x.state = .iiA → x.owed = true → exec (.staleputack via a h l) s = .next ((v.setAline { x with gotStale := true }).acked via)) ∧
    (x.state = .iF →
      exec (.fwddoneack via a h l) s = .next ((v.settleAline { x with state := .i, passed := none, owed := false }).acked via)) ∧
    (x.state = .iiA → x.gotStale = false → exec (.fwddoneack via a h l) s = .next ((v.setAline { x with owed := false }).acked via)) ∧
    (x.state = .i →
      exec (.ackdone via a h l) s = .next (v.protoError.acked via) ∧ exec (.upgack via a h l) s = .next (v.protoError.acked via) ∧
      exec (.grant via a h l) s = .next (v.protoError.acked via) ∧ exec (.putack via a h l) s = .next (v.protoError.acked via) ∧
      exec (.staleputack via a h l) s = .next (v.protoError.acked via) ∧
      exec (.fwddoneack via a h l) s = .next (v.protoError.acked via)))

/-- Coherence homes and CXL.mem (R324 to R326, R337 to R348, R351): requests and Puts are admitted by window, grant and agent; an entry
serves, forwards or invalidates as its state says, or queues behind a blocking operation; answers awaited end what awaits them, others
are counted; a Miss poisons the line; the host's requests are blocking operations of their line; an agent that does not answer is dead, and
what it sends before it comes back is not served. -/
def Obligations.CoherenceHomesAct : Prop :=
  (∀ (s v : State) (via : Option FabHdr) (src l : Nat) (d : List Byte) (m : Fin 16) (c : Instr) (op : CohOp), Comes s via K.cohReq v →
    (c, op) ∈ [(.rds via src l, CohOp.rds), (.rdx via src l, .rdx), (.upg via src l, .upg), (.puts via src l, .puts),
      (.pute via src l, .pute), (.puto via src l d m, .puto), (.putm via src l d m, .putm)] →
    (v.window l = none → exec c s = .next (v.protoError.acked via)) ∧
    (∀ o h, v.window l = some o → via = some h → v.grantOk h 128 (cohRight op) = false →
      exec c s = .next ((v.nakTo h E.peerDenied).acked via)) ∧
    (∀ o, v.window l = some o → (∀ h, via = some h → v.grantOk h 128 (cohRight op) = true) → v.admits o src = false →
      exec c s = .next (v.protoError.acked via))) ∧
  (∀ (s v u : State) (via : Option FabHdr) (src l : Nat) (o : Obj), Comes s via K.cohReq v → v.window l = some o → v.admits o src = true →
    v.stillDead src = false → u = v.reviveAgent src →
    ((∀ h, via = some h → v.grantOk h 128 0 = true) →
      exec (.rds via src l) s = .next (((u.request1 l o .rds src).settleLine l).acked via) ∧
      exec (.puts via src l) s = .next (((u.takePut l src .puts [] 0).settleLine l).acked via) ∧
      exec (.pute via src l) s = .next (((u.takePut l src .pute [] 0).settleLine l).acked via)) ∧
    ((∀ h, via = some h → v.grantOk h 128 1 = true) →
      exec (.rdx via src l) s = .next (((u.request1 l o .rdx src).settleLine l).acked via) ∧
      exec (.upg via src l) s = .next (((u.request1 l o .upg src).settleLine l).acked via) ∧
      ∀ d m, exec (.puto via src l d m) s = .next (((u.takePut l src .puto d m.val).settleLine l).acked via) ∧
        exec (.putm via src l d m) s = .next (((u.takePut l src .putm d m.val).settleLine l).acked via))) ∧
  (∀ (s v : State) (via : Option FabHdr) (src l : Nat) (o : Obj) (d : List Byte) (m : Fin 16), Comes s via K.cohReq v →
    v.window l = some o → v.admits o src = true → v.stillDead src = true →
    (∀ h, via = some h → v.grantOk h 128 0 = true ∧ v.grantOk h 128 1 = true) →
    exec (.rds via src l) s = .next (v.acked via) ∧ exec (.rdx via src l) s = .next (v.acked via) ∧
    exec (.upg via src l) s = .next (v.acked via) ∧
    exec (.puts via src l) s = .next (v.acked via) ∧ exec (.pute via src l) s = .next (v.acked via) ∧
    exec (.puto via src l d m) s = .next (v.acked via) ∧ exec (.putm via src l d m) s = .next (v.acked via)) ∧
  (∀ (s : State) (l r : Nat) (o : Obj) (op : CohOp) (e : DirEntry), e = s.dirE l →
    (e.blocked.isSome = true ∨ e.queue ≠ [] →
      s.request1 l o op r = s.setDir l { e with queue := e.queue ++ [.caching op r o.owner] }) ∧
    (e.blocked = none → e.queue = [] → s.hostFirst o e op r = true →
      s.request1 l o op r = s.setDir l { e with queue := [.block (.forAgent op r o.owner)] }) ∧
    (e.blocked = none → e.queue = [] → s.hostFirst o e op r = false → e.state ≠ .i → s.request1 l o op r = s.serve l o op r) ∧
    (e.blocked = none → e.queue = [] → s.hostFirst o e op r = false → e.state = .i → (s.setEntries o.owner l).length < 16 →
      s.request1 l o op r = ((s.modCoh fun c => { c with nextAge := s.coh.nextAge + 1 }).modDir l fun e =>
        { e with ctx := o.owner, age := s.coh.nextAge, pred := 0 }).serve l o op r)) ∧
  (∀ (s w : State) (l r : Nat) (o : Obj) (e : DirEntry), e = s.dirE l → w = s.setDir l (e.predict s.coh.predOn .rds r) → r ∉ e.ptrs →
    (e.state = .i → s.serve l o .rds r = (w.sendLine r .datae l true).modDir l fun e => e.toX r) ∧
    (e.state = .s → s.serve l o .rds r =
      (w.sendLine r .datas l true).modDir l fun e => e.addSharer r (w.agentRank o) (decide (s.domainSize o ≤ 64)))) ∧
  (∀ (s w : State) (l r : Nat) (o : Obj) (e : DirEntry), e = s.dirE l → w = s.setDir l (e.predict s.coh.predOn .rdx r) → e.owner ≠ some r →
    s.serve l o .rdx r = w.serveRdx l o r) ∧
  (∀ (s : State) (l r : Nat) (o : Obj), (s.dirE l).owner = none →
    (s.others o (s.dirE l) r = [] → s.serveRdx l o r = (s.sendLine r .datae l true).modDir l fun e => e.toX r) ∧
    (s.others o (s.dirE l) r ≠ [] → s.serveRdx l o r =
      (((s.sendLine r .datae l false).newTrans l (.ackDone r)).2.modDir l fun e => e.toX r).askAll l (s.others o (s.dirE l) r) .inv r
        ((s.sendLine r .datae l false).newTrans l (.ackDone r)).1)) ∧
  (∀ (s w : State) (l r : Nat) (o : Obj) (e : DirEntry), e = s.dirE l → w = s.setDir l (e.predict s.coh.predOn .upg r) →
    (e.state = .s ∧ e.holds r = true) ∨ (e.state = .o ∧ e.owner = some r) → s.serve l o .upg r = w.serveUpg l o r) ∧
  (∀ (s : State) (l src : Nat) (op : CohOp) (d : List Byte) (m : Nat),
    ((s.dirE l).holds src = false ∨ (∃ a ∈ (s.dirE l).awaits, a.agent = src) → s.takePut l src op d m =
      (s.tellAgent src .stalePutAck l).modCoh fun c => { c with stalePut := satAdd 65535 c.stalePut 1 }) ∧
    ((s.dirE l).holds src = true → (∀ a ∈ (s.dirE l).awaits, a.agent ≠ src) → op = .putm ∨ op = .puto → s.takePut l src op d m =
      ((((s.setMem (s.mem.putLine l d m)).setDir l ((s.dirE l).remove src)).tellAgent src .putAck l).retryFull)) ∧
    ((s.dirE l).holds src = true → (∀ a ∈ (s.dirE l).awaits, a.agent ≠ src) → op = .puts ∨ op = .pute → s.takePut l src op d m =
      (((s.setDir l ((s.dirE l).remove src)).tellAgent src .putAck l).retryFull))) ∧
  (∀ (s v u : State) (via : Option FabHdr) (src l : Nat) (late : Bool), Comes s via K.cohRsp v → u = v.countLate late →
    ((∀ a ∈ (u.dirE l).awaits, a.agent ≠ src) →
      exec (.invack via src l late) s = .next ((u.protoError.settleLine l).acked via) ∧
      (∀ d m k, exec (.snprsp via src l d m k late) s = .next ((u.protoError.settleLine l).acked via)) ∧
      exec (.miss via src l false late) s = .next ((u.protoError.settleLine l).acked via)) ∧
    (∀ a, ((u.dirE l).awaited fun a => a.agent = src && a.kind = .inv) = some a → (u.dirE l).blocked = none →
      exec (.invack via src l late) s = .next (((u.answered l a).settleLine l).acked via)) ∧
    (∀ a d m, ((u.dirE l).awaited fun a => a.agent = src && (a.kind = .snpCur || a.kind = .snpRecall)) = some a →
      exec (.snprsp via src l d m true late) s = .next ((((u.setMem (u.mem.putLine l d m.val)).answered l a).settleLine l).acked via)) ∧
    (∀ r k, (∀ a ∈ (u.dirE l).awaits, a.req ≠ r) →
      exec (.fwddone via src l r k late) s = .next ((u.protoError.settleLine l).acked via)) ∧
    (∀ r a o, ((u.dirE l).awaited fun a => a.req = r && (a.kind = .fwds || a.kind = .fwdx)) = some a → u.window l = some o →
      aOwner o.attr = false → exec (.fwddone via src l r .keep late) s = .next (((u.answered l a).settleLine l).acked via)) ∧
    (∀ r a o, ((u.dirE l).awaited fun a => a.req = r && (a.kind = .fwds || a.kind = .fwdx)) = some a → u.window l = some o →
      aOwner o.attr = true → exec (.fwddone via src l r .gone late) s = .next
        (((((u.modDir l fun e => e.toX r).tellAgent src .fwdDoneAck l).answered l a).settleLine l).acked via)) ∧
    (∀ a, ((u.dirE l).awaited fun a => a.agent = src && a.kind ≠ .inv) = some a → a.kind = .snpRecall →
      exec (.miss via src l false late) s = .next (((((u.poisonLine l).modDir l fun e =>
        if e.ptrs.contains src then e.remove src else e).answered l a).settleLine l).acked via))) ∧
  (∀ (s : State) (a : Nat),
    ((∃ e ∈ s.coh.dir, ∃ w ∈ e.2.awaits, w.agent = a ∧ w.sentAt + 5 ≤ s.time.bnd) → a ∉ s.coh.dead →
      (isHost a = false ∨ (s.port (Side.ofBool (a % 2 = 1))).holding = false) →
      (∀ n u, s.canStamp = true → s.stamp = (n, u) → exec (.homeTimeout a) s = .next (u.declareDead n a)) ∧
      (s.canStamp = false → exec (.homeTimeout a) s = .next (s.carry (.homeTimeout a)))) ∧
    ((∀ e ∈ s.coh.dir, ∀ w ∈ e.2.awaits, w.agent = a → s.time.bnd < w.sentAt + 5) → exec (.homeTimeout a) s = .next s)) ∧
  (∀ (s w : State) (l : Nat), w = (s.startBlock l).settleLine l →
    (w.readyGroup l = none → exec (.blockingOpStart l) s = .next w) ∧
    (∀ g lines x y, w.readyGroup l = some (g, lines, x) →
      y = ((w.modCoh fun c =>
        { c with serving := lines, groups := c.groups.filter fun x => x.1 ≠ g }).serveWaiting x).releaseGroup g lines →
      exec (.blockingOpStart l) s = .next
        ((y.drainBehind .a (y.port .a).behind.length).drainBehind .b (y.port .b).behind.length))) ∧
  (∀ (s : State) (l : Nat) (o : Obj) (b : BlockOp) (t : List LineReq), (s.dirE l).blocked = none → (s.dirE l).awaits = [] →
    (s.dirE l).queue = .block b :: t → s.window l = some o →
    (b.allocates = true ∧ (s.dirE l).state = .i ∧ 16 ≤ (s.setEntries o.owner l).length → s.startBlock l = s.makeRoom o.owner l) ∧
    (b.allocates = false ∨ (s.dirE l).state ≠ .i ∨ (s.setEntries o.owner l).length < 16 →
      s.startBlock l = ((s.setDir l { s.dirE l with blocked := some b, ready := false, queue := t }).beginBlock l o b).finishBlock l)) ∧
  (∀ (s : State) (p : Side) (dec : Fin 2) (addr : Nat) (m : CxlMeta) (d : List Byte) (bad : Bool),
    (s.port p).up = true → (s.port p).cxl = true → s.hdmLine p dec.val addr = none →
    exec (.memrd p dec addr m) s = .next ((s.emit (.cxlCmp p addr false 0)).emit (.cxlData p addr false (List.replicate 64 0) true)) ∧
    exec (.memrddata p dec addr m) s = .next ((s.emit (.cxlCmp p addr false 0)).emit (.cxlData p addr false (List.replicate 64 0) true)) ∧
    exec (.meminv p dec addr m) s = .next (s.emit (.cxlCmp p addr false 0)) ∧
    exec (.memclnevct p dec addr) s = .next (s.emit (.cxlCmp p addr false 0)) ∧
    exec (.memwr p dec addr m d bad) s = .next (s.emit (.cxlCmp p addr false 0)) ∧
    exec (.biconflict p dec addr) s = .next (s.emit (.cxlCmp p addr false 0)) ∧
    exec (.birsp p dec addr m) s = .next s.protoError) ∧
  (∀ (s u : State) (p : Side) (dec : Fin 2) (addr a l : Nat) (m : CxlMeta) (d : List Byte) (bad half : Bool) (o : Obj),
    (s.port p).up = true → (s.port p).cxl = true → s.hdmLine p dec.val addr = some a → l = a - a % 128 → half = decide (64 ≤ a % 128) →
    s.window l = some o → s.admits o (ptrHost p) = true → s.stillDead (ptrHost p) = false →
    u = ((s.reviveAgent (ptrHost p)).modDir l fun e => e.reached (ptrHost p)) →
    exec (.memrd p dec addr m) s = .next (u.modDir l fun e => { e with queue := e.queue ++ [.block (.host p half (.memRd m))] }) ∧
    exec (.memrddata p dec addr m) s = .next (u.modDir l fun e => { e with queue := e.queue ++ [.block (.host p half (.memRdData m))] }) ∧
    exec (.meminv p dec addr m) s = .next (u.modDir l fun e => { e with queue := e.queue ++ [.block (.host p half (.memInv m))] }) ∧
    exec (.memclnevct p dec addr) s = .next (u.modDir l fun e => { e with queue := e.queue ++ [.block (.host p half .memClnEvct)] }) ∧
    ((∀ w ∈ (u.dirE l).awaits, w.agent ≠ ptrHost p) → exec (.memwr p dec addr m d bad) s = .next
      (u.modDir l fun e => { e with queue := e.queue ++ [.block (.host p half (.memWr m d bad))] })) ∧
    ((∃ w ∈ (u.dirE l).awaits, w.agent = ptrHost p) → exec (.memwr p dec addr m d bad) s = .next
      (((if bad then u.aerAdvisory p else u).hostPut l half d bad).emit (.cxlCmp p l half 0))) ∧
    ((u.dirE l).blocked = none → (u.dirE l).queue = [] → exec (.biconflict p dec addr) s = .next (u.emit (.cxlCmp p l half 3))) ∧
    (∀ r, (u.dirE l).blocked = some (.host p half r) ∨ .block (.host p half r) ∈ (u.dirE l).queue →
      exec (.biconflict p dec addr) s = .next (u.modDir l fun e => { e with queue := e.queue ++ [.block (.host p half .biConflict)] }))) ∧
  (∀ (s : State) (p : Side) (dec : Fin 2) (addr a l : Nat) (m : CxlMeta) (w : Await), s.hdmLine p dec.val addr = some a → l = a - a % 128 →
    ((s.dirE l).awaited fun x => x.agent = ptrHost p && (match x.kind with | .bisnp _ => true | _ => false)) = some w →
    w.halves = 0 → exec (.birsp p dec addr m) s = .next ((s.modDir l fun e =>
      { e with awaits := e.awaits.map fun b => if b = w then
          { b with halves := 4 + (match m with | .i => 0 | .s => 1 | .a => 2) } else b }).settleLine l)) ∧
  (∀ (s : State) (p : Side) (l : Nat) (half : Bool) (o : Obj) (d : List Byte),
    s.endHost l o p half (.memWr .a d false) = (s.hostPut l half d false).emit (.cxlCmp p l half 0) ∧
    s.endHost l o p half (.memWr .a d true) = ((s.aerAdvisory p).hostPut l half d true).emit (.cxlCmp p l half 0) ∧
    s.endHost l o p half (.memRd .i) = (s.emit (.cxlCmp p l half 0)).hostData p l half ∧
    s.endHost l o p half .memClnEvct = (s.modDir l fun e => e.hostDrops (ptrHost p) half).emit (.cxlCmp p l half 0) ∧
    s.endHost l o p half .biConflict = s.emit (.cxlCmp p l half 3))

/-- SPDM, IDE and TDISP (R451, R455 to R461): each request that a path carries is answered as its rule says; a session begins, is
secured and ends; keys and key sets of a stream; a TDI is locked, started, stopped and reported; an integrity failure and an access
that a lock forbids move TDIs to ERROR. -/
def Obligations.AttestationAndDeviceSecurityAct : Prop :=
  (∀ (s : State) (p : SpdmPath), s.spdmUp p = true →
    exec (.getVersion p) s = .next (s.spdmSay p 0 0 [0x12, 0x13]) ∧
    exec (.getCapabilities p) s = .next (s.spdmSay p 0 0 (match p with | .doe _ => [4, 0] | _ => [8, 1])) ∧
    (∀ a, exec (.negotiateAlgorithms p a) s = .next (s.spdmSay p 0 0 (leBytes 1 (a % 16)))) ∧
    exec (.getDigests p) s = .next (s.spdmSay p 0 0 (sha384 Config.certChain)) ∧
    (∀ o n, exec (.getCertificate p 0 o n) s = .next (s.spdmSay p 0 0 ((Config.certChain.drop o).take n))) ∧
    (∀ k o n, k ≠ 0 → exec (.getCertificate p k o n) s = .next (s.spdmSay p 0 2 [])) ∧
    (∀ n, exec (.challenge p 0 n) s = .next (s.spdmSay p 0 0
      ((sha384 Config.certChain ++ n) ++ Config.aliasSign (sha384 Config.certChain ++ n)))) ∧
    (∀ n, 1 ≤ n → n ≤ 16 → exec (.getMeasurements p none n []) s = .next (s.spdmSay p 0 0 (s.meas (n - 1)))) ∧
    exec (.getMeasurements p none 0 []) s = .next (s.spdmSay p 0 0 (leBytes 1 16)) ∧
    exec (.getMeasurements p none 0xFF []) s = .next (s.spdmSay p 0 0 ((List.range 16).flatMap fun n => s.meas n)) ∧
    (∀ k, exec (.spdmUnsupportedRequest p k) s = .next (s.spdmSay p 0 1 (leBytes 1 k)))) ∧
  (∀ (s : State) (p : SpdmPath), s.spdmUp p = false →
    exec (.getVersion p) s = .next s ∧ exec (.getCapabilities p) s = .next s ∧ (∀ a, exec (.negotiateAlgorithms p a) s = .next s) ∧
    exec (.getDigests p) s = .next s ∧ (∀ k o n, exec (.getCertificate p k o n) s = .next s) ∧
    (∀ k n, exec (.challenge p k n) s = .next s) ∧ (∀ a k n, exec (.getMeasurements p a k n) s = .next s) ∧
    (∀ k a e, exec (.keyExchange p k a e) s = .next s) ∧ (∀ i k, exec (.finish p i k) s = .next s) ∧
    (∀ i, exec (.heartbeat p i) s = .next s ∧ exec (.keyUpdate p i) s = .next s ∧ exec (.endSession p i) s = .next s) ∧
    (∀ k, exec (.spdmUnsupportedRequest p k) s = .next s)) ∧
  (∀ (s : State) (p : Side) (a : Bool) (e : List Byte), s.spdmUp (.doe p) = true → s.sessionRoom (.doe p) = true →
    exec (.keyExchange (.doe p) 0 a e) s = .next ((s.modMgt fun m => { m with
      sessions := m.sessions ++ [{ path := .doe p, id := s.mgt.nextSession, ready := false, auth := false, slot := none, roles := 0,
                                   updates := 0 }]
      nextSession := s.mgt.nextSession + 1 }).spdmSay (.doe p) s.mgt.nextSession 0 (Config.aliasSign e))) ∧
  (∀ (s : State) (e : List Byte), s.spdmUp .mctpNet = true → s.mgt.empty = false → s.sessionRoom .mctpNet = true →
    exec (.keyExchange .mctpNet 0 true e) s = .next ((s.modMgt fun m => { m with
      sessions := m.sessions ++ [{ path := .mctpNet, id := s.mgt.nextSession, ready := false, auth := true, slot := none, roles := 0,
                                   updates := 0 }]
      nextSession := s.mgt.nextSession + 1 }).spdmSay .mctpNet s.mgt.nextSession 0 (Config.aliasSign e)) ∧
    exec (.keyExchange .mctpNet 0 false e) s = .next (s.spdmSay .mctpNet 0 2 [])) ∧
  (∀ (s : State) (p : SpdmPath) (id : Nat) (x : Session) (key : List Byte), s.spdmUp p = true → s.session p id = some x → x.ready = false →
    (x.auth = true → s.mgt.slotOf key = none → exec (.finish p id (some key)) s = .next
      ((s.modSession p id fun _ => none).spdmSay p id 2 [])) ∧
    (x.auth = true → ∀ i r, s.mgt.slotOf key = some (i, r) → exec (.finish p id (some key)) s = .next
      ((s.modSession p id fun y => some { y with ready := true, slot := some i, roles := r }).spdmSay p id 0 [])) ∧
    (x.auth = false → exec (.finish p id none) s = .next ((s.modSession p id fun y => some { y with
      ready := true, roles := match p with | .doe _ => 0 | _ => 16 }).spdmSay p id 0 []))) ∧
  (∀ (s : State) (p : SpdmPath) (id : Nat) (x : Session), s.spdmUp p = true → s.session p id = some x → x.ready = true →
    exec (.heartbeat p id) s = .next (s.spdmSay p id 0 []) ∧
    exec (.keyUpdate p id) s = .next ((s.modSession p id fun y => some { y with updates := y.updates + 1 }).spdmSay p id 0 []) ∧
    exec (.endSession p id) s = .next ((s.modSession p id fun _ => none).spdmSay p id 0 [])) ∧
  (∀ (s : State) (p : Side) (id : Nat) (n : Fin 8) (x : Session) (y : Stream), s.spdmUp (.doe p) = true →
    s.session (.doe p) id = some x → x.ready = true → y = s.stream p n.val →
    exec (.keyProg p id n false) s = .next ((s.setStream p n.val { y with keys0 := true }).spdmSay (.doe p) id 0 []) ∧
    exec (.keyProg p id n true) s = .next ((s.setStream p n.val { y with keys1 := true }).spdmSay (.doe p) id 0 []) ∧
    (∀ k, y.keyed k = true →
      exec (.kSetGo p id n k) s = .next ((s.setStream p n.val { y with secure := true, keySet := k }).spdmSay (.doe p) id 0 [])) ∧
    (∀ k, y.keyed k = false → exec (.kSetGo p id n k) s = .next (s.spdmSay (.doe p) id 2 [])) ∧
    exec (.kSetStop p id n false) s = .next
      ((s.setStream p n.val { y with keys0 := false, secure := y.secure && y.keySet ≠ false }).spdmSay (.doe p) id 0 []) ∧
    exec (.kSetStop p id n true) s = .next
      ((s.setStream p n.val { y with keys1 := false, secure := y.secure && y.keySet ≠ true }).spdmSay (.doe p) id 0 [])) ∧
  (∀ (s : State) (p : Side) (id : Nat) (vf : Fin 128) (n : Fin 8) (x : Session) (c : List Byte), s.spdmUp (.doe p) = true →
    s.session (.doe p) id = some x → x.ready = true → vf ≠ 0 → (s.port p).vfEnable = true → c = Config.configBytes (s.tdiItems vf.val) →
    ((s.tdi p vf.val).state = .unlocked → (s.stream p n.val).secure = true → exec (.lockInterface p id vf n) s = .next
      (((s.setTdi p vf.val { state := .locked, stream := n.val, lockTick := s.time.tick, config := c }).tdiLog p vf.val .locked
        s.time.last).spdmSay (.doe p) id 0 [])) ∧
    ((s.tdi p vf.val).state ≠ .unlocked ∨ (s.stream p n.val).secure = false →
      exec (.lockInterface p id vf n) s = .next (s.spdmSay (.doe p) id 2 [])) ∧
    ((s.tdi p vf.val).state = .locked → exec (.startInterface p id vf) s = .next
      (((s.setTdi p vf.val { s.tdi p vf.val with state := .run }).tdiLog p vf.val .run s.time.last).spdmSay (.doe p) id 0 [])) ∧
    ((s.tdi p vf.val).state ≠ .locked → exec (.startInterface p id vf) s = .next (s.spdmSay (.doe p) id 2 [])) ∧
    ((s.tdi p vf.val).state = .locked ∨ (s.tdi p vf.val).state = .run → exec (.stopInterface p id vf) s = .next
      (((s.setTdi p vf.val Tdi.none).tdiLog p vf.val .unlocked s.time.last).spdmSay (.doe p) id 0 [])) ∧
    ((s.tdi p vf.val).state = .error → exec (.stopInterface p id vf) s = .next
      (((((s.setTdi p vf.val Tdi.none).tdiLog p vf.val .unlocked s.time.last).modFunc .a vf.val fun f =>
        { f with silenced := false }).modFunc .b vf.val fun f => { f with silenced := false }).spdmSay (.doe p) id 0 [])) ∧
    ((s.tdi p vf.val).state = .unlocked → exec (.stopInterface p id vf) s = .next (s.spdmSay (.doe p) id 0 [])) ∧
    exec (.deviceInterfaceReport p id vf) s = .next (s.spdmSay (.doe p) id 0 (s.tdiReport p vf.val))) ∧
  (∀ (s : State) (p : Side) (vf : Fin 128) (sp : Fin 4) (off : Nat),
    ((s.tdi p vf.val).state.frozen = false → exec (.tdiViolation p vf sp off) s = .next s) ∧
    ((s.tdi p vf.val).state.frozen = true →
      (∀ n u, s.canStamp = true → s.stamp = (n, u) → exec (.tdiViolation p vf sp off) s = .next
        ((u.regErrAt p vf.val sp.val off E.notAuthorised).tdiError p vf.val n)) ∧
      (s.canStamp = false → exec (.tdiViolation p vf sp off) s = .next (s.carry (.tdiViolation p vf sp off))))) ∧
  (∀ (s : State) (p : Side) (n : Fin 8) (x : Stream), x = s.stream p n.val →
    ((∀ y ∈ (s.port p).tdis, y.2.stream = n.val → y.2.state.frozen = false) → exec (.ideIntegrityFailure p n) s = .next
      (s.setStream p n.val { x with secure := false, fails := satAdd 65535 x.fails 1 })) ∧
    ((∃ y ∈ (s.port p).tdis, y.2.stream = n.val ∧ y.2.state.frozen = true) →
      (∀ k u v, s.canStamp = true → s.stamp = (k, u) →
        v = u.setStream p n.val { x with secure := false, fails := satAdd 65535 x.fails 1 } →
        exec (.ideIntegrityFailure p n) s = .next (((v.port p).tdis.filter fun y => y.2.stream = n.val && y.2.state.frozen).foldl
          (fun w y => w.tdiError p y.1 k) v)) ∧
      (s.canStamp = false → exec (.ideIntegrityFailure p n) s = .next (s.carry (.ideIntegrityFailure p n)))))

/-- Management (R452, R453, R462 to R469): a request of a secured session is stamped and admitted by role, and each operation answers
or changes what its rule says, or fails one of its own checks and then changes nothing; sensors are sampled against their limits; the log
is mirrored page by page. -/
def Obligations.ManagementActs : Prop :=
  (∀ (c : Instr) (s : State) (r : MgtReq) (op role : Nat) (dg : Option (List Nat)), mgtRow c = some (r, op, role, dg) →
    ((∀ x, ¬Carried s r x) → exec c s = .next s) ∧
    (∀ x, Carried s r x → s.canStamp = false → exec c s = .next (s.carry c)) ∧
    (∀ x, Carried s r x → s.canStamp = true → tst x.roles role = false →
      exec c s = .next (s.stamp.2.mgtSay r E.notAuthorised []))) ∧
  (∀ (s u : State) (r : MgtReq) (x : Session) (p : Side) (off : Nat), Asks (.regRead r p off) s r x u →
    (off % 8 = 0 → exec (.regRead r p off) s = .next ((u.readAt (.mgmt p) off).2.mgtSay r E.ok (leBytes 8 (u.readAt (.mgmt p) off).1))) ∧
    (off % 8 ≠ 0 → exec (.regRead r p off) s = .next (u.mgtSay r E.badLength []))) ∧
  (∀ (s u : State) (r : MgtReq) (x : Session) (p : Side) (off : Nat) (v : Word), Asks (.regWrite r p off v) s r x u →
    (∀ t, off % 8 = 0 → u.writeAt (.mgmt p) off v.toNat = .ok t → exec (.regWrite r p off v) s = .next (t.inta.mgtSay r E.ok [])) ∧
    (∀ k, off % 8 = 0 → u.writeAt (.mgmt p) off v.toNat = .error k → exec (.regWrite r p off v) s = .next (u.mgtSay r k [])) ∧
    (off % 8 ≠ 0 → exec (.regWrite r p off v) s = .next (u.mgtSay r E.badLength []))) ∧
  (∀ (s u : State) (r : MgtReq) (x : Session) (i n : Nat), Asks (.logRead r i n) s r x u →
    (n ≤ 32 → i < 8192 → exec (.logRead r i n) s = .next
      (u.mgtSay r E.ok ((List.range n).flatMap fun k => logBytes (u.logAt (i + k))))) ∧
    (32 < n → exec (.logRead r i n) s = .next (u.mgtSay r E.badLength [])) ∧
    (n ≤ 32 → 8192 ≤ i → exec (.logRead r i n) s = .next (u.mgtSay r E.badField []))) ∧
  (∀ (s u : State) (r : MgtReq) (x : Session), Asks (.sensorRead r) s r x u → exec (.sensorRead r) s = .next
    (u.mgtSay r E.ok ((List.range 24).flatMap fun i =>
      leBytes 2 (Tbl.get (0, 0) u.mgt.sensors i).1 ++ leBytes 1 (Tbl.get (0, 0) u.mgt.sensors i).2))) ∧
  (∀ (s u : State) (r : MgtReq) (x : Session) (off n : Nat), Asks (.flashErase r off n) s r x u →
    (u.imageRead = true ∨ u.mgt.flashBusy.isSome = true → exec (.flashErase r off n) s = .next (u.mgtSay r E.locked [])) ∧
    (u.imageRead = false → u.mgt.flashBusy = none → off % 65536 = 0 → n ≠ 0 → inImage off (65536 * n) = true →
      exec (.flashErase r off n) s = .next ((u.modMgt fun m => { m with
        flash := m.flash.filter fun x => !(decide (off ≤ x.1) && decide (x.1 < off + 65536 * n)),
          flashBusy := some .erase }).mgtSay r E.ok []))) ∧
  (∀ (s u : State) (r : MgtReq) (x : Session) (off : Nat) (d : List Byte), Asks (.flashWrite r off d) s r x u →
    (u.imageRead = true ∨ u.mgt.flashBusy.isSome = true → exec (.flashWrite r off d) s = .next (u.mgtSay r E.locked [])) ∧
    (u.imageRead = false → u.mgt.flashBusy = none → d ≠ [] → d.length ≤ 4096 → inImage off d.length = true →
      exec (.flashWrite r off d) s = .next
        (((u.flashWrite off d).modMgt fun m => { m with flashBusy := some .program }).mgtSay r E.ok []))) ∧
  (∀ (s u : State) (r : MgtReq) (x : Session) (off n : Nat), Asks (.flashRead r off n) s r x u →
    (n ≤ 4096 → off + n ≤ 2 ^ 26 → exec (.flashRead r off n) s = .next (u.mgtSay r E.ok (u.flashRead off n))) ∧
    (4096 < n → exec (.flashRead r off n) s = .next (u.mgtSay r E.badLength []))) ∧
  (∀ (s u v : State) (r : MgtReq) (x : Session) (t : Side), Asks (.fwLoad r t) s r x u → v = s.stamp.2 →
    (v.mgt.flashBusy = none → v.inSelftest t = false → (v.twin t).loading = false →
      ((v.twin t).state = .detached → exec (.fwLoad r t) s = .next ((u.modTwin t fun w => { w with
        loading := true, tested := false, measured := false, standby := false, standbyReq := false, mirror := none }).mgtSay r E.ok [])) ∧
      ((v.twin t).state ≠ .detached → exec (.fwLoad r t) s = .next (v.mgtSay r E.badField []))) ∧
    (v.mgt.flashBusy.isSome = true ∨ v.inSelftest t = true ∨ (v.twin t).loading = true →
      exec (.fwLoad r t) s = .next (v.mgtSay r E.locked []))) ∧
  (∀ (s u v : State) (r : MgtReq) (x : Session) (t : Side), Asks (.fwRestore r t) s r x u → v = s.stamp.2 →
    (v.mgt.flashBusy = none → v.imageRead = false →
      ((v.twin t).state.serves = true → exec (.fwRestore r t) s = .next
        ((u.flashWrite imageBase (u.twin t).image).modMgt fun m => { m with flashBusy := some (.restore r) })) ∧
      ((v.twin t).state.serves = false → exec (.fwRestore r t) s = .next (v.mgtSay r E.badField []))) ∧
    (v.mgt.flashBusy.isSome = true ∨ v.imageRead = true → exec (.fwRestore r t) s = .next (v.mgtSay r E.locked []))) ∧
  (∀ (s : State), exec .imageRegionWriteDone s = .next (match s.mgt.flashBusy with
    | some (.restore r) => (s.modMgt fun m => { m with flashBusy := none }).mgtSay r E.ok []
    | _ => s.modMgt fun m => { m with flashBusy := none })) ∧
  (∀ (s u v : State) (r : MgtReq) (x : Session) (a n : Nat), Asks (.debugRead r a n) s r x u →
    v = u.touched (u.ownersIn a n) 0x0020 u.time.last →
    (n ≤ 4096 → a + n ≤ Config.deviceMemory → v.inTheWay [(a, n)] [] = [] →
      exec (.debugRead r a n) s = .next (v.mgtSay r E.ok (v.mem.readN a n))) ∧
    (4096 < n → exec (.debugRead r a n) s = .next (u.mgtSay r E.badLength []))) ∧
  (∀ (s u v : State) (r : MgtReq) (x : Session) (a : Nat) (d : List Byte), Asks (.debugWrite r a d) s r x u →
    v = u.touched (u.ownersIn a d.length) 0x0021 u.time.last →
    (d.length ≤ 4096 → a + d.length ≤ Config.deviceMemory → v.inTheWay [] [(a, d.length)] = [] →
      exec (.debugWrite r a d) s = .next (((v.setMem (v.mem.store a d false)).disturb none [(a, d.length)]).mgtSay r E.ok [])) ∧
    (d.length ≤ 4096 → Config.deviceMemory < a + d.length → exec (.debugWrite r a d) s = .next (s.stamp.2.mgtSay r E.badField [])) ∧
    (4096 < d.length → exec (.debugWrite r a d) s = .next (s.stamp.2.mgtSay r E.badLength []))) ∧
  (∀ (s u : State) (r : MgtReq) (x : Session) (t : Side) (n : Fin 8) (act : CcAct), Asks (.ccHalt r t n act) s r x u →
    exec (.ccHalt r t n act) s = .next ((match act with
      | .halt => (if u.carries t = true then u.touched (u.homeOf t) 0x0022 u.time.last else u).modTwin t fun w =>
        { w with halted := setBit w.halted n.val true }
      | .step => if u.carries t = true then u.touched (u.homeOf t) 0x0022 u.time.last else u
      | .resume => (if u.carries t = true then u.touched (u.homeOf t) 0x0022 u.time.last else u).modTwin t fun w =>
        { w with halted := setBit w.halted n.val false }).mgtSay r E.ok [])) ∧
  (∀ (s u v w : State) (r : MgtReq) (x : Session) (n : Fin 8) (h : List Byte) (roles : Nat), Asks (.credSet r n h roles) s r x u →
    v = s.stamp.2 →
    (v.mgt.credLock = true → x.slot = none → exec (.credSet r n h roles) s = .next (v.mgtSay r E.notAuthorised [])) ∧
    (v.mgt.credLock = false ∨ x.slot.isSome = true →
      (h.length ≠ 48 → exec (.credSet r n h roles) s = .next (v.mgtSay r E.badLength [])) ∧
      (h.length = 48 → 32 ≤ roles → exec (.credSet r n h roles) s = .next (v.mgtSay r E.badField [])) ∧
      (h.length = 48 → roles < 32 → w = u.modMgt (fun m => { m with creds := Tbl.put m.creds n.val (h, roles) }) →
        exec (.credSet r n h roles) s = .next
          (((w.measSet 4 (sha384 w.mgt.credImage)).flashWrite 0x2000000 (w.mgt.credImage.take 65536)).mgtSay r E.ok [])))) ∧
  (∀ (s u : State) (r : MgtReq) (x : Session), Asks (.credLock r) s r x u →
    exec (.credLock r) s = .next ((u.modMgt fun m => { m with credLock := true }).fuseMeas.mgtSay r E.ok [])) ∧
  (∀ (s u : State) (r : MgtReq) (x : Session) (n : Nat), Asks (.svnRaise r n) s r x u →
    (s.stamp.2.mgt.minSvn ≤ n → n < 65536 →
      exec (.svnRaise r n) s = .next ((u.modMgt fun m => { m with minSvn := max m.minSvn n }).fuseMeas.mgtSay r E.ok [])) ∧
    (n < s.stamp.2.mgt.minSvn ∨ 65536 ≤ n → exec (.svnRaise r n) s = .next (s.stamp.2.mgtSay r E.badField []))) ∧
  (∀ (s u : State) (r : MgtReq) (x : Session) (n : Nat) (d : List Byte), Asks (.measExtend r n d) s r x u →
    (8 ≤ n → n ≤ 15 → d.length = 48 → exec (.measExtend r n d) s = .next ((u.measExtend n d).mgtSay r E.ok [])) ∧
    (8 ≤ n → n ≤ 15 → d.length ≠ 48 → exec (.measExtend r n d) s = .next (u.mgtSay r E.badLength [])) ∧
    (n < 8 ∨ 15 < n → exec (.measExtend r n d) s = .next (u.mgtSay r E.badField []))) ∧
  (∀ (s u : State) (r : MgtReq) (x : Session) (p : Path) (v : Word), Asks (.clearOos (some r) p v) s r x u →
    ((s.stamp.2.twin (Side.ofBool (tst v.toNat 48))).state = .outOfService → exec (.clearOos (some r) p v) s = .next
      (((u.modTwin (Side.ofBool (tst v.toNat 48)) fun w => { w with resets := [] }).setTwinState
        (Side.ofBool (tst v.toNat 48)) .detached).mgtSay r E.ok [])) ∧
    ((s.stamp.2.twin (Side.ofBool (tst v.toNat 48))).state ≠ .outOfService →
      exec (.clearOos (some r) p v) s = .next (s.stamp.2.mgtSay r E.badField []))) ∧
  (∀ (s : State) (l : List Nat), 4 ≤ s.clk.phase →
    exec (.sensorSample l) s = .next ((l.take 24).zipIdx.foldl (fun s x => s.sample1 x.2 (x.1 % 65536)) s)) ∧
  (∀ (s : State) (i v : Nat), sensorState i v (s.limits i) (Tbl.get (0, 0) s.mgt.sensors i).2 = (Tbl.get (0, 0) s.mgt.sensors i).2 →
    s.sample1 i v = s.modMgt fun m => { m with sensors := Tbl.set (0, 0) m.sensors i (v, (Tbl.get (0, 0) s.mgt.sensors i).2) }) ∧
  (∀ (s : State) (n : Nat) (recs : List Byte), 4 ≤ s.clk.phase → s.gateOn 39 = true → s.mgt.lostNew = 0 →
    n = min 127 (s.mgt.written - s.mgt.mirrored) →
    recs = (List.range n).flatMap (fun i => logBytes (s.logAt (s.mgt.mirrored + i))) →
    exec .logMirrorWrite s = .next ((s.flashWrite (0x3000000 + 4096 * (s.mgt.pages % 2048))
      (logBytes (w64 s.time.last, logWord 0 0 none 0, w64 (s.gen 52), w64 s.mgt.pages) ++ recs ++
        List.replicate (4096 - 32 - recs.length) 0)).modMgt fun m => { m with mirrored := m.mirrored + n, pages := m.pages + 1 }))
end

