-- ==== Sys2Proof/Laws/State.lean ====
section
/-! SUPPORT. What each field of State is after each update, so that no later proof unfolds a record update. -/

namespace Sys2Proof.Machine

@[simp] theorem State.setTwin_pending (s : State) (t : Side) (v : Twin) : (s.setTwin t v).pending = s.pending := rfl
@[simp] theorem State.setTwin_time (s : State) (t : Side) (v : Twin) : (s.setTwin t v).time = s.time := rfl
@[simp] theorem State.setTwin_ctxs (s : State) (t : Side) (v : Twin) : (s.setTwin t v).ctxs = s.ctxs := rfl
@[simp] theorem State.setTwin_queues (s : State) (t : Side) (v : Twin) : (s.setTwin t v).queues = s.queues := rfl
@[simp] theorem State.setTwin_fences (s : State) (t : Side) (v : Twin) : (s.setTwin t v).fences = s.fences := rfl
@[simp] theorem State.setTwin_objs (s : State) (t : Side) (v : Twin) : (s.setTwin t v).objs = s.objs := rfl
@[simp] theorem State.setTwin_xlt (s : State) (t : Side) (v : Twin) : (s.setTwin t v).xlt = s.xlt := rfl
@[simp] theorem State.setTwin_ports (s : State) (t : Side) (v : Twin) : (s.setTwin t v).ports = s.ports := rfl
@[simp] theorem State.setTwin_funcs (s : State) (t : Side) (v : Twin) : (s.setTwin t v).funcs = s.funcs := rfl
@[simp] theorem State.setTwin_irq (s : State) (t : Side) (v : Twin) : (s.setTwin t v).irq = s.irq := rfl
@[simp] theorem State.setTwin_plan (s : State) (t : Side) (v : Twin) : (s.setTwin t v).plan = s.plan := rfl
@[simp] theorem State.setTwin_engines (s : State) (t : Side) (v : Twin) : (s.setTwin t v).engines = s.engines := rfl
@[simp] theorem State.setTwin_rst (s : State) (t : Side) (v : Twin) : (s.setTwin t v).rst = s.rst := rfl
@[simp] theorem State.setTwin_clk (s : State) (t : Side) (v : Twin) : (s.setTwin t v).clk = s.clk := rfl
@[simp] theorem State.setTwin_mgt (s : State) (t : Side) (v : Twin) : (s.setTwin t v).mgt = s.mgt := rfl
@[simp] theorem State.setTwin_coh (s : State) (t : Side) (v : Twin) : (s.setTwin t v).coh = s.coh := rfl
@[simp] theorem State.setTwin_fab (s : State) (t : Side) (v : Twin) : (s.setTwin t v).fab = s.fab := rfl
@[simp] theorem State.setTwin_mem (s : State) (t : Side) (v : Twin) : (s.setTwin t v).mem = s.mem := rfl
@[simp] theorem State.setTwin_sels (s : State) (t : Side) (v : Twin) : (s.setTwin t v).sels = s.sels := rfl
@[simp] theorem State.setTwin_out (s : State) (t : Side) (v : Twin) : (s.setTwin t v).out = s.out := rfl
@[simp] theorem State.setTwin_freeCtr (s : State) (t : Side) (v : Twin) : (s.setTwin t v).freeCtr = s.freeCtr := rfl
@[simp] theorem State.setTwin_twin (s : State) (t : Side) (v : Twin) : (s.setTwin t v).twin t = v := by cases t <;> rfl
@[simp] theorem State.setTwin_twin_other (s : State) (t : Side) (v : Twin) : (s.setTwin t v).twin t.other = s.twin t.other := by cases t <;> rfl
@[simp] theorem State.modTwin_pending (s : State) (t : Side) (f : Twin → Twin) : (s.modTwin t f).pending = s.pending := rfl
@[simp] theorem State.modTwin_time (s : State) (t : Side) (f : Twin → Twin) : (s.modTwin t f).time = s.time := rfl
@[simp] theorem State.modTwin_ctxs (s : State) (t : Side) (f : Twin → Twin) : (s.modTwin t f).ctxs = s.ctxs := rfl
@[simp] theorem State.modTwin_queues (s : State) (t : Side) (f : Twin → Twin) : (s.modTwin t f).queues = s.queues := rfl
@[simp] theorem State.modTwin_fences (s : State) (t : Side) (f : Twin → Twin) : (s.modTwin t f).fences = s.fences := rfl
@[simp] theorem State.modTwin_objs (s : State) (t : Side) (f : Twin → Twin) : (s.modTwin t f).objs = s.objs := rfl
@[simp] theorem State.modTwin_xlt (s : State) (t : Side) (f : Twin → Twin) : (s.modTwin t f).xlt = s.xlt := rfl
@[simp] theorem State.modTwin_ports (s : State) (t : Side) (f : Twin → Twin) : (s.modTwin t f).ports = s.ports := rfl
@[simp] theorem State.modTwin_funcs (s : State) (t : Side) (f : Twin → Twin) : (s.modTwin t f).funcs = s.funcs := rfl
@[simp] theorem State.modTwin_irq (s : State) (t : Side) (f : Twin → Twin) : (s.modTwin t f).irq = s.irq := rfl
@[simp] theorem State.modTwin_plan (s : State) (t : Side) (f : Twin → Twin) : (s.modTwin t f).plan = s.plan := rfl
@[simp] theorem State.modTwin_engines (s : State) (t : Side) (f : Twin → Twin) : (s.modTwin t f).engines = s.engines := rfl
@[simp] theorem State.modTwin_rst (s : State) (t : Side) (f : Twin → Twin) : (s.modTwin t f).rst = s.rst := rfl
@[simp] theorem State.modTwin_clk (s : State) (t : Side) (f : Twin → Twin) : (s.modTwin t f).clk = s.clk := rfl
@[simp] theorem State.modTwin_mgt (s : State) (t : Side) (f : Twin → Twin) : (s.modTwin t f).mgt = s.mgt := rfl
@[simp] theorem State.modTwin_coh (s : State) (t : Side) (f : Twin → Twin) : (s.modTwin t f).coh = s.coh := rfl
@[simp] theorem State.modTwin_fab (s : State) (t : Side) (f : Twin → Twin) : (s.modTwin t f).fab = s.fab := rfl
@[simp] theorem State.modTwin_mem (s : State) (t : Side) (f : Twin → Twin) : (s.modTwin t f).mem = s.mem := rfl
@[simp] theorem State.modTwin_sels (s : State) (t : Side) (f : Twin → Twin) : (s.modTwin t f).sels = s.sels := rfl
@[simp] theorem State.modTwin_out (s : State) (t : Side) (f : Twin → Twin) : (s.modTwin t f).out = s.out := rfl
@[simp] theorem State.modTwin_freeCtr (s : State) (t : Side) (f : Twin → Twin) : (s.modTwin t f).freeCtr = s.freeCtr := rfl
@[simp] theorem State.modTwin_twin (s : State) (t : Side) (f : Twin → Twin) : (s.modTwin t f).twin t = f (s.twin t) := by cases t <;> rfl
@[simp] theorem State.modTwin_twin_other (s : State) (t : Side) (f : Twin → Twin) : (s.modTwin t f).twin t.other = s.twin t.other := by cases t <;> rfl
@[simp] theorem State.setPort_pending (s : State) (p : Side) (v : Port) : (s.setPort p v).pending = s.pending := rfl
@[simp] theorem State.setPort_time (s : State) (p : Side) (v : Port) : (s.setPort p v).time = s.time := rfl
@[simp] theorem State.setPort_twins (s : State) (p : Side) (v : Port) : (s.setPort p v).twins = s.twins := rfl
@[simp] theorem State.setPort_ctxs (s : State) (p : Side) (v : Port) : (s.setPort p v).ctxs = s.ctxs := rfl
@[simp] theorem State.setPort_queues (s : State) (p : Side) (v : Port) : (s.setPort p v).queues = s.queues := rfl
@[simp] theorem State.setPort_fences (s : State) (p : Side) (v : Port) : (s.setPort p v).fences = s.fences := rfl
@[simp] theorem State.setPort_objs (s : State) (p : Side) (v : Port) : (s.setPort p v).objs = s.objs := rfl
@[simp] theorem State.setPort_xlt (s : State) (p : Side) (v : Port) : (s.setPort p v).xlt = s.xlt := rfl
@[simp] theorem State.setPort_funcs (s : State) (p : Side) (v : Port) : (s.setPort p v).funcs = s.funcs := rfl
@[simp] theorem State.setPort_irq (s : State) (p : Side) (v : Port) : (s.setPort p v).irq = s.irq := rfl
@[simp] theorem State.setPort_plan (s : State) (p : Side) (v : Port) : (s.setPort p v).plan = s.plan := rfl
@[simp] theorem State.setPort_engines (s : State) (p : Side) (v : Port) : (s.setPort p v).engines = s.engines := rfl
@[simp] theorem State.setPort_rst (s : State) (p : Side) (v : Port) : (s.setPort p v).rst = s.rst := rfl
@[simp] theorem State.setPort_clk (s : State) (p : Side) (v : Port) : (s.setPort p v).clk = s.clk := rfl
@[simp] theorem State.setPort_mgt (s : State) (p : Side) (v : Port) : (s.setPort p v).mgt = s.mgt := rfl
@[simp] theorem State.setPort_coh (s : State) (p : Side) (v : Port) : (s.setPort p v).coh = s.coh := rfl
@[simp] theorem State.setPort_fab (s : State) (p : Side) (v : Port) : (s.setPort p v).fab = s.fab := rfl
@[simp] theorem State.setPort_mem (s : State) (p : Side) (v : Port) : (s.setPort p v).mem = s.mem := rfl
@[simp] theorem State.setPort_sels (s : State) (p : Side) (v : Port) : (s.setPort p v).sels = s.sels := rfl
@[simp] theorem State.setPort_out (s : State) (p : Side) (v : Port) : (s.setPort p v).out = s.out := rfl
@[simp] theorem State.setPort_freeCtr (s : State) (p : Side) (v : Port) : (s.setPort p v).freeCtr = s.freeCtr := rfl
@[simp] theorem State.setPort_port (s : State) (p : Side) (v : Port) : (s.setPort p v).port p = v := by cases p <;> rfl
@[simp] theorem State.setPort_port_other (s : State) (p : Side) (v : Port) : (s.setPort p v).port p.other = s.port p.other := by cases p <;> rfl
@[simp] theorem State.modPort_pending (s : State) (p : Side) (f : Port → Port) : (s.modPort p f).pending = s.pending := rfl
@[simp] theorem State.modPort_time (s : State) (p : Side) (f : Port → Port) : (s.modPort p f).time = s.time := rfl
@[simp] theorem State.modPort_twins (s : State) (p : Side) (f : Port → Port) : (s.modPort p f).twins = s.twins := rfl
@[simp] theorem State.modPort_ctxs (s : State) (p : Side) (f : Port → Port) : (s.modPort p f).ctxs = s.ctxs := rfl
@[simp] theorem State.modPort_queues (s : State) (p : Side) (f : Port → Port) : (s.modPort p f).queues = s.queues := rfl
@[simp] theorem State.modPort_fences (s : State) (p : Side) (f : Port → Port) : (s.modPort p f).fences = s.fences := rfl
@[simp] theorem State.modPort_objs (s : State) (p : Side) (f : Port → Port) : (s.modPort p f).objs = s.objs := rfl
@[simp] theorem State.modPort_xlt (s : State) (p : Side) (f : Port → Port) : (s.modPort p f).xlt = s.xlt := rfl
@[simp] theorem State.modPort_funcs (s : State) (p : Side) (f : Port → Port) : (s.modPort p f).funcs = s.funcs := rfl
@[simp] theorem State.modPort_irq (s : State) (p : Side) (f : Port → Port) : (s.modPort p f).irq = s.irq := rfl
@[simp] theorem State.modPort_plan (s : State) (p : Side) (f : Port → Port) : (s.modPort p f).plan = s.plan := rfl
@[simp] theorem State.modPort_engines (s : State) (p : Side) (f : Port → Port) : (s.modPort p f).engines = s.engines := rfl
@[simp] theorem State.modPort_rst (s : State) (p : Side) (f : Port → Port) : (s.modPort p f).rst = s.rst := rfl
@[simp] theorem State.modPort_clk (s : State) (p : Side) (f : Port → Port) : (s.modPort p f).clk = s.clk := rfl
@[simp] theorem State.modPort_mgt (s : State) (p : Side) (f : Port → Port) : (s.modPort p f).mgt = s.mgt := rfl
@[simp] theorem State.modPort_coh (s : State) (p : Side) (f : Port → Port) : (s.modPort p f).coh = s.coh := rfl
@[simp] theorem State.modPort_fab (s : State) (p : Side) (f : Port → Port) : (s.modPort p f).fab = s.fab := rfl
@[simp] theorem State.modPort_mem (s : State) (p : Side) (f : Port → Port) : (s.modPort p f).mem = s.mem := rfl
@[simp] theorem State.modPort_sels (s : State) (p : Side) (f : Port → Port) : (s.modPort p f).sels = s.sels := rfl
@[simp] theorem State.modPort_out (s : State) (p : Side) (f : Port → Port) : (s.modPort p f).out = s.out := rfl
@[simp] theorem State.modPort_freeCtr (s : State) (p : Side) (f : Port → Port) : (s.modPort p f).freeCtr = s.freeCtr := rfl
@[simp] theorem State.modPort_port (s : State) (p : Side) (f : Port → Port) : (s.modPort p f).port p = f (s.port p) := by cases p <;> rfl
@[simp] theorem State.modPort_port_other (s : State) (p : Side) (f : Port → Port) : (s.modPort p f).port p.other = s.port p.other := by cases p <;> rfl
@[simp] theorem State.setCtx_pending (s : State) (n : Nat) (v : Ctx) : (s.setCtx n v).pending = s.pending := rfl
@[simp] theorem State.setCtx_time (s : State) (n : Nat) (v : Ctx) : (s.setCtx n v).time = s.time := rfl
@[simp] theorem State.setCtx_twins (s : State) (n : Nat) (v : Ctx) : (s.setCtx n v).twins = s.twins := rfl
@[simp] theorem State.setCtx_queues (s : State) (n : Nat) (v : Ctx) : (s.setCtx n v).queues = s.queues := rfl
@[simp] theorem State.setCtx_fences (s : State) (n : Nat) (v : Ctx) : (s.setCtx n v).fences = s.fences := rfl
@[simp] theorem State.setCtx_objs (s : State) (n : Nat) (v : Ctx) : (s.setCtx n v).objs = s.objs := rfl
@[simp] theorem State.setCtx_xlt (s : State) (n : Nat) (v : Ctx) : (s.setCtx n v).xlt = s.xlt := rfl
@[simp] theorem State.setCtx_ports (s : State) (n : Nat) (v : Ctx) : (s.setCtx n v).ports = s.ports := rfl
@[simp] theorem State.setCtx_funcs (s : State) (n : Nat) (v : Ctx) : (s.setCtx n v).funcs = s.funcs := rfl
@[simp] theorem State.setCtx_irq (s : State) (n : Nat) (v : Ctx) : (s.setCtx n v).irq = s.irq := rfl
@[simp] theorem State.setCtx_plan (s : State) (n : Nat) (v : Ctx) : (s.setCtx n v).plan = s.plan := rfl
@[simp] theorem State.setCtx_engines (s : State) (n : Nat) (v : Ctx) : (s.setCtx n v).engines = s.engines := rfl
@[simp] theorem State.setCtx_rst (s : State) (n : Nat) (v : Ctx) : (s.setCtx n v).rst = s.rst := rfl
@[simp] theorem State.setCtx_clk (s : State) (n : Nat) (v : Ctx) : (s.setCtx n v).clk = s.clk := rfl
@[simp] theorem State.setCtx_mgt (s : State) (n : Nat) (v : Ctx) : (s.setCtx n v).mgt = s.mgt := rfl
@[simp] theorem State.setCtx_coh (s : State) (n : Nat) (v : Ctx) : (s.setCtx n v).coh = s.coh := rfl
@[simp] theorem State.setCtx_fab (s : State) (n : Nat) (v : Ctx) : (s.setCtx n v).fab = s.fab := rfl
@[simp] theorem State.setCtx_mem (s : State) (n : Nat) (v : Ctx) : (s.setCtx n v).mem = s.mem := rfl
@[simp] theorem State.setCtx_sels (s : State) (n : Nat) (v : Ctx) : (s.setCtx n v).sels = s.sels := rfl
@[simp] theorem State.setCtx_out (s : State) (n : Nat) (v : Ctx) : (s.setCtx n v).out = s.out := rfl
@[simp] theorem State.setCtx_freeCtr (s : State) (n : Nat) (v : Ctx) : (s.setCtx n v).freeCtr = s.freeCtr := rfl
@[simp] theorem State.modCtx_pending (s : State) (n : Nat) (f : Ctx → Ctx) : (s.modCtx n f).pending = s.pending := rfl
@[simp] theorem State.modCtx_time (s : State) (n : Nat) (f : Ctx → Ctx) : (s.modCtx n f).time = s.time := rfl
@[simp] theorem State.modCtx_twins (s : State) (n : Nat) (f : Ctx → Ctx) : (s.modCtx n f).twins = s.twins := rfl
@[simp] theorem State.modCtx_queues (s : State) (n : Nat) (f : Ctx → Ctx) : (s.modCtx n f).queues = s.queues := rfl
@[simp] theorem State.modCtx_fences (s : State) (n : Nat) (f : Ctx → Ctx) : (s.modCtx n f).fences = s.fences := rfl
@[simp] theorem State.modCtx_objs (s : State) (n : Nat) (f : Ctx → Ctx) : (s.modCtx n f).objs = s.objs := rfl
@[simp] theorem State.modCtx_xlt (s : State) (n : Nat) (f : Ctx → Ctx) : (s.modCtx n f).xlt = s.xlt := rfl
@[simp] theorem State.modCtx_ports (s : State) (n : Nat) (f : Ctx → Ctx) : (s.modCtx n f).ports = s.ports := rfl
@[simp] theorem State.modCtx_funcs (s : State) (n : Nat) (f : Ctx → Ctx) : (s.modCtx n f).funcs = s.funcs := rfl
@[simp] theorem State.modCtx_irq (s : State) (n : Nat) (f : Ctx → Ctx) : (s.modCtx n f).irq = s.irq := rfl
@[simp] theorem State.modCtx_plan (s : State) (n : Nat) (f : Ctx → Ctx) : (s.modCtx n f).plan = s.plan := rfl
@[simp] theorem State.modCtx_engines (s : State) (n : Nat) (f : Ctx → Ctx) : (s.modCtx n f).engines = s.engines := rfl
@[simp] theorem State.modCtx_rst (s : State) (n : Nat) (f : Ctx → Ctx) : (s.modCtx n f).rst = s.rst := rfl
@[simp] theorem State.modCtx_clk (s : State) (n : Nat) (f : Ctx → Ctx) : (s.modCtx n f).clk = s.clk := rfl
@[simp] theorem State.modCtx_mgt (s : State) (n : Nat) (f : Ctx → Ctx) : (s.modCtx n f).mgt = s.mgt := rfl
@[simp] theorem State.modCtx_coh (s : State) (n : Nat) (f : Ctx → Ctx) : (s.modCtx n f).coh = s.coh := rfl
@[simp] theorem State.modCtx_fab (s : State) (n : Nat) (f : Ctx → Ctx) : (s.modCtx n f).fab = s.fab := rfl
@[simp] theorem State.modCtx_mem (s : State) (n : Nat) (f : Ctx → Ctx) : (s.modCtx n f).mem = s.mem := rfl
@[simp] theorem State.modCtx_sels (s : State) (n : Nat) (f : Ctx → Ctx) : (s.modCtx n f).sels = s.sels := rfl
@[simp] theorem State.modCtx_out (s : State) (n : Nat) (f : Ctx → Ctx) : (s.modCtx n f).out = s.out := rfl
@[simp] theorem State.modCtx_freeCtr (s : State) (n : Nat) (f : Ctx → Ctx) : (s.modCtx n f).freeCtr = s.freeCtr := rfl
@[simp] theorem State.setQueue_pending (s : State) (n : Nat) (v : Queue) : (s.setQueue n v).pending = s.pending := rfl
@[simp] theorem State.setQueue_time (s : State) (n : Nat) (v : Queue) : (s.setQueue n v).time = s.time := rfl
@[simp] theorem State.setQueue_twins (s : State) (n : Nat) (v : Queue) : (s.setQueue n v).twins = s.twins := rfl
@[simp] theorem State.setQueue_ctxs (s : State) (n : Nat) (v : Queue) : (s.setQueue n v).ctxs = s.ctxs := rfl
@[simp] theorem State.setQueue_fences (s : State) (n : Nat) (v : Queue) : (s.setQueue n v).fences = s.fences := rfl
@[simp] theorem State.setQueue_objs (s : State) (n : Nat) (v : Queue) : (s.setQueue n v).objs = s.objs := rfl
@[simp] theorem State.setQueue_xlt (s : State) (n : Nat) (v : Queue) : (s.setQueue n v).xlt = s.xlt := rfl
@[simp] theorem State.setQueue_ports (s : State) (n : Nat) (v : Queue) : (s.setQueue n v).ports = s.ports := rfl
@[simp] theorem State.setQueue_funcs (s : State) (n : Nat) (v : Queue) : (s.setQueue n v).funcs = s.funcs := rfl
@[simp] theorem State.setQueue_irq (s : State) (n : Nat) (v : Queue) : (s.setQueue n v).irq = s.irq := rfl
@[simp] theorem State.setQueue_plan (s : State) (n : Nat) (v : Queue) : (s.setQueue n v).plan = s.plan := rfl
@[simp] theorem State.setQueue_engines (s : State) (n : Nat) (v : Queue) : (s.setQueue n v).engines = s.engines := rfl
@[simp] theorem State.setQueue_rst (s : State) (n : Nat) (v : Queue) : (s.setQueue n v).rst = s.rst := rfl
@[simp] theorem State.setQueue_clk (s : State) (n : Nat) (v : Queue) : (s.setQueue n v).clk = s.clk := rfl
@[simp] theorem State.setQueue_mgt (s : State) (n : Nat) (v : Queue) : (s.setQueue n v).mgt = s.mgt := rfl
@[simp] theorem State.setQueue_coh (s : State) (n : Nat) (v : Queue) : (s.setQueue n v).coh = s.coh := rfl
@[simp] theorem State.setQueue_fab (s : State) (n : Nat) (v : Queue) : (s.setQueue n v).fab = s.fab := rfl
@[simp] theorem State.setQueue_mem (s : State) (n : Nat) (v : Queue) : (s.setQueue n v).mem = s.mem := rfl
@[simp] theorem State.setQueue_sels (s : State) (n : Nat) (v : Queue) : (s.setQueue n v).sels = s.sels := rfl
@[simp] theorem State.setQueue_out (s : State) (n : Nat) (v : Queue) : (s.setQueue n v).out = s.out := rfl
@[simp] theorem State.setQueue_freeCtr (s : State) (n : Nat) (v : Queue) : (s.setQueue n v).freeCtr = s.freeCtr := rfl
@[simp] theorem State.modQueue_pending (s : State) (n : Nat) (f : Queue → Queue) : (s.modQueue n f).pending = s.pending := rfl
@[simp] theorem State.modQueue_time (s : State) (n : Nat) (f : Queue → Queue) : (s.modQueue n f).time = s.time := rfl
@[simp] theorem State.modQueue_twins (s : State) (n : Nat) (f : Queue → Queue) : (s.modQueue n f).twins = s.twins := rfl
@[simp] theorem State.modQueue_ctxs (s : State) (n : Nat) (f : Queue → Queue) : (s.modQueue n f).ctxs = s.ctxs := rfl
@[simp] theorem State.modQueue_fences (s : State) (n : Nat) (f : Queue → Queue) : (s.modQueue n f).fences = s.fences := rfl
@[simp] theorem State.modQueue_objs (s : State) (n : Nat) (f : Queue → Queue) : (s.modQueue n f).objs = s.objs := rfl
@[simp] theorem State.modQueue_xlt (s : State) (n : Nat) (f : Queue → Queue) : (s.modQueue n f).xlt = s.xlt := rfl
@[simp] theorem State.modQueue_ports (s : State) (n : Nat) (f : Queue → Queue) : (s.modQueue n f).ports = s.ports := rfl
@[simp] theorem State.modQueue_funcs (s : State) (n : Nat) (f : Queue → Queue) : (s.modQueue n f).funcs = s.funcs := rfl
@[simp] theorem State.modQueue_irq (s : State) (n : Nat) (f : Queue → Queue) : (s.modQueue n f).irq = s.irq := rfl
@[simp] theorem State.modQueue_plan (s : State) (n : Nat) (f : Queue → Queue) : (s.modQueue n f).plan = s.plan := rfl
@[simp] theorem State.modQueue_engines (s : State) (n : Nat) (f : Queue → Queue) : (s.modQueue n f).engines = s.engines := rfl
@[simp] theorem State.modQueue_rst (s : State) (n : Nat) (f : Queue → Queue) : (s.modQueue n f).rst = s.rst := rfl
@[simp] theorem State.modQueue_clk (s : State) (n : Nat) (f : Queue → Queue) : (s.modQueue n f).clk = s.clk := rfl
@[simp] theorem State.modQueue_mgt (s : State) (n : Nat) (f : Queue → Queue) : (s.modQueue n f).mgt = s.mgt := rfl
@[simp] theorem State.modQueue_coh (s : State) (n : Nat) (f : Queue → Queue) : (s.modQueue n f).coh = s.coh := rfl
@[simp] theorem State.modQueue_fab (s : State) (n : Nat) (f : Queue → Queue) : (s.modQueue n f).fab = s.fab := rfl
@[simp] theorem State.modQueue_mem (s : State) (n : Nat) (f : Queue → Queue) : (s.modQueue n f).mem = s.mem := rfl
@[simp] theorem State.modQueue_sels (s : State) (n : Nat) (f : Queue → Queue) : (s.modQueue n f).sels = s.sels := rfl
@[simp] theorem State.modQueue_out (s : State) (n : Nat) (f : Queue → Queue) : (s.modQueue n f).out = s.out := rfl
@[simp] theorem State.modQueue_freeCtr (s : State) (n : Nat) (f : Queue → Queue) : (s.modQueue n f).freeCtr = s.freeCtr := rfl
@[simp] theorem State.setFence_pending (s : State) (n : Nat) (v : Fence) : (s.setFence n v).pending = s.pending := rfl
@[simp] theorem State.setFence_time (s : State) (n : Nat) (v : Fence) : (s.setFence n v).time = s.time := rfl
@[simp] theorem State.setFence_twins (s : State) (n : Nat) (v : Fence) : (s.setFence n v).twins = s.twins := rfl
@[simp] theorem State.setFence_ctxs (s : State) (n : Nat) (v : Fence) : (s.setFence n v).ctxs = s.ctxs := rfl
@[simp] theorem State.setFence_queues (s : State) (n : Nat) (v : Fence) : (s.setFence n v).queues = s.queues := rfl
@[simp] theorem State.setFence_objs (s : State) (n : Nat) (v : Fence) : (s.setFence n v).objs = s.objs := rfl
@[simp] theorem State.setFence_xlt (s : State) (n : Nat) (v : Fence) : (s.setFence n v).xlt = s.xlt := rfl
@[simp] theorem State.setFence_ports (s : State) (n : Nat) (v : Fence) : (s.setFence n v).ports = s.ports := rfl
@[simp] theorem State.setFence_funcs (s : State) (n : Nat) (v : Fence) : (s.setFence n v).funcs = s.funcs := rfl
@[simp] theorem State.setFence_irq (s : State) (n : Nat) (v : Fence) : (s.setFence n v).irq = s.irq := rfl
@[simp] theorem State.setFence_plan (s : State) (n : Nat) (v : Fence) : (s.setFence n v).plan = s.plan := rfl
@[simp] theorem State.setFence_engines (s : State) (n : Nat) (v : Fence) : (s.setFence n v).engines = s.engines := rfl
@[simp] theorem State.setFence_rst (s : State) (n : Nat) (v : Fence) : (s.setFence n v).rst = s.rst := rfl
@[simp] theorem State.setFence_clk (s : State) (n : Nat) (v : Fence) : (s.setFence n v).clk = s.clk := rfl
@[simp] theorem State.setFence_mgt (s : State) (n : Nat) (v : Fence) : (s.setFence n v).mgt = s.mgt := rfl
@[simp] theorem State.setFence_coh (s : State) (n : Nat) (v : Fence) : (s.setFence n v).coh = s.coh := rfl
@[simp] theorem State.setFence_fab (s : State) (n : Nat) (v : Fence) : (s.setFence n v).fab = s.fab := rfl
@[simp] theorem State.setFence_mem (s : State) (n : Nat) (v : Fence) : (s.setFence n v).mem = s.mem := rfl
@[simp] theorem State.setFence_sels (s : State) (n : Nat) (v : Fence) : (s.setFence n v).sels = s.sels := rfl
@[simp] theorem State.setFence_out (s : State) (n : Nat) (v : Fence) : (s.setFence n v).out = s.out := rfl
@[simp] theorem State.setFence_freeCtr (s : State) (n : Nat) (v : Fence) : (s.setFence n v).freeCtr = s.freeCtr := rfl
@[simp] theorem State.modFence_pending (s : State) (n : Nat) (f : Fence → Fence) : (s.modFence n f).pending = s.pending := rfl
@[simp] theorem State.modFence_time (s : State) (n : Nat) (f : Fence → Fence) : (s.modFence n f).time = s.time := rfl
@[simp] theorem State.modFence_twins (s : State) (n : Nat) (f : Fence → Fence) : (s.modFence n f).twins = s.twins := rfl
@[simp] theorem State.modFence_ctxs (s : State) (n : Nat) (f : Fence → Fence) : (s.modFence n f).ctxs = s.ctxs := rfl
@[simp] theorem State.modFence_queues (s : State) (n : Nat) (f : Fence → Fence) : (s.modFence n f).queues = s.queues := rfl
@[simp] theorem State.modFence_objs (s : State) (n : Nat) (f : Fence → Fence) : (s.modFence n f).objs = s.objs := rfl
@[simp] theorem State.modFence_xlt (s : State) (n : Nat) (f : Fence → Fence) : (s.modFence n f).xlt = s.xlt := rfl
@[simp] theorem State.modFence_ports (s : State) (n : Nat) (f : Fence → Fence) : (s.modFence n f).ports = s.ports := rfl
@[simp] theorem State.modFence_funcs (s : State) (n : Nat) (f : Fence → Fence) : (s.modFence n f).funcs = s.funcs := rfl
@[simp] theorem State.modFence_irq (s : State) (n : Nat) (f : Fence → Fence) : (s.modFence n f).irq = s.irq := rfl
@[simp] theorem State.modFence_plan (s : State) (n : Nat) (f : Fence → Fence) : (s.modFence n f).plan = s.plan := rfl
@[simp] theorem State.modFence_engines (s : State) (n : Nat) (f : Fence → Fence) : (s.modFence n f).engines = s.engines := rfl
@[simp] theorem State.modFence_rst (s : State) (n : Nat) (f : Fence → Fence) : (s.modFence n f).rst = s.rst := rfl
@[simp] theorem State.modFence_clk (s : State) (n : Nat) (f : Fence → Fence) : (s.modFence n f).clk = s.clk := rfl
@[simp] theorem State.modFence_mgt (s : State) (n : Nat) (f : Fence → Fence) : (s.modFence n f).mgt = s.mgt := rfl
@[simp] theorem State.modFence_coh (s : State) (n : Nat) (f : Fence → Fence) : (s.modFence n f).coh = s.coh := rfl
@[simp] theorem State.modFence_fab (s : State) (n : Nat) (f : Fence → Fence) : (s.modFence n f).fab = s.fab := rfl
@[simp] theorem State.modFence_mem (s : State) (n : Nat) (f : Fence → Fence) : (s.modFence n f).mem = s.mem := rfl
@[simp] theorem State.modFence_sels (s : State) (n : Nat) (f : Fence → Fence) : (s.modFence n f).sels = s.sels := rfl
@[simp] theorem State.modFence_out (s : State) (n : Nat) (f : Fence → Fence) : (s.modFence n f).out = s.out := rfl
@[simp] theorem State.modFence_freeCtr (s : State) (n : Nat) (f : Fence → Fence) : (s.modFence n f).freeCtr = s.freeCtr := rfl
@[simp] theorem State.setObj_pending (s : State) (n : Nat) (v : Obj) : (s.setObj n v).pending = s.pending := rfl
@[simp] theorem State.setObj_time (s : State) (n : Nat) (v : Obj) : (s.setObj n v).time = s.time := rfl
@[simp] theorem State.setObj_twins (s : State) (n : Nat) (v : Obj) : (s.setObj n v).twins = s.twins := rfl
@[simp] theorem State.setObj_ctxs (s : State) (n : Nat) (v : Obj) : (s.setObj n v).ctxs = s.ctxs := rfl
@[simp] theorem State.setObj_queues (s : State) (n : Nat) (v : Obj) : (s.setObj n v).queues = s.queues := rfl
@[simp] theorem State.setObj_fences (s : State) (n : Nat) (v : Obj) : (s.setObj n v).fences = s.fences := rfl
@[simp] theorem State.setObj_xlt (s : State) (n : Nat) (v : Obj) : (s.setObj n v).xlt = s.xlt := rfl
@[simp] theorem State.setObj_ports (s : State) (n : Nat) (v : Obj) : (s.setObj n v).ports = s.ports := rfl
@[simp] theorem State.setObj_funcs (s : State) (n : Nat) (v : Obj) : (s.setObj n v).funcs = s.funcs := rfl
@[simp] theorem State.setObj_irq (s : State) (n : Nat) (v : Obj) : (s.setObj n v).irq = s.irq := rfl
@[simp] theorem State.setObj_plan (s : State) (n : Nat) (v : Obj) : (s.setObj n v).plan = s.plan := rfl
@[simp] theorem State.setObj_engines (s : State) (n : Nat) (v : Obj) : (s.setObj n v).engines = s.engines := rfl
@[simp] theorem State.setObj_rst (s : State) (n : Nat) (v : Obj) : (s.setObj n v).rst = s.rst := rfl
@[simp] theorem State.setObj_clk (s : State) (n : Nat) (v : Obj) : (s.setObj n v).clk = s.clk := rfl
@[simp] theorem State.setObj_mgt (s : State) (n : Nat) (v : Obj) : (s.setObj n v).mgt = s.mgt := rfl
@[simp] theorem State.setObj_coh (s : State) (n : Nat) (v : Obj) : (s.setObj n v).coh = s.coh := rfl
@[simp] theorem State.setObj_fab (s : State) (n : Nat) (v : Obj) : (s.setObj n v).fab = s.fab := rfl
@[simp] theorem State.setObj_mem (s : State) (n : Nat) (v : Obj) : (s.setObj n v).mem = s.mem := rfl
@[simp] theorem State.setObj_sels (s : State) (n : Nat) (v : Obj) : (s.setObj n v).sels = s.sels := rfl
@[simp] theorem State.setObj_out (s : State) (n : Nat) (v : Obj) : (s.setObj n v).out = s.out := rfl
@[simp] theorem State.setObj_freeCtr (s : State) (n : Nat) (v : Obj) : (s.setObj n v).freeCtr = s.freeCtr := rfl
@[simp] theorem State.modObj_pending (s : State) (n : Nat) (f : Obj → Obj) : (s.modObj n f).pending = s.pending := rfl
@[simp] theorem State.modObj_time (s : State) (n : Nat) (f : Obj → Obj) : (s.modObj n f).time = s.time := rfl
@[simp] theorem State.modObj_twins (s : State) (n : Nat) (f : Obj → Obj) : (s.modObj n f).twins = s.twins := rfl
@[simp] theorem State.modObj_ctxs (s : State) (n : Nat) (f : Obj → Obj) : (s.modObj n f).ctxs = s.ctxs := rfl
@[simp] theorem State.modObj_queues (s : State) (n : Nat) (f : Obj → Obj) : (s.modObj n f).queues = s.queues := rfl
@[simp] theorem State.modObj_fences (s : State) (n : Nat) (f : Obj → Obj) : (s.modObj n f).fences = s.fences := rfl
@[simp] theorem State.modObj_xlt (s : State) (n : Nat) (f : Obj → Obj) : (s.modObj n f).xlt = s.xlt := rfl
@[simp] theorem State.modObj_ports (s : State) (n : Nat) (f : Obj → Obj) : (s.modObj n f).ports = s.ports := rfl
@[simp] theorem State.modObj_funcs (s : State) (n : Nat) (f : Obj → Obj) : (s.modObj n f).funcs = s.funcs := rfl
@[simp] theorem State.modObj_irq (s : State) (n : Nat) (f : Obj → Obj) : (s.modObj n f).irq = s.irq := rfl
@[simp] theorem State.modObj_plan (s : State) (n : Nat) (f : Obj → Obj) : (s.modObj n f).plan = s.plan := rfl
@[simp] theorem State.modObj_engines (s : State) (n : Nat) (f : Obj → Obj) : (s.modObj n f).engines = s.engines := rfl
@[simp] theorem State.modObj_rst (s : State) (n : Nat) (f : Obj → Obj) : (s.modObj n f).rst = s.rst := rfl
@[simp] theorem State.modObj_clk (s : State) (n : Nat) (f : Obj → Obj) : (s.modObj n f).clk = s.clk := rfl
@[simp] theorem State.modObj_mgt (s : State) (n : Nat) (f : Obj → Obj) : (s.modObj n f).mgt = s.mgt := rfl
@[simp] theorem State.modObj_coh (s : State) (n : Nat) (f : Obj → Obj) : (s.modObj n f).coh = s.coh := rfl
@[simp] theorem State.modObj_fab (s : State) (n : Nat) (f : Obj → Obj) : (s.modObj n f).fab = s.fab := rfl
@[simp] theorem State.modObj_mem (s : State) (n : Nat) (f : Obj → Obj) : (s.modObj n f).mem = s.mem := rfl
@[simp] theorem State.modObj_sels (s : State) (n : Nat) (f : Obj → Obj) : (s.modObj n f).sels = s.sels := rfl
@[simp] theorem State.modObj_out (s : State) (n : Nat) (f : Obj → Obj) : (s.modObj n f).out = s.out := rfl
@[simp] theorem State.modObj_freeCtr (s : State) (n : Nat) (f : Obj → Obj) : (s.modObj n f).freeCtr = s.freeCtr := rfl
@[simp] theorem State.setFunc_pending (s : State) (p : Side) (k : Nat) (v : Func) : (s.setFunc p k v).pending = s.pending := rfl
@[simp] theorem State.setFunc_time (s : State) (p : Side) (k : Nat) (v : Func) : (s.setFunc p k v).time = s.time := rfl
@[simp] theorem State.setFunc_twins (s : State) (p : Side) (k : Nat) (v : Func) : (s.setFunc p k v).twins = s.twins := rfl
@[simp] theorem State.setFunc_ctxs (s : State) (p : Side) (k : Nat) (v : Func) : (s.setFunc p k v).ctxs = s.ctxs := rfl
@[simp] theorem State.setFunc_queues (s : State) (p : Side) (k : Nat) (v : Func) : (s.setFunc p k v).queues = s.queues := rfl
@[simp] theorem State.setFunc_fences (s : State) (p : Side) (k : Nat) (v : Func) : (s.setFunc p k v).fences = s.fences := rfl
@[simp] theorem State.setFunc_objs (s : State) (p : Side) (k : Nat) (v : Func) : (s.setFunc p k v).objs = s.objs := rfl
@[simp] theorem State.setFunc_xlt (s : State) (p : Side) (k : Nat) (v : Func) : (s.setFunc p k v).xlt = s.xlt := rfl
@[simp] theorem State.setFunc_ports (s : State) (p : Side) (k : Nat) (v : Func) : (s.setFunc p k v).ports = s.ports := rfl
@[simp] theorem State.setFunc_irq (s : State) (p : Side) (k : Nat) (v : Func) : (s.setFunc p k v).irq = s.irq := rfl
@[simp] theorem State.setFunc_plan (s : State) (p : Side) (k : Nat) (v : Func) : (s.setFunc p k v).plan = s.plan := rfl
@[simp] theorem State.setFunc_engines (s : State) (p : Side) (k : Nat) (v : Func) : (s.setFunc p k v).engines = s.engines := rfl
@[simp] theorem State.setFunc_rst (s : State) (p : Side) (k : Nat) (v : Func) : (s.setFunc p k v).rst = s.rst := rfl
@[simp] theorem State.setFunc_clk (s : State) (p : Side) (k : Nat) (v : Func) : (s.setFunc p k v).clk = s.clk := rfl
@[simp] theorem State.setFunc_mgt (s : State) (p : Side) (k : Nat) (v : Func) : (s.setFunc p k v).mgt = s.mgt := rfl
@[simp] theorem State.setFunc_coh (s : State) (p : Side) (k : Nat) (v : Func) : (s.setFunc p k v).coh = s.coh := rfl
@[simp] theorem State.setFunc_fab (s : State) (p : Side) (k : Nat) (v : Func) : (s.setFunc p k v).fab = s.fab := rfl
@[simp] theorem State.setFunc_mem (s : State) (p : Side) (k : Nat) (v : Func) : (s.setFunc p k v).mem = s.mem := rfl
@[simp] theorem State.setFunc_sels (s : State) (p : Side) (k : Nat) (v : Func) : (s.setFunc p k v).sels = s.sels := rfl
@[simp] theorem State.setFunc_out (s : State) (p : Side) (k : Nat) (v : Func) : (s.setFunc p k v).out = s.out := rfl
@[simp] theorem State.setFunc_freeCtr (s : State) (p : Side) (k : Nat) (v : Func) : (s.setFunc p k v).freeCtr = s.freeCtr := rfl
@[simp] theorem State.modFunc_pending (s : State) (p : Side) (k : Nat) (f : Func → Func) : (s.modFunc p k f).pending = s.pending := rfl
@[simp] theorem State.modFunc_time (s : State) (p : Side) (k : Nat) (f : Func → Func) : (s.modFunc p k f).time = s.time := rfl
@[simp] theorem State.modFunc_twins (s : State) (p : Side) (k : Nat) (f : Func → Func) : (s.modFunc p k f).twins = s.twins := rfl
@[simp] theorem State.modFunc_ctxs (s : State) (p : Side) (k : Nat) (f : Func → Func) : (s.modFunc p k f).ctxs = s.ctxs := rfl
@[simp] theorem State.modFunc_queues (s : State) (p : Side) (k : Nat) (f : Func → Func) : (s.modFunc p k f).queues = s.queues := rfl
@[simp] theorem State.modFunc_fences (s : State) (p : Side) (k : Nat) (f : Func → Func) : (s.modFunc p k f).fences = s.fences := rfl
@[simp] theorem State.modFunc_objs (s : State) (p : Side) (k : Nat) (f : Func → Func) : (s.modFunc p k f).objs = s.objs := rfl
@[simp] theorem State.modFunc_xlt (s : State) (p : Side) (k : Nat) (f : Func → Func) : (s.modFunc p k f).xlt = s.xlt := rfl
@[simp] theorem State.modFunc_ports (s : State) (p : Side) (k : Nat) (f : Func → Func) : (s.modFunc p k f).ports = s.ports := rfl
@[simp] theorem State.modFunc_irq (s : State) (p : Side) (k : Nat) (f : Func → Func) : (s.modFunc p k f).irq = s.irq := rfl
@[simp] theorem State.modFunc_plan (s : State) (p : Side) (k : Nat) (f : Func → Func) : (s.modFunc p k f).plan = s.plan := rfl
@[simp] theorem State.modFunc_engines (s : State) (p : Side) (k : Nat) (f : Func → Func) : (s.modFunc p k f).engines = s.engines := rfl
@[simp] theorem State.modFunc_rst (s : State) (p : Side) (k : Nat) (f : Func → Func) : (s.modFunc p k f).rst = s.rst := rfl
@[simp] theorem State.modFunc_clk (s : State) (p : Side) (k : Nat) (f : Func → Func) : (s.modFunc p k f).clk = s.clk := rfl
@[simp] theorem State.modFunc_mgt (s : State) (p : Side) (k : Nat) (f : Func → Func) : (s.modFunc p k f).mgt = s.mgt := rfl
@[simp] theorem State.modFunc_coh (s : State) (p : Side) (k : Nat) (f : Func → Func) : (s.modFunc p k f).coh = s.coh := rfl
@[simp] theorem State.modFunc_fab (s : State) (p : Side) (k : Nat) (f : Func → Func) : (s.modFunc p k f).fab = s.fab := rfl
@[simp] theorem State.modFunc_mem (s : State) (p : Side) (k : Nat) (f : Func → Func) : (s.modFunc p k f).mem = s.mem := rfl
@[simp] theorem State.modFunc_sels (s : State) (p : Side) (k : Nat) (f : Func → Func) : (s.modFunc p k f).sels = s.sels := rfl
@[simp] theorem State.modFunc_out (s : State) (p : Side) (k : Nat) (f : Func → Func) : (s.modFunc p k f).out = s.out := rfl
@[simp] theorem State.modFunc_freeCtr (s : State) (p : Side) (k : Nat) (f : Func → Func) : (s.modFunc p k f).freeCtr = s.freeCtr := rfl
@[simp] theorem State.setVec_pending (s : State) (k v : Nat) (x : Vec) : (s.setVec k v x).pending = s.pending := rfl
@[simp] theorem State.setVec_time (s : State) (k v : Nat) (x : Vec) : (s.setVec k v x).time = s.time := rfl
@[simp] theorem State.setVec_twins (s : State) (k v : Nat) (x : Vec) : (s.setVec k v x).twins = s.twins := rfl
@[simp] theorem State.setVec_ctxs (s : State) (k v : Nat) (x : Vec) : (s.setVec k v x).ctxs = s.ctxs := rfl
@[simp] theorem State.setVec_queues (s : State) (k v : Nat) (x : Vec) : (s.setVec k v x).queues = s.queues := rfl
@[simp] theorem State.setVec_fences (s : State) (k v : Nat) (x : Vec) : (s.setVec k v x).fences = s.fences := rfl
@[simp] theorem State.setVec_objs (s : State) (k v : Nat) (x : Vec) : (s.setVec k v x).objs = s.objs := rfl
@[simp] theorem State.setVec_xlt (s : State) (k v : Nat) (x : Vec) : (s.setVec k v x).xlt = s.xlt := rfl
@[simp] theorem State.setVec_ports (s : State) (k v : Nat) (x : Vec) : (s.setVec k v x).ports = s.ports := rfl
@[simp] theorem State.setVec_funcs (s : State) (k v : Nat) (x : Vec) : (s.setVec k v x).funcs = s.funcs := rfl
@[simp] theorem State.setVec_plan (s : State) (k v : Nat) (x : Vec) : (s.setVec k v x).plan = s.plan := rfl
@[simp] theorem State.setVec_engines (s : State) (k v : Nat) (x : Vec) : (s.setVec k v x).engines = s.engines := rfl
@[simp] theorem State.setVec_rst (s : State) (k v : Nat) (x : Vec) : (s.setVec k v x).rst = s.rst := rfl
@[simp] theorem State.setVec_clk (s : State) (k v : Nat) (x : Vec) : (s.setVec k v x).clk = s.clk := rfl
@[simp] theorem State.setVec_mgt (s : State) (k v : Nat) (x : Vec) : (s.setVec k v x).mgt = s.mgt := rfl
@[simp] theorem State.setVec_coh (s : State) (k v : Nat) (x : Vec) : (s.setVec k v x).coh = s.coh := rfl
@[simp] theorem State.setVec_fab (s : State) (k v : Nat) (x : Vec) : (s.setVec k v x).fab = s.fab := rfl
@[simp] theorem State.setVec_mem (s : State) (k v : Nat) (x : Vec) : (s.setVec k v x).mem = s.mem := rfl
@[simp] theorem State.setVec_sels (s : State) (k v : Nat) (x : Vec) : (s.setVec k v x).sels = s.sels := rfl
@[simp] theorem State.setVec_out (s : State) (k v : Nat) (x : Vec) : (s.setVec k v x).out = s.out := rfl
@[simp] theorem State.setVec_freeCtr (s : State) (k v : Nat) (x : Vec) : (s.setVec k v x).freeCtr = s.freeCtr := rfl
@[simp] theorem State.modVec_pending (s : State) (k v : Nat) (f : Vec → Vec) : (s.modVec k v f).pending = s.pending := rfl
@[simp] theorem State.modVec_time (s : State) (k v : Nat) (f : Vec → Vec) : (s.modVec k v f).time = s.time := rfl
@[simp] theorem State.modVec_twins (s : State) (k v : Nat) (f : Vec → Vec) : (s.modVec k v f).twins = s.twins := rfl
@[simp] theorem State.modVec_ctxs (s : State) (k v : Nat) (f : Vec → Vec) : (s.modVec k v f).ctxs = s.ctxs := rfl
@[simp] theorem State.modVec_queues (s : State) (k v : Nat) (f : Vec → Vec) : (s.modVec k v f).queues = s.queues := rfl
@[simp] theorem State.modVec_fences (s : State) (k v : Nat) (f : Vec → Vec) : (s.modVec k v f).fences = s.fences := rfl
@[simp] theorem State.modVec_objs (s : State) (k v : Nat) (f : Vec → Vec) : (s.modVec k v f).objs = s.objs := rfl
@[simp] theorem State.modVec_xlt (s : State) (k v : Nat) (f : Vec → Vec) : (s.modVec k v f).xlt = s.xlt := rfl
@[simp] theorem State.modVec_ports (s : State) (k v : Nat) (f : Vec → Vec) : (s.modVec k v f).ports = s.ports := rfl
@[simp] theorem State.modVec_funcs (s : State) (k v : Nat) (f : Vec → Vec) : (s.modVec k v f).funcs = s.funcs := rfl
@[simp] theorem State.modVec_plan (s : State) (k v : Nat) (f : Vec → Vec) : (s.modVec k v f).plan = s.plan := rfl
@[simp] theorem State.modVec_engines (s : State) (k v : Nat) (f : Vec → Vec) : (s.modVec k v f).engines = s.engines := rfl
@[simp] theorem State.modVec_rst (s : State) (k v : Nat) (f : Vec → Vec) : (s.modVec k v f).rst = s.rst := rfl
@[simp] theorem State.modVec_clk (s : State) (k v : Nat) (f : Vec → Vec) : (s.modVec k v f).clk = s.clk := rfl
@[simp] theorem State.modVec_mgt (s : State) (k v : Nat) (f : Vec → Vec) : (s.modVec k v f).mgt = s.mgt := rfl
@[simp] theorem State.modVec_coh (s : State) (k v : Nat) (f : Vec → Vec) : (s.modVec k v f).coh = s.coh := rfl
@[simp] theorem State.modVec_fab (s : State) (k v : Nat) (f : Vec → Vec) : (s.modVec k v f).fab = s.fab := rfl
@[simp] theorem State.modVec_mem (s : State) (k v : Nat) (f : Vec → Vec) : (s.modVec k v f).mem = s.mem := rfl
@[simp] theorem State.modVec_sels (s : State) (k v : Nat) (f : Vec → Vec) : (s.modVec k v f).sels = s.sels := rfl
@[simp] theorem State.modVec_out (s : State) (k v : Nat) (f : Vec → Vec) : (s.modVec k v f).out = s.out := rfl
@[simp] theorem State.modVec_freeCtr (s : State) (k v : Nat) (f : Vec → Vec) : (s.modVec k v f).freeCtr = s.freeCtr := rfl
@[simp] theorem State.setSlot_pending (s : State) (n : Nat) (v : PlanSlot) : (s.setSlot n v).pending = s.pending := rfl
@[simp] theorem State.setSlot_time (s : State) (n : Nat) (v : PlanSlot) : (s.setSlot n v).time = s.time := rfl
@[simp] theorem State.setSlot_twins (s : State) (n : Nat) (v : PlanSlot) : (s.setSlot n v).twins = s.twins := rfl
@[simp] theorem State.setSlot_ctxs (s : State) (n : Nat) (v : PlanSlot) : (s.setSlot n v).ctxs = s.ctxs := rfl
@[simp] theorem State.setSlot_queues (s : State) (n : Nat) (v : PlanSlot) : (s.setSlot n v).queues = s.queues := rfl
@[simp] theorem State.setSlot_fences (s : State) (n : Nat) (v : PlanSlot) : (s.setSlot n v).fences = s.fences := rfl
@[simp] theorem State.setSlot_objs (s : State) (n : Nat) (v : PlanSlot) : (s.setSlot n v).objs = s.objs := rfl
@[simp] theorem State.setSlot_xlt (s : State) (n : Nat) (v : PlanSlot) : (s.setSlot n v).xlt = s.xlt := rfl
@[simp] theorem State.setSlot_ports (s : State) (n : Nat) (v : PlanSlot) : (s.setSlot n v).ports = s.ports := rfl
@[simp] theorem State.setSlot_funcs (s : State) (n : Nat) (v : PlanSlot) : (s.setSlot n v).funcs = s.funcs := rfl
@[simp] theorem State.setSlot_irq (s : State) (n : Nat) (v : PlanSlot) : (s.setSlot n v).irq = s.irq := rfl
@[simp] theorem State.setSlot_engines (s : State) (n : Nat) (v : PlanSlot) : (s.setSlot n v).engines = s.engines := rfl
@[simp] theorem State.setSlot_rst (s : State) (n : Nat) (v : PlanSlot) : (s.setSlot n v).rst = s.rst := rfl
@[simp] theorem State.setSlot_clk (s : State) (n : Nat) (v : PlanSlot) : (s.setSlot n v).clk = s.clk := rfl
@[simp] theorem State.setSlot_mgt (s : State) (n : Nat) (v : PlanSlot) : (s.setSlot n v).mgt = s.mgt := rfl
@[simp] theorem State.setSlot_coh (s : State) (n : Nat) (v : PlanSlot) : (s.setSlot n v).coh = s.coh := rfl
@[simp] theorem State.setSlot_fab (s : State) (n : Nat) (v : PlanSlot) : (s.setSlot n v).fab = s.fab := rfl
@[simp] theorem State.setSlot_mem (s : State) (n : Nat) (v : PlanSlot) : (s.setSlot n v).mem = s.mem := rfl
@[simp] theorem State.setSlot_sels (s : State) (n : Nat) (v : PlanSlot) : (s.setSlot n v).sels = s.sels := rfl
@[simp] theorem State.setSlot_out (s : State) (n : Nat) (v : PlanSlot) : (s.setSlot n v).out = s.out := rfl
@[simp] theorem State.setSlot_freeCtr (s : State) (n : Nat) (v : PlanSlot) : (s.setSlot n v).freeCtr = s.freeCtr := rfl
@[simp] theorem State.modSlot_pending (s : State) (n : Nat) (f : PlanSlot → PlanSlot) : (s.modSlot n f).pending = s.pending := rfl
@[simp] theorem State.modSlot_time (s : State) (n : Nat) (f : PlanSlot → PlanSlot) : (s.modSlot n f).time = s.time := rfl
@[simp] theorem State.modSlot_twins (s : State) (n : Nat) (f : PlanSlot → PlanSlot) : (s.modSlot n f).twins = s.twins := rfl
@[simp] theorem State.modSlot_ctxs (s : State) (n : Nat) (f : PlanSlot → PlanSlot) : (s.modSlot n f).ctxs = s.ctxs := rfl
@[simp] theorem State.modSlot_queues (s : State) (n : Nat) (f : PlanSlot → PlanSlot) : (s.modSlot n f).queues = s.queues := rfl
@[simp] theorem State.modSlot_fences (s : State) (n : Nat) (f : PlanSlot → PlanSlot) : (s.modSlot n f).fences = s.fences := rfl
@[simp] theorem State.modSlot_objs (s : State) (n : Nat) (f : PlanSlot → PlanSlot) : (s.modSlot n f).objs = s.objs := rfl
@[simp] theorem State.modSlot_xlt (s : State) (n : Nat) (f : PlanSlot → PlanSlot) : (s.modSlot n f).xlt = s.xlt := rfl
@[simp] theorem State.modSlot_ports (s : State) (n : Nat) (f : PlanSlot → PlanSlot) : (s.modSlot n f).ports = s.ports := rfl
@[simp] theorem State.modSlot_funcs (s : State) (n : Nat) (f : PlanSlot → PlanSlot) : (s.modSlot n f).funcs = s.funcs := rfl
@[simp] theorem State.modSlot_irq (s : State) (n : Nat) (f : PlanSlot → PlanSlot) : (s.modSlot n f).irq = s.irq := rfl
@[simp] theorem State.modSlot_engines (s : State) (n : Nat) (f : PlanSlot → PlanSlot) : (s.modSlot n f).engines = s.engines := rfl
@[simp] theorem State.modSlot_rst (s : State) (n : Nat) (f : PlanSlot → PlanSlot) : (s.modSlot n f).rst = s.rst := rfl
@[simp] theorem State.modSlot_clk (s : State) (n : Nat) (f : PlanSlot → PlanSlot) : (s.modSlot n f).clk = s.clk := rfl
@[simp] theorem State.modSlot_mgt (s : State) (n : Nat) (f : PlanSlot → PlanSlot) : (s.modSlot n f).mgt = s.mgt := rfl
@[simp] theorem State.modSlot_coh (s : State) (n : Nat) (f : PlanSlot → PlanSlot) : (s.modSlot n f).coh = s.coh := rfl
@[simp] theorem State.modSlot_fab (s : State) (n : Nat) (f : PlanSlot → PlanSlot) : (s.modSlot n f).fab = s.fab := rfl
@[simp] theorem State.modSlot_mem (s : State) (n : Nat) (f : PlanSlot → PlanSlot) : (s.modSlot n f).mem = s.mem := rfl
@[simp] theorem State.modSlot_sels (s : State) (n : Nat) (f : PlanSlot → PlanSlot) : (s.modSlot n f).sels = s.sels := rfl
@[simp] theorem State.modSlot_out (s : State) (n : Nat) (f : PlanSlot → PlanSlot) : (s.modSlot n f).out = s.out := rfl
@[simp] theorem State.modSlot_freeCtr (s : State) (n : Nat) (f : PlanSlot → PlanSlot) : (s.modSlot n f).freeCtr = s.freeCtr := rfl
@[simp] theorem State.modEngine_pending (s : State) (n : Nat) (f : Engine → Engine) : (s.modEngine n f).pending = s.pending := rfl
@[simp] theorem State.modEngine_time (s : State) (n : Nat) (f : Engine → Engine) : (s.modEngine n f).time = s.time := rfl
@[simp] theorem State.modEngine_twins (s : State) (n : Nat) (f : Engine → Engine) : (s.modEngine n f).twins = s.twins := rfl
@[simp] theorem State.modEngine_ctxs (s : State) (n : Nat) (f : Engine → Engine) : (s.modEngine n f).ctxs = s.ctxs := rfl
@[simp] theorem State.modEngine_queues (s : State) (n : Nat) (f : Engine → Engine) : (s.modEngine n f).queues = s.queues := rfl
@[simp] theorem State.modEngine_fences (s : State) (n : Nat) (f : Engine → Engine) : (s.modEngine n f).fences = s.fences := rfl
@[simp] theorem State.modEngine_objs (s : State) (n : Nat) (f : Engine → Engine) : (s.modEngine n f).objs = s.objs := rfl
@[simp] theorem State.modEngine_xlt (s : State) (n : Nat) (f : Engine → Engine) : (s.modEngine n f).xlt = s.xlt := rfl
@[simp] theorem State.modEngine_ports (s : State) (n : Nat) (f : Engine → Engine) : (s.modEngine n f).ports = s.ports := rfl
@[simp] theorem State.modEngine_funcs (s : State) (n : Nat) (f : Engine → Engine) : (s.modEngine n f).funcs = s.funcs := rfl
@[simp] theorem State.modEngine_irq (s : State) (n : Nat) (f : Engine → Engine) : (s.modEngine n f).irq = s.irq := rfl
@[simp] theorem State.modEngine_plan (s : State) (n : Nat) (f : Engine → Engine) : (s.modEngine n f).plan = s.plan := rfl
@[simp] theorem State.modEngine_rst (s : State) (n : Nat) (f : Engine → Engine) : (s.modEngine n f).rst = s.rst := rfl
@[simp] theorem State.modEngine_clk (s : State) (n : Nat) (f : Engine → Engine) : (s.modEngine n f).clk = s.clk := rfl
@[simp] theorem State.modEngine_mgt (s : State) (n : Nat) (f : Engine → Engine) : (s.modEngine n f).mgt = s.mgt := rfl
@[simp] theorem State.modEngine_coh (s : State) (n : Nat) (f : Engine → Engine) : (s.modEngine n f).coh = s.coh := rfl
@[simp] theorem State.modEngine_fab (s : State) (n : Nat) (f : Engine → Engine) : (s.modEngine n f).fab = s.fab := rfl
@[simp] theorem State.modEngine_mem (s : State) (n : Nat) (f : Engine → Engine) : (s.modEngine n f).mem = s.mem := rfl
@[simp] theorem State.modEngine_sels (s : State) (n : Nat) (f : Engine → Engine) : (s.modEngine n f).sels = s.sels := rfl
@[simp] theorem State.modEngine_out (s : State) (n : Nat) (f : Engine → Engine) : (s.modEngine n f).out = s.out := rfl
@[simp] theorem State.modEngine_freeCtr (s : State) (n : Nat) (f : Engine → Engine) : (s.modEngine n f).freeCtr = s.freeCtr := rfl
@[simp] theorem State.mapEngines_pending (s : State) (g : Engine → Engine) : (s.mapEngines g).pending = s.pending := rfl
@[simp] theorem State.mapEngines_time (s : State) (g : Engine → Engine) : (s.mapEngines g).time = s.time := rfl
@[simp] theorem State.mapEngines_twins (s : State) (g : Engine → Engine) : (s.mapEngines g).twins = s.twins := rfl
@[simp] theorem State.mapEngines_ctxs (s : State) (g : Engine → Engine) : (s.mapEngines g).ctxs = s.ctxs := rfl
@[simp] theorem State.mapEngines_queues (s : State) (g : Engine → Engine) : (s.mapEngines g).queues = s.queues := rfl
@[simp] theorem State.mapEngines_fences (s : State) (g : Engine → Engine) : (s.mapEngines g).fences = s.fences := rfl
@[simp] theorem State.mapEngines_objs (s : State) (g : Engine → Engine) : (s.mapEngines g).objs = s.objs := rfl
@[simp] theorem State.mapEngines_xlt (s : State) (g : Engine → Engine) : (s.mapEngines g).xlt = s.xlt := rfl
@[simp] theorem State.mapEngines_ports (s : State) (g : Engine → Engine) : (s.mapEngines g).ports = s.ports := rfl
@[simp] theorem State.mapEngines_funcs (s : State) (g : Engine → Engine) : (s.mapEngines g).funcs = s.funcs := rfl
@[simp] theorem State.mapEngines_irq (s : State) (g : Engine → Engine) : (s.mapEngines g).irq = s.irq := rfl
@[simp] theorem State.mapEngines_plan (s : State) (g : Engine → Engine) : (s.mapEngines g).plan = s.plan := rfl
@[simp] theorem State.mapEngines_rst (s : State) (g : Engine → Engine) : (s.mapEngines g).rst = s.rst := rfl
@[simp] theorem State.mapEngines_clk (s : State) (g : Engine → Engine) : (s.mapEngines g).clk = s.clk := rfl
@[simp] theorem State.mapEngines_mgt (s : State) (g : Engine → Engine) : (s.mapEngines g).mgt = s.mgt := rfl
@[simp] theorem State.mapEngines_coh (s : State) (g : Engine → Engine) : (s.mapEngines g).coh = s.coh := rfl
@[simp] theorem State.mapEngines_fab (s : State) (g : Engine → Engine) : (s.mapEngines g).fab = s.fab := rfl
@[simp] theorem State.mapEngines_mem (s : State) (g : Engine → Engine) : (s.mapEngines g).mem = s.mem := rfl
@[simp] theorem State.mapEngines_sels (s : State) (g : Engine → Engine) : (s.mapEngines g).sels = s.sels := rfl
@[simp] theorem State.mapEngines_out (s : State) (g : Engine → Engine) : (s.mapEngines g).out = s.out := rfl
@[simp] theorem State.mapEngines_freeCtr (s : State) (g : Engine → Engine) : (s.mapEngines g).freeCtr = s.freeCtr := rfl
@[simp] theorem State.modCd_pending (s : State) (n : Nat) (f : Cd → Cd) : (s.modCd n f).pending = s.pending := rfl
@[simp] theorem State.modCd_time (s : State) (n : Nat) (f : Cd → Cd) : (s.modCd n f).time = s.time := rfl
@[simp] theorem State.modCd_twins (s : State) (n : Nat) (f : Cd → Cd) : (s.modCd n f).twins = s.twins := rfl
@[simp] theorem State.modCd_ctxs (s : State) (n : Nat) (f : Cd → Cd) : (s.modCd n f).ctxs = s.ctxs := rfl
@[simp] theorem State.modCd_queues (s : State) (n : Nat) (f : Cd → Cd) : (s.modCd n f).queues = s.queues := rfl
@[simp] theorem State.modCd_fences (s : State) (n : Nat) (f : Cd → Cd) : (s.modCd n f).fences = s.fences := rfl
@[simp] theorem State.modCd_objs (s : State) (n : Nat) (f : Cd → Cd) : (s.modCd n f).objs = s.objs := rfl
@[simp] theorem State.modCd_xlt (s : State) (n : Nat) (f : Cd → Cd) : (s.modCd n f).xlt = s.xlt := rfl
@[simp] theorem State.modCd_ports (s : State) (n : Nat) (f : Cd → Cd) : (s.modCd n f).ports = s.ports := rfl
@[simp] theorem State.modCd_funcs (s : State) (n : Nat) (f : Cd → Cd) : (s.modCd n f).funcs = s.funcs := rfl
@[simp] theorem State.modCd_irq (s : State) (n : Nat) (f : Cd → Cd) : (s.modCd n f).irq = s.irq := rfl
@[simp] theorem State.modCd_plan (s : State) (n : Nat) (f : Cd → Cd) : (s.modCd n f).plan = s.plan := rfl
@[simp] theorem State.modCd_engines (s : State) (n : Nat) (f : Cd → Cd) : (s.modCd n f).engines = s.engines := rfl
@[simp] theorem State.modCd_clk (s : State) (n : Nat) (f : Cd → Cd) : (s.modCd n f).clk = s.clk := rfl
@[simp] theorem State.modCd_mgt (s : State) (n : Nat) (f : Cd → Cd) : (s.modCd n f).mgt = s.mgt := rfl
@[simp] theorem State.modCd_coh (s : State) (n : Nat) (f : Cd → Cd) : (s.modCd n f).coh = s.coh := rfl
@[simp] theorem State.modCd_fab (s : State) (n : Nat) (f : Cd → Cd) : (s.modCd n f).fab = s.fab := rfl
@[simp] theorem State.modCd_mem (s : State) (n : Nat) (f : Cd → Cd) : (s.modCd n f).mem = s.mem := rfl
@[simp] theorem State.modCd_sels (s : State) (n : Nat) (f : Cd → Cd) : (s.modCd n f).sels = s.sels := rfl
@[simp] theorem State.modCd_out (s : State) (n : Nat) (f : Cd → Cd) : (s.modCd n f).out = s.out := rfl
@[simp] theorem State.modCd_freeCtr (s : State) (n : Nat) (f : Cd → Cd) : (s.modCd n f).freeCtr = s.freeCtr := rfl
@[simp] theorem State.advanceGen_pending (s : State) (n : Nat) : (s.advanceGen n).pending = s.pending := rfl
@[simp] theorem State.advanceGen_time (s : State) (n : Nat) : (s.advanceGen n).time = s.time := rfl
@[simp] theorem State.advanceGen_twins (s : State) (n : Nat) : (s.advanceGen n).twins = s.twins := rfl
@[simp] theorem State.advanceGen_ctxs (s : State) (n : Nat) : (s.advanceGen n).ctxs = s.ctxs := rfl
@[simp] theorem State.advanceGen_queues (s : State) (n : Nat) : (s.advanceGen n).queues = s.queues := rfl
@[simp] theorem State.advanceGen_fences (s : State) (n : Nat) : (s.advanceGen n).fences = s.fences := rfl
@[simp] theorem State.advanceGen_objs (s : State) (n : Nat) : (s.advanceGen n).objs = s.objs := rfl
@[simp] theorem State.advanceGen_xlt (s : State) (n : Nat) : (s.advanceGen n).xlt = s.xlt := rfl
@[simp] theorem State.advanceGen_ports (s : State) (n : Nat) : (s.advanceGen n).ports = s.ports := rfl
@[simp] theorem State.advanceGen_funcs (s : State) (n : Nat) : (s.advanceGen n).funcs = s.funcs := rfl
@[simp] theorem State.advanceGen_irq (s : State) (n : Nat) : (s.advanceGen n).irq = s.irq := rfl
@[simp] theorem State.advanceGen_plan (s : State) (n : Nat) : (s.advanceGen n).plan = s.plan := rfl
@[simp] theorem State.advanceGen_engines (s : State) (n : Nat) : (s.advanceGen n).engines = s.engines := rfl
@[simp] theorem State.advanceGen_clk (s : State) (n : Nat) : (s.advanceGen n).clk = s.clk := rfl
@[simp] theorem State.advanceGen_mgt (s : State) (n : Nat) : (s.advanceGen n).mgt = s.mgt := rfl
@[simp] theorem State.advanceGen_coh (s : State) (n : Nat) : (s.advanceGen n).coh = s.coh := rfl
@[simp] theorem State.advanceGen_fab (s : State) (n : Nat) : (s.advanceGen n).fab = s.fab := rfl
@[simp] theorem State.advanceGen_mem (s : State) (n : Nat) : (s.advanceGen n).mem = s.mem := rfl
@[simp] theorem State.advanceGen_sels (s : State) (n : Nat) : (s.advanceGen n).sels = s.sels := rfl
@[simp] theorem State.advanceGen_out (s : State) (n : Nat) : (s.advanceGen n).out = s.out := rfl
@[simp] theorem State.advanceGen_freeCtr (s : State) (n : Nat) : (s.advanceGen n).freeCtr = s.freeCtr := rfl
@[simp] theorem State.modPlan_pending (s : State) (f : Plan → Plan) : (s.modPlan f).pending = s.pending := rfl
@[simp] theorem State.modPlan_time (s : State) (f : Plan → Plan) : (s.modPlan f).time = s.time := rfl
@[simp] theorem State.modPlan_twins (s : State) (f : Plan → Plan) : (s.modPlan f).twins = s.twins := rfl
@[simp] theorem State.modPlan_ctxs (s : State) (f : Plan → Plan) : (s.modPlan f).ctxs = s.ctxs := rfl
@[simp] theorem State.modPlan_queues (s : State) (f : Plan → Plan) : (s.modPlan f).queues = s.queues := rfl
@[simp] theorem State.modPlan_fences (s : State) (f : Plan → Plan) : (s.modPlan f).fences = s.fences := rfl
@[simp] theorem State.modPlan_objs (s : State) (f : Plan → Plan) : (s.modPlan f).objs = s.objs := rfl
@[simp] theorem State.modPlan_xlt (s : State) (f : Plan → Plan) : (s.modPlan f).xlt = s.xlt := rfl
@[simp] theorem State.modPlan_ports (s : State) (f : Plan → Plan) : (s.modPlan f).ports = s.ports := rfl
@[simp] theorem State.modPlan_funcs (s : State) (f : Plan → Plan) : (s.modPlan f).funcs = s.funcs := rfl
@[simp] theorem State.modPlan_irq (s : State) (f : Plan → Plan) : (s.modPlan f).irq = s.irq := rfl
@[simp] theorem State.modPlan_plan (s : State) (f : Plan → Plan) : (s.modPlan f).plan = f s.plan := rfl
@[simp] theorem State.modPlan_engines (s : State) (f : Plan → Plan) : (s.modPlan f).engines = s.engines := rfl
@[simp] theorem State.modPlan_rst (s : State) (f : Plan → Plan) : (s.modPlan f).rst = s.rst := rfl
@[simp] theorem State.modPlan_clk (s : State) (f : Plan → Plan) : (s.modPlan f).clk = s.clk := rfl
@[simp] theorem State.modPlan_mgt (s : State) (f : Plan → Plan) : (s.modPlan f).mgt = s.mgt := rfl
@[simp] theorem State.modPlan_coh (s : State) (f : Plan → Plan) : (s.modPlan f).coh = s.coh := rfl
@[simp] theorem State.modPlan_fab (s : State) (f : Plan → Plan) : (s.modPlan f).fab = s.fab := rfl
@[simp] theorem State.modPlan_mem (s : State) (f : Plan → Plan) : (s.modPlan f).mem = s.mem := rfl
@[simp] theorem State.modPlan_sels (s : State) (f : Plan → Plan) : (s.modPlan f).sels = s.sels := rfl
@[simp] theorem State.modPlan_out (s : State) (f : Plan → Plan) : (s.modPlan f).out = s.out := rfl
@[simp] theorem State.modPlan_freeCtr (s : State) (f : Plan → Plan) : (s.modPlan f).freeCtr = s.freeCtr := rfl
@[simp] theorem State.modXlt_pending (s : State) (f : Xlt → Xlt) : (s.modXlt f).pending = s.pending := rfl
@[simp] theorem State.modXlt_time (s : State) (f : Xlt → Xlt) : (s.modXlt f).time = s.time := rfl
@[simp] theorem State.modXlt_twins (s : State) (f : Xlt → Xlt) : (s.modXlt f).twins = s.twins := rfl
@[simp] theorem State.modXlt_ctxs (s : State) (f : Xlt → Xlt) : (s.modXlt f).ctxs = s.ctxs := rfl
@[simp] theorem State.modXlt_queues (s : State) (f : Xlt → Xlt) : (s.modXlt f).queues = s.queues := rfl
@[simp] theorem State.modXlt_fences (s : State) (f : Xlt → Xlt) : (s.modXlt f).fences = s.fences := rfl
@[simp] theorem State.modXlt_objs (s : State) (f : Xlt → Xlt) : (s.modXlt f).objs = s.objs := rfl
@[simp] theorem State.modXlt_xlt (s : State) (f : Xlt → Xlt) : (s.modXlt f).xlt = f s.xlt := rfl
@[simp] theorem State.modXlt_ports (s : State) (f : Xlt → Xlt) : (s.modXlt f).ports = s.ports := rfl
@[simp] theorem State.modXlt_funcs (s : State) (f : Xlt → Xlt) : (s.modXlt f).funcs = s.funcs := rfl
@[simp] theorem State.modXlt_irq (s : State) (f : Xlt → Xlt) : (s.modXlt f).irq = s.irq := rfl
@[simp] theorem State.modXlt_plan (s : State) (f : Xlt → Xlt) : (s.modXlt f).plan = s.plan := rfl
@[simp] theorem State.modXlt_engines (s : State) (f : Xlt → Xlt) : (s.modXlt f).engines = s.engines := rfl
@[simp] theorem State.modXlt_rst (s : State) (f : Xlt → Xlt) : (s.modXlt f).rst = s.rst := rfl
@[simp] theorem State.modXlt_clk (s : State) (f : Xlt → Xlt) : (s.modXlt f).clk = s.clk := rfl
@[simp] theorem State.modXlt_mgt (s : State) (f : Xlt → Xlt) : (s.modXlt f).mgt = s.mgt := rfl
@[simp] theorem State.modXlt_coh (s : State) (f : Xlt → Xlt) : (s.modXlt f).coh = s.coh := rfl
@[simp] theorem State.modXlt_fab (s : State) (f : Xlt → Xlt) : (s.modXlt f).fab = s.fab := rfl
@[simp] theorem State.modXlt_mem (s : State) (f : Xlt → Xlt) : (s.modXlt f).mem = s.mem := rfl
@[simp] theorem State.modXlt_sels (s : State) (f : Xlt → Xlt) : (s.modXlt f).sels = s.sels := rfl
@[simp] theorem State.modXlt_out (s : State) (f : Xlt → Xlt) : (s.modXlt f).out = s.out := rfl
@[simp] theorem State.modXlt_freeCtr (s : State) (f : Xlt → Xlt) : (s.modXlt f).freeCtr = s.freeCtr := rfl
@[simp] theorem State.modClk_pending (s : State) (f : Clk → Clk) : (s.modClk f).pending = s.pending := rfl
@[simp] theorem State.modClk_time (s : State) (f : Clk → Clk) : (s.modClk f).time = s.time := rfl
@[simp] theorem State.modClk_twins (s : State) (f : Clk → Clk) : (s.modClk f).twins = s.twins := rfl
@[simp] theorem State.modClk_ctxs (s : State) (f : Clk → Clk) : (s.modClk f).ctxs = s.ctxs := rfl
@[simp] theorem State.modClk_queues (s : State) (f : Clk → Clk) : (s.modClk f).queues = s.queues := rfl
@[simp] theorem State.modClk_fences (s : State) (f : Clk → Clk) : (s.modClk f).fences = s.fences := rfl
@[simp] theorem State.modClk_objs (s : State) (f : Clk → Clk) : (s.modClk f).objs = s.objs := rfl
@[simp] theorem State.modClk_xlt (s : State) (f : Clk → Clk) : (s.modClk f).xlt = s.xlt := rfl
@[simp] theorem State.modClk_ports (s : State) (f : Clk → Clk) : (s.modClk f).ports = s.ports := rfl
@[simp] theorem State.modClk_funcs (s : State) (f : Clk → Clk) : (s.modClk f).funcs = s.funcs := rfl
@[simp] theorem State.modClk_irq (s : State) (f : Clk → Clk) : (s.modClk f).irq = s.irq := rfl
@[simp] theorem State.modClk_plan (s : State) (f : Clk → Clk) : (s.modClk f).plan = s.plan := rfl
@[simp] theorem State.modClk_engines (s : State) (f : Clk → Clk) : (s.modClk f).engines = s.engines := rfl
@[simp] theorem State.modClk_rst (s : State) (f : Clk → Clk) : (s.modClk f).rst = s.rst := rfl
@[simp] theorem State.modClk_clk (s : State) (f : Clk → Clk) : (s.modClk f).clk = f s.clk := rfl
@[simp] theorem State.modClk_mgt (s : State) (f : Clk → Clk) : (s.modClk f).mgt = s.mgt := rfl
@[simp] theorem State.modClk_coh (s : State) (f : Clk → Clk) : (s.modClk f).coh = s.coh := rfl
@[simp] theorem State.modClk_fab (s : State) (f : Clk → Clk) : (s.modClk f).fab = s.fab := rfl
@[simp] theorem State.modClk_mem (s : State) (f : Clk → Clk) : (s.modClk f).mem = s.mem := rfl
@[simp] theorem State.modClk_sels (s : State) (f : Clk → Clk) : (s.modClk f).sels = s.sels := rfl
@[simp] theorem State.modClk_out (s : State) (f : Clk → Clk) : (s.modClk f).out = s.out := rfl
@[simp] theorem State.modClk_freeCtr (s : State) (f : Clk → Clk) : (s.modClk f).freeCtr = s.freeCtr := rfl
@[simp] theorem State.modRst_pending (s : State) (f : Rst → Rst) : (s.modRst f).pending = s.pending := rfl
@[simp] theorem State.modRst_time (s : State) (f : Rst → Rst) : (s.modRst f).time = s.time := rfl
@[simp] theorem State.modRst_twins (s : State) (f : Rst → Rst) : (s.modRst f).twins = s.twins := rfl
@[simp] theorem State.modRst_ctxs (s : State) (f : Rst → Rst) : (s.modRst f).ctxs = s.ctxs := rfl
@[simp] theorem State.modRst_queues (s : State) (f : Rst → Rst) : (s.modRst f).queues = s.queues := rfl
@[simp] theorem State.modRst_fences (s : State) (f : Rst → Rst) : (s.modRst f).fences = s.fences := rfl
@[simp] theorem State.modRst_objs (s : State) (f : Rst → Rst) : (s.modRst f).objs = s.objs := rfl
@[simp] theorem State.modRst_xlt (s : State) (f : Rst → Rst) : (s.modRst f).xlt = s.xlt := rfl
@[simp] theorem State.modRst_ports (s : State) (f : Rst → Rst) : (s.modRst f).ports = s.ports := rfl
@[simp] theorem State.modRst_funcs (s : State) (f : Rst → Rst) : (s.modRst f).funcs = s.funcs := rfl
@[simp] theorem State.modRst_irq (s : State) (f : Rst → Rst) : (s.modRst f).irq = s.irq := rfl
@[simp] theorem State.modRst_plan (s : State) (f : Rst → Rst) : (s.modRst f).plan = s.plan := rfl
@[simp] theorem State.modRst_engines (s : State) (f : Rst → Rst) : (s.modRst f).engines = s.engines := rfl
@[simp] theorem State.modRst_rst (s : State) (f : Rst → Rst) : (s.modRst f).rst = f s.rst := rfl
@[simp] theorem State.modRst_clk (s : State) (f : Rst → Rst) : (s.modRst f).clk = s.clk := rfl
@[simp] theorem State.modRst_mgt (s : State) (f : Rst → Rst) : (s.modRst f).mgt = s.mgt := rfl
@[simp] theorem State.modRst_coh (s : State) (f : Rst → Rst) : (s.modRst f).coh = s.coh := rfl
@[simp] theorem State.modRst_fab (s : State) (f : Rst → Rst) : (s.modRst f).fab = s.fab := rfl
@[simp] theorem State.modRst_mem (s : State) (f : Rst → Rst) : (s.modRst f).mem = s.mem := rfl
@[simp] theorem State.modRst_sels (s : State) (f : Rst → Rst) : (s.modRst f).sels = s.sels := rfl
@[simp] theorem State.modRst_out (s : State) (f : Rst → Rst) : (s.modRst f).out = s.out := rfl
@[simp] theorem State.modRst_freeCtr (s : State) (f : Rst → Rst) : (s.modRst f).freeCtr = s.freeCtr := rfl
@[simp] theorem State.modMgt_pending (s : State) (f : Mgt → Mgt) : (s.modMgt f).pending = s.pending := rfl
@[simp] theorem State.modMgt_time (s : State) (f : Mgt → Mgt) : (s.modMgt f).time = s.time := rfl
@[simp] theorem State.modMgt_twins (s : State) (f : Mgt → Mgt) : (s.modMgt f).twins = s.twins := rfl
@[simp] theorem State.modMgt_ctxs (s : State) (f : Mgt → Mgt) : (s.modMgt f).ctxs = s.ctxs := rfl
@[simp] theorem State.modMgt_queues (s : State) (f : Mgt → Mgt) : (s.modMgt f).queues = s.queues := rfl
@[simp] theorem State.modMgt_fences (s : State) (f : Mgt → Mgt) : (s.modMgt f).fences = s.fences := rfl
@[simp] theorem State.modMgt_objs (s : State) (f : Mgt → Mgt) : (s.modMgt f).objs = s.objs := rfl
@[simp] theorem State.modMgt_xlt (s : State) (f : Mgt → Mgt) : (s.modMgt f).xlt = s.xlt := rfl
@[simp] theorem State.modMgt_ports (s : State) (f : Mgt → Mgt) : (s.modMgt f).ports = s.ports := rfl
@[simp] theorem State.modMgt_funcs (s : State) (f : Mgt → Mgt) : (s.modMgt f).funcs = s.funcs := rfl
@[simp] theorem State.modMgt_irq (s : State) (f : Mgt → Mgt) : (s.modMgt f).irq = s.irq := rfl
@[simp] theorem State.modMgt_plan (s : State) (f : Mgt → Mgt) : (s.modMgt f).plan = s.plan := rfl
@[simp] theorem State.modMgt_engines (s : State) (f : Mgt → Mgt) : (s.modMgt f).engines = s.engines := rfl
@[simp] theorem State.modMgt_rst (s : State) (f : Mgt → Mgt) : (s.modMgt f).rst = s.rst := rfl
@[simp] theorem State.modMgt_clk (s : State) (f : Mgt → Mgt) : (s.modMgt f).clk = s.clk := rfl
@[simp] theorem State.modMgt_mgt (s : State) (f : Mgt → Mgt) : (s.modMgt f).mgt = f s.mgt := rfl
@[simp] theorem State.modMgt_coh (s : State) (f : Mgt → Mgt) : (s.modMgt f).coh = s.coh := rfl
@[simp] theorem State.modMgt_fab (s : State) (f : Mgt → Mgt) : (s.modMgt f).fab = s.fab := rfl
@[simp] theorem State.modMgt_mem (s : State) (f : Mgt → Mgt) : (s.modMgt f).mem = s.mem := rfl
@[simp] theorem State.modMgt_sels (s : State) (f : Mgt → Mgt) : (s.modMgt f).sels = s.sels := rfl
@[simp] theorem State.modMgt_out (s : State) (f : Mgt → Mgt) : (s.modMgt f).out = s.out := rfl
@[simp] theorem State.modMgt_freeCtr (s : State) (f : Mgt → Mgt) : (s.modMgt f).freeCtr = s.freeCtr := rfl
@[simp] theorem State.modIrq_pending (s : State) (f : Irq → Irq) : (s.modIrq f).pending = s.pending := rfl
@[simp] theorem State.modIrq_time (s : State) (f : Irq → Irq) : (s.modIrq f).time = s.time := rfl
@[simp] theorem State.modIrq_twins (s : State) (f : Irq → Irq) : (s.modIrq f).twins = s.twins := rfl
@[simp] theorem State.modIrq_ctxs (s : State) (f : Irq → Irq) : (s.modIrq f).ctxs = s.ctxs := rfl
@[simp] theorem State.modIrq_queues (s : State) (f : Irq → Irq) : (s.modIrq f).queues = s.queues := rfl
@[simp] theorem State.modIrq_fences (s : State) (f : Irq → Irq) : (s.modIrq f).fences = s.fences := rfl
@[simp] theorem State.modIrq_objs (s : State) (f : Irq → Irq) : (s.modIrq f).objs = s.objs := rfl
@[simp] theorem State.modIrq_xlt (s : State) (f : Irq → Irq) : (s.modIrq f).xlt = s.xlt := rfl
@[simp] theorem State.modIrq_ports (s : State) (f : Irq → Irq) : (s.modIrq f).ports = s.ports := rfl
@[simp] theorem State.modIrq_funcs (s : State) (f : Irq → Irq) : (s.modIrq f).funcs = s.funcs := rfl
@[simp] theorem State.modIrq_irq (s : State) (f : Irq → Irq) : (s.modIrq f).irq = f s.irq := rfl
@[simp] theorem State.modIrq_plan (s : State) (f : Irq → Irq) : (s.modIrq f).plan = s.plan := rfl
@[simp] theorem State.modIrq_engines (s : State) (f : Irq → Irq) : (s.modIrq f).engines = s.engines := rfl
@[simp] theorem State.modIrq_rst (s : State) (f : Irq → Irq) : (s.modIrq f).rst = s.rst := rfl
@[simp] theorem State.modIrq_clk (s : State) (f : Irq → Irq) : (s.modIrq f).clk = s.clk := rfl
@[simp] theorem State.modIrq_mgt (s : State) (f : Irq → Irq) : (s.modIrq f).mgt = s.mgt := rfl
@[simp] theorem State.modIrq_coh (s : State) (f : Irq → Irq) : (s.modIrq f).coh = s.coh := rfl
@[simp] theorem State.modIrq_fab (s : State) (f : Irq → Irq) : (s.modIrq f).fab = s.fab := rfl
@[simp] theorem State.modIrq_mem (s : State) (f : Irq → Irq) : (s.modIrq f).mem = s.mem := rfl
@[simp] theorem State.modIrq_sels (s : State) (f : Irq → Irq) : (s.modIrq f).sels = s.sels := rfl
@[simp] theorem State.modIrq_out (s : State) (f : Irq → Irq) : (s.modIrq f).out = s.out := rfl
@[simp] theorem State.modIrq_freeCtr (s : State) (f : Irq → Irq) : (s.modIrq f).freeCtr = s.freeCtr := rfl
@[simp] theorem State.modTime_pending (s : State) (f : Time → Time) : (s.modTime f).pending = s.pending := rfl
@[simp] theorem State.modTime_time (s : State) (f : Time → Time) : (s.modTime f).time = f s.time := rfl
@[simp] theorem State.modTime_twins (s : State) (f : Time → Time) : (s.modTime f).twins = s.twins := rfl
@[simp] theorem State.modTime_ctxs (s : State) (f : Time → Time) : (s.modTime f).ctxs = s.ctxs := rfl
@[simp] theorem State.modTime_queues (s : State) (f : Time → Time) : (s.modTime f).queues = s.queues := rfl
@[simp] theorem State.modTime_fences (s : State) (f : Time → Time) : (s.modTime f).fences = s.fences := rfl
@[simp] theorem State.modTime_objs (s : State) (f : Time → Time) : (s.modTime f).objs = s.objs := rfl
@[simp] theorem State.modTime_xlt (s : State) (f : Time → Time) : (s.modTime f).xlt = s.xlt := rfl
@[simp] theorem State.modTime_ports (s : State) (f : Time → Time) : (s.modTime f).ports = s.ports := rfl
@[simp] theorem State.modTime_funcs (s : State) (f : Time → Time) : (s.modTime f).funcs = s.funcs := rfl
@[simp] theorem State.modTime_irq (s : State) (f : Time → Time) : (s.modTime f).irq = s.irq := rfl
@[simp] theorem State.modTime_plan (s : State) (f : Time → Time) : (s.modTime f).plan = s.plan := rfl
@[simp] theorem State.modTime_engines (s : State) (f : Time → Time) : (s.modTime f).engines = s.engines := rfl
@[simp] theorem State.modTime_rst (s : State) (f : Time → Time) : (s.modTime f).rst = s.rst := rfl
@[simp] theorem State.modTime_clk (s : State) (f : Time → Time) : (s.modTime f).clk = s.clk := rfl
@[simp] theorem State.modTime_mgt (s : State) (f : Time → Time) : (s.modTime f).mgt = s.mgt := rfl
@[simp] theorem State.modTime_coh (s : State) (f : Time → Time) : (s.modTime f).coh = s.coh := rfl
@[simp] theorem State.modTime_fab (s : State) (f : Time → Time) : (s.modTime f).fab = s.fab := rfl
@[simp] theorem State.modTime_mem (s : State) (f : Time → Time) : (s.modTime f).mem = s.mem := rfl
@[simp] theorem State.modTime_sels (s : State) (f : Time → Time) : (s.modTime f).sels = s.sels := rfl
@[simp] theorem State.modTime_out (s : State) (f : Time → Time) : (s.modTime f).out = s.out := rfl
@[simp] theorem State.modTime_freeCtr (s : State) (f : Time → Time) : (s.modTime f).freeCtr = s.freeCtr := rfl
@[simp] theorem State.modCoh_pending (s : State) (f : Coh → Coh) : (s.modCoh f).pending = s.pending := rfl
@[simp] theorem State.modCoh_time (s : State) (f : Coh → Coh) : (s.modCoh f).time = s.time := rfl
@[simp] theorem State.modCoh_twins (s : State) (f : Coh → Coh) : (s.modCoh f).twins = s.twins := rfl
@[simp] theorem State.modCoh_ctxs (s : State) (f : Coh → Coh) : (s.modCoh f).ctxs = s.ctxs := rfl
@[simp] theorem State.modCoh_queues (s : State) (f : Coh → Coh) : (s.modCoh f).queues = s.queues := rfl
@[simp] theorem State.modCoh_fences (s : State) (f : Coh → Coh) : (s.modCoh f).fences = s.fences := rfl
@[simp] theorem State.modCoh_objs (s : State) (f : Coh → Coh) : (s.modCoh f).objs = s.objs := rfl
@[simp] theorem State.modCoh_xlt (s : State) (f : Coh → Coh) : (s.modCoh f).xlt = s.xlt := rfl
@[simp] theorem State.modCoh_ports (s : State) (f : Coh → Coh) : (s.modCoh f).ports = s.ports := rfl
@[simp] theorem State.modCoh_funcs (s : State) (f : Coh → Coh) : (s.modCoh f).funcs = s.funcs := rfl
@[simp] theorem State.modCoh_irq (s : State) (f : Coh → Coh) : (s.modCoh f).irq = s.irq := rfl
@[simp] theorem State.modCoh_plan (s : State) (f : Coh → Coh) : (s.modCoh f).plan = s.plan := rfl
@[simp] theorem State.modCoh_engines (s : State) (f : Coh → Coh) : (s.modCoh f).engines = s.engines := rfl
@[simp] theorem State.modCoh_rst (s : State) (f : Coh → Coh) : (s.modCoh f).rst = s.rst := rfl
@[simp] theorem State.modCoh_clk (s : State) (f : Coh → Coh) : (s.modCoh f).clk = s.clk := rfl
@[simp] theorem State.modCoh_mgt (s : State) (f : Coh → Coh) : (s.modCoh f).mgt = s.mgt := rfl
@[simp] theorem State.modCoh_coh (s : State) (f : Coh → Coh) : (s.modCoh f).coh = f s.coh := rfl
@[simp] theorem State.modCoh_fab (s : State) (f : Coh → Coh) : (s.modCoh f).fab = s.fab := rfl
@[simp] theorem State.modCoh_mem (s : State) (f : Coh → Coh) : (s.modCoh f).mem = s.mem := rfl
@[simp] theorem State.modCoh_sels (s : State) (f : Coh → Coh) : (s.modCoh f).sels = s.sels := rfl
@[simp] theorem State.modCoh_out (s : State) (f : Coh → Coh) : (s.modCoh f).out = s.out := rfl
@[simp] theorem State.modCoh_freeCtr (s : State) (f : Coh → Coh) : (s.modCoh f).freeCtr = s.freeCtr := rfl
@[simp] theorem State.modFab_pending (s : State) (f : Fab → Fab) : (s.modFab f).pending = s.pending := rfl
@[simp] theorem State.modFab_time (s : State) (f : Fab → Fab) : (s.modFab f).time = s.time := rfl
@[simp] theorem State.modFab_twins (s : State) (f : Fab → Fab) : (s.modFab f).twins = s.twins := rfl
@[simp] theorem State.modFab_ctxs (s : State) (f : Fab → Fab) : (s.modFab f).ctxs = s.ctxs := rfl
@[simp] theorem State.modFab_queues (s : State) (f : Fab → Fab) : (s.modFab f).queues = s.queues := rfl
@[simp] theorem State.modFab_fences (s : State) (f : Fab → Fab) : (s.modFab f).fences = s.fences := rfl
@[simp] theorem State.modFab_objs (s : State) (f : Fab → Fab) : (s.modFab f).objs = s.objs := rfl
@[simp] theorem State.modFab_xlt (s : State) (f : Fab → Fab) : (s.modFab f).xlt = s.xlt := rfl
@[simp] theorem State.modFab_ports (s : State) (f : Fab → Fab) : (s.modFab f).ports = s.ports := rfl
@[simp] theorem State.modFab_funcs (s : State) (f : Fab → Fab) : (s.modFab f).funcs = s.funcs := rfl
@[simp] theorem State.modFab_irq (s : State) (f : Fab → Fab) : (s.modFab f).irq = s.irq := rfl
@[simp] theorem State.modFab_plan (s : State) (f : Fab → Fab) : (s.modFab f).plan = s.plan := rfl
@[simp] theorem State.modFab_engines (s : State) (f : Fab → Fab) : (s.modFab f).engines = s.engines := rfl
@[simp] theorem State.modFab_rst (s : State) (f : Fab → Fab) : (s.modFab f).rst = s.rst := rfl
@[simp] theorem State.modFab_clk (s : State) (f : Fab → Fab) : (s.modFab f).clk = s.clk := rfl
@[simp] theorem State.modFab_mgt (s : State) (f : Fab → Fab) : (s.modFab f).mgt = s.mgt := rfl
@[simp] theorem State.modFab_coh (s : State) (f : Fab → Fab) : (s.modFab f).coh = s.coh := rfl
@[simp] theorem State.modFab_fab (s : State) (f : Fab → Fab) : (s.modFab f).fab = f s.fab := rfl
@[simp] theorem State.modFab_mem (s : State) (f : Fab → Fab) : (s.modFab f).mem = s.mem := rfl
@[simp] theorem State.modFab_sels (s : State) (f : Fab → Fab) : (s.modFab f).sels = s.sels := rfl
@[simp] theorem State.modFab_out (s : State) (f : Fab → Fab) : (s.modFab f).out = s.out := rfl
@[simp] theorem State.modFab_freeCtr (s : State) (f : Fab → Fab) : (s.modFab f).freeCtr = s.freeCtr := rfl
@[simp] theorem State.setMem_pending (s : State) (m : Mem) : (s.setMem m).pending = s.pending := rfl
@[simp] theorem State.setMem_time (s : State) (m : Mem) : (s.setMem m).time = s.time := rfl
@[simp] theorem State.setMem_twins (s : State) (m : Mem) : (s.setMem m).twins = s.twins := rfl
@[simp] theorem State.setMem_ctxs (s : State) (m : Mem) : (s.setMem m).ctxs = s.ctxs := rfl
@[simp] theorem State.setMem_queues (s : State) (m : Mem) : (s.setMem m).queues = s.queues := rfl
@[simp] theorem State.setMem_fences (s : State) (m : Mem) : (s.setMem m).fences = s.fences := rfl
@[simp] theorem State.setMem_objs (s : State) (m : Mem) : (s.setMem m).objs = s.objs := rfl
@[simp] theorem State.setMem_xlt (s : State) (m : Mem) : (s.setMem m).xlt = s.xlt := rfl
@[simp] theorem State.setMem_ports (s : State) (m : Mem) : (s.setMem m).ports = s.ports := rfl
@[simp] theorem State.setMem_funcs (s : State) (m : Mem) : (s.setMem m).funcs = s.funcs := rfl
@[simp] theorem State.setMem_irq (s : State) (m : Mem) : (s.setMem m).irq = s.irq := rfl
@[simp] theorem State.setMem_plan (s : State) (m : Mem) : (s.setMem m).plan = s.plan := rfl
@[simp] theorem State.setMem_engines (s : State) (m : Mem) : (s.setMem m).engines = s.engines := rfl
@[simp] theorem State.setMem_rst (s : State) (m : Mem) : (s.setMem m).rst = s.rst := rfl
@[simp] theorem State.setMem_clk (s : State) (m : Mem) : (s.setMem m).clk = s.clk := rfl
@[simp] theorem State.setMem_mgt (s : State) (m : Mem) : (s.setMem m).mgt = s.mgt := rfl
@[simp] theorem State.setMem_coh (s : State) (m : Mem) : (s.setMem m).coh = s.coh := rfl
@[simp] theorem State.setMem_fab (s : State) (m : Mem) : (s.setMem m).fab = s.fab := rfl
@[simp] theorem State.setMem_mem (s : State) (m : Mem) : (s.setMem m).mem = m := rfl
@[simp] theorem State.setMem_sels (s : State) (m : Mem) : (s.setMem m).sels = s.sels := rfl
@[simp] theorem State.setMem_out (s : State) (m : Mem) : (s.setMem m).out = s.out := rfl
@[simp] theorem State.setMem_freeCtr (s : State) (m : Mem) : (s.setMem m).freeCtr = s.freeCtr := rfl
@[simp] theorem State.emit_pending (s : State) (o : Out) : (s.emit o).pending = s.pending := rfl
@[simp] theorem State.emit_time (s : State) (o : Out) : (s.emit o).time = s.time := rfl
@[simp] theorem State.emit_twins (s : State) (o : Out) : (s.emit o).twins = s.twins := rfl
@[simp] theorem State.emit_ctxs (s : State) (o : Out) : (s.emit o).ctxs = s.ctxs := rfl
@[simp] theorem State.emit_queues (s : State) (o : Out) : (s.emit o).queues = s.queues := rfl
@[simp] theorem State.emit_fences (s : State) (o : Out) : (s.emit o).fences = s.fences := rfl
@[simp] theorem State.emit_objs (s : State) (o : Out) : (s.emit o).objs = s.objs := rfl
@[simp] theorem State.emit_xlt (s : State) (o : Out) : (s.emit o).xlt = s.xlt := rfl
@[simp] theorem State.emit_ports (s : State) (o : Out) : (s.emit o).ports = s.ports := rfl
@[simp] theorem State.emit_funcs (s : State) (o : Out) : (s.emit o).funcs = s.funcs := rfl
@[simp] theorem State.emit_irq (s : State) (o : Out) : (s.emit o).irq = s.irq := rfl
@[simp] theorem State.emit_plan (s : State) (o : Out) : (s.emit o).plan = s.plan := rfl
@[simp] theorem State.emit_engines (s : State) (o : Out) : (s.emit o).engines = s.engines := rfl
@[simp] theorem State.emit_rst (s : State) (o : Out) : (s.emit o).rst = s.rst := rfl
@[simp] theorem State.emit_clk (s : State) (o : Out) : (s.emit o).clk = s.clk := rfl
@[simp] theorem State.emit_mgt (s : State) (o : Out) : (s.emit o).mgt = s.mgt := rfl
@[simp] theorem State.emit_coh (s : State) (o : Out) : (s.emit o).coh = s.coh := rfl
@[simp] theorem State.emit_fab (s : State) (o : Out) : (s.emit o).fab = s.fab := rfl
@[simp] theorem State.emit_mem (s : State) (o : Out) : (s.emit o).mem = s.mem := rfl
@[simp] theorem State.emit_sels (s : State) (o : Out) : (s.emit o).sels = s.sels := rfl
@[simp] theorem State.emit_out (s : State) (o : Out) : (s.emit o).out = s.out ++ [o] := rfl
@[simp] theorem State.emit_freeCtr (s : State) (o : Out) : (s.emit o).freeCtr = s.freeCtr := rfl
@[simp] theorem State.emits_pending (s : State) (l : List Out) : (s.emits l).pending = s.pending := rfl
@[simp] theorem State.emits_time (s : State) (l : List Out) : (s.emits l).time = s.time := rfl
@[simp] theorem State.emits_twins (s : State) (l : List Out) : (s.emits l).twins = s.twins := rfl
@[simp] theorem State.emits_ctxs (s : State) (l : List Out) : (s.emits l).ctxs = s.ctxs := rfl
@[simp] theorem State.emits_queues (s : State) (l : List Out) : (s.emits l).queues = s.queues := rfl
@[simp] theorem State.emits_fences (s : State) (l : List Out) : (s.emits l).fences = s.fences := rfl
@[simp] theorem State.emits_objs (s : State) (l : List Out) : (s.emits l).objs = s.objs := rfl
@[simp] theorem State.emits_xlt (s : State) (l : List Out) : (s.emits l).xlt = s.xlt := rfl
@[simp] theorem State.emits_ports (s : State) (l : List Out) : (s.emits l).ports = s.ports := rfl
@[simp] theorem State.emits_funcs (s : State) (l : List Out) : (s.emits l).funcs = s.funcs := rfl
@[simp] theorem State.emits_irq (s : State) (l : List Out) : (s.emits l).irq = s.irq := rfl
@[simp] theorem State.emits_plan (s : State) (l : List Out) : (s.emits l).plan = s.plan := rfl
@[simp] theorem State.emits_engines (s : State) (l : List Out) : (s.emits l).engines = s.engines := rfl
@[simp] theorem State.emits_rst (s : State) (l : List Out) : (s.emits l).rst = s.rst := rfl
@[simp] theorem State.emits_clk (s : State) (l : List Out) : (s.emits l).clk = s.clk := rfl
@[simp] theorem State.emits_mgt (s : State) (l : List Out) : (s.emits l).mgt = s.mgt := rfl
@[simp] theorem State.emits_coh (s : State) (l : List Out) : (s.emits l).coh = s.coh := rfl
@[simp] theorem State.emits_fab (s : State) (l : List Out) : (s.emits l).fab = s.fab := rfl
@[simp] theorem State.emits_mem (s : State) (l : List Out) : (s.emits l).mem = s.mem := rfl
@[simp] theorem State.emits_sels (s : State) (l : List Out) : (s.emits l).sels = s.sels := rfl
@[simp] theorem State.emits_out (s : State) (l : List Out) : (s.emits l).out = s.out ++ l := rfl
@[simp] theorem State.emits_freeCtr (s : State) (l : List Out) : (s.emits l).freeCtr = s.freeCtr := rfl

end Sys2Proof.Machine
end

