-- ==== Sys2Proof/Laws/Memory.lean ====
section
/-! SUPPORT. Tables and device memory: every operation keeps the canonical form, a write is read back, and a write leaves every
other byte alone. -/

namespace Sys2Proof

/-- Every listed key is above a bound. -/
theorem Tbl.wf_cons {α : Type} [DecidableEq α] {d : α} {k : Nat} {v : α} {t : Tbl α} :
    Tbl.wf d ((k, v) :: t) = true ↔ v ≠ d ∧ (∀ x ∈ t.head?, k < x.1) ∧ Tbl.wf d t = true := by
  cases t with
  | nil => simp [Tbl.wf]
  | cons x t => obtain ⟨k', v'⟩ := x; simp [Tbl.wf, and_assoc]

/-- The least key after a put. -/
theorem Tbl.head_put {α : Type} {t : Tbl α} {i b : Nat} {v : α} (h : ∀ x ∈ t.head?, b < x.1) (hb : b < i) :
    ∀ x ∈ (Tbl.put t i v).head?, b < x.1 := by
  cases t with
  | nil => simpa [Tbl.put] using hb
  | cons y t =>
    obtain ⟨k, w⟩ := y
    simp only [Tbl.put]
    have hk : b < k := by simpa using h
    split
    · simpa using hk
    · split <;> simpa

theorem Tbl.put_wf {α : Type} [DecidableEq α] {d : α} {t : Tbl α} {i : Nat} {v : α} (h : Tbl.wf d t = true) (hv : v ≠ d) :
    Tbl.wf d (Tbl.put t i v) = true := by
  induction t with
  | nil => simpa [Tbl.put, Tbl.wf] using hv
  | cons y t ih =>
    obtain ⟨k, w⟩ := y
    have ⟨h1, h2, h3⟩ := Tbl.wf_cons.1 h
    simp only [Tbl.put]
    split
    · exact Tbl.wf_cons.2 ⟨hv, h2, h3⟩
    · split
      · exact Tbl.wf_cons.2 ⟨hv, by simpa, h⟩
      · exact Tbl.wf_cons.2 ⟨h1, Tbl.head_put h2 (by omega), ih h3⟩

theorem Tbl.wf_tail_head {α : Type} [DecidableEq α] {d : α} {k : Nat} {v : α} {t : Tbl α} (h : Tbl.wf d ((k, v) :: t) = true) :
    ∀ x ∈ t.head?, k < x.1 := (Tbl.wf_cons.1 h).2.1

theorem Tbl.head_del {α : Type} [DecidableEq α] {d : α} {t : Tbl α} {i b : Nat} (w : Tbl.wf d t = true)
    (h : ∀ x ∈ t.head?, b < x.1) : ∀ x ∈ (Tbl.del t i).head?, b < x.1 := by
  cases t with
  | nil => simp [Tbl.del]
  | cons y t =>
    obtain ⟨k, v⟩ := y
    have hk : b < k := by simpa using h
    simp only [Tbl.del]
    split
    · intro x hx
      have := (Tbl.wf_cons.1 w).2.1 x hx
      omega
    · split <;> simpa

theorem Tbl.del_wf {α : Type} [DecidableEq α] {d : α} {t : Tbl α} {i : Nat} (h : Tbl.wf d t = true) :
    Tbl.wf d (Tbl.del t i) = true := by
  induction t with
  | nil => exact h
  | cons y t ih =>
    obtain ⟨k, w⟩ := y
    have ⟨h1, h2, h3⟩ := Tbl.wf_cons.1 h
    simp only [Tbl.del]
    split
    · exact h3
    · split
      · exact h
      · exact Tbl.wf_cons.2 ⟨h1, Tbl.head_del h3 h2, ih h3⟩

/-- Setting an entry keeps a table's canonical form. -/
theorem Tbl.set_wf {α : Type} [DecidableEq α] {d : α} {t : Tbl α} {i : Nat} {v : α} (h : Tbl.wf d t = true) :
    Tbl.wf d (Tbl.set d t i v) = true := by
  unfold Tbl.set
  split
  · exact Tbl.del_wf h
  · exact Tbl.put_wf h ‹_›

theorem insertNat_mem {i : Nat} {l : List Nat} {x : Nat} : x ∈ insertNat i l → x = i ∨ x ∈ l := by
  induction l with
  | nil => simp [insertNat]
  | cons k t ih =>
    simp only [insertNat]
    split
    · intro h; exact .inr h
    · split
      · simp
      · intro h
        rcases List.mem_cons.1 h with h | h
        · simp [h]
        · rcases ih h with h | h <;> simp [h]

theorem insertNat_pairwise {i : Nat} {l : List Nat} (h : l.Pairwise (· < ·)) : (insertNat i l).Pairwise (· < ·) := by
  induction l with
  | nil => simp [insertNat]
  | cons k t ih =>
    have ⟨h1, h2⟩ := List.pairwise_cons.1 h
    simp only [insertNat]
    split
    · exact h
    · split
      · refine List.pairwise_cons.2 ⟨fun x hx => ?_, h⟩
        rcases List.mem_cons.1 hx with e | e
        · omega
        · have := h1 x e; omega
      · refine List.pairwise_cons.2 ⟨fun x hx => ?_, ih h2⟩
        rcases insertNat_mem hx with e | e
        · omega
        · exact h1 x e

theorem insertNats_pairwise {f : Nat → Nat} {l : List Nat} {p : List Nat} (h : p.Pairwise (· < ·)) :
    (l.foldl (fun p i => insertNat (f i) p) p).Pairwise (· < ·) := by
  induction l generalizing p with
  | nil => exact h
  | cons x t ih => exact ih (insertNat_pairwise h)

theorem Tbl.find_put_same {α : Type} (t : Tbl α) (i : Nat) (v : α) : Tbl.find (Tbl.put t i v) i = some v := by
  induction t with
  | nil => simp [Tbl.put, Tbl.find]
  | cons y t ih =>
    obtain ⟨k, w⟩ := y
    simp only [Tbl.put]
    split
    · simp [Tbl.find, *]
    · split
      · simp [Tbl.find]
      · simp only [Tbl.find, *]; simp

theorem Tbl.find_put_other {α : Type} (t : Tbl α) {i j : Nat} (v : α) (h : j ≠ i) : Tbl.find (Tbl.put t i v) j = Tbl.find t j := by
  induction t with
  | nil => simp [Tbl.put, Tbl.find, h]
  | cons y t ih =>
    obtain ⟨k, w⟩ := y
    simp only [Tbl.put]
    split
    · subst_vars
      simp [Tbl.find, h]
    · split
      · have hk : ∀ _ : j < i, ¬j = k ∧ j < k := fun _ => ⟨by omega, by omega⟩
        simp only [Tbl.find, h, if_false]
        split
        · simp [hk ‹_›]
        · rfl
      · simp only [Tbl.find, ih]

/-- Below its least key a table has no entry. -/
theorem Tbl.find_below {α : Type} {t : Tbl α} {i : Nat} (h : ∀ x ∈ t.head?, i < x.1) : Tbl.find t i = none := by
  cases t with
  | nil => rfl
  | cons y t =>
    obtain ⟨k, w⟩ := y
    have hk : i < k := by simpa using h
    simp only [Tbl.find]
    rw [if_neg (by omega), if_pos hk]

theorem Tbl.find_del_same {α : Type} [DecidableEq α] {d : α} {t : Tbl α} {i : Nat} (w : Tbl.wf d t = true) :
    Tbl.find (Tbl.del t i) i = none := by
  induction t with
  | nil => rfl
  | cons y t ih =>
    obtain ⟨k, v⟩ := y
    have ⟨_, h2, h3⟩ := Tbl.wf_cons.1 w
    simp only [Tbl.del]
    split
    · subst_vars; exact Tbl.find_below h2
    · split
      · exact Tbl.find_below (by simpa)
      · simp only [Tbl.find, *]; simp

theorem Tbl.find_del_other {α : Type} [DecidableEq α] {d : α} {t : Tbl α} {i j : Nat} (w : Tbl.wf d t = true) (h : j ≠ i) :
    Tbl.find (Tbl.del t i) j = Tbl.find t j := by
  induction t with
  | nil => rfl
  | cons y t ih =>
    obtain ⟨k, v⟩ := y
    have ⟨_, h2, h3⟩ := Tbl.wf_cons.1 w
    simp only [Tbl.del]
    split
    · subst_vars
      simp only [Tbl.find, h, if_false]
      split
      · exact Tbl.find_below fun x hx => by have := h2 x hx; omega
      · rfl
    · split
      · rfl
      · simp only [Tbl.find, ih h3]

/-- A table read back where it was set. -/
theorem Tbl.get_set_same {α : Type} [DecidableEq α] {d : α} {t : Tbl α} (w : Tbl.wf d t = true) (i : Nat) (v : α) :
    Tbl.get d (Tbl.set d t i v) i = v := by
  unfold Tbl.get Tbl.set
  split
  · rw [Tbl.find_del_same w]; simp [*]
  · rw [Tbl.find_put_same]; rfl

/-- Setting one key leaves every other entry alone. -/
theorem Tbl.get_set_other {α : Type} [DecidableEq α] {d : α} {t : Tbl α} (w : Tbl.wf d t = true) {i j : Nat} (v : α) (h : j ≠ i) :
    Tbl.get d (Tbl.set d t i v) j = Tbl.get d t j := by
  unfold Tbl.get Tbl.set
  split
  · rw [Tbl.find_del_other w h]
  · rw [Tbl.find_put_other t v h]

namespace Machine

theorem Mem.wf_iff {m : Mem} : m.wf = true ↔ Tbl.wf Mem.unwritten m.bytes = true ∧ m.poison.Pairwise (· < ·) := by
  simp [Mem.wf]

theorem Mem.write_wf {m : Mem} {a : Nat} {b : Byte} (h : m.wf = true) : (m.write a b).wf = true :=
  Mem.wf_iff.2 ⟨Tbl.set_wf (Mem.wf_iff.1 h).1, (Mem.wf_iff.1 h).2⟩

theorem Mem.writeN_wf {m : Mem} {a : Nat} {l : List Byte} (h : m.wf = true) : (m.writeN a l).wf = true := by
  induction l generalizing m a with
  | nil => exact h
  | cons b t ih => exact ih (Mem.write_wf h)

theorem Mem.mark_wf {m : Mem} {a n : Nat} (h : m.wf = true) : (m.mark a n).wf = true :=
  Mem.wf_iff.2 ⟨(Mem.wf_iff.1 h).1, insertNats_pairwise (Mem.wf_iff.1 h).2⟩

theorem Mem.clean_wf {m : Mem} {a n : Nat} (h : m.wf = true) : (m.clean a n).wf = true :=
  Mem.wf_iff.2 ⟨(Mem.wf_iff.1 h).1, (Mem.wf_iff.1 h).2.filter _⟩

theorem Mem.store_wf {m : Mem} {a : Nat} {d : List Byte} {p : Bool} (h : m.wf = true) : (m.store a d p).wf = true := by
  unfold Mem.store
  split
  · exact Mem.mark_wf (Mem.writeN_wf h)
  · exact Mem.clean_wf (Mem.writeN_wf h)

theorem Mem.read_write_same {m : Mem} (w : m.wf = true) (a : Nat) (b : Byte) : (m.write a b).read a = b :=
  Tbl.get_set_same (Mem.wf_iff.1 w).1 a b

theorem Mem.read_write_other {m : Mem} (w : m.wf = true) {a x : Nat} (b : Byte) (h : x ≠ a) : (m.write a b).read x = m.read x :=
  Tbl.get_set_other (Mem.wf_iff.1 w).1 b h

theorem Mem.read_writeN_other {m : Mem} (w : m.wf = true) {a x : Nat} {l : List Byte} (h : x < a ∨ a + l.length ≤ x) :
    (m.writeN a l).read x = m.read x := by
  induction l generalizing m a with
  | nil => rfl
  | cons b t ih =>
    have hl : (b :: t).length = t.length + 1 := rfl
    rw [hl] at h
    simp only [Mem.writeN]
    rw [ih (Mem.write_wf w) (by omega), Mem.read_write_other w b (by omega)]

/-- What was stored is read back. -/
theorem Mem.readN_writeN {m : Mem} (w : m.wf = true) (a : Nat) (l : List Byte) : (m.writeN a l).readN a l.length = l := by
  induction l generalizing m a with
  | nil => rfl
  | cons b t ih =>
    simp only [Mem.writeN, List.length_cons, Mem.readN]
    rw [ih (Mem.write_wf w) (a + 1), Mem.read_writeN_other (Mem.write_wf w) (by omega), Mem.read_write_same w]

@[simp] theorem Mem.read_mark (m : Mem) (a n x : Nat) : (m.mark a n).read x = m.read x := rfl
@[simp] theorem Mem.read_clean (m : Mem) (a n x : Nat) : (m.clean a n).read x = m.read x := rfl

/-- A store leaves every byte outside it alone. -/
theorem Mem.read_store_other {m : Mem} (w : m.wf = true) {a x : Nat} {d : List Byte} {p : Bool} (h : x < a ∨ a + d.length ≤ x) :
    (m.store a d p).read x = m.read x := by
  unfold Mem.store
  split
  · rw [Mem.read_mark, Mem.read_writeN_other w h]
  · rw [Mem.read_clean, Mem.read_writeN_other w h]

theorem Mem.fold_wf {α : Type} {f : Mem → α → Mem} {l : List α} {m : Mem} (hf : ∀ m x, m.wf = true → (f m x).wf = true)
    (h : m.wf = true) : (l.foldl f m).wf = true := by
  induction l generalizing m with
  | nil => exact h
  | cons x t ih => exact ih (hf m x h)

theorem Mem.putLine_wf {m : Mem} {a : Nat} {d : List Byte} {k : Nat} (h : m.wf = true) : (m.putLine a d k).wf = true :=
  Mem.fold_wf (fun _ _ h => Mem.store_wf h) h

theorem Mem.storeP_wf {m : Mem} {a : Nat} {l : List PByte} (h : m.wf = true) : (m.storeP a l).wf = true := by
  refine Mem.fold_wf (fun m i h => ?_) (Mem.writeN_wf h)
  dsimp only
  split
  · exact Mem.mark_wf h
  · split
    · exact Mem.clean_wf h
    · exact h

theorem Tbl.filter_wf {α : Type} [DecidableEq α] {d : α} {t : Tbl α} {p : Nat × α → Bool} (h : Tbl.wf d t = true) :
    Tbl.wf d (t.filter p) = true ∧ ∀ b, (∀ x ∈ t.head?, b < x.1) → ∀ x ∈ (t.filter p).head?, b < x.1 := by
  induction t with
  | nil => simp [Tbl.wf]
  | cons y t ih =>
    obtain ⟨k, v⟩ := y
    have ⟨h1, h2, h3⟩ := Tbl.wf_cons.1 h
    have ⟨i1, i2⟩ := ih h3
    rw [List.filter_cons]
    split
    · exact ⟨Tbl.wf_cons.2 ⟨h1, i2 k h2, i1⟩, fun b hb => by simpa using hb⟩
    · refine ⟨i1, fun b hb => i2 b fun x hx => ?_⟩
      have := h2 x hx
      have : b < k := by simpa using hb
      omega

theorem Mem.zeros_wf {m : Mem} {a n : Nat} (h : m.wf = true) : (m.zeros a n).wf = true :=
  Mem.wf_iff.2 ⟨(Tbl.filter_wf (Mem.wf_iff.1 h).1).1, (Mem.wf_iff.1 h).2.filter _⟩

theorem Mem.clearPage_wf {m : Mem} {a : Nat} (h : m.wf = true) : (m.clearPage a).wf = true :=
  Mem.clean_wf (Mem.wf_iff.2 ⟨(Tbl.filter_wf (Mem.wf_iff.1 h).1).1, (Mem.wf_iff.1 h).2⟩)

end Machine
end Sys2Proof
end

