-- ==== Sys2Proof/Laws/Frame.lean ====
section
/-! SUPPORT. What an operation leaves alone. `Frame M s t` says: the queue of commands is the same; device memory keeps its
canonical form; a blown fuse stays blown; two twins never lead at once; and each part of State whose bit is not set in the mask
M is the same. The bits number the fields of State in their order: 0 pending, 1 time, 2 twins, 3 ctxs, 4 queues, 5 fences,
6 objs, 7 xlt, 8 ports, 9 funcs, 10 irq, 11 plan, 12 engines, 13 rst, 14 clk, 15 mgt, 16 coh, 17 fab, 18 mem, 19 sels, 20 out,
21 freeCtr. The files Frame*.lean hold one law per operation: from any state reached from `s0` within M, the operation stays
within M, for every M that includes the operation's own mask. -/

namespace Sys2Proof.Machine

/-- Every bit of a mask is set in another. -/
def Sub (a b : Nat) : Prop := a &&& b = a

theorem Sub.tr {a b m : Nat} (h : Sub a b) (k : Sub b m) : Sub a m := by
  unfold Sub at *
  rw [← h, Nat.and_assoc, k]

theorem Sub.bit {i m : Nat} (h : Sub (2 ^ i) m) : m.testBit i = true := by
  have h : 2 ^ i &&& m = 2 ^ i := h
  have : (2 ^ i &&& m).testBit i = true := by rw [h]; exact Nat.testBit_two_pow_self
  simpa using this
/-- A twin in a state leads, given the state it held before a detach. -/
def newLeads (n p : TwinState) : Bool := n = .lead || (n = .detaching && p = .lead)
/-- At most one twin leads (R34, R47, R518). -/
def OneLead (s : State) : Prop := (s.leads .a && s.leads .b) = false

theorem OneLead.never {n p : TwinState} {P Q : Prop} (h : newLeads n p = false) : P → newLeads n p = true → Q :=
  fun _ k => by rw [h] at k; cases k
/-- What an operation within a mask keeps. -/
structure Frame (m : Nat) (s t : State) : Prop where
  pending : t.pending = s.pending
  wf : s.mem.wf = true → t.mem.wf = true
  lock : s.mgt.credLock = true → t.mgt.credLock = true
  svn : s.mgt.minSvn ≤ t.mgt.minSvn
  lead : OneLead s → OneLead t
  time : m.testBit 1 = false → t.time = s.time
  twins : m.testBit 2 = false → t.twins = s.twins
  ctxs : m.testBit 3 = false → t.ctxs = s.ctxs
  queues : m.testBit 4 = false → t.queues = s.queues
  fences : m.testBit 5 = false → t.fences = s.fences
  objs : m.testBit 6 = false → t.objs = s.objs
  xlt : m.testBit 7 = false → t.xlt = s.xlt
  ports : m.testBit 8 = false → t.ports = s.ports
  funcs : m.testBit 9 = false → t.funcs = s.funcs
  irq : m.testBit 10 = false → t.irq = s.irq
  plan : m.testBit 11 = false → t.plan = s.plan
  engines : m.testBit 12 = false → t.engines = s.engines
  rst : m.testBit 13 = false → t.rst = s.rst
  clk : m.testBit 14 = false → t.clk = s.clk
  mgt : m.testBit 15 = false → t.mgt = s.mgt
  coh : m.testBit 16 = false → t.coh = s.coh
  fab : m.testBit 17 = false → t.fab = s.fab
  mem : m.testBit 18 = false → t.mem = s.mem
  sels : m.testBit 19 = false → t.sels = s.sels
  out : m.testBit 20 = false → t.out = s.out
  freeCtr : m.testBit 21 = false → t.freeCtr = s.freeCtr

theorem Frame.rfl {m : Nat} {s : State} : Frame m s s :=
  by constructor <;> intros <;> first | exact Eq.refl _ | assumption | exact Nat.le_refl _

theorem Frame.foldl {α : Type} {m : Nat} {s0 : State} {f : State → α → State} {s : State} {l : List α}
    (h : ∀ s x, Frame m s0 s → Frame m s0 (f s x)) (k : Frame m s0 s) : Frame m s0 (l.foldl f s) := by
  induction l generalizing s with
  | nil => exact k
  | cons x t ih => exact ih (h s x k)

theorem Frame.foldl_mem {α : Type} {m : Nat} {s0 : State} {f : State → α → State} {s : State} {l : List α}
    (h : ∀ s x, x ∈ l → Frame m s0 s → Frame m s0 (f s x)) (k : Frame m s0 s) : Frame m s0 (l.foldl f s) := by
  induction l generalizing s with
  | nil => exact k
  | cons x t ih => exact ih (fun s y hy => h s y (List.mem_cons_of_mem _ hy)) (h s x (List.mem_cons_self ..) k)

theorem Frame.foldl1 {α β : Type} {m : Nat} {s0 : State} {f : State × β → α → State × β} {s : State × β} {l : List α}
    (h : ∀ s x, Frame m s0 s.1 → Frame m s0 (f s x).1) (k : Frame m s0 s.1) : Frame m s0 (l.foldl f s).1 := by
  induction l generalizing s with
  | nil => exact k
  | cons x t ih => exact ih (h s x k)

theorem Frame.foldl2 {α β : Type} {m : Nat} {s0 : State} {f : β × State → α → β × State} {s : β × State} {l : List α}
    (h : ∀ s x, Frame m s0 s.2 → Frame m s0 (f s x).2) (k : Frame m s0 s.2) : Frame m s0 (l.foldl f s).2 := by
  induction l generalizing s with
  | nil => exact k
  | cons x t ih => exact ih (h s x k)

def FrameC (m : Nat) (s : State) : Ctl → Prop
  | .reject _ => True | .hold => True | .done _ t => Frame m s t | .later t => Frame m s t

theorem Frame.ih {P Q : Prop} (h : P → Q) (k : P) : Q := h k
/-- Frames of operations that may answer nothing, an error or one of several outcomes. -/
def FrameO (m : Nat) (s : State) (o : Option State) : Prop := ∀ t, o = some t → Frame m s t

theorem FrameO.map {M s0} {o : Option State} {f : State → State} (h : ∀ s, Frame M s0 s → Frame M s0 (f s)) (k : FrameO M s0 o) :
    FrameO M s0 (o.map f) := by
  cases o with
  | none => intro t e; cases e
  | some t => intro u e; cases e; exact h t (k t (.refl _))

def FrameE {ε : Type} (m : Nat) (s : State) (o : Except ε State) : Prop := ∀ t, o = .ok t → Frame m s t

def FrameEE (m : Nat) (s : State) (o : Except State State) : Prop := ∀ t, (o = .ok t ∨ o = .error t) → Frame m s t

def FrameESX {ε α : Type} (m : Nat) (s : State) (o : Except ε (State × α)) : Prop := ∀ t, o = .ok t → Frame m s t.1

def FrameOX {α : Type} (m : Nat) (s : State) (o : Option (α × State)) : Prop := ∀ t, o = some t → Frame m s t.2

theorem FrameO.none {m s} : FrameO m s .none := fun _ h => by cases h

theorem FrameO.some {m s t} (h : Frame m s t) : FrameO m s (.some t) := fun _ e => by cases e; exact h

theorem FrameE.error {ε m s} {c : ε} : FrameE m s (.error c) := fun _ h => by cases h

theorem FrameE.out {ε m s t} (h : FrameE (ε := ε) m s (.ok t)) : Frame m s t := h t (.refl _)

theorem FrameE.ok {ε m s t} (h : Frame m s t) : FrameE (ε := ε) m s (.ok t) := fun _ e => by cases e; exact h

theorem FrameC.reject {m s c} : FrameC m s (.reject c) := trivial

theorem FrameC.hold {m s} : FrameC m s .hold := trivial

theorem FrameC.done {m s r t} (h : Frame m s t) : FrameC m s (.done r t) := h

theorem FrameC.later {m s t} (h : Frame m s t) : FrameC m s (.later t) := h

theorem FrameESX.error {ε α m s} {c : ε} : FrameESX (α := α) m s (.error c) := fun _ h => by cases h

theorem FrameESX.ok {ε α m s} {t : State × α} (h : Frame m s t.1) : FrameESX (ε := ε) m s (.ok t) := fun _ e => by cases e; exact h

theorem FrameOX.none {α m s} : FrameOX (α := α) m s .none := fun _ h => by cases h

theorem FrameOX.some {α m s} {t : α × State} (h : Frame m s t.2) : FrameOX m s (.some t) := fun _ e => by cases e; exact h

theorem FrameOX.map {α β M s0} {o : Option β} {f : β → α × State} (h : ∀ x, Frame M s0 (f x).2) : FrameOX M s0 (o.map f) := by
  cases o with
  | none => intro t e; cases e
  | some t => intro u e; cases e; exact h t

def FrameW (m : Nat) (s : State) : Claimed → Prop
  | .moved _ t => Frame m s t | .waits t => Frame m s t | .ends t => Frame m s t

theorem FrameW.moved {m s r t} (h : Frame m s t) : FrameW m s (.moved r t) := h

theorem FrameW.waits {m s t} (h : Frame m s t) : FrameW m s (.waits t) := h

theorem FrameW.ends {m s t} (h : Frame m s t) : FrameW m s (.ends t) := h

theorem Frame.of_moved {M s0 t r} {c : Claimed} (h : c = .moved r t) (k : FrameW M s0 c) : Frame M s0 t := by cases h; exact k

theorem Frame.of_waits {M s0 t} {c : Claimed} (h : c = .waits t) (k : FrameW M s0 c) : Frame M s0 t := by cases h; exact k

theorem Frame.of_ends {M s0 t} {c : Claimed} (h : c = .ends t) (k : FrameW M s0 c) : Frame M s0 t := by cases h; exact k

theorem Frame.of_okE {M s0 t} {p : Except State State} (h : p = .ok t) (k : FrameEE M s0 p) : Frame M s0 t := k t (.inl h)

theorem Frame.of_errE {M s0 t} {p : Except State State} (h : p = .error t) (k : FrameEE M s0 p) : Frame M s0 t := k t (.inr h)

theorem FrameEE.ok {m s t} (h : Frame m s t) : FrameEE m s (.ok t) := fun _ e => by cases e with | inl e => cases e; exact h | inr e => cases e

theorem FrameEE.error {m s t} (h : Frame m s t) : FrameEE m s (.error t) := fun _ e => by cases e with | inl e => cases e | inr e => cases e; exact h

theorem Frame.of_snd {α m s0 t} {p : α × State} {a : α} (h : p = (a, t)) (k : Frame m s0 p.2) : Frame m s0 t := by cases h; exact k

theorem Frame.of_fst {α m s0 t} {p : State × α} {a : α} (h : p = (t, a)) (k : Frame m s0 p.1) : Frame m s0 t := by cases h; exact k

theorem Frame.of_some {m s0 t} {p : Option State} (h : p = some t) (k : FrameO m s0 p) : Frame m s0 t := k t h

theorem Frame.of_ok {ε m s0 t} {p : Except ε State} (h : p = .ok t) (k : FrameE m s0 p) : Frame m s0 t := k t h

theorem Frame.of_okx {ε α m s0 t} {a : α} {p : Except ε (State × α)} (h : p = .ok (t, a)) (k : FrameESX m s0 p) : Frame m s0 t := k _ h

theorem Frame.of_done {M s0 t r} {c : Ctl} (h : c = .done r t) (k : FrameC M s0 c) : Frame M s0 t := by cases h; exact k

theorem Frame.of_later {M s0 t} {c : Ctl} (h : c = .later t) (k : FrameC M s0 c) : Frame M s0 t := by cases h; exact k

theorem Frame.of_somex {α m s0 t} {a : α} {p : Option (α × State)} (h : p = some (a, t)) (k : FrameOX m s0 p) : Frame m s0 t := k _ h

theorem Frame.ite {M s0} {c : Prop} [Decidable c] {a b : State} (h : c → Frame M s0 a) (k : ¬c → Frame M s0 b) : Frame M s0 (if c then a else b) := by
  split
  · exact h ‹_›
  · exact k ‹_›

theorem FrameO.ite {M s0} {c : Prop} [Decidable c] {a b : Option State} (h : c → FrameO M s0 a) (k : ¬c → FrameO M s0 b) : FrameO M s0 (if c then a else b) := by
  split
  · exact h ‹_›
  · exact k ‹_›

theorem FrameE.ite {M s0} {c : Prop} [Decidable c] {a b : Except Nat State} (h : c → FrameE M s0 a) (k : ¬c → FrameE M s0 b) : FrameE M s0 (if c then a else b) := by
  split
  · exact h ‹_›
  · exact k ‹_›

theorem FrameC.ite {M s0} {c : Prop} [Decidable c] {a b : Ctl} (h : c → FrameC M s0 a) (k : ¬c → FrameC M s0 b) : FrameC M s0 (if c then a else b) := by
  split
  · exact h ‹_›
  · exact k ‹_›

theorem FrameW.ite {M s0} {c : Prop} [Decidable c] {a b : Claimed} (h : c → FrameW M s0 a) (k : ¬c → FrameW M s0 b) : FrameW M s0 (if c then a else b) := by
  split
  · exact h ‹_›
  · exact k ‹_›

theorem Frame.set_time {m : Nat} {s0 s : State} {v} (hm : Sub 2 m) (k : Frame m s0 s) : Frame m s0 { s with time := v } :=
  ⟨k.pending, k.wf, k.lock, k.svn, k.lead, fun h => absurd (h.symm.trans (Sub.bit (i := 1) hm)) (by decide), k.twins, k.ctxs, k.queues, k.fences, k.objs, k.xlt, k.ports, k.funcs, k.irq, k.plan, k.engines, k.rst, k.clk, k.mgt, k.coh, k.fab, k.mem, k.sels, k.out, k.freeCtr⟩

theorem Frame.set_twins {m : Nat} {s0 s : State} {v} (hm : Sub 4 m) (w : OneLead s0 → OneLead { s with twins := v }) (k : Frame m s0 s) : Frame m s0 { s with twins := v } :=
  ⟨k.pending, k.wf, k.lock, k.svn, w, k.time, fun h => absurd (h.symm.trans (Sub.bit (i := 2) hm)) (by decide), k.ctxs, k.queues, k.fences, k.objs, k.xlt, k.ports, k.funcs, k.irq, k.plan, k.engines, k.rst, k.clk, k.mgt, k.coh, k.fab, k.mem, k.sels, k.out, k.freeCtr⟩

theorem Frame.set_ctxs {m : Nat} {s0 s : State} {v} (hm : Sub 8 m) (k : Frame m s0 s) : Frame m s0 { s with ctxs := v } :=
  ⟨k.pending, k.wf, k.lock, k.svn, k.lead, k.time, k.twins, fun h => absurd (h.symm.trans (Sub.bit (i := 3) hm)) (by decide), k.queues, k.fences, k.objs, k.xlt, k.ports, k.funcs, k.irq, k.plan, k.engines, k.rst, k.clk, k.mgt, k.coh, k.fab, k.mem, k.sels, k.out, k.freeCtr⟩

theorem Frame.set_queues {m : Nat} {s0 s : State} {v} (hm : Sub 16 m) (k : Frame m s0 s) : Frame m s0 { s with queues := v } :=
  ⟨k.pending, k.wf, k.lock, k.svn, k.lead, k.time, k.twins, k.ctxs, fun h => absurd (h.symm.trans (Sub.bit (i := 4) hm)) (by decide), k.fences, k.objs, k.xlt, k.ports, k.funcs, k.irq, k.plan, k.engines, k.rst, k.clk, k.mgt, k.coh, k.fab, k.mem, k.sels, k.out, k.freeCtr⟩

theorem Frame.set_fences {m : Nat} {s0 s : State} {v} (hm : Sub 32 m) (k : Frame m s0 s) : Frame m s0 { s with fences := v } :=
  ⟨k.pending, k.wf, k.lock, k.svn, k.lead, k.time, k.twins, k.ctxs, k.queues, fun h => absurd (h.symm.trans (Sub.bit (i := 5) hm)) (by decide), k.objs, k.xlt, k.ports, k.funcs, k.irq, k.plan, k.engines, k.rst, k.clk, k.mgt, k.coh, k.fab, k.mem, k.sels, k.out, k.freeCtr⟩

theorem Frame.set_objs {m : Nat} {s0 s : State} {v} (hm : Sub 64 m) (k : Frame m s0 s) : Frame m s0 { s with objs := v } :=
  ⟨k.pending, k.wf, k.lock, k.svn, k.lead, k.time, k.twins, k.ctxs, k.queues, k.fences, fun h => absurd (h.symm.trans (Sub.bit (i := 6) hm)) (by decide), k.xlt, k.ports, k.funcs, k.irq, k.plan, k.engines, k.rst, k.clk, k.mgt, k.coh, k.fab, k.mem, k.sels, k.out, k.freeCtr⟩

theorem Frame.set_xlt {m : Nat} {s0 s : State} {v} (hm : Sub 128 m) (k : Frame m s0 s) : Frame m s0 { s with xlt := v } :=
  ⟨k.pending, k.wf, k.lock, k.svn, k.lead, k.time, k.twins, k.ctxs, k.queues, k.fences, k.objs, fun h => absurd (h.symm.trans (Sub.bit (i := 7) hm)) (by decide), k.ports, k.funcs, k.irq, k.plan, k.engines, k.rst, k.clk, k.mgt, k.coh, k.fab, k.mem, k.sels, k.out, k.freeCtr⟩

theorem Frame.set_ports {m : Nat} {s0 s : State} {v} (hm : Sub 256 m) (k : Frame m s0 s) : Frame m s0 { s with ports := v } :=
  ⟨k.pending, k.wf, k.lock, k.svn, k.lead, k.time, k.twins, k.ctxs, k.queues, k.fences, k.objs, k.xlt, fun h => absurd (h.symm.trans (Sub.bit (i := 8) hm)) (by decide), k.funcs, k.irq, k.plan, k.engines, k.rst, k.clk, k.mgt, k.coh, k.fab, k.mem, k.sels, k.out, k.freeCtr⟩

theorem Frame.set_funcs {m : Nat} {s0 s : State} {v} (hm : Sub 512 m) (k : Frame m s0 s) : Frame m s0 { s with funcs := v } :=
  ⟨k.pending, k.wf, k.lock, k.svn, k.lead, k.time, k.twins, k.ctxs, k.queues, k.fences, k.objs, k.xlt, k.ports, fun h => absurd (h.symm.trans (Sub.bit (i := 9) hm)) (by decide), k.irq, k.plan, k.engines, k.rst, k.clk, k.mgt, k.coh, k.fab, k.mem, k.sels, k.out, k.freeCtr⟩

theorem Frame.set_irq {m : Nat} {s0 s : State} {v} (hm : Sub 1024 m) (k : Frame m s0 s) : Frame m s0 { s with irq := v } :=
  ⟨k.pending, k.wf, k.lock, k.svn, k.lead, k.time, k.twins, k.ctxs, k.queues, k.fences, k.objs, k.xlt, k.ports, k.funcs, fun h => absurd (h.symm.trans (Sub.bit (i := 10) hm)) (by decide), k.plan, k.engines, k.rst, k.clk, k.mgt, k.coh, k.fab, k.mem, k.sels, k.out, k.freeCtr⟩

theorem Frame.set_plan {m : Nat} {s0 s : State} {v} (hm : Sub 2048 m) (k : Frame m s0 s) : Frame m s0 { s with plan := v } :=
  ⟨k.pending, k.wf, k.lock, k.svn, k.lead, k.time, k.twins, k.ctxs, k.queues, k.fences, k.objs, k.xlt, k.ports, k.funcs, k.irq, fun h => absurd (h.symm.trans (Sub.bit (i := 11) hm)) (by decide), k.engines, k.rst, k.clk, k.mgt, k.coh, k.fab, k.mem, k.sels, k.out, k.freeCtr⟩

theorem Frame.set_engines {m : Nat} {s0 s : State} {v} (hm : Sub 4096 m) (k : Frame m s0 s) : Frame m s0 { s with engines := v } :=
  ⟨k.pending, k.wf, k.lock, k.svn, k.lead, k.time, k.twins, k.ctxs, k.queues, k.fences, k.objs, k.xlt, k.ports, k.funcs, k.irq, k.plan, fun h => absurd (h.symm.trans (Sub.bit (i := 12) hm)) (by decide), k.rst, k.clk, k.mgt, k.coh, k.fab, k.mem, k.sels, k.out, k.freeCtr⟩

theorem Frame.set_rst {m : Nat} {s0 s : State} {v} (hm : Sub 8192 m) (k : Frame m s0 s) : Frame m s0 { s with rst := v } :=
  ⟨k.pending, k.wf, k.lock, k.svn, k.lead, k.time, k.twins, k.ctxs, k.queues, k.fences, k.objs, k.xlt, k.ports, k.funcs, k.irq, k.plan, k.engines, fun h => absurd (h.symm.trans (Sub.bit (i := 13) hm)) (by decide), k.clk, k.mgt, k.coh, k.fab, k.mem, k.sels, k.out, k.freeCtr⟩

theorem Frame.set_clk {m : Nat} {s0 s : State} {v} (hm : Sub 16384 m) (k : Frame m s0 s) : Frame m s0 { s with clk := v } :=
  ⟨k.pending, k.wf, k.lock, k.svn, k.lead, k.time, k.twins, k.ctxs, k.queues, k.fences, k.objs, k.xlt, k.ports, k.funcs, k.irq, k.plan, k.engines, k.rst, fun h => absurd (h.symm.trans (Sub.bit (i := 14) hm)) (by decide), k.mgt, k.coh, k.fab, k.mem, k.sels, k.out, k.freeCtr⟩

theorem Frame.set_mgt {m : Nat} {s0 s : State} {v} (hm : Sub 32768 m) (w : s.mgt.credLock = true → v.credLock = true) (w2 : s.mgt.minSvn ≤ v.minSvn) (k : Frame m s0 s) : Frame m s0 { s with mgt := v } :=
  ⟨k.pending, k.wf, fun h => w (k.lock h), Nat.le_trans k.svn w2, k.lead, k.time, k.twins, k.ctxs, k.queues, k.fences, k.objs, k.xlt, k.ports, k.funcs, k.irq, k.plan, k.engines, k.rst, k.clk, fun h => absurd (h.symm.trans (Sub.bit (i := 15) hm)) (by decide), k.coh, k.fab, k.mem, k.sels, k.out, k.freeCtr⟩

theorem Frame.set_coh {m : Nat} {s0 s : State} {v} (hm : Sub 65536 m) (k : Frame m s0 s) : Frame m s0 { s with coh := v } :=
  ⟨k.pending, k.wf, k.lock, k.svn, k.lead, k.time, k.twins, k.ctxs, k.queues, k.fences, k.objs, k.xlt, k.ports, k.funcs, k.irq, k.plan, k.engines, k.rst, k.clk, k.mgt, fun h => absurd (h.symm.trans (Sub.bit (i := 16) hm)) (by decide), k.fab, k.mem, k.sels, k.out, k.freeCtr⟩

theorem Frame.set_fab {m : Nat} {s0 s : State} {v} (hm : Sub 131072 m) (k : Frame m s0 s) : Frame m s0 { s with fab := v } :=
  ⟨k.pending, k.wf, k.lock, k.svn, k.lead, k.time, k.twins, k.ctxs, k.queues, k.fences, k.objs, k.xlt, k.ports, k.funcs, k.irq, k.plan, k.engines, k.rst, k.clk, k.mgt, k.coh, fun h => absurd (h.symm.trans (Sub.bit (i := 17) hm)) (by decide), k.mem, k.sels, k.out, k.freeCtr⟩

theorem Frame.set_mem {m : Nat} {s0 s : State} {v} (hm : Sub 262144 m) (w : s0.mem.wf = true → v.wf = true) (k : Frame m s0 s) : Frame m s0 { s with mem := v } :=
  ⟨k.pending, w, k.lock, k.svn, k.lead, k.time, k.twins, k.ctxs, k.queues, k.fences, k.objs, k.xlt, k.ports, k.funcs, k.irq, k.plan, k.engines, k.rst, k.clk, k.mgt, k.coh, k.fab, fun h => absurd (h.symm.trans (Sub.bit (i := 18) hm)) (by decide), k.sels, k.out, k.freeCtr⟩

theorem Frame.set_sels {m : Nat} {s0 s : State} {v} (hm : Sub 524288 m) (k : Frame m s0 s) : Frame m s0 { s with sels := v } :=
  ⟨k.pending, k.wf, k.lock, k.svn, k.lead, k.time, k.twins, k.ctxs, k.queues, k.fences, k.objs, k.xlt, k.ports, k.funcs, k.irq, k.plan, k.engines, k.rst, k.clk, k.mgt, k.coh, k.fab, k.mem, fun h => absurd (h.symm.trans (Sub.bit (i := 19) hm)) (by decide), k.out, k.freeCtr⟩

theorem Frame.set_out {m : Nat} {s0 s : State} {v} (hm : Sub 1048576 m) (k : Frame m s0 s) : Frame m s0 { s with out := v } :=
  ⟨k.pending, k.wf, k.lock, k.svn, k.lead, k.time, k.twins, k.ctxs, k.queues, k.fences, k.objs, k.xlt, k.ports, k.funcs, k.irq, k.plan, k.engines, k.rst, k.clk, k.mgt, k.coh, k.fab, k.mem, k.sels, fun h => absurd (h.symm.trans (Sub.bit (i := 20) hm)) (by decide), k.freeCtr⟩

theorem Frame.set_freeCtr {m : Nat} {s0 s : State} {v} (hm : Sub 2097152 m) (k : Frame m s0 s) : Frame m s0 { s with freeCtr := v } :=
  ⟨k.pending, k.wf, k.lock, k.svn, k.lead, k.time, k.twins, k.ctxs, k.queues, k.fences, k.objs, k.xlt, k.ports, k.funcs, k.irq, k.plan, k.engines, k.rst, k.clk, k.mgt, k.coh, k.fab, k.mem, k.sels, k.out, fun h => absurd (h.symm.trans (Sub.bit (i := 21) hm)) (by decide)⟩

end Sys2Proof.Machine
end

