-- ==== Sys2Proof/Laws/FrameOps.lean ====
section
/-! SUPPORT. Frame laws, one per operation (Sys2Proof/Laws/Frame.lean says what they state): register homes, events, interrupts, host and fabric packets, translation caches. -/

namespace Sys2Proof.Machine

variable {M : Nat} {s0 : State}


theorem State.setTwin_frame (s : State) (t : Side) (v : Twin) (hm : Sub 4 M)
    (w : OneLead s0 → OneLead (s.setTwin t v)) (fr : Frame M s0 s) : Frame M s0 (s.setTwin t v) :=
  Frame.set_twins (s := s) hm w fr

theorem State.twin_setTwin (s : State) (t : Side) (v : Twin) : (s.setTwin t v).twin t = v := by cases t <;> rfl
theorem State.twin_setTwin_other (s : State) (t : Side) (v : Twin) : (s.setTwin t v).twin t.other = s.twin t.other := by cases t <;> rfl
theorem State.leads_eq (s : State) (t : Side) : s.leads t = newLeads (s.twin t).state (s.twin t).prior := rfl
theorem OneLead.iff {s : State} (t : Side) : OneLead s ↔ (s.leads t = true → s.leads t.other = false) := by
  unfold OneLead
  cases t <;> simp only [Side.other] <;> cases s.leads .a <;> cases s.leads .b <;> simp

theorem State.modTwin_frame (s : State) (t : Side) (f : Twin → Twin) (hm : Sub 4 M)
    (w : newLeads (f (s.twin t)).state (f (s.twin t)).prior = newLeads (s.twin t).state (s.twin t).prior) (fr : Frame M s0 s) :
    Frame M s0 (s.modTwin t f) := by
  refine State.setTwin_frame _ _ _ hm (fun h => ?_) fr
  have := (OneLead.iff t).1 (fr.lead h)
  rw [OneLead.iff t, State.leads_eq, State.leads_eq, State.twin_setTwin, State.twin_setTwin_other, w]
  exact this

theorem State.modTwins_frame (s : State) (f g : Twin → Twin) (hm : Sub 4 M)
    (w : ∀ x y, (newLeads (f x).state (f x).prior && newLeads (g y).state (g y).prior) = false) (fr : Frame M s0 s) :
    Frame M s0 ((s.modTwin .a f).modTwin .b g) :=
  Frame.set_twins (s := s) hm (fun _ => w (s.twin .a) (s.twin .b)) fr

theorem boot_leads (a b : Bool) (p q : TwinState) : (newLeads (if a = true then .lead else .outOfService) p &&
    newLeads (if (!b) = true then .outOfService else if a = true then .active else .lead) q) = false := by
  cases a <;> cases b <;> rfl

theorem State.setPort_frame (s : State) (p : Side) (v : Port) (hm : Sub 256 M) (fr : Frame M s0 s) :
    Frame M s0 (State.setPort s p v) := by
  exact Frame.set_ports (s := s) hm fr

theorem State.modPort_frame (s : State) (p : Side) (f : Port → Port) (hm : Sub 256 M) (fr : Frame M s0 s) :
    Frame M s0 (State.modPort s p f) := by
  exact State.setPort_frame _ _ _ hm fr

theorem State.setCtx_frame (s : State) (n : Nat) (v : Ctx) (hm : Sub 8 M) (fr : Frame M s0 s) :
    Frame M s0 (State.setCtx s n v) := by
  exact Frame.set_ctxs (s := s) hm fr

theorem State.modCtx_frame (s : State) (n : Nat) (f : Ctx → Ctx) (hm : Sub 8 M) (fr : Frame M s0 s) :
    Frame M s0 (State.modCtx s n f) := by
  exact State.setCtx_frame _ _ _ hm fr

theorem State.setQueue_frame (s : State) (n : Nat) (v : Queue) (hm : Sub 16 M) (fr : Frame M s0 s) :
    Frame M s0 (State.setQueue s n v) := by
  exact Frame.set_queues (s := s) hm fr

theorem State.mapCtxs_frame (s : State) (f : Nat → Ctx → Ctx) (hm : Sub 8 M) (fr : Frame M s0 s) :
    Frame M s0 (State.mapCtxs s f) := by
  exact Frame.set_ctxs (s := s) hm fr

theorem State.mapFences_frame (s : State) (f : Nat → Fence → Fence) (hm : Sub 32 M) (fr : Frame M s0 s) :
    Frame M s0 (State.mapFences s f) := by
  exact Frame.set_fences (s := s) hm fr

theorem State.mapObjs_frame (s : State) (f : Nat → Obj → Obj) (hm : Sub 64 M) (fr : Frame M s0 s) :
    Frame M s0 (State.mapObjs s f) := by
  exact Frame.set_objs (s := s) hm fr

theorem State.mapFuncs_frame (s : State) (f : Nat → Func → Func) (hm : Sub 512 M) (fr : Frame M s0 s) :
    Frame M s0 (State.mapFuncs s f) := by
  exact Frame.set_funcs (s := s) hm fr

theorem State.keepFuncs_frame (s : State) (f : Nat × Func → Bool) (hm : Sub 512 M) (fr : Frame M s0 s) :
    Frame M s0 (State.keepFuncs s f) := by
  exact Frame.set_funcs (s := s) hm fr

theorem State.mapQueues_frame (s : State) (f : Nat → Queue → Queue) (hm : Sub 16 M) (fr : Frame M s0 s) :
    Frame M s0 (State.mapQueues s f) := by
  exact Frame.set_queues (s := s) hm fr

theorem State.modQueue_frame (s : State) (n : Nat) (f : Queue → Queue) (hm : Sub 16 M) (fr : Frame M s0 s) :
    Frame M s0 (State.modQueue s n f) := by
  exact State.setQueue_frame _ _ _ hm fr

theorem State.setFence_frame (s : State) (n : Nat) (v : Fence) (hm : Sub 32 M) (fr : Frame M s0 s) :
    Frame M s0 (State.setFence s n v) := by
  exact Frame.set_fences (s := s) hm fr

theorem State.modFence_frame (s : State) (n : Nat) (f : Fence → Fence) (hm : Sub 32 M) (fr : Frame M s0 s) :
    Frame M s0 (State.modFence s n f) := by
  exact State.setFence_frame _ _ _ hm fr

theorem State.setObj_frame (s : State) (n : Nat) (v : Obj) (hm : Sub 64 M) (fr : Frame M s0 s) :
    Frame M s0 (State.setObj s n v) := by
  exact Frame.set_objs (s := s) hm fr

theorem State.modObj_frame (s : State) (n : Nat) (f : Obj → Obj) (hm : Sub 64 M) (fr : Frame M s0 s) :
    Frame M s0 (State.modObj s n f) := by
  exact State.setObj_frame _ _ _ hm fr

theorem State.setFunc_frame (s : State) (p : Side) (f : Nat) (v : Func) (hm : Sub 512 M) (fr : Frame M s0 s) :
    Frame M s0 (State.setFunc s p f v) := by
  exact Frame.set_funcs (s := s) hm fr

theorem State.modFunc_frame (s : State) (p : Side) (f : Nat) (g : Func → Func) (hm : Sub 512 M) (fr : Frame M s0 s) :
    Frame M s0 (State.modFunc s p f g) := by
  exact State.setFunc_frame _ _ _ _ hm fr

theorem State.setVec_frame (s : State) (f v : Nat) (x : Vec) (hm : Sub 1024 M) (fr : Frame M s0 s) :
    Frame M s0 (State.setVec s f v x) := by
  exact Frame.set_irq (s := s) hm fr

theorem State.modVec_frame (s : State) (f v : Nat) (g : Vec → Vec) (hm : Sub 1024 M) (fr : Frame M s0 s) :
    Frame M s0 (State.modVec s f v g) := by
  exact State.setVec_frame _ _ _ _ hm fr

theorem State.setSlot_frame (s : State) (n : Nat) (v : PlanSlot) (hm : Sub 2048 M) (fr : Frame M s0 s) :
    Frame M s0 (State.setSlot s n v) := by
  exact Frame.set_plan (s := s) hm fr

theorem State.modSlot_frame (s : State) (n : Nat) (f : PlanSlot → PlanSlot) (hm : Sub 2048 M) (fr : Frame M s0 s) :
    Frame M s0 (State.modSlot s n f) := by
  exact State.setSlot_frame _ _ _ hm fr

theorem State.modEngine_frame (s : State) (n : Nat) (f : Engine → Engine) (hm : Sub 4096 M) (fr : Frame M s0 s) :
    Frame M s0 (State.modEngine s n f) := by
  exact Frame.set_engines (s := s) hm fr

theorem State.mapEngines_frame (s : State) (g : Engine → Engine) (hm : Sub 4096 M) (fr : Frame M s0 s) :
    Frame M s0 (State.mapEngines s g) := by
  exact Frame.set_engines (s := s) hm fr

theorem State.modCd_frame (s : State) (n : Nat) (f : Cd → Cd) (hm : Sub 8192 M) (fr : Frame M s0 s) :
    Frame M s0 (State.modCd s n f) := by
  exact Frame.set_rst (s := s) hm fr

theorem State.advanceGen_frame (s : State) (n : Nat) (hm : Sub 8192 M) (fr : Frame M s0 s) :
    Frame M s0 (State.advanceGen s n) := by
  exact Frame.set_rst (s := s) hm fr

theorem State.modPlan_frame (s : State) (f : Plan → Plan) (hm : Sub 2048 M) (fr : Frame M s0 s) :
    Frame M s0 (State.modPlan s f) := by
  exact Frame.set_plan (s := s) hm fr

theorem State.modXlt_frame (s : State) (f : Xlt → Xlt) (hm : Sub 128 M) (fr : Frame M s0 s) :
    Frame M s0 (State.modXlt s f) := by
  exact Frame.set_xlt (s := s) hm fr

theorem State.modClk_frame (s : State) (f : Clk → Clk) (hm : Sub 16384 M) (fr : Frame M s0 s) :
    Frame M s0 (State.modClk s f) := by
  exact Frame.set_clk (s := s) hm fr

theorem State.modRst_frame (s : State) (f : Rst → Rst) (hm : Sub 8192 M) (fr : Frame M s0 s) :
    Frame M s0 (State.modRst s f) := by
  exact Frame.set_rst (s := s) hm fr

theorem State.modMgt_frame (s : State) (f : Mgt → Mgt) (hm : Sub 32768 M)
    (w : s.mgt.credLock = true → (f s.mgt).credLock = true) (w2 : s.mgt.minSvn ≤ (f s.mgt).minSvn) (k : Frame M s0 s) :
    Frame M s0 (s.modMgt f) := Frame.set_mgt (s := s) hm w w2 k

theorem State.modIrq_frame (s : State) (f : Irq → Irq) (hm : Sub 1024 M) (fr : Frame M s0 s) :
    Frame M s0 (State.modIrq s f) := by
  exact Frame.set_irq (s := s) hm fr

theorem State.modTime_frame (s : State) (f : Time → Time) (hm : Sub 2 M) (fr : Frame M s0 s) :
    Frame M s0 (State.modTime s f) := by
  exact Frame.set_time (s := s) hm fr

theorem State.setMem_frame (s : State) (v : Mem) (hm : Sub 262144 M) (w : s0.mem.wf = true → v.wf = true) (k : Frame M s0 s) :
    Frame M s0 (s.setMem v) := Frame.set_mem (s := s) hm w k

theorem State.emit_frame (s : State) (o : Out) (hm : Sub 1048576 M) (fr : Frame M s0 s) :
    Frame M s0 (State.emit s o) := by
  exact Frame.set_out (s := s) hm fr

theorem State.emits_frame (s : State) (l : List Out) (hm : Sub 1048576 M) (fr : Frame M s0 s) :
    Frame M s0 (State.emits s l) := by
  exact Frame.set_out (s := s) hm fr

theorem State.free_frame (s : State) (bound : Nat) (hm : Sub 2097152 M) (fr : Frame M s0 s) :
    Frame M s0 (State.free s bound).2 := by
  exact Frame.set_freeCtr (s := s) hm fr

theorem State.freeBytes_frame (s : State) (n : Nat) (hm : Sub 2097152 M) (fr : Frame M s0 s) :
    Frame M s0 (State.freeBytes s n).2 := by
  exact Frame.set_freeCtr (s := s) hm fr

theorem State.stamp_frame (s : State) (hm : Sub 2 M) (fr : Frame M s0 s) :
    Frame M s0 (State.stamp s).2 := by
  unfold State.stamp
  split
  · exact fr
  · exact Frame.set_time (s := s) hm fr

theorem State.carry_frame (s : State) (c : Instr) (hm : Sub 2 M) (fr : Frame M s0 s) :
    Frame M s0 (State.carry s c) := by
  exact Frame.set_time (s := s) hm fr

theorem State.carryOnce_frame (s : State) (c : Instr) (hm : Sub 2 M) (fr : Frame M s0 s) :
    Frame M s0 (State.carryOnce s c) := by
  unfold State.carryOnce
  repeat' (first
    | with_reducible intro _ | with_reducible assumption | with_reducible apply State.carry_frame | with_reducible apply Frame.ite
    )

theorem State.stamped_frame (s : State) (c : Instr) (k : Nat → State → State) (hm : Sub 2 M) (hk : ∀ y0 y1, Frame M s0 y1 → Frame M s0 (k y0 y1)) (fr : Frame M s0 s) :
    Frame M s0 (State.stamped s c k) := by
  unfold State.stamped
  repeat' (first
    | with_reducible intro _ | with_reducible assumption | with_reducible apply State.stamp_frame
    | with_reducible apply State.carry_frame | with_reducible apply hk | with_reducible apply Frame.ite)

theorem State.dropSels_frame (s : State) (p : Side) (hm : Sub 524288 M) (fr : Frame M s0 s) :
    Frame M s0 (State.dropSels s p) := by
  exact Frame.set_sels (s := s) hm fr

theorem State.dropFnSels_frame (s : State) (p : Side) (f : Nat) (hm : Sub 524288 M) (fr : Frame M s0 s) :
    Frame M s0 (State.dropFnSels s p f) := by
  exact Frame.set_sels (s := s) hm fr

theorem State.dropSelsAt_frame (s : State) (offset : Nat) (hm : Sub 524288 M) (fr : Frame M s0 s) :
    Frame M s0 (State.dropSelsAt s offset) := by
  unfold State.dropSelsAt
  repeat' (first
    | with_reducible assumption | with_reducible apply Frame.set_sels)

theorem State.regErrAt_frame (s : State) (p : Side) (f space : Nat) (offset code : Nat) (hm : Sub 512 M) (fr : Frame M s0 s) :
    Frame M s0 (State.regErrAt s p f space offset code) := by
  unfold State.regErrAt
  repeat' (first
    | with_reducible assumption | with_reducible apply State.modFunc_frame)

theorem State.regErr_frame (s : State) (path : Path) (space offset code : Nat) (hm : Sub 512 M) (fr : Frame M s0 s) :
    Frame M s0 (State.regErr s path space offset code) := by
  unfold State.regErr
  repeat' (first
    | with_reducible assumption | with_reducible apply State.regErrAt_frame | split)

theorem State.aerPoison_frame (s : State) (path : Path) (hm : Sub 512 M) (fr : Frame M s0 s) :
    Frame M s0 (State.aerPoison s path) := by
  unfold State.aerPoison
  repeat' (first
    | with_reducible assumption | with_reducible apply State.modFunc_frame | split)

theorem State.aerAdvisory_frame (s : State) (p : Side) (hm : Sub 512 M) (fr : Frame M s0 s) :
    Frame M s0 (State.aerAdvisory s p) := by
  unfold State.aerAdvisory
  repeat' (first
    | with_reducible assumption | with_reducible apply State.modFunc_frame)

theorem State.log_frame (s : State) (stamp type code : Nat) (ctx : Option Nat) (sev d0 d1 : Nat) (hm : Sub 32768 M) (fr : Frame M s0 s) :
    Frame M s0 (State.log s stamp type code ctx sev d0 d1) := by
  unfold State.log
  repeat' (first
    | with_reducible intro _ | with_reducible assumption | with_reducible apply State.modMgt_frame | exact Nat.le_refl _)

theorem State.raise_frame (s : State) (f v : Nat) (o : Origin) (hm : Sub 1024 M) (fr : Frame M s0 s) :
    Frame M s0 (State.raise s f v o) := by
  unfold State.raise
  repeat' (first
    | with_reducible assumption | with_reducible apply State.modIrq_frame)

theorem State.raiseQueue_frame (s : State) (q : Nat) (hm : Sub 1024 M) (fr : Frame M s0 s) :
    Frame M s0 (State.raiseQueue s q) := by
  unfold State.raiseQueue
  repeat' (first
    | with_reducible intro _ | with_reducible assumption | with_reducible apply State.raise_frame | with_reducible apply Frame.ite
    )

theorem State.chip_frame (s : State) (n detail : Nat) (hm : Sub 41984 M) (fr : Frame M s0 s) :
    Frame M s0 (State.chip s n detail) := by
  unfold State.chip
  repeat' (first
    | with_reducible intro _ | with_reducible assumption | with_reducible apply State.modRst_frame
    | with_reducible apply State.raise_frame | with_reducible apply State.log_frame | with_reducible apply Frame.ite
    | exact Sub.tr (show Sub _ 41984 from rfl) hm)

theorem State.ctxReport_frame (s : State) (slot kind : Nat) (code stamp : Nat) (hm : Sub 1536 M) (fr : Frame M s0 s) :
    Frame M s0 (State.ctxReport s slot kind code stamp) := by
  unfold State.ctxReport
  repeat' (first
    | with_reducible assumption | with_reducible apply State.modFunc_frame | with_reducible apply State.raise_frame
    | exact Sub.tr (show Sub _ 1536 from rfl) hm)

theorem State.staleCtx_frame (s : State) (hm : Sub 8192 M) (fr : Frame M s0 s) :
    Frame M s0 (State.staleCtx s) := by
  unfold State.staleCtx
  repeat' (first
    | with_reducible assumption | with_reducible apply State.modRst_frame)

theorem State.staleQueue_frame (s : State) (hm : Sub 8192 M) (fr : Frame M s0 s) :
    Frame M s0 (State.staleQueue s) := by
  unfold State.staleQueue
  repeat' (first
    | with_reducible assumption | with_reducible apply State.modRst_frame)

theorem State.stalePasid_frame (s : State) (hm : Sub 8192 M) (fr : Frame M s0 s) :
    Frame M s0 (State.stalePasid s) := by
  unfold State.stalePasid
  repeat' (first
    | with_reducible assumption | with_reducible apply State.modRst_frame)

theorem State.stalePath_frame (s : State) (hm : Sub 8192 M) (fr : Frame M s0 s) :
    Frame M s0 (State.stalePath s) := by
  unfold State.stalePath
  repeat' (first
    | with_reducible assumption | with_reducible apply State.modRst_frame)

theorem State.staleDomain_frame (s : State) (hm : Sub 8192 M) (fr : Frame M s0 s) :
    Frame M s0 (State.staleDomain s) := by
  unfold State.staleDomain
  repeat' (first
    | with_reducible assumption | with_reducible apply State.modRst_frame)

theorem State.occur_frame (s : State) (t : Side) (src stamp code : Nat) (ctx : Option Nat) (detail : Nat) (hm : Sub 41988 M) (fr : Frame M s0 s) :
    Frame M s0 (State.occur s t src stamp code ctx detail) := by
  unfold State.occur
  repeat' (first
    | with_reducible intro _ | with_reducible assumption | with_reducible apply State.modTwin_frame
    | with_reducible apply State.chip_frame | with_reducible apply Frame.ite | exact Sub.tr (show Sub _ 41988 from rfl) hm
    | with_reducible exact rfl)

theorem State.occurLater_frame (s : State) (t : Side) (src : Fin 15) (code : Nat) (ctx : Option Nat) (detail : Nat) (hm : Sub 41990 M) (fr : Frame M s0 s) :
    Frame M s0 (State.occurLater s t src code ctx detail) := by
  unfold State.occurLater
  repeat' (first
    | with_reducible assumption | with_reducible apply State.modTime_frame | with_reducible apply State.occur_frame
    | exact Sub.tr (show Sub _ 41990 from rfl) hm)

theorem State.occurNow_frame (s : State) (t : Side) (src : Fin 15) (code : Nat) (ctx : Option Nat) (detail : Nat) (hm : Sub 41990 M) (fr : Frame M s0 s) :
    Frame M s0 (State.occurNow s t src code ctx detail) := by
  unfold State.occurNow
  repeat' (first
    | with_reducible intro _ | with_reducible assumption | with_reducible apply State.occurLater_frame
    | with_reducible apply State.modTime_frame | with_reducible apply State.occur_frame | with_reducible apply State.stamp_frame
    | with_reducible apply Frame.ite | exact Sub.tr (show Sub _ 41990 from rfl) hm)

theorem State.twinChanged_frame (s : State) (t : Side) (old new : TwinState) (hm : Sub 41984 M) (fr : Frame M s0 s) :
    Frame M s0 (State.twinChanged s t old new) := by
  unfold State.twinChanged
  repeat' (first
    | with_reducible intro _ | with_reducible assumption | with_reducible apply State.chip_frame
    | with_reducible apply State.log_frame | with_reducible apply Frame.ite | exact Sub.tr (show Sub _ 41984 from rfl) hm)

theorem State.setTwinState_frame (s : State) (t : Side) (new : TwinState) (hm : Sub 41988 M)
    (w : OneLead s0 → newLeads new (s.twin t).prior = true → s.leads t.other = false) (fr : Frame M s0 s) :
    Frame M s0 (s.setTwinState t new) := by
  refine State.twinChanged_frame _ _ _ _ (Sub.tr (show Sub _ 41988 from rfl) hm) ?_
  refine State.setTwin_frame _ _ _ (Sub.tr (show Sub _ 41988 from rfl) hm) (fun h => ?_) fr
  rw [OneLead.iff t, State.leads_eq, State.leads_eq, State.twin_setTwin, State.twin_setTwin_other]
  exact w h

theorem State.leads_of_twins {s t : State} (h : t.twins = s.twins) (x : Side) : t.leads x = s.leads x := by
  rw [State.leads_eq, State.leads_eq, State.twin, State.twin, h]

theorem State.leads_setTwinState (s : State) (t : Side) (n : TwinState) : (s.setTwinState t n).leads t = newLeads n (s.twin t).prior := by
  have h := (State.twinChanged_frame (M := 41984) (s0 := s.modTwin t fun w => { w with state := n }) _ t (s.twin t).state n rfl Frame.rfl).twins rfl
  exact (State.leads_of_twins h t).trans (by rw [State.leads_eq]; cases t <;> rfl)

theorem State.leads_detached (s : State) (t : Side) : (s.setTwinState t .detached).leads t.other.other = false := by
  have : t.other.other = t := by cases t <;> rfl
  rw [this, State.leads_setTwinState]; rfl

theorem State.leads_prior {M : Nat} {s0 s : State} {t : Side} (fr : Frame M s0 s) (d : (s.twin t).state = .detaching) :
    OneLead s0 → newLeads (s.twin t).prior (s.twin t).prior = true → s.leads t.other = false := by
  intro h k
  refine (OneLead.iff t).1 (fr.lead h) ?_
  rw [State.leads_eq, d]
  revert k
  generalize (s.twin t).prior = p
  cases p <;> decide

theorem State.leads_enter {P : Prop} (s : State) (t : Side) (p : TwinState) : P →
    newLeads (if (s.serves t || s.carries t) = true then .active else .lead) p = true → s.leads t = false := by
  intro _ h
  split at h
  · cases h
  · rename_i n
    simp only [Bool.or_eq_true, not_or, Bool.not_eq_true] at n
    revert n
    simp only [State.serves, State.carries, State.leads_eq]
    generalize (s.twin t).state = x
    generalize (s.twin t).prior = y
    cases x <;> cases y <;> decide

theorem State.beginDetach_frame (s : State) (t : Side) (hm : Sub 41988 M) (k : s.serves t = true) (fr : Frame M s0 s) :
    Frame M s0 ((s.modTwin t fun w => { w with prior := w.state }).setTwinState t .detaching) := by
  have e : newLeads (s.twin t).state (s.twin t).state = newLeads (s.twin t).state (s.twin t).prior := by
    revert k
    simp only [State.serves]
    generalize (s.twin t).state = x
    generalize (s.twin t).prior = y
    cases x <;> cases y <;> decide
  have f1 : Frame M s0 (s.modTwin t fun w => { w with prior := w.state }) :=
    State.modTwin_frame _ _ _ (Sub.tr (show Sub _ 41988 from rfl) hm) e fr
  refine State.setTwinState_frame _ _ _ hm (fun h j => ?_) f1
  have := (OneLead.iff t).1 (f1.lead h)
  refine this ?_
  rw [State.leads_eq]
  revert j k
  have h1 : ((s.modTwin t fun w => { w with prior := w.state }).twin t).prior = (s.twin t).state := by cases t <;> rfl
  have h2 : ((s.modTwin t fun w => { w with prior := w.state }).twin t).state = (s.twin t).state := by cases t <;> rfl
  rw [h1, h2]
  simp only [State.serves]
  generalize (s.twin t).state = x
  cases x <;> decide

theorem State.observe_frame (s : State) (slot op stamp : Nat) (hm : Sub 32776 M) (fr : Frame M s0 s) :
    Frame M s0 (State.observe s slot op stamp) := by
  unfold State.observe
  repeat' (first
    | with_reducible intro _ | with_reducible assumption | with_reducible apply State.setCtx_frame
    | with_reducible apply State.log_frame | with_reducible apply Frame.ite | exact Sub.tr (show Sub _ 32776 from rfl) hm)

theorem State.reach_frame (s : State) (us : Nat) (hm : Sub 2 M) (fr : Frame M s0 s) :
    Frame M s0 (State.reach s us) := by
  unfold State.reach
  repeat' (first
    | with_reducible assumption | with_reducible apply State.modTime_frame)

theorem State.inta1_frame (s : State) (p : Side) (hm : Sub 1048832 M) (fr : Frame M s0 s) :
    Frame M s0 (State.inta1 s p) := by
  unfold State.inta1
  repeat' (first
    | with_reducible intro _ | with_reducible assumption | with_reducible apply State.modPort_frame
    | with_reducible apply State.emit_frame | with_reducible apply Frame.ite | exact Sub.tr (show Sub _ 1048832 from rfl) hm)

theorem State.inta_frame (s : State) (hm : Sub 1048832 M) (fr : Frame M s0 s) :
    Frame M s0 (State.inta s) := by
  unfold State.inta
  repeat' (first
    | with_reducible assumption | with_reducible apply State.inta1_frame)

theorem eventRaised_frame (us : Nat) (s : State) (hm : Sub 1049858 M) (fr : Frame M s0 s) :
    Frame M s0 (eventRaised us s) := by
  unfold eventRaised
  repeat' (first
    | with_reducible assumption | with_reducible apply State.modVec_frame | with_reducible apply State.modIrq_frame
    | with_reducible apply State.reach_frame | with_reducible apply State.inta_frame
    | exact Sub.tr (show Sub _ 1049858 from rfl) hm | split)

theorem moderationRelease_frame (f v us : Nat) (s : State) (hm : Sub 1049858 M) (fr : Frame M s0 s) :
    Frame M s0 (moderationRelease f v us s) := by
  unfold moderationRelease
  repeat' (first
    | with_reducible assumption | with_reducible apply State.modVec_frame | with_reducible apply State.reach_frame
    | with_reducible apply State.inta_frame | exact Sub.tr (show Sub _ 1049858 from rfl) hm)

theorem State.deliver_frame (s : State) (f v : Nat) (hm : Sub 1049858 M) (fr : Frame M s0 s) :
    Frame M s0 (State.deliver s f v) := by
  unfold State.deliver
  repeat' (first
    | with_reducible assumption | with_reducible apply State.modPort_frame | with_reducible apply State.modIrq_frame
    | with_reducible apply State.setVec_frame | with_reducible apply State.stamp_frame | with_reducible apply State.emit_frame
    | with_reducible apply State.inta_frame | exact Sub.tr (show Sub _ 1049858 from rfl) hm | split)

theorem vectorDelivery_frame (c : Instr) (f v us : Nat) (s : State) (hm : Sub 1049858 M) (fr : Frame M s0 s) :
    Frame M s0 (vectorDelivery c f v us s) := by
  unfold vectorDelivery
  repeat' (first
    | with_reducible intro _ | with_reducible assumption | with_reducible apply State.deliver_frame
    | with_reducible apply State.reach_frame | with_reducible apply State.carry_frame | with_reducible apply Frame.ite
    | exact Sub.tr (show Sub _ 1049858 from rfl) hm)

theorem irqAck_frame (f value : Nat) (s : State) (hm : Sub 1049856 M) (fr : Frame M s0 s) :
    Frame M s0 (irqAck f value s) := by
  unfold irqAck
  repeat' (first
    | with_reducible assumption | with_reducible apply State.modVec_frame | with_reducible apply State.inta_frame
    | exact Sub.tr (show Sub _ 1049856 from rfl) hm)

theorem State.forgetDelay_frame (s : State) (slot : Nat) (hm : Sub 1024 M) (fr : Frame M s0 s) :
    Frame M s0 (State.forgetDelay s slot) := by
  unfold State.forgetDelay
  repeat' (first
    | with_reducible intro _ | with_reducible assumption | with_reducible apply State.modVec_frame
    | with_reducible apply Frame.foldl)

theorem State.twinGates_frame (s : State) (t : Side) (on : Bool) (hm : Sub 16384 M) (fr : Frame M s0 s) :
    Frame M s0 (State.twinGates s t on) := by
  unfold State.twinGates
  repeat' (first
    | with_reducible assumption | with_reducible apply State.modClk_frame)

theorem State.wakeTwin_frame (s : State) (t : Side) (hm : Sub 16388 M) (fr : Frame M s0 s) :
    Frame M s0 (State.wakeTwin s t) := by
  unfold State.wakeTwin
  repeat' (first
    | with_reducible intro _ | with_reducible assumption | with_reducible apply State.twinGates_frame
    | with_reducible apply State.modTwin_frame | with_reducible apply Frame.ite | exact Sub.tr (show Sub _ 16388 from rfl) hm
    | with_reducible exact rfl)

theorem State.dropEntries_frame (s : State) (p : Side) (t : JEntry → Bool) (hm : Sub 256 M) (fr : Frame M s0 s) :
    Frame M s0 (State.dropEntries s p t) := by
  unfold State.dropEntries
  repeat' (first
    | with_reducible assumption | with_reducible apply State.modPort_frame)

theorem State.noRoom_frame (s : State) (p : Side) (hm : Sub 256 M) (fr : Frame M s0 s) :
    Frame M s0 (State.noRoom s p) := by
  unfold State.noRoom
  repeat' (first
    | with_reducible assumption | with_reducible apply State.modPort_frame)

theorem State.hostWrite_frame (s : State) (p : Side) (pasid : Option Nat) (e : JEntry) (hm : Sub 1048832 M) (fr : Frame M s0 s) :
    Frame M s0 (State.hostWrite s p pasid e) := by
  unfold State.hostWrite
  repeat' (first
    | with_reducible assumption | with_reducible apply State.setPort_frame | with_reducible apply State.emit_frame
    | exact Sub.tr (show Sub _ 1048832 from rfl) hm)

theorem State.request_frame (s : State) (p : Side) (k : ReqKind) (ctx queue : Nat) (page : Option Nat) (hm : Sub 256 M) (fr : Frame M s0 s) :
    Frame M s0 (State.request s p k ctx queue page).2 := by
  unfold State.request
  repeat' (first
    | with_reducible assumption | with_reducible apply State.setPort_frame)

theorem State.inOrder_frame (s : State) (p : Side) (w : Waiting) (k : State → State) (hm : Sub 256 M) (hk : ∀ y0, Frame M s0 y0 → Frame M s0 (k y0)) (fr : Frame M s0 s) :
    Frame M s0 (State.inOrder s p w k) := by
  unfold State.inOrder
  repeat' (first
    | with_reducible intro _ | with_reducible assumption | with_reducible apply State.modPort_frame | with_reducible apply hk
    | with_reducible apply Frame.ite)

theorem State.inOrderAt_frame (s : State) (path : Path) (c : Instr) (k : State → State) (hm : Sub 256 M) (hk : ∀ y0, Frame M s0 y0 → Frame M s0 (k y0)) (fr : Frame M s0 s) :
    Frame M s0 (State.inOrderAt s path c k) := by
  unfold State.inOrderAt
  repeat' (first
    | with_reducible intro _ | with_reducible assumption | with_reducible apply State.inOrder_frame | with_reducible apply hk
    | split)

theorem State.fill_frame (s : State) (slot cva : Nat) (e level : Nat) (hm : Sub 128 M) (fr : Frame M s0 s) :
    Frame M s0 (State.fill s slot cva e level) := by
  unfold State.fill
  repeat' (first
    | with_reducible assumption | with_reducible apply State.modXlt_frame)

theorem State.fillWalk_frame (s : State) (slot cva : Nat) (a4 a5 : Nat) (hm : Sub 128 M) (fr : Frame M s0 s) :
    Frame M s0 (State.fillWalk s slot cva a4 a5) := by
  revert fr
  fun_induction State.fillWalk s slot cva a4 a5 <;> intro fr
  all_goals
    repeat' (first
    | with_reducible assumption | with_reducible apply State.modXlt_frame
    | with_reducible refine Frame.ih (P := Frame M s0 _) (by assumption) ?_)

theorem State.touch_frame (s : State) (slot cva : Nat) (acc : Access) (hm : Sub 128 M) (fr : Frame M s0 s) :
    Frame M s0 (State.touch s slot cva acc) := by
  unfold State.touch
  repeat' (first
    | with_reducible intro _ | with_reducible assumption | with_reducible apply State.fillWalk_frame
    | with_reducible apply State.fill_frame | with_reducible apply Frame.ite | split)

theorem State.purge_frame (s : State) (slot page pages : Nat) (hm : Sub 128 M) (fr : Frame M s0 s) :
    Frame M s0 (State.purge s slot page pages) := by
  unfold State.purge
  repeat' (first
    | with_reducible assumption | with_reducible apply State.modXlt_frame)

theorem State.purgeAll_frame (s : State) (slot : Nat) (hm : Sub 128 M) (fr : Frame M s0 s) :
    Frame M s0 (State.purgeAll s slot) := by
  unfold State.purgeAll
  repeat' (first
    | with_reducible assumption | with_reducible apply State.modXlt_frame)

theorem State.dropAtc_frame (s : State) (p : AtcEntry → Bool) (hm : Sub 128 M) (fr : Frame M s0 s) :
    Frame M s0 (State.dropAtc s p) := by
  unfold State.dropAtc
  repeat' (first
    | with_reducible assumption | with_reducible apply State.modXlt_frame)

theorem State.microFill_frame (s : State) (engine qn : Nat) (slot cva : Nat) (acc : Access) (hm : Sub 128 M) (fr : Frame M s0 s) :
    Frame M s0 (State.microFill s engine qn slot cva acc) := by
  unfold State.microFill
  repeat' (first
    | with_reducible assumption | with_reducible apply State.modXlt_frame)

theorem State.microDrop_frame (s : State) (engine : Nat) (hm : Sub 128 M) (fr : Frame M s0 s) :
    Frame M s0 (State.microDrop s engine) := by
  unfold State.microDrop
  repeat' (first
    | with_reducible assumption | with_reducible apply State.modXlt_frame)

theorem State.engineView_frame (s : State) (engine qn : Nat) (hm : Sub 128 M) (fr : Frame M s0 s) :
    Frame M s0 (State.engineView s engine qn) := by
  unfold State.engineView
  repeat' (first
    | with_reducible assumption | with_reducible apply State.modXlt_frame)

theorem State.purgeHost_frame (s : State) (slot : Nat) (hm : Sub 128 M) (fr : Frame M s0 s) :
    Frame M s0 (State.purgeHost s slot) := by
  unfold State.purgeHost
  repeat' (first
    | with_reducible assumption | with_reducible apply State.dropAtc_frame)

theorem State.atsRequest_frame (s : State) (slot page : Nat) (acc : Access) (queue pos unit : Nat) (hm : Sub 1048704 M) (fr : Frame M s0 s) :
    Frame M s0 (State.atsRequest s slot page acc queue pos unit) := by
  unfold State.atsRequest
  repeat' (first
    | with_reducible intro _ | with_reducible assumption | with_reducible apply State.modXlt_frame
    | with_reducible apply State.emit_frame | with_reducible apply Frame.ite | exact Sub.tr (show Sub _ 1048704 from rfl) hm)

theorem State.pageRequest_frame (s : State) (slot page : Nat) (acc : Access) (queue pos unit : Nat) (hm : Sub 128 M) (fr : Frame M s0 s) :
    Frame M s0 (State.pageRequest s slot page acc queue pos unit) := by
  unfold State.pageRequest
  repeat' (first
    | with_reducible intro _ | with_reducible assumption | with_reducible apply State.modXlt_frame
    | with_reducible apply Frame.ite)

theorem State.faultId_frame (s : State) (slot : Nat) (hm : Sub 128 M) (fr : Frame M s0 s) :
    Frame M s0 (State.faultId s slot).2 := by
  unfold State.faultId
  repeat' (first
    | with_reducible assumption | with_reducible apply State.modXlt_frame)

theorem State.recordFault_frame (s : State) (slot queue : Nat) (pos unit : Nat) (cva reason level : Nat) (acc : Access) (control ahead stall : Bool) (hm : Sub 128 M) (fr : Frame M s0 s) :
    Frame M s0 (State.recordFault s slot queue pos unit cva reason level acc control ahead stall) := by
  unfold State.recordFault
  repeat' (first
    | with_reducible assumption | with_reducible apply State.faultId_frame | with_reducible apply State.modXlt_frame
    | with_reducible refine Frame.of_snd (by assumption) ?_ | split | dsimp only)

theorem State.walkPoison_frame (s : State) (slot reason : Nat) (hm : Sub 41990 M) (fr : Frame M s0 s) :
    Frame M s0 (State.walkPoison s slot reason) := by
  unfold State.walkPoison
  repeat' (first
    | with_reducible intro _ | with_reducible assumption | with_reducible apply State.occurNow_frame
    | with_reducible apply Frame.ite)

theorem State.modFab_frame (s : State) (f : Fab → Fab) (hm : Sub 131072 M) (fr : Frame M s0 s) :
    Frame M s0 (State.modFab s f) := by
  exact Frame.set_fab (s := s) hm fr

theorem State.modLink_frame (s : State) (l : Nat) (f : FabLink → FabLink) (hm : Sub 131072 M) (fr : Frame M s0 s) :
    Frame M s0 (State.modLink s l f) := by
  unfold State.modLink
  repeat' (first
    | with_reducible assumption | with_reducible apply State.modFab_frame)

theorem State.modRoute_frame (s : State) (d : Nat) (f : Route → Route) (hm : Sub 131072 M) (fr : Frame M s0 s) :
    Frame M s0 (State.modRoute s d f) := by
  unfold State.modRoute
  repeat' (first
    | with_reducible assumption | with_reducible apply State.modFab_frame)

theorem State.modPath_frame (s : State) (d : Nat) (f : FabPath → FabPath) (hm : Sub 131072 M) (fr : Frame M s0 s) :
    Frame M s0 (State.modPath s d f) := by
  unfold State.modPath
  repeat' (first
    | with_reducible assumption | with_reducible apply State.modFab_frame)

theorem State.setRx_frame (s : State) (d : Nat) (v : FabRx) (hm : Sub 131072 M) (fr : Frame M s0 s) :
    Frame M s0 (State.setRx s d v) := by
  unfold State.setRx
  repeat' (first
    | with_reducible assumption | with_reducible apply State.modFab_frame)

theorem State.modGrant_frame (s : State) (g : Nat) (f : GrantEnt → GrantEnt) (hm : Sub 131072 M) (fr : Frame M s0 s) :
    Frame M s0 (State.modGrant s g f) := by
  unfold State.modGrant
  repeat' (first
    | with_reducible assumption | with_reducible apply State.modFab_frame)

theorem State.modGroup_frame (s : State) (g : Nat) (f : Group → Group) (hm : Sub 131072 M) (fr : Frame M s0 s) :
    Frame M s0 (State.modGroup s g f) := by
  unfold State.modGroup
  repeat' (first
    | with_reducible assumption | with_reducible apply State.modFab_frame)

theorem State.fabEmit_frame (s : State) (d : Nat) (p : FabPkt) (hm : Sub 1179648 M) (fr : Frame M s0 s) :
    Frame M s0 (State.fabEmit s d p) := by
  unfold State.fabEmit
  repeat' (first
    | with_reducible assumption | with_reducible apply State.modPath_frame | with_reducible apply State.emit_frame
    | exact Sub.tr (show Sub _ 1179648 from rfl) hm | split | dsimp only)

theorem State.fabSend_frame (s : State) (d : Nat) (p : FabPkt) (hm : Sub 1179648 M) (fr : Frame M s0 s) :
    Frame M s0 (State.fabSend s d p) := by
  unfold State.fabSend
  repeat' (first
    | with_reducible intro _ | with_reducible assumption | with_reducible apply State.modPath_frame
    | with_reducible apply State.fabEmit_frame | with_reducible apply Frame.ite | exact Sub.tr (show Sub _ 1179648 from rfl) hm)

theorem State.sendPfack_frame (s : State) (d : Nat) (p : FabPkt) (hm : Sub 1179648 M) (fr : Frame M s0 s) :
    Frame M s0 (State.sendPfack s d p) := by
  unfold State.sendPfack
  repeat' (first
    | with_reducible assumption | with_reducible apply State.fabSend_frame | with_reducible apply State.modPath_frame
    | with_reducible apply State.emit_frame | exact Sub.tr (show Sub _ 1179648 from rfl) hm | split | dsimp only)

theorem State.sendFence_frame (s : State) (d prev : Nat) (hm : Sub 1048576 M) (fr : Frame M s0 s) :
    Frame M s0 (State.sendFence s d prev) := by
  unfold State.sendFence
  repeat' (first
    | with_reducible assumption | with_reducible apply State.emit_frame | split | dsimp only)

theorem State.pathChange_frame (s : State) (d : Nat) (hm : Sub 1179648 M) (fr : Frame M s0 s) :
    Frame M s0 (State.pathChange s d) := by
  unfold State.pathChange
  repeat' (first
    | with_reducible assumption | with_reducible apply State.sendFence_frame | with_reducible apply State.modRoute_frame
    | with_reducible apply State.modPath_frame | with_reducible apply State.modFab_frame
    | exact Sub.tr (show Sub _ 1179648 from rfl) hm)

theorem State.pfackDeliver_frame (s : State) (d : Nat) (counts : List Nat) (hm : Sub 1179648 M) (fr : Frame M s0 s) :
    Frame M s0 (State.pfackDeliver s d counts) := by
  unfold State.pfackDeliver
  repeat' (first
    | with_reducible intro _ | with_reducible assumption | with_reducible apply State.modPath_frame
    | with_reducible apply State.fabEmit_frame | with_reducible apply State.emits_frame | with_reducible apply Frame.ite
    | exact Sub.tr (show Sub _ 1179648 from rfl) hm | with_reducible apply Frame.foldl | split)

theorem State.sendAck_frame (s : State) (h : FabHdr) (hm : Sub 1179648 M) (fr : Frame M s0 s) :
    Frame M s0 (State.sendAck s h) := by
  unfold State.sendAck
  repeat' (first
    | with_reducible assumption | with_reducible apply State.fabSend_frame)

theorem State.forward_frame (s : State) (h : FabHdr) (hm : Sub 1048576 M) (fr : Frame M s0 s) :
    Frame M s0 (State.forward s h) := by
  unfold State.forward
  repeat' (first
    | with_reducible intro _ | with_reducible assumption | with_reducible apply State.emit_frame | with_reducible apply Frame.ite
    | split)

theorem State.accept_frame (s : State) (h : FabHdr) (kind : Nat) (hm : Sub 1187840 M) (fr : Frame M s0 s) :
    Frame M s0 (State.accept s h kind).2 := by
  unfold State.accept
  repeat' (first
    | with_reducible assumption | with_reducible apply State.staleDomain_frame | with_reducible apply State.stalePath_frame
    | with_reducible apply State.forward_frame | with_reducible apply State.modFab_frame | with_reducible apply State.setRx_frame
    | exact Sub.tr (show Sub _ 1187840 from rfl) hm | split | dsimp only)

theorem State.deliverPkt_frame (s : State) (h : FabHdr) (kind : Nat) (k : State → State) (hm : Sub 1179648 M) (hk : ∀ y0, Frame M s0 y0 → Frame M s0 (k y0)) (fr : Frame M s0 s) :
    Frame M s0 (State.deliverPkt s h kind k) := by
  unfold State.deliverPkt
  repeat' (first
    | with_reducible intro _ | with_reducible assumption | with_reducible apply State.sendAck_frame | with_reducible apply hk
    | with_reducible apply Frame.ite)

theorem State.arrive_frame (s : State) (c : Instr) (h : FabHdr) (kind : Nat) (k : State → State) (hm : Sub 1221632 M) (hk : ∀ y0, Frame M s0 y0 → Frame M s0 (k y0)) (fr : Frame M s0 s) :
    Frame M s0 (State.arrive s c h kind k) := by
  unfold State.arrive
  repeat' (first
    | with_reducible intro _ | with_reducible assumption | with_reducible apply State.deliverPkt_frame
    | with_reducible apply State.accept_frame | with_reducible apply State.modFab_frame | with_reducible apply State.chip_frame
    | with_reducible apply hk | with_reducible apply Frame.ite | exact Sub.tr (show Sub _ 1221632 from rfl) hm)

theorem State.notifyFence_frame (s : State) (i : Nat) (hm : Sub 1179648 M) (fr : Frame M s0 s) :
    Frame M s0 (State.notifyFence s i) := by
  unfold State.notifyFence
  repeat' (first
    | with_reducible intro _ | with_reducible assumption | with_reducible apply State.fabSend_frame
    | with_reducible apply Frame.ite | with_reducible apply Frame.foldl)

end Sys2Proof.Machine
end

