-- ==== Sys2Proof/Laws/FrameCoh.lean ====
section
/-! SUPPORT. Frame laws, one per operation (Sys2Proof/Laws/Frame.lean says what they state): the coherence home and agents. -/

namespace Sys2Proof.Machine

variable {M : Nat} {s0 : State}

theorem State.modCoh_frame (s : State) (f : Coh → Coh) (hm : Sub 65536 M) (fr : Frame M s0 s) :
    Frame M s0 (State.modCoh s f) := by
  exact Frame.set_coh (s := s) hm fr

theorem State.setDir_frame (s : State) (line : Nat) (e : DirEntry) (hm : Sub 65536 M) (fr : Frame M s0 s) :
    Frame M s0 (State.setDir s line e) := by
  unfold State.setDir
  repeat' (first
    | with_reducible assumption | with_reducible apply State.modCoh_frame)

theorem State.modDir_frame (s : State) (line : Nat) (f : DirEntry → DirEntry) (hm : Sub 65536 M) (fr : Frame M s0 s) :
    Frame M s0 (State.modDir s line f) := by
  unfold State.modDir
  repeat' (first
    | with_reducible assumption | with_reducible apply State.setDir_frame)

theorem State.protoError_frame (s : State) (hm : Sub 65536 M) (fr : Frame M s0 s) :
    Frame M s0 (State.protoError s) := by
  unfold State.protoError
  repeat' (first
    | with_reducible assumption | with_reducible apply State.modCoh_frame)

theorem State.poisonLine_frame (s : State) (line : Nat) (hm : Sub 327680 M) (fr : Frame M s0 s) :
    Frame M s0 (State.poisonLine s line) := by
  unfold State.poisonLine
  repeat' (first
    | with_reducible intro _ | with_reducible assumption | with_reducible apply State.modCoh_frame
    | with_reducible apply State.setMem_frame | with_reducible apply Mem.mark_wf | exact Sub.tr (show Sub _ 327680 from rfl) hm
    | with_reducible refine Frame.wf (m := M) (s := s0) ?_ (by assumption))

theorem State.sendCoh_frame (s : State) (d : Nat) (m : CohMsg) (hm : Sub 1179648 M) (fr : Frame M s0 s) :
    Frame M s0 (State.sendCoh s d m) := by
  unfold State.sendCoh
  repeat' (first
    | with_reducible intro _ | with_reducible assumption | with_reducible apply State.fabSend_frame
    | with_reducible apply State.emit_frame | with_reducible apply Frame.ite | exact Sub.tr (show Sub _ 1179648 from rfl) hm)

theorem State.toAgent_frame (s : State) (ptr : Nat) (op : CohOp) (line req : Nat) (owner : Bool) (data : List Byte) (marks : Nat) (done : Bool) (hm : Sub 1179648 M) (fr : Frame M s0 s) :
    Frame M s0 (State.toAgent s ptr op line req owner data marks done) := by
  unfold State.toAgent
  repeat' (first
    | with_reducible assumption | with_reducible apply State.sendCoh_frame)

theorem State.tellAgent_frame (s : State) (ptr : Nat) (op : CohOp) (line : Nat) (hm : Sub 1179648 M) (fr : Frame M s0 s) :
    Frame M s0 (State.tellAgent s ptr op line) := by
  unfold State.tellAgent
  repeat' (first
    | with_reducible assumption | with_reducible apply State.toAgent_frame)

theorem State.sendLine_frame (s : State) (ptr : Nat) (op : CohOp) (line : Nat) (done : Bool) (hm : Sub 1179648 M) (fr : Frame M s0 s) :
    Frame M s0 (State.sendLine s ptr op line done) := by
  unfold State.sendLine
  repeat' (first
    | with_reducible assumption | with_reducible apply State.toAgent_frame)

theorem State.snoopHost_frame (s : State) (ptr line : Nat) (data : Bool) (hm : Sub 1048576 M) (fr : Frame M s0 s) :
    Frame M s0 (State.snoopHost s ptr line data) := by
  unfold State.snoopHost
  repeat' (first
    | with_reducible assumption | with_reducible apply State.emit_frame)

theorem State.ask_frame (s : State) (line ptr : Nat) (kind : AwaitKind) (req trans : Nat) (hm : Sub 1245184 M) (fr : Frame M s0 s) :
    Frame M s0 (State.ask s line ptr kind req trans) := by
  unfold State.ask
  repeat' (first
    | with_reducible assumption | with_reducible apply State.tellAgent_frame | with_reducible apply State.snoopHost_frame
    | with_reducible apply State.toAgent_frame | with_reducible apply State.modDir_frame
    | exact Sub.tr (show Sub _ 1245184 from rfl) hm | split)

theorem State.askAll_frame (s : State) (line : Nat) (l : List Nat) (kind : AwaitKind) (req trans : Nat) (hm : Sub 1245184 M) (fr : Frame M s0 s) :
    Frame M s0 (State.askAll s line l kind req trans) := by
  unfold State.askAll
  repeat' (first
    | with_reducible intro _ | with_reducible assumption | with_reducible apply State.ask_frame | with_reducible apply Frame.foldl
    )

theorem State.newTrans_frame (s : State) (line : Nat) (t : TransEnd) (hm : Sub 65536 M) (fr : Frame M s0 s) :
    Frame M s0 (State.newTrans s line t).2 := by
  unfold State.newTrans
  repeat' (first
    | with_reducible assumption | with_reducible apply State.modDir_frame | with_reducible apply State.modCoh_frame)

theorem State.endTrans_frame (s : State) (line n : Nat) (hm : Sub 1245184 M) (fr : Frame M s0 s) :
    Frame M s0 (State.endTrans s line n) := by
  unfold State.endTrans
  repeat' (first
    | with_reducible intro _ | with_reducible assumption | with_reducible apply State.tellAgent_frame
    | with_reducible apply State.setDir_frame | with_reducible apply Frame.ite | exact Sub.tr (show Sub _ 1245184 from rfl) hm
    | split)

theorem State.serveRdx_frame (s : State) (line : Nat) (o : Obj) (r : Nat) (hm : Sub 1245184 M) (fr : Frame M s0 s) :
    Frame M s0 (State.serveRdx s line o r) := by
  unfold State.serveRdx
  repeat' (first
    | with_reducible intro _ | with_reducible assumption | with_reducible apply State.newTrans_frame
    | with_reducible apply State.endTrans_frame | with_reducible apply State.sendLine_frame
    | with_reducible apply State.modDir_frame | with_reducible apply State.askAll_frame | with_reducible apply State.ask_frame
    | with_reducible apply Frame.ite | exact Sub.tr (show Sub _ 1245184 from rfl) hm
    | with_reducible refine Frame.of_snd (by assumption) ?_ | split | dsimp only)

theorem State.serveUpg_frame (s : State) (line : Nat) (o : Obj) (r : Nat) (hm : Sub 1245184 M) (fr : Frame M s0 s) :
    Frame M s0 (State.serveUpg s line o r) := by
  unfold State.serveUpg
  repeat' (first
    | with_reducible assumption | with_reducible apply State.tellAgent_frame | with_reducible apply State.newTrans_frame
    | with_reducible apply State.endTrans_frame | with_reducible apply State.askAll_frame
    | with_reducible apply State.modDir_frame | exact Sub.tr (show Sub _ 1245184 from rfl) hm)

theorem State.serve_frame (s : State) (line : Nat) (o : Obj) (op : CohOp) (r : Nat) (hm : Sub 1245184 M) (fr : Frame M s0 s) :
    Frame M s0 (State.serve s line o op r) := by
  unfold State.serve
  repeat' (first
    | with_reducible intro _ | with_reducible assumption | with_reducible apply State.protoError_frame
    | with_reducible apply State.serveUpg_frame | with_reducible apply State.serveRdx_frame
    | with_reducible apply State.sendLine_frame | with_reducible apply State.newTrans_frame
    | with_reducible apply State.setDir_frame | with_reducible apply State.modDir_frame | with_reducible apply State.ask_frame
    | with_reducible apply Frame.ite | exact Sub.tr (show Sub _ 1245184 from rfl) hm | split)

theorem State.makeRoom_frame (s : State) (ctx line : Nat) (hm : Sub 65536 M) (fr : Frame M s0 s) :
    Frame M s0 (State.makeRoom s ctx line) := by
  unfold State.makeRoom
  repeat' (first
    | with_reducible intro _ | with_reducible assumption | with_reducible apply State.modCoh_frame
    | with_reducible apply State.modDir_frame | with_reducible apply Frame.ite | split)

theorem State.request1_frame (s : State) (line : Nat) (o : Obj) (op : CohOp) (r : Nat) (hm : Sub 1245184 M) (fr : Frame M s0 s) :
    Frame M s0 (State.request1 s line o op r) := by
  unfold State.request1
  repeat' (first
    | with_reducible intro _ | with_reducible assumption | with_reducible apply State.makeRoom_frame
    | with_reducible apply State.setDir_frame | with_reducible apply State.modCoh_frame | with_reducible apply State.modDir_frame
    | with_reducible apply State.serve_frame | with_reducible apply Frame.ite | exact Sub.tr (show Sub _ 1245184 from rfl) hm)

theorem State.retryFull_frame (s : State) (hm : Sub 1245184 M) (fr : Frame M s0 s) :
    Frame M s0 (State.retryFull s) := by
  unfold State.retryFull
  repeat' (first
    | with_reducible intro _ | with_reducible assumption | with_reducible apply State.request1_frame
    | with_reducible apply State.makeRoom_frame | with_reducible apply State.modCoh_frame | with_reducible apply Frame.ite
    | exact Sub.tr (show Sub _ 1245184 from rfl) hm | with_reducible apply Frame.foldl | split)

theorem State.drainLine_frame (s : State) (line a3 : Nat) (hm : Sub 1245184 M) (fr : Frame M s0 s) :
    Frame M s0 (State.drainLine s line a3) := by
  revert fr
  fun_induction State.drainLine s line a3 <;> intro fr
  all_goals
    repeat' (first
    | with_reducible assumption | with_reducible apply State.protoError_frame | with_reducible apply State.request1_frame
    | with_reducible apply State.modDir_frame | with_reducible apply State.setDir_frame
    | exact Sub.tr (show Sub _ 1245184 from rfl) hm | with_reducible refine Frame.ih (P := Frame M s0 _) (by assumption) ?_)

theorem State.drain_frame (s : State) (line : Nat) (hm : Sub 1245184 M) (fr : Frame M s0 s) :
    Frame M s0 (State.drain s line) := by
  unfold State.drain
  repeat' (first
    | with_reducible assumption | with_reducible apply State.retryFull_frame | with_reducible apply State.drainLine_frame)

theorem State.recall_frame (s : State) (line : Nat) (o : Obj) (keep : Option Nat) (hm : Sub 1245184 M) (fr : Frame M s0 s) :
    Frame M s0 (State.recall s line o keep) := by
  unfold State.recall
  repeat' (first
    | with_reducible intro _ | with_reducible assumption | with_reducible apply State.ask_frame | with_reducible apply Frame.ite
    | with_reducible apply Frame.foldl)

theorem State.fetchOwner_frame (s : State) (line : Nat) (except : Option Nat) (hm : Sub 1245184 M) (fr : Frame M s0 s) :
    Frame M s0 (State.fetchOwner s line except) := by
  unfold State.fetchOwner
  repeat' (first
    | with_reducible intro _ | with_reducible assumption | with_reducible apply State.ask_frame | with_reducible apply Frame.ite
    | split)

theorem State.beginBlock_frame (s : State) (line : Nat) (o : Obj) (b : BlockOp) (hm : Sub 1245184 M) (fr : Frame M s0 s) :
    Frame M s0 (State.beginBlock s line o b) := by
  unfold State.beginBlock
  repeat' (first
    | with_reducible intro _ | with_reducible assumption | with_reducible apply State.fetchOwner_frame
    | with_reducible apply State.recall_frame | with_reducible apply State.ask_frame | with_reducible apply Frame.ite
    | with_reducible apply Frame.foldl | split)

theorem State.hostData_frame (s : State) (p : Side) (line : Nat) (half : Bool) (hm : Sub 1048576 M) (fr : Frame M s0 s) :
    Frame M s0 (State.hostData s p line half) := by
  unfold State.hostData
  repeat' (first
    | with_reducible assumption | with_reducible apply State.emit_frame)

theorem State.hostPut_frame (s : State) (line : Nat) (half : Bool) (data : List Byte) (poison : Bool) (hm : Sub 262144 M) (fr : Frame M s0 s) :
    Frame M s0 (State.hostPut s line half data poison) := by
  unfold State.hostPut
  repeat' (first
    | with_reducible intro _ | with_reducible assumption | with_reducible apply State.setMem_frame
    | with_reducible apply Mem.store_wf | with_reducible refine Frame.wf (m := M) (s := s0) ?_ (by assumption))

theorem State.endHost_frame (s : State) (line : Nat) (o : Obj) (p : Side) (half : Bool) (r : HostReq) (hm : Sub 1376768 M) (fr : Frame M s0 s) :
    Frame M s0 (State.endHost s line o p half r) := by
  unfold State.endHost
  repeat' (first
    | with_reducible intro _ | with_reducible assumption | with_reducible apply State.aerAdvisory_frame
    | with_reducible apply State.hostData_frame | with_reducible apply State.hostPut_frame
    | with_reducible apply State.modDir_frame | with_reducible apply State.modCoh_frame | with_reducible apply State.setDir_frame
    | with_reducible apply State.emit_frame | with_reducible apply Frame.ite | exact Sub.tr (show Sub _ 1376768 from rfl) hm
    | split)

theorem State.finishBlock_frame (s : State) (line : Nat) (hm : Sub 1507840 M) (fr : Frame M s0 s) :
    Frame M s0 (State.finishBlock s line) := by
  unfold State.finishBlock
  repeat' (first
    | with_reducible intro _ | with_reducible assumption | with_reducible apply State.request1_frame
    | with_reducible apply State.endHost_frame | with_reducible apply State.setDir_frame | with_reducible apply State.modDir_frame
    | with_reducible apply State.drain_frame | with_reducible apply Frame.ite | exact Sub.tr (show Sub _ 1507840 from rfl) hm
    | split)

theorem State.startBlock_frame (s : State) (line : Nat) (hm : Sub 1507840 M) (fr : Frame M s0 s) :
    Frame M s0 (State.startBlock s line) := by
  unfold State.startBlock
  repeat' (first
    | with_reducible intro _ | with_reducible assumption | with_reducible apply State.finishBlock_frame
    | with_reducible apply State.beginBlock_frame | with_reducible apply State.makeRoom_frame
    | with_reducible apply State.setDir_frame | with_reducible apply Frame.ite | exact Sub.tr (show Sub _ 1507840 from rfl) hm
    | split)

theorem State.answered_frame (s : State) (line : Nat) (a : Await) (hm : Sub 1507840 M) (fr : Frame M s0 s) :
    Frame M s0 (State.answered s line a) := by
  unfold State.answered
  repeat' (first
    | with_reducible intro _ | with_reducible assumption | with_reducible apply State.finishBlock_frame
    | with_reducible apply State.retryFull_frame | with_reducible apply State.endTrans_frame
    | with_reducible apply State.modDir_frame | with_reducible apply Frame.ite | exact Sub.tr (show Sub _ 1507840 from rfl) hm)

theorem State.countLate_frame (s : State) (late : Bool) (hm : Sub 65536 M) (fr : Frame M s0 s) :
    Frame M s0 (State.countLate s late) := by
  unfold State.countLate
  repeat' (first
    | with_reducible intro _ | with_reducible assumption | with_reducible apply State.modCoh_frame
    | with_reducible apply Frame.ite)

theorem State.takeInvAck_frame (s : State) (line src : Nat) (hm : Sub 1507840 M) (fr : Frame M s0 s) :
    Frame M s0 (State.takeInvAck s line src) := by
  unfold State.takeInvAck
  repeat' (first
    | with_reducible intro _ | with_reducible assumption | with_reducible apply State.protoError_frame
    | with_reducible apply State.answered_frame | with_reducible apply State.modDir_frame | with_reducible apply Frame.ite
    | exact Sub.tr (show Sub _ 1507840 from rfl) hm | split)

theorem State.takeMiss_frame (s : State) (line src : Nat) (hm : Sub 1507840 M) (fr : Frame M s0 s) :
    Frame M s0 (State.takeMiss s line src) := by
  unfold State.takeMiss
  repeat' (first
    | with_reducible intro _ | with_reducible assumption | with_reducible apply State.takeInvAck_frame
    | with_reducible apply State.poisonLine_frame | with_reducible apply State.answered_frame
    | with_reducible apply State.sendLine_frame | with_reducible apply State.modDir_frame | with_reducible apply Frame.ite
    | exact Sub.tr (show Sub _ 1507840 from rfl) hm | split)

theorem State.takeFwdDone_frame (s : State) (line src req : Nat) (k : FwdKind) (hm : Sub 1507840 M) (fr : Frame M s0 s) :
    Frame M s0 (State.takeFwdDone s line src req k) := by
  unfold State.takeFwdDone
  repeat' (first
    | with_reducible intro _ | with_reducible assumption | with_reducible apply State.protoError_frame
    | with_reducible apply State.tellAgent_frame | with_reducible apply State.answered_frame
    | with_reducible apply State.modDir_frame | with_reducible apply Frame.ite | exact Sub.tr (show Sub _ 1507840 from rfl) hm
    | split)

theorem State.takeSnpRsp_frame (s : State) (line src : Nat) (data : List Byte) (marks : Nat) (keep : Bool) (hm : Sub 1507840 M) (fr : Frame M s0 s) :
    Frame M s0 (State.takeSnpRsp s line src data marks keep) := by
  unfold State.takeSnpRsp
  repeat' (first
    | with_reducible intro _ | with_reducible assumption | with_reducible apply State.protoError_frame
    | with_reducible apply State.answered_frame | with_reducible apply State.setMem_frame
    | with_reducible apply State.modDir_frame | with_reducible apply Frame.ite | with_reducible apply Mem.putLine_wf
    | exact Sub.tr (show Sub _ 1507840 from rfl) hm | with_reducible refine Frame.wf (m := M) (s := s0) ?_ (by assumption) | split
    )

theorem State.takeBiRsp_frame (s : State) (line : Nat) (p : Side) (rsp : CxlMeta) (hm : Sub 1507840 M) (fr : Frame M s0 s) :
    Frame M s0 (State.takeBiRsp s line p rsp) := by
  unfold State.takeBiRsp
  repeat' (first
    | with_reducible intro _ | with_reducible assumption | with_reducible apply State.protoError_frame
    | with_reducible apply State.answered_frame | with_reducible apply State.modDir_frame | with_reducible apply Frame.ite
    | exact Sub.tr (show Sub _ 1507840 from rfl) hm | split)

theorem State.takePut_frame (s : State) (line src : Nat) (op : CohOp) (data : List Byte) (marks : Nat) (hm : Sub 1507328 M) (fr : Frame M s0 s) :
    Frame M s0 (State.takePut s line src op data marks) := by
  unfold State.takePut
  repeat' (first
    | with_reducible intro _ | with_reducible assumption | with_reducible apply State.tellAgent_frame
    | with_reducible apply State.retryFull_frame | with_reducible apply State.modCoh_frame
    | with_reducible apply State.setMem_frame | with_reducible apply State.setDir_frame | with_reducible apply Frame.ite
    | with_reducible apply Mem.putLine_wf | exact Sub.tr (show Sub _ 1507328 from rfl) hm
    | with_reducible refine Frame.wf (m := M) (s := s0) ?_ (by assumption))

theorem State.answerDead_frame (s : State) (line a3 : Nat) (hm : Sub 1507840 M) (fr : Frame M s0 s) :
    Frame M s0 (State.answerDead s line a3) := by
  revert fr
  fun_induction State.answerDead s line a3 <;> intro fr
  all_goals
    repeat' (first
    | with_reducible intro _ | with_reducible assumption | with_reducible apply State.takeInvAck_frame
    | with_reducible apply State.takeMiss_frame | with_reducible apply State.answered_frame
    | with_reducible apply State.modDir_frame | with_reducible apply Frame.ite | exact Sub.tr (show Sub _ 1507840 from rfl) hm
    | with_reducible refine Frame.ih (P := Frame M s0 _) (by assumption) ?_ | split | dsimp +zetaDelta only)

theorem State.settleLine_frame (s : State) (line : Nat) (hm : Sub 1507840 M) (fr : Frame M s0 s) :
    Frame M s0 (State.settleLine s line) := by
  unfold State.settleLine
  repeat' (first
    | with_reducible intro _ | with_reducible assumption | with_reducible apply State.answerDead_frame
    | with_reducible apply Frame.ite)

theorem State.sweepLine_frame (s : State) (a line : Nat) (hm : Sub 1507328 M) (fr : Frame M s0 s) :
    Frame M s0 (State.sweepLine s a line) := by
  unfold State.sweepLine
  repeat' (first
    | with_reducible intro _ | with_reducible assumption | with_reducible apply State.poisonLine_frame
    | with_reducible apply State.setDir_frame | with_reducible apply State.ask_frame | with_reducible apply Frame.ite
    | exact Sub.tr (show Sub _ 1507328 from rfl) hm | split)

theorem State.sweep_frame (s : State) (a : Nat) (all : Bool) (hm : Sub 1507328 M) (fr : Frame M s0 s) :
    Frame M s0 (State.sweep s a all) := by
  unfold State.sweep
  repeat' (first
    | with_reducible intro _ | with_reducible assumption | with_reducible apply State.sweepLine_frame
    | with_reducible apply State.modCoh_frame | exact Sub.tr (show Sub _ 1507328 from rfl) hm | with_reducible apply Frame.foldl)

theorem State.declareDead_frame (s : State) (st a : Nat) (hm : Sub 1549824 M) (fr : Frame M s0 s) :
    Frame M s0 (State.declareDead s st a) := by
  unfold State.declareDead
  repeat' (first
    | with_reducible intro _ | with_reducible assumption | with_reducible apply State.settleLine_frame
    | with_reducible apply State.modCoh_frame | with_reducible apply State.sweep_frame | with_reducible apply State.chip_frame
    | with_reducible apply Frame.ite | exact Sub.tr (show Sub _ 1549824 from rfl) hm | with_reducible apply Frame.foldl)

theorem State.comeBack_frame (s : State) (l : List Nat) (hm : Sub 65536 M) (fr : Frame M s0 s) :
    Frame M s0 (State.comeBack s l) := by
  unfold State.comeBack
  repeat' (first
    | with_reducible assumption | with_reducible apply State.modCoh_frame)

theorem State.reviveAgent_frame (s : State) (a : Nat) (hm : Sub 1507328 M) (fr : Frame M s0 s) :
    Frame M s0 (State.reviveAgent s a) := by
  unfold State.reviveAgent
  repeat' (first
    | with_reducible intro _ | with_reducible assumption | with_reducible apply State.modCoh_frame
    | with_reducible apply State.sweep_frame | with_reducible apply Frame.ite | exact Sub.tr (show Sub _ 1507328 from rfl) hm)

theorem homeTimeout_frame (a : Nat) (s : State) (hm : Sub 1549826 M) (fr : Frame M s0 s) :
    Frame M s0 (homeTimeout a s) := by
  unfold homeTimeout
  repeat' (first
    | with_reducible intro _ | with_reducible assumption | with_reducible apply State.declareDead_frame
    | with_reducible apply State.stamped_frame | with_reducible apply Frame.ite | exact Sub.tr (show Sub _ 1549826 from rfl) hm)

theorem State.deferAccess_frame (s : State) (w : Waiting) (lines : List (Nat × Bool)) (hm : Sub 65536 M) (fr : Frame M s0 s) :
    Frame M s0 (State.deferAccess s w lines) := by
  unfold State.deferAccess
  repeat' (first
    | with_reducible intro _ | with_reducible assumption | with_reducible apply State.modCoh_frame
    | with_reducible apply State.modDir_frame | with_reducible apply Frame.foldl)

theorem State.uncached_frame (s : State) (w : Waiting) (reads : List (Nat × Nat)) (writes : List (Nat × Nat)) (k : State → State) (hm : Sub 65536 M) (hk : ∀ y0, Frame M s0 y0 → Frame M s0 (k y0)) (fr : Frame M s0 s) :
    Frame M s0 (State.uncached s w reads writes k) := by
  unfold State.uncached
  repeat' (first
    | with_reducible intro _ | with_reducible assumption | with_reducible apply State.deferAccess_frame | with_reducible apply hk
    | with_reducible apply Frame.ite | split)

theorem State.releaseGroup_frame (s : State) (g : Nat) (lines : List Nat) (hm : Sub 1245184 M) (fr : Frame M s0 s) :
    Frame M s0 (State.releaseGroup s g lines) := by
  unfold State.releaseGroup
  repeat' (first
    | with_reducible intro _ | with_reducible assumption | with_reducible apply State.modCoh_frame
    | with_reducible apply State.modDir_frame | with_reducible apply State.drain_frame
    | exact Sub.tr (show Sub _ 1245184 from rfl) hm | with_reducible apply Frame.foldl)

theorem State.setAline_frame (s : State) (x : AgentLine) (hm : Sub 65536 M) (fr : Frame M s0 s) :
    Frame M s0 (State.setAline s x) := by
  unfold State.setAline
  repeat' (first
    | with_reducible assumption | with_reducible apply State.modCoh_frame)

theorem State.toHome_frame (s : State) (x : AgentLine) (op : CohOp) (data : List Byte) (marks req : Nat) (late : Bool) (hm : Sub 1245184 M) (fr : Frame M s0 s) :
    Frame M s0 (State.toHome s x op data marks req late) := by
  unfold State.toHome
  repeat' (first
    | with_reducible intro _ | with_reducible assumption | with_reducible apply State.sendCoh_frame
    | with_reducible apply State.modCoh_frame | with_reducible apply Frame.ite | exact Sub.tr (show Sub _ 1245184 from rfl) hm)

theorem State.toPeer_frame (s : State) (x : AgentLine) (ptr : Nat) (op : CohOp) (data : List Byte) (marks req : Nat) (owner : Bool) (hm : Sub 1179648 M) (fr : Frame M s0 s) :
    Frame M s0 (State.toPeer s x ptr op data marks req owner) := by
  unfold State.toPeer
  repeat' (first
    | with_reducible assumption | with_reducible apply State.sendCoh_frame)

theorem State.settleAline_frame (s : State) (x : AgentLine) (hm : Sub 1245184 M) (fr : Frame M s0 s) :
    Frame M s0 (State.settleAline s x) := by
  unfold State.settleAline
  repeat' (first
    | with_reducible intro _ | with_reducible assumption | with_reducible apply State.setAline_frame
    | with_reducible apply State.toHome_frame | with_reducible apply State.emits_frame | with_reducible apply Frame.ite
    | exact Sub.tr (show Sub _ 1245184 from rfl) hm)

theorem State.uncachedRead_frame (s : State) (a : Agent) (home line : Nat) (hm : Sub 1179648 M) (fr : Frame M s0 s) :
    Frame M s0 (State.uncachedRead s a home line) := by
  unfold State.uncachedRead
  repeat' (first
    | with_reducible assumption | with_reducible apply State.fabSend_frame | with_reducible apply State.modFab_frame
    | exact Sub.tr (show Sub _ 1179648 from rfl) hm | split)

theorem State.uncachedWrite_frame (s : State) (home line off : Nat) (data : List Byte) (hm : Sub 1179648 M) (fr : Frame M s0 s) :
    Frame M s0 (State.uncachedWrite s home line off data) := by
  unfold State.uncachedWrite
  repeat' (first
    | with_reducible assumption | with_reducible apply State.fabSend_frame | split)

theorem State.evictFor_frame (s : State) (a : Agent) (ctx : Nat) (evict : State → AgentLine → State) (hm : Sub 0 M) (hevict : ∀ y0 y1, Frame M s0 y0 → Frame M s0 (evict y0 y1)) (fr : Frame M s0 s) :
    Frame M s0 (State.evictFor s a ctx evict) := by
  unfold State.evictFor
  repeat' (first
    | with_reducible intro _ | with_reducible assumption | with_reducible apply hevict | with_reducible apply Frame.ite | split)

theorem State.evictLine_frame (s : State) (x : AgentLine) (hm : Sub 1245184 M) (fr : Frame M s0 s) :
    Frame M s0 (State.evictLine s x) := by
  unfold State.evictLine
  repeat' (first
    | with_reducible assumption | with_reducible apply State.setAline_frame | with_reducible apply State.toHome_frame
    | exact Sub.tr (show Sub _ 1245184 from rfl) hm | split)

theorem agentRead_frame (a : Agent) (ctx home line : Nat) (s : State) (hm : Sub 1245184 M) (fr : Frame M s0 s) :
    Frame M s0 (agentRead a ctx home line s) := by
  unfold agentRead
  repeat' (first
    | with_reducible intro _ | with_reducible assumption | with_reducible apply State.uncachedRead_frame
    | with_reducible apply State.settleAline_frame | with_reducible apply State.evictLine_frame
    | with_reducible apply State.evictFor_frame | with_reducible apply State.setAline_frame | with_reducible apply Frame.ite
    | exact Sub.tr (show Sub _ 1245184 from rfl) hm | split | dsimp only)

theorem agentWrite_frame (a : Agent) (ctx home : Nat) (line off : Nat) (data : List Byte) (s : State) (hm : Sub 1245184 M) (fr : Frame M s0 s) :
    Frame M s0 (agentWrite a ctx home line off data s) := by
  unfold agentWrite
  repeat' (first
    | with_reducible intro _ | with_reducible assumption | with_reducible apply State.uncachedWrite_frame
    | with_reducible apply State.settleAline_frame | with_reducible apply State.evictLine_frame
    | with_reducible apply State.evictFor_frame | with_reducible apply State.setAline_frame | with_reducible apply Frame.ite
    | exact Sub.tr (show Sub _ 1245184 from rfl) hm | split | dsimp only)

theorem agentEvict_frame (a : Agent) (home line : Nat) (s : State) (hm : Sub 1245184 M) (fr : Frame M s0 s) :
    Frame M s0 (agentEvict a home line s) := by
  unfold agentEvict
  repeat' (first
    | with_reducible assumption | with_reducible apply State.evictLine_frame)

theorem State.missHome_frame (s : State) (x : AgentLine) (star late : Bool) (hm : Sub 1245184 M) (fr : Frame M s0 s) :
    Frame M s0 (State.missHome s x star late) := by
  unfold State.missHome
  repeat' (first
    | with_reducible assumption | with_reducible apply State.toHome_frame)

theorem State.passData_frame (s : State) (x : AgentLine) (r : Nat) (op : CohOp) (k : FwdKind) (late : Bool) (hm : Sub 1245184 M) (fr : Frame M s0 s) :
    Frame M s0 (State.passData s x r op k late) := by
  unfold State.passData
  repeat' (first
    | with_reducible assumption | with_reducible apply State.toHome_frame | with_reducible apply State.toPeer_frame
    | exact Sub.tr (show Sub _ 1245184 from rfl) hm)

theorem State.agentTake_frame (s : State) (x : AgentLine) (m : CohMsg) (late : Bool) (hm : Sub 1245184 M) (fr : Frame M s0 s) :
    Frame M s0 (State.agentTake s x m late) := by
  unfold State.agentTake
  repeat' (first
    | with_reducible intro _ | with_reducible assumption | with_reducible apply State.settleAline_frame
    | with_reducible apply State.setAline_frame | with_reducible apply State.missHome_frame
    | with_reducible apply State.passData_frame | with_reducible apply State.toHome_frame
    | with_reducible apply State.toPeer_frame | with_reducible apply Frame.ite | exact Sub.tr (show Sub _ 1245184 from rfl) hm
    | split)

theorem State.agentAsked_frame (s : State) (a : Agent) (m : CohMsg) (hm : Sub 1245184 M) (fr : Frame M s0 s) :
    Frame M s0 (State.agentAsked s a m) := by
  unfold State.agentAsked
  repeat' (first
    | with_reducible intro _ | with_reducible assumption | with_reducible apply State.agentTake_frame
    | with_reducible apply State.setAline_frame | with_reducible apply Frame.ite | exact Sub.tr (show Sub _ 1245184 from rfl) hm)

theorem State.serveDeferred_frame (s : State) (a : Agent) (home line a5 : Nat) (hm : Sub 1245184 M) (fr : Frame M s0 s) :
    Frame M s0 (State.serveDeferred s a home line a5) := by
  revert fr
  fun_induction State.serveDeferred s a home line a5 <;> intro fr
  all_goals
    repeat' (first
    | with_reducible assumption | with_reducible apply State.agentTake_frame | with_reducible apply State.setAline_frame
    | exact Sub.tr (show Sub _ 1245184 from rfl) hm | with_reducible refine Frame.ih (P := Frame M s0 _) (by assumption) ?_)

theorem winHoldExpiry_frame (a : Agent) (home line : Nat) (s : State) (hm : Sub 1245184 M) (fr : Frame M s0 s) :
    Frame M s0 (winHoldExpiry a home line s) := by
  unfold winHoldExpiry
  repeat' (first
    | with_reducible intro _ | with_reducible assumption | with_reducible apply State.serveDeferred_frame
    | with_reducible apply State.setAline_frame | with_reducible apply Frame.ite | exact Sub.tr (show Sub _ 1245184 from rfl) hm)

theorem State.reach1_frame (s : State) (x : AgentLine) (st : LineState) (won : Bool) (hm : Sub 1245184 M) (fr : Frame M s0 s) :
    Frame M s0 (State.reach1 s x st won) := by
  unfold State.reach1
  repeat' (first
    | with_reducible intro _ | with_reducible assumption | with_reducible apply State.serveDeferred_frame
    | with_reducible apply State.settleAline_frame | with_reducible apply Frame.ite)

theorem State.unexpected_frame (s : State) (hm : Sub 65536 M) (fr : Frame M s0 s) :
    Frame M s0 (State.unexpected s) := by
  unfold State.unexpected
  repeat' (first
    | with_reducible assumption | with_reducible apply State.protoError_frame)

theorem State.takeData_frame (s : State) (a : Agent) (home line : Nat) (op : CohOp) (data : List Byte) (marks : Nat) (done : Bool) (hm : Sub 1245184 M) (fr : Frame M s0 s) :
    Frame M s0 (State.takeData s a home line op data marks done) := by
  unfold State.takeData
  repeat' (first
    | with_reducible intro _ | with_reducible assumption | with_reducible apply State.unexpected_frame
    | with_reducible apply State.setAline_frame | with_reducible apply State.reach1_frame | with_reducible apply Frame.ite
    | exact Sub.tr (show Sub _ 1245184 from rfl) hm | split)

theorem State.takeAck_frame (s : State) (a : Agent) (home line : Nat) (op : CohOp) (hm : Sub 1245184 M) (fr : Frame M s0 s) :
    Frame M s0 (State.takeAck s a home line op) := by
  unfold State.takeAck
  repeat' (first
    | with_reducible intro _ | with_reducible assumption | with_reducible apply State.settleAline_frame
    | with_reducible apply State.unexpected_frame | with_reducible apply State.setAline_frame
    | with_reducible apply State.reach1_frame | with_reducible apply Frame.ite | exact Sub.tr (show Sub _ 1245184 from rfl) hm
    | split | dsimp only)

theorem State.dropLines_frame (s : State) (home : Nat) (hm : Sub 1114112 M) (fr : Frame M s0 s) :
    Frame M s0 (State.dropLines s home) := by
  unfold State.dropLines
  repeat' (first
    | with_reducible assumption | with_reducible apply State.modCoh_frame | with_reducible apply State.emits_frame
    | exact Sub.tr (show Sub _ 1114112 from rfl) hm)

theorem rlcHomeTimeout_frame (home : Nat) (s : State) (hm : Sub 1114112 M) (fr : Frame M s0 s) :
    Frame M s0 (rlcHomeTimeout home s) := by
  unfold rlcHomeTimeout
  repeat' (first
    | with_reducible intro _ | with_reducible assumption | with_reducible apply State.dropLines_frame
    | with_reducible apply Frame.ite)

theorem State.nakTo_frame (s : State) (h : FabHdr) (code : Nat) (hm : Sub 1179648 M) (fr : Frame M s0 s) :
    Frame M s0 (State.nakTo s h code) := by
  unfold State.nakTo
  repeat' (first
    | with_reducible assumption | with_reducible apply State.fabSend_frame)

theorem State.homeTakes_frame (s : State) (h : Option FabHdr) (src line : Nat) (op : CohOp) (k : Obj → State → State) (hm : Sub 1507328 M) (hk : ∀ y0 y1, Frame M s0 y1 → Frame M s0 (k y0 y1)) (fr : Frame M s0 s) :
    Frame M s0 (State.homeTakes s h src line op k) := by
  unfold State.homeTakes
  repeat' (first
    | with_reducible intro _ | with_reducible assumption | with_reducible apply State.reviveAgent_frame
    | with_reducible apply State.protoError_frame | with_reducible apply State.nakTo_frame | with_reducible apply hk
    | with_reducible apply Frame.ite | exact Sub.tr (show Sub _ 1507328 from rfl) hm | split)

theorem homeRequest_frame (h : Option FabHdr) (src line : Nat) (op : CohOp) (s : State) (hm : Sub 1507840 M) (fr : Frame M s0 s) :
    Frame M s0 (homeRequest h src line op s) := by
  unfold homeRequest
  repeat' (first
    | with_reducible intro _ | with_reducible assumption | with_reducible apply State.settleLine_frame
    | with_reducible apply State.homeTakes_frame | with_reducible apply State.request1_frame
    | exact Sub.tr (show Sub _ 1507840 from rfl) hm)

theorem homePut_frame (h : Option FabHdr) (src line : Nat) (op : CohOp) (data : List Byte) (marks : Nat) (s : State) (hm : Sub 1507840 M) (fr : Frame M s0 s) :
    Frame M s0 (homePut h src line op data marks s) := by
  unfold homePut
  repeat' (first
    | with_reducible intro _ | with_reducible assumption | with_reducible apply State.settleLine_frame
    | with_reducible apply State.homeTakes_frame | with_reducible apply State.takePut_frame
    | exact Sub.tr (show Sub _ 1507840 from rfl) hm)

theorem homeAnswer_frame (line : Nat) (late : Bool) (k : State → State) (s : State) (hm : Sub 1507840 M) (hk : ∀ y0, Frame M s0 y0 → Frame M s0 (k y0)) (fr : Frame M s0 s) :
    Frame M s0 (homeAnswer line late k s) := by
  unfold homeAnswer
  repeat' (first
    | with_reducible assumption | with_reducible apply State.settleLine_frame | with_reducible apply State.countLate_frame
    | with_reducible apply hk | exact Sub.tr (show Sub _ 1507840 from rfl) hm)

theorem State.cohArrive_frame (s : State) (c : Instr) (via : Option FabHdr) (op : CohOp) (k : State → State) (hm : Sub 1221632 M) (hk : ∀ y0, Frame M s0 y0 → Frame M s0 (k y0)) (fr : Frame M s0 s) :
    Frame M s0 (State.cohArrive s c via op k) := by
  unfold State.cohArrive
  repeat' (first
    | with_reducible intro _ | with_reducible assumption | with_reducible apply State.arrive_frame | with_reducible apply hk
    | split)

theorem hostRequest_frame (p : Side) (dec addr : Nat) (r : HostReq) (s : State) (hm : Sub 1507840 M) (fr : Frame M s0 s) :
    Frame M s0 (hostRequest p dec addr r s) := by
  unfold hostRequest
  repeat' (first
    | with_reducible intro _ | with_reducible assumption | with_reducible apply State.reviveAgent_frame
    | with_reducible apply State.aerAdvisory_frame | with_reducible apply State.protoError_frame
    | with_reducible apply State.hostPut_frame | with_reducible apply State.modDir_frame | with_reducible apply State.emit_frame
    | with_reducible apply Frame.ite | exact Sub.tr (show Sub _ 1507840 from rfl) hm | split | dsimp only)

theorem biRsp_frame (p : Side) (dec addr : Nat) (rsp : CxlMeta) (s : State) (hm : Sub 1507840 M) (fr : Frame M s0 s) :
    Frame M s0 (biRsp p dec addr rsp s) := by
  unfold biRsp
  repeat' (first
    | with_reducible assumption | with_reducible apply State.protoError_frame | with_reducible apply State.settleLine_frame
    | with_reducible apply State.takeBiRsp_frame | exact Sub.tr (show Sub _ 1507840 from rfl) hm | split)

theorem State.reissueSnoops_frame (s : State) (p : Side) (hm : Sub 1114112 M) (fr : Frame M s0 s) :
    Frame M s0 (State.reissueSnoops s p) := by
  unfold State.reissueSnoops
  repeat' (first
    | with_reducible intro _ | with_reducible assumption | with_reducible apply State.snoopHost_frame
    | with_reducible apply State.modDir_frame | with_reducible apply Frame.ite | exact Sub.tr (show Sub _ 1114112 from rfl) hm
    | with_reducible apply Frame.foldl | split)

end Sys2Proof.Machine
end

