-- ==== Sys2Proof/Laws/FrameQueue.lean ====
section
/-! SUPPORT. Frame laws, one per operation (Sys2Proof/Laws/Frame.lean says what they state): objects, fences, queues, control commands, plans and mappings. -/

namespace Sys2Proof.Machine

variable {M : Nat} {s0 : State}

theorem State.modCmd_frame (s : State) (q pos : Nat) (f : Cmd → Cmd) (hm : Sub 16 M) (fr : Frame M s0 s) :
    Frame M s0 (State.modCmd s q pos f) := by
  unfold State.modCmd
  repeat' (first
    | with_reducible assumption | with_reducible apply State.modQueue_frame)

theorem State.wakeWaiters_frame (s : State) (i : Nat) (hm : Sub 16 M) (fr : Frame M s0 s) :
    Frame M s0 (State.wakeWaiters s i) := by
  unfold State.wakeWaiters
  repeat' (first
    | with_reducible assumption | with_reducible apply State.mapQueues_frame)

theorem State.putFence_frame (s : State) (i : Nat) (f : Fence) (hm : Sub 1179696 M) (fr : Frame M s0 s) :
    Frame M s0 (State.putFence s i f) := by
  unfold State.putFence
  repeat' (first
    | with_reducible intro _ | with_reducible assumption | with_reducible apply State.wakeWaiters_frame
    | with_reducible apply State.notifyFence_frame | with_reducible apply State.setFence_frame | with_reducible apply Frame.ite
    | exact Sub.tr (show Sub _ 1179696 from rfl) hm)

theorem State.breakFence_frame (s : State) (i code : Nat) (hm : Sub 1179696 M) (fr : Frame M s0 s) :
    Frame M s0 (State.breakFence s i code) := by
  unfold State.breakFence
  repeat' (first
    | with_reducible intro _ | with_reducible assumption | with_reducible apply State.putFence_frame
    | with_reducible apply Frame.ite)

theorem State.settleFree_frame (s : State) (i : Nat) (hm : Sub 48 M) (fr : Frame M s0 s) :
    Frame M s0 (State.settleFree s i) := by
  unfold State.settleFree
  repeat' (first
    | with_reducible intro _ | with_reducible assumption | with_reducible apply State.setFence_frame
    | with_reducible apply State.modCmd_frame | with_reducible apply Frame.ite | exact Sub.tr (show Sub _ 48 from rfl) hm | split)

theorem State.addSignaller_frame (s : State) (i : Nat) (hm : Sub 32 M) (fr : Frame M s0 s) :
    Frame M s0 (State.addSignaller s i) := by
  unfold State.addSignaller
  repeat' (first
    | with_reducible assumption | with_reducible apply State.modFence_frame)

theorem State.hostSignal_frame (s : State) (i v : Nat) (queue pos : Nat) (hm : Sub 1048832 M) (fr : Frame M s0 s) :
    Frame M s0 (State.hostSignal s i v queue pos) := by
  unfold State.hostSignal
  repeat' (first
    | with_reducible intro _ | with_reducible assumption | with_reducible apply State.hostWrite_frame
    | with_reducible apply State.request_frame | with_reducible apply State.modPort_frame | with_reducible apply State.emit_frame
    | with_reducible apply Frame.ite | exact Sub.tr (show Sub _ 1048832 from rfl) hm)

theorem State.signalFence_frame (s : State) (i v : Nat) (queue pos : Nat) (hm : Sub 1179952 M) (fr : Frame M s0 s) :
    Frame M s0 (State.signalFence s i v queue pos) := by
  unfold State.signalFence
  repeat' (first
    | with_reducible intro _ | with_reducible assumption | with_reducible apply State.settleFree_frame
    | with_reducible apply State.hostSignal_frame | with_reducible apply State.setFence_frame
    | with_reducible apply State.putFence_frame | with_reducible apply Frame.ite | exact Sub.tr (show Sub _ 1179952 from rfl) hm
    | split)

theorem State.failFence_frame (s : State) (i code : Nat) (quiet : Bool) (hm : Sub 1179696 M) (fr : Frame M s0 s) :
    Frame M s0 (State.failFence s i code quiet) := by
  unfold State.failFence
  repeat' (first
    | with_reducible intro _ | with_reducible assumption | with_reducible apply State.settleFree_frame
    | with_reducible apply State.putFence_frame | with_reducible apply Frame.ite | exact Sub.tr (show Sub _ 1179696 from rfl) hm)

theorem State.halfSignal_frame (s : State) (i v : Nat) (queue pos : Nat) (hm : Sub 1179952 M) (fr : Frame M s0 s) :
    Frame M s0 (State.halfSignal s i v queue pos) := by
  unfold State.halfSignal
  repeat' (first
    | with_reducible intro _ | with_reducible assumption | with_reducible apply State.hostSignal_frame
    | with_reducible apply State.putFence_frame | with_reducible apply Frame.ite | exact Sub.tr (show Sub _ 1179952 from rfl) hm)

theorem State.beginTeardown_frame (s : State) (slot code stamp : Nat) (hm : Sub 8 M) (fr : Frame M s0 s) :
    Frame M s0 (State.beginTeardown s slot code stamp) := by
  unfold State.beginTeardown
  repeat' (first
    | with_reducible intro _ | with_reducible assumption | with_reducible apply State.setCtx_frame
    | with_reducible apply Frame.ite)

theorem State.setTdi_frame (s : State) (p : Side) (vf : Nat) (v : Tdi) (hm : Sub 256 M) (fr : Frame M s0 s) :
    Frame M s0 (State.setTdi s p vf v) := by
  unfold State.setTdi
  repeat' (first
    | with_reducible assumption | with_reducible apply State.modPort_frame)

theorem State.tdiLog_frame (s : State) (p : Side) (vf : Nat) (t : TdiState) (stamp : Nat) (hm : Sub 32768 M) (fr : Frame M s0 s) :
    Frame M s0 (State.tdiLog s p vf t stamp) := by
  unfold State.tdiLog
  repeat' (first
    | with_reducible assumption | with_reducible apply State.log_frame)

theorem State.scrubOwned_frame (s : State) (vf : Nat) (hm : Sub 64 M) (fr : Frame M s0 s) :
    Frame M s0 (State.scrubOwned s vf) := by
  unfold State.scrubOwned
  repeat' (first
    | with_reducible assumption | with_reducible apply State.mapObjs_frame)

theorem State.tdiError_frame (s : State) (p : Side) (vf stamp : Nat) (hm : Sub 33608 M) (fr : Frame M s0 s) :
    Frame M s0 (State.tdiError s p vf stamp) := by
  unfold State.tdiError
  repeat' (first
    | with_reducible intro _ | with_reducible assumption | with_reducible apply State.beginTeardown_frame
    | with_reducible apply State.scrubOwned_frame | with_reducible apply State.modFunc_frame
    | with_reducible apply State.tdiLog_frame | with_reducible apply State.setTdi_frame | with_reducible apply Frame.ite
    | exact Sub.tr (show Sub _ 33608 from rfl) hm | with_reducible apply Frame.foldl)

theorem State.stampedIf_frame (s : State) (b : Bool) (c : Instr) (k : Nat → State → State) (hm : Sub 2 M) (hk : ∀ y0 y1, Frame M s0 y1 → Frame M s0 (k y0 y1)) (fr : Frame M s0 s) :
    Frame M s0 (State.stampedIf s b c k) := by
  unfold State.stampedIf
  repeat' (first
    | with_reducible intro _ | with_reducible assumption | with_reducible apply State.stamped_frame | with_reducible apply hk
    | with_reducible apply Frame.ite)

theorem State.park_frame (s : State) (q code slot : Nat) (hm : Sub 16 M) (fr : Frame M s0 s) :
    Frame M s0 (State.park s q code slot) := by
  unfold State.park
  repeat' (first
    | with_reducible assumption | with_reducible apply State.modQueue_frame)

theorem State.ring2_frame (s : State) (path : Path) (offset qn : Nat) (value stamp : Nat) (hm : Sub 528 M) (fr : Frame M s0 s) :
    Frame M s0 (State.ring2 s path offset qn value stamp) := by
  unfold State.ring2
  repeat' (first
    | with_reducible intro _ | with_reducible assumption | with_reducible apply State.setQueue_frame
    | with_reducible apply State.regErr_frame | with_reducible apply Frame.ite | exact Sub.tr (show Sub _ 528 from rfl) hm | split
    )

theorem State.ring3_frame (s : State) (path : Path) (offset value stamp : Nat) (hm : Sub 528 M) (fr : Frame M s0 s) :
    Frame M s0 (State.ring3 s path offset value stamp) := by
  unfold State.ring3
  repeat' (first
    | with_reducible intro _ | with_reducible assumption | with_reducible apply State.regErr_frame
    | with_reducible apply State.ring2_frame | with_reducible apply Frame.ite | exact Sub.tr (show Sub _ 528 from rfl) hm | split)

theorem doorbell_frame (c : Instr) (path : Path) (offset width : Nat) (value : Word) (poisoned : Bool) (s : State) (hm : Sub 33626 M) (fr : Frame M s0 s) :
    Frame M s0 (doorbell c path offset width value poisoned s) := by
  unfold doorbell
  repeat' (first
    | with_reducible intro _ | with_reducible assumption | with_reducible apply State.aerPoison_frame
    | with_reducible apply State.tdiError_frame | with_reducible apply State.stamped_frame
    | with_reducible apply State.regErr_frame | with_reducible apply State.ring3_frame | with_reducible apply Frame.ite
    | exact Sub.tr (show Sub _ 33626 from rfl) hm | split)

theorem State.admitCmd_frame (s : State) (qn pos : Nat) (b : List Byte) (hm : Sub 48 M) (fr : Frame M s0 s) :
    Frame M s0 (State.admitCmd s qn pos b) := by
  unfold State.admitCmd
  repeat' (first
    | with_reducible intro _ | with_reducible assumption | with_reducible apply State.addSignaller_frame
    | with_reducible apply State.setQueue_frame | with_reducible apply State.modFence_frame | with_reducible apply Frame.ite
    | exact Sub.tr (show Sub _ 48 from rfl) hm)

theorem State.controlFault_frame (s : State) (qn pos cva : Nat) (acc : Access) (t : Target) (hm : Sub 1090710 M) (fr : Frame M s0 s) :
    Frame M s0 (State.controlFault s qn pos cva acc t) := by
  unfold State.controlFault
  repeat' (first
    | with_reducible intro _ | with_reducible assumption | with_reducible apply State.recordFault_frame
    | with_reducible apply State.walkPoison_frame | with_reducible apply State.atsRequest_frame
    | with_reducible apply State.park_frame | with_reducible apply Frame.ite | exact Sub.tr (show Sub _ 1090710 from rfl) hm
    | split)

theorem slotFetch_frame (qn gen : Nat) (given : List Byte) (poisoned : Bool) (extra : List Byte → Nat) (s : State) (hm : Sub 1090742 M) (fr : Frame M s0 s) :
    Frame M s0 (slotFetch qn gen given poisoned extra s) := by
  unfold slotFetch
  repeat' (first
    | with_reducible intro _ | with_reducible assumption | with_reducible apply State.controlFault_frame
    | with_reducible apply State.staleQueue_frame | with_reducible apply State.setQueue_frame
    | with_reducible apply State.admitCmd_frame | with_reducible apply State.emit_frame | with_reducible apply Frame.ite
    | exact Sub.tr (show Sub _ 1090742 from rfl) hm | split | dsimp only)

theorem State.markStart_frame (s : State) (qn pos : Nat) (hm : Sub 2064 M) (fr : Frame M s0 s) :
    Frame M s0 (State.markStart s qn pos) := by
  unfold State.markStart
  repeat' (first
    | with_reducible assumption | with_reducible apply State.modPlan_frame | with_reducible apply State.modCmd_frame
    | exact Sub.tr (show Sub _ 2064 from rfl) hm)

theorem State.askWord_frame (s : State) (qn : Nat) (c : Cmd) (hm : Sub 1048848 M) (fr : Frame M s0 s) :
    Frame M s0 (State.askWord s qn c) := by
  unfold State.askWord
  repeat' (first
    | with_reducible intro _ | with_reducible assumption | with_reducible apply State.request_frame
    | with_reducible apply State.modCmd_frame | with_reducible apply State.emit_frame | with_reducible apply Frame.ite
    | exact Sub.tr (show Sub _ 1048848 from rfl) hm | split | dsimp only)

theorem State.dropWord_frame (s : State) (qn pos : Nat) (hm : Sub 256 M) (fr : Frame M s0 s) :
    Frame M s0 (State.dropWord s qn pos) := by
  unfold State.dropWord
  repeat' (first
    | with_reducible intro _ | with_reducible assumption | with_reducible apply State.modPort_frame
    | with_reducible apply Frame.ite)

theorem begin_frame (r : CmdRef) (op : Nat) (sub : Option Nat) (s : State) (k : Nat → Cmd → State → State) (hm : Sub 1050896 M) (hk : ∀ y0 y1 y2, Frame M s0 y2 → Frame M s0 (k y0 y1 y2)) (fr : Frame M s0 s) :
    Frame M s0 (begin r op sub s k) := by
  unfold begin
  repeat' (first
    | with_reducible intro _ | with_reducible assumption | with_reducible apply State.markStart_frame
    | with_reducible apply State.askWord_frame | with_reducible apply State.modCmd_frame | with_reducible apply hk
    | with_reducible apply Frame.ite | exact Sub.tr (show Sub _ 1050896 from rfl) hm | split)

theorem State.finish_frame (s : State) (qn pos : Nat) (code residue : Nat) (hm : Sub 16 M) (fr : Frame M s0 s) :
    Frame M s0 (State.finish s qn pos code residue) := by
  unfold State.finish
  repeat' (first
    | with_reducible assumption | with_reducible apply State.modCmd_frame)

theorem State.wordFault_frame (s : State) (qn : Nat) (c : Cmd) (why level : Nat) (hm : Sub 42134 M) (fr : Frame M s0 s) :
    Frame M s0 (State.wordFault s qn c why level) := by
  unfold State.wordFault
  repeat' (first
    | with_reducible intro _ | with_reducible assumption | with_reducible apply State.recordFault_frame
    | with_reducible apply State.walkPoison_frame | with_reducible apply State.finish_frame | with_reducible apply Frame.ite
    | exact Sub.tr (show Sub _ 42134 from rfl) hm)

theorem predicateRead_frame (r : CmdRef) (gen word : Nat) (poisoned : Bool) (s : State) (hm : Sub 1090966 M) (fr : Frame M s0 s) :
    Frame M s0 (predicateRead r gen word poisoned s) := by
  unfold predicateRead
  repeat' (first
    | with_reducible intro _ | with_reducible assumption | with_reducible apply State.staleQueue_frame
    | with_reducible apply State.atsRequest_frame | with_reducible apply State.wordFault_frame
    | with_reducible apply State.dropWord_frame | with_reducible apply State.finish_frame
    | with_reducible apply State.modCmd_frame | with_reducible apply State.touch_frame | with_reducible apply Frame.ite
    | exact Sub.tr (show Sub _ 1090966 from rfl) hm | split | dsimp only)

theorem State.writeReply_frame (s : State) (qn pos : Nat) (stamp word : Nat) (fence : Option Nat) (hm : Sub 1311104 M) (fr : Frame M s0 s) :
    FrameO M s0 (State.writeReply s qn pos stamp word fence) := by
  unfold State.writeReply
  repeat' (first
    | with_reducible intro _ | with_reducible assumption | with_reducible apply State.hostWrite_frame
    | with_reducible apply State.setMem_frame | with_reducible apply State.touch_frame | with_reducible apply FrameO.ite
    | with_reducible apply Mem.store_wf | exact Sub.tr (show Sub _ 1311104 from rfl) hm
    | with_reducible refine Frame.wf (m := M) (s := s0) ?_ (by assumption) | with_reducible exact FrameO.none
    | with_reducible apply FrameO.some | split | dsimp only)

theorem State.writeDeferred_frame (s : State) (qn a3 : Nat) (hm : Sub 1311122 M) (fr : Frame M s0 s) :
    Frame M s0 (State.writeDeferred s qn a3) := by
  revert fr
  fun_induction State.writeDeferred s qn a3 <;> intro fr
  all_goals
    repeat' (first
    | with_reducible assumption | with_reducible apply State.writeReply_frame | with_reducible apply State.modQueue_frame
    | with_reducible apply State.stamp_frame | exact Sub.tr (show Sub _ 1311122 from rfl) hm
    | with_reducible refine Frame.ih (P := Frame M s0 _) (by assumption) ?_
    | with_reducible refine Frame.of_snd (by assumption) ?_ | with_reducible refine Frame.of_some (by assumption) ?_)

theorem State.reply_frame (s : State) (qn : Nat) (c : Cmd) (code : Nat) (hm : Sub 1311122 M) (fr : Frame M s0 s) :
    FrameO M s0 (State.reply s qn c code) := by
  unfold State.reply
  repeat' (first
    | with_reducible intro _ | with_reducible assumption | with_reducible apply State.writeReply_frame
    | with_reducible apply State.modQueue_frame | with_reducible apply State.stamp_frame | with_reducible apply FrameO.ite
    | exact Sub.tr (show Sub _ 1311122 from rfl) hm | with_reducible apply FrameO.map | with_reducible exact FrameO.none
    | with_reducible apply FrameO.some)

theorem State.replyStops_frame (s : State) (qn pos : Nat) (hm : Sub 1090966 M) (fr : Frame M s0 s) :
    Frame M s0 (State.replyStops s qn pos) := by
  unfold State.replyStops
  repeat' (first
    | with_reducible intro _ | with_reducible assumption | with_reducible apply State.controlFault_frame
    | with_reducible apply State.noRoom_frame | with_reducible apply Frame.ite | exact Sub.tr (show Sub _ 1090966 from rfl) hm
    | split | dsimp only)

theorem State.replyBlocked_frame (s : State) (qn pos stamps : Nat) (hm : Sub 1090966 M) (fr : Frame M s0 s) :
    Frame M s0 (State.replyBlocked s qn pos stamps) := by
  unfold State.replyBlocked
  repeat' (first
    | with_reducible intro _ | with_reducible assumption | with_reducible apply State.replyStops_frame
    | with_reducible apply State.carryOnce_frame | with_reducible apply Frame.ite | exact Sub.tr (show Sub _ 1090966 from rfl) hm)

theorem State.settleFence_frame (s : State) (qn : Nat) (c : Cmd) (code : Nat) (hm : Sub 1179954 M) (fr : Frame M s0 s) :
    Frame M s0 (State.settleFence s qn c code) := by
  unfold State.settleFence
  repeat' (first
    | with_reducible intro _ | with_reducible assumption | with_reducible apply State.signalFence_frame
    | with_reducible apply State.settleFree_frame | with_reducible apply State.failFence_frame
    | with_reducible apply State.modFence_frame | with_reducible apply State.stamp_frame | with_reducible apply Frame.ite
    | exact Sub.tr (show Sub _ 1179954 from rfl) hm)

theorem State.undefineDest_frame (s : State) (qn : Nat) (c : Cmd) (code : Nat) (hm : Sub 262144 M) (fr : Frame M s0 s) :
    Frame M s0 (State.undefineDest s qn c code) := by
  unfold State.undefineDest
  repeat' (first
    | with_reducible intro _ | with_reducible assumption | with_reducible apply State.setMem_frame
    | with_reducible apply Frame.ite | with_reducible apply Mem.writeN_wf
    | with_reducible refine Frame.wf (m := M) (s := s0) ?_ (by assumption) | with_reducible apply Frame.foldl | split)

theorem State.retire_frame (s : State) (qn : Nat) (c : Cmd) (code : Nat) (hm : Sub 1443250 M) (fr : Frame M s0 s) :
    FrameO M s0 (State.retire s qn c code) := by
  unfold State.retire
  repeat' (first
    | with_reducible intro _ | with_reducible assumption | with_reducible apply State.undefineDest_frame
    | with_reducible apply State.settleFence_frame | with_reducible apply State.raiseQueue_frame
    | with_reducible apply State.modQueue_frame | with_reducible apply State.reply_frame | with_reducible apply Frame.ite
    | with_reducible apply FrameO.ite | exact Sub.tr (show Sub _ 1443250 from rfl) hm | with_reducible apply FrameO.map
    | with_reducible exact FrameO.none)

theorem State.askInvalidate_frame (s : State) (qn pos clusters : Nat) (ranges : List (Nat × Nat)) (hm : Sub 1048592 M) (fr : Frame M s0 s) :
    Frame M s0 (State.askInvalidate s qn pos clusters ranges) := by
  unfold State.askInvalidate
  repeat' (first
    | with_reducible intro _ | with_reducible assumption | with_reducible apply State.modQueue_frame
    | with_reducible apply State.modCmd_frame | with_reducible apply State.emits_frame | with_reducible apply Frame.ite
    | exact Sub.tr (show Sub _ 1048592 from rfl) hm)

theorem State.domainInvDone_frame (s : State) (n : Nat) (hm : Sub 1179664 M) (fr : Frame M s0 s) :
    Frame M s0 (State.domainInvDone s n) := by
  unfold State.domainInvDone
  repeat' (first
    | with_reducible intro _ | with_reducible assumption | with_reducible apply State.mapQueues_frame
    | with_reducible apply State.fabSend_frame | with_reducible apply State.modFab_frame
    | exact Sub.tr (show Sub _ 1179664 from rfl) hm | with_reducible apply Frame.foldl)

theorem State.issueAsk_frame (s : State) (x : InvAsk) (hm : Sub 1179664 M) (fr : Frame M s0 s) :
    Frame M s0 (State.issueAsk s x) := by
  unfold State.issueAsk
  repeat' (first
    | with_reducible intro _ | with_reducible assumption | with_reducible apply State.modQueue_frame
    | with_reducible apply State.fabSend_frame | with_reducible apply State.modFab_frame | with_reducible apply State.emits_frame
    | with_reducible apply Frame.ite | exact Sub.tr (show Sub _ 1179664 from rfl) hm | split)

theorem State.issueRest_frame (s : State) (qn : Nat) (c : Cmd) (hm : Sub 1179664 M) (fr : Frame M s0 s) :
    Frame M s0 (State.issueRest s qn c) := by
  unfold State.issueRest
  repeat' (first
    | with_reducible intro _ | with_reducible assumption | with_reducible apply State.issueAsk_frame
    | with_reducible apply State.modQueue_frame | with_reducible apply State.modCmd_frame
    | exact Sub.tr (show Sub _ 1179664 from rfl) hm | with_reducible apply Frame.foldl)

theorem State.servedRest_frame (s : State) (hm : Sub 1179648 M) (fr : Frame M s0 s) :
    Frame M s0 (State.servedRest s) := by
  unfold State.servedRest
  repeat' (first
    | with_reducible assumption | with_reducible apply State.modFab_frame | with_reducible apply State.emits_frame
    | exact Sub.tr (show Sub _ 1179648 from rfl) hm)

theorem State.countSignal_frame (s : State) (qn : Nat) (c : Cmd) (hm : Sub 48 M) (fr : Frame M s0 s) :
    Frame M s0 (State.countSignal s qn c) := by
  unfold State.countSignal
  repeat' (first
    | with_reducible intro _ | with_reducible assumption | with_reducible apply State.addSignaller_frame
    | with_reducible apply State.modCmd_frame | with_reducible apply Frame.ite | exact Sub.tr (show Sub _ 48 from rfl) hm)

theorem State.ctlRun_frame (s : State) (qn : Nat) (c : Cmd) (sub : Nat) (k : Nat → Cmd → Ctx → State → Ctl) (hm : Sub 16 M) (hk : ∀ y0 y1 y2 y3, Frame M s0 y3 → FrameC M s0 (k y0 y1 y2 y3)) (fr : Frame M s0 s) :
    Frame M s0 (State.ctlRun s qn c sub k) := by
  unfold State.ctlRun
  repeat' (first
    | with_reducible intro _ | with_reducible assumption | with_reducible apply State.finish_frame | with_reducible apply hk
    | with_reducible apply Frame.ite | with_reducible refine Frame.of_done (by assumption) ?_
    | with_reducible refine Frame.of_later (by assumption) ?_ | split)

theorem ctl_frame (r : CmdRef) (sub : Nat) (s : State) (k : Nat → Cmd → Ctx → State → Ctl) (hm : Sub 1050928 M) (hk : ∀ y0 y1 y2 y3, Frame M s0 y3 → FrameC M s0 (k y0 y1 y2 y3)) (fr : Frame M s0 s) :
    Frame M s0 (ctl r sub s k) := by
  unfold ctl
  repeat' (first
    | with_reducible intro _ | with_reducible assumption | with_reducible apply State.countSignal_frame
    | with_reducible apply State.finish_frame | with_reducible apply State.ctlRun_frame | with_reducible apply begin_frame
    | with_reducible apply hk | with_reducible apply Frame.ite | exact Sub.tr (show Sub _ 1050928 from rfl) hm)

theorem State.freeFences_frame (s : State) (slot : Nat) (hm : Sub 32 M) (fr : Frame M s0 s) :
    Frame M s0 (State.freeFences s slot) := by
  unfold State.freeFences
  repeat' (first
    | with_reducible intro _ | with_reducible assumption | with_reducible apply State.setFence_frame
    | with_reducible apply Frame.foldl)

theorem openWork_frame (a1 : Nat) (c : Cmd) (x : Ctx) (s : State) (hm : Sub 262184 M) (fr : Frame M s0 s) :
    FrameC M s0 (openWork a1 c x s) := by
  unfold openWork
  repeat' (first
    | with_reducible intro _ | with_reducible assumption | with_reducible apply State.freeFences_frame
    | with_reducible apply State.setMem_frame | with_reducible apply State.setCtx_frame | with_reducible apply FrameC.ite
    | with_reducible apply Mem.clearPage_wf | exact Sub.tr (show Sub _ 262184 from rfl) hm
    | with_reducible refine Frame.wf (m := M) (s := s0) ?_ (by assumption) | with_reducible exact FrameC.reject
    | with_reducible exact FrameC.hold | with_reducible apply FrameC.done | split)

theorem ctxOpen_frame (r : CmdRef) (s : State) (hm : Sub 1313080 M) (fr : Frame M s0 s) :
    Frame M s0 (ctxOpen r s) := by
  unfold ctxOpen
  repeat' (first
    | with_reducible intro _ | with_reducible assumption | with_reducible apply openWork_frame | with_reducible apply ctl_frame
    | exact Sub.tr (show Sub _ 1313080 from rfl) hm)

theorem ctxStart_frame (r : CmdRef) (s : State) (hm : Sub 1050936 M) (fr : Frame M s0 s) :
    Frame M s0 (ctxStart r s) := by
  unfold ctxStart
  repeat' (first
    | with_reducible intro _ | with_reducible assumption | with_reducible apply State.setCtx_frame
    | with_reducible apply ctl_frame | exact Sub.tr (show Sub _ 1050936 from rfl) hm | with_reducible apply FrameC.done)

theorem ctxPark_frame (r : CmdRef) (s : State) (hm : Sub 1050936 M) (fr : Frame M s0 s) :
    Frame M s0 (ctxPark r s) := by
  unfold ctxPark
  repeat' (first
    | with_reducible intro _ | with_reducible assumption | with_reducible apply State.setCtx_frame
    | with_reducible apply ctl_frame | exact Sub.tr (show Sub _ 1050936 from rfl) hm | with_reducible apply FrameC.done)

theorem ctxResume_frame (r : CmdRef) (s : State) (hm : Sub 1050936 M) (fr : Frame M s0 s) :
    Frame M s0 (ctxResume r s) := by
  unfold ctxResume
  repeat' (first
    | with_reducible intro _ | with_reducible assumption | with_reducible apply State.setCtx_frame
    | with_reducible apply ctl_frame | exact Sub.tr (show Sub _ 1050936 from rfl) hm | with_reducible apply FrameC.done)

theorem ctxSetHome_frame (r : CmdRef) (s : State) (hm : Sub 1050936 M) (fr : Frame M s0 s) :
    Frame M s0 (ctxSetHome r s) := by
  unfold ctxSetHome
  repeat' (first
    | with_reducible intro _ | with_reducible assumption | with_reducible apply State.setCtx_frame
    | with_reducible apply ctl_frame | with_reducible apply FrameC.ite | exact Sub.tr (show Sub _ 1050936 from rfl) hm
    | with_reducible exact FrameC.reject | with_reducible apply FrameC.done)

theorem State.unlockFor_frame (s : State) (slot stamp : Nat) (hm : Sub 33608 M) (fr : Frame M s0 s) :
    Frame M s0 (State.unlockFor s slot stamp) := by
  unfold State.unlockFor
  repeat' (first
    | with_reducible intro _ | with_reducible assumption | with_reducible apply State.tdiError_frame
    | with_reducible apply Frame.ite)

theorem ctxClose_frame (r : CmdRef) (s : State) (hm : Sub 1084280 M) (fr : Frame M s0 s) :
    Frame M s0 (ctxClose r s) := by
  unfold ctxClose
  repeat' (first
    | with_reducible intro _ | with_reducible assumption | with_reducible apply State.beginTeardown_frame
    | with_reducible apply State.unlockFor_frame | with_reducible apply State.setCtx_frame | with_reducible apply ctl_frame
    | with_reducible apply FrameC.ite | exact Sub.tr (show Sub _ 1084280 from rfl) hm | with_reducible apply FrameC.later)

theorem ctxKill_frame (r : CmdRef) (s : State) (hm : Sub 1084280 M) (fr : Frame M s0 s) :
    Frame M s0 (ctxKill r s) := by
  unfold ctxKill
  repeat' (first
    | with_reducible intro _ | with_reducible assumption | with_reducible apply State.beginTeardown_frame
    | with_reducible apply State.unlockFor_frame | with_reducible apply ctl_frame | exact Sub.tr (show Sub _ 1084280 from rfl) hm
    | with_reducible apply FrameC.later)

theorem drainLimit_frame (c : Instr) (slot : Nat) (s : State) (hm : Sub 10 M) (fr : Frame M s0 s) :
    Frame M s0 (drainLimit c slot s) := by
  unfold drainLimit
  repeat' (first
    | with_reducible intro _ | with_reducible assumption | with_reducible apply State.beginTeardown_frame
    | with_reducible apply State.stamped_frame | with_reducible apply Frame.ite | exact Sub.tr (show Sub _ 10 from rfl) hm)

theorem queueWork_frame (a1 : Nat) (c : Cmd) (x : Ctx) (s : State) (hm : Sub 16 M) (fr : Frame M s0 s) :
    FrameC M s0 (queueWork a1 c x s) := by
  unfold queueWork
  repeat' (first
    | with_reducible intro _ | with_reducible assumption | with_reducible apply State.setQueue_frame
    | with_reducible apply FrameC.ite | with_reducible exact FrameC.reject | with_reducible exact FrameC.hold
    | with_reducible apply FrameC.done)

theorem qCreate_frame (r : CmdRef) (s : State) (hm : Sub 1050928 M) (fr : Frame M s0 s) :
    Frame M s0 (qCreate r s) := by
  unfold qCreate
  repeat' (first
    | with_reducible intro _ | with_reducible assumption | with_reducible apply queueWork_frame | with_reducible apply ctl_frame
    | exact Sub.tr (show Sub _ 1050928 from rfl) hm)

theorem State.retryCtl_frame (s : State) (qn : Nat) (c : Cmd) (hm : Sub 262200 M) (fr : Frame M s0 s) :
    Frame M s0 (State.retryCtl s qn c) := by
  unfold State.retryCtl
  repeat' (first
    | with_reducible intro _ | with_reducible assumption | with_reducible apply State.ctlRun_frame
    | with_reducible apply queueWork_frame | with_reducible apply openWork_frame | with_reducible apply Frame.ite
    | exact Sub.tr (show Sub _ 262200 from rfl) hm)

theorem State.ctlQueue_frame (s : State) (sub slot qn : Nat) (k : Queue → Ctl) (h : ∀ q, FrameC M s0 (k q)) :
    FrameC M s0 (s.ctlQueue sub slot qn k) := by
  unfold State.ctlQueue
  dsimp only
  split
  · trivial
  · split
    · trivial
    · exact h _

theorem qPark_frame (r : CmdRef) (s : State) (hm : Sub 1050928 M) (fr : Frame M s0 s) :
    Frame M s0 (qPark r s) := by
  unfold qPark
  repeat' (first
    | with_reducible intro _ | with_reducible assumption | with_reducible apply State.ctlQueue_frame
    | with_reducible apply State.setQueue_frame | with_reducible apply ctl_frame | exact Sub.tr (show Sub _ 1050928 from rfl) hm
    | with_reducible apply FrameC.done)

theorem qResume_frame (r : CmdRef) (s : State) (hm : Sub 1050928 M) (fr : Frame M s0 s) :
    Frame M s0 (qResume r s) := by
  unfold qResume
  repeat' (first
    | with_reducible intro _ | with_reducible assumption | with_reducible apply State.ctlQueue_frame
    | with_reducible apply State.setQueue_frame | with_reducible apply ctl_frame | exact Sub.tr (show Sub _ 1050928 from rfl) hm
    | with_reducible apply FrameC.done)

theorem qStop_frame (r : CmdRef) (s : State) (hm : Sub 1050928 M) (fr : Frame M s0 s) :
    Frame M s0 (qStop r s) := by
  unfold qStop
  repeat' (first
    | with_reducible intro _ | with_reducible assumption | with_reducible apply State.ctlQueue_frame
    | with_reducible apply State.setQueue_frame | with_reducible apply ctl_frame | exact Sub.tr (show Sub _ 1050928 from rfl) hm
    | with_reducible apply FrameC.done)

theorem qDestroy_frame (r : CmdRef) (s : State) (hm : Sub 1050928 M) (fr : Frame M s0 s) :
    Frame M s0 (qDestroy r s) := by
  unfold qDestroy
  repeat' (first
    | with_reducible intro _ | with_reducible assumption | with_reducible apply State.ctlQueue_frame
    | with_reducible apply State.setQueue_frame | with_reducible apply ctl_frame | exact Sub.tr (show Sub _ 1050928 from rfl) hm
    | with_reducible apply FrameC.done)

theorem objCreateWith_frame (bad : State → Nat → Nat → Nat → Nat → Bool) (r : CmdRef) (s : State) (hm : Sub 3148144 M) (fr : Frame M s0 s) :
    Frame M s0 (objCreateWith bad r s) := by
  unfold objCreateWith
  repeat' (first
    | with_reducible intro _ | with_reducible assumption | with_reducible apply State.setObj_frame
    | with_reducible apply State.free_frame | with_reducible apply ctl_frame | with_reducible apply FrameC.ite
    | exact Sub.tr (show Sub _ 3148144 from rfl) hm | with_reducible refine Frame.of_snd (by assumption) ?_
    | with_reducible exact FrameC.reject | with_reducible apply FrameC.done | split)

theorem objFree_frame (r : CmdRef) (s : State) (hm : Sub 1050992 M) (fr : Frame M s0 s) :
    Frame M s0 (objFree r s) := by
  unfold objFree
  repeat' (first
    | with_reducible intro _ | with_reducible assumption | with_reducible apply State.setObj_frame
    | with_reducible apply ctl_frame | with_reducible apply FrameC.ite | exact Sub.tr (show Sub _ 1050992 from rfl) hm
    | with_reducible exact FrameC.reject | with_reducible apply FrameC.later)

theorem fenceAlloc_frame (r : CmdRef) (s : State) (hm : Sub 3148080 M) (fr : Frame M s0 s) :
    Frame M s0 (fenceAlloc r s) := by
  unfold fenceAlloc
  repeat' (first
    | with_reducible intro _ | with_reducible assumption | with_reducible apply State.setFence_frame
    | with_reducible apply State.free_frame | with_reducible apply ctl_frame | with_reducible apply FrameC.ite
    | exact Sub.tr (show Sub _ 3148080 from rfl) hm | with_reducible refine Frame.of_snd (by assumption) ?_
    | with_reducible exact FrameC.reject | with_reducible apply FrameC.done | split)

theorem State.ctlFence_frame (s : State) (slot n : Nat) (k : Fence → Ctl) (h : ∀ q, FrameC M s0 (k q)) :
    FrameC M s0 (s.ctlFence slot n k) := by
  unfold State.ctlFence
  split
  · split
    · exact h _
    · trivial
  · trivial

theorem fenceReset_frame (r : CmdRef) (s : State) (hm : Sub 1182000 M) (fr : Frame M s0 s) :
    Frame M s0 (fenceReset r s) := by
  unfold fenceReset
  repeat' (first
    | with_reducible intro _ | with_reducible assumption | with_reducible apply State.ctlFence_frame
    | with_reducible apply State.putFence_frame | with_reducible apply ctl_frame | with_reducible apply FrameC.ite
    | exact Sub.tr (show Sub _ 1182000 from rfl) hm | with_reducible exact FrameC.reject | with_reducible apply FrameC.done)

theorem fenceFree_frame (r : CmdRef) (s : State) (hm : Sub 1182000 M) (fr : Frame M s0 s) :
    Frame M s0 (fenceFree r s) := by
  unfold fenceFree
  repeat' (first
    | with_reducible intro _ | with_reducible assumption | with_reducible apply State.settleFree_frame
    | with_reducible apply State.ctlFence_frame | with_reducible apply State.putFence_frame | with_reducible apply ctl_frame
    | exact Sub.tr (show Sub _ 1182000 from rfl) hm | with_reducible apply FrameC.later)

theorem planCtl_frame (r : CmdRef) (sub : Nat) (s : State) (k : Nat → Cmd → Nat → PlanSlot → State → Ctl) (hm : Sub 1050928 M) (hk : ∀ y0 y1 y2 y3 y4, Frame M s0 y4 → FrameC M s0 (k y0 y1 y2 y3 y4)) (fr : Frame M s0 s) :
    Frame M s0 (planCtl r sub s k) := by
  unfold planCtl
  repeat' (first
    | with_reducible intro _ | with_reducible assumption | with_reducible apply State.countSignal_frame
    | with_reducible apply State.finish_frame | with_reducible apply begin_frame | with_reducible apply hk
    | with_reducible apply Frame.ite | exact Sub.tr (show Sub _ 1050928 from rfl) hm
    | with_reducible refine Frame.of_done (by assumption) ?_ | with_reducible refine Frame.of_later (by assumption) ?_ | split
    | dsimp only)

theorem planStage_frame (r : CmdRef) (s : State) (hm : Sub 1050928 M) (fr : Frame M s0 s) :
    Frame M s0 (planStage r s) := by
  unfold planStage
  repeat' (first
    | with_reducible intro _ | with_reducible assumption | with_reducible apply State.setSlot_frame
    | with_reducible apply planCtl_frame | with_reducible apply FrameC.ite | exact Sub.tr (show Sub _ 1050928 from rfl) hm
    | with_reducible exact FrameC.reject | with_reducible apply FrameC.later)

theorem State.finishRef_frame (s : State) (r : Option CmdRef) (code : Nat) (hm : Sub 16 M) (fr : Frame M s0 s) :
    Frame M s0 (State.finishRef s r code) := by
  unfold State.finishRef
  repeat' (first
    | with_reducible assumption | with_reducible apply State.finish_frame | split)

theorem planUnitAck_frame (i : Nat) (u : PlanUnit) (s : State) (hm : Sub 2064 M) (fr : Frame M s0 s) :
    Frame M s0 (planUnitAck i u s) := by
  unfold planUnitAck
  repeat' (first
    | with_reducible intro _ | with_reducible assumption | with_reducible apply State.finishRef_frame
    | with_reducible apply State.setSlot_frame | with_reducible apply Frame.ite | exact Sub.tr (show Sub _ 2064 from rfl) hm)

theorem planLoadTimeout_frame (i : Nat) (s : State) (hm : Sub 2064 M) (fr : Frame M s0 s) :
    Frame M s0 (planLoadTimeout i s) := by
  unfold planLoadTimeout
  repeat' (first
    | with_reducible intro _ | with_reducible assumption | with_reducible apply State.finishRef_frame
    | with_reducible apply State.setSlot_frame | with_reducible apply Frame.ite | exact Sub.tr (show Sub _ 2064 from rfl) hm)

theorem State.loadsDone_frame (s : State) (hm : Sub 2064 M) (fr : Frame M s0 s) :
    Frame M s0 (State.loadsDone s) := by
  unfold State.loadsDone
  repeat' (first
    | with_reducible intro _ | with_reducible assumption | with_reducible apply State.finishRef_frame
    | with_reducible apply State.setSlot_frame | with_reducible apply Frame.ite | exact Sub.tr (show Sub _ 2064 from rfl) hm
    | with_reducible apply Frame.foldl)

theorem State.loadPlans_frame (s : State) (t : Side) (hm : Sub 2048 M) (fr : Frame M s0 s) :
    Frame M s0 (State.loadPlans s t) := by
  unfold State.loadPlans
  repeat' (first
    | with_reducible intro _ | with_reducible assumption | with_reducible apply State.modSlot_frame
    | with_reducible apply Frame.foldl)

theorem planRelease_frame (r : CmdRef) (s : State) (hm : Sub 1050928 M) (fr : Frame M s0 s) :
    Frame M s0 (planRelease r s) := by
  unfold planRelease
  repeat' (first
    | with_reducible intro _ | with_reducible assumption | with_reducible apply State.finishRef_frame
    | with_reducible apply State.setSlot_frame | with_reducible apply planCtl_frame
    | exact Sub.tr (show Sub _ 1050928 from rfl) hm | with_reducible exact FrameC.reject | with_reducible apply FrameC.done
    | split)

theorem planCommit_frame (r : CmdRef) (s : State) (hm : Sub 1050928 M) (fr : Frame M s0 s) :
    Frame M s0 (planCommit r s) := by
  unfold planCommit
  repeat' (first
    | with_reducible intro _ | with_reducible assumption | with_reducible apply State.modPlan_frame
    | with_reducible apply State.setSlot_frame | with_reducible apply planCtl_frame | with_reducible apply FrameC.ite
    | exact Sub.tr (show Sub _ 1050928 from rfl) hm | with_reducible exact FrameC.reject | with_reducible apply FrameC.later)

theorem State.withdraw_frame (s : State) (m : Commit) (code : Nat) (hm : Sub 2064 M) (fr : Frame M s0 s) :
    Frame M s0 (State.withdraw s m code) := by
  unfold State.withdraw
  repeat' (first
    | with_reducible assumption | with_reducible apply State.modPlan_frame | with_reducible apply State.setSlot_frame
    | with_reducible apply State.finish_frame | exact Sub.tr (show Sub _ 2064 from rfl) hm)

theorem planWithdraw_frame (r : CmdRef) (s : State) (hm : Sub 1050928 M) (fr : Frame M s0 s) :
    Frame M s0 (planWithdraw r s) := by
  unfold planWithdraw
  repeat' (first
    | with_reducible intro _ | with_reducible assumption | with_reducible apply State.withdraw_frame
    | with_reducible apply State.modPlan_frame | with_reducible apply State.modCmd_frame | with_reducible apply planCtl_frame
    | with_reducible apply FrameC.ite | exact Sub.tr (show Sub _ 1050928 from rfl) hm | with_reducible exact FrameC.reject
    | with_reducible apply FrameC.done | split)

theorem State.stagingCheck_frame (s : State) (m : Commit) (hm : Sub 2048 M) (fr : Frame M s0 s) :
    Frame M s0 (State.stagingCheck s m) := by
  unfold State.stagingCheck
  repeat' (first
    | with_reducible assumption | with_reducible apply State.modPlan_frame)

theorem State.tellDecision_frame (s : State) (group tick : Nat) (stands : Bool) (hm : Sub 1048576 M) (fr : Frame M s0 s) :
    Frame M s0 (State.tellDecision s group tick stands) := by
  unfold State.tellDecision
  repeat' (first
    | with_reducible assumption | with_reducible apply State.emits_frame)

theorem State.reportUp_frame (s : State) (hm : Sub 1050624 M) (fr : Frame M s0 s) :
    Frame M s0 (State.reportUp s) := by
  unfold State.reportUp
  repeat' (first
    | with_reducible intro _ | with_reducible assumption | with_reducible apply State.modPlan_frame
    | with_reducible apply State.emit_frame | with_reducible apply Frame.ite | exact Sub.tr (show Sub _ 1050624 from rfl) hm
    | split)

theorem planStagingCheck_frame (s : State) (hm : Sub 1050624 M) (fr : Frame M s0 s) :
    Frame M s0 (planStagingCheck s) := by
  unfold planStagingCheck
  repeat' (first
    | with_reducible intro _ | with_reducible assumption | with_reducible apply State.stagingCheck_frame
    | with_reducible apply State.reportUp_frame | with_reducible apply Frame.ite | exact Sub.tr (show Sub _ 1050624 from rfl) hm
    | split)

theorem State.resultUp_frame (s : State) (dev group tick : Nat) (ok : Bool) (hm : Sub 1050624 M) (fr : Frame M s0 s) :
    Frame M s0 (State.resultUp s dev group tick ok) := by
  unfold State.resultUp
  repeat' (first
    | with_reducible intro _ | with_reducible assumption | with_reducible apply State.tellDecision_frame
    | with_reducible apply State.reportUp_frame | with_reducible apply State.modPlan_frame | with_reducible apply State.emit_frame
    | with_reducible apply Frame.ite | exact Sub.tr (show Sub _ 1050624 from rfl) hm | split)

theorem State.decisionDown_frame (s : State) (group tick : Nat) (stands : Bool) (hm : Sub 1050624 M) (fr : Frame M s0 s) :
    Frame M s0 (State.decisionDown s group tick stands) := by
  unfold State.decisionDown
  repeat' (first
    | with_reducible intro _ | with_reducible assumption | with_reducible apply State.tellDecision_frame
    | with_reducible apply State.modPlan_frame | with_reducible apply Frame.ite | exact Sub.tr (show Sub _ 1050624 from rfl) hm
    | split | dsimp only)

theorem planGroupDecision_frame (dev group tick : Nat) (up stands : Bool) (s : State) (hm : Sub 1050624 M) (fr : Frame M s0 s) :
    Frame M s0 (planGroupDecision dev group tick up stands s) := by
  unfold planGroupDecision
  repeat' (first
    | with_reducible intro _ | with_reducible assumption | with_reducible apply State.decisionDown_frame
    | with_reducible apply State.resultUp_frame | with_reducible apply Frame.ite)

theorem State.rootDecides_frame (s : State) (hm : Sub 1050624 M) (fr : Frame M s0 s) :
    Frame M s0 (State.rootDecides s) := by
  unfold State.rootDecides
  repeat' (first
    | with_reducible intro _ | with_reducible assumption | with_reducible apply State.tellDecision_frame
    | with_reducible apply State.modPlan_frame | with_reducible apply Frame.ite | exact Sub.tr (show Sub _ 1050624 from rfl) hm
    | split)

theorem State.missDecision_frame (s : State) (m : Commit) (hm : Sub 44048 M) (fr : Frame M s0 s) :
    Frame M s0 (State.missDecision s m) := by
  unfold State.missDecision
  repeat' (first
    | with_reducible assumption | with_reducible apply State.withdraw_frame | with_reducible apply State.modPlan_frame
    | with_reducible apply State.chip_frame | exact Sub.tr (show Sub _ 44048 from rfl) hm)

theorem planDecisionMissed_frame (s : State) (hm : Sub 44048 M) (fr : Frame M s0 s) :
    Frame M s0 (planDecisionMissed s) := by
  unfold planDecisionMissed
  repeat' (first
    | with_reducible intro _ | with_reducible assumption | with_reducible apply State.missDecision_frame
    | with_reducible apply Frame.ite | split)

theorem State.commitStep_frame (s : State) (hm : Sub 1092624 M) (fr : Frame M s0 s) :
    Frame M s0 (State.commitStep s) := by
  unfold State.commitStep
  repeat' (first
    | with_reducible intro _ | with_reducible assumption | with_reducible apply State.stagingCheck_frame
    | with_reducible apply State.missDecision_frame | with_reducible apply State.rootDecides_frame
    | with_reducible apply State.reportUp_frame | with_reducible apply State.withdraw_frame
    | with_reducible apply State.modPlan_frame | with_reducible apply Frame.ite | exact Sub.tr (show Sub _ 1092624 from rfl) hm
    | split | dsimp only)

theorem State.planSwitch_frame (s : State) (hm : Sub 2066 M) (fr : Frame M s0 s) :
    Frame M s0 (State.planSwitch s) := by
  unfold State.planSwitch
  repeat' (first
    | with_reducible intro _ | with_reducible assumption | with_reducible apply State.modSlot_frame
    | with_reducible apply State.modTime_frame | with_reducible apply State.modPlan_frame
    | with_reducible apply State.finish_frame | with_reducible apply Frame.ite | exact Sub.tr (show Sub _ 2066 from rfl) hm
    | split)

theorem State.writeEntry_frame (s : State) (a e : Nat) (hm : Sub 128 M) (fr : Frame M s0 s) :
    Frame M s0 (State.writeEntry s a e) := by
  unfold State.writeEntry
  repeat' (first
    | with_reducible assumption | with_reducible apply State.modXlt_frame)

theorem State.newTable_frame (s : State) (slot : Nat) (hm : Sub 262272 M) (fr : Frame M s0 s) :
    FrameOX M s0 (State.newTable s slot) := by
  unfold State.newTable
  repeat' (first
    | with_reducible intro _ | with_reducible assumption | with_reducible apply State.modXlt_frame
    | with_reducible apply State.setMem_frame | with_reducible apply Mem.clearPage_wf
    | exact Sub.tr (show Sub _ 262272 from rfl) hm | with_reducible refine Frame.wf (m := M) (s := s0) ?_ (by assumption)
    | with_reducible apply FrameOX.map | with_reducible exact FrameOX.none | split | dsimp only)

theorem State.makePath_frame (s : State) (slot va : Nat) (target a5 a6 : Nat) (hm : Sub 262272 M) (fr : Frame M s0 s) :
    FrameOX M s0 (State.makePath s slot va target a5 a6) := by
  revert fr
  fun_induction State.makePath s slot va target a5 a6 <;> intro fr
  all_goals
    repeat' (first
    | with_reducible assumption | with_reducible apply State.writeEntry_frame | with_reducible apply State.newTable_frame
    | exact Sub.tr (show Sub _ 262272 from rfl) hm | with_reducible refine Frame.ih (P := Frame M s0 _) (by assumption) ?_
    | with_reducible refine Frame.of_somex (by assumption) ?_ | with_reducible apply FrameOX.some
    | with_reducible exact FrameOX.none)

theorem State.prune_frame (s : State) (slot a3 : Nat) (hm : Sub 128 M) (fr : Frame M s0 s) :
    Frame M s0 (State.prune s slot a3) := by
  revert fr
  fun_induction State.prune s slot a3 <;> intro fr
  all_goals
    repeat' (first
    | with_reducible intro _ | with_reducible assumption | with_reducible apply State.writeEntry_frame
    | with_reducible apply State.modXlt_frame | with_reducible apply Frame.ite
    | with_reducible refine Frame.ih (P := Frame M s0 _) (by assumption) ?_ | with_reducible apply Frame.foldl)

theorem State.changes_frame (s : State) (slot page pages : Nat) (purge : Bool) (hm : Sub 128 M) (fr : Frame M s0 s) :
    Frame M s0 (State.changes s slot page pages purge) := by
  unfold State.changes
  repeat' (first
    | with_reducible assumption | with_reducible apply State.modXlt_frame)

theorem State.mapPage_frame (s : State) (slot va : Nat) (ps who field : Nat) (b : List Byte) (hm : Sub 262272 M) (fr : Frame M s0 s) :
    FrameO M s0 (State.mapPage s slot va ps who field b) := by
  unfold State.mapPage
  repeat' (first
    | with_reducible intro _ | with_reducible assumption | with_reducible apply State.writeEntry_frame
    | with_reducible apply State.makePath_frame | with_reducible apply State.modXlt_frame | with_reducible apply Frame.ite
    | exact Sub.tr (show Sub _ 262272 from rfl) hm | with_reducible refine Frame.of_somex (by assumption) ?_
    | with_reducible exact FrameO.none | with_reducible apply FrameO.some | with_reducible apply Frame.foldl | split)

theorem State.mapPages_frame (s : State) (slot ps who : Nat) (b : List Byte) (a6 a7 a8 : Nat) (hm : Sub 262272 M) (fr : Frame M s0 s) :
    FrameO M s0 (State.mapPages s slot ps who b a6 a7 a8) := by
  revert fr
  fun_induction State.mapPages s slot ps who b a6 a7 a8 <;> intro fr
  all_goals
    repeat' (first
    | with_reducible assumption | with_reducible apply State.mapPage_frame
    | with_reducible refine Frame.ih (P := Frame M s0 _) (by assumption) ?_
    | with_reducible refine Frame.of_some (by assumption) ?_ | with_reducible exact FrameO.none | with_reducible apply FrameO.some
    )

theorem State.mapRun_frame (s : State) (slot : Nat) (b : List Byte) (hm : Sub 262272 M) (fr : Frame M s0 s) :
    FrameE M s0 (State.mapRun s slot b) := by
  unfold State.mapRun
  repeat' (first
    | with_reducible intro _ | with_reducible assumption | with_reducible apply State.mapPages_frame
    | with_reducible apply State.changes_frame | with_reducible apply FrameE.ite | exact Sub.tr (show Sub _ 262272 from rfl) hm
    | with_reducible refine Frame.of_some (by assumption) ?_ | with_reducible exact FrameE.error | with_reducible apply FrameE.ok
    | split)

theorem State.awaitEffect_frame (s : State) (qn pos : Nat) (hm : Sub 16 M) (fr : Frame M s0 s) :
    Frame M s0 (State.awaitEffect s qn pos) := by
  unfold State.awaitEffect
  repeat' (first
    | with_reducible assumption | with_reducible apply State.modCmd_frame)

theorem mapCmd_frame (r : CmdRef) (s : State) (hm : Sub 1313168 M) (fr : Frame M s0 s) :
    Frame M s0 (mapCmd r s) := by
  unfold mapCmd
  repeat' (first
    | with_reducible intro _ | with_reducible assumption | with_reducible apply State.awaitEffect_frame
    | with_reducible apply State.mapRun_frame | with_reducible apply State.finish_frame | with_reducible apply begin_frame
    | exact Sub.tr (show Sub _ 1313168 from rfl) hm | with_reducible refine Frame.of_ok (by assumption) ?_ | split)

theorem unmapCmd_frame (r : CmdRef) (s : State) (hm : Sub 1051024 M) (fr : Frame M s0 s) :
    Frame M s0 (unmapCmd r s) := by
  unfold unmapCmd
  repeat' (first
    | with_reducible intro _ | with_reducible assumption | with_reducible apply State.awaitEffect_frame
    | with_reducible apply State.writeEntry_frame | with_reducible apply State.changes_frame
    | with_reducible apply State.finish_frame | with_reducible apply State.prune_frame | with_reducible apply begin_frame
    | with_reducible apply Frame.ite | exact Sub.tr (show Sub _ 1051024 from rfl) hm | with_reducible apply Frame.foldl)

theorem invalidateCmd_frame (r : CmdRef) (s : State) (hm : Sub 1051024 M) (fr : Frame M s0 s) :
    Frame M s0 (invalidateCmd r s) := by
  unfold invalidateCmd
  repeat' (first
    | with_reducible intro _ | with_reducible assumption | with_reducible apply State.askInvalidate_frame
    | with_reducible apply State.finish_frame | with_reducible apply State.purge_frame | with_reducible apply begin_frame
    | with_reducible apply Frame.ite | exact Sub.tr (show Sub _ 1051024 from rfl) hm)

theorem State.coreDone_frame (s : State) (r : CmdRef) (n : Nat) (hm : Sub 16 M) (fr : Frame M s0 s) :
    Frame M s0 (State.coreDone s r n) := by
  unfold State.coreDone
  repeat' (first
    | with_reducible assumption | with_reducible apply State.modQueue_frame)

theorem State.peerInvDone_frame (s : State) (r : CmdRef) (hm : Sub 16 M) (fr : Frame M s0 s) :
    Frame M s0 (State.peerInvDone s r) := by
  unfold State.peerInvDone
  repeat' (first
    | with_reducible assumption | with_reducible apply State.modQueue_frame)

theorem State.applyMaps_frame (s : State) (hm : Sub 262288 M) (fr : Frame M s0 s) :
    Frame M s0 (State.applyMaps s) := by
  unfold State.applyMaps
  repeat' (first
    | with_reducible intro _ | with_reducible assumption | with_reducible apply State.purgeHost_frame
    | with_reducible apply State.mapQueues_frame | with_reducible apply State.setMem_frame
    | with_reducible apply State.modXlt_frame | with_reducible apply State.purge_frame | with_reducible apply Frame.ite
    | with_reducible apply Mem.writeN_wf | exact Sub.tr (show Sub _ 262288 from rfl) hm
    | with_reducible refine Frame.wf (m := M) (s := s0) ?_ (by assumption) | with_reducible apply Frame.foldl)

theorem objectFreed_frame (i : Nat) (s : State) (hm : Sub 192 M) (fr : Frame M s0 s) :
    Frame M s0 (objectFreed i s) := by
  unfold objectFreed
  repeat' (first
    | with_reducible intro _ | with_reducible assumption | with_reducible apply State.writeEntry_frame
    | with_reducible apply State.changes_frame | with_reducible apply State.setObj_frame | with_reducible apply State.prune_frame
    | with_reducible apply Frame.ite | exact Sub.tr (show Sub _ 192 from rfl) hm | with_reducible apply Frame.foldl)

end Sys2Proof.Machine
end

