-- ==== Sys2Proof/Laws/FrameEngine.lean ====
section
/-! SUPPORT. Frame laws, one per operation (Sys2Proof/Laws/Frame.lean says what they state): engines, translation, completion and collectives. -/

namespace Sys2Proof.Machine

variable {M : Nat} {s0 : State}

theorem State.dropClaim_frame (s : State) (qn pos u : Nat) (hm : Sub 16 M) (fr : Frame M s0 s) :
    Frame M s0 (State.dropClaim s qn pos u) := by
  unfold State.dropClaim
  repeat' (first
    | with_reducible assumption | with_reducible apply State.modCmd_frame)

theorem State.endUnit_frame (s : State) (qn pos : Nat) (u code : Nat) (hm : Sub 16 M) (fr : Frame M s0 s) :
    Frame M s0 (State.endUnit s qn pos u code) := by
  unfold State.endUnit
  repeat' (first
    | with_reducible assumption | with_reducible apply State.dropClaim_frame | with_reducible apply State.modCmd_frame)

theorem State.writePiece_frame (s : State) (qn pos u : Nat) (p : Piece) (l : List PByte) (hm : Sub 1442064 M) (fr : Frame M s0 s) :
    Frame M s0 (State.writePiece s qn pos u p l) := by
  unfold State.writePiece
  repeat' (first
    | with_reducible intro _ | with_reducible assumption | with_reducible apply State.hostWrite_frame
    | with_reducible apply State.fabSend_frame | with_reducible apply State.setMem_frame | with_reducible apply State.modCmd_frame
    | with_reducible apply State.modFab_frame | with_reducible apply Mem.storeP_wf | exact Sub.tr (show Sub _ 1442064 from rfl) hm
    | with_reducible refine Frame.wf (m := M) (s := s0) ?_ (by assumption) | with_reducible apply Frame.foldl | split | dsimp only
    )

theorem State.addElements_frame (s : State) (i32 : Bool) (a3 : List Nat) (a4 : List (List Prod × Bool)) (a5 : Nat) (hm : Sub 262144 M) (fr : Frame M s0 s) :
    Frame M s0 (State.addElements s i32 a3 a4 a5).1 := by
  revert fr
  fun_induction State.addElements s i32 a3 a4 a5 <;> intro fr
  all_goals
    repeat' (first
    | with_reducible intro _ | with_reducible assumption | with_reducible apply State.setMem_frame
    | with_reducible apply Frame.ite | with_reducible apply Mem.storeP_wf
    | with_reducible refine Frame.ih (P := Frame M s0 _) (by assumption) ?_
    | with_reducible refine Frame.wf (m := M) (s := s0) ?_ (by assumption))

theorem State.undefine_frame (s : State) (qn pos : Nat) (l : List (Nat × Nat)) (hm : Sub 262144 M) (fr : Frame M s0 s) :
    Frame M s0 (State.undefine s qn pos l) := by
  unfold State.undefine
  repeat' (first
    | with_reducible intro _ | with_reducible assumption | with_reducible apply State.setMem_frame
    | with_reducible apply Mem.writeN_wf | with_reducible refine Frame.wf (m := M) (s := s0) ?_ (by assumption)
    | with_reducible apply Frame.foldl)

theorem State.disturb_frame (s : State) (by_ : Option (Nat × Nat)) (l : List (Nat × Nat)) (hm : Sub 262160 M) (fr : Frame M s0 s) :
    Frame M s0 (State.disturb s by_ l) := by
  unfold State.disturb
  repeat' (first
    | with_reducible intro _ | with_reducible assumption | with_reducible apply State.undefine_frame
    | with_reducible apply State.modCmd_frame | with_reducible apply Frame.ite | exact Sub.tr (show Sub _ 262160 from rfl) hm
    | with_reducible apply Frame.foldl)

theorem State.writePieces_frame (s : State) (qn pos u : Nat) (a5 : List Piece) (a6 : List PByte) (hm : Sub 1442064 M) (fr : Frame M s0 s) :
    Frame M s0 (State.writePieces s qn pos u a5 a6) := by
  revert fr
  fun_induction State.writePieces s qn pos u a5 a6 <;> intro fr
  all_goals
    repeat' (first
    | with_reducible assumption | with_reducible apply State.writePiece_frame
    | with_reducible refine Frame.ih (P := Frame M s0 _) (by assumption) ?_)

theorem State.completeUnit_frame (s : State) (qn : Nat) (c : Cmd) (u engine : Nat) (w : Work) (wp : List Piece) (src : List PByte) (land : List PByte → List PByte) (hm : Sub 1446160 M) (fr : Frame M s0 s) :
    Frame M s0 (State.completeUnit s qn c u engine w wp src land) := by
  unfold State.completeUnit
  repeat' (first
    | with_reducible intro _ | with_reducible assumption | with_reducible apply State.addElements_frame
    | with_reducible apply State.writePieces_frame | with_reducible apply State.modEngine_frame
    | with_reducible apply State.undefine_frame | with_reducible apply State.endUnit_frame
    | with_reducible apply State.disturb_frame | with_reducible apply State.modCmd_frame | with_reducible apply Frame.ite
    | exact Sub.tr (show Sub _ 1446160 from rfl) hm | split)

theorem State.useLinks_frame (s : State) (qn : Nat) (l : List (Option Nat × Nat)) (hm : Sub 2048 M) (fr : Frame M s0 s) :
    Frame M s0 (State.useLinks s qn l) := by
  unfold State.useLinks
  repeat' (first
    | with_reducible assumption | with_reducible apply State.modPlan_frame)

theorem State.sendNotice_frame (s : State) (qn : Nat) (c : Cmd) (hm : Sub 1048592 M) (fr : Frame M s0 s) :
    Frame M s0 (State.sendNotice s qn c) := by
  unfold State.sendNotice
  repeat' (first
    | with_reducible intro _ | with_reducible assumption | with_reducible apply State.modCmd_frame
    | with_reducible apply State.emit_frame | with_reducible apply Frame.ite | exact Sub.tr (show Sub _ 1048592 from rfl) hm)

theorem State.stallAt_frame (s : State) (qn pos u : Nat) (hm : Sub 16 M) (fr : Frame M s0 s) :
    Frame M s0 (State.stallAt s qn pos u) := by
  unfold State.stallAt
  repeat' (first
    | with_reducible assumption | with_reducible apply State.modCmd_frame)

theorem State.unitFault_frame (s : State) (qn : Nat) (c : Cmd) (u cva : Nat) (reason level : Nat) (acc : Access) (hm : Sub 42134 M) (fr : Frame M s0 s) :
    Frame M s0 (State.unitFault s qn c u cva reason level acc) := by
  unfold State.unitFault
  repeat' (first
    | with_reducible intro _ | with_reducible assumption | with_reducible apply State.recordFault_frame
    | with_reducible apply State.walkPoison_frame | with_reducible apply State.stallAt_frame
    | with_reducible apply State.endUnit_frame | with_reducible apply Frame.ite | exact Sub.tr (show Sub _ 42134 from rfl) hm)

theorem State.lookAhead_frame (s : State) (qn : Nat) (c : Cmd) (u rem : Nat) (hm : Sub 128 M) (fr : Frame M s0 s) :
    Frame M s0 (State.lookAhead s qn c u rem) := by
  unfold State.lookAhead
  repeat' (first
    | with_reducible intro _ | with_reducible assumption | with_reducible apply State.recordFault_frame
    | with_reducible apply Frame.foldl | split)

theorem State.unitMiss_frame (s : State) (qn : Nat) (c : Cmd) (u page : Nat) (acc : Access) (hm : Sub 1048720 M) (fr : Frame M s0 s) :
    Frame M s0 (State.unitMiss s qn c u page acc) := by
  unfold State.unitMiss
  repeat' (first
    | with_reducible intro _ | with_reducible assumption | with_reducible apply State.pageRequest_frame
    | with_reducible apply State.atsRequest_frame | with_reducible apply State.stallAt_frame | with_reducible apply Frame.ite
    | exact Sub.tr (show Sub _ 1048720 from rfl) hm | split | dsimp only)

theorem State.stopAt_frame (s : State) (qn : Nat) (c : Cmd) (u rem : Nat) (a6 : Stop) (hm : Sub 1090710 M) (fr : Frame M s0 s) :
    Frame M s0 (State.stopAt s qn c u rem a6) := by
  unfold State.stopAt
  repeat' (first
    | with_reducible assumption | with_reducible apply State.lookAhead_frame | with_reducible apply State.unitFault_frame
    | with_reducible apply State.unitMiss_frame | with_reducible apply State.endUnit_frame
    | with_reducible apply State.modCmd_frame | exact Sub.tr (show Sub _ 1090710 from rfl) hm | split)

theorem State.askAhead_frame (s : State) (qn : Nat) (c : Cmd) (u rem : Nat) (hm : Sub 1048704 M) (fr : Frame M s0 s) :
    Frame M s0 (State.askAhead s qn c u rem) := by
  unfold State.askAhead
  repeat' (first
    | with_reducible intro _ | with_reducible assumption | with_reducible apply State.atsRequest_frame
    | with_reducible apply Frame.ite | with_reducible apply Frame.foldl | split)

theorem State.issueReads_frame (s : State) (qn : Nat) (c : Cmd) (u engine : Nat) (rp : List Piece) (hm : Sub 1179920 M) (fr : Frame M s0 s) :
    Frame M s0 (State.issueReads s qn c u engine rp) := by
  unfold State.issueReads
  repeat' (first
    | with_reducible intro _ | with_reducible assumption | with_reducible apply State.request_frame
    | with_reducible apply State.fabSend_frame | with_reducible apply State.modFab_frame | with_reducible apply State.modCmd_frame
    | with_reducible apply State.emit_frame | exact Sub.tr (show Sub _ 1179920 from rfl) hm | with_reducible apply Frame.foldl
    | with_reducible apply Frame.foldl1 | split)

theorem State.claimStop_frame (s : State) (qn : Nat) (c : Cmd) (u room : Nat) (x : Stop) (hm : Sub 1090710 M) (fr : Frame M s0 s) :
    FrameW M s0 (State.claimStop s qn c u room x) := by
  unfold State.claimStop
  repeat' (first
    | with_reducible intro _ | with_reducible assumption | with_reducible apply State.askAhead_frame
    | with_reducible apply State.stopAt_frame | with_reducible apply FrameW.ite | exact Sub.tr (show Sub _ 1090710 from rfl) hm
    | with_reducible apply FrameW.waits | with_reducible apply FrameW.moved | with_reducible apply FrameW.ends | split)

theorem State.touchUnit_frame (s : State) (qn engine : Nat) (w : Work) (rp : List Piece) (wp : List Piece) (hm : Sub 128 M) (fr : Frame M s0 s) :
    Frame M s0 (State.touchUnit s qn engine w rp wp) := by
  unfold State.touchUnit
  repeat' (first
    | with_reducible intro _ | with_reducible assumption | with_reducible apply State.microFill_frame
    | with_reducible apply State.touch_frame | with_reducible apply Frame.foldl)

theorem State.claimUnit_frame (s : State) (qn : Nat) (c : Cmd) (u engine room : Nat) (hm : Sub 1555862 M) (fr : Frame M s0 s) :
    FrameW M s0 (State.claimUnit s qn c u engine room) := by
  unfold State.claimUnit
  repeat' (first
    | with_reducible intro _ | with_reducible assumption | with_reducible apply State.completeUnit_frame
    | with_reducible apply State.engineView_frame | with_reducible apply State.sendNotice_frame
    | with_reducible apply State.issueReads_frame | with_reducible apply State.claimStop_frame
    | with_reducible apply State.touchUnit_frame | with_reducible apply State.modEngine_frame
    | with_reducible apply State.useLinks_frame | with_reducible apply State.askAhead_frame
    | with_reducible apply State.uncached_frame | with_reducible apply State.endUnit_frame
    | with_reducible apply State.modXlt_frame | with_reducible apply State.modCmd_frame | with_reducible apply State.noRoom_frame
    | with_reducible apply Frame.ite | with_reducible apply FrameW.ite | exact Sub.tr (show Sub _ 1555862 from rfl) hm
    | with_reducible apply FrameW.moved | with_reducible apply FrameW.ends | split | dsimp only | dsimp only [id])

theorem State.runUnit_frame (s : State) (qn pos : Nat) (u engine : Nat) (hm : Sub 1553814 M) (fr : Frame M s0 s) :
    Frame M s0 (State.runUnit s qn pos u engine) := by
  unfold State.runUnit
  repeat' (first
    | with_reducible intro _ | with_reducible assumption | with_reducible apply State.completeUnit_frame
    | with_reducible apply State.dropClaim_frame | with_reducible apply State.uncached_frame
    | with_reducible apply State.stopAt_frame | with_reducible apply Frame.ite | exact Sub.tr (show Sub _ 1553814 from rfl) hm
    | split | dsimp only)

theorem State.sourceArrived_frame (s : State) (qn pos : Nat) (u off : Nat) (data : List PByte) (hm : Sub 1553814 M) (fr : Frame M s0 s) :
    Frame M s0 (State.sourceArrived s qn pos u off data) := by
  unfold State.sourceArrived
  repeat' (first
    | with_reducible intro _ | with_reducible assumption | with_reducible apply State.runUnit_frame
    | with_reducible apply State.modCmd_frame | with_reducible apply Frame.ite | exact Sub.tr (show Sub _ 1553814 from rfl) hm
    | split)

theorem State.countRoute_frame (s : State) (bl : Blur) (qn : Nat) (b : List Byte) (counts : List Nat) (i : Nat) (hm : Sub 262144 M) (fr : Frame M s0 s) :
    FrameESX M s0 (State.countRoute s bl qn b counts i) := by
  unfold State.countRoute
  repeat' (first
    | with_reducible intro _ | with_reducible assumption | with_reducible apply State.setMem_frame
    | with_reducible apply Mem.store_wf | with_reducible refine Frame.wf (m := M) (s := s0) ?_ (by assumption)
    | with_reducible apply FrameESX.ok | with_reducible exact FrameESX.error | split | dsimp only)

theorem State.countRoutes_frame (s : State) (bl : Blur) (qn : Nat) (b : List Byte) (a5 : List Nat) (a6 : List Nat) (hm : Sub 262144 M) (fr : Frame M s0 s) :
    FrameESX M s0 (State.countRoutes s bl qn b a5 a6) := by
  revert fr
  fun_induction State.countRoutes s bl qn b a5 a6 <;> intro fr
  all_goals
    repeat' (first
    | with_reducible assumption | with_reducible apply State.countRoute_frame
    | with_reducible refine Frame.ih (P := Frame M s0 _) (by assumption) ?_
    | with_reducible refine Frame.of_okx (by assumption) ?_ | with_reducible apply FrameESX.ok
    | with_reducible exact FrameESX.error)

theorem State.countStep_frame (s : State) (qn : Nat) (c : Cmd) (engine room : Nat) (hm : Sub 1352854 M) (fr : Frame M s0 s) :
    FrameW M s0 (State.countStep s qn c engine room) := by
  unfold State.countStep
  repeat' (first
    | with_reducible intro _ | with_reducible assumption | with_reducible apply State.countRoutes_frame
    | with_reducible apply State.claimStop_frame | with_reducible apply State.disturb_frame
    | with_reducible apply State.modCmd_frame | with_reducible apply FrameW.ite | exact Sub.tr (show Sub _ 1352854 from rfl) hm
    | with_reducible refine Frame.of_okx (by assumption) ?_ | with_reducible apply FrameW.moved | with_reducible apply FrameW.ends
    | split)

theorem State.window1_frame (s : State) (n qn : Nat) (from_ a5 : Nat) (a6 a7 : Nat) (hm : Sub 1555862 M) (fr : Frame M s0 s) :
    Frame M s0 (State.window1 s n qn from_ a5 a6 a7).state := by
  revert fr
  fun_induction State.window1 s n qn from_ a5 a6 a7 <;> intro fr
  all_goals
    repeat' (first
    | with_reducible intro _ | with_reducible assumption | with_reducible apply State.claimUnit_frame
    | with_reducible apply State.countStep_frame | with_reducible apply FrameW.ite | exact Sub.tr (show Sub _ 1555862 from rfl) hm
    | with_reducible refine Frame.ih (P := Frame M s0 _) (by assumption) ?_
    | with_reducible refine Frame.of_moved (by assumption) ?_ | with_reducible refine Frame.of_ends (by assumption) ?_
    | with_reducible refine Frame.of_waits (by assumption) ?_)

theorem State.windowEnd_frame (s : State) (n : Nat) (idle : Bool) (hm : Sub 6272 M) (fr : Frame M s0 s) :
    Frame M s0 (State.windowEnd s n idle) := by
  unfold State.windowEnd
  repeat' (first
    | with_reducible intro _ | with_reducible assumption | with_reducible apply State.microDrop_frame
    | with_reducible apply State.modEngine_frame | with_reducible apply State.modPlan_frame | with_reducible apply Frame.ite
    | exact Sub.tr (show Sub _ 6272 from rfl) hm)

theorem State.waitEnds_frame (s : State) (n : Nat) (hm : Sub 6272 M) (fr : Frame M s0 s) :
    Frame M s0 (State.waitEnds s n) := by
  unfold State.waitEnds
  repeat' (first
    | with_reducible intro _ | with_reducible assumption | with_reducible apply State.windowEnd_frame
    | with_reducible apply Frame.ite)

theorem State.runWindow_frame (s : State) (n i : Nat) (e : Word) (t : Nat) (hm : Sub 1555862 M) (fr : Frame M s0 s) :
    Frame M s0 (State.runWindow s n i e t) := by
  unfold State.runWindow
  repeat' (first
    | with_reducible intro _ | with_reducible assumption | with_reducible apply State.windowEnd_frame
    | with_reducible apply State.window1_frame | with_reducible apply State.modPlan_frame | with_reducible apply Frame.ite
    | exact Sub.tr (show Sub _ 1555862 from rfl) hm)

theorem State.resumeWindows_frame (s : State) (slot : Nat) (hm : Sub 3653014 M) (fr : Frame M s0 s) :
    Frame M s0 (State.resumeWindows s slot) := by
  unfold State.resumeWindows
  repeat' (first
    | with_reducible intro _ | with_reducible assumption | with_reducible apply State.runWindow_frame
    | with_reducible apply State.free_frame | with_reducible apply Frame.ite | exact Sub.tr (show Sub _ 3653014 from rfl) hm
    | with_reducible apply Frame.foldl | split)

theorem ceWindow_frame (n i : Nat) (s : State) (hm : Sub 1555862 M) (fr : Frame M s0 s) :
    Frame M s0 (ceWindow n i s) := by
  unfold ceWindow
  repeat' (first
    | with_reducible intro _ | with_reducible assumption | with_reducible apply State.runWindow_frame
    | with_reducible apply State.waitEnds_frame | with_reducible apply State.modPlan_frame | with_reducible apply Frame.ite
    | exact Sub.tr (show Sub _ 1555862 from rfl) hm | split)

theorem engineStart_frame (op : Nat) (r : CmdRef) (s : State) (hm : Sub 1050896 M) (fr : Frame M s0 s) :
    Frame M s0 (engineStart op r s) := by
  unfold engineStart
  repeat' (first
    | with_reducible intro _ | with_reducible assumption | with_reducible apply begin_frame)

theorem State.predict_frame (s : State) (slot qn cva : Nat) (hm : Sub 1048704 M) (fr : Frame M s0 s) :
    Frame M s0 (State.predict s slot qn cva) := by
  unfold State.predict
  repeat' (first
    | with_reducible intro _ | with_reducible assumption | with_reducible apply State.atsRequest_frame
    | with_reducible apply State.modXlt_frame | with_reducible apply State.touch_frame | with_reducible apply Frame.ite
    | exact Sub.tr (show Sub _ 1048704 from rfl) hm | split | dsimp only)

theorem walkComplete_frame (slot qn cva : Nat) (acc : Access) (s : State) (hm : Sub 1090710 M) (fr : Frame M s0 s) :
    Frame M s0 (walkComplete slot qn cva acc s) := by
  unfold walkComplete
  repeat' (first
    | with_reducible intro _ | with_reducible assumption | with_reducible apply State.lookAhead_frame
    | with_reducible apply State.unitFault_frame | with_reducible apply State.unitMiss_frame
    | with_reducible apply State.predict_frame | with_reducible apply State.touch_frame | with_reducible apply Frame.ite
    | exact Sub.tr (show Sub _ 1090710 from rfl) hm | split)

theorem State.failAccess_frame (s : State) (slot qn : Nat) (pos u : Nat) (page reason : Nat) (acc : Access) (hm : Sub 144 M) (fr : Frame M s0 s) :
    Frame M s0 (State.failAccess s slot qn pos u page reason acc) := by
  unfold State.failAccess
  repeat' (first
    | with_reducible intro _ | with_reducible assumption | with_reducible apply State.recordFault_frame
    | with_reducible apply State.endUnit_frame | with_reducible apply State.finish_frame | with_reducible apply State.park_frame
    | with_reducible apply Frame.ite | exact Sub.tr (show Sub _ 144 from rfl) hm | split)

theorem State.failPage_frame (s : State) (slot page reason : Nat) (acc : Access) (all : Bool) (asker : Option (Nat × Nat × Nat)) (hm : Sub 144 M) (fr : Frame M s0 s) :
    Frame M s0 (State.failPage s slot page reason acc all asker) := by
  unfold State.failPage
  repeat' (first
    | with_reducible intro _ | with_reducible assumption | with_reducible apply State.failAccess_frame
    | with_reducible apply State.modXlt_frame | exact Sub.tr (show Sub _ 144 from rfl) hm | with_reducible apply Frame.foldl)

theorem State.hostAbsent_frame (s : State) (slot qn : Nat) (pos u page : Nat) (acc : Access) (hm : Sub 144 M) (fr : Frame M s0 s) :
    Frame M s0 (State.hostAbsent s slot qn pos u page acc) := by
  unfold State.hostAbsent
  repeat' (first
    | with_reducible intro _ | with_reducible assumption | with_reducible apply State.pageRequest_frame
    | with_reducible apply State.failAccess_frame | with_reducible apply State.failPage_frame
    | with_reducible apply State.stallAt_frame | with_reducible apply Frame.ite | exact Sub.tr (show Sub _ 144 from rfl) hm
    | split | dsimp only)

theorem State.fillAtc_frame (s : State) (r : AtsReq) (addr sizeLog : Nat) (rr w : Bool) (hm : Sub 128 M) (fr : Frame M s0 s) :
    Frame M s0 (State.fillAtc s r addr sizeLog rr w) := by
  unfold State.fillAtc
  repeat' (first
    | with_reducible assumption | with_reducible apply State.modXlt_frame)

theorem atsCompletion_frame (p : Side) (tag : Nat) (result : AtsResult) (s : State) (hm : Sub 3653526 M) (fr : Frame M s0 s) :
    Frame M s0 (atsCompletion p tag result s) := by
  unfold atsCompletion
  repeat' (first
    | with_reducible intro _ | with_reducible assumption | with_reducible apply State.resumeWindows_frame
    | with_reducible apply State.staleDomain_frame | with_reducible apply State.stalePasid_frame
    | with_reducible apply State.atsRequest_frame | with_reducible apply State.hostAbsent_frame
    | with_reducible apply State.failPage_frame | with_reducible apply State.modFunc_frame
    | with_reducible apply State.fillAtc_frame | with_reducible apply State.modXlt_frame | with_reducible apply Frame.ite
    | exact Sub.tr (show Sub _ 3653526 from rfl) hm | split)

theorem atsInvalidate_frame (p : Side) (f itag : Nat) (pasid : Option Nat) (addr n : Nat) (s : State) (hm : Sub 128 M) (fr : Frame M s0 s) :
    Frame M s0 (atsInvalidate p f itag pasid addr n s) := by
  unfold atsInvalidate
  repeat' (first
    | with_reducible intro _ | with_reducible assumption | with_reducible apply State.dropAtc_frame
    | with_reducible apply State.modXlt_frame | with_reducible apply Frame.ite)

theorem atsInvDone_frame (p : Side) (f itag : Nat) (s : State) (hm : Sub 1048704 M) (fr : Frame M s0 s) :
    Frame M s0 (atsInvDone p f itag s) := by
  unfold atsInvDone
  repeat' (first
    | with_reducible intro _ | with_reducible assumption | with_reducible apply State.modXlt_frame
    | with_reducible apply State.emit_frame | with_reducible apply Frame.ite | exact Sub.tr (show Sub _ 1048704 from rfl) hm
    | split)

theorem State.failRequests_frame (s : State) (p : PageReq → Bool) (hm : Sub 144 M) (fr : Frame M s0 s) :
    Frame M s0 (State.failRequests s p) := by
  unfold State.failRequests
  repeat' (first
    | with_reducible intro _ | with_reducible assumption | with_reducible apply State.failAccess_frame
    | with_reducible apply State.modXlt_frame | exact Sub.tr (show Sub _ 144 from rfl) hm | with_reducible apply Frame.foldl)

theorem State.prg_frame (s : State) (p : Side) (f index gen : Nat) (code : PrgCode) (hm : Sub 1057424 M) (fr : Frame M s0 s) :
    Frame M s0 (State.prg s p f index gen code) := by
  unfold State.prg
  repeat' (first
    | with_reducible intro _ | with_reducible assumption | with_reducible apply State.failRequests_frame
    | with_reducible apply State.stalePasid_frame | with_reducible apply State.atsRequest_frame
    | with_reducible apply State.modFunc_frame | with_reducible apply State.modXlt_frame | with_reducible apply Frame.ite
    | exact Sub.tr (show Sub _ 1057424 from rfl) hm | with_reducible apply Frame.foldl | split)

theorem prgResponse_frame (c : Instr) (p : Side) (f index gen : Nat) (code : PrgCode) (s : State) (hm : Sub 1057426 M) (fr : Frame M s0 s) :
    Frame M s0 (prgResponse c p f index gen code s) := by
  unfold prgResponse
  repeat' (first
    | with_reducible intro _ | with_reducible assumption | with_reducible apply State.stamped_frame
    | with_reducible apply State.prg_frame | exact Sub.tr (show Sub _ 1057426 from rfl) hm)

theorem priTimeout_frame (p : Side) (index : Nat) (s : State) (hm : Sub 144 M) (fr : Frame M s0 s) :
    Frame M s0 (priTimeout p index s) := by
  unfold priTimeout
  repeat' (first
    | with_reducible intro _ | with_reducible assumption | with_reducible apply State.failRequests_frame
    | with_reducible apply State.modXlt_frame | with_reducible apply Frame.ite | exact Sub.tr (show Sub _ 144 from rfl) hm)

theorem State.reaskPages_frame (s : State) (hm : Sub 1048704 M) (fr : Frame M s0 s) :
    Frame M s0 (State.reaskPages s) := by
  unfold State.reaskPages
  repeat' (first
    | with_reducible intro _ | with_reducible assumption | with_reducible apply State.atsRequest_frame
    | with_reducible apply Frame.ite | with_reducible apply Frame.foldl | split)

theorem State.sendGroup_frame (s : State) (slot : Nat) (hm : Sub 1048704 M) (fr : Frame M s0 s) :
    Frame M s0 (State.sendGroup s slot) := by
  unfold State.sendGroup
  repeat' (first
    | with_reducible intro _ | with_reducible assumption | with_reducible apply State.modXlt_frame
    | with_reducible apply State.emits_frame | with_reducible apply Frame.ite | exact Sub.tr (show Sub _ 1048704 from rfl) hm
    | split | dsimp only)

theorem State.sendPageRequests_frame (s : State) (hm : Sub 1048704 M) (fr : Frame M s0 s) :
    Frame M s0 (State.sendPageRequests s) := by
  unfold State.sendPageRequests
  repeat' (first
    | with_reducible intro _ | with_reducible assumption | with_reducible apply State.sendGroup_frame
    | with_reducible apply Frame.foldl)

theorem State.resendRequests_frame (s : State) (p : PageReq → Bool) (hm : Sub 128 M) (fr : Frame M s0 s) :
    Frame M s0 (State.resendRequests s p) := by
  unfold State.resendRequests
  repeat' (first
    | with_reducible assumption | with_reducible apply State.modXlt_frame)

theorem State.dropRecord_frame (s : State) (r : FaultRec) (hm : Sub 128 M) (fr : Frame M s0 s) :
    Frame M s0 (State.dropRecord s r) := by
  unfold State.dropRecord
  repeat' (first
    | with_reducible assumption | with_reducible apply State.modXlt_frame)

theorem State.failRecord_frame (s : State) (r : FaultRec) (code : Nat) (hm : Sub 144 M) (fr : Frame M s0 s) :
    Frame M s0 (State.failRecord s r code) := by
  unfold State.failRecord
  repeat' (first
    | with_reducible intro _ | with_reducible assumption | with_reducible apply State.dropRecord_frame
    | with_reducible apply State.endUnit_frame | with_reducible apply State.finish_frame | with_reducible apply State.park_frame
    | with_reducible apply Frame.ite | exact Sub.tr (show Sub _ 144 from rfl) hm | with_reducible apply Frame.foldl | split
    | dsimp only)

theorem stallLimit_frame (p : Side) (f id : Nat) (s : State) (hm : Sub 144 M) (fr : Frame M s0 s) :
    Frame M s0 (stallLimit p f id s) := by
  unfold stallLimit
  repeat' (first
    | with_reducible intro _ | with_reducible assumption | with_reducible apply State.failRecord_frame
    | with_reducible apply Frame.ite | split)

theorem State.faultResp_frame (s : State) (p : Side) (f value : Nat) (hm : Sub 128 M) (fr : Frame M s0 s) :
    FrameE M s0 (State.faultResp s p f value) := by
  unfold State.faultResp
  repeat' (first
    | with_reducible intro _ | with_reducible assumption | with_reducible apply State.modXlt_frame
    | with_reducible apply FrameE.ite | with_reducible exact FrameE.error | with_reducible apply FrameE.ok)

theorem State.rewalk_frame (s : State) (qn pos : Nat) (hm : Sub 42134 M) (fr : Frame M s0 s) :
    Frame M s0 (State.rewalk s qn pos) := by
  unfold State.rewalk
  repeat' (first
    | with_reducible intro _ | with_reducible assumption | with_reducible apply State.unitFault_frame
    | with_reducible apply State.modCmd_frame | with_reducible apply Frame.ite | exact Sub.tr (show Sub _ 42134 from rfl) hm
    | split | dsimp only)

theorem State.rewalkControl_frame (s : State) (r : FaultRec) (qn pos : Nat) (hm : Sub 1090966 M) (fr : Frame M s0 s) :
    Frame M s0 (State.rewalkControl s r qn pos) := by
  unfold State.rewalkControl
  repeat' (first
    | with_reducible intro _ | with_reducible assumption | with_reducible apply State.controlFault_frame
    | with_reducible apply State.wordFault_frame | with_reducible apply State.dropWord_frame
    | with_reducible apply State.askWord_frame | with_reducible apply State.modCmd_frame | with_reducible apply Frame.ite
    | exact Sub.tr (show Sub _ 1090966 from rfl) hm | with_reducible apply Frame.foldl | split | dsimp only)

theorem State.rewalkRun_frame (s : State) (r : FaultRec) (hm : Sub 1090966 M) (fr : Frame M s0 s) :
    Frame M s0 (State.rewalkRun s r) := by
  unfold State.rewalkRun
  repeat' (first
    | with_reducible intro _ | with_reducible assumption | with_reducible apply State.rewalkControl_frame
    | with_reducible apply State.recordFault_frame | with_reducible apply Frame.ite
    | exact Sub.tr (show Sub _ 1090966 from rfl) hm | with_reducible apply Frame.foldl | split | dsimp only)

theorem State.endRecords_frame (s : State) (changes : List (Nat × Nat × Nat × Bool)) (hm : Sub 1090966 M) (fr : Frame M s0 s) :
    Frame M s0 (State.endRecords s changes) := by
  unfold State.endRecords
  repeat' (first
    | with_reducible intro _ | with_reducible assumption | with_reducible apply State.failRecord_frame
    | with_reducible apply State.dropRecord_frame | with_reducible apply State.rewalkRun_frame
    | with_reducible apply State.modXlt_frame | with_reducible apply State.rewalk_frame | with_reducible apply Frame.ite
    | exact Sub.tr (show Sub _ 1090966 from rfl) hm | with_reducible apply Frame.foldl | split)

theorem State.clearStalls_frame (s : State) (hm : Sub 16 M) (fr : Frame M s0 s) :
    Frame M s0 (State.clearStalls s) := by
  unfold State.clearStalls
  repeat' (first
    | with_reducible assumption | with_reducible apply State.mapQueues_frame)

theorem State.stampRecords_frame (s : State) (a2 : List FaultRec) (hm : Sub 2 M) (fr : Frame M s0 s) :
    Frame M s0 (State.stampRecords s a2).2 := by
  revert fr
  fun_induction State.stampRecords s a2 <;> intro fr
  all_goals
    repeat' (first
    | with_reducible assumption | with_reducible apply State.stamp_frame
    | with_reducible refine Frame.ih (P := Frame M s0 _) (by assumption) ?_
    | with_reducible refine Frame.of_snd (by assumption) ?_)

theorem State.writeBatch_frame (a1 : State) (a2 : List Nat) (a3 : List FaultRec) (hm : Sub 1050370 M) (fr : Frame M s0 a1) :
    Frame M s0 (State.writeBatch a1 a2 a3).2 := by
  induction a3 generalizing a1 a2 with
  | nil => exact fr
  | cons r t ih =>
    unfold State.writeBatch
    dsimp only
    repeat' (first
    | with_reducible assumption | with_reducible apply ih | with_reducible apply State.modFunc_frame
    | with_reducible apply State.raise_frame | with_reducible apply State.hostWrite_frame
    | exact Sub.tr (show Sub _ 1050370 from rfl) hm | split)

theorem State.faultRings_frame (s : State) (hm : Sub 1050498 M) (fr : Frame M s0 s) :
    Frame M s0 (State.faultRings s) := by
  unfold State.faultRings
  repeat' (first
    | with_reducible assumption | with_reducible apply State.stampRecords_frame | with_reducible apply State.writeBatch_frame
    | with_reducible apply State.mapFuncs_frame | with_reducible apply State.modXlt_frame
    | exact Sub.tr (show Sub _ 1050498 from rfl) hm)

theorem State.partCommit_frame (s : State) (slot value : Nat) (hm : Sub 128 M) (fr : Frame M s0 s) :
    FrameE M s0 (State.partCommit s slot value) := by
  unfold State.partCommit
  repeat' (first
    | with_reducible intro _ | with_reducible assumption | with_reducible apply State.modXlt_frame
    | with_reducible apply FrameE.ite | with_reducible exact FrameE.error | with_reducible apply FrameE.ok)

theorem State.issueInv_frame (s : State) (qn : Nat) (c : Cmd) (clusters : Nat) (ranges : List (Nat × Nat)) (hm : Sub 1179664 M) (fr : Frame M s0 s) :
    Frame M s0 (State.issueInv s qn c clusters ranges) := by
  unfold State.issueInv
  repeat' (first
    | with_reducible intro _ | with_reducible assumption | with_reducible apply State.askInvalidate_frame
    | with_reducible apply State.issueRest_frame | with_reducible apply State.modCmd_frame | with_reducible apply Frame.ite
    | exact Sub.tr (show Sub _ 1179664 from rfl) hm | split | dsimp only)

theorem State.halfSignals_frame (s : State) (qn : Nat) (c : Cmd) (hm : Sub 1180978 M) (fr : Frame M s0 s) :
    Frame M s0 (State.halfSignals s qn c) := by
  unfold State.halfSignals
  repeat' (first
    | with_reducible intro _ | with_reducible assumption | with_reducible apply State.halfSignal_frame
    | with_reducible apply State.raiseQueue_frame | with_reducible apply State.modCmd_frame
    | with_reducible apply State.stamp_frame | with_reducible apply Frame.ite | exact Sub.tr (show Sub _ 1180978 from rfl) hm)

theorem State.halfStep_frame (s : State) (qn : Nat) (c : Cmd) (hm : Sub 1180978 M) (fr : Frame M s0 s) :
    Frame M s0 (State.halfStep s qn c) := by
  unfold State.halfStep
  repeat' (first
    | with_reducible intro _ | with_reducible assumption | with_reducible apply State.halfSignals_frame
    | with_reducible apply State.carryOnce_frame | with_reducible apply State.issueInv_frame | with_reducible apply Frame.ite
    | exact Sub.tr (show Sub _ 1180978 from rfl) hm | split | dsimp only)

theorem State.halfSteps_frame (s : State) (qn : Nat) (hm : Sub 1180978 M) (fr : Frame M s0 s) :
    Frame M s0 (State.halfSteps s qn) := by
  unfold State.halfSteps
  repeat' (first
    | with_reducible intro _ | with_reducible assumption | with_reducible apply State.halfStep_frame
    | with_reducible apply Frame.foldl)

theorem State.addStats_frame (s : State) (qn : Nat) (c : Cmd) (hm : Sub 262160 M) (fr : Frame M s0 s) :
    Frame M s0 (State.addStats s qn c) := by
  unfold State.addStats
  repeat' (first
    | with_reducible intro _ | with_reducible assumption | with_reducible apply State.modCmd_frame
    | with_reducible apply State.setMem_frame | with_reducible apply Frame.ite | with_reducible apply Mem.store_wf
    | exact Sub.tr (show Sub _ 262160 from rfl) hm | with_reducible refine Frame.wf (m := M) (s := s0) ?_ (by assumption) | split)

theorem State.countWords_frame (s : State) (qn pos a4 : Nat) (hm : Sub 1444112 M) (fr : Frame M s0 s) :
    Frame M s0 (State.countWords s qn pos a4) := by
  induction a4 generalizing s with
  | zero => exact fr
  | succ k ih =>
    unfold State.countWords
    repeat' (first
    | with_reducible intro _ | with_reducible assumption | with_reducible apply State.writePiece_frame
    | with_reducible apply State.useLinks_frame | with_reducible apply State.disturb_frame
    | with_reducible apply State.modCmd_frame | with_reducible apply ih | with_reducible apply Frame.ite
    | exact Sub.tr (show Sub _ 1444112 from rfl) hm | split)

theorem State.lastWrites_frame (s : State) (qn : Nat) (c : Cmd) (code : Nat) (hm : Sub 1551766 M) (fr : Frame M s0 s) :
    Frame M s0 (State.lastWrites s qn c code) := by
  unfold State.lastWrites
  repeat' (first
    | with_reducible intro _ | with_reducible assumption | with_reducible apply State.countWords_frame
    | with_reducible apply State.unitFault_frame | with_reducible apply State.uncached_frame
    | with_reducible apply State.addStats_frame | with_reducible apply State.disturb_frame
    | with_reducible apply State.modCmd_frame | with_reducible apply Frame.ite | exact Sub.tr (show Sub _ 1551766 from rfl) hm
    | split)

theorem State.askNotice_frame (s : State) (qn : Nat) (c : Cmd) (code : Nat) (hm : Sub 1048592 M) (fr : Frame M s0 s) :
    Frame M s0 (State.askNotice s qn c code) := by
  unfold State.askNotice
  repeat' (first
    | with_reducible intro _ | with_reducible assumption | with_reducible apply State.sendNotice_frame
    | with_reducible apply Frame.ite)

theorem State.steps35_frame (s : State) (qn : Nat) (c : Cmd) (code : Nat) (hm : Sub 1549750 M) (fr : Frame M s0 s) :
    Frame M s0 (State.steps35 s qn c code) := by
  unfold State.steps35
  repeat' (first
    | with_reducible intro _ | with_reducible assumption | with_reducible apply State.writeDeferred_frame
    | with_reducible apply State.replyBlocked_frame | with_reducible apply State.askNotice_frame
    | with_reducible apply State.uncached_frame | with_reducible apply State.disturb_frame
    | with_reducible apply State.noRoom_frame | with_reducible apply State.retire_frame | with_reducible apply Frame.ite
    | exact Sub.tr (show Sub _ 1549750 from rfl) hm | with_reducible refine Frame.of_some (by assumption) ?_ | split)

theorem State.completeCmd_frame (s : State) (qn : Nat) (c : Cmd) (code : Nat) (hm : Sub 1551798 M) (fr : Frame M s0 s) :
    Frame M s0 (State.completeCmd s qn c code) := by
  unfold State.completeCmd
  repeat' (first
    | with_reducible intro _ | with_reducible assumption | with_reducible apply State.lastWrites_frame
    | with_reducible apply State.issueInv_frame | with_reducible apply State.steps35_frame | with_reducible apply Frame.ite
    | exact Sub.tr (show Sub _ 1551798 from rfl) hm | split | dsimp only)

theorem State.rejectReply_frame (s : State) (qn : Nat) (hm : Sub 1418646 M) (fr : Frame M s0 s) :
    Frame M s0 (State.rejectReply s qn) := by
  unfold State.rejectReply
  repeat' (first
    | with_reducible intro _ | with_reducible assumption | with_reducible apply State.writeDeferred_frame
    | with_reducible apply State.replyBlocked_frame | with_reducible apply State.uncached_frame
    | with_reducible apply State.modQueue_frame | with_reducible apply State.disturb_frame
    | with_reducible apply State.reply_frame | with_reducible apply State.park_frame | with_reducible apply Frame.ite
    | with_reducible apply FrameO.ite | exact Sub.tr (show Sub _ 1418646 from rfl) hm
    | with_reducible refine Frame.of_some (by assumption) ?_ | with_reducible exact FrameO.none | split | dsimp only)

theorem commandComplete_frame (qn : Nat) (s : State) (hm : Sub 1551798 M) (fr : Frame M s0 s) :
    Frame M s0 (commandComplete qn s) := by
  unfold commandComplete
  repeat' (first
    | with_reducible intro _ | with_reducible assumption | with_reducible apply State.rejectReply_frame
    | with_reducible apply State.completeCmd_frame | with_reducible apply State.halfSteps_frame | with_reducible apply Frame.ite
    | exact Sub.tr (show Sub _ 1551798 from rfl) hm | split | dsimp only)

theorem endAtStart_frame (op : Nat) (r : CmdRef) (s : State) (hm : Sub 1050896 M) (fr : Frame M s0 s) :
    Frame M s0 (endAtStart op r s) := by
  unfold endAtStart
  repeat' (first
    | with_reducible intro _ | with_reducible assumption | with_reducible apply State.finish_frame
    | with_reducible apply begin_frame | exact Sub.tr (show Sub _ 1050896 from rfl) hm)

theorem fenceWait_frame (r : CmdRef) (s : State) (hm : Sub 1050896 M) (fr : Frame M s0 s) :
    Frame M s0 (fenceWait r s) := by
  unfold fenceWait
  repeat' (first
    | with_reducible intro _ | with_reducible assumption | with_reducible apply State.modCmd_frame
    | with_reducible apply begin_frame | exact Sub.tr (show Sub _ 1050896 from rfl) hm)

theorem State.inlinePiece_frame (s : State) (qn : Nat) (c : Cmd) (i : Nat) (hm : Sub 1484182 M) (fr : Frame M s0 s) :
    FrameEE M s0 (State.inlinePiece s qn c i) := by
  unfold State.inlinePiece
  repeat' (first
    | with_reducible assumption | with_reducible apply State.writePiece_frame | with_reducible apply State.unitFault_frame
    | with_reducible apply State.hostWrite_frame | with_reducible apply State.unitMiss_frame
    | with_reducible apply State.endUnit_frame | with_reducible apply State.disturb_frame
    | with_reducible apply State.modCmd_frame | with_reducible apply State.touch_frame
    | exact Sub.tr (show Sub _ 1484182 from rfl) hm | with_reducible apply FrameEE.ok | with_reducible apply FrameEE.error | split
    | dsimp only)

theorem State.inlineFrom_frame (s : State) (qn pos a4 : Nat) (hm : Sub 1484182 M) (fr : Frame M s0 s) :
    Frame M s0 (State.inlineFrom s qn pos a4) := by
  revert fr
  fun_induction State.inlineFrom s qn pos a4 <;> intro fr
  all_goals
    repeat' (first
    | with_reducible assumption | with_reducible apply State.inlinePiece_frame | with_reducible apply State.finish_frame
    | exact Sub.tr (show Sub _ 1484182 from rfl) hm | with_reducible refine Frame.ih (P := Frame M s0 _) (by assumption) ?_
    | with_reducible refine Frame.of_okE (by assumption) ?_ | with_reducible refine Frame.of_errE (by assumption) ?_)

theorem State.runInline_frame (s : State) (r : CmdRef) (hm : Sub 1549718 M) (fr : Frame M s0 s) :
    Frame M s0 (State.runInline s r) := by
  unfold State.runInline
  repeat' (first
    | with_reducible intro _ | with_reducible assumption | with_reducible apply State.inlineFrom_frame
    | with_reducible apply State.uncached_frame | with_reducible apply State.noRoom_frame | with_reducible apply Frame.ite
    | exact Sub.tr (show Sub _ 1549718 from rfl) hm | split)

theorem writeInline_frame (r : CmdRef) (s : State) (hm : Sub 1551766 M) (fr : Frame M s0 s) :
    Frame M s0 (writeInline r s) := by
  unfold writeInline
  repeat' (first
    | with_reducible intro _ | with_reducible assumption | with_reducible apply State.runInline_frame
    | with_reducible apply begin_frame | exact Sub.tr (show Sub _ 1551766 from rfl) hm)

theorem State.tryLaunch_frame (s : State) (r : CmdRef) (hm : Sub 1048592 M) (fr : Frame M s0 s) :
    Frame M s0 (State.tryLaunch s r) := by
  unfold State.tryLaunch
  repeat' (first
    | with_reducible intro _ | with_reducible assumption | with_reducible apply State.sendNotice_frame
    | with_reducible apply State.finish_frame | with_reducible apply State.modCmd_frame | with_reducible apply State.emit_frame
    | with_reducible apply Frame.ite | exact Sub.tr (show Sub _ 1048592 from rfl) hm | split)

theorem launch_frame (r : CmdRef) (s : State) (hm : Sub 1050896 M) (fr : Frame M s0 s) :
    Frame M s0 (launch r s) := by
  unfold launch
  repeat' (first
    | with_reducible intro _ | with_reducible assumption | with_reducible apply State.tryLaunch_frame
    | with_reducible apply begin_frame | exact Sub.tr (show Sub _ 1050896 from rfl) hm)

theorem launchAnswer_frame (r : CmdRef) (gen code : Nat) (s : State) (hm : Sub 8208 M) (fr : Frame M s0 s) :
    Frame M s0 (launchAnswer r gen code s) := by
  unfold launchAnswer
  repeat' (first
    | with_reducible intro _ | with_reducible assumption | with_reducible apply State.staleDomain_frame
    | with_reducible apply State.staleCtx_frame | with_reducible apply State.modRst_frame
    | with_reducible apply State.modCmd_frame | with_reducible apply State.modCd_frame | with_reducible apply Frame.ite
    | exact Sub.tr (show Sub _ 8208 from rfl) hm | with_reducible apply Frame.foldl | split)

theorem intentAck_frame (r : CmdRef) (s : State) (hm : Sub 1048592 M) (fr : Frame M s0 s) :
    Frame M s0 (intentAck r s) := by
  unfold intentAck
  repeat' (first
    | with_reducible intro _ | with_reducible assumption | with_reducible apply State.tryLaunch_frame
    | with_reducible apply State.modCmd_frame | with_reducible apply Frame.ite | exact Sub.tr (show Sub _ 1048592 from rfl) hm
    | split)

theorem State.landBursts_frame (s : State) (qn : Nat) (c : Cmd) (hm : Sub 1442064 M) (fr : Frame M s0 s) :
    Frame M s0 (State.landBursts s qn c) := by
  unfold State.landBursts
  repeat' (first
    | with_reducible intro _ | with_reducible assumption | with_reducible apply State.writePieces_frame
    | with_reducible apply State.disturb_frame | with_reducible apply Frame.ite | exact Sub.tr (show Sub _ 1442064 from rfl) hm
    | with_reducible apply Frame.foldl | split)

theorem State.abortQueue_frame (s : State) (tn : Nat) (skip : Cmd → Bool) (hm : Sub 1442064 M) (fr : Frame M s0 s) :
    Frame M s0 (State.abortQueue s tn skip) := by
  unfold State.abortQueue
  repeat' (first
    | with_reducible intro _ | with_reducible assumption | with_reducible apply State.landBursts_frame
    | with_reducible apply State.modQueue_frame | with_reducible apply Frame.ite | exact Sub.tr (show Sub _ 1442064 from rfl) hm
    | with_reducible apply Frame.foldl)

theorem abort_frame (r : CmdRef) (s : State) (hm : Sub 1444112 M) (fr : Frame M s0 s) :
    Frame M s0 (abort r s) := by
  unfold abort
  repeat' (first
    | with_reducible intro _ | with_reducible assumption | with_reducible apply State.abortQueue_frame
    | with_reducible apply State.finish_frame | with_reducible apply begin_frame | exact Sub.tr (show Sub _ 1444112 from rfl) hm)

theorem State.retryCmd_frame (s : State) (qn : Nat) (c : Cmd) (hm : Sub 1549758 M) (fr : Frame M s0 s) :
    Frame M s0 (State.retryCmd s qn c) := by
  unfold State.retryCmd
  repeat' (first
    | with_reducible intro _ | with_reducible assumption | with_reducible apply State.runInline_frame
    | with_reducible apply State.tryLaunch_frame | with_reducible apply State.retryCtl_frame
    | with_reducible apply State.askWord_frame | with_reducible apply State.modCmd_frame | with_reducible apply Frame.ite
    | exact Sub.tr (show Sub _ 1549758 from rfl) hm)

theorem State.retryStarted_frame (s : State) (hm : Sub 1549758 M) (fr : Frame M s0 s) :
    Frame M s0 (State.retryStarted s) := by
  unfold State.retryStarted
  repeat' (first
    | with_reducible intro _ | with_reducible assumption | with_reducible apply State.retryCmd_frame
    | with_reducible apply Frame.foldl)

theorem State.completions_frame (s : State) (qn a3 : Nat) (hm : Sub 1551798 M) (fr : Frame M s0 s) :
    Frame M s0 (State.completions s qn a3) := by
  revert fr
  fun_induction State.completions s qn a3 <;> intro fr
  all_goals
    repeat' (first
    | with_reducible assumption | with_reducible apply commandComplete_frame
    | with_reducible refine Frame.ih (P := Frame M s0 _) (by assumption) ?_)

theorem State.allCompletions_frame (s : State) (hm : Sub 1551798 M) (fr : Frame M s0 s) :
    Frame M s0 (State.allCompletions s) := by
  unfold State.allCompletions
  repeat' (first
    | with_reducible intro _ | with_reducible assumption | with_reducible apply State.completions_frame
    | with_reducible apply Frame.foldl)

theorem State.modColl_frame (s : State) (r : CmdRef) (f : Coll → Coll) (hm : Sub 131072 M) (fr : Frame M s0 s) :
    Frame M s0 (State.modColl s r f) := by
  unfold State.modColl
  repeat' (first
    | with_reducible assumption | with_reducible apply State.modFab_frame)

theorem State.collTell_frame (s : State) (p : CollPar) (rank : Nat) (m : CollMsg) (hm : Sub 1179648 M) (fr : Frame M s0 s) :
    Frame M s0 (State.collTell s p rank m) := by
  unfold State.collTell
  repeat' (first
    | with_reducible assumption | with_reducible apply State.fabSend_frame)

theorem State.collSend_frame (s : State) (p : CollPar) (rank chunk : Nat) (d : CollDir) (data : List Byte) (ref : Option (CmdRef × Nat)) (hm : Sub 1179648 M) (fr : Frame M s0 s) :
    Frame M s0 (State.collSend s p rank chunk d data ref) := by
  unfold State.collSend
  repeat' (first
    | with_reducible assumption | with_reducible apply State.fabSend_frame)

theorem State.collEnd_frame (s : State) (r : CmdRef) (code : Nat) (hm : Sub 131088 M) (fr : Frame M s0 s) :
    Frame M s0 (State.collEnd s r code) := by
  unfold State.collEnd
  repeat' (first
    | with_reducible intro _ | with_reducible assumption | with_reducible apply State.modFab_frame
    | with_reducible apply State.finish_frame | with_reducible apply Frame.ite | exact Sub.tr (show Sub _ 131088 from rfl) hm
    | split | dsimp only)

theorem State.collAbort_frame (s : State) (p : CollPar) (r : CmdRef) (told own : Nat) (hm : Sub 1179664 M) (fr : Frame M s0 s) :
    Frame M s0 (State.collAbort s p r told own) := by
  unfold State.collAbort
  repeat' (first
    | with_reducible intro _ | with_reducible assumption | with_reducible apply State.collTell_frame
    | with_reducible apply State.collEnd_frame | exact Sub.tr (show Sub _ 1179664 from rfl) hm | with_reducible apply Frame.foldl)

theorem State.ownWrite_frame (s : State) (slot cva : Nat) (l : List PByte) (hm : Sub 262160 M) (fr : Frame M s0 s) :
    Frame M s0 (State.ownWrite s slot cva l) := by
  unfold State.ownWrite
  repeat' (first
    | with_reducible intro _ | with_reducible assumption | with_reducible apply State.disturb_frame
    | with_reducible apply State.setMem_frame | with_reducible apply Mem.storeP_wf | exact Sub.tr (show Sub _ 262160 from rfl) hm
    | with_reducible refine Frame.wf (m := M) (s := s0) ?_ (by assumption) | with_reducible apply Frame.foldl1 | split)

theorem State.modRef_frame (s : State) (r : CmdRef) (f : Cmd → Cmd) (hm : Sub 16 M) (fr : Frame M s0 s) :
    Frame M s0 (State.modRef s r f) := by
  unfold State.modRef
  repeat' (first
    | with_reducible assumption | with_reducible apply State.modQueue_frame)

theorem State.collPoison_frame (s : State) (r : CmdRef) (l : List PByte) (hm : Sub 16 M) (fr : Frame M s0 s) :
    Frame M s0 (State.collPoison s r l) := by
  unfold State.collPoison
  repeat' (first
    | with_reducible intro _ | with_reducible assumption | with_reducible apply State.modRef_frame
    | with_reducible apply Frame.ite)

def WorkF (M : Nat) (s0 : State) (o : Option CollWork) : Prop := ∀ w, o = some w → ∀ t, Frame M s0 t → Frame M s0 (w.run t)
theorem WorkF.none {M s0} : WorkF M s0 .none := fun _ h => by cases h
theorem WorkF.some {M s0 w} (h : ∀ t, Frame M s0 t → Frame M s0 (w.run t)) : WorkF M s0 (.some w) := fun _ e => by cases e; exact h
theorem WorkF.ite {M s0} {c : Prop} [Decidable c] {a b : Option CollWork} (h : c → WorkF M s0 a) (k : ¬c → WorkF M s0 b) :
    WorkF M s0 (if c then a else b) := by
  split
  · exact h ‹_›
  · exact k ‹_›
def WorksF (M : Nat) (s0 : State) (l : List CollWork) : Prop := ∀ w ∈ l, ∀ t, Frame M s0 t → Frame M s0 (w.run t)
theorem WorksF.single {M s0 w} {o : Option CollWork} (h : o = .some w) (k : WorkF M s0 o) : WorksF M s0 [w] :=
  fun x hx => by cases List.mem_singleton.1 hx; exact k w h
theorem WorksF.two {M s0} {a b : Option CollWork} (h : WorkF M s0 a) (k : WorkF M s0 b) : WorksF M s0 (a.toList ++ b.toList) :=
  fun x hx => by
    rcases List.mem_append.1 hx with e | e
    · exact h x (by simpa using e)
    · exact k x (by simpa using e)
theorem WorksF.of_eq {M s0} {a b : List CollWork} (h : a = b) (k : WorksF M s0 a) : WorksF M s0 b := h ▸ k

theorem State.climbReduce_frame (s : State) (slot : Nat) (p : CollPar) (c : Coll) (hm : Sub 1551510 M) : WorkF M s0 (State.climbReduce s slot p c) := by
  unfold State.climbReduce
  repeat' (first
    | with_reducible intro _ | with_reducible assumption | with_reducible exact WorkF.none | with_reducible apply WorkF.some
    | with_reducible apply WorkF.ite | with_reducible apply State.collSend_frame | with_reducible apply State.ownWrite_frame
    | with_reducible apply State.collPoison_frame | with_reducible apply State.modColl_frame | with_reducible apply Frame.ite
    | exact Sub.tr (show Sub _ 1551510 from rfl) hm | with_reducible apply Frame.foldl)

theorem State.climbGather_frame (s : State) (slot : Nat) (p : CollPar) (c : Coll) (hm : Sub 1551510 M) : WorkF M s0 (State.climbGather s slot p c) := by
  unfold State.climbGather
  repeat' (first
    | with_reducible intro _ | with_reducible assumption | with_reducible exact WorkF.none | with_reducible apply WorkF.some
    | with_reducible apply WorkF.ite | with_reducible apply State.collSend_frame | with_reducible apply State.ownWrite_frame
    | with_reducible apply State.collPoison_frame | with_reducible apply State.modColl_frame
    | exact Sub.tr (show Sub _ 1551510 from rfl) hm | with_reducible apply Frame.foldl | split)

theorem State.rootSends_frame (s : State) (slot : Nat) (p : CollPar) (c : Coll) (hm : Sub 1551510 M) : WorkF M s0 (State.rootSends s slot p c) := by
  unfold State.rootSends
  repeat' (first
    | with_reducible intro _ | with_reducible assumption | with_reducible exact WorkF.none | with_reducible apply WorkF.some
    | with_reducible apply WorkF.ite | with_reducible apply State.collSend_frame | with_reducible apply State.ownWrite_frame
    | with_reducible apply State.collPoison_frame | with_reducible apply State.modColl_frame
    | exact Sub.tr (show Sub _ 1551510 from rfl) hm | with_reducible apply Frame.foldl)

theorem State.descend_frame (s : State) (slot : Nat) (p : CollPar) (c : Coll) (hm : Sub 1551510 M) : WorkF M s0 (State.descend s slot p c) := by
  unfold State.descend
  repeat' (first
    | with_reducible intro _ | with_reducible assumption | with_reducible exact WorkF.none | with_reducible apply WorkF.some
    | with_reducible apply State.collSend_frame | with_reducible apply State.ownWrite_frame
    | with_reducible apply State.modColl_frame | exact Sub.tr (show Sub _ 1551510 from rfl) hm | with_reducible apply Frame.foldl
    | split)

theorem State.direct_frame (s : State) (slot : Nat) (p : CollPar) (c : Coll) (hm : Sub 1551510 M) : WorkF M s0 (State.direct s slot p c) := by
  unfold State.direct
  repeat' (first
    | with_reducible intro _ | with_reducible assumption | with_reducible exact WorkF.none | with_reducible apply WorkF.some
    | with_reducible apply WorkF.ite | with_reducible apply State.collSend_frame | with_reducible apply State.ownWrite_frame
    | with_reducible apply State.collPoison_frame | with_reducible apply State.modColl_frame
    | with_reducible apply State.modRef_frame | with_reducible apply Frame.ite | exact Sub.tr (show Sub _ 1551510 from rfl) hm)

theorem CollPar.directIn_frame (p : CollPar) (slot : Nat) (c : Coll) (hm : Sub 1551510 M) : WorkF M s0 (CollPar.directIn p slot c) := by
  unfold CollPar.directIn
  repeat' (first
    | with_reducible intro _ | with_reducible assumption | with_reducible exact WorkF.none | with_reducible apply WorkF.some
    | with_reducible apply WorkF.ite | with_reducible apply State.ownWrite_frame | with_reducible apply State.modColl_frame
    | exact Sub.tr (show Sub _ 1551510 from rfl) hm | with_reducible apply Frame.foldl)

theorem State.doWorks_frame (s : State) (qn : Nat) (c : Cmd) (p : CollPar) (r : CmdRef) (l : List CollWork) (hm : Sub 1551510 M) (hl : WorksF M s0 l) (fr : Frame M s0 s) :
    Frame M s0 (State.doWorks s qn c p r l).1 := by
  unfold State.doWorks
  repeat' (first
    | with_reducible apply Frame.foldl_mem | refine hl _ (by assumption) _ ?_ | with_reducible intro _ | with_reducible assumption
    | with_reducible apply State.uncached_frame | with_reducible apply State.useLinks_frame
    | with_reducible apply State.modColl_frame | with_reducible apply State.stopAt_frame | with_reducible apply State.touch_frame
    | exact Sub.tr (show Sub _ 1551510 from rfl) hm | split | dsimp only)

theorem State.directAll_frame (s : State) (qn : Nat) (cmd : Cmd) (p : CollPar) (r : CmdRef) (a6 : Nat) (hm : Sub 1551510 M) (fr : Frame M s0 s) :
    Frame M s0 (State.directAll s qn cmd p r a6) := by
  revert fr
  fun_induction State.directAll s qn cmd p r a6 <;> intro fr
  all_goals
    repeat' (first
    | with_reducible refine WorksF.single (by assumption) ?_ | with_reducible apply State.direct_frame | with_reducible assumption
    | with_reducible apply State.doWorks_frame | with_reducible refine Frame.ih (P := Frame M s0 _) (by assumption) ?_
    | with_reducible refine Frame.of_fst (by assumption) ?_)

theorem State.barrierStep_frame (s : State) (p : CollPar) (c : Coll) (hm : Sub 1179648 M) (fr : Frame M s0 s) :
    Frame M s0 (State.barrierStep s p c) := by
  unfold State.barrierStep
  repeat' (first
    | with_reducible intro _ | with_reducible assumption | with_reducible apply State.collTell_frame
    | with_reducible apply State.modColl_frame | with_reducible apply Frame.ite | exact Sub.tr (show Sub _ 1179648 from rfl) hm
    | with_reducible apply Frame.foldl)

theorem State.collFinish_frame (s : State) (r : CmdRef) (qn : Nat) (cmd : Cmd) (p : CollPar) (c : Coll) (hm : Sub 131088 M) (fr : Frame M s0 s) :
    Frame M s0 (State.collFinish s r qn cmd p c) := by
  unfold State.collFinish
  repeat' (first
    | with_reducible assumption | with_reducible apply State.modFab_frame | with_reducible apply State.modCmd_frame
    | exact Sub.tr (show Sub _ 131088 from rfl) hm)

theorem State.collStep_frame (s : State) (r : CmdRef) (hm : Sub 1551510 M) (fr : Frame M s0 s) :
    Frame M s0 (State.collStep s r) := by
  unfold State.collStep
  repeat' (first
    | with_reducible refine WorksF.single (by assumption) ?_ | with_reducible apply WorksF.two | with_reducible exact WorkF.none
    | with_reducible apply State.climbReduce_frame | with_reducible apply State.climbGather_frame
    | with_reducible apply State.rootSends_frame | with_reducible apply State.descend_frame
    | with_reducible apply CollPar.directIn_frame | with_reducible intro _ | with_reducible assumption
    | with_reducible apply State.barrierStep_frame | with_reducible apply State.collFinish_frame
    | with_reducible apply State.directAll_frame | with_reducible apply State.doWorks_frame | with_reducible apply Frame.ite
    | exact Sub.tr (show Sub _ 1551510 from rfl) hm | split | dsimp only)

theorem State.collTake_frame (s : State) (r : CmdRef) (rank : Nat) (m : CollMsg) (hm : Sub 1179664 M) (fr : Frame M s0 s) :
    Frame M s0 (State.collTake s r rank m) := by
  unfold State.collTake
  repeat' (first
    | with_reducible intro _ | with_reducible assumption | with_reducible apply State.collAbort_frame
    | with_reducible apply State.modColl_frame | with_reducible apply State.collEnd_frame | with_reducible apply Frame.ite
    | exact Sub.tr (show Sub _ 1179664 from rfl) hm | split)

theorem State.collBegin_frame (s : State) (r : CmdRef) (b : List Byte) (hm : Sub 1179664 M) (fr : Frame M s0 s) :
    Frame M s0 (State.collBegin s r b) := by
  unfold State.collBegin
  repeat' (first
    | with_reducible intro _ | with_reducible assumption | with_reducible apply State.collTell_frame
    | with_reducible apply State.collTake_frame | with_reducible apply State.modFab_frame | with_reducible apply Frame.ite
    | exact Sub.tr (show Sub _ 1179664 from rfl) hm | with_reducible apply Frame.foldl)

theorem collective_frame (sub : Nat) (r : CmdRef) (s : State) (hm : Sub 1551766 M) (fr : Frame M s0 s) :
    Frame M s0 (collective sub r s) := by
  unfold collective
  repeat' (first
    | with_reducible intro _ | with_reducible assumption | with_reducible apply State.collBegin_frame
    | with_reducible apply State.collStep_frame | with_reducible apply begin_frame | with_reducible apply Frame.ite
    | exact Sub.tr (show Sub _ 1551766 from rfl) hm)

theorem collData_frame (i : Instr) (group tag : Nat) (rank chunk : Nat) (d : CollDir) (data : List Byte) (s : State) (hm : Sub 131074 M) (fr : Frame M s0 s) :
    Frame M s0 (collData i group tag rank chunk d data s) := by
  unfold collData
  repeat' (first
    | with_reducible intro _ | with_reducible assumption | with_reducible apply State.stamped_frame
    | with_reducible apply State.modColl_frame | with_reducible apply State.modFab_frame
    | exact Sub.tr (show Sub _ 131074 from rfl) hm | split)

theorem collCtl_frame (i : Instr) (group tag rank : Nat) (m : CollMsg) (s : State) (hm : Sub 1179666 M) (fr : Frame M s0 s) :
    Frame M s0 (collCtl i group tag rank m s) := by
  unfold collCtl
  repeat' (first
    | with_reducible intro _ | with_reducible assumption | with_reducible apply State.collTake_frame
    | with_reducible apply State.stamped_frame | with_reducible apply State.modFab_frame
    | exact Sub.tr (show Sub _ 1179666 from rfl) hm | split)

theorem collTimeout_frame (r : CmdRef) (s : State) (hm : Sub 1179664 M) (fr : Frame M s0 s) :
    Frame M s0 (collTimeout r s) := by
  unfold collTimeout
  repeat' (first
    | with_reducible intro _ | with_reducible assumption | with_reducible apply State.collAbort_frame
    | with_reducible apply Frame.ite | split)

theorem State.collCheckEnd_frame (s : State) (c : Coll) (hm : Sub 1179664 M) (fr : Frame M s0 s) :
    Frame M s0 (State.collCheckEnd s c) := by
  unfold State.collCheckEnd
  repeat' (first
    | with_reducible intro _ | with_reducible assumption | with_reducible apply State.collAbort_frame
    | with_reducible apply State.collEnd_frame | with_reducible apply Frame.ite | exact Sub.tr (show Sub _ 1179664 from rfl) hm
    | split | dsimp only)

theorem State.collectives_frame (s : State) (hm : Sub 1551510 M) (fr : Frame M s0 s) :
    Frame M s0 (State.collectives s) := by
  unfold State.collectives
  repeat' (first
    | with_reducible intro _ | with_reducible assumption | with_reducible apply State.collCheckEnd_frame
    | with_reducible apply State.collStep_frame | exact Sub.tr (show Sub _ 1551510 from rfl) hm | with_reducible apply Frame.foldl
    )

end Sys2Proof.Machine
end

