-- ==== Sys2Proof/Laws/FrameHost.lean ====
section
/-! SUPPORT. Frame laws, one per operation (Sys2Proof/Laws/Frame.lean says what they state): host ports, faults and recovery. -/

namespace Sys2Proof.Machine

variable {M : Nat} {s0 : State}

theorem State.releaseClaims_frame (s : State) (p : Side) (hm : Sub 16 M) (fr : Frame M s0 s) :
    Frame M s0 (State.releaseClaims s p) := by
  unfold State.releaseClaims
  repeat' (first
    | with_reducible intro _ | with_reducible assumption | with_reducible apply State.modCmd_frame
    | with_reducible apply Frame.foldl | split)

theorem State.breakDiscarded_frame (s : State) (e : JEntry) (hm : Sub 1179696 M) (fr : Frame M s0 s) :
    Frame M s0 (State.breakDiscarded s e) := by
  unfold State.breakDiscarded
  repeat' (first
    | with_reducible intro _ | with_reducible assumption | with_reducible apply State.breakFence_frame
    | with_reducible apply Frame.ite | split)

theorem State.endDiscarded_frame (s : State) (l : List JEntry) (hm : Sub 16 M) (fr : Frame M s0 s) :
    Frame M s0 (State.endDiscarded s l) := by
  unfold State.endDiscarded
  repeat' (first
    | with_reducible intro _ | with_reducible assumption | with_reducible apply State.modCmd_frame
    | with_reducible apply Frame.foldl)

theorem State.discard_frame (s : State) (p : Side) (t : JEntry → Bool) (hm : Sub 1179952 M) (fr : Frame M s0 s) :
    Frame M s0 (State.discard s p t) := by
  unfold State.discard
  repeat' (first
    | with_reducible intro _ | with_reducible assumption | with_reducible apply State.breakDiscarded_frame
    | with_reducible apply State.endDiscarded_frame | with_reducible apply State.dropEntries_frame
    | exact Sub.tr (show Sub _ 1179952 from rfl) hm | with_reducible apply Frame.foldl)

theorem State.movePort_frame (s : State) (slot : Nat) (p : Side) (hm : Sub 136 M) (fr : Frame M s0 s) :
    Frame M s0 (State.movePort s slot p) := by
  unfold State.movePort
  repeat' (first
    | with_reducible assumption | with_reducible apply State.resendRequests_frame | with_reducible apply State.dropAtc_frame
    | with_reducible apply State.modCtx_frame | exact Sub.tr (show Sub _ 136 from rfl) hm)

theorem State.rebind_frame (s : State) (slot : Nat) (hm : Sub 136 M) (fr : Frame M s0 s) :
    Frame M s0 (State.rebind s slot) := by
  unfold State.rebind
  repeat' (first
    | with_reducible intro _ | with_reducible assumption | with_reducible apply State.resendRequests_frame
    | with_reducible apply State.movePort_frame | with_reducible apply State.modCtx_frame | with_reducible apply Frame.ite
    | exact Sub.tr (show Sub _ 136 from rfl) hm)

theorem State.losePort_frame (s : State) (p : Side) (hm : Sub 1180088 M) (fr : Frame M s0 s) :
    Frame M s0 (State.losePort s p) := by
  unfold State.losePort
  repeat' (first
    | with_reducible intro _ | with_reducible assumption | with_reducible apply State.releaseClaims_frame
    | with_reducible apply State.discard_frame | with_reducible apply State.modPort_frame
    | with_reducible apply State.dropAtc_frame | with_reducible apply State.modXlt_frame | with_reducible apply State.rebind_frame
    | exact Sub.tr (show Sub _ 1180088 from rfl) hm | with_reducible apply Frame.foldl)

theorem State.loseVfs_frame (s : State) (p : Side) (hm : Sub 1180088 M) (fr : Frame M s0 s) :
    Frame M s0 (State.loseVfs s p) := by
  unfold State.loseVfs
  repeat' (first
    | with_reducible intro _ | with_reducible assumption | with_reducible apply State.discard_frame
    | with_reducible apply State.dropAtc_frame | with_reducible apply State.rebind_frame
    | exact Sub.tr (show Sub _ 1180088 from rfl) hm | with_reducible apply Frame.foldl)

theorem State.portLosses_frame (s : State) (hm : Sub 1180600 M) (fr : Frame M s0 s) :
    Frame M s0 (State.portLosses s) := by
  unfold State.portLosses
  repeat' (first
    | with_reducible intro _ | with_reducible assumption | with_reducible apply State.keepFuncs_frame
    | with_reducible apply State.losePort_frame | with_reducible apply State.mapFuncs_frame
    | with_reducible apply State.loseVfs_frame | with_reducible apply Frame.ite | exact Sub.tr (show Sub _ 1180600 from rfl) hm)

theorem State.portReturns_frame (s : State) (hm : Sub 8 M) (fr : Frame M s0 s) :
    Frame M s0 (State.portReturns s) := by
  unfold State.portReturns
  repeat' (first
    | with_reducible assumption | with_reducible apply State.mapCtxs_frame)

theorem linkDown_frame (p : Side) (us : Nat) (s : State) (hm : Sub 256 M) (fr : Frame M s0 s) :
    Frame M s0 (linkDown p us s) := by
  unfold linkDown
  repeat' (first
    | with_reducible intro _ | with_reducible assumption | with_reducible apply State.setPort_frame
    | with_reducible apply Frame.ite)

theorem State.resendInta_frame (s : State) (p : Side) (hm : Sub 1048832 M) (fr : Frame M s0 s) :
    Frame M s0 (State.resendInta s p) := by
  unfold State.resendInta
  repeat' (first
    | with_reducible intro _ | with_reducible assumption | with_reducible apply State.modPort_frame
    | with_reducible apply State.emit_frame | with_reducible apply Frame.ite | exact Sub.tr (show Sub _ 1048832 from rfl) hm)

theorem linkTraining_frame (p : Side) (speed width : Nat) (flit cxl : Bool) (s : State) (hm : Sub 1122688 M) (fr : Frame M s0 s) :
    Frame M s0 (linkTraining p speed width flit cxl s) := by
  unfold linkTraining
  repeat' (first
    | with_reducible intro _ | with_reducible assumption | with_reducible apply State.resendRequests_frame
    | with_reducible apply State.advanceGen_frame | with_reducible apply State.resendInta_frame
    | with_reducible apply State.comeBack_frame | with_reducible apply State.setPort_frame | with_reducible apply Frame.ite
    | exact Sub.tr (show Sub _ 1122688 from rfl) hm)

theorem holdExpiry_frame (p : Side) (s : State) (hm : Sub 1550082 M) (fr : Frame M s0 s) :
    Frame M s0 (holdExpiry p s) := by
  unfold holdExpiry
  repeat' (first
    | with_reducible intro _ | with_reducible assumption | with_reducible apply State.declareDead_frame
    | with_reducible apply State.stampedIf_frame | with_reducible apply State.setPort_frame | with_reducible apply Frame.ite
    | exact Sub.tr (show Sub _ 1550082 from rfl) hm)

theorem State.tdisError_frame (s : State) (st : Nat) (p : Side) (hm : Sub 33608 M) (fr : Frame M s0 s) :
    Frame M s0 (State.tdisError s st p) := by
  unfold State.tdisError
  repeat' (first
    | with_reducible intro _ | with_reducible assumption | with_reducible apply State.tdiError_frame
    | with_reducible apply Frame.foldl)

theorem State.resetPort_frame (s : State) (st : Nat) (p : Side) (hm : Sub 2074568 M) (fr : Frame M s0 s) :
    Frame M s0 (State.resetPort s st p) := by
  unfold State.resetPort
  repeat' (first
    | with_reducible intro _ | with_reducible assumption | with_reducible apply State.declareDead_frame
    | with_reducible apply State.tdisError_frame | with_reducible apply State.keepFuncs_frame
    | with_reducible apply State.mapFuncs_frame | with_reducible apply State.dropSels_frame
    | with_reducible apply State.modPort_frame | with_reducible apply State.modXlt_frame | with_reducible apply Frame.ite
    | exact Sub.tr (show Sub _ 2074568 from rfl) hm)

theorem portReset_frame (p : Side) (s : State) (hm : Sub 2074570 M) (fr : Frame M s0 s) :
    Frame M s0 (portReset p s) := by
  unfold portReset
  repeat' (first
    | with_reducible intro _ | with_reducible assumption | with_reducible apply State.stampedIf_frame
    | with_reducible apply State.resetPort_frame | exact Sub.tr (show Sub _ 2074570 from rfl) hm)

theorem State.quietVectors_frame (s : State) (p : Side) (f : Nat) (hm : Sub 1049856 M) (fr : Frame M s0 s) :
    Frame M s0 (State.quietVectors s p f) := by
  unfold State.quietVectors
  repeat' (first
    | with_reducible intro _ | with_reducible assumption | with_reducible apply State.modVec_frame
    | with_reducible apply State.inta_frame | exact Sub.tr (show Sub _ 1049856 from rfl) hm | with_reducible apply Frame.foldl)

theorem State.dropVfs_frame (s : State) (st : Nat) (p : Side) (hm : Sub 33608 M) (fr : Frame M s0 s) :
    Frame M s0 (State.dropVfs s st p) := by
  unfold State.dropVfs
  repeat' (first
    | with_reducible intro _ | with_reducible assumption | with_reducible apply State.tdisError_frame
    | with_reducible apply State.mapFuncs_frame | with_reducible apply State.modPort_frame
    | with_reducible apply State.modFunc_frame | exact Sub.tr (show Sub _ 33608 from rfl) hm | with_reducible apply Frame.foldl)

theorem State.functionReset_frame (s : State) (st : Nat) (p : Side) (f : Nat) (hm : Sub 1607640 M) (fr : Frame M s0 s) :
    Frame M s0 (State.functionReset s st p f) := by
  unfold State.functionReset
  repeat' (first
    | with_reducible intro _ | with_reducible assumption | with_reducible apply State.beginTeardown_frame
    | with_reducible apply State.quietVectors_frame | with_reducible apply State.dropEntries_frame
    | with_reducible apply State.dropFnSels_frame | with_reducible apply State.scrubOwned_frame
    | with_reducible apply State.modQueue_frame | with_reducible apply State.dropVfs_frame
    | with_reducible apply State.modFunc_frame | with_reducible apply State.modPort_frame
    | with_reducible apply State.dropAtc_frame | with_reducible apply State.tdiLog_frame | with_reducible apply State.setTdi_frame
    | with_reducible apply Frame.ite | exact Sub.tr (show Sub _ 1607640 from rfl) hm | with_reducible apply Frame.foldl)

theorem flr_frame (p : Side) (f : Fin 128) (s : State) (hm : Sub 1607642 M) (fr : Frame M s0 s) :
    Frame M s0 (flr p f s) := by
  unfold flr
  repeat' (first
    | with_reducible intro _ | with_reducible assumption | with_reducible apply State.functionReset_frame
    | with_reducible apply State.stamped_frame | exact Sub.tr (show Sub _ 1607642 from rfl) hm)

theorem flrComplete_frame (p : Side) (f : Nat) (s : State) (hm : Sub 512 M) (fr : Frame M s0 s) :
    Frame M s0 (flrComplete p f s) := by
  unfold flrComplete
  repeat' (first
    | with_reducible intro _ | with_reducible assumption | with_reducible apply State.modFunc_frame
    | with_reducible apply Frame.ite)

theorem State.configured_frame (s : State) (p : Side) (f : Nat) (k : State → State) (hm : Sub 1048576 M) (hk : ∀ y0, Frame M s0 y0 → Frame M s0 (k y0)) (fr : Frame M s0 s) :
    Frame M s0 (State.configured s p f k) := by
  unfold State.configured
  repeat' (first
    | with_reducible intro _ | with_reducible assumption | with_reducible apply State.emit_frame | with_reducible apply hk
    | with_reducible apply Frame.ite)

theorem vfEnableClear_frame (p : Side) (s : State) (hm : Sub 1082186 M) (fr : Frame M s0 s) :
    Frame M s0 (vfEnableClear p s) := by
  unfold vfEnableClear
  repeat' (first
    | with_reducible intro _ | with_reducible assumption | with_reducible apply State.configured_frame
    | with_reducible apply State.stampedIf_frame | with_reducible apply State.dropVfs_frame | with_reducible apply Frame.ite
    | exact Sub.tr (show Sub _ 1082186 from rfl) hm)

theorem d3hotEntry_frame (p : Side) (f : Nat) (s : State) (hm : Sub 1049088 M) (fr : Frame M s0 s) :
    Frame M s0 (d3hotEntry p f s) := by
  unfold d3hotEntry
  repeat' (first
    | with_reducible intro _ | with_reducible assumption | with_reducible apply State.configured_frame
    | with_reducible apply State.modFunc_frame | with_reducible apply Frame.ite | exact Sub.tr (show Sub _ 1049088 from rfl) hm)

theorem d0Return_frame (p : Side) (f : Fin 128) (s : State) (hm : Sub 1607642 M) (fr : Frame M s0 s) :
    Frame M s0 (d0Return p f s) := by
  unfold d0Return
  repeat' (first
    | with_reducible intro _ | with_reducible assumption | with_reducible apply State.functionReset_frame
    | with_reducible apply State.configured_frame | with_reducible apply State.stamped_frame | with_reducible apply Frame.ite
    | exact Sub.tr (show Sub _ 1607642 from rfl) hm)

theorem busMasterClear_frame (p : Side) (f : Nat) (s : State) (hm : Sub 1049088 M) (fr : Frame M s0 s) :
    Frame M s0 (busMasterClear p f s) := by
  unfold busMasterClear
  repeat' (first
    | with_reducible intro _ | with_reducible assumption | with_reducible apply State.configured_frame
    | with_reducible apply State.modFunc_frame | exact Sub.tr (show Sub _ 1049088 from rfl) hm)

theorem configRequest_frame (p : Side) (f : Nat) (c : Cfg) (s : State) (hm : Sub 1049344 M) (fr : Frame M s0 s) :
    Frame M s0 (configRequest p f c s) := by
  unfold configRequest
  repeat' (first
    | with_reducible intro _ | with_reducible assumption | with_reducible apply State.configured_frame
    | with_reducible apply State.modFunc_frame | with_reducible apply State.modPort_frame | with_reducible apply State.inta_frame
    | with_reducible apply State.emit_frame | with_reducible apply Frame.ite | exact Sub.tr (show Sub _ 1049344 from rfl) hm
    | split)

theorem State.placeCommit_frame (s : State) (p : Side) (i : Nat) (d0 d1 : Word) (d2 d3 : Word) (hm : Sub 256 M) (fr : Frame M s0 s) :
    FrameE M s0 (State.placeCommit s p i d0 d1 d2 d3) := by
  unfold State.placeCommit
  repeat' (first
    | with_reducible intro _ | with_reducible assumption | with_reducible apply State.modPort_frame
    | with_reducible apply FrameE.ite | with_reducible exact FrameE.error | with_reducible apply FrameE.ok)

theorem State.placeClear_frame (s : State) (p : Side) (i : Nat) (hm : Sub 256 M) (fr : Frame M s0 s) :
    Frame M s0 (State.placeClear s p i) := by
  unfold State.placeClear
  repeat' (first
    | with_reducible assumption | with_reducible apply State.modPort_frame)

theorem State.regionEffects_frame (s : State) (hm : Sub 256 M) (fr : Frame M s0 s) :
    Frame M s0 (State.regionEffects s) := by
  unfold State.regionEffects
  repeat' (first
    | with_reducible intro _ | with_reducible assumption | with_reducible apply State.modPort_frame
    | with_reducible apply Frame.foldl)

theorem State.clearRegions_frame (s : State) (slot : Nat) (hm : Sub 256 M) (fr : Frame M s0 s) :
    Frame M s0 (State.clearRegions s slot) := by
  unfold State.clearRegions
  repeat' (first
    | with_reducible intro _ | with_reducible assumption | with_reducible apply State.modPort_frame
    | with_reducible apply Frame.foldl)

theorem State.access4_frame (s : State) (p : Side) (a : Nat) (k : Bar4Kind) (hm : Sub 1310736 M) (fr : Frame M s0 s) :
    Frame M s0 (State.access4 s p a k) := by
  unfold State.access4
  repeat' (first
    | with_reducible intro _ | with_reducible assumption | with_reducible apply State.disturb_frame
    | with_reducible apply State.setMem_frame | with_reducible apply State.emit_frame | with_reducible apply Mem.store_wf
    | with_reducible apply Mem.storeP_wf | exact Sub.tr (show Sub _ 1310736 from rfl) hm
    | with_reducible refine Frame.wf (m := M) (s := s0) ?_ (by assumption) | split)

theorem State.startAccess_frame (s : State) (p : Side) (a : Nat) (k : Bar4Kind) (hm : Sub 1376272 M) (fr : Frame M s0 s) :
    Frame M s0 (State.startAccess s p a k) := by
  unfold State.startAccess
  repeat' (first
    | with_reducible intro _ | with_reducible assumption | with_reducible apply State.uncached_frame
    | with_reducible apply State.access4_frame | exact Sub.tr (show Sub _ 1376272 from rfl) hm | split)

theorem inboundBar4_frame (p : Side) (reqId addr : Nat) (k : Bar4Kind) (s : State) (hm : Sub 1377040 M) (fr : Frame M s0 s) :
    Frame M s0 (inboundBar4 p reqId addr k s) := by
  unfold inboundBar4
  repeat' (first
    | with_reducible intro _ | with_reducible assumption | with_reducible apply State.aerAdvisory_frame
    | with_reducible apply State.startAccess_frame | with_reducible apply State.regErrAt_frame
    | with_reducible apply State.inOrder_frame | with_reducible apply State.emit_frame | with_reducible apply Frame.ite
    | exact Sub.tr (show Sub _ 1377040 from rfl) hm | split)

theorem State.dropReq_frame (s : State) (p : Side) (tag : Nat) (hm : Sub 256 M) (fr : Frame M s0 s) :
    Frame M s0 (State.dropReq s p tag) := by
  unfold State.dropReq
  repeat' (first
    | with_reducible assumption | with_reducible apply State.modPort_frame)

theorem State.staleReq_frame (s : State) (p : Side) (r : Req) (hm : Sub 8192 M) (fr : Frame M s0 s) :
    FrameO M s0 (State.staleReq s p r) := by
  unfold State.staleReq
  repeat' (first
    | with_reducible intro _ | with_reducible assumption | with_reducible apply State.staleDomain_frame
    | with_reducible apply State.staleQueue_frame | with_reducible apply State.staleCtx_frame | with_reducible apply FrameO.ite
    | with_reducible exact FrameO.none | with_reducible apply FrameO.some)

theorem State.atomicDone_frame (s : State) (p : Side) (queue slot : Nat) (hm : Sub 256 M) (fr : Frame M s0 s) :
    Frame M s0 (State.atomicDone s p queue slot) := by
  unfold State.atomicDone
  repeat' (first
    | with_reducible assumption | with_reducible apply State.dropEntries_frame)

theorem hostCompletion_frame (p : Side) (tag : Nat) (st : CplStatus) (data : List Byte) (bad : Bool) (s : State) (hm : Sub 1553846 M) (fr : Frame M s0 s) :
    Frame M s0 (hostCompletion p tag st data bad s) := by
  unfold hostCompletion
  repeat' (first
    | with_reducible intro _ | with_reducible assumption | with_reducible apply State.sourceArrived_frame
    | with_reducible apply State.atomicDone_frame | with_reducible apply State.breakFence_frame
    | with_reducible apply State.staleReq_frame | with_reducible apply State.dropReq_frame
    | with_reducible apply State.endUnit_frame | with_reducible apply predicateRead_frame
    | with_reducible apply State.finish_frame | with_reducible apply Frame.ite | exact Sub.tr (show Sub _ 1553846 from rfl) hm
    | with_reducible refine Frame.of_some (by assumption) ?_ | split)

theorem State.aerTimeout_frame (s : State) (p : Side) (f : Nat) (hm : Sub 512 M) (fr : Frame M s0 s) :
    Frame M s0 (State.aerTimeout s p f) := by
  unfold State.aerTimeout
  repeat' (first
    | with_reducible assumption | with_reducible apply State.modFunc_frame)

theorem State.breakCmdFence_frame (s : State) (q pos code : Nat) (hm : Sub 1179696 M) (fr : Frame M s0 s) :
    Frame M s0 (State.breakCmdFence s q pos code) := by
  unfold State.breakCmdFence
  repeat' (first
    | with_reducible intro _ | with_reducible assumption | with_reducible apply State.breakFence_frame
    | with_reducible apply Frame.ite | split)

theorem hostTimeout_frame (p : Side) (tag : Nat) (s : State) (hm : Sub 1188656 M) (fr : Frame M s0 s) :
    Frame M s0 (hostTimeout p tag s) := by
  unfold hostTimeout
  repeat' (first
    | with_reducible assumption | with_reducible apply State.breakCmdFence_frame | with_reducible apply State.aerTimeout_frame
    | with_reducible apply State.breakFence_frame | with_reducible apply State.atomicDone_frame
    | with_reducible apply State.dropReq_frame | with_reducible apply State.endUnit_frame
    | with_reducible apply State.finish_frame | exact Sub.tr (show Sub _ 1188656 from rfl) hm | split | dsimp only)

theorem flushComplete_frame (p : Side) (gen : Nat) (ok : Bool) (s : State) (hm : Sub 8448 M) (fr : Frame M s0 s) :
    Frame M s0 (flushComplete p gen ok s) := by
  unfold flushComplete
  repeat' (first
    | with_reducible intro _ | with_reducible assumption | with_reducible apply State.staleDomain_frame
    | with_reducible apply State.dropEntries_frame | with_reducible apply State.setPort_frame
    | with_reducible apply State.modPort_frame | with_reducible apply Frame.ite | exact Sub.tr (show Sub _ 8448 from rfl) hm
    | split | dsimp only)

theorem flushTimeout_frame (p : Side) (s : State) (hm : Sub 768 M) (fr : Frame M s0 s) :
    Frame M s0 (flushTimeout p s) := by
  unfold flushTimeout
  repeat' (first
    | with_reducible assumption | with_reducible apply State.aerTimeout_frame | with_reducible apply State.setPort_frame
    | exact Sub.tr (show Sub _ 768 from rfl) hm | split | dsimp only)

theorem State.sendFlush_frame (s : State) (p : Side) (hm : Sub 1048834 M) (fr : Frame M s0 s) :
    Frame M s0 (State.sendFlush s p) := by
  unfold State.sendFlush
  repeat' (first
    | with_reducible intro _ | with_reducible assumption | with_reducible apply State.setPort_frame
    | with_reducible apply State.stamp_frame | with_reducible apply State.emit_frame | with_reducible apply Frame.ite
    | exact Sub.tr (show Sub _ 1048834 from rfl) hm)

theorem State.flush1_frame (s : State) (p : Side) (replayed : Bool) (hm : Sub 1048834 M) (fr : Frame M s0 s) :
    Frame M s0 (State.flush1 s p replayed) := by
  unfold State.flush1
  repeat' (first
    | with_reducible intro _ | with_reducible assumption | with_reducible apply State.sendFlush_frame
    | with_reducible apply Frame.ite)

theorem State.refuseAtomics_frame (s : State) (p : Side) (t : JEntry → Bool) (hm : Sub 1179952 M) (fr : Frame M s0 s) :
    Frame M s0 (State.refuseAtomics s p t) := by
  unfold State.refuseAtomics
  repeat' (first
    | with_reducible intro _ | with_reducible assumption | with_reducible apply State.dropEntries_frame
    | with_reducible apply State.breakFence_frame | with_reducible apply State.modPort_frame
    | exact Sub.tr (show Sub _ 1179952 from rfl) hm | with_reducible apply Frame.foldl)

theorem State.modEntry_frame (s : State) (p : Side) (seq : Nat) (g : JEntry → JEntry) (hm : Sub 256 M) (fr : Frame M s0 s) :
    Frame M s0 (State.modEntry s p seq g) := by
  unfold State.modEntry
  repeat' (first
    | with_reducible assumption | with_reducible apply State.modPort_frame)

theorem State.replayFrom_frame (s : State) (p : Side) (a3 : List JEntry) (a4 : Tbl Nat) (hm : Sub 1048832 M) (fr : Frame M s0 s) :
    Frame M s0 (State.replayFrom s p a3 a4).1 := by
  revert fr
  fun_induction State.replayFrom s p a3 a4 <;> intro fr
  all_goals
    repeat' (first
    | with_reducible assumption | with_reducible apply State.modEntry_frame | with_reducible apply State.modPort_frame
    | with_reducible apply State.emit_frame | exact Sub.tr (show Sub _ 1048832 from rfl) hm
    | with_reducible refine Frame.ih (P := Frame M s0 _) (by assumption) ?_)

theorem State.countReplay_frame (s : State) (p : Side) (used : Tbl Nat) (hm : Sub 2048 M) (fr : Frame M s0 s) :
    Frame M s0 (State.countReplay s p used) := by
  unfold State.countReplay
  repeat' (first
    | with_reducible intro _ | with_reducible assumption | with_reducible apply State.useLinks_frame
    | with_reducible apply Frame.foldl)

theorem State.replay1_frame (s : State) (p : Side) (hm : Sub 1182000 M) (fr : Frame M s0 s) :
    Frame M s0 (State.replay1 s p) := by
  unfold State.replay1
  repeat' (first
    | with_reducible intro _ | with_reducible assumption | with_reducible apply State.refuseAtomics_frame
    | with_reducible apply State.countReplay_frame | with_reducible apply State.replayFrom_frame
    | with_reducible apply State.modPort_frame | with_reducible apply Frame.ite | exact Sub.tr (show Sub _ 1182000 from rfl) hm)

theorem State.resendVectors_frame (s : State) (p : Side) (hm : Sub 1048576 M) (fr : Frame M s0 s) :
    Frame M s0 (State.resendVectors s p) := by
  unfold State.resendVectors
  repeat' (first
    | with_reducible assumption | with_reducible apply State.emits_frame)

theorem State.payFrom_frame (s : State) (p : Side) (a3 : List JEntry) (a4 : Tbl Nat) (hm : Sub 1048832 M) (fr : Frame M s0 s) :
    Frame M s0 (State.payFrom s p a3 a4).1 := by
  revert fr
  fun_induction State.payFrom s p a3 a4 <;> intro fr
  all_goals
    repeat' (first
    | with_reducible assumption | with_reducible apply State.modPort_frame | with_reducible apply State.emit_frame
    | exact Sub.tr (show Sub _ 1048832 from rfl) hm | with_reducible refine Frame.ih (P := Frame M s0 _) (by assumption) ?_)

theorem State.payOwed_frame (s : State) (p : Side) (hm : Sub 1182000 M) (fr : Frame M s0 s) :
    Frame M s0 (State.payOwed s p) := by
  unfold State.payOwed
  repeat' (first
    | with_reducible intro _ | with_reducible assumption | with_reducible apply State.refuseAtomics_frame
    | with_reducible apply State.countReplay_frame | with_reducible apply State.payFrom_frame | with_reducible apply Frame.ite
    | exact Sub.tr (show Sub _ 1182000 from rfl) hm)

theorem State.portState_frame (s : State) (p : Side) (hm : Sub 768 M) (fr : Frame M s0 s) :
    Frame M s0 (State.portState s p) := by
  unfold State.portState
  repeat' (first
    | with_reducible assumption | with_reducible apply State.mapFuncs_frame | with_reducible apply State.modPort_frame
    | exact Sub.tr (show Sub _ 768 from rfl) hm)

theorem State.portBoundary_frame (s : State) (p : Side) (hm : Sub 1247538 M) (fr : Frame M s0 s) :
    Frame M s0 (State.portBoundary s p) := by
  unfold State.portBoundary
  repeat' (first
    | with_reducible intro _ | with_reducible assumption | with_reducible apply State.reissueSnoops_frame
    | with_reducible apply State.resendVectors_frame | with_reducible apply State.payOwed_frame
    | with_reducible apply State.replay1_frame | with_reducible apply State.flush1_frame | with_reducible apply Frame.ite
    | exact Sub.tr (show Sub _ 1247538 from rfl) hm)

theorem State.hostBoundary_frame (s : State) (hm : Sub 1248050 M) (fr : Frame M s0 s) :
    Frame M s0 (State.hostBoundary s) := by
  unfold State.hostBoundary
  repeat' (first
    | with_reducible assumption | with_reducible apply State.portBoundary_frame | with_reducible apply State.portState_frame
    | exact Sub.tr (show Sub _ 1248050 from rfl) hm)

theorem State.spoilUnit_frame (s : State) (n k : Nat) (hm : Sub 266256 M) (fr : Frame M s0 s) :
    Frame M s0 (State.spoilUnit s n k) := by
  unfold State.spoilUnit
  repeat' (first
    | with_reducible apply Mem.fold_wf | with_reducible intro _ | with_reducible assumption
    | with_reducible apply State.modEngine_frame | with_reducible apply State.modCmd_frame
    | with_reducible apply State.setMem_frame | with_reducible apply Frame.ite | with_reducible apply Mem.mark_wf
    | exact Sub.tr (show Sub _ 266256 from rfl) hm | with_reducible refine Frame.wf (m := M) (s := s0) ?_ (by assumption) | split)

theorem State.loseRecord_frame (s : State) (i : Nat) (hm : Sub 2129920 M) (fr : Frame M s0 s) : Frame M s0 (State.loseRecord s i) := by
  unfold State.loseRecord
  repeat' (first
    | with_reducible assumption | with_reducible apply State.freeBytes_frame | with_reducible apply State.modMgt_frame
    | exact Sub.tr (show Sub _ 2129920 from rfl) hm | with_reducible intro _ | with_reducible exact Nat.le_refl _ | dsimp only | split)

theorem State.sharedError_frame (s : State) (c : Bool) (code detail : Nat) (hm : Sub 2466816 M) (fr : Frame M s0 s) :
    Frame M s0 (State.sharedError s c code detail) := by
  unfold State.sharedError
  repeat' (first
    | with_reducible assumption | with_reducible apply State.loseRecord_frame | with_reducible apply State.modCoh_frame
    | with_reducible apply State.poisonLine_frame | with_reducible apply State.chip_frame
    | exact Sub.tr (show Sub _ 2466816 from rfl) hm | with_reducible apply Frame.ite | with_reducible intro _ | dsimp only)

theorem faultOccurrence_frame (t : Side) (src : Fin 15) (ctx : Option Nat) (code detail : Nat) (s : State) (hm : Sub 3650870 M) (fr : Frame M s0 s) :
    Frame M s0 (faultOccurrence t src ctx code detail s) := by
  unfold faultOccurrence
  repeat' (first
    | with_reducible intro _ | with_reducible assumption | with_reducible apply State.modEngine_frame
    | with_reducible apply State.spoilUnit_frame | with_reducible apply State.occurNow_frame
    | with_reducible apply State.sharedError_frame
    | with_reducible apply State.discard_frame | with_reducible apply Frame.ite | exact Sub.tr (show Sub _ 3650870 from rfl) hm
    | split)

theorem faultStamp_frame (t : Side) (src : Nat) (s : State) (hm : Sub 6 M) (fr : Frame M s0 s) :
    Frame M s0 (faultStamp t src s) := by
  unfold faultStamp
  repeat' (first
    | with_reducible assumption | with_reducible apply State.modTwin_frame | with_reducible apply State.stamp_frame
    | exact Sub.tr (show Sub _ 6 from rfl) hm | with_reducible exact rfl)

theorem State.fltAck_frame (s : State) (t : Side) (sources : Nat) (hm : Sub 4 M) (fr : Frame M s0 s) :
    Frame M s0 (State.fltAck s t sources) := by
  unfold State.fltAck
  repeat' (first
    | with_reducible assumption | with_reducible apply State.modTwin_frame | with_reducible exact rfl)

theorem State.contain_frame (s : State) (slot code : Nat) (hm : Sub 1544 M) (fr : Frame M s0 s) :
    Frame M s0 (State.contain s slot code) := by
  unfold State.contain
  repeat' (first
    | with_reducible intro _ | with_reducible assumption | with_reducible apply State.ctxReport_frame
    | with_reducible apply State.setCtx_frame | with_reducible apply Frame.ite | exact Sub.tr (show Sub _ 1544 from rfl) hm)

theorem State.containNamed_frame (s : State) (t : Side) (hm : Sub 1544 M) (fr : Frame M s0 s) :
    Frame M s0 (State.containNamed s t) := by
  unfold State.containNamed
  repeat' (first
    | with_reducible intro _ | with_reducible assumption | with_reducible apply State.contain_frame
    | with_reducible apply Frame.foldl)

theorem State.failAt_frame (s : State) (t : Side) (why : FailCause) (hm : Sub 4 M) (fr : Frame M s0 s) :
    Frame M s0 (State.failAt s t why) := by
  unfold State.failAt
  repeat' (first
    | with_reducible assumption | with_reducible apply State.modTwin_frame | with_reducible exact rfl)

theorem State.withdrawDetach_frame (s : State) (hm : Sub 8192 M) (fr : Frame M s0 s) :
    Frame M s0 (State.withdrawDetach s) := by
  unfold State.withdrawDetach
  repeat' (first
    | with_reducible assumption | with_reducible apply State.modRst_frame)

theorem graceExpiry_frame (t : Side) (s : State) (hm : Sub 9740 M) (fr : Frame M s0 s) :
    Frame M s0 (graceExpiry t s) := by
  unfold graceExpiry
  repeat' (first
    | with_reducible intro _ | with_reducible assumption | with_reducible apply State.withdrawDetach_frame
    | with_reducible apply State.containNamed_frame | with_reducible apply State.modTwin_frame
    | with_reducible apply State.failAt_frame | with_reducible apply Frame.ite | exact Sub.tr (show Sub _ 9740 from rfl) hm
    | with_reducible exact rfl)

theorem State.collectorTick_frame (s : State) (t : Side) (hm : Sub 4 M) (fr : Frame M s0 s) :
    Frame M s0 (State.collectorTick s t) := by
  unfold State.collectorTick
  repeat' (first
    | with_reducible assumption | with_reducible apply State.modTwin_frame | with_reducible exact rfl)

theorem safeState_frame (t : Side) (s : State) (hm : Sub 41990 M) (fr : Frame M s0 s) :
    Frame M s0 (safeState t s) := by
  unfold safeState
  repeat' (first
    | with_reducible intro _ | with_reducible assumption | with_reducible apply State.occurNow_frame
    | with_reducible apply State.modTwin_frame | with_reducible apply State.failAt_frame | with_reducible apply Frame.ite
    | exact Sub.tr (show Sub _ 41990 from rfl) hm | with_reducible exact rfl)

theorem State.cdReset_frame (s : State) (n : Nat) (hm : Sub 8192 M) (fr : Frame M s0 s) :
    FrameE M s0 (State.cdReset s n) := by
  unfold State.cdReset
  repeat' (first
    | with_reducible intro _ | with_reducible assumption | with_reducible apply State.modCd_frame
    | with_reducible apply FrameE.ite | with_reducible exact FrameE.error | with_reducible apply FrameE.ok)

theorem State.cdReturn_frame (s : State) (n : Nat) (hm : Sub 8192 M) (fr : Frame M s0 s) :
    FrameE M s0 (State.cdReturn s n) := by
  unfold State.cdReturn
  repeat' (first
    | with_reducible intro _ | with_reducible assumption | with_reducible apply State.modCd_frame
    | with_reducible apply FrameE.ite | with_reducible exact FrameE.error | with_reducible apply FrameE.ok)

theorem State.setCdState_frame (s : State) (n : Nat) (f : Cd → Cd) (hm : Sub 40960 M) (fr : Frame M s0 s) :
    Frame M s0 (State.setCdState s n f) := by
  unfold State.setCdState
  repeat' (first
    | with_reducible assumption | with_reducible apply State.log_frame | with_reducible apply State.modCd_frame
    | exact Sub.tr (show Sub _ 40960 from rfl) hm | with_reducible apply Frame.ite | with_reducible intro _ | dsimp only)

theorem State.cdStage_frame (s : State) (n : Nat) (hm : Sub 1221648 M) (fr : Frame M s0 s) :
    Frame M s0 (State.cdStage s n) := by
  unfold State.cdStage
  repeat' (first
    | with_reducible intro _ | with_reducible assumption | with_reducible apply State.domainInvDone_frame
    | with_reducible apply State.advanceGen_frame | with_reducible apply State.emits_frame
    | with_reducible apply State.modCd_frame | with_reducible apply State.setCdState_frame | with_reducible apply State.emit_frame
    | with_reducible apply State.chip_frame | with_reducible apply Frame.ite | exact Sub.tr (show Sub _ 1221648 from rfl) hm | split
    | dsimp only)

theorem State.cdStages_frame (s : State) (hm : Sub 1221648 M) (fr : Frame M s0 s) :
    Frame M s0 (State.cdStages s) := by
  unfold State.cdStages
  repeat' (first
    | with_reducible intro _ | with_reducible assumption | with_reducible apply State.cdStage_frame
    | with_reducible apply Frame.foldl)

theorem sampleReturn_frame (n core gen : Nat) (data : List Byte) (s : State) (hm : Sub 8192 M) (fr : Frame M s0 s) :
    Frame M s0 (sampleReturn n core gen data s) := by
  unfold sampleReturn
  repeat' (first
    | with_reducible intro _ | with_reducible assumption | with_reducible apply State.staleDomain_frame
    | with_reducible apply State.modCd_frame | with_reducible apply Frame.ite)

theorem sampleTimeout_frame (n core : Nat) (s : State) (hm : Sub 8192 M) (fr : Frame M s0 s) :
    Frame M s0 (sampleTimeout n core s) := by
  unfold sampleTimeout
  repeat' (first
    | with_reducible intro _ | with_reducible assumption | with_reducible apply State.modCd_frame | with_reducible apply Frame.ite
    )

theorem State.sampleWord_frame (s : State) (n core word : Nat) (hm : Sub 2097152 M) (fr : Frame M s0 s) :
    Frame M s0 (State.sampleWord s n core word).2 := by
  unfold State.sampleWord
  repeat' (first
    | with_reducible assumption | with_reducible apply State.freeBytes_frame | split)

theorem State.sampleSeen_frame (s : State) (n op : Nat) (hm : Sub 32776 M) (fr : Frame M s0 s) :
    Frame M s0 (State.sampleSeen s n op) := by
  unfold State.sampleSeen
  repeat' (first
    | with_reducible intro _ | with_reducible assumption | with_reducible apply State.observe_frame
    | with_reducible apply Frame.foldl)

theorem State.mirrorCommit_frame (s : State) (missA missB : Bool) (hm : Sub 4 M) (fr : Frame M s0 s) :
    Frame M s0 (State.mirrorCommit s missA missB) := by
  unfold State.mirrorCommit
  repeat' (first
    | with_reducible intro _ | with_reducible assumption | with_reducible apply State.modTwin_frame
    | with_reducible apply Frame.ite | with_reducible exact rfl)

theorem State.mirrorKeep_frame (s : State) (hm : Sub 6 M) (fr : Frame M s0 s) :
    Frame M s0 (State.mirrorKeep s) := by
  unfold State.mirrorKeep
  repeat' (first
    | with_reducible intro _ | with_reducible assumption | with_reducible apply State.modTwin_frame
    | with_reducible apply State.modTime_frame | with_reducible apply Frame.ite | exact Sub.tr (show Sub _ 6 from rfl) hm
    | with_reducible apply Frame.foldl | with_reducible exact rfl)

theorem State.surviveQueue_frame (s : State) (t : Side) (led : Bool) (lost : List (Nat × Nat × Nat)) (qn : Nat) (m : Queue) (hm : Sub 16 M) (fr : Frame M s0 s) :
    Frame M s0 (State.surviveQueue s t led lost qn m) := by
  unfold State.surviveQueue
  repeat' (first
    | with_reducible intro _ | with_reducible assumption | with_reducible apply State.setQueue_frame
    | with_reducible apply Frame.ite)

theorem State.surviveCtx_frame (s : State) (i : Nat) (m : Ctx) (hm : Sub 8 M) (fr : Frame M s0 s) :
    Frame M s0 (State.surviveCtx s i m) := by
  unfold State.surviveCtx
  repeat' (first
    | with_reducible intro _ | with_reducible assumption | with_reducible apply State.setCtx_frame
    | with_reducible apply Frame.ite)

theorem State.recountFences_frame (s : State) (old : Tbl Fence) (hm : Sub 32 M) (fr : Frame M s0 s) :
    Frame M s0 (State.recountFences s old) := by
  unfold State.recountFences
  repeat' (first
    | with_reducible assumption | with_reducible apply State.mapFences_frame)

theorem State.surviveVecs_frame (s : State) (slots : List Nat) (old : Tbl Vec) (raised : List (Nat × Nat × Origin)) (hm : Sub 1024 M) (fr : Frame M s0 s) :
    Frame M s0 (State.surviveVecs s slots old raised) := by
  unfold State.surviveVecs
  repeat' (first
    | with_reducible intro _ | with_reducible assumption | with_reducible apply State.modIrq_frame
    | with_reducible apply State.setVec_frame | with_reducible apply Frame.foldl)

theorem State.orphanReqs_frame (s : State) (slots : List Nat) (hm : Sub 139648 M) (fr : Frame M s0 s) :
    Frame M s0 (State.orphanReqs s slots) := by
  unfold State.orphanReqs
  repeat' (first
    | with_reducible assumption | with_reducible apply State.modPort_frame | with_reducible apply State.modXlt_frame
    | with_reducible apply State.modRst_frame | with_reducible apply State.modFab_frame
    | exact Sub.tr (show Sub _ 139648 from rfl) hm)

theorem State.dropFaults_frame (s : State) (slots : List Nat) (hm : Sub 128 M) (fr : Frame M s0 s) :
    Frame M s0 (State.dropFaults s slots) := by
  unfold State.dropFaults
  repeat' (first
    | with_reducible assumption | with_reducible apply State.modXlt_frame)

theorem State.dropPort_frame (s : State) (p : Side) (slots : List Nat) (hm : Sub 256 M) (fr : Frame M s0 s) :
    Frame M s0 (State.dropPort s p slots) := by
  unfold State.dropPort
  repeat' (first
    | with_reducible assumption | with_reducible apply State.dropEntries_frame | with_reducible apply State.modPort_frame)

theorem State.rehome_frame (s : State) (slots : List Nat) (from_ to_ : Side) (hm : Sub 1160 M) (fr : Frame M s0 s) :
    Frame M s0 (State.rehome s slots from_ to_) := by
  unfold State.rehome
  repeat' (first
    | with_reducible intro _ | with_reducible assumption | with_reducible apply State.resendRequests_frame
    | with_reducible apply State.forgetDelay_frame | with_reducible apply State.purgeAll_frame
    | with_reducible apply State.modCtx_frame | with_reducible apply State.rebind_frame | with_reducible apply Frame.ite
    | exact Sub.tr (show Sub _ 1160 from rfl) hm | with_reducible apply Frame.foldl)

theorem State.rewait_frame (s : State) (hm : Sub 16 M) (fr : Frame M s0 s) :
    Frame M s0 (State.rewait s) := by
  unfold State.rewait
  repeat' (first
    | with_reducible intro _ | with_reducible assumption | with_reducible apply State.wakeWaiters_frame
    | with_reducible apply Frame.ite | with_reducible apply Frame.foldl)

theorem State.dropCaches_frame (s : State) (t : Side) (hm : Sub 128 M) (fr : Frame M s0 s) :
    Frame M s0 (State.dropCaches s t) := by
  unfold State.dropCaches
  repeat' (first
    | with_reducible assumption | with_reducible apply State.modXlt_frame)

theorem State.surviveRequests_frame (s : State) (slots : List Nat) (l : List PageReq) (hm : Sub 128 M) (fr : Frame M s0 s) :
    Frame M s0 (State.surviveRequests s slots l) := by
  unfold State.surviveRequests
  repeat' (first
    | with_reducible assumption | with_reducible apply State.modXlt_frame)

theorem State.failover_frame (s : State) (t : Side) (led : Bool) (hm : Sub 140728 M) (fr : Frame M s0 s) :
    Frame M s0 (State.failover s t led) := by
  unfold State.failover
  repeat' (first
    | with_reducible intro _ | with_reducible assumption | with_reducible apply State.surviveRequests_frame
    | with_reducible apply State.recountFences_frame | with_reducible apply State.surviveQueue_frame
    | with_reducible apply State.surviveVecs_frame | with_reducible apply State.dropCaches_frame
    | with_reducible apply State.dropFaults_frame | with_reducible apply State.orphanReqs_frame
    | with_reducible apply State.surviveCtx_frame | with_reducible apply State.dropPort_frame
    | with_reducible apply State.modPort_frame | with_reducible apply State.rewait_frame | with_reducible apply State.rehome_frame
    | with_reducible apply State.modRst_frame | exact Sub.tr (show Sub _ 140728 from rfl) hm | with_reducible apply Frame.foldl
    | split)

theorem State.breakGranted_frame (s : State) (hm : Sub 1179696 M) (fr : Frame M s0 s) :
    Frame M s0 (State.breakGranted s) := by
  unfold State.breakGranted
  repeat' (first
    | with_reducible intro _ | with_reducible assumption | with_reducible apply State.breakFence_frame
    | with_reducible apply Frame.ite | with_reducible apply Frame.foldl)

theorem State.afterFailure_frame (s : State) (t : Side) (why : FailCause) (hm : Sub 58372 M) (fr : Frame M s0 s) :
    Frame M s0 (State.afterFailure s t why) := by
  unfold State.afterFailure
  repeat' (first
    | exact OneLead.never rfl | with_reducible intro _ | with_reducible assumption | with_reducible apply State.setTwinState_frame
    | with_reducible apply State.twinGates_frame | with_reducible apply State.modTwin_frame | with_reducible apply Frame.ite
    | exact Sub.tr (show Sub _ 58372 from rfl) hm | with_reducible exact rfl)

theorem State.departFailed_frame (s : State) (t : Side) (why : FailCause) (hm : Sub 1238460 M) (fr : Frame M s0 s) :
    Frame M s0 (State.departFailed s t why) := by
  unfold State.departFailed
  repeat' (first
    | with_reducible exact fun _ _ => State.leads_detached _ _
    | with_reducible refine State.leads_prior (M := M) ?_ (by assumption) | exact OneLead.never rfl | with_reducible intro _
    | with_reducible assumption | with_reducible apply State.setTwinState_frame | with_reducible apply State.afterFailure_frame
    | with_reducible apply State.breakGranted_frame | with_reducible apply State.dropCaches_frame
    | with_reducible apply State.failover_frame | with_reducible apply State.dropPort_frame
    | with_reducible apply State.modRst_frame | with_reducible apply State.modCtx_frame | with_reducible apply Frame.ite
    | exact Sub.tr (show Sub _ 1238460 from rfl) hm | with_reducible apply Frame.foldl)

theorem State.departTwin_frame (s : State) (t : Side) (hm : Sub 1238460 M) (fr : Frame M s0 s) :
    Frame M s0 (State.departTwin s t) := by
  unfold State.departTwin
  repeat' (first
    | exact OneLead.never rfl | with_reducible intro _ | with_reducible assumption | with_reducible apply State.departFailed_frame
    | with_reducible apply State.setTwinState_frame | with_reducible apply State.twinGates_frame
    | with_reducible apply State.modTwin_frame | with_reducible apply Frame.ite | exact Sub.tr (show Sub _ 1238460 from rfl) hm
    | with_reducible exact rfl | split)

theorem State.judgeMirrors_frame (s : State) (missA missB : Bool) (hm : Sub 41990 M) (fr : Frame M s0 s) :
    Frame M s0 (State.judgeMirrors s missA missB) := by
  unfold State.judgeMirrors
  repeat' (first
    | with_reducible intro _ | with_reducible assumption | with_reducible apply State.occurLater_frame
    | with_reducible apply State.failAt_frame | with_reducible apply safeState_frame | with_reducible apply Frame.ite
    | exact Sub.tr (show Sub _ 41990 from rfl) hm)

theorem State.detachAsk_frame (s : State) (t : Side) (tick : Nat) (hm : Sub 8192 M) (fr : Frame M s0 s) :
    FrameE M s0 (State.detachAsk s t tick) := by
  unfold State.detachAsk
  repeat' (first
    | with_reducible intro _ | with_reducible assumption | with_reducible apply State.modRst_frame
    | with_reducible apply FrameE.ite | with_reducible exact FrameE.error | with_reducible apply FrameE.ok)

theorem State.detachWithdraw_frame (s : State) (hm : Sub 8192 M) (fr : Frame M s0 s) :
    FrameE M s0 (State.detachWithdraw s) := by
  unfold State.detachWithdraw
  repeat' (first
    | with_reducible intro _ | with_reducible assumption | with_reducible apply State.withdrawDetach_frame
    | with_reducible apply FrameE.ite | with_reducible exact FrameE.error | with_reducible apply FrameE.ok)

theorem detachForced_frame (s : State) (hm : Sub 8192 M) (fr : Frame M s0 s) :
    Frame M s0 (detachForced s) := by
  unfold detachForced
  repeat' (first
    | with_reducible assumption | with_reducible apply State.modRst_frame)

theorem State.detachMove_frame (s : State) (t : Side) (hm : Sub 173468 M) (fr : Frame M s0 s) :
    Frame M s0 (State.detachMove s t) := by
  unfold State.detachMove
  repeat' (first
    | with_reducible exact fun _ _ => State.leads_detached _ _ | exact OneLead.never rfl | with_reducible intro _
    | with_reducible assumption | with_reducible apply State.setTwinState_frame | with_reducible apply State.dropCaches_frame
    | with_reducible apply State.orphanReqs_frame | with_reducible apply State.modQueue_frame
    | with_reducible apply State.dropPort_frame | with_reducible apply State.modTwin_frame
    | with_reducible apply State.rehome_frame | with_reducible apply Frame.ite | exact Sub.tr (show Sub _ 173468 from rfl) hm
    | with_reducible apply Frame.foldl | with_reducible exact rfl)

theorem State.detachStep_frame (s : State) (hm : Sub 1238460 M) (fr : Frame M s0 s) :
    Frame M s0 (State.detachStep s) := by
  unfold State.detachStep
  repeat' (first
    | with_reducible refine State.leads_prior (M := M) ?_ (by assumption)
    | with_reducible refine State.beginDetach_frame _ _ ?_ (by assumption) ?_ | with_reducible intro _ | with_reducible assumption
    | with_reducible apply State.setTwinState_frame | with_reducible apply State.departFailed_frame
    | with_reducible apply State.detachMove_frame | with_reducible apply State.modRst_frame | with_reducible apply Frame.ite
    | exact Sub.tr (show Sub _ 1238460 from rfl) hm | split)

theorem State.startTest_frame (s : State) (t : Side) (o : TestOrigin) (kind : Nat) (hm : Sub 16388 M) (fr : Frame M s0 s) :
    Frame M s0 (State.startTest s t o kind) := by
  unfold State.startTest
  repeat' (first
    | with_reducible assumption | with_reducible apply State.twinGates_frame | with_reducible apply State.wakeTwin_frame
    | with_reducible apply State.modTwin_frame | exact Sub.tr (show Sub _ 16388 from rfl) hm | with_reducible exact rfl)

theorem State.goReturn_frame (s : State) (t : Side) (hm : Sub 16388 M) (fr : Frame M s0 s) :
    Frame M s0 (State.goReturn s t) := by
  unfold State.goReturn
  repeat' (first
    | with_reducible intro _ | with_reducible assumption | with_reducible apply State.startTest_frame
    | with_reducible apply State.modTwin_frame | with_reducible apply Frame.ite | exact Sub.tr (show Sub _ 16388 from rfl) hm
    | with_reducible exact rfl)

theorem State.beginReturn_frame (s : State) (t : Side) (hm : Sub 16388 M) (fr : Frame M s0 s) :
    Frame M s0 (State.beginReturn s t) := by
  unfold State.beginReturn
  repeat' (first
    | with_reducible intro _ | with_reducible assumption | with_reducible apply State.twinGates_frame
    | with_reducible apply State.wakeTwin_frame | with_reducible apply State.goReturn_frame
    | with_reducible apply State.modTwin_frame | with_reducible apply Frame.ite | exact Sub.tr (show Sub _ 16388 from rfl) hm
    | with_reducible exact rfl)

theorem wakeFire_frame (sources : List (Nat × Nat)) (s : State) (hm : Sub 17412 M) (fr : Frame M s0 s) :
    Frame M s0 (wakeFire sources s) := by
  unfold wakeFire
  repeat' (first
    | with_reducible intro _ | with_reducible assumption | with_reducible apply State.beginReturn_frame
    | with_reducible apply State.wakeTwin_frame | with_reducible apply State.modTwin_frame
    | with_reducible apply State.modIrq_frame | with_reducible apply Frame.ite | exact Sub.tr (show Sub _ 17412 from rfl) hm
    | with_reducible apply Frame.foldl | with_reducible exact rfl)

theorem State.twinReturn_frame (s : State) (t : Side) (hm : Sub 16388 M) (fr : Frame M s0 s) :
    FrameE M s0 (State.twinReturn s t) := by
  unfold State.twinReturn
  repeat' (first
    | with_reducible intro _ | with_reducible assumption | with_reducible apply State.beginReturn_frame
    | with_reducible apply FrameE.ite | with_reducible exact FrameE.error | with_reducible apply FrameE.ok)

theorem State.clearOosNow_frame (s : State) (t : Side) (hm : Sub 41988 M) (fr : Frame M s0 s) :
    Frame M s0 (State.clearOosNow s t) := by
  unfold State.clearOosNow
  repeat' (first
    | exact OneLead.never rfl | with_reducible assumption | with_reducible apply State.setTwinState_frame
    | with_reducible apply State.modTwin_frame | exact Sub.tr (show Sub _ 41988 from rfl) hm | with_reducible exact rfl)

theorem State.clearOos_frame (s : State) (t : Side) (hm : Sub 41988 M) (fr : Frame M s0 s) :
    FrameE M s0 (State.clearOos s t) := by
  unfold State.clearOos
  repeat' (first
    | with_reducible intro _ | with_reducible assumption | with_reducible apply State.clearOosNow_frame
    | with_reducible apply FrameE.ite | with_reducible exact FrameE.error | with_reducible apply FrameE.ok)

theorem twinResetRelease_frame (t : Side) (s : State) (hm : Sub 8196 M) (fr : Frame M s0 s) :
    Frame M s0 (twinResetRelease t s) := by
  unfold twinResetRelease
  repeat' (first
    | with_reducible intro _ | with_reducible assumption | with_reducible apply State.advanceGen_frame
    | with_reducible apply State.modTwin_frame | with_reducible apply Frame.ite | exact Sub.tr (show Sub _ 8196 from rfl) hm
    | with_reducible exact rfl)

theorem State.takeHomeless_frame (s : State) (t : Side) (hm : Sub 24 M) (fr : Frame M s0 s) :
    Frame M s0 (State.takeHomeless s t) := by
  unfold State.takeHomeless
  repeat' (first
    | with_reducible intro _ | with_reducible assumption | with_reducible apply State.beginTeardown_frame
    | with_reducible apply State.modQueue_frame | with_reducible apply State.modCtx_frame | with_reducible apply Frame.ite
    | exact Sub.tr (show Sub _ 24 from rfl) hm | with_reducible apply Frame.foldl)

theorem State.enterService_frame (s : State) (t : Side) (hm : Sub 1092892 M) (fr : Frame M s0 s) :
    Frame M s0 (State.enterService s t) := by
  unfold State.enterService
  repeat' (first
    | exact State.leads_enter _ _ _ | with_reducible intro _ | with_reducible assumption
    | with_reducible apply State.setTwinState_frame | with_reducible apply State.takeHomeless_frame
    | with_reducible apply State.forgetDelay_frame | with_reducible apply State.loadPlans_frame
    | with_reducible apply State.modTwin_frame | with_reducible apply State.modPort_frame
    | with_reducible apply State.modCtx_frame | with_reducible apply State.emit_frame | with_reducible apply Frame.ite
    | exact Sub.tr (show Sub _ 1092892 from rfl) hm | with_reducible exact rfl)

theorem State.enterTwin_frame (s : State) (t : Side) (hm : Sub 1109276 M) (fr : Frame M s0 s) :
    Frame M s0 (State.enterTwin s t) := by
  unfold State.enterTwin
  repeat' (first
    | with_reducible intro _ | with_reducible assumption | with_reducible apply State.enterService_frame
    | with_reducible apply State.goReturn_frame | with_reducible apply Frame.ite | exact Sub.tr (show Sub _ 1109276 from rfl) hm)

theorem State.twinEvents_frame (s : State) (hm : Sub 1240508 M) (fr : Frame M s0 s) :
    Frame M s0 (State.twinEvents s) := by
  unfold State.twinEvents
  repeat' (first
    | with_reducible intro _ | with_reducible assumption | with_reducible apply State.departTwin_frame
    | with_reducible apply State.detachStep_frame | with_reducible apply State.enterTwin_frame | with_reducible apply Frame.ite
    | exact Sub.tr (show Sub _ 1240508 from rfl) hm)

theorem pwrwarnAssert_frame (us : Nat) (s : State) (hm : Sub 8194 M) (fr : Frame M s0 s) :
    Frame M s0 (pwrwarnAssert us s) := by
  unfold pwrwarnAssert
  repeat' (first
    | with_reducible intro _ | with_reducible assumption | with_reducible apply State.modRst_frame
    | with_reducible apply State.reach_frame | with_reducible apply Frame.ite | exact Sub.tr (show Sub _ 8194 from rfl) hm)

theorem pwrwarnClear_frame (us : Nat) (s : State) (hm : Sub 41986 M) (fr : Frame M s0 s) :
    Frame M s0 (pwrwarnClear us s) := by
  unfold pwrwarnClear
  repeat' (first
    | with_reducible intro _ | with_reducible assumption | with_reducible apply State.modRst_frame
    | with_reducible apply State.reach_frame | with_reducible apply State.chip_frame | with_reducible apply Frame.ite
    | exact Sub.tr (show Sub _ 41986 from rfl) hm | split | dsimp only)

theorem State.supply_frame (s : State) (hm : Sub 8192 M) (fr : Frame M s0 s) :
    Frame M s0 (State.supply s) := by
  unfold State.supply
  repeat' (first
    | with_reducible intro _ | with_reducible assumption | with_reducible apply State.modRst_frame
    | with_reducible apply Frame.ite | split)

end Sys2Proof.Machine
end

