-- ==== Sys2Proof/Laws/FrameClock.lean ====
section
/-! SUPPORT. Frame laws, one per operation (Sys2Proof/Laws/Frame.lean says what they state): clocks, fabric packets and discovery. -/

namespace Sys2Proof.Machine

variable {M : Nat} {s0 : State}

theorem State.flashWrite_frame (s : State) (a : Nat) (l : List Byte) (hm : Sub 32768 M) (fr : Frame M s0 s) :
    Frame M s0 (State.flashWrite s a l) := by
  unfold State.flashWrite
  repeat' (first
    | with_reducible intro _ | with_reducible assumption | with_reducible apply State.modMgt_frame | exact Nat.le_refl _)

theorem State.measSet_frame (s : State) (n : Nat) (d : List Byte) (hm : Sub 32768 M) (fr : Frame M s0 s) :
    Frame M s0 (State.measSet s n d) := by
  unfold State.measSet
  repeat' (first
    | with_reducible intro _ | with_reducible assumption | with_reducible apply State.modMgt_frame | exact Nat.le_refl _)

theorem State.measExtend_frame (s : State) (n : Nat) (d : List Byte) (hm : Sub 32768 M) (fr : Frame M s0 s) :
    Frame M s0 (State.measExtend s n d) := by
  unfold State.measExtend
  repeat' (first
    | with_reducible assumption | with_reducible apply State.measSet_frame)

theorem State.fwLog_frame (s : State) (t : Side) (check : Nat) (hm : Sub 32768 M) (fr : Frame M s0 s) :
    Frame M s0 (State.fwLog s t check) := by
  unfold State.fwLog
  repeat' (first
    | with_reducible assumption | with_reducible apply State.log_frame)

theorem State.outOfService_frame (s : State) (t : Side) (hm : Sub 58372 M) (fr : Frame M s0 s) :
    Frame M s0 (State.outOfService s t) := by
  unfold State.outOfService
  repeat' (first
    | exact OneLead.never rfl | with_reducible intro _ | with_reducible assumption | with_reducible apply State.setTwinState_frame
    | with_reducible apply State.twinGates_frame | with_reducible apply State.modTwin_frame | with_reducible apply Frame.ite
    | exact Sub.tr (show Sub _ 58372 from rfl) hm | with_reducible exact rfl)

theorem State.bootStates_frame (s : State) (hm : Sub 1067276 M) (fr : Frame M s0 s) :
    Frame M s0 (State.bootStates s) := by
  unfold State.bootStates
  repeat' (first
    | with_reducible apply State.modTwins_frame | exact fun _ _ => boot_leads _ _ _ _ | with_reducible intro _
    | with_reducible assumption | with_reducible apply State.twinGates_frame | with_reducible apply State.modPlan_frame
    | with_reducible apply State.modPort_frame | with_reducible apply State.modCtx_frame | with_reducible apply State.emit_frame
    | with_reducible apply Frame.ite | exact Sub.tr (show Sub _ 1067276 from rfl) hm)

theorem State.bootEnds_frame (s : State) (t : Side) (hm : Sub 1067276 M) (fr : Frame M s0 s) :
    Frame M s0 (State.bootEnds s t) := by
  unfold State.bootEnds
  repeat' (first
    | with_reducible intro _ | with_reducible assumption | with_reducible apply State.bootStates_frame
    | with_reducible apply State.modTwin_frame | with_reducible apply Frame.ite | exact Sub.tr (show Sub _ 1067276 from rfl) hm
    | with_reducible exact rfl)

theorem State.atPhase_frame (s : State) (n : Nat) (k : State → State) (hm : Sub 0 M) (hk : ∀ y0, Frame M s0 y0 → Frame M s0 (k y0)) (fr : Frame M s0 s) :
    Frame M s0 (State.atPhase s n k) := by
  unfold State.atPhase
  repeat' (first
    | with_reducible intro _ | with_reducible assumption | with_reducible apply hk | with_reducible apply Frame.ite)

theorem powerUp_frame (xstart : Nat) (s : State) (hm : Sub 24576 M) (fr : Frame M s0 s) :
    Frame M s0 (powerUp xstart s) := by
  unfold powerUp
  repeat' (first
    | with_reducible intro _ | with_reducible assumption | with_reducible apply State.atPhase_frame
    | with_reducible apply State.modClk_frame | with_reducible apply State.modRst_frame
    | exact Sub.tr (show Sub _ 24576 from rfl) hm)

theorem ioscTrim_frame (s : State) (hm : Sub 16384 M) (fr : Frame M s0 s) :
    Frame M s0 (ioscTrim s) := by
  unfold ioscTrim
  repeat' (first
    | with_reducible intro _ | with_reducible assumption | with_reducible apply State.atPhase_frame
    | with_reducible apply State.modClk_frame | exact Sub.tr (show Sub _ 16384 from rfl) hm)

theorem xtalCheck_frame (count : Nat) (s : State) (hm : Sub 16384 M) (fr : Frame M s0 s) :
    Frame M s0 (xtalCheck count s) := by
  unfold xtalCheck
  repeat' (first
    | with_reducible intro _ | with_reducible assumption | with_reducible apply State.atPhase_frame
    | with_reducible apply State.modClk_frame | with_reducible apply Frame.ite | exact Sub.tr (show Sub _ 16384 from rfl) hm)

theorem State.copyCheckpoint_frame (s : State) (hm : Sub 32768 M) (fr : Frame M s0 s) :
    Frame M s0 (State.copyCheckpoint s) := by
  unfold State.copyCheckpoint
  repeat' (first
    | with_reducible intro _ | with_reducible assumption | with_reducible apply State.log_frame | with_reducible apply Frame.ite
    | with_reducible apply Frame.foldl)

theorem pllLocked_frame (s : State) (hm : Sub 49156 M) (fr : Frame M s0 s) :
    Frame M s0 (pllLocked s) := by
  unfold pllLocked
  repeat' (first
    | with_reducible intro _ | with_reducible assumption | with_reducible apply State.copyCheckpoint_frame
    | with_reducible apply State.atPhase_frame | with_reducible apply State.modTwin_frame
    | with_reducible apply State.modClk_frame | exact Sub.tr (show Sub _ 49156 from rfl) hm | with_reducible exact rfl)

theorem sharedMbist_frame (sig : Word) (s : State) (hm : Sub 16384 M) (fr : Frame M s0 s) :
    Frame M s0 (sharedMbist sig s) := by
  unfold sharedMbist
  repeat' (first
    | with_reducible intro _ | with_reducible assumption | with_reducible apply State.atPhase_frame
    | with_reducible apply State.modClk_frame | exact Sub.tr (show Sub _ 16384 from rfl) hm)

theorem State.takeImage_frame (s : State) (t : Side) (image : List Byte) (hm : Sub 4 M) (fr : Frame M s0 s) :
    Frame M s0 (State.takeImage s t image) := by
  unfold State.takeImage
  repeat' (first
    | with_reducible assumption | with_reducible apply State.modTwin_frame | with_reducible exact rfl)

theorem imageLoadDone_frame (t : Side) (s : State) (hm : Sub 3206412 M) (fr : Frame M s0 s) :
    Frame M s0 (imageLoadDone t s) := by
  unfold imageLoadDone
  repeat' (first
    | with_reducible intro _ | with_reducible assumption | with_reducible apply State.outOfService_frame
    | with_reducible apply State.measExtend_frame | with_reducible apply State.freeBytes_frame
    | with_reducible apply State.takeImage_frame | with_reducible apply State.startTest_frame
    | with_reducible apply State.bootEnds_frame | with_reducible apply State.modTwin_frame
    | with_reducible apply State.measSet_frame | with_reducible apply State.fwLog_frame | with_reducible apply Frame.ite
    | exact Sub.tr (show Sub _ 3206412 from rfl) hm | with_reducible exact rfl | split)

theorem imageRemeasureDone_frame (t : Side) (s : State) (hm : Sub 58372 M) (fr : Frame M s0 s) :
    Frame M s0 (imageRemeasureDone t s) := by
  unfold imageRemeasureDone
  repeat' (first
    | with_reducible intro _ | with_reducible assumption | with_reducible apply State.outOfService_frame
    | with_reducible apply State.startTest_frame | with_reducible apply State.modTwin_frame
    | with_reducible apply State.measSet_frame | with_reducible apply State.fwLog_frame | with_reducible apply Frame.ite
    | exact Sub.tr (show Sub _ 58372 from rfl) hm | with_reducible exact rfl)

theorem selftest_frame (r : CmdRef) (s : State) (hm : Sub 1067284 M) (fr : Frame M s0 s) :
    Frame M s0 (selftest r s) := by
  unfold selftest
  repeat' (first
    | with_reducible intro _ | with_reducible assumption | with_reducible apply State.startTest_frame
    | with_reducible apply State.finish_frame | with_reducible apply begin_frame | with_reducible apply Frame.ite
    | exact Sub.tr (show Sub _ 1067284 from rfl) hm)

theorem State.testRecord_frame (s : State) (r : CmdRef) (lbist mbist : Word) (hm : Sub 1442064 M) (fr : Frame M s0 s) :
    Frame M s0 (State.testRecord s r lbist mbist) := by
  unfold State.testRecord
  repeat' (first
    | with_reducible intro _ | with_reducible assumption | with_reducible apply State.writePiece_frame
    | with_reducible apply State.finish_frame | with_reducible apply Frame.ite | exact Sub.tr (show Sub _ 1442064 from rfl) hm
    | split | dsimp only)

theorem State.endTest_frame (s : State) (r : CmdRef) (code : Nat) (hm : Sub 16 M) (fr : Frame M s0 s) :
    Frame M s0 (State.endTest s r code) := by
  unfold State.endTest
  repeat' (first
    | with_reducible intro _ | with_reducible assumption | with_reducible apply State.finish_frame
    | with_reducible apply Frame.ite | split)

theorem selftestDone_frame (t : Side) (mbist lbist : Word) (s : State) (hm : Sub 1502492 M) (fr : Frame M s0 s) :
    Frame M s0 (selftestDone t mbist lbist s) := by
  unfold selftestDone
  repeat' (first
    | with_reducible intro _ | with_reducible assumption | with_reducible apply State.outOfService_frame
    | with_reducible apply State.advanceGen_frame | with_reducible apply State.testRecord_frame
    | with_reducible apply State.twinGates_frame | with_reducible apply State.bootEnds_frame
    | with_reducible apply State.modTwin_frame | with_reducible apply State.endTest_frame | with_reducible apply State.fwLog_frame
    | with_reducible apply Frame.ite | exact Sub.tr (show Sub _ 1502492 from rfl) hm | with_reducible exact rfl | split)

theorem State.stopTest_frame (s : State) (t : Side) (hm : Sub 1109276 M) (fr : Frame M s0 s) :
    Frame M s0 (State.stopTest s t) := by
  unfold State.stopTest
  repeat' (first
    | with_reducible assumption | with_reducible apply State.outOfService_frame | with_reducible apply State.bootEnds_frame
    | with_reducible apply State.modTwin_frame | with_reducible apply State.modCmd_frame
    | exact Sub.tr (show Sub _ 1109276 from rfl) hm | with_reducible exact rfl | split)

theorem warnAsserted_frame (us : Nat) (s : State) (hm : Sub 1109278 M) (fr : Frame M s0 s) :
    Frame M s0 (warnAsserted us s) := by
  unfold warnAsserted
  repeat' (first
    | with_reducible assumption | with_reducible apply State.stopTest_frame | with_reducible apply pwrwarnAssert_frame
    | exact Sub.tr (show Sub _ 1109278 from rfl) hm)

theorem State.bistGo_frame (s : State) (t : Side) (kind : Nat) (hm : Sub 16388 M) (fr : Frame M s0 s) :
    FrameE M s0 (State.bistGo s t kind) := by
  unfold State.bistGo
  repeat' (first
    | with_reducible intro _ | with_reducible assumption | with_reducible apply State.startTest_frame
    | with_reducible apply FrameE.ite | with_reducible exact FrameE.error | with_reducible apply FrameE.ok)

theorem powerFail_frame (s : State) (hm : Sub 1048574 M) (fr : Frame M s0 s) : Frame M s0 (powerFail s) :=
  ⟨fr.pending, fun _ => rfl, fr.lock, fr.svn, fun _ => rfl, fun h => absurd (h.symm.trans (Sub.bit (i := 1) (Sub.tr (show Sub _ 1048574 from rfl) hm))) (by decide), fun h => absurd (h.symm.trans (Sub.bit (i := 2) (Sub.tr (show Sub _ 1048574 from rfl) hm))) (by decide), fun h => absurd (h.symm.trans (Sub.bit (i := 3) (Sub.tr (show Sub _ 1048574 from rfl) hm))) (by decide), fun h => absurd (h.symm.trans (Sub.bit (i := 4) (Sub.tr (show Sub _ 1048574 from rfl) hm))) (by decide), fun h => absurd (h.symm.trans (Sub.bit (i := 5) (Sub.tr (show Sub _ 1048574 from rfl) hm))) (by decide), fun h => absurd (h.symm.trans (Sub.bit (i := 6) (Sub.tr (show Sub _ 1048574 from rfl) hm))) (by decide), fun h => absurd (h.symm.trans (Sub.bit (i := 7) (Sub.tr (show Sub _ 1048574 from rfl) hm))) (by decide), fun h => absurd (h.symm.trans (Sub.bit (i := 8) (Sub.tr (show Sub _ 1048574 from rfl) hm))) (by decide), fun h => absurd (h.symm.trans (Sub.bit (i := 9) (Sub.tr (show Sub _ 1048574 from rfl) hm))) (by decide), fun h => absurd (h.symm.trans (Sub.bit (i := 10) (Sub.tr (show Sub _ 1048574 from rfl) hm))) (by decide), fun h => absurd (h.symm.trans (Sub.bit (i := 11) (Sub.tr (show Sub _ 1048574 from rfl) hm))) (by decide), fun h => absurd (h.symm.trans (Sub.bit (i := 12) (Sub.tr (show Sub _ 1048574 from rfl) hm))) (by decide), fun h => absurd (h.symm.trans (Sub.bit (i := 13) (Sub.tr (show Sub _ 1048574 from rfl) hm))) (by decide), fun h => absurd (h.symm.trans (Sub.bit (i := 14) (Sub.tr (show Sub _ 1048574 from rfl) hm))) (by decide), fun h => absurd (h.symm.trans (Sub.bit (i := 15) (Sub.tr (show Sub _ 1048574 from rfl) hm))) (by decide), fun h => absurd (h.symm.trans (Sub.bit (i := 16) (Sub.tr (show Sub _ 1048574 from rfl) hm))) (by decide), fun h => absurd (h.symm.trans (Sub.bit (i := 17) (Sub.tr (show Sub _ 1048574 from rfl) hm))) (by decide), fun h => absurd (h.symm.trans (Sub.bit (i := 18) (Sub.tr (show Sub _ 1048574 from rfl) hm))) (by decide), fun h => absurd (h.symm.trans (Sub.bit (i := 19) (Sub.tr (show Sub _ 1048574 from rfl) hm))) (by decide), fr.out, fr.freeCtr⟩

theorem State.clkSrcWrite_frame (s : State) (v : Nat) (hm : Sub 18432 M) (fr : Frame M s0 s) :
    FrameE M s0 (State.clkSrcWrite s v) := by
  unfold State.clkSrcWrite
  repeat' (first
    | with_reducible intro _ | with_reducible assumption | with_reducible apply State.modPlan_frame
    | with_reducible apply State.modClk_frame | with_reducible apply Frame.ite | with_reducible apply FrameE.ite
    | exact Sub.tr (show Sub _ 18432 from rfl) hm | with_reducible exact FrameE.error | with_reducible apply FrameE.ok)

theorem State.clkSwitch_frame (s : State) (epoch : Bool) (hm : Sub 16384 M) (fr : Frame M s0 s) :
    Frame M s0 (State.clkSwitch s epoch) := by
  unfold State.clkSwitch
  repeat' (first
    | with_reducible assumption | with_reducible apply State.modClk_frame)

theorem State.loseLock_frame (s : State) (k : Nat) (spare : Bool) (hm : Sub 16388 M) (fr : Frame M s0 s) :
    Frame M s0 (State.loseLock s k spare) := by
  unfold State.loseLock
  repeat' (first
    | with_reducible intro _ | with_reducible assumption | with_reducible apply State.modClk_frame
    | with_reducible apply State.failAt_frame | with_reducible apply Frame.ite | exact Sub.tr (show Sub _ 16388 from rfl) hm
    | split)

theorem State.loseMpll_frame (s : State) (hm : Sub 16384 M) (fr : Frame M s0 s) :
    Frame M s0 (State.loseMpll s) := by
  unfold State.loseMpll
  repeat' (first
    | with_reducible assumption | with_reducible apply State.modClk_frame)

theorem pllLoss_frame (p : Pll) (s : State) (hm : Sub 16388 M) (fr : Frame M s0 s) :
    Frame M s0 (pllLoss p s) := by
  unfold pllLoss
  repeat' (first
    | with_reducible assumption | with_reducible apply State.loseMpll_frame | with_reducible apply State.loseLock_frame
    | exact Sub.tr (show Sub _ 16388 from rfl) hm | split)

theorem xtalLost_frame (s : State) (hm : Sub 16388 M) (fr : Frame M s0 s) :
    Frame M s0 (xtalLost s) := by
  unfold xtalLost
  repeat' (first
    | with_reducible intro _ | with_reducible assumption | with_reducible apply State.loseLock_frame
    | with_reducible apply State.loseMpll_frame | with_reducible apply State.modClk_frame
    | exact Sub.tr (show Sub _ 16388 from rfl) hm | with_reducible apply Frame.foldl)

theorem State.clkBoundary_frame (s : State) (hm : Sub 16384 M) (fr : Frame M s0 s) :
    Frame M s0 (State.clkBoundary s) := by
  unfold State.clkBoundary
  repeat' (first
    | with_reducible assumption | with_reducible apply State.modClk_frame)

theorem State.gateWrite_frame (s : State) (v : Nat) (hm : Sub 16384 M) (fr : Frame M s0 s) :
    FrameE M s0 (State.gateWrite s v) := by
  unfold State.gateWrite
  repeat' (first
    | with_reducible intro _ | with_reducible assumption | with_reducible apply State.modClk_frame
    | with_reducible apply FrameE.ite | with_reducible exact FrameE.error | with_reducible apply FrameE.ok)

theorem State.fcntGo_frame (s : State) (hm : Sub 16384 M) (fr : Frame M s0 s) :
    Frame M s0 (State.fcntGo s) := by
  unfold State.fcntGo
  repeat' (first
    | with_reducible assumption | with_reducible apply State.modClk_frame)

theorem fcntDone_frame (count : Nat) (s : State) (hm : Sub 16384 M) (fr : Frame M s0 s) :
    Frame M s0 (fcntDone count s) := by
  unfold fcntDone
  repeat' (first
    | with_reducible intro _ | with_reducible assumption | with_reducible apply State.modClk_frame
    | with_reducible apply Frame.ite)

theorem fcntTimeout_frame (count : Nat) (s : State) (hm : Sub 16384 M) (fr : Frame M s0 s) :
    Frame M s0 (fcntTimeout count s) := by
  unfold fcntTimeout
  repeat' (first
    | with_reducible intro _ | with_reducible assumption | with_reducible apply State.modClk_frame
    | with_reducible apply Frame.ite)

theorem State.standbyAsk_frame (s : State) (t : Side) (hm : Sub 4 M) (fr : Frame M s0 s) :
    FrameE M s0 (State.standbyAsk s t) := by
  unfold State.standbyAsk
  repeat' (first
    | with_reducible intro _ | with_reducible assumption | with_reducible apply State.modTwin_frame
    | with_reducible apply FrameE.ite | with_reducible exact FrameE.error | with_reducible apply FrameE.ok
    | with_reducible exact rfl)

theorem State.standbyStep_frame (s : State) (t : Side) (hm : Sub 16388 M) (fr : Frame M s0 s) :
    Frame M s0 (State.standbyStep s t) := by
  unfold State.standbyStep
  repeat' (first
    | with_reducible intro _ | with_reducible assumption | with_reducible apply State.twinGates_frame
    | with_reducible apply State.modTwin_frame | with_reducible apply Frame.ite | exact Sub.tr (show Sub _ 16388 from rfl) hm
    | with_reducible exact rfl)

theorem State.freed_frame (s : State) (l : List FabSent) (hm : Sub 131088 M) (fr : Frame M s0 s) :
    Frame M s0 (State.freed s l) := by
  unfold State.freed
  repeat' (first
    | with_reducible intro _ | with_reducible assumption | with_reducible apply State.modGrant_frame
    | with_reducible apply State.modRef_frame | with_reducible apply Frame.ite | exact Sub.tr (show Sub _ 131088 from rfl) hm
    | with_reducible apply Frame.foldl | split)

theorem takeAck_frame (h : FabHdr) (valid : Nat) (upTo : List Nat) (s : State) (hm : Sub 131088 M) (fr : Frame M s0 s) :
    Frame M s0 (takeAck h valid upTo s) := by
  unfold takeAck
  repeat' (first
    | with_reducible intro _ | with_reducible assumption | with_reducible apply State.modPath_frame
    | with_reducible apply State.freed_frame | with_reducible apply Frame.ite | exact Sub.tr (show Sub _ 131088 from rfl) hm)

theorem State.countResent_frame (s : State) (d : Nat) (l : List FabSent) (hm : Sub 2048 M) (fr : Frame M s0 s) :
    Frame M s0 (State.countResent s d l) := by
  unfold State.countResent
  repeat' (first
    | with_reducible intro _ | with_reducible assumption | with_reducible apply State.useLinks_frame
    | with_reducible apply Frame.foldl)

theorem takePfack_frame (h : FabHdr) (counts : List Nat) (s : State) (hm : Sub 1181712 M) (fr : Frame M s0 s) :
    Frame M s0 (takePfack h counts s) := by
  unfold takePfack
  repeat' (first
    | with_reducible intro _ | with_reducible assumption | with_reducible apply State.pfackDeliver_frame
    | with_reducible apply State.countResent_frame | with_reducible apply State.freed_frame | with_reducible apply Frame.ite
    | exact Sub.tr (show Sub _ 1181712 from rfl) hm)

theorem takePathfence_frame (h : FabHdr) (old : FabRx) (s : State) (hm : Sub 1179648 M) (fr : Frame M s0 s) :
    Frame M s0 (takePathfence h old s) := by
  unfold takePathfence
  repeat' (first
    | with_reducible assumption | with_reducible apply State.sendPfack_frame)

theorem State.loseUnit_frame (s : State) (r : CmdRef) (u code : Nat) (hm : Sub 16 M) (fr : Frame M s0 s) :
    Frame M s0 (State.loseUnit s r u code) := by
  unfold State.loseUnit
  repeat' (first
    | with_reducible intro _ | with_reducible assumption | with_reducible apply State.endUnit_frame
    | with_reducible apply State.modRef_frame | with_reducible apply Frame.ite | split)

theorem State.dropHeld_frame (s : State) (p : HeldGrant → Bool) (hm : Sub 131072 M) (fr : Frame M s0 s) :
    Frame M s0 (State.dropHeld s p) := by
  unfold State.dropHeld
  repeat' (first
    | with_reducible assumption | with_reducible apply State.modFab_frame)

theorem State.proxyEvent_frame (s : State) (old new : Fence) (hm : Sub 1536 M) (fr : Frame M s0 s) :
    Frame M s0 (State.proxyEvent s old new) := by
  unfold State.proxyEvent
  repeat' (first
    | with_reducible intro _ | with_reducible assumption | with_reducible apply State.ctxReport_frame
    | with_reducible apply Frame.ite)

theorem State.breakProxies_frame (s : State) (p : Nat × Nat → Bool) (code : Nat) (hm : Sub 1181232 M) (fr : Frame M s0 s) :
    Frame M s0 (State.breakProxies s p code) := by
  unfold State.breakProxies
  repeat' (first
    | with_reducible intro _ | with_reducible assumption | with_reducible apply State.proxyEvent_frame
    | with_reducible apply State.breakFence_frame | with_reducible apply Frame.ite | exact Sub.tr (show Sub _ 1181232 from rfl) hm
    | with_reducible apply Frame.foldl | split)

theorem State.deviceLost_frame (s : State) (st d : Nat) (hm : Sub 1549872 M) (fr : Frame M s0 s) :
    Frame M s0 (State.deviceLost s st d) := by
  unfold State.deviceLost
  repeat' (first
    | with_reducible intro _ | with_reducible assumption | with_reducible apply State.breakProxies_frame
    | with_reducible apply State.declareDead_frame | with_reducible apply State.dropLines_frame
    | with_reducible apply State.modRoute_frame | with_reducible apply State.loseUnit_frame
    | with_reducible apply State.dropHeld_frame | with_reducible apply State.modPath_frame
    | with_reducible apply State.endUnit_frame | with_reducible apply State.modRef_frame | with_reducible apply State.modFab_frame
    | with_reducible apply State.emits_frame | exact Sub.tr (show Sub _ 1549872 from rfl) hm | with_reducible apply Frame.foldl
    | split)

theorem ackTimeout_frame (d : Nat) (s : State) (hm : Sub 1549874 M) (fr : Frame M s0 s) :
    Frame M s0 (ackTimeout d s) := by
  unfold ackTimeout
  repeat' (first
    | with_reducible intro _ | with_reducible assumption | with_reducible apply State.deviceLost_frame
    | with_reducible apply State.modRoute_frame | with_reducible apply State.stamped_frame
    | with_reducible apply State.modPath_frame | with_reducible apply Frame.ite | exact Sub.tr (show Sub _ 1549874 from rfl) hm
    | split | dsimp only)

theorem serveWrite_frame (c : Instr) (h : FabHdr) (data : List Byte) (marks : Nat) (s : State) (hm : Sub 327696 M) (fr : Frame M s0 s) :
    Frame M s0 (serveWrite c h data marks s) := by
  unfold serveWrite
  repeat' (first
    | with_reducible intro _ | with_reducible assumption | with_reducible apply State.uncached_frame
    | with_reducible apply State.disturb_frame | with_reducible apply State.setMem_frame | with_reducible apply Mem.storeP_wf
    | exact Sub.tr (show Sub _ 327696 from rfl) hm | with_reducible refine Frame.wf (m := M) (s := s0) ?_ (by assumption))

theorem takeWrite_frame (c : Instr) (h : FabHdr) (data : List Byte) (marks : Nat) (s : State) (hm : Sub 1507344 M) (fr : Frame M s0 s) :
    Frame M s0 (takeWrite c h data marks s) := by
  unfold takeWrite
  repeat' (first
    | with_reducible intro _ | with_reducible assumption | with_reducible apply State.nakTo_frame
    | with_reducible apply serveWrite_frame | with_reducible apply Frame.ite | exact Sub.tr (show Sub _ 1507344 from rfl) hm)

theorem serveRead_frame (c : Instr) (h : FabHdr) (len : Nat) (s : State) (hm : Sub 1245184 M) (fr : Frame M s0 s) :
    Frame M s0 (serveRead c h len s) := by
  unfold serveRead
  repeat' (first
    | with_reducible intro _ | with_reducible assumption | with_reducible apply State.uncached_frame
    | with_reducible apply State.fabSend_frame | exact Sub.tr (show Sub _ 1245184 from rfl) hm)

theorem takeRead_frame (c : Instr) (h : FabHdr) (len : Nat) (s : State) (hm : Sub 1245184 M) (fr : Frame M s0 s) :
    Frame M s0 (takeRead c h len s) := by
  unfold takeRead
  repeat' (first
    | with_reducible intro _ | with_reducible assumption | with_reducible apply State.nakTo_frame
    | with_reducible apply serveRead_frame | with_reducible apply Frame.ite | exact Sub.tr (show Sub _ 1245184 from rfl) hm)

theorem State.dropRead_frame (s : State) (h : FabHdr) (hm : Sub 131072 M) (fr : Frame M s0 s) :
    Frame M s0 (State.dropRead s h) := by
  unfold State.dropRead
  repeat' (first
    | with_reducible assumption | with_reducible apply State.modFab_frame)

theorem State.bypassed_frame (s : State) (h : FabHdr) (k : Agent → Nat → Out) (hm : Sub 1179648 M) (fr : Frame M s0 s) :
    Frame M s0 (State.bypassed s h k) := by
  unfold State.bypassed
  repeat' (first
    | with_reducible assumption | with_reducible apply State.modFab_frame | with_reducible apply State.emit_frame
    | exact Sub.tr (show Sub _ 1179648 from rfl) hm | split)

theorem takeRdata_frame (c : Instr) (h : FabHdr) (data : List Byte) (marks : Nat) (s : State) (hm : Sub 1553814 M) (fr : Frame M s0 s) :
    Frame M s0 (takeRdata c h data marks s) := by
  unfold takeRdata
  repeat' (first
    | with_reducible intro _ | with_reducible assumption | with_reducible apply State.sourceArrived_frame
    | with_reducible apply State.staleQueue_frame | with_reducible apply State.bypassed_frame
    | with_reducible apply State.dropRead_frame | with_reducible apply State.stamped_frame | with_reducible apply Frame.ite
    | exact Sub.tr (show Sub _ 1553814 from rfl) hm | split)

theorem takeNak_frame (c : Instr) (h : FabHdr) (code : Nat) (s : State) (hm : Sub 1187858 M) (fr : Frame M s0 s) :
    Frame M s0 (takeNak c h code s) := by
  unfold takeNak
  repeat' (first
    | with_reducible intro _ | with_reducible assumption | with_reducible apply State.staleQueue_frame
    | with_reducible apply State.dropRead_frame | with_reducible apply State.loseUnit_frame
    | with_reducible apply State.modGrant_frame | with_reducible apply State.bypassed_frame
    | with_reducible apply State.stamped_frame | with_reducible apply State.endUnit_frame | with_reducible apply Frame.ite
    | exact Sub.tr (show Sub _ 1187858 from rfl) hm | split)

theorem takeInval_frame (c : Instr) (h : FabHdr) (clusters : Nat) (ranges : List (Nat × Nat)) (s : State) (hm : Sub 1179650 M) (fr : Frame M s0 s) :
    Frame M s0 (takeInval c h clusters ranges s) := by
  unfold takeInval
  repeat' (first
    | with_reducible intro _ | with_reducible assumption | with_reducible apply State.servedRest_frame
    | with_reducible apply State.stamped_frame | with_reducible apply State.fabSend_frame
    | with_reducible apply State.modFab_frame | with_reducible apply Frame.ite | exact Sub.tr (show Sub _ 1179650 from rfl) hm)

theorem State.servedDone_frame (s : State) (src tag n : Nat) (hm : Sub 1179648 M) (fr : Frame M s0 s) :
    Frame M s0 (State.servedDone s src tag n) := by
  unfold State.servedDone
  repeat' (first
    | with_reducible intro _ | with_reducible assumption | with_reducible apply State.fabSend_frame
    | with_reducible apply State.modFab_frame | with_reducible apply Frame.ite | exact Sub.tr (show Sub _ 1179648 from rfl) hm
    | split)

theorem takeInvalDone_frame (c : Instr) (h : FabHdr) (s : State) (hm : Sub 139282 M) (fr : Frame M s0 s) :
    Frame M s0 (takeInvalDone c h s) := by
  unfold takeInvalDone
  repeat' (first
    | with_reducible intro _ | with_reducible assumption | with_reducible apply State.peerInvDone_frame
    | with_reducible apply State.staleQueue_frame | with_reducible apply State.stamped_frame
    | with_reducible apply State.modFab_frame | with_reducible apply Frame.ite | exact Sub.tr (show Sub _ 139282 from rfl) hm
    | split)

theorem State.grantCommit_frame (s : State) (i d0 : Nat) (d1 d2 d3 : Nat) (hm : Sub 1179648 M) (fr : Frame M s0 s) :
    FrameE M s0 (State.grantCommit s i d0 d1 d2 d3) := by
  unfold State.grantCommit
  repeat' (first
    | with_reducible intro _ | with_reducible assumption | with_reducible apply State.modGrant_frame
    | with_reducible apply State.fabSend_frame | with_reducible apply State.modFab_frame | with_reducible apply FrameE.ite
    | exact Sub.tr (show Sub _ 1179648 from rfl) hm | with_reducible exact FrameE.error | with_reducible apply FrameE.ok)

theorem State.grantClear_frame (s : State) (i : Nat) (hm : Sub 131072 M) (fr : Frame M s0 s) :
    Frame M s0 (State.grantClear s i) := by
  unfold State.grantClear
  repeat' (first
    | with_reducible intro _ | with_reducible assumption | with_reducible apply State.modGrant_frame
    | with_reducible apply Frame.ite)

theorem State.endGrants_frame (s : State) (hm : Sub 1179648 M) (fr : Frame M s0 s) :
    Frame M s0 (State.endGrants s) := by
  unfold State.endGrants
  repeat' (first
    | with_reducible intro _ | with_reducible assumption | with_reducible apply State.modGrant_frame
    | with_reducible apply State.fabSend_frame | with_reducible apply Frame.ite | exact Sub.tr (show Sub _ 1179648 from rfl) hm
    | with_reducible apply Frame.foldl)

theorem takeOffer_frame (c : Instr) (h : FabHdr) (base size : Nat) (rights ctx : Nat) (fence : Bool) (s : State) (hm : Sub 1179650 M) (fr : Frame M s0 s) :
    Frame M s0 (takeOffer c h base size rights ctx fence s) := by
  unfold takeOffer
  repeat' (first
    | with_reducible intro _ | with_reducible assumption | with_reducible apply State.stamped_frame
    | with_reducible apply State.modFab_frame | with_reducible apply State.nakTo_frame
    | exact Sub.tr (show Sub _ 1179650 from rfl) hm | split)

theorem takeRevoke_frame (c : Instr) (h : FabHdr) (s : State) (hm : Sub 1181234 M) (fr : Frame M s0 s) :
    Frame M s0 (takeRevoke c h s) := by
  unfold takeRevoke
  repeat' (first
    | with_reducible intro _ | with_reducible assumption | with_reducible apply State.breakProxies_frame
    | with_reducible apply State.dropHeld_frame | with_reducible apply State.stamped_frame
    | exact Sub.tr (show Sub _ 1181234 from rfl) hm)

theorem State.proxyBind_frame (s : State) (handle dev id : Nat) (hm : Sub 1179680 M) (fr : Frame M s0 s) :
    FrameE M s0 (State.proxyBind s handle dev id) := by
  unfold State.proxyBind
  repeat' (first
    | with_reducible intro _ | with_reducible assumption | with_reducible apply State.modFence_frame
    | with_reducible apply State.fabSend_frame | with_reducible apply FrameE.ite | exact Sub.tr (show Sub _ 1179680 from rfl) hm
    | with_reducible exact FrameE.error | with_reducible apply FrameE.ok | split)

theorem State.proxyUnbind_frame (s : State) (handle : Nat) (hm : Sub 32 M) (fr : Frame M s0 s) :
    FrameE M s0 (State.proxyUnbind s handle) := by
  unfold State.proxyUnbind
  repeat' (first
    | with_reducible intro _ | with_reducible assumption | with_reducible apply State.modFence_frame
    | with_reducible apply FrameE.ite | with_reducible exact FrameE.error | with_reducible apply FrameE.ok | split)

theorem takeFenceUpd_frame (c : Instr) (h : FabHdr) (value st : Nat) (code scope : Nat) (s : State) (hm : Sub 1181234 M) (fr : Frame M s0 s) :
    Frame M s0 (takeFenceUpd c h value st code scope s) := by
  unfold takeFenceUpd
  repeat' (first
    | with_reducible intro _ | with_reducible assumption | with_reducible apply State.notifyFence_frame
    | with_reducible apply State.proxyEvent_frame | with_reducible apply State.putFence_frame
    | with_reducible apply State.stamped_frame | with_reducible apply Frame.ite | exact Sub.tr (show Sub _ 1181234 from rfl) hm
    | with_reducible apply Frame.foldl)

theorem State.groupAnswer_frame (s : State) (g : Nat) (dest : List Nat) (agree : Bool) (hm : Sub 1179648 M) (fr : Frame M s0 s) :
    Frame M s0 (State.groupAnswer s g dest agree) := by
  unfold State.groupAnswer
  repeat' (first
    | with_reducible intro _ | with_reducible assumption | with_reducible apply State.fabSend_frame
    | with_reducible apply Frame.foldl)

theorem State.groupJudge_frame (s : State) (g : Nat) (hm : Sub 1179648 M) (fr : Frame M s0 s) :
    Frame M s0 (State.groupJudge s g) := by
  unfold State.groupJudge
  repeat' (first
    | with_reducible intro _ | with_reducible assumption | with_reducible apply State.groupAnswer_frame
    | with_reducible apply State.modGroup_frame | with_reducible apply Frame.ite | exact Sub.tr (show Sub _ 1179648 from rfl) hm)

theorem State.groupCommit_frame (s : State) (g members list : Nat) (hm : Sub 1179648 M) (fr : Frame M s0 s) :
    FrameE M s0 (State.groupCommit s g members list) := by
  unfold State.groupCommit
  repeat' (first
    | with_reducible intro _ | with_reducible assumption | with_reducible apply State.groupJudge_frame
    | with_reducible apply State.modGroup_frame | with_reducible apply State.fabSend_frame | with_reducible apply Frame.ite
    | with_reducible apply FrameE.ite | exact Sub.tr (show Sub _ 1179648 from rfl) hm | with_reducible exact FrameE.error
    | with_reducible apply FrameE.ok)

theorem State.groupClear_frame (s : State) (g : Nat) (hm : Sub 131072 M) (fr : Frame M s0 s) :
    FrameE M s0 (State.groupClear s g) := by
  unfold State.groupClear
  repeat' (first
    | with_reducible intro _ | with_reducible assumption | with_reducible apply State.modGroup_frame
    | with_reducible apply FrameE.ite | with_reducible exact FrameE.error | with_reducible apply FrameE.ok)

theorem takeDigest_frame (c : Instr) (h : FabHdr) (g : Nat) (d : List Byte) (s : State) (hm : Sub 1179650 M) (fr : Frame M s0 s) :
    Frame M s0 (takeDigest c h g d s) := by
  unfold takeDigest
  repeat' (first
    | with_reducible intro _ | with_reducible assumption | with_reducible apply State.groupJudge_frame
    | with_reducible apply State.modGroup_frame | with_reducible apply State.stamped_frame
    | exact Sub.tr (show Sub _ 1179650 from rfl) hm)

theorem takeAnswer_frame (c : Instr) (h : FabHdr) (g : Nat) (agree : Bool) (s : State) (hm : Sub 131074 M) (fr : Frame M s0 s) :
    Frame M s0 (takeAnswer c h g agree s) := by
  unfold takeAnswer
  repeat' (first
    | with_reducible intro _ | with_reducible assumption | with_reducible apply State.modGroup_frame
    | with_reducible apply State.stamped_frame | with_reducible apply Frame.ite | exact Sub.tr (show Sub _ 131074 from rfl) hm)

theorem groupAgreeTimeout_frame (g : Nat) (s : State) (hm : Sub 1179648 M) (fr : Frame M s0 s) :
    Frame M s0 (groupAgreeTimeout g s) := by
  unfold groupAgreeTimeout
  repeat' (first
    | with_reducible intro _ | with_reducible assumption | with_reducible apply State.groupAnswer_frame
    | with_reducible apply State.modGroup_frame | with_reducible apply Frame.ite | exact Sub.tr (show Sub _ 1179648 from rfl) hm
    | split | dsimp only)

theorem State.groupsBoundary_frame (s : State) (hm : Sub 131072 M) (fr : Frame M s0 s) :
    Frame M s0 (State.groupsBoundary s) := by
  unfold State.groupsBoundary
  repeat' (first
    | with_reducible assumption | with_reducible apply State.modFab_frame)

theorem State.routeCommit_frame (s : State) (d alts : Nat) (hm : Sub 131072 M) (fr : Frame M s0 s) :
    FrameE M s0 (State.routeCommit s d alts) := by
  unfold State.routeCommit
  repeat' (first
    | with_reducible intro _ | with_reducible assumption | with_reducible apply State.modRoute_frame
    | with_reducible apply FrameE.ite | with_reducible exact FrameE.error | with_reducible apply FrameE.ok)

theorem State.repin_frame (s : State) (d : Nat) (hm : Sub 131072 M) (fr : Frame M s0 s) :
    Frame M s0 (State.repin s d) := by
  unfold State.repin
  repeat' (first
    | with_reducible assumption | with_reducible apply State.modRoute_frame)

theorem State.pathEvents_frame (s : State) (hm : Sub 1549872 M) (fr : Frame M s0 s) :
    Frame M s0 (State.pathEvents s) := by
  unfold State.pathEvents
  repeat' (first
    | with_reducible intro _ | with_reducible assumption | with_reducible apply State.deviceLost_frame
    | with_reducible apply State.pathChange_frame | with_reducible apply State.modRoute_frame | with_reducible apply Frame.ite
    | exact Sub.tr (show Sub _ 1549872 from rfl) hm | with_reducible apply Frame.foldl | split)

theorem State.elect_frame (s : State) (hm : Sub 131072 M) (fr : Frame M s0 s) :
    Frame M s0 (State.elect s) := by
  unfold State.elect
  repeat' (first
    | with_reducible intro _ | with_reducible assumption | with_reducible apply State.modFab_frame
    | with_reducible apply Frame.ite | split | dsimp only)

theorem State.dropChanged_frame (s : State) (m : List (FabNode × Nat)) (hm : Sub 1246768 M) (fr : Frame M s0 s) :
    Frame M s0 (State.dropChanged s m) := by
  unfold State.dropChanged
  repeat' (first
    | with_reducible intro _ | with_reducible assumption | with_reducible apply State.breakProxies_frame
    | with_reducible apply State.comeBack_frame | with_reducible apply State.dropHeld_frame | with_reducible apply Frame.ite
    | exact Sub.tr (show Sub _ 1246768 from rfl) hm)

theorem State.installMap_frame (s : State) (m : List (FabNode × Nat)) (now : Bool) (hm : Sub 1246768 M) (fr : Frame M s0 s) :
    Frame M s0 (State.installMap s m now) := by
  unfold State.installMap
  repeat' (first
    | with_reducible intro _ | with_reducible assumption | with_reducible apply State.dropChanged_frame
    | with_reducible apply State.modRoute_frame | with_reducible apply State.modFab_frame | with_reducible apply Frame.ite
    | exact Sub.tr (show Sub _ 1246768 from rfl) hm | with_reducible apply Frame.foldl | split)

theorem State.sendMap_frame (s : State) (hm : Sub 1048576 M) (fr : Frame M s0 s) :
    Frame M s0 (State.sendMap s) := by
  unfold State.sendMap
  repeat' (first
    | with_reducible assumption | with_reducible apply State.emits_frame)

theorem State.makeMap_frame (s : State) (now : Bool) (hm : Sub 1246768 M) (fr : Frame M s0 s) :
    Frame M s0 (State.makeMap s now) := by
  unfold State.makeMap
  repeat' (first
    | with_reducible assumption | with_reducible apply State.installMap_frame | with_reducible apply State.sendMap_frame
    | with_reducible apply State.modFab_frame | exact Sub.tr (show Sub _ 1246768 from rfl) hm)

theorem State.report_frame (s : State) (hm : Sub 1246768 M) (fr : Frame M s0 s) :
    Frame M s0 (State.report s) := by
  unfold State.report
  repeat' (first
    | with_reducible intro _ | with_reducible assumption | with_reducible apply State.makeMap_frame
    | with_reducible apply State.modFab_frame | with_reducible apply State.emit_frame | with_reducible apply Frame.ite
    | exact Sub.tr (show Sub _ 1246768 from rfl) hm | split)

theorem State.enterPhase_frame (s : State) (n : Nat) (hm : Sub 131072 M) (fr : Frame M s0 s) :
    Frame M s0 (State.enterPhase s n) := by
  unfold State.enterPhase
  repeat' (first
    | with_reducible assumption | with_reducible apply State.modFab_frame)

theorem discoveryPhaseEnd_frame (s : State) (hm : Sub 1246768 M) (fr : Frame M s0 s) :
    Frame M s0 (discoveryPhaseEnd s) := by
  unfold discoveryPhaseEnd
  repeat' (first
    | with_reducible intro _ | with_reducible assumption | with_reducible apply State.enterPhase_frame
    | with_reducible apply State.makeMap_frame | with_reducible apply State.modFab_frame | with_reducible apply State.emit_frame
    | with_reducible apply Frame.ite | exact Sub.tr (show Sub _ 1246768 from rfl) hm | split)

theorem hello_frame (link serial : Nat) (peerLink best dist : Nat) (answer : Option FabAnswer) (s : State) (hm : Sub 1179648 M) (fr : Frame M s0 s) :
    Frame M s0 (hello link serial peerLink best dist answer s) := by
  unfold hello
  repeat' (first
    | with_reducible intro _ | with_reducible assumption | with_reducible apply State.enterPhase_frame
    | with_reducible apply State.modLink_frame | with_reducible apply State.modFab_frame | with_reducible apply State.elect_frame
    | with_reducible apply State.emit_frame | with_reducible apply Frame.ite | exact Sub.tr (show Sub _ 1179648 from rfl) hm
    | split)

theorem probe_frame (link roundTrip : Nat) (s : State) (hm : Sub 131072 M) (fr : Frame M s0 s) :
    Frame M s0 (probe link roundTrip s) := by
  unfold probe
  repeat' (first
    | with_reducible intro _ | with_reducible assumption | with_reducible apply State.modLink_frame
    | with_reducible apply Frame.ite)

theorem census_frame (nodes : List FabNode) (s : State) (hm : Sub 1246768 M) (fr : Frame M s0 s) :
    Frame M s0 (census nodes s) := by
  unfold census
  repeat' (first
    | with_reducible intro _ | with_reducible assumption | with_reducible apply State.makeMap_frame
    | with_reducible apply State.modFab_frame | with_reducible apply State.emit_frame | with_reducible apply Frame.ite
    | exact Sub.tr (show Sub _ 1246768 from rfl) hm | split)

theorem fabricMap_frame (link : Nat) (m : List (FabNode × Nat)) (s : State) (hm : Sub 1246768 M) (fr : Frame M s0 s) :
    Frame M s0 (fabricMap link m s) := by
  unfold fabricMap
  repeat' (first
    | with_reducible intro _ | with_reducible assumption | with_reducible apply State.installMap_frame
    | with_reducible apply State.enterPhase_frame | with_reducible apply State.sendMap_frame | with_reducible apply Frame.ite
    | exact Sub.tr (show Sub _ 1246768 from rfl) hm)

theorem State.rejoin_frame (s : State) (detached : Bool) (hm : Sub 131072 M) (fr : Frame M s0 s) :
    Frame M s0 (State.rejoin s detached) := by
  unfold State.rejoin
  repeat' (first
    | with_reducible assumption | with_reducible apply State.modFab_frame)

theorem State.skewed_frame (s : State) (offset : Int) (hm : Sub 173056 M) (fr : Frame M s0 s) :
    Frame M s0 (State.skewed s offset) := by
  unfold State.skewed
  repeat' (first
    | with_reducible intro _ | with_reducible assumption | with_reducible apply State.modFab_frame
    | with_reducible apply State.chip_frame | with_reducible apply Frame.ite | exact Sub.tr (show Sub _ 173056 from rfl) hm)

theorem beacon_frame (link number : Nat) (offset : Int) (s : State) (hm : Sub 173056 M) (fr : Frame M s0 s) :
    Frame M s0 (beacon link number offset s) := by
  unfold beacon
  repeat' (first
    | with_reducible intro _ | with_reducible assumption | with_reducible apply State.enterPhase_frame
    | with_reducible apply State.modFab_frame | with_reducible apply State.skewed_frame | with_reducible apply State.rejoin_frame
    | with_reducible apply Frame.ite | exact Sub.tr (show Sub _ 173056 from rfl) hm | split)

theorem beaconLoss_frame (s : State) (hm : Sub 1246768 M) (fr : Frame M s0 s) :
    Frame M s0 (beaconLoss s) := by
  unfold beaconLoss
  repeat' (first
    | with_reducible intro _ | with_reducible assumption | with_reducible apply State.makeMap_frame
    | with_reducible apply State.modFab_frame | with_reducible apply State.rejoin_frame | with_reducible apply Frame.ite
    | exact Sub.tr (show Sub _ 1246768 from rfl) hm | split | dsimp only)

theorem fabricJoin_frame (link device : Nat) (root number : Nat) (s : State) (hm : Sub 204802 M) (fr : Frame M s0 s) :
    Frame M s0 (fabricJoin link device root number s) := by
  unfold fabricJoin
  repeat' (first
    | with_reducible intro _ | with_reducible assumption | with_reducible apply State.advanceGen_frame
    | with_reducible apply State.comeBack_frame | with_reducible apply State.modTime_frame
    | with_reducible apply State.modFab_frame | with_reducible apply Frame.ite | exact Sub.tr (show Sub _ 204802 from rfl) hm)

theorem fabricLinkDown_frame (link : Nat) (s : State) (hm : Sub 1246768 M) (fr : Frame M s0 s) :
    Frame M s0 (fabricLinkDown link s) := by
  unfold fabricLinkDown
  repeat' (first
    | with_reducible intro _ | with_reducible assumption | with_reducible apply State.modLink_frame
    | with_reducible apply State.modFab_frame | with_reducible apply State.report_frame | with_reducible apply Frame.ite
    | exact Sub.tr (show Sub _ 1246768 from rfl) hm)

theorem linkReportedUp_frame (link peerDev peerLink : Nat) (s : State) (hm : Sub 131072 M) (fr : Frame M s0 s) :
    Frame M s0 (linkReportedUp link peerDev peerLink s) := by
  unfold linkReportedUp
  repeat' (first
    | with_reducible intro _ | with_reducible assumption | with_reducible apply State.modLink_frame
    | with_reducible apply State.modFab_frame | with_reducible apply Frame.ite)

theorem fabricLinkUp_frame (link : Nat) (s : State) (hm : Sub 1246768 M) (fr : Frame M s0 s) :
    Frame M s0 (fabricLinkUp link s) := by
  unfold fabricLinkUp
  repeat' (first
    | with_reducible intro _ | with_reducible assumption | with_reducible apply State.modLink_frame
    | with_reducible apply State.report_frame | with_reducible apply Frame.ite | exact Sub.tr (show Sub _ 1246768 from rfl) hm)

theorem State.sendGo_frame (s : State) (x : Global) (hm : Sub 1048576 M) (fr : Frame M s0 s) :
    Frame M s0 (State.sendGo s x) := by
  unfold State.sendGo
  repeat' (first
    | with_reducible assumption | with_reducible apply State.emits_frame | split)

theorem State.admitGlobal_frame (s : State) (reset : Bool) (g snap : Nat) (hm : Sub 1179648 M) (fr : Frame M s0 s) :
    Frame M s0 (State.admitGlobal s reset g snap) := by
  unfold State.admitGlobal
  repeat' (first
    | with_reducible assumption | with_reducible apply State.sendGo_frame | with_reducible apply State.modFab_frame
    | exact Sub.tr (show Sub _ 1179648 from rfl) hm)

theorem State.globalGo_frame (s : State) (reset : Bool) (g snap : Nat) (via : Option Side) (hm : Sub 1179648 M) (fr : Frame M s0 s) :
    FrameE M s0 (State.globalGo s reset g snap via) := by
  unfold State.globalGo
  repeat' (first
    | with_reducible intro _ | with_reducible assumption | with_reducible apply State.admitGlobal_frame
    | with_reducible apply State.modFab_frame | with_reducible apply State.emit_frame | with_reducible apply FrameE.ite
    | exact Sub.tr (show Sub _ 1179648 from rfl) hm | with_reducible exact FrameE.error | with_reducible apply FrameE.ok)

theorem State.takeGlobal_frame (s : State) (src : Nat) (m : GlobalMsg) (hm : Sub 1180160 M) (fr : Frame M s0 s) :
    Frame M s0 (State.takeGlobal s src m) := by
  unfold State.takeGlobal
  repeat' (first
    | with_reducible intro _ | with_reducible assumption | with_reducible apply State.admitGlobal_frame
    | with_reducible apply State.regErrAt_frame | with_reducible apply State.sendGo_frame
    | with_reducible apply State.modFab_frame | with_reducible apply State.emit_frame | with_reducible apply Frame.ite
    | exact Sub.tr (show Sub _ 1180160 from rfl) hm | split)

theorem globalPacket_frame (c : Instr) (src : Nat) (m : GlobalMsg) (s : State) (hm : Sub 1180162 M) (fr : Frame M s0 s) :
    Frame M s0 (globalPacket c src m s) := by
  unfold globalPacket
  repeat' (first
    | with_reducible intro _ | with_reducible assumption | with_reducible apply State.takeGlobal_frame
    | with_reducible apply State.stamped_frame | exact Sub.tr (show Sub _ 1180162 from rfl) hm)

theorem State.snapshot_frame (s : State) (hm : Sub 163840 M) (fr : Frame M s0 s) :
    Frame M s0 (State.snapshot s) := by
  unfold State.snapshot
  repeat' (first
    | with_reducible assumption | with_reducible apply State.modFab_frame | with_reducible apply State.log_frame
    | exact Sub.tr (show Sub _ 163840 from rfl) hm)

theorem State.globalReset_frame (s : State) (hm : Sub 204840 M) (fr : Frame M s0 s) :
    Frame M s0 (State.globalReset s) := by
  unfold State.globalReset
  repeat' (first
    | with_reducible intro _ | with_reducible assumption | with_reducible apply State.beginTeardown_frame
    | with_reducible apply State.advanceGen_frame | with_reducible apply State.modFence_frame
    | with_reducible apply State.comeBack_frame | with_reducible apply State.modFab_frame | with_reducible apply Frame.ite
    | exact Sub.tr (show Sub _ 204840 from rfl) hm | with_reducible apply Frame.foldl)

theorem State.globalStep_frame (s : State) (hm : Sub 1288232 M) (fr : Frame M s0 s) :
    Frame M s0 (State.globalStep s) := by
  unfold State.globalStep
  repeat' (first
    | with_reducible intro _ | with_reducible assumption | with_reducible apply State.globalReset_frame
    | with_reducible apply State.snapshot_frame | with_reducible apply State.modPlan_frame
    | with_reducible apply State.modFab_frame | with_reducible apply State.emit_frame | with_reducible apply Frame.ite
    | exact Sub.tr (show Sub _ 1288232 from rfl) hm | split)

theorem State.countStall_frame (s : State) (hm : Sub 2228224 M) (fr : Frame M s0 s) :
    Frame M s0 (State.countStall s) := by
  unfold State.countStall
  repeat' (first
    | with_reducible assumption | with_reducible apply State.modFab_frame | with_reducible apply State.free_frame
    | exact Sub.tr (show Sub _ 2228224 from rfl) hm)

theorem State.fabricTick_frame (s : State) (hm : Sub 3276802 M) (fr : Frame M s0 s) :
    Frame M s0 (State.fabricTick s) := by
  unfold State.fabricTick
  repeat' (first
    | with_reducible intro _ | with_reducible assumption | with_reducible apply State.countStall_frame
    | with_reducible apply State.modTime_frame | with_reducible apply State.modFab_frame | with_reducible apply State.emits_frame
    | with_reducible apply Frame.ite | exact Sub.tr (show Sub _ 3276802 from rfl) hm | split)

end Sys2Proof.Machine
end

