-- ==== Sys2Proof/Laws/FrameTrust.lean ====
section
/-! SUPPORT. Frame laws, one per operation (Sys2Proof/Laws/Frame.lean says what they state): trust, management and registers. -/

namespace Sys2Proof.Machine

variable {M : Nat} {s0 : State}

theorem State.spdmSay_frame (s : State) (path : SpdmPath) (session code : Nat) (body : List Byte) (hm : Sub 1048576 M) (fr : Frame M s0 s) :
    Frame M s0 (State.spdmSay s path session code body) := by
  unfold State.spdmSay
  repeat' (first
    | with_reducible assumption | with_reducible apply State.emit_frame)

theorem State.spdm_frame (s : State) (path : SpdmPath) (k : State → State) (hm : Sub 0 M) (hk : ∀ y0, Frame M s0 y0 → Frame M s0 (k y0)) (fr : Frame M s0 s) :
    Frame M s0 (State.spdm s path k) := by
  unfold State.spdm
  repeat' (first
    | with_reducible intro _ | with_reducible assumption | with_reducible apply hk | with_reducible apply Frame.ite)

theorem State.modSession_frame (s : State) (path : SpdmPath) (id : Nat) (f : Session → Option Session) (hm : Sub 32768 M) (fr : Frame M s0 s) :
    Frame M s0 (State.modSession s path id f) := by
  unfold State.modSession
  repeat' (first
    | with_reducible intro _ | with_reducible assumption | with_reducible apply State.modMgt_frame | exact Nat.le_refl _)

theorem State.inSession_frame (s : State) (path : SpdmPath) (id : Nat) (k : Session → State → State) (hm : Sub 1048576 M) (hk : ∀ y0 y1, Frame M s0 y1 → Frame M s0 (k y0 y1)) (fr : Frame M s0 s) :
    Frame M s0 (State.inSession s path id k) := by
  unfold State.inSession
  repeat' (first
    | with_reducible intro _ | with_reducible assumption | with_reducible apply State.spdmSay_frame
    | with_reducible apply State.spdm_frame | with_reducible apply hk | with_reducible apply Frame.ite
    | exact Sub.tr (show Sub _ 1048576 from rfl) hm | split)

theorem getVersion_frame (path : SpdmPath) (s : State) (hm : Sub 1048576 M) (fr : Frame M s0 s) :
    Frame M s0 (getVersion path s) := by
  unfold getVersion
  repeat' (first
    | with_reducible intro _ | with_reducible assumption | with_reducible apply State.spdmSay_frame
    | with_reducible apply State.spdm_frame | exact Sub.tr (show Sub _ 1048576 from rfl) hm)

theorem getCapabilities_frame (path : SpdmPath) (s : State) (hm : Sub 1048576 M) (fr : Frame M s0 s) :
    Frame M s0 (getCapabilities path s) := by
  unfold getCapabilities
  repeat' (first
    | with_reducible intro _ | with_reducible assumption | with_reducible apply State.spdmSay_frame
    | with_reducible apply State.spdm_frame | exact Sub.tr (show Sub _ 1048576 from rfl) hm)

theorem negotiate_frame (path : SpdmPath) (asked : Nat) (s : State) (hm : Sub 1048576 M) (fr : Frame M s0 s) :
    Frame M s0 (negotiate path asked s) := by
  unfold negotiate
  repeat' (first
    | with_reducible intro _ | with_reducible assumption | with_reducible apply State.spdmSay_frame
    | with_reducible apply State.spdm_frame | exact Sub.tr (show Sub _ 1048576 from rfl) hm)

theorem getDigests_frame (path : SpdmPath) (s : State) (hm : Sub 1048576 M) (fr : Frame M s0 s) :
    Frame M s0 (getDigests path s) := by
  unfold getDigests
  repeat' (first
    | with_reducible intro _ | with_reducible assumption | with_reducible apply State.spdmSay_frame
    | with_reducible apply State.spdm_frame | exact Sub.tr (show Sub _ 1048576 from rfl) hm)

theorem getCertificate_frame (path : SpdmPath) (slot offset len : Nat) (s : State) (hm : Sub 1048576 M) (fr : Frame M s0 s) :
    Frame M s0 (getCertificate path slot offset len s) := by
  unfold getCertificate
  repeat' (first
    | with_reducible intro _ | with_reducible assumption | with_reducible apply State.spdmSay_frame
    | with_reducible apply State.spdm_frame | with_reducible apply Frame.ite | exact Sub.tr (show Sub _ 1048576 from rfl) hm)

theorem challenge_frame (path : SpdmPath) (slot : Nat) (nonce : List Byte) (s : State) (hm : Sub 1048576 M) (fr : Frame M s0 s) :
    Frame M s0 (challenge path slot nonce s) := by
  unfold challenge
  repeat' (first
    | with_reducible intro _ | with_reducible assumption | with_reducible apply State.spdmSay_frame
    | with_reducible apply State.spdm_frame | with_reducible apply Frame.ite | exact Sub.tr (show Sub _ 1048576 from rfl) hm)

theorem getMeasurements_frame (path : SpdmPath) (session : Option Nat) (index : Nat) (nonce : List Byte) (s : State) (hm : Sub 1048576 M) (fr : Frame M s0 s) :
    Frame M s0 (getMeasurements path session index nonce s) := by
  unfold getMeasurements
  repeat' (first
    | with_reducible intro _ | with_reducible assumption | with_reducible apply State.spdmSay_frame
    | with_reducible apply State.spdm_frame | exact Sub.tr (show Sub _ 1048576 from rfl) hm | split | dsimp only)

theorem keyExchange_frame (path : SpdmPath) (slot : Nat) (withAuth : Bool) (exchange : List Byte) (s : State) (hm : Sub 1081344 M) (fr : Frame M s0 s) :
    Frame M s0 (keyExchange path slot withAuth exchange s) := by
  unfold keyExchange
  repeat' (first
    | with_reducible intro _ | with_reducible assumption | with_reducible apply State.spdmSay_frame
    | with_reducible apply State.modMgt_frame | with_reducible apply State.spdm_frame | with_reducible apply Frame.ite
    | exact Sub.tr (show Sub _ 1081344 from rfl) hm | exact Nat.le_refl _)

theorem finish_frame (path : SpdmPath) (id : Nat) (key : Option (List Byte)) (s : State) (hm : Sub 1081344 M) (fr : Frame M s0 s) :
    Frame M s0 (finish path id key s) := by
  unfold finish
  repeat' (first
    | with_reducible intro _ | with_reducible assumption | with_reducible apply State.modSession_frame
    | with_reducible apply State.spdmSay_frame | with_reducible apply State.spdm_frame | with_reducible apply Frame.ite
    | exact Sub.tr (show Sub _ 1081344 from rfl) hm | split)

theorem heartbeat_frame (path : SpdmPath) (id : Nat) (s : State) (hm : Sub 1048576 M) (fr : Frame M s0 s) :
    Frame M s0 (heartbeat path id s) := by
  unfold heartbeat
  repeat' (first
    | with_reducible intro _ | with_reducible assumption | with_reducible apply State.inSession_frame
    | with_reducible apply State.spdmSay_frame)

theorem keyUpdate_frame (path : SpdmPath) (id : Nat) (s : State) (hm : Sub 1081344 M) (fr : Frame M s0 s) :
    Frame M s0 (keyUpdate path id s) := by
  unfold keyUpdate
  repeat' (first
    | with_reducible intro _ | with_reducible assumption | with_reducible apply State.modSession_frame
    | with_reducible apply State.inSession_frame | with_reducible apply State.spdmSay_frame
    | exact Sub.tr (show Sub _ 1081344 from rfl) hm)

theorem endSession_frame (path : SpdmPath) (id : Nat) (s : State) (hm : Sub 1081344 M) (fr : Frame M s0 s) :
    Frame M s0 (endSession path id s) := by
  unfold endSession
  repeat' (first
    | with_reducible intro _ | with_reducible assumption | with_reducible apply State.modSession_frame
    | with_reducible apply State.inSession_frame | with_reducible apply State.spdmSay_frame
    | exact Sub.tr (show Sub _ 1081344 from rfl) hm)

theorem spdmUnsupported_frame (path : SpdmPath) (code : Nat) (s : State) (hm : Sub 1048576 M) (fr : Frame M s0 s) :
    Frame M s0 (spdmUnsupported path code s) := by
  unfold spdmUnsupported
  repeat' (first
    | with_reducible intro _ | with_reducible assumption | with_reducible apply State.spdmSay_frame
    | with_reducible apply State.spdm_frame | exact Sub.tr (show Sub _ 1048576 from rfl) hm)

theorem State.setStream_frame (s : State) (p : Side) (n : Nat) (v : Stream) (hm : Sub 256 M) (fr : Frame M s0 s) :
    Frame M s0 (State.setStream s p n v) := by
  unfold State.setStream
  repeat' (first
    | with_reducible assumption | with_reducible apply State.modPort_frame)

theorem keyProg_frame (p : Side) (id n : Nat) (set : Bool) (s : State) (hm : Sub 1048832 M) (fr : Frame M s0 s) :
    Frame M s0 (keyProg p id n set s) := by
  unfold keyProg
  repeat' (first
    | with_reducible intro _ | with_reducible assumption | with_reducible apply State.inSession_frame
    | with_reducible apply State.setStream_frame | with_reducible apply State.spdmSay_frame
    | exact Sub.tr (show Sub _ 1048832 from rfl) hm)

theorem kSetGo_frame (p : Side) (id n : Nat) (set : Bool) (s : State) (hm : Sub 1048832 M) (fr : Frame M s0 s) :
    Frame M s0 (kSetGo p id n set s) := by
  unfold kSetGo
  repeat' (first
    | with_reducible intro _ | with_reducible assumption | with_reducible apply State.inSession_frame
    | with_reducible apply State.setStream_frame | with_reducible apply State.spdmSay_frame | with_reducible apply Frame.ite
    | exact Sub.tr (show Sub _ 1048832 from rfl) hm)

theorem kSetStop_frame (p : Side) (id n : Nat) (set : Bool) (s : State) (hm : Sub 1048832 M) (fr : Frame M s0 s) :
    Frame M s0 (kSetStop p id n set s) := by
  unfold kSetStop
  repeat' (first
    | with_reducible intro _ | with_reducible assumption | with_reducible apply State.inSession_frame
    | with_reducible apply State.setStream_frame | with_reducible apply State.spdmSay_frame
    | exact Sub.tr (show Sub _ 1048832 from rfl) hm)

theorem ideFailure_frame (p : Side) (n : Fin 8) (s : State) (hm : Sub 33610 M) (fr : Frame M s0 s) :
    Frame M s0 (ideFailure p n s) := by
  unfold ideFailure
  repeat' (first
    | with_reducible intro _ | with_reducible assumption | with_reducible apply State.stampedIf_frame
    | with_reducible apply State.setStream_frame | with_reducible apply State.tdiError_frame
    | exact Sub.tr (show Sub _ 33610 from rfl) hm | with_reducible apply Frame.foldl)

theorem State.tdisp_frame (s : State) (p : Side) (id vf : Nat) (k : Tdi → State → State) (hm : Sub 1048576 M) (hk : ∀ y0 y1, Frame M s0 y1 → Frame M s0 (k y0 y1)) (fr : Frame M s0 s) :
    Frame M s0 (State.tdisp s p id vf k) := by
  unfold State.tdisp
  repeat' (first
    | with_reducible intro _ | with_reducible assumption | with_reducible apply State.inSession_frame
    | with_reducible apply State.spdmSay_frame | with_reducible apply hk | with_reducible apply Frame.ite)

theorem lockInterface_frame (p : Side) (id vf n : Nat) (s : State) (hm : Sub 1081600 M) (fr : Frame M s0 s) :
    Frame M s0 (lockInterface p id vf n s) := by
  unfold lockInterface
  repeat' (first
    | with_reducible intro _ | with_reducible assumption | with_reducible apply State.spdmSay_frame
    | with_reducible apply State.tdiLog_frame | with_reducible apply State.setTdi_frame | with_reducible apply State.tdisp_frame
    | with_reducible apply Frame.ite | exact Sub.tr (show Sub _ 1081600 from rfl) hm)

theorem startInterface_frame (p : Side) (id vf : Nat) (s : State) (hm : Sub 1081600 M) (fr : Frame M s0 s) :
    Frame M s0 (startInterface p id vf s) := by
  unfold startInterface
  repeat' (first
    | with_reducible intro _ | with_reducible assumption | with_reducible apply State.spdmSay_frame
    | with_reducible apply State.tdiLog_frame | with_reducible apply State.setTdi_frame | with_reducible apply State.tdisp_frame
    | with_reducible apply Frame.ite | exact Sub.tr (show Sub _ 1081600 from rfl) hm)

theorem stopInterface_frame (p : Side) (id vf : Nat) (s : State) (hm : Sub 1082112 M) (fr : Frame M s0 s) :
    Frame M s0 (stopInterface p id vf s) := by
  unfold stopInterface
  repeat' (first
    | with_reducible intro _ | with_reducible assumption | with_reducible apply State.modFunc_frame
    | with_reducible apply State.spdmSay_frame | with_reducible apply State.tdiLog_frame | with_reducible apply State.setTdi_frame
    | with_reducible apply State.tdisp_frame | with_reducible apply Frame.ite | exact Sub.tr (show Sub _ 1082112 from rfl) hm)

theorem interfaceReport_frame (p : Side) (id vf : Nat) (s : State) (hm : Sub 1048576 M) (fr : Frame M s0 s) :
    Frame M s0 (interfaceReport p id vf s) := by
  unfold interfaceReport
  repeat' (first
    | with_reducible intro _ | with_reducible assumption | with_reducible apply State.spdmSay_frame
    | with_reducible apply State.tdisp_frame)

theorem tdiViolation_frame (p : Side) (vf : Fin 128) (space : Fin 4) (offset : Nat) (s : State) (hm : Sub 33610 M) (fr : Frame M s0 s) :
    Frame M s0 (tdiViolation p vf space offset s) := by
  unfold tdiViolation
  repeat' (first
    | with_reducible intro _ | with_reducible assumption | with_reducible apply State.tdiError_frame
    | with_reducible apply State.regErrAt_frame | with_reducible apply State.stamped_frame | with_reducible apply Frame.ite
    | exact Sub.tr (show Sub _ 33610 from rfl) hm)

theorem State.mgtSay_frame (s : State) (r : MgtReq) (code : Nat) (body : List Byte) (hm : Sub 1048576 M) (fr : Frame M s0 s) :
    Frame M s0 (State.mgtSay s r code body) := by
  unfold State.mgtSay
  repeat' (first
    | with_reducible assumption | with_reducible apply State.emit_frame)

theorem mgtRequest_frame (c : Instr) (r : MgtReq) (op role : Nat) (dagger : Option (List Nat)) (check : Session → State → Nat) (s : State) (k : Session → State → State) (hm : Sub 1081346 M) (hk : ∀ y0 y1, Frame M s0 y1 → Frame M s0 (k y0 y1)) (fr : Frame M s0 s) :
    Frame M s0 (mgtRequest c r op role dagger check s k) := by
  unfold mgtRequest
  repeat' (first
    | with_reducible intro _ | with_reducible assumption | with_reducible apply State.measExtend_frame
    | with_reducible apply State.stamped_frame | with_reducible apply State.mgtSay_frame | with_reducible apply State.log_frame
    | with_reducible apply hk | with_reducible apply Frame.ite | exact Sub.tr (show Sub _ 1081346 from rfl) hm | split)

theorem logRead_frame (c : Instr) (r : MgtReq) (index count : Nat) (s : State) (hm : Sub 1081346 M) (fr : Frame M s0 s) :
    Frame M s0 (logRead c r index count s) := by
  unfold logRead
  repeat' (first
    | with_reducible intro _ | with_reducible assumption | with_reducible apply State.mgtSay_frame
    | with_reducible apply mgtRequest_frame | exact Sub.tr (show Sub _ 1081346 from rfl) hm)

theorem sensorRead_frame (c : Instr) (r : MgtReq) (s : State) (hm : Sub 1081346 M) (fr : Frame M s0 s) :
    Frame M s0 (sensorRead c r s) := by
  unfold sensorRead
  repeat' (first
    | with_reducible intro _ | with_reducible assumption | with_reducible apply State.mgtSay_frame
    | with_reducible apply mgtRequest_frame | exact Sub.tr (show Sub _ 1081346 from rfl) hm)

theorem flashErase_frame (c : Instr) (r : MgtReq) (offset count : Nat) (s : State) (hm : Sub 1081346 M) (fr : Frame M s0 s) :
    Frame M s0 (flashErase c r offset count s) := by
  unfold flashErase
  repeat' (first
    | with_reducible intro _ | with_reducible assumption | with_reducible apply State.mgtSay_frame
    | with_reducible apply State.modMgt_frame | with_reducible apply mgtRequest_frame
    | exact Sub.tr (show Sub _ 1081346 from rfl) hm | exact Nat.le_refl _)

theorem flashProgram_frame (c : Instr) (r : MgtReq) (offset : Nat) (data : List Byte) (s : State) (hm : Sub 1081346 M) (fr : Frame M s0 s) :
    Frame M s0 (flashProgram c r offset data s) := by
  unfold flashProgram
  repeat' (first
    | with_reducible intro _ | with_reducible assumption | with_reducible apply State.flashWrite_frame
    | with_reducible apply State.mgtSay_frame | with_reducible apply State.modMgt_frame | with_reducible apply mgtRequest_frame
    | exact Sub.tr (show Sub _ 1081346 from rfl) hm | exact Nat.le_refl _)

theorem flashFetch_frame (c : Instr) (r : MgtReq) (offset len : Nat) (s : State) (hm : Sub 1081346 M) (fr : Frame M s0 s) :
    Frame M s0 (flashFetch c r offset len s) := by
  unfold flashFetch
  repeat' (first
    | with_reducible intro _ | with_reducible assumption | with_reducible apply State.mgtSay_frame
    | with_reducible apply mgtRequest_frame | exact Sub.tr (show Sub _ 1081346 from rfl) hm)

theorem fwLoad_frame (c : Instr) (r : MgtReq) (t : Side) (s : State) (hm : Sub 1081350 M) (fr : Frame M s0 s) :
    Frame M s0 (fwLoad c r t s) := by
  unfold fwLoad
  repeat' (first
    | with_reducible intro _ | with_reducible assumption | with_reducible apply State.modTwin_frame
    | with_reducible apply State.mgtSay_frame | with_reducible apply mgtRequest_frame
    | exact Sub.tr (show Sub _ 1081350 from rfl) hm | with_reducible exact rfl)

theorem fwRestore_frame (c : Instr) (r : MgtReq) (t : Side) (s : State) (hm : Sub 1081346 M) (fr : Frame M s0 s) :
    Frame M s0 (fwRestore c r t s) := by
  unfold fwRestore
  repeat' (first
    | with_reducible intro _ | with_reducible assumption | with_reducible apply State.flashWrite_frame
    | with_reducible apply State.modMgt_frame | with_reducible apply mgtRequest_frame
    | exact Sub.tr (show Sub _ 1081346 from rfl) hm | exact Nat.le_refl _)

theorem imageWriteDone_frame (s : State) (hm : Sub 1081344 M) (fr : Frame M s0 s) :
    Frame M s0 (imageWriteDone s) := by
  unfold imageWriteDone
  repeat' (first
    | with_reducible intro _ | with_reducible assumption | with_reducible apply State.modMgt_frame
    | with_reducible apply State.mgtSay_frame | exact Sub.tr (show Sub _ 1081344 from rfl) hm | exact Nat.le_refl _ | split)

theorem State.touched_frame (s : State) (l : List Nat) (op stamp : Nat) (hm : Sub 32776 M) (fr : Frame M s0 s) :
    Frame M s0 (State.touched s l op stamp) := by
  unfold State.touched
  repeat' (first
    | with_reducible intro _ | with_reducible assumption | with_reducible apply State.observe_frame
    | with_reducible apply Frame.foldl)

theorem debugServeRead_frame (c : Instr) (r : MgtReq) (a n : Nat) (s : State) (hm : Sub 1114112 M) (fr : Frame M s0 s) :
    Frame M s0 (debugServeRead c r a n s) := by
  unfold debugServeRead
  repeat' (first
    | with_reducible intro _ | with_reducible assumption | with_reducible apply State.uncached_frame
    | with_reducible apply State.mgtSay_frame | exact Sub.tr (show Sub _ 1114112 from rfl) hm)

theorem debugRead_frame (c : Instr) (r : MgtReq) (a n : Nat) (s : State) (hm : Sub 1146890 M) (fr : Frame M s0 s) :
    Frame M s0 (debugRead c r a n s) := by
  unfold debugRead
  repeat' (first
    | with_reducible intro _ | with_reducible assumption | with_reducible apply debugServeRead_frame
    | with_reducible apply State.touched_frame | with_reducible apply mgtRequest_frame
    | exact Sub.tr (show Sub _ 1146890 from rfl) hm)

theorem debugServeWrite_frame (c : Instr) (r : MgtReq) (a : Nat) (data : List Byte) (s : State) (hm : Sub 1376272 M) (fr : Frame M s0 s) :
    Frame M s0 (debugServeWrite c r a data s) := by
  unfold debugServeWrite
  repeat' (first
    | with_reducible intro _ | with_reducible assumption | with_reducible apply State.uncached_frame
    | with_reducible apply State.disturb_frame | with_reducible apply State.mgtSay_frame | with_reducible apply State.setMem_frame
    | with_reducible apply Mem.store_wf | exact Sub.tr (show Sub _ 1376272 from rfl) hm
    | with_reducible refine Frame.wf (m := M) (s := s0) ?_ (by assumption))

theorem debugWrite_frame (c : Instr) (r : MgtReq) (a : Nat) (data : List Byte) (s : State) (hm : Sub 1409050 M) (fr : Frame M s0 s) :
    Frame M s0 (debugWrite c r a data s) := by
  unfold debugWrite
  repeat' (first
    | with_reducible intro _ | with_reducible assumption | with_reducible apply debugServeWrite_frame
    | with_reducible apply State.touched_frame | with_reducible apply mgtRequest_frame
    | exact Sub.tr (show Sub _ 1409050 from rfl) hm)

theorem ccHalt_frame (c : Instr) (r : MgtReq) (t : Side) (core : Nat) (act : CcAct) (s : State) (hm : Sub 1081358 M) (fr : Frame M s0 s) :
    Frame M s0 (ccHalt c r t core act s) := by
  unfold ccHalt
  repeat' (first
    | with_reducible intro _ | with_reducible assumption | with_reducible apply State.touched_frame
    | with_reducible apply State.modTwin_frame | with_reducible apply State.mgtSay_frame | with_reducible apply mgtRequest_frame
    | with_reducible apply Frame.ite | exact Sub.tr (show Sub _ 1081358 from rfl) hm | with_reducible exact rfl | split)

theorem credSet_frame (c : Instr) (r : MgtReq) (slot : Nat) (hash : List Byte) (roles : Nat) (s : State) (hm : Sub 1081346 M) (fr : Frame M s0 s) :
    Frame M s0 (credSet c r slot hash roles s) := by
  unfold credSet
  repeat' (first
    | with_reducible intro _ | with_reducible assumption | with_reducible apply State.flashWrite_frame
    | with_reducible apply State.measSet_frame | with_reducible apply State.modMgt_frame | with_reducible apply State.mgtSay_frame
    | with_reducible apply mgtRequest_frame | exact Sub.tr (show Sub _ 1081346 from rfl) hm | exact Nat.le_refl _)

theorem State.fuseMeas_frame (s : State) (hm : Sub 32768 M) (fr : Frame M s0 s) :
    Frame M s0 (State.fuseMeas s) := by
  unfold State.fuseMeas
  repeat' (first
    | with_reducible assumption | with_reducible apply State.measSet_frame)

theorem credLock_frame (c : Instr) (r : MgtReq) (s : State) (hm : Sub 1081346 M) (fr : Frame M s0 s) :
    Frame M s0 (credLock c r s) := by
  unfold credLock
  repeat' (first
    | with_reducible intro _ | with_reducible assumption | with_reducible apply State.fuseMeas_frame
    | with_reducible apply State.mgtSay_frame | with_reducible apply State.modMgt_frame | with_reducible apply mgtRequest_frame
    | exact Sub.tr (show Sub _ 1081346 from rfl) hm | exact Nat.le_refl _ | with_reducible exact rfl)

theorem svnRaise_frame (c : Instr) (r : MgtReq) (svn : Nat) (s : State) (hm : Sub 1081346 M) (fr : Frame M s0 s) :
    Frame M s0 (svnRaise c r svn s) := by
  unfold svnRaise
  repeat' (first
    | exact Nat.le_max_left _ _ | with_reducible intro _ | with_reducible assumption | with_reducible apply State.fuseMeas_frame
    | with_reducible apply State.mgtSay_frame | with_reducible apply State.modMgt_frame | with_reducible apply mgtRequest_frame
    | exact Sub.tr (show Sub _ 1081346 from rfl) hm)

theorem measExtend_frame (c : Instr) (r : MgtReq) (slot : Nat) (d : List Byte) (s : State) (hm : Sub 1081346 M) (fr : Frame M s0 s) :
    Frame M s0 (measExtend c r slot d s) := by
  unfold measExtend
  repeat' (first
    | with_reducible intro _ | with_reducible assumption | with_reducible apply State.measExtend_frame
    | with_reducible apply State.mgtSay_frame | with_reducible apply mgtRequest_frame
    | exact Sub.tr (show Sub _ 1081346 from rfl) hm)

theorem State.sample1_frame (s : State) (i v : Nat) (hm : Sub 41984 M) (fr : Frame M s0 s) :
    Frame M s0 (State.sample1 s i v) := by
  unfold State.sample1
  repeat' (first
    | with_reducible intro _ | with_reducible assumption | with_reducible apply State.modMgt_frame
    | with_reducible apply State.chip_frame | with_reducible apply State.log_frame | with_reducible apply Frame.ite
    | exact Sub.tr (show Sub _ 41984 from rfl) hm | exact Nat.le_refl _)

theorem sensorSample_frame (values : List Nat) (s : State) (hm : Sub 41984 M) (fr : Frame M s0 s) :
    Frame M s0 (sensorSample values s) := by
  unfold sensorSample
  repeat' (first
    | with_reducible intro _ | with_reducible assumption | with_reducible apply State.sample1_frame
    | with_reducible apply Frame.ite | with_reducible apply Frame.foldl)

theorem logMirrorWrite_frame (s : State) (hm : Sub 32768 M) (fr : Frame M s0 s) :
    Frame M s0 (logMirrorWrite s) := by
  unfold logMirrorWrite
  repeat' (first
    | with_reducible intro _ | with_reducible assumption | with_reducible apply State.flashWrite_frame
    | with_reducible apply State.modMgt_frame | with_reducible apply State.log_frame | with_reducible apply Frame.ite
    | exact Nat.le_refl _)

theorem State.setSel_frame (s : State) (path : Path) (r : Reg) (v : Nat) (hm : Sub 524288 M) (fr : Frame M s0 s) :
    Frame M s0 (State.setSel s path r v) := by
  exact Frame.set_sels (s := s) hm fr

theorem State.sampleRead_frame (s : State) (path : Path) (hm : Sub 2654216 M) (fr : Frame M s0 s) :
    Frame M s0 (State.sampleRead s path).2 := by
  unfold State.sampleRead
  repeat' (first
    | with_reducible assumption | with_reducible apply State.sampleSeen_frame | with_reducible apply State.sampleWord_frame
    | with_reducible apply State.setSel_frame | exact Sub.tr (show Sub _ 2654216 from rfl) hm)

theorem State.clkStatusRead_frame (s : State) (hm : Sub 16384 M) (fr : Frame M s0 s) :
    Frame M s0 (State.clkStatusRead s).2 := by
  unfold State.clkStatusRead
  repeat' (first
    | with_reducible assumption | with_reducible apply State.modClk_frame)

theorem State.readReg_frame (s : State) (path : Path) (a3 : Reg) (hm : Sub 2670600 M) (fr : Frame M s0 s) :
    Frame M s0 (State.readReg s path a3).2 := by
  unfold State.readReg
  repeat' (first
    | with_reducible assumption | with_reducible apply State.clkStatusRead_frame | with_reducible apply State.sampleRead_frame
    | exact Sub.tr (show Sub _ 2670600 from rfl) hm | split)

theorem State.setQuery_frame (s : State) (path : Path) (w : Nat × Nat × Nat × Nat) (hm : Sub 524288 M) (fr : Frame M s0 s) :
    Frame M s0 (State.setQuery s path w) := by
  unfold State.setQuery
  repeat' (first
    | with_reducible assumption | with_reducible apply State.setSel_frame)

theorem State.selectQuery_frame (s : State) (path : Path) (v : Nat) (hm : Sub 557064 M) (fr : Frame M s0 s) :
    Frame M s0 (State.selectQuery s path v) := by
  unfold State.selectQuery
  repeat' (first
    | with_reducible intro _ | with_reducible assumption | with_reducible apply State.setQuery_frame
    | with_reducible apply State.observe_frame | with_reducible apply State.setSel_frame | with_reducible apply Frame.ite
    | exact Sub.tr (show Sub _ 557064 from rfl) hm | split | dsimp only)

theorem State.runProbe_frame (s : State) (path : Path) (v : Nat) (hm : Sub 557064 M) (fr : Frame M s0 s) :
    Frame M s0 (State.runProbe s path v) := by
  unfold State.runProbe
  repeat' (first
    | with_reducible intro _ | with_reducible assumption | with_reducible apply State.observe_frame
    | with_reducible apply State.setSel_frame | with_reducible apply Frame.ite | exact Sub.tr (show Sub _ 557064 from rfl) hm)

theorem State.writeFn_frame (s : State) (path : Path) (v : Nat) (a4 : Reg) (hm : Sub 1607560 M) (fr : Frame M s0 s) :
    FrameE M s0 (State.writeFn s path v a4) := by
  unfold State.writeFn
  repeat' (first
    | with_reducible intro _ | with_reducible assumption | with_reducible apply State.selectQuery_frame
    | with_reducible apply State.faultResp_frame | with_reducible apply State.runProbe_frame
    | with_reducible apply State.modFunc_frame | with_reducible apply State.setSel_frame | with_reducible apply State.modVec_frame
    | with_reducible apply irqAck_frame | with_reducible apply FrameE.ite | exact Sub.tr (show Sub _ 1607560 from rfl) hm
    | with_reducible apply FrameE.ok | split)

theorem when__frame (b : Bool) (k : State → Except Nat State) (s : State) (hm : Sub 0 M) (hk : ∀ y0, Frame M s0 y0 → FrameE M s0 (k y0)) (fr : Frame M s0 s) :
    FrameE M s0 (when_ b k s) := by
  unfold when_
  repeat' (first
    | with_reducible intro _ | with_reducible assumption | with_reducible apply hk | with_reducible apply FrameE.ite
    | with_reducible apply FrameE.ok)

theorem andThen_frame (x : Except Nat State) (k : State → Except Nat State) (hx : FrameE M s0 x)
    (hk : ∀ s, Frame M s0 s → FrameE M s0 (k s)) : FrameE M s0 (andThen x k) := by
  cases x with
  | error c => exact FrameE.error
  | ok t => exact hk t hx.out

theorem State.writePort_frame (s : State) (path : Path) (v : Nat) (a4 : Reg) (hm : Sub 524560 M) (fr : Frame M s0 s) :
    FrameE M s0 (State.writePort s path v a4) := by
  unfold State.writePort
  repeat' (first
    | with_reducible intro _ | with_reducible assumption | with_reducible apply State.placeCommit_frame
    | with_reducible apply State.placeClear_frame | with_reducible apply State.modQueue_frame
    | with_reducible apply State.modPort_frame | with_reducible apply State.setSel_frame | with_reducible apply andThen_frame
    | with_reducible apply when__frame | with_reducible apply Frame.ite | with_reducible apply FrameE.ite
    | exact Sub.tr (show Sub _ 524560 from rfl) hm | with_reducible exact FrameE.error | with_reducible apply FrameE.ok | split)

theorem State.writeCore_frame (s : State) (path : Path) (v : Nat) (a4 : Reg) (hm : Sub 528514 M) (fr : Frame M s0 s) :
    FrameE M s0 (State.writeCore s path v a4) := by
  unfold State.writeCore
  repeat' (first
    | with_reducible intro _ | with_reducible assumption | with_reducible apply State.partCommit_frame
    | with_reducible apply State.modEngine_frame | with_reducible apply State.modTime_frame
    | with_reducible apply State.setSel_frame | with_reducible apply andThen_frame | with_reducible apply when__frame
    | with_reducible apply Frame.ite | exact Sub.tr (show Sub _ 528514 from rfl) hm | with_reducible apply FrameE.ok | split)

theorem State.bankCommit_frame (s : State) (slot v : Nat) (hm : Sub 65536 M) (fr : Frame M s0 s) :
    FrameE M s0 (State.bankCommit s slot v) := by
  unfold State.bankCommit
  repeat' (first
    | with_reducible intro _ | with_reducible assumption | with_reducible apply State.modCoh_frame
    | with_reducible apply FrameE.ite | with_reducible exact FrameE.error | with_reducible apply FrameE.ok)

theorem State.domainCommit_frame (s : State) (i v : Nat) (hm : Sub 65536 M) (fr : Frame M s0 s) :
    FrameE M s0 (State.domainCommit s i v) := by
  unfold State.domainCommit
  repeat' (first
    | with_reducible intro _ | with_reducible assumption | with_reducible apply State.modCoh_frame
    | with_reducible apply FrameE.ite | with_reducible exact FrameE.error | with_reducible apply FrameE.ok)

theorem State.probeLine_frame (s : State) (path : Path) (v : Nat) (hm : Sub 557064 M) (fr : Frame M s0 s) :
    Frame M s0 (State.probeLine s path v) := by
  unfold State.probeLine
  repeat' (first
    | with_reducible assumption | with_reducible apply State.observe_frame | with_reducible apply State.setSel_frame
    | exact Sub.tr (show Sub _ 557064 from rfl) hm | split | dsimp only)

theorem State.writeCoh_frame (s : State) (path : Path) (v : Nat) (a4 : Reg) (hm : Sub 622600 M) (fr : Frame M s0 s) :
    FrameE M s0 (State.writeCoh s path v a4) := by
  unfold State.writeCoh
  repeat' (first
    | with_reducible intro _ | with_reducible assumption | with_reducible apply State.domainCommit_frame
    | with_reducible apply State.bankCommit_frame | with_reducible apply State.probeLine_frame
    | with_reducible apply State.modCoh_frame | with_reducible apply State.setSel_frame | with_reducible apply andThen_frame
    | with_reducible apply when__frame | with_reducible apply Frame.ite | with_reducible apply FrameE.ite
    | exact Sub.tr (show Sub _ 622600 from rfl) hm | with_reducible apply FrameE.ok | split)

theorem unless__frame (b : Bool) (x : Except Nat State) (hx : FrameE M s0 x) : FrameE M s0 (unless_ b x) := by
  unfold unless_
  split
  · exact FrameE.error
  · exact hx

theorem State.writeGrants_frame (s : State) (path : Path) (v : Nat) (a4 : Reg) (hm : Sub 1703968 M) (fr : Frame M s0 s) :
    FrameE M s0 (State.writeGrants s path v a4) := by
  unfold State.writeGrants
  repeat' (first
    | with_reducible intro _ | with_reducible assumption | with_reducible apply State.grantCommit_frame
    | with_reducible apply State.proxyUnbind_frame | with_reducible apply State.groupCommit_frame
    | with_reducible apply State.grantClear_frame | with_reducible apply State.groupClear_frame
    | with_reducible apply State.proxyBind_frame | with_reducible apply State.setSel_frame | with_reducible apply unless__frame
    | with_reducible apply andThen_frame | with_reducible apply when__frame | with_reducible apply Frame.ite
    | exact Sub.tr (show Sub _ 1703968 from rfl) hm | with_reducible apply FrameE.ok | split)

theorem State.writeFab_frame (s : State) (path : Path) (v : Nat) (a4 : Reg) (hm : Sub 1703968 M) (fr : Frame M s0 s) :
    FrameE M s0 (State.writeFab s path v a4) := by
  unfold State.writeFab
  repeat' (first
    | with_reducible intro _ | with_reducible assumption | with_reducible apply State.routeCommit_frame
    | with_reducible apply State.writeGrants_frame | with_reducible apply State.globalGo_frame
    | with_reducible apply State.modFab_frame | with_reducible apply State.setSel_frame | with_reducible apply State.repin_frame
    | with_reducible apply andThen_frame | with_reducible apply when__frame | with_reducible apply Frame.ite
    | exact Sub.tr (show Sub _ 1703968 from rfl) hm | with_reducible apply FrameE.ok | split)

theorem State.routeVec_frame (s : State) (f n w : Nat) (hm : Sub 1024 M) (fr : Frame M s0 s) :
    Frame M s0 (State.routeVec s f n w) := by
  unfold State.routeVec
  repeat' (first
    | with_reducible assumption | with_reducible apply State.modVec_frame)

theorem State.writeIrq_frame (s : State) (path : Path) (v : Nat) (a4 : Reg) (hm : Sub 533508 M) (fr : Frame M s0 s) :
    FrameE M s0 (State.writeIrq s path v a4) := by
  unfold State.writeIrq
  repeat' (first
    | with_reducible intro _ | with_reducible assumption | with_reducible apply State.standbyAsk_frame
    | with_reducible apply State.routeVec_frame | with_reducible apply State.modTwin_frame
    | with_reducible apply State.setSel_frame | with_reducible apply State.modIrq_frame | with_reducible apply State.modRst_frame
    | with_reducible apply State.fltAck_frame | with_reducible apply unless__frame | with_reducible apply andThen_frame
    | with_reducible apply when__frame | with_reducible apply Frame.ite | exact Sub.tr (show Sub _ 533508 from rfl) hm
    | with_reducible apply FrameE.ok | with_reducible exact rfl | split)

theorem State.twinCtl_frame (s : State) (mgmt : Bool) (v : Nat) (hm : Sub 58372 M) (fr : Frame M s0 s) :
    FrameE M s0 (State.twinCtl s mgmt v) := by
  unfold State.twinCtl
  repeat' (first
    | with_reducible intro _ | with_reducible assumption | with_reducible apply State.detachWithdraw_frame
    | with_reducible apply State.twinReturn_frame | with_reducible apply State.detachAsk_frame
    | with_reducible apply State.clearOos_frame | with_reducible apply State.modRst_frame | with_reducible apply FrameE.ite
    | exact Sub.tr (show Sub _ 58372 from rfl) hm | with_reducible exact FrameE.error | with_reducible apply FrameE.ok)

theorem State.writeRst_frame (s : State) (path : Path) (v : Nat) (a4 : Reg) (hm : Sub 582660 M) (fr : Frame M s0 s) :
    FrameE M s0 (State.writeRst s path v a4) := by
  unfold State.writeRst
  repeat' (first
    | with_reducible intro _ | with_reducible assumption | with_reducible apply State.cdReturn_frame
    | with_reducible apply State.twinCtl_frame | with_reducible apply State.cdReset_frame
    | with_reducible apply State.modRst_frame | with_reducible apply State.setSel_frame | with_reducible apply FrameE.ite
    | exact Sub.tr (show Sub _ 582660 from rfl) hm | with_reducible apply FrameE.ok | split)

theorem State.writeClk_frame (s : State) (path : Path) (v : Nat) (a4 : Reg) (hm : Sub 542724 M) (fr : Frame M s0 s) :
    FrameE M s0 (State.writeClk s path v a4) := by
  unfold State.writeClk
  repeat' (first
    | with_reducible intro _ | with_reducible assumption | with_reducible apply State.clkSrcWrite_frame
    | with_reducible apply State.gateWrite_frame | with_reducible apply State.modClk_frame
    | with_reducible apply State.setSel_frame | with_reducible apply State.fcntGo_frame | with_reducible apply State.bistGo_frame
    | with_reducible apply andThen_frame | with_reducible apply when__frame | with_reducible apply Frame.ite
    | exact Sub.tr (show Sub _ 542724 from rfl) hm | with_reducible apply FrameE.ok | split)

theorem State.writeMgt_frame (s : State) (path : Path) (v : Nat) (a4 : Reg) (hm : Sub 559104 M) (fr : Frame M s0 s) :
    FrameE M s0 (State.writeMgt s path v a4) := by
  unfold State.writeMgt
  repeat' (first
    | with_reducible intro _ | with_reducible assumption | with_reducible apply State.modPlan_frame
    | with_reducible apply State.setSel_frame | with_reducible apply State.modMgt_frame | with_reducible apply Frame.ite
    | exact Sub.tr (show Sub _ 559104 from rfl) hm | with_reducible apply FrameE.ok | exact Nat.le_refl _ | split)

theorem State.pokeReg_frame (s : State) (path : Path) (v : Nat) (r : Reg) (hm : Sub 1834942 M) (fr : Frame M s0 s) :
    FrameE M s0 (State.pokeReg s path v r) := by
  unfold State.pokeReg
  repeat' (first
    | with_reducible intro _ | with_reducible assumption | with_reducible apply State.writePort_frame
    | with_reducible apply State.writeCore_frame | with_reducible apply State.writeCoh_frame
    | with_reducible apply State.writeFab_frame | with_reducible apply State.writeIrq_frame
    | with_reducible apply State.writeRst_frame | with_reducible apply State.writeClk_frame
    | with_reducible apply State.writeMgt_frame | with_reducible apply State.writeFn_frame | with_reducible apply FrameE.ite
    | exact Sub.tr (show Sub _ 1834942 from rfl) hm)

theorem State.writeReg_frame (s : State) (path : Path) (r : Reg) (v : Nat) (hm : Sub 1834942 M) (fr : Frame M s0 s) :
    FrameE M s0 (State.writeReg s path r v) := by
  unfold State.writeReg
  repeat' (first
    | with_reducible intro _ | with_reducible assumption | with_reducible apply State.pokeReg_frame
    | with_reducible apply FrameE.ite | with_reducible exact FrameE.error)

theorem State.writeAt_frame (s : State) (path : Path) (offset v : Nat) (hm : Sub 1834942 M) (fr : Frame M s0 s) :
    FrameE M s0 (State.writeAt s path offset v) := by
  unfold State.writeAt
  repeat' (first
    | with_reducible intro _ | with_reducible assumption | with_reducible apply State.writeReg_frame
    | with_reducible apply State.modFunc_frame | with_reducible apply FrameE.ite | exact Sub.tr (show Sub _ 1834942 from rfl) hm
    | with_reducible exact FrameE.error | with_reducible apply FrameE.ok | split)

theorem State.violation_frame (s : State) (path : Path) (offset st : Nat) (hm : Sub 33608 M) (fr : Frame M s0 s) :
    Frame M s0 (State.violation s path offset st) := by
  unfold State.violation
  repeat' (first
    | with_reducible assumption | with_reducible apply State.tdiError_frame | with_reducible apply State.regErr_frame
    | exact Sub.tr (show Sub _ 33608 from rfl) hm | split)

theorem writeRegister_frame (path : Path) (offset : Nat) (value : Word) (poisoned : Bool) (s : State) (hm : Sub 1835006 M) (fr : Frame M s0 s) :
    Frame M s0 (writeRegister path offset value poisoned s) := by
  unfold writeRegister
  repeat' (first
    | with_reducible intro _ | with_reducible assumption | with_reducible apply State.aerPoison_frame
    | with_reducible apply State.violation_frame | with_reducible apply State.stamped_frame
    | with_reducible apply State.writeAt_frame | with_reducible apply State.regErr_frame | with_reducible apply State.inta_frame
    | with_reducible apply Frame.ite | exact Sub.tr (show Sub _ 1835006 from rfl) hm
    | with_reducible refine Frame.of_ok (by assumption) ?_ | split)

theorem writeArrives_frame (path : Path) (offset : Nat) (value : Word) (poisoned : Bool) (s : State) (hm : Sub 1835006 M) (fr : Frame M s0 s) :
    Frame M s0 (writeArrives path offset value poisoned s) := by
  unfold writeArrives
  repeat' (first
    | with_reducible intro _ | with_reducible assumption | with_reducible apply State.inOrderAt_frame
    | with_reducible apply writeRegister_frame | exact Sub.tr (show Sub _ 1835006 from rfl) hm)

theorem writeNamed_frame (path : Path) (r : Reg) (value : Word) (s : State) (hm : Sub 1835006 M) (fr : Frame M s0 s) :
    Frame M s0 (writeNamed path r value s) := by
  unfold writeNamed
  repeat' (first
    | with_reducible assumption | with_reducible apply writeArrives_frame)

theorem State.readAt_frame (s : State) (path : Path) (offset : Nat) (hm : Sub 2670600 M) (fr : Frame M s0 s) :
    Frame M s0 (State.readAt s path offset).2 := by
  unfold State.readAt
  repeat' (first
    | with_reducible assumption | with_reducible apply State.readReg_frame | split)

theorem badAccess_frame (path : Path) (offset width : Nat) (isWrite : Bool) (s : State) (hm : Sub 3720010 M) (fr : Frame M s0 s) :
    Frame M s0 (badAccess path offset width isWrite s) := by
  unfold badAccess
  repeat' (first
    | with_reducible intro _ | with_reducible assumption | with_reducible apply State.violation_frame
    | with_reducible apply State.stamped_frame | with_reducible apply State.regErr_frame | with_reducible apply State.readAt_frame
    | with_reducible apply State.emit_frame | with_reducible apply Frame.ite | exact Sub.tr (show Sub _ 3720010 from rfl) hm)

theorem accessArrives_frame (path : Path) (offset width : Nat) (isWrite : Bool) (s : State) (hm : Sub 3720010 M) (fr : Frame M s0 s) :
    Frame M s0 (accessArrives path offset width isWrite s) := by
  unfold accessArrives
  repeat' (first
    | with_reducible intro _ | with_reducible assumption | with_reducible apply State.inOrderAt_frame
    | with_reducible apply badAccess_frame | exact Sub.tr (show Sub _ 3720010 from rfl) hm)

theorem readNamed_frame (path : Path) (r : Reg) (s : State) (hm : Sub 3720010 M) (fr : Frame M s0 s) :
    Frame M s0 (readNamed path r s) := by
  unfold readNamed
  repeat' (first
    | with_reducible assumption | with_reducible apply accessArrives_frame)

theorem mgtRead_frame (c : Instr) (r : MgtReq) (side : Side) (offset : Nat) (s : State) (hm : Sub 3719178 M) (fr : Frame M s0 s) :
    Frame M s0 (mgtRead c r side offset s) := by
  unfold mgtRead
  repeat' (first
    | with_reducible intro _ | with_reducible assumption | with_reducible apply State.readAt_frame
    | with_reducible apply State.mgtSay_frame | with_reducible apply mgtRequest_frame
    | exact Sub.tr (show Sub _ 3719178 from rfl) hm)

theorem mgtWrite_frame (c : Instr) (r : MgtReq) (side : Side) (offset : Nat) (value : Word) (s : State) (hm : Sub 1834942 M) (fr : Frame M s0 s) :
    Frame M s0 (mgtWrite c r side offset value s) := by
  unfold mgtWrite
  repeat' (first
    | with_reducible intro _ | with_reducible assumption | with_reducible apply State.writeAt_frame
    | with_reducible apply State.mgtSay_frame | with_reducible apply mgtRequest_frame | with_reducible apply State.inta_frame
    | exact Sub.tr (show Sub _ 1834942 from rfl) hm | with_reducible refine Frame.of_ok (by assumption) ?_ | split)

theorem clearOosCmd_frame (c : Instr) (req : Option MgtReq) (path : Path) (value : Word) (s : State) (hm : Sub 1835006 M) (fr : Frame M s0 s) :
    Frame M s0 (clearOosCmd c req path value s) := by
  unfold clearOosCmd
  repeat' (first
    | with_reducible intro _ | with_reducible assumption | with_reducible apply State.clearOosNow_frame
    | with_reducible apply State.mgtSay_frame | with_reducible apply writeNamed_frame | with_reducible apply mgtRequest_frame
    | exact Sub.tr (show Sub _ 1835006 from rfl) hm | split)

end Sys2Proof.Machine
end

