-- ==== Sys2Proof/Laws/Tables.lean ====
section
/-! SUPPORT. Tables, bits, bounded lists and the free places of a table. -/

namespace Sys2Proof.Laws

open Sys2Proof Sys2Proof.Machine

set_option maxRecDepth 8000

/-- What has been put is read back. -/
theorem tbl_get_put {α : Type} (d : α) (t : Tbl α) (i : Nat) (v : α) : Tbl.get d (Tbl.put t i v) i = v := by
  unfold Tbl.get; rw [Tbl.find_put_same]; rfl

/-- What has been set is read back where it is not the default. -/
theorem tbl_get_set_ne {α : Type} [DecidableEq α] (d : α) (t : Tbl α) (i : Nat) (v : α) (h : v ≠ d) : Tbl.get d (Tbl.set d t i v) i = v := by
  unfold Tbl.set; rw [if_neg h, tbl_get_put]

/-- A number with one bit set, by division. -/
theorem setBit_eq (v n : Nat) (b : Bool) : setBit v n b = 2 ^ n * (2 * (v / 2 ^ n / 2) + bit b) + v % 2 ^ n := by
  have hb : bit (v.testBit n) = v / 2 ^ n % 2 := by
    rw [Nat.testBit_eq_decide_div_mod_eq]
    unfold bit
    have := Nat.mod_two_eq_zero_or_one (v / 2 ^ n)
    rcases this with h | h <;> simp [h]
  have hv := Nat.div_add_mod v (2 ^ n)
  have hk := Nat.div_add_mod (v / 2 ^ n) 2
  unfold setBit
  rw [hb]
  generalize v / 2 ^ n / 2 = q at *
  generalize v / 2 ^ n % 2 = c at *
  generalize v / 2 ^ n = k at *
  generalize v % 2 ^ n = r at *
  generalize 2 ^ n = P at *
  subst hk
  subst hv
  rw [Nat.mul_add, Nat.mul_add, Nat.mul_comm P c, Nat.mul_comm P (bit b)]
  omega

/-- The bit that has been set. -/
theorem tst_setBit (v n : Nat) (b : Bool) : tst (setBit v n b) n = b := by
  unfold tst
  rw [setBit_eq, Nat.testBit_two_pow_mul_add _ (Nat.mod_lt _ (Nat.two_pow_pos n))]
  cases b <;> simp [bit]

/-- The other bits stay. -/
theorem tst_setBit_other (v n m : Nat) (b : Bool) (h : m ≠ n) : tst (setBit v n b) m = tst v m := by
  unfold tst
  have hv := Nat.div_add_mod v (2 ^ n)
  have hk := Nat.div_add_mod (v / 2 ^ n) 2
  have lt := Nat.mod_lt v (Nat.two_pow_pos n)
  rw [setBit_eq, Nat.testBit_two_pow_mul_add _ lt]
  conv => rhs; rw [← hv, Nat.testBit_two_pow_mul_add _ lt, ← hk]
  split
  · rfl
  · have : ∃ j, m - n = j + 1 := ⟨m - n - 1, by omega⟩
    obtain ⟨j, e⟩ := this
    rw [e, Nat.testBit_succ, Nat.testBit_succ]
    congr 1
    have := Nat.mod_lt (v / 2 ^ n) (y := 2) (by omega)
    have : bit b < 2 := by cases b <;> decide
    omega

/-- A full table has no free place. -/
theorem nextFree_full (used : Nat → Bool) (b : Nat) (hb : 0 < b) (h : ∀ i < b, used i = true) : ∀ n i, nextFree used b n i = none := by
  intro n
  induction n with
  | zero => intro i; rfl
  | succ n ih => intro i; unfold nextFree; simp [h _ (Nat.mod_lt _ hb), ih]

/-- What is added to a bounded list is in it. -/
theorem addBounded_last {α : Type} (p : α → Bool) (n : Nat) (l : List α) (x : α) (h : 0 < n) : x ∈ addBounded p n l x := by
  unfold addBounded
  rw [if_neg (by omega)]
  split <;> simp

/-- An inserted number is in the list. -/
theorem mem_insertNat_self (i : Nat) : ∀ l, i ∈ insertNat i l := by
  intro l
  induction l with
  | nil => simp [insertNat]
  | cons k t ih =>
    unfold insertNat
    split
    · simp [*]
    · split
      · simp
      · simp [ih]

/-- What was in the list stays. -/
theorem mem_insertNat_of {i x : Nat} : ∀ {l : List Nat}, x ∈ l → x ∈ insertNat i l := by
  intro l
  induction l with
  | nil => intro h; cases h
  | cons k t ih =>
    intro h
    unfold insertNat
    split
    · exact h
    · split
      · exact List.mem_cons_of_mem _ h
      · rcases List.mem_cons.1 h with rfl | h
        · simp
        · exact List.mem_cons_of_mem _ (ih h)

end Sys2Proof.Laws
end

