-- ==== Sys2Proof/Laws/Commands.lean ====
section
/-! SUPPORT. Commands of a ring: their places in a queue, and what beginning one leads to. -/

namespace Sys2Proof.Laws

open Sys2Proof Sys2Proof.Machine

set_option maxRecDepth 8000

/-- A queue that holds commands is read back. -/
theorem setQueue_queue (s : State) (n : Nat) (q : Queue) (h : q.cmds ≠ []) : (s.setQueue n q).queue n = q := by
  unfold State.setQueue State.queue
  exact tbl_get_set_ne _ _ _ _ (fun e => h (by rw [e]; rfl))

/-- A queue that holds ended slots is read back. -/
theorem setQueue_ended (s : State) (n : Nat) (q : Queue) (h : q.ended ≠ []) : (s.setQueue n q).queue n = q := by
  unfold State.setQueue State.queue
  exact tbl_get_set_ne _ _ _ _ (fun e => h (by rw [e]; rfl))

/-- A queue after a change to one of its commands. -/
theorem modCmd_queue (s : State) (n pos : Nat) (f : Cmd → Cmd) (h : (s.queue n).cmds ≠ []) :
    (s.modCmd n pos f).queue n = { s.queue n with cmds := (s.queue n).cmds.map fun c => if c.slot = pos then f c else c } := by
  unfold State.modCmd State.modQueue
  exact setQueue_queue _ _ _ (by simpa using h)

/-- A queue with a command is not empty. -/
theorem cmdAt_ne {q : Queue} {n c} (h : q.cmdAt n = some c) : q.cmds ≠ [] := by
  intro e; unfold Queue.cmdAt at h; rw [e] at h; cases h

/-- A command of a ring slot after a change. -/
theorem modCmd_cmdAt {s : State} {n pos : Nat} {f : Cmd → Cmd} {k : Nat} {c : Cmd} (hq : (s.queue n).cmdAt k = some c) (hf : ∀ x, (f x).slot = x.slot) :
   ((s.modCmd n pos f).queue n).cmdAt k = some (if c.slot = pos then f c else c) := by
  have : ((s.modCmd n pos f).queue n).cmdAt k = ((s.queue n).cmdAt k).map fun c => if c.slot = pos then f c else c := by
    rw [modCmd_queue _ _ _ _ (cmdAt_ne hq)]
    unfold Queue.cmdAt
    dsimp only
    rw [List.find?_map]
    have : ((fun c => decide (c.slot % 2 ^ (s.queue n).size = k)) ∘ fun c => if c.slot = pos then f c else c) = fun c : Cmd => decide (c.slot % 2 ^ (s.queue n).size = k) := by
      funext x; simp only [Function.comp]; split <;> simp [hf]
    rw [this]
  rw [this, hq]; rfl

/-- A command that has been marked as started. -/
theorem markStart_cmdAt {s : State} {n k : Nat} {c : Cmd} (hq : (s.queue n).cmdAt k = some c) : ((s.markStart n c.slot).queue n).cmdAt k = some { c with started := true } := by
  unfold State.markStart
  dsimp only
  refine (modCmd_cmdAt (s := s.modPlan _) (c := c) (f := fun c => { c with started := true }) hq (fun _ => rfl)).trans ?_
  simp

/-- The command of a ring slot, by its position. -/
theorem cmd_of_cmdAt {q : Queue} {k : Nat} {c : Cmd} (h : q.cmdAt k = some c) : q.cmd c.slot = some c := by
  unfold Queue.cmdAt Queue.cmd at *
  have hk : c.slot % 2 ^ q.size = k := by simpa using List.find?_some h
  rw [List.find?_eq_some_iff_append] at h ⊢
  obtain ⟨_, l1, l2, e, h2⟩ := h
  refine ⟨by simp, l1, l2, e, ?_⟩
  intro a ha
  have := h2 a ha
  simp at this ⊢
  intro e2
  rw [e2] at this
  exact this hk

/-- A command after its change, by its position. -/
theorem modCmd_cmd {s : State} {n pos : Nat} {f : Cmd → Cmd} {c : Cmd} (hq : (s.queue n).cmd pos = some c) (hf : ∀ x, (f x).slot = x.slot) :
   ((s.modCmd n pos f).queue n).cmd pos = some (f c) := by
  have hn : (s.queue n).cmds ≠ [] := by
    intro e; unfold Queue.cmd at hq; rw [e] at hq; cases hq
  have hs : c.slot = pos := by simpa using List.find?_some hq
  rw [modCmd_queue _ _ _ _ hn]
  unfold Queue.cmd at *
  dsimp only
  rw [List.find?_map]
  have : ((fun c => decide (c.slot = pos)) ∘ fun c => if c.slot = pos then f c else c) = fun c : Cmd => decide (c.slot = pos) := by
    funext x; simp only [Function.comp]; split <;> simp [hf]
  rw [this, hq]
  simp [hs]

/-- A command that begins runs its effect in the state in which it has begun. -/
theorem begin_eq {s u : State} {r op sub c} (h : Begins s r op sub c u) (k) : begin r op sub s k = k r.queue c u := by
  obtain ⟨⟨h1, h2, h3, h4, h5⟩, h6⟩ := h
  unfold begin
  rw [h1]
  cases sub with
  | none =>
    rcases h6 with ⟨h6, rfl⟩ | ⟨h6, h7, h8, rfl⟩
    · simp [h2, h4, h5, h6]
    · simp [h2, h4, h5, h6, h7, h8, State.startedAt]
  | some x =>
    have h3 := h3 x rfl
    rcases h6 with ⟨h6, rfl⟩ | ⟨h6, h7, h8, rfl⟩
    · simp [h2, h3, h4, h5, h6]
    · simp [h2, h3, h4, h5, h6, h7, h8, State.startedAt]

/-- A predicated command asks for its word. -/
theorem waits_begin {s : State} {r op sub c} (h : Waits s r op sub c) (h1 : c.pred ≠ .decided) (h2 : s.startable r.queue c = true) (h3 : hPred c.bytes = true) (k) :
  begin r op sub s k = ((s.markStart r.queue c.slot).modCmd r.queue c.slot fun d =>
        { d with pred := .held, claimFrom := s.startFrom r.queue c }).askWord r.queue c := by
  obtain ⟨a, b, c', d, e⟩ := h
  unfold begin
  rw [a]
  cases sub with
  | none => simp [b, d, e, h1, h2, h3]
  | some x => simp [b, c' x rfl, d, e, h1, h2, h3]

/-- A command that begins has begun. -/
theorem begun_of {s u : State} {r op sub c} (h : Begins s r op sub c u) : ∀ d ∈ (u.queue r.queue).cmds, d.slot = c.slot → d.begun = true := by
  obtain ⟨hw, h⟩ := h
  have hn := cmdAt_ne hw.1
  intro d hd hs
  have gen : ∀ (v : State) (f : Cmd → Cmd), (v.queue r.queue).cmds ≠ [] → (∀ x, (f x).begun = true) → (∀ x, (f x).slot = x.slot) → d ∈ ((v.modCmd r.queue c.slot f).queue r.queue).cmds → d.begun = true := by
    intro v f hv hf hfs hm
    rw [modCmd_queue _ _ _ _ hv] at hm
    dsimp only at hm
    obtain ⟨x, hx, rfl⟩ := List.mem_map.mp hm
    by_cases e : x.slot = c.slot
    · simp [e, hf]
    · simp [e] at hs
  rcases h with ⟨_, rfl⟩ | ⟨_, _, _, rfl⟩
  · exact gen s (fun d => { d with begun := true, claimFrom := max d.claimFrom s.time.bnd }) hn (fun _ => rfl) (fun _ => rfl) hd
  · unfold State.startedAt at hd
    refine gen _ _ (cmdAt_ne (markStart_cmdAt hw.1)) ?_ ?_ hd <;> exact (fun _ => rfl)

/-- The command of the slot after it has begun. -/
theorem began_at {s u : State} {r op sub c} (h : Begins s r op sub c u) : ∃ c', (u.queue r.queue).cmdAt r.slot = some c' ∧ c' = { c with started := c'.started, begun := true, claimFrom := c'.claimFrom } := by
  obtain ⟨hw, h⟩ := h
  rcases h with ⟨_, rfl⟩ | ⟨_, _, _, rfl⟩
  · refine ⟨_, modCmd_cmdAt (f := fun d => { d with begun := true, claimFrom := max d.claimFrom s.time.bnd }) hw.1 (fun _ => rfl), ?_⟩
    simp
  · unfold State.startedAt
    refine ⟨_, modCmd_cmdAt (s := s.markStart r.queue c.slot) (f := fun d => { d with begun := true, claimFrom := _ }) (markStart_cmdAt hw.1) (fun _ => rfl), ?_⟩
    simp

/-- Beginning leaves memory. -/
theorem begins_mem {s u : State} {r op sub c} (h : Begins s r op sub c u) : u.mem = s.mem := by
  obtain ⟨_, ⟨_, rfl⟩ | ⟨_, _, _, rfl⟩⟩ := h <;> rfl

/-- Beginning changes queues and the front-end counts of plans alone. -/
theorem begins_same {s u : State} {r op sub c} (h : Begins s r op sub c u) : Frame 2064 s u := by
  obtain ⟨_, ⟨_, rfl⟩ | ⟨_, _, _, rfl⟩⟩ := h
  · exact State.modCmd_frame _ _ _ _ rfl Frame.rfl
  · exact State.modCmd_frame _ _ _ _ rfl (State.markStart_frame _ _ _ rfl Frame.rfl)

/-- A control command whose handles pass has changed queues, the front-end counts of plans and the fence it signals alone. -/
theorem checked_same {s u : State} {r op sub c} (h : Checked s r op sub c u) : Frame 2096 s u := by
  obtain ⟨v, ⟨_, ⟨_, rfl⟩ | ⟨_, _, _, rfl⟩⟩, _, rfl⟩ := h
  · exact State.countSignal_frame _ _ _ rfl (State.modCmd_frame _ _ _ _ rfl Frame.rfl)
  · exact State.countSignal_frame _ _ _ rfl (State.modCmd_frame _ _ _ _ rfl (State.markStart_frame _ _ _ rfl Frame.rfl))

/-- The state to which a control command leads: what its effect answers, or where it waits. -/
def ctlOut (r : CmdRef) (c : Cmd) (u : State) : Ctl → State
  | .reject code => u.finish r.queue c.slot code 0
  | .done residue s => s.finish r.queue c.slot E.ok residue
  | .later s => s
  | .hold => u

/-- A control command whose handles pass goes on from the state in which its signal is counted. -/
theorem ctl_run {s u : State} {r sub c} (h : Checked s r Op.contextCtl sub c u) (k) :
    ctl r sub s k = u.ctlRun r.queue c sub k := by
  obtain ⟨v, h1, h2, rfl⟩ := h
  unfold ctl
  rw [begin_eq h1]
  simp [h2]

/-- A control command whose checks pass runs its effect. -/
theorem ctl_eq {s u : State} {r sub c} (h : CtlBegins s r sub c u) (k) :
    ctl r sub s k = ctlOut r c u (k r.queue c (u.ctx (pf c.bytes 0 11 0)) u) := by
  obtain ⟨h1, h2, h3⟩ := h
  rw [ctl_run h1]
  unfold State.ctlRun
  dsimp only
  have e : (if (decide (sub = 0x32) && (decide ((u.ctx (pf c.bytes 0 11 0)).eff = .free) || decide ((u.ctx (pf c.bytes 0 11 0)).eff = .dead))) = true then E.ok else ctxCode sub (u.ctx (pf c.bytes 0 11 0)).eff) = E.ok := by
    rcases h3 with ⟨h5, h6⟩ | h4
    · rw [if_pos]; simp [h5, h6]
    · split <;> simp [h4]
  simp only [h2, Bool.false_eq_true, if_false, e, ne_eq, not_true]
  rfl

/-- A control command in a wrong context state ends with its code. -/
theorem ctl_bad {s u : State} {r sub c} (h1 : Checked s r Op.contextCtl sub c u) (h3 : namesPriv sub (pf c.bytes 0 11 0) (pf c.bytes 0 25 12) = false) (h4 : sub ≠ 0x32) (h5 : ctxCode sub (u.ctx (pf c.bytes 0 11 0)).eff ≠ E.ok) (k) :
    ctl r sub s k = u.finish r.queue c.slot (ctxCode sub (u.ctx (pf c.bytes 0 11 0)).eff) 0 := by
  rw [ctl_run h1]
  unfold State.ctlRun
  dsimp only
  simp only [h3, Bool.false_eq_true, if_false, h4, decide_false, Bool.false_and, if_pos h5]

/-- A plan command whose checks pass runs its effect. -/
theorem plan_eq {s u : State} {r sub c} (h : PlanBegins s r sub c u) (k) :
    planCtl r sub s k = ctlOut r c u (k r.queue c (pf c.bytes 0 1 0) (u.slot (pf c.bytes 0 1 0)) u) := by
  obtain ⟨v, h1, h2, rfl⟩ := h
  unfold planCtl
  rw [begin_eq h1]
  simp only [h2, ne_eq, not_true, if_false]
  rfl

/-- The rows of a collective. -/
theorem coll_exec {i : Instr} {r : CmdRef} {sub : Nat} (h : startRow i = some (r, Op.collective, some sub)) (s : State) : exec i s = .next (collective sub r s) := by
  cases i
  all_goals first | (simp [startRow] at h; done) | skip
  all_goals
    simp only [startRow, Option.some.injEq, Prod.mk.injEq] at h
    obtain ⟨e1, e2, e3⟩ := h
  all_goals first | (exact absurd e2 (by decide)) | skip
  all_goals
    subst e1 e3
    rfl

/-- Parking keeps commands and indices. -/
theorem park_keep (q : Queue) (a b : Nat) : (q.park a b).ended = q.ended ∧ (q.park a b).cmds = q.cmds ∧ (q.park a b).ret = q.ret := by
  unfold Queue.park; split <;> exact ⟨rfl, rfl, rfl⟩

/-- Raising a completion interrupt leaves the queues. -/
theorem raiseQueue_queue (s : State) (n m : Nat) : (s.raiseQueue n).queue m = s.queue m := by
  have : (s.raiseQueue n).queues = s.queues := (State.raiseQueue_frame s n (M := 1024) rfl Frame.rfl).queues rfl
  unfold State.queue; rw [this]

/-- A retired command leaves its queue, whose RET passes it. -/
theorem retire_queue {s t : State} {qn : Nat} {c : Cmd} {code : Nat} (h : s.retire qn c code = some t) :
    (∀ d ∈ (t.queue qn).cmds, d.slot ≠ c.slot) ∧ (t.queue qn).ret = c.slot + hChain c.bytes + 1 := by
  unfold State.retire at h
  split at h
  · cases h
  obtain ⟨v, _, rfl⟩ := Option.map_eq_some_iff.mp h
  dsimp only
  generalize (v.undefineDest qn c code).settleFence qn c code = w
  generalize hx : State.modQueue w qn _ = x
  have hq : (x.queue qn).cmds = (w.queue qn).cmds.filter (fun d => d.slot ≠ c.slot) ∧ (x.queue qn).ret = c.slot + hChain c.bytes + 1 ∧ (x.queue qn).ended ≠ [] := by
    subst hx
    unfold State.modQueue
    rw [setQueue_ended _ _ _ (by simp)]
    exact ⟨rfl, rfl, by simp⟩
  generalize hy : (if (decide (code ≠ E.ok) && !c.byAbort) = true then x.modQueue qn fun q => q.park code (c.slot % q.slots) else x) = y
  have hq2 : (y.queue qn).cmds = (w.queue qn).cmds.filter (fun d => d.slot ≠ c.slot) ∧ (y.queue qn).ret = c.slot + hChain c.bytes + 1 := by
    subst hy
    split
    · unfold State.modQueue
      rw [setQueue_ended _ _ _ (by rw [(park_keep _ _ _).1]; exact hq.2.2), (park_keep _ _ _).2.1, (park_keep _ _ _).2.2]
      exact ⟨hq.1, hq.2.1⟩
    · exact ⟨hq.1, hq.2.1⟩
  have hq3 : ∀ (b : Bool), ((if b = true then y.raiseQueue qn else y).queue qn).cmds = (w.queue qn).cmds.filter (fun d => d.slot ≠ c.slot) ∧ ((if b = true then y.raiseQueue qn else y).queue qn).ret = c.slot + hChain c.bytes + 1 := by
    intro b
    cases b
    · exact hq2
    · simp only [if_true, raiseQueue_queue]; exact hq2
  refine ⟨?_, (hq3 _).2⟩
  intro d hd
  rw [(hq3 _).1] at hd
  simpa using (List.mem_filter.mp hd).2

/-- A change of what no engine command under way reads disturbs none. -/
theorem disturb_quiet {s : State} {l : List (Nat × Nat)} (by_ : Option (Nat × Nat)) (h : Quiet s l) : s.disturb by_ l = s := by
  unfold Quiet at h
  unfold State.disturb
  split
  · rfl
  · generalize s.queues = qs at h
    induction qs with
    | nil => rfl
    | cons x qs ih =>
      rw [List.foldl_cons]
      have step : ∀ (f : State → Cmd → State) (cs : List Cmd), (∀ d ∈ cs, f s d = s) → cs.foldl f s = s := by
        intro f cs
        induction cs with
        | nil => intro _; rfl
        | cons c cs ih2 => intro hc; rw [List.foldl_cons, hc c (.head _)]; exact ih2 fun d hd => hc d (.tail _ hd)
      dsimp only
      rw [step]
      · exact ih fun y hy => h y (.tail _ hy)
      · intro d hd
        split
        · rfl
        · rename_i hn
          simp only [Bool.or_eq_true, Bool.not_eq_true', not_or, Bool.not_eq_false] at hn
          rw [h x (.head _) d hd hn.1.1.1.1.2 hn.1.2]
          simp

end Sys2Proof.Laws
end

