-- ==== Sys2Proof/Laws/FrameTick.lean ====
section
/-! SUPPORT. Frame laws, one per operation (Sys2Proof/Laws/Frame.lean says what they state): delivery and the tick boundary. -/

namespace Sys2Proof.Machine

variable {M : Nat} {s0 : State}

theorem State.missTake_frame (s : State) (line src : Nat) (star : Bool) (hm : Sub 1507840 M) (fr : Frame M s0 s) :
    Frame M s0 (State.missTake s line src star) := by
  unfold State.missTake
  repeat' (first
    | with_reducible intro _ | with_reducible assumption | with_reducible apply State.protoError_frame
    | with_reducible apply State.takeMiss_frame | with_reducible apply Frame.ite | exact Sub.tr (show Sub _ 1507840 from rfl) hm)

theorem cohParts_frame {c : Instr} {x : Option FabHdr × CohOp × (State → State)} (e : cohParts c = some x) (hm : Sub 1507840 M) :
    ∀ t, Frame M s0 t → Frame M s0 (x.2.2 t) := by
  unfold cohParts at e
  split at e <;> cases e <;> intro t fr
  all_goals
    dsimp only
    repeat' (first
    | with_reducible intro _ | with_reducible assumption | with_reducible apply State.takeFwdDone_frame
    | with_reducible apply State.agentAsked_frame | with_reducible apply State.takeInvAck_frame
    | with_reducible apply State.takeSnpRsp_frame | with_reducible apply State.takeData_frame
    | with_reducible apply State.missTake_frame | with_reducible apply State.takeAck_frame
    | with_reducible apply homeRequest_frame | with_reducible apply homeAnswer_frame | with_reducible apply homePut_frame
    | exact Sub.tr (show Sub _ 1507840 from rfl) hm)

theorem fabParts_frame {c : Instr} {x : FabHdr × Nat × (State → State)} (e : fabParts c = some x) (hm : Sub 1554358 M) :
    ∀ t, Frame M s0 t → Frame M s0 (x.2.2 t) := by
  unfold fabParts at e
  split at e <;> cases e <;> intro t fr
  all_goals
    dsimp only
    repeat' (first
    | with_reducible assumption | with_reducible apply takeInvalDone_frame | with_reducible apply takeFenceUpd_frame
    | with_reducible apply takeRevoke_frame | with_reducible apply takeDigest_frame | with_reducible apply takeAnswer_frame
    | with_reducible apply takeInval_frame | with_reducible apply takeOffer_frame | with_reducible apply takeRdata_frame
    | with_reducible apply takeNak_frame | exact Sub.tr (show Sub _ 1554358 from rfl) hm)

theorem State.deliverHeld_frame (s : State) (c : Instr) (hm : Sub 1554358 M) (fr : Frame M s0 s) :
    Frame M s0 (State.deliverHeld s c) := by
  unfold State.deliverHeld
  repeat' (first
    | with_reducible refine fabParts_frame (by assumption) ?_ _ ?_ | with_reducible refine cohParts_frame (by assumption) ?_ _ ?_
    | with_reducible intro _ | with_reducible assumption | with_reducible apply State.deliverPkt_frame
    | with_reducible apply collCtl_frame | exact Sub.tr (show Sub _ 1554358 from rfl) hm | split)

theorem deliveries_frame (us : Nat) (s : State) (hm : Sub 1554358 M) (fr : Frame M s0 s) :
    Frame M s0 (deliveries us s) := by
  unfold deliveries
  repeat' (first
    | with_reducible intro _ | with_reducible assumption | with_reducible apply State.deliverHeld_frame
    | with_reducible apply State.modFab_frame | with_reducible apply State.reach_frame
    | exact Sub.tr (show Sub _ 1554358 from rfl) hm | with_reducible apply Frame.foldl)

theorem fetchSlot_frame (qn gen : Nat) (bytes : List Byte) (poisoned : Bool) (s : State) (hm : Sub 1156278 M) (fr : Frame M s0 s) :
    Frame M s0 (fetchSlot qn gen bytes poisoned s) := by
  unfold fetchSlot
  repeat' (first
    | with_reducible intro _ | with_reducible assumption | with_reducible apply State.uncached_frame
    | with_reducible apply slotFetch_frame | with_reducible apply Frame.ite | exact Sub.tr (show Sub _ 1156278 from rfl) hm)

theorem readPredicate_frame (r : CmdRef) (gen word : Nat) (poisoned : Bool) (s : State) (hm : Sub 1156502 M) (fr : Frame M s0 s) :
    Frame M s0 (readPredicate r gen word poisoned s) := by
  unfold readPredicate
  repeat' (first
    | with_reducible intro _ | with_reducible assumption | with_reducible apply State.uncached_frame
    | with_reducible apply predicateRead_frame | exact Sub.tr (show Sub _ 1156502 from rfl) hm)

theorem State.serveWaiting_frame (s : State) (w : Waiting) (hm : Sub 1555894 M) (fr : Frame M s0 s) :
    Frame M s0 (State.serveWaiting s w) := by
  unfold State.serveWaiting
  repeat' (first
    | with_reducible assumption | with_reducible apply State.startAccess_frame | with_reducible apply commandComplete_frame
    | with_reducible apply State.runInline_frame | with_reducible apply debugServeWrite_frame
    | with_reducible apply State.collStep_frame | with_reducible apply debugServeRead_frame
    | with_reducible apply State.runUnit_frame | with_reducible apply readPredicate_frame | with_reducible apply State.emit_frame
    | with_reducible apply serveWrite_frame | with_reducible apply fetchSlot_frame | with_reducible apply serveRead_frame
    | exact Sub.tr (show Sub _ 1555894 from rfl) hm | split)

theorem State.takeBehind_frame (s : State) (w : Waiting) (hm : Sub 4194302 M) (fr : Frame M s0 s) :
    Frame M s0 (State.takeBehind s w) := by
  unfold State.takeBehind
  repeat' (first
    | with_reducible assumption | with_reducible apply State.startAccess_frame | with_reducible apply writeRegister_frame
    | with_reducible apply State.emit_frame | with_reducible apply badAccess_frame | with_reducible apply doorbell_frame
    | exact Sub.tr (show Sub _ 4194302 from rfl) hm | split)

theorem State.drainBehind_frame (s : State) (p : Side) (a3 : Nat) (hm : Sub 4194302 M) (fr : Frame M s0 s) :
    Frame M s0 (State.drainBehind s p a3) := by
  revert fr
  fun_induction State.drainBehind s p a3 <;> intro fr
  all_goals
    repeat' (first
    | with_reducible assumption | with_reducible apply State.takeBehind_frame | with_reducible apply State.modPort_frame
    | exact Sub.tr (show Sub _ 4194302 from rfl) hm | with_reducible refine Frame.ih (P := Frame M s0 _) (by assumption) ?_)

theorem blockingStart_frame (line : Nat) (s : State) (hm : Sub 4194302 M) (fr : Frame M s0 s) :
    Frame M s0 (blockingStart line s) := by
  unfold blockingStart
  repeat' (first
    | with_reducible assumption | with_reducible apply State.releaseGroup_frame | with_reducible apply State.serveWaiting_frame
    | with_reducible apply State.drainBehind_frame | with_reducible apply State.settleLine_frame
    | with_reducible apply State.startBlock_frame | with_reducible apply State.modCoh_frame
    | exact Sub.tr (show Sub _ 4194302 from rfl) hm | split | dsimp only)

theorem State.replay_frame (s : State) (c : Instr) (hm : Sub 4194302 M) (fr : Frame M s0 s) :
    Frame M s0 (State.replay s c) := by
  unfold State.replay
  repeat' (first
    | with_reducible refine fabParts_frame (by assumption) ?_ _ ?_ | with_reducible intro _ | with_reducible assumption
    | with_reducible apply commandComplete_frame | with_reducible apply vectorDelivery_frame
    | with_reducible apply writeRegister_frame | with_reducible apply vfEnableClear_frame
    | with_reducible apply globalPacket_frame | with_reducible apply tdiViolation_frame | with_reducible apply flashProgram_frame
    | with_reducible apply homeTimeout_frame | with_reducible apply State.carry_frame | with_reducible apply prgResponse_frame
    | with_reducible apply clearOosCmd_frame | with_reducible apply drainLimit_frame | with_reducible apply holdExpiry_frame
    | with_reducible apply ackTimeout_frame | with_reducible apply ideFailure_frame | with_reducible apply faultStamp_frame
    | with_reducible apply sensorRead_frame | with_reducible apply flashErase_frame | with_reducible apply flashFetch_frame
    | with_reducible apply debugWrite_frame | with_reducible apply Machine.measExtend_frame | with_reducible apply badAccess_frame
    | with_reducible apply portReset_frame | with_reducible apply fwRestore_frame | with_reducible apply debugRead_frame
    | with_reducible apply doorbell_frame | with_reducible apply d0Return_frame | with_reducible apply collData_frame
    | with_reducible apply mgtWrite_frame | with_reducible apply credLock_frame | with_reducible apply svnRaise_frame
    | with_reducible apply collCtl_frame | with_reducible apply mgtRead_frame | with_reducible apply logRead_frame
    | with_reducible apply credSet_frame | with_reducible apply fwLoad_frame | with_reducible apply ccHalt_frame
    | with_reducible apply flr_frame | with_reducible apply Frame.ite | exact Sub.tr (show Sub _ 4194302 from rfl) hm | split)

theorem State.replayCarried_frame (s : State) (hm : Sub 4194302 M) (fr : Frame M s0 s) :
    Frame M s0 (State.replayCarried s) := by
  unfold State.replayCarried
  repeat' (first
    | with_reducible intro _ | with_reducible assumption | with_reducible apply State.modTime_frame
    | with_reducible apply State.replay_frame | exact Sub.tr (show Sub _ 4194302 from rfl) hm | with_reducible apply Frame.foldl)

theorem State.stampBoundary_frame (s : State) (hm : Sub 1240510 M) (fr : Frame M s0 s) :
    Frame M s0 (State.stampBoundary s) := by
  unfold State.stampBoundary
  repeat' (first
    | with_reducible intro _ | with_reducible assumption | with_reducible apply State.modTime_frame
    | with_reducible apply Frame.ite | exact Sub.tr (show Sub _ 1240510 from rfl) hm)

theorem State.slicesEnd_frame (s : State) (hm : Sub 6272 M) (fr : Frame M s0 s) :
    Frame M s0 (State.slicesEnd s) := by
  unfold State.slicesEnd
  repeat' (first
    | with_reducible intro _ | with_reducible assumption | with_reducible apply State.mapEngines_frame
    | with_reducible apply State.waitEnds_frame | with_reducible apply State.modXlt_frame
    | exact Sub.tr (show Sub _ 6272 from rfl) hm | with_reducible apply Frame.foldl)

theorem State.newTick_frame (s : State) (hm : Sub 7312 M) (fr : Frame M s0 s) :
    Frame M s0 (State.newTick s) := by
  unfold State.newTick
  repeat' (first
    | with_reducible assumption | with_reducible apply State.slicesEnd_frame | with_reducible apply State.mapQueues_frame
    | with_reducible apply State.modPlan_frame | with_reducible apply State.modIrq_frame
    | exact Sub.tr (show Sub _ 7312 from rfl) hm)

theorem State.restorePlan_frame (s : State) (hm : Sub 526352 M) (fr : Frame M s0 s) :
    Frame M s0 (State.restorePlan s) := by
  unfold State.restorePlan
  repeat' (first
    | with_reducible intro _ | with_reducible assumption | with_reducible apply State.dropSelsAt_frame
    | with_reducible apply State.finishRef_frame | with_reducible apply State.withdraw_frame
    | with_reducible apply State.modPlan_frame | with_reducible apply Frame.ite | exact Sub.tr (show Sub _ 526352 from rfl) hm
    | with_reducible apply Frame.foldl | split)

theorem State.planPart_frame (s : State) (hm : Sub 1616914 M) (fr : Frame M s0 s) :
    Frame M s0 (State.planPart s) := by
  unfold State.planPart
  repeat' (first
    | with_reducible intro _ | with_reducible assumption | with_reducible apply State.restorePlan_frame
    | with_reducible apply State.planSwitch_frame | with_reducible apply State.commitStep_frame
    | with_reducible apply State.loadsDone_frame | with_reducible apply State.measSet_frame | with_reducible apply Frame.ite
    | exact Sub.tr (show Sub _ 1616914 from rfl) hm)

theorem State.throttlePart_frame (s : State) (hm : Sub 18432 M) (fr : Frame M s0 s) :
    Frame M s0 (State.throttlePart s) := by
  unfold State.throttlePart
  repeat' (first
    | with_reducible intro _ | with_reducible assumption | with_reducible apply State.clkBoundary_frame
    | with_reducible apply State.clkSwitch_frame | with_reducible apply State.modPlan_frame | with_reducible apply Frame.ite
    | exact Sub.tr (show Sub _ 18432 from rfl) hm)

theorem State.portShort_frame (s : State) (hm : Sub 2048 M) (fr : Frame M s0 s) :
    Frame M s0 (State.portShort s) := by
  unfold State.portShort
  repeat' (first
    | with_reducible intro _ | with_reducible assumption | with_reducible apply State.modPlan_frame
    | with_reducible apply Frame.ite)

theorem State.queueStep_frame (s : State) (n : Nat) (hm : Sub 1296 M) (fr : Frame M s0 s) :
    Frame M s0 (State.queueStep s n) := by
  unfold State.queueStep
  repeat' (first
    | with_reducible intro _ | with_reducible assumption | with_reducible apply State.raiseQueue_frame
    | with_reducible apply State.setQueue_frame | with_reducible apply State.modPort_frame | with_reducible apply Frame.ite
    | exact Sub.tr (show Sub _ 1296 from rfl) hm | split)

theorem State.queueSteps_frame (s : State) (hm : Sub 1296 M) (fr : Frame M s0 s) :
    Frame M s0 (State.queueSteps s) := by
  unfold State.queueSteps
  repeat' (first
    | with_reducible intro _ | with_reducible assumption | with_reducible apply State.queueStep_frame
    | with_reducible apply Frame.foldl)

theorem State.flushDeferred_frame (s : State) (hm : Sub 1353110 M) (fr : Frame M s0 s) :
    Frame M s0 (State.flushDeferred s) := by
  unfold State.flushDeferred
  repeat' (first
    | with_reducible intro _ | with_reducible assumption | with_reducible apply State.writeDeferred_frame
    | with_reducible apply State.replyStops_frame | with_reducible apply Frame.ite | exact Sub.tr (show Sub _ 1353110 from rfl) hm
    | with_reducible apply Frame.foldl | split | dsimp only)

theorem State.wakeQueues_frame (s : State) (slot : Nat) (hm : Sub 16 M) (fr : Frame M s0 s) :
    Frame M s0 (State.wakeQueues s slot) := by
  unfold State.wakeQueues
  repeat' (first
    | with_reducible intro _ | with_reducible assumption | with_reducible apply State.modQueue_frame
    | with_reducible apply Frame.foldl)

theorem State.ctxStep_frame (s : State) (i : Nat) (hm : Sub 1176 M) (fr : Frame M s0 s) :
    Frame M s0 (State.ctxStep s i) := by
  unfold State.ctxStep
  repeat' (first
    | with_reducible intro _ | with_reducible assumption | with_reducible apply State.forgetDelay_frame
    | with_reducible apply State.wakeQueues_frame | with_reducible apply State.purgeAll_frame
    | with_reducible apply State.setCtx_frame | with_reducible apply State.modCtx_frame | with_reducible apply Frame.ite
    | exact Sub.tr (show Sub _ 1176 from rfl) hm | split | dsimp only)

theorem State.drainStep_frame (s : State) (i : Nat) (hm : Sub 8 M) (fr : Frame M s0 s) :
    Frame M s0 (State.drainStep s i) := by
  unfold State.drainStep
  repeat' (first
    | with_reducible intro _ | with_reducible assumption | with_reducible apply State.beginTeardown_frame
    | with_reducible apply State.setCtx_frame | with_reducible apply Frame.ite | split)

theorem State.tearStop_frame (s : State) (i code : Nat) (hm : Sub 24 M) (fr : Frame M s0 s) :
    Frame M s0 (State.tearStop s i code) := by
  unfold State.tearStop
  repeat' (first
    | with_reducible intro _ | with_reducible assumption | with_reducible apply State.modQueue_frame
    | with_reducible apply State.modCtx_frame | with_reducible apply Frame.ite | exact Sub.tr (show Sub _ 24 from rfl) hm
    | with_reducible apply Frame.foldl)

theorem State.answerAts_frame (s : State) (i : Nat) (hm : Sub 1048704 M) (fr : Frame M s0 s) :
    Frame M s0 (State.answerAts s i) := by
  unfold State.answerAts
  repeat' (first
    | with_reducible assumption | with_reducible apply State.modXlt_frame | with_reducible apply State.emits_frame
    | exact Sub.tr (show Sub _ 1048704 from rfl) hm)

theorem State.tearFences_frame (s : State) (i code : Nat) (hm : Sub 1180152 M) (fr : Frame M s0 s) :
    Frame M s0 (State.tearFences s i code) := by
  unfold State.tearFences
  repeat' (first
    | with_reducible intro _ | with_reducible assumption | with_reducible apply State.clearRegions_frame
    | with_reducible apply State.breakFence_frame | with_reducible apply State.answerAts_frame
    | with_reducible apply State.purgeAll_frame | with_reducible apply State.mapObjs_frame
    | with_reducible apply State.modCtx_frame | with_reducible apply State.modXlt_frame | with_reducible apply Frame.ite
    | exact Sub.tr (show Sub _ 1180152 from rfl) hm | with_reducible apply Frame.foldl)

theorem State.endClose_frame (s : State) (i : Nat) (hm : Sub 16 M) (fr : Frame M s0 s) :
    Frame M s0 (State.endClose s i) := by
  unfold State.endClose
  repeat' (first
    | with_reducible assumption | with_reducible apply State.modQueue_frame)

theorem State.tearPasid_frame (s : State) (i code : Nat) (hm : Sub 8 M) (fr : Frame M s0 s) :
    Frame M s0 (State.tearPasid s i code) := by
  unfold State.tearPasid
  repeat' (first
    | with_reducible intro _ | with_reducible assumption | with_reducible apply State.modCtx_frame
    | with_reducible apply Frame.ite)

theorem State.tearMaps_frame (s : State) (i code : Nat) (hm : Sub 262296 M) (fr : Frame M s0 s) :
    Frame M s0 (State.tearMaps s i code) := by
  unfold State.tearMaps
  repeat' (first
    | with_reducible intro _ | with_reducible assumption | with_reducible apply State.tearPasid_frame
    | with_reducible apply State.endClose_frame | with_reducible apply State.setMem_frame
    | with_reducible apply State.modXlt_frame | with_reducible apply State.modCtx_frame | with_reducible apply Mem.clearPage_wf
    | exact Sub.tr (show Sub _ 262296 from rfl) hm | with_reducible refine Frame.wf (m := M) (s := s0) ?_ (by assumption))

theorem State.tearStep_frame (s : State) (i : Nat) (hm : Sub 1442296 M) (fr : Frame M s0 s) :
    Frame M s0 (State.tearStep s i) := by
  unfold State.tearStep
  repeat' (first
    | with_reducible intro _ | with_reducible assumption | with_reducible apply State.tearFences_frame
    | with_reducible apply State.tearPasid_frame | with_reducible apply State.tearStop_frame
    | with_reducible apply State.tearMaps_frame | with_reducible apply State.setCtx_frame | with_reducible apply Frame.ite
    | exact Sub.tr (show Sub _ 1442296 from rfl) hm | split | dsimp only)

theorem State.objStep_frame (s : State) (i : Nat) (hm : Sub 262224 M) (fr : Frame M s0 s) :
    Frame M s0 (State.objStep s i) := by
  unfold State.objStep
  repeat' (first
    | with_reducible intro _ | with_reducible assumption | with_reducible apply State.setObj_frame
    | with_reducible apply State.modCmd_frame | with_reducible apply State.setMem_frame | with_reducible apply Frame.ite
    | with_reducible apply Mem.zeros_wf | exact Sub.tr (show Sub _ 262224 from rfl) hm
    | with_reducible refine Frame.wf (m := M) (s := s0) ?_ (by assumption) | split)

theorem State.objSteps_frame (s : State) (hm : Sub 262224 M) (fr : Frame M s0 s) :
    Frame M s0 (State.objSteps s) := by
  unfold State.objSteps
  repeat' (first
    | with_reducible intro _ | with_reducible assumption | with_reducible apply State.objStep_frame
    | with_reducible apply Frame.foldl)

theorem State.vecRoutes_frame (s : State) (hm : Sub 1024 M) (fr : Frame M s0 s) :
    Frame M s0 (State.vecRoutes s) := by
  unfold State.vecRoutes
  repeat' (first
    | with_reducible assumption | with_reducible apply State.modIrq_frame)

theorem State.supplyOver_frame (s : State) (hm : Sub 8192 M) (fr : Frame M s0 s) :
    Frame M s0 (State.supplyOver s) := by
  unfold State.supplyOver
  repeat' (first
    | with_reducible intro _ | with_reducible assumption | with_reducible apply State.supply_frame
    | with_reducible apply Frame.ite)

theorem State.boundaryEvent_frame (s : State) (missA missB : Bool) (hm : Sub 2097150 M) (fr : Frame M s0 s) :
    Frame M s0 (State.boundaryEvent s missA missB) := by
  unfold State.boundaryEvent
  repeat' (first
    | with_reducible intro _ | with_reducible assumption | with_reducible apply State.groupsBoundary_frame
    | with_reducible apply State.regionEffects_frame | with_reducible apply State.collectorTick_frame
    | with_reducible apply State.judgeMirrors_frame | with_reducible apply State.mirrorCommit_frame
    | with_reducible apply State.throttlePart_frame | with_reducible apply State.portReturns_frame
    | with_reducible apply State.clearStalls_frame | with_reducible apply State.standbyStep_frame
    | with_reducible apply State.supplyOver_frame | with_reducible apply State.mirrorKeep_frame
    | with_reducible apply State.twinEvents_frame | with_reducible apply State.globalStep_frame
    | with_reducible apply State.pathEvents_frame | with_reducible apply State.portLosses_frame
    | with_reducible apply State.queueSteps_frame | with_reducible apply State.endRecords_frame
    | with_reducible apply State.drainStep_frame | with_reducible apply State.vecRoutes_frame
    | with_reducible apply State.applyMaps_frame | with_reducible apply State.endGrants_frame
    | with_reducible apply State.planPart_frame | with_reducible apply State.tearStep_frame
    | with_reducible apply State.objSteps_frame | with_reducible apply State.cdStages_frame
    | with_reducible apply State.newTick_frame | with_reducible apply State.modPlan_frame
    | with_reducible apply State.ctxStep_frame | with_reducible apply State.supply_frame | with_reducible apply graceExpiry_frame
    | exact Sub.tr (show Sub _ 2097150 from rfl) hm | with_reducible apply Frame.foldl)

theorem State.restsIssued_frame (s : State) (hm : Sub 1179664 M) (fr : Frame M s0 s) :
    Frame M s0 (State.restsIssued s) := by
  unfold State.restsIssued
  repeat' (first
    | with_reducible intro _ | with_reducible assumption | with_reducible apply State.servedRest_frame
    | with_reducible apply State.issueRest_frame | with_reducible apply State.modFab_frame | with_reducible apply Frame.ite
    | exact Sub.tr (show Sub _ 1179664 from rfl) hm | with_reducible apply Frame.foldl)

theorem State.tickBegins_frame (s : State) (hm : Sub 4194302 M) (fr : Frame M s0 s) :
    Frame M s0 (State.tickBegins s) := by
  unfold State.tickBegins
  repeat' (first
    | with_reducible intro _ | with_reducible assumption | with_reducible apply State.sendPageRequests_frame
    | with_reducible apply State.allCompletions_frame | with_reducible apply State.replayCarried_frame
    | with_reducible apply State.flushDeferred_frame | with_reducible apply State.hostBoundary_frame
    | with_reducible apply State.retryStarted_frame | with_reducible apply State.restsIssued_frame
    | with_reducible apply State.collectives_frame | with_reducible apply State.reaskPages_frame
    | with_reducible apply State.fabricTick_frame | with_reducible apply State.faultRings_frame
    | with_reducible apply State.portShort_frame | with_reducible apply State.inta_frame | with_reducible apply Frame.ite
    | exact Sub.tr (show Sub _ 4194302 from rfl) hm)

theorem boundary_frame (missA missB : Bool) (s : State) (hm : Sub 4194302 M) (fr : Frame M s0 s) :
    Frame M s0 (boundary missA missB s) := by
  unfold boundary
  repeat' (first
    | with_reducible intro _ | with_reducible assumption | with_reducible apply State.boundaryEvent_frame
    | with_reducible apply State.stampBoundary_frame | with_reducible apply State.tickBegins_frame
    | with_reducible apply State.modTime_frame | with_reducible apply Frame.ite | exact Sub.tr (show Sub _ 4194302 from rfl) hm)

theorem State.atStamp_frame (s : State) (r : CmdRef) (t : State) (hm : Sub 1176 M) (fr : Frame M s0 t) :
    Frame M s0 (State.atStamp s r t) := by
  unfold State.atStamp
  repeat' (first
    | with_reducible intro _ | with_reducible assumption | with_reducible apply State.drainStep_frame
    | with_reducible apply State.tearStop_frame | with_reducible apply State.ctxStep_frame | with_reducible apply Frame.ite
    | exact Sub.tr (show Sub _ 1176 from rfl) hm | split | dsimp only)

theorem State.queueAtStamp_frame (s : State) (r : CmdRef) (t : State) (hm : Sub 1296 M) (fr : Frame M s0 t) :
    Frame M s0 (State.queueAtStamp s r t) := by
  unfold State.queueAtStamp
  repeat' (first
    | with_reducible assumption | with_reducible apply State.queueStep_frame | split)

theorem fenceArrives_frame (h : FabHdr) (previous : Nat) (s : State) (hm : Sub 1221632 M) (fr : Frame M s0 s) :
    Frame M s0 (fenceArrives h previous s) := by
  unfold fenceArrives
  repeat' (first
    | with_reducible intro _ | with_reducible assumption | with_reducible apply takePathfence_frame
    | with_reducible apply State.arrive_frame | exact Sub.tr (show Sub _ 1221632 from rfl) hm)

theorem coreInvalidated_frame (r : CmdRef) (n gen : Nat) (s : State) (hm : Sub 1187856 M) (fr : Frame M s0 s) :
    Frame M s0 (coreInvalidated r n gen s) := by
  unfold coreInvalidated
  repeat' (first
    | with_reducible intro _ | with_reducible assumption | with_reducible apply State.staleDomain_frame
    | with_reducible apply State.servedDone_frame | with_reducible apply State.coreDone_frame | with_reducible apply Frame.ite
    | exact Sub.tr (show Sub _ 1187856 from rfl) hm)

end Sys2Proof.Machine
end

