-- ==== Sys2Proof/Laws/Parts.lean ====
section
/-! SUPPORT. Ports, twins, stamps, waiting accesses and poisoned memory after the operations that change them. -/

namespace Sys2Proof.Laws

open Sys2Proof Sys2Proof.Machine

set_option maxRecDepth 8000

/-- A port after its change. -/
theorem port_modPort (s : State) (p : Side) (f : Port → Port) : (s.modPort p f).port p = f (s.port p) := by cases p <;> rfl

/-- A port after it is set. -/
theorem port_setPort (s : State) (p : Side) (x : Port) : (s.setPort p x).port p = x := by cases p <;> rfl

/-- The other port stays. -/
theorem port_modPort_other (s : State) (p : Side) (f : Port → Port) : (s.modPort p f).port p.other = s.port p.other := by cases p <;> rfl

/-- A port depends on the ports alone. -/
theorem port_of_ports {s t : State} (h : t.ports = s.ports) (p : Side) : t.port p = s.port p := by unfold State.port; rw [h]

/-- A twin after its change. -/
theorem twin_modTwin (s : State) (t : Side) (f : Twin → Twin) : (s.modTwin t f).twin t = f (s.twin t) := by cases t <;> rfl

/-- The other twin stays. -/
theorem twin_modTwin_ne (s : State) {t q : Side} (f : Twin → Twin) (h : q ≠ t) : (s.modTwin t f).twin q = s.twin q := by
  cases t <;> cases q <;> first | rfl | exact absurd rfl h

/-- A twin depends on the twins alone. -/
theorem twin_of_twins {s t : State} (h : s.twins = t.twins) (q : Side) : s.twin q = t.twin q := by unfold State.twin; rw [h]

/-- A log record leaves the twins. -/
theorem log_twin (s : State) (a b c d e f g x) : (s.log a b c d e f g).twin x = s.twin x := rfl

/-- A chip-wide event leaves the twins. -/
theorem chip_twin (s : State) (a b : Nat) (x) : (s.chip a b).twin x = s.twin x := by unfold State.chip; dsimp only; split <;> rfl

/-- A twin after its state is set. -/
theorem setTwinState_twin (s : State) (a : Side) (b) : (s.setTwinState a b).twin a = {s.twin a with state := b} := by
  unfold State.setTwinState State.twinChanged; dsimp only; split <;> simp [log_twin, chip_twin]

/-- A twin that is woken is not in standby. -/
theorem wakeTwin_twin (s : State) (t : Side) : (s.wakeTwin t).twin t = { s.twin t with standby := false } := by
  unfold State.wakeTwin
  split
  · show ((s.modTwin t _).twinGates t true).twin t = _
    exact twin_modTwin s t (fun w => { w with standby := false })
  · rename_i h
    have : (s.twin t).standby = false := by simpa using h
    rw [← this]

/-- Waking one twin leaves the other. -/
theorem wakeTwin_other (s : State) {t q : Side} (h : q ≠ t) : (s.wakeTwin t).twin q = s.twin q := by
  unfold State.wakeTwin
  split
  · exact twin_modTwin_ne s (fun w => { w with standby := false }) h
  · rfl

/-- INTx messages leave the interrupt state. -/
theorem inta_irq (s : State) : s.inta.irq = s.irq := (State.inta_frame s (M := 1048832) rfl Frame.rfl).irq rfl

/-- A stamp leaves the interrupt state. -/
theorem stamp_irq (s : State) : s.stamp.2.irq = s.irq := by unfold State.stamp; split <;> rfl

/-- A stamp sends nothing. -/
theorem stamp_out (s : State) : s.stamp.2.out = s.out := by unfold State.stamp; split <;> rfl

/-- A stamp leaves the functions. -/
theorem stamp_funcs (s : State) : s.stamp.2.funcs = s.funcs := by unfold State.stamp; split <;> rfl

/-- Sending nothing changes nothing. -/
theorem emits_nil (s : State) : s.emits [] = s := by
  unfold State.emits; cases s; simp

/-- An access on a device whose directory is empty is made at once. -/
theorem uncached_free {s : State} (h : s.coh.dir = []) (w : Waiting) (r q : List (Nat × Nat)) (k : State → State) : s.uncached w r q k = k s := by
  unfold State.uncached State.inTheWay
  rw [h]
  rfl

/-- An access that no line stands in the way of is made at once. -/
theorem uncached_none {s : State} {w : Waiting} {a b : List (Nat × Nat)} {k : State → State} (h : s.inTheWay a b = []) :
    s.uncached w a b k = k s := by unfold State.uncached; rw [h]

/-- An event that can be stamped acts. -/
theorem stamped_go {s : State} {c : Instr} {k : Nat → State → State} (h : s.canStamp = true) :
    s.stamped c k = k s.stamp.1 s.stamp.2 := by unfold State.stamped; rw [if_pos h]

/-- The bytes of a read with poison. -/
theorem readP_fst (m : Mem) (a n : Nat) : (m.readP a n).map (·.1) = m.readN a n := by
  unfold Mem.readP
  rw [List.map_map]
  have : ∀ n a, (List.range n).map (fun i => m.read (a + i)) = m.readN a n := by
    intro n
    induction n with
    | zero => intro a; rfl
    | succ n ih =>
      intro a
      rw [List.range_succ_eq_map]
      simp only [List.map_cons, List.map_map, Mem.readN, Nat.add_zero]
      rw [← ih (a+1)]
      congr 1
      apply List.map_congr_left
      intro x _
      simp only [Function.comp]; congr 1; omega
  exact this n a

/-- A read has its length. -/
theorem readP_len (m : Mem) (a n : Nat) : (m.readP a n).length = n := by unfold Mem.readP; simp

/-- The bytes of a store with poison. -/
theorem storeP_bytes (m : Mem) (a : Nat) (l : List PByte) : (m.storeP a l).bytes = (m.writeN a (l.map (·.1))).bytes := by
  unfold Mem.storeP
  dsimp only
  generalize m.writeN a (l.map (·.1)) = w
  generalize (List.range _) = r
  revert w
  induction r with
  | nil => intro w; rfl
  | cons x r ih =>
    intro w
    rw [List.foldl_cons, ih]
    split
    · rfl
    · split <;> rfl

/-- A read depends on the bytes alone. -/
theorem readN_bytes {m m' : Mem} (h : m.bytes = m'.bytes) (a n : Nat) : m.readN a n = m'.readN a n := by
  induction n generalizing a with
  | zero => rfl
  | succ n ih => unfold Mem.readN; rw [ih]; unfold Mem.read; rw [h]

/-- A read of a clean range carries no poison. -/
theorem readP_clean (m : Mem) (a n : Nat) (h : m.anyPoison a n = false) : (m.readP a n).any (·.2) = false := by
  rw [List.any_eq_false]
  intro x hx
  unfold Mem.readP at hx
  obtain ⟨i, hi, rfl⟩ := List.mem_map.mp hx
  simp only [List.mem_range] at hi
  unfold Mem.anyPoison at h
  rw [List.any_eq_false] at h
  unfold Mem.poisoned
  intro hc
  have hm := List.contains_iff_mem.mp hc
  have := h _ hm
  simp only [Bool.and_eq_true, decide_eq_true_eq] at this
  omega

/-- What was in a list of pages stays while pages are inserted. -/
theorem mem_fold_insert {f : Nat → Nat} {x : Nat} : ∀ (l p : List Nat), x ∈ p → x ∈ l.foldl (fun p i => insertNat (f i) p) p := by
  intro l
  induction l with
  | nil => intro p h; exact h
  | cons a l ih => intro p h; exact ih _ (mem_insertNat_of h)

/-- A range that has been marked is poisoned. -/
theorem mark_poison (m : Mem) (a n : Nat) (h : 0 < n) : (m.mark a n).anyPoison a n = true := by
  unfold Mem.anyPoison Mem.mark
  dsimp only
  rw [List.any_eq_true]
  refine ⟨a / 32, ?_, by simp; omega⟩
  obtain ⟨k, hk⟩ : ∃ k, (a + n + 31) / 32 - a / 32 = k + 1 := ⟨(a + n + 31) / 32 - a / 32 - 1, by omega⟩
  rw [hk, List.range_succ_eq_map, List.foldl_cons]
  refine mem_fold_insert _ _ ?_
  exact mem_insertNat_self _ _

end Sys2Proof.Laws
end

