-- ==== Sys2Proof/Laws/Packets.lean ====
section
/-! SUPPORT. Packets and coherence messages: the checks of arrival, delivery, and what follows. -/

namespace Sys2Proof.Laws

open Sys2Proof Sys2Proof.Machine

set_option maxRecDepth 8000

/-- A packet in order is accepted. -/
theorem accept_ok {s : State} {h : FabHdr} {k : Nat} (ho : InOrder s h k) (hk : k ≠ K.pathfence) :
    s.accept h k = (true, s.countedPkt h) := by
  obtain ⟨⟨h1, h2, h3⟩, h4, h5, h6⟩ := ho
  unfold State.accept
  rw [if_neg (by simp [h1, h2]), if_neg (by simp [h3])]
  dsimp only
  rw [if_neg (by simp [hk]), if_neg (by simp [h4]), if_neg (by simp [h5]), if_neg (by simpa using h6)]
  rfl

/-- A packet for this device, check by check. -/
theorem accept_here {s : State} {h : FabHdr} {k : Nat} (ha : Addressed s h k) (hk : k ≠ K.pathfence) :
    s.accept h k =
      if h.pgen ≠ (s.rx h.src).gen then (false, s.stalePath)
      else if h.dgen ≠ s.gen 52 then (false, s.staleDomain)
      else if h.pseq ≠ (s.rx h.src).expect.getD h.tc.val 0 then (false, s.modFab fun x => { x with gap := satAdd 16383 x.gap 1 })
      else (true, s.countedPkt h) := by
  obtain ⟨h1, h2, h3⟩ := ha
  unfold State.accept
  rw [if_neg (by simp [h1, h2]), if_neg (by simp [h3])]
  dsimp only
  rw [if_neg (by simp [hk])]
  rfl

/-- Counting a packet leaves the routes. -/
theorem countedPkt_route (s : State) (h : FabHdr) (d : Nat) : (s.countedPkt h).route d = s.route d := rfl

/-- The kinds that wait for their time. -/
theorem fixedKind_eq {h : FabHdr} {k : Nat} (h1 : h.tc.val = kindClass k) (hk : k ≠ K.pathfence) :
    ((h.tc.val = 0 || h.tc.val = 2) && k ≠ K.ack && k ≠ K.pathfence && k ≠ K.pfack) = fixedKind k := by
  unfold fixedKind; rw [h1]; simp [hk]

/-- A packet that is not accepted. -/
theorem arrive_no {s t : State} {c : Instr} {h : FabHdr} {k : Nat} {f : State → State} (e : s.accept h k = (false, t)) :
    s.arrive c h k f = t := by
  unfold State.arrive; rw [e]; rfl

/-- A packet that is delivered as it arrives. -/
theorem arrive_delivered {s v : State} {h : FabHdr} {k : Nat} {c : Instr} {f : State → State} (hd : Delivered s h k v)
    (hk : k ≠ K.pathfence) : s.arrive c h k f = v.deliverPkt h k f := by
  obtain ⟨ho, h1, h2⟩ := hd
  unfold State.arrive
  rw [accept_ok ho hk]
  dsimp only
  rw [fixedKind_eq ho.1.1 hk, countedPkt_route]
  simp only [Bool.not_true, Bool.false_eq_true, if_false]
  by_cases hf : fixedKind k = true
  · have := h1 hf
    by_cases ha : h.age = (s.route h.src).delay
    · rw [if_pos (by simp [ha]), h2, if_neg (by omega)]
    · rw [if_neg (by simp [hf, ha]), if_neg (by omega), h2, if_pos ⟨hf, by omega⟩]
  · rw [if_pos (by simp [hf]), h2, if_neg (by simp [hf])]

/-- Delivery, with an acknowledgement. -/
theorem deliverPkt_ack {s : State} {h : FabHdr} {k : Nat} {f : State → State} (hk : (needsAck k && decide (k ≠ K.pathfence)) = true) :
    s.deliverPkt h k f = (f s).sendAck h := by
  unfold State.deliverPkt; rw [if_pos hk]

/-- The rows of the control packets. -/
theorem fab_exec {c : Instr} {h : FabHdr} {k : Nat} {f : State → State} (hp : fabParts c = some (h, k, f)) :
    k ≠ K.pathfence ∧ ∀ s, exec c s = .next (s.arrive c h k f) := by
  unfold fabParts at hp
  split at hp
  all_goals first
    | (cases hp; done)
    | (simp only [Option.some.injEq, Prod.mk.injEq] at hp
       obtain ⟨e1, e2, e3⟩ := hp; subst e1 e2 e3
       exact ⟨by decide, fun _ => rfl⟩)

/-- Coherence packets are no PATHFENCE. -/
theorem cohKind_ne (op : CohOp) : cohKind op ≠ K.pathfence := by
  cases op <;> (intro h; simp [cohKind, K.cohReq, K.cohRsp, K.pathfence] at h)

/-- The rows of coherence messages. -/
theorem coh_exec {c : Instr} {v : Option FabHdr} {op : CohOp} {f : State → State} (hp : cohParts c = some (v, op, f)) (s : State) :
    exec c s = .next (s.cohArrive c v op f) := by
  unfold cohParts at hp
  split at hp
  all_goals first
    | (cases hp; done)
    | (simp only [Option.some.injEq, Prod.mk.injEq] at hp
       obtain ⟨e1, e2, e3⟩ := hp; subst e1 e2 e3
       rfl)

/-- Every packet row arrives. -/
theorem packet_exec {c : Instr} {h : FabHdr} {k : Nat} (hp : packetRow c = some (h, k)) :
    k ≠ K.pathfence ∧ ∀ s, ∃ f, exec c s = .next (s.arrive c h k f) := by
  unfold packetRow at hp
  rcases h1 : fabParts c with _ | ⟨a, b, f⟩
  · rw [h1] at hp
    rcases h2 : cohParts c with _ | ⟨_ | a, op, f⟩
    all_goals rw [h2] at hp
    case some.some =>
      simp only [Option.some.injEq, Prod.mk.injEq] at hp
      obtain ⟨e1, e2⟩ := hp; subst e1 e2
      exact ⟨cohKind_ne _, fun s => ⟨f, coh_exec h2 s⟩⟩
    all_goals
      dsimp only at hp
      split at hp
      case h_7 => cases hp
      all_goals
        simp only [Option.some.injEq, Prod.mk.injEq] at hp
        obtain ⟨e1, e2⟩ := hp; subst e1 e2
      · exact ⟨by decide, fun _ => ⟨takeWrite _ _ _ _, rfl⟩⟩
      · exact ⟨by decide, fun _ => ⟨takeRead _ _ _, rfl⟩⟩
      · exact ⟨by decide, fun _ => ⟨takeAck _ _ _, rfl⟩⟩
      · exact ⟨by decide, fun s => ⟨takePfack _ (s.pfackCounts _ _ _), rfl⟩⟩
      · exact ⟨by decide, fun _ => ⟨_, rfl⟩⟩
      · exact ⟨by decide, fun _ => ⟨_, rfl⟩⟩
  · rw [h1] at hp
    simp only [Option.some.injEq, Prod.mk.injEq] at hp
    obtain ⟨e1, e2⟩ := hp; subst e1 e2
    exact ⟨(fab_exec h1).1, fun s => ⟨f, (fab_exec h1).2 s⟩⟩

/-- A delivered packet acts and is acknowledged. -/
theorem delivered_next {s v : State} {h : FabHdr} {k : Nat} {c : Instr} {f : State → State} (hd : Delivered s h k v)
    (hk : (needsAck k && decide (k ≠ K.pathfence)) = true) (he : exec c s = .next (s.arrive c h k f)) :
    exec c s = .next ((f v).sendAck h) := by
  rw [he, arrive_delivered hd (by intro e; simp [e] at hk), deliverPkt_ack hk]

/-- A delivered ACK or PFACK acts. -/
theorem delivered_plain {s v : State} {h : FabHdr} {k : Nat} {c : Instr} {f : State → State} (hd : Delivered s h k v)
    (hk : k = K.ack ∨ k = K.pfack) (he : exec c s = .next (s.arrive c h k f)) : exec c s = .next (f v) := by
  rw [he, arrive_delivered hd (by rcases hk with e | e <;> rw [e] <;> decide)]
  unfold State.deliverPkt
  rw [if_neg (by rcases hk with e | e <;> rw [e] <;> decide)]

/-- The next state, rewritten. -/
theorem next_congr {c : Instr} {s x y : State} (h : exec c s = .next x) (e : x = y) : exec c s = .next y := e ▸ h

/-- Coherence packets are acknowledged. -/
theorem cohKind_ack (op : CohOp) : (needsAck (cohKind op) && decide (cohKind op ≠ K.pathfence)) = true := by
  cases op <;> simp [cohKind, needsAck, K.cohReq, K.cohRsp, K.pathfence, K.ack, K.pfack]

/-- A coherence message that comes acts. -/
theorem comes_next {c : Instr} {via : Option FabHdr} {op : CohOp} {f : State → State} {s v : State}
    (hp : cohParts c = some (via, op, f)) (hc : Comes s via (cohKind op) v) : exec c s = .next ((f v).acked via) := by
  rw [coh_exec hp]
  cases via with
  | none => cases hc; rfl
  | some h => exact congrArg _ ((arrive_delivered hc (cohKind_ne op)).trans (deliverPkt_ack (cohKind_ack op)))

/-- A coherence message whose effect is known. -/
theorem comes_to {c : Instr} {via : Option FabHdr} {op : CohOp} {k : Nat} {f : State → State} {s v w : State}
    (hp : cohParts c = some (via, op, f)) (hk : cohKind op = k) (hc : Comes s via k v) (e : f v = w) : exec c s = .next (w.acked via) := by
  subst hk; rw [comes_next hp hc, e]

/-- No answer is awaited of a kind. -/
theorem awaited_none {e : DirEntry} {p : Await → Bool} (h : ∀ a ∈ e.awaits, p a = false) : e.awaited p = none := by
  unfold DirEntry.awaited
  rw [List.find?_eq_none]
  intro a ha; simp [h a ha]

/-- The requests and Puts that a home takes. -/
theorem homeTakes_rows {c : Instr} {op : CohOp} {via : Option FabHdr} {src l : Nat} {d : List Byte} {m : Fin 16}
    (h : (c, op) ∈ [(Instr.rds via src l, CohOp.rds), (.rdx via src l, .rdx), (.upg via src l, .upg), (.puts via src l, .puts),
      (.pute via src l, .pute), (.puto via src l d m, .puto), (.putm via src l d m, .putm)]) :
    cohKind op = K.cohReq ∧ ∃ k, cohParts c = some (via, op, fun s => s.homeTakes via src l op k) := by
  simp only [List.mem_cons, Prod.mk.injEq, List.not_mem_nil, or_false] at h
  rcases h with ⟨e1, e2⟩ | ⟨e1, e2⟩ | ⟨e1, e2⟩ | ⟨e1, e2⟩ | ⟨e1, e2⟩ | ⟨e1, e2⟩ | ⟨e1, e2⟩ <;> subst e1 e2 <;> exact ⟨rfl, _, rfl⟩

/-- An admitted request goes on. -/
theorem homeTakes_admitted {s : State} {via : Option FabHdr} {src l : Nat} {op : CohOp} {k : Obj → State → State} {o : Obj}
    (hw : s.window l = some o) (ha : s.admits o src = true) (hl : s.stillDead src = false) (hg : ∀ h, via = some h → s.grantOk h 128 (cohRight op) = true) :
    s.homeTakes via src l op k = k o (s.reviveAgent src) := by
  unfold State.homeTakes
  rw [hw]
  dsimp only
  rw [if_neg, if_neg (by simp [ha]), if_neg (by simp [hl])]
  cases via with
  | none => simp
  | some h => simp [hg h rfl]

end Sys2Proof.Laws
end

