-- ==== Sys2Proof/Laws/Registers.lean ====
section
/-! SUPPORT. Register writes: the row, the register, the answer. -/

namespace Sys2Proof.Laws

open Sys2Proof Sys2Proof.Machine

set_option maxRecDepth 8000

/-- The place at a register of the function. -/
theorem placeAt_reg {f : Nat} {r : Reg} (h : regAt f r.offset = some r) : placeAt f r.offset = .reg r := by
  unfold placeAt; rw [h]

/-- Registers are aligned. -/
theorem offset_aligned (r : Reg) : r.offset % 8 = 0 := by
  cases r
  all_goals first | rfl | (simp only [Reg.offset]; omega)

/-- What arrives with nothing ahead of it is taken at once. -/
theorem at_once {s : State} {p : Path} (h : s.atOnce p = true) (c : Instr) (k : State → State) : s.inOrderAt p c k = k s := by
  cases p with
  | bar q f i =>
    have h : (s.writeWaits q || !(s.port q).behind.isEmpty) = false := by simpa [State.atOnce] using h
    unfold State.inOrderAt State.inOrder
    simp only [h, Bool.false_eq_true, if_false]
  | _ => rfl

/-- A write that reaches a register. -/
theorem writeReg_at {s : State} {p : Path} {r : Reg} {v : Word} (ha : Reaches s p) (hr : regAt (Path.func p) r.offset = some r) :
    writeRegister p r.offset v false s = (match s.writeReg p r v.toNat with | .ok t => t.inta | .error e => s.regErr p 0 r.offset e) := by
  unfold writeRegister State.writeAt
  rw [placeAt_reg hr, ha.2.1, ha.2.2]
  simp [offset_aligned]
  all_goals (cases s.writeReg p r v.toNat <;> rfl)

/-- The rows that are one register write. -/
theorem writeRow_exec {i : Instr} {p : Path} {r : Reg} {v : Word} (h : writeRow i = some (p, r, v)) (s : State) :
    exec i s = .next (writeNamed p r v s) := by
  cases i
  all_goals first | (simp [writeRow] at h; done) | skip
  all_goals first
    | (simp only [writeRow, Option.some.injEq, Prod.mk.injEq] at h; obtain ⟨e1, e2, e3⟩ := h; subst e1 e2 e3; rfl)
    | (rename_i req path value; cases req
       · simp only [writeRow, Option.some.injEq, Prod.mk.injEq] at h; obtain ⟨e1, e2, e3⟩ := h; subst e1 e2 e3; rfl
       · simp [writeRow] at h)

/-- A legal write does what the register does. -/
theorem writes_row {i : Instr} {s : State} {p : Path} {r : Reg} {v : Word} (h : writeRow i = some (p, r, v)) (hw : Writes s p r v) :
    exec i s = .next (match s.pokeReg p v.toNat r with | .ok t => t.inta | .error e => s.regErr p 0 r.offset e) := by
  obtain ⟨ha, hr, hm, hv, hl⟩ := hw
  rw [writeRow_exec h]
  unfold writeNamed writeArrives
  rw [at_once ha.1, writeReg_at ha hr]
  unfold State.writeReg
  have : (r.mgmtOnly && (Path.fn p).isSome) = false := by
    rcases hm with e | e <;> simp [e]
  simp only [this, hv, hl, Bool.or_false, if_false, Bool.false_eq_true]

/-- A write that is taken. -/
theorem row_ok {i : Instr} {s t : State} {p : Path} {r : Reg} {v : Word} (h : writeRow i = some (p, r, v)) (hw : Writes s p r v)
    (e : s.pokeReg p v.toNat r = .ok t) : exec i s = .next t.inta := by
  rw [writes_row h hw, e]

/-- A write that is rejected. -/
theorem row_err {i : Instr} {s : State} {p : Path} {r : Reg} {v : Word} {c : Nat} (h : writeRow i = some (p, r, v)) (hw : Writes s p r v)
    (e : s.pokeReg p v.toNat r = .error c) : exec i s = .next (s.regErr p 0 r.offset c) := by
  rw [writes_row h hw, e]

end Sys2Proof.Laws
end

