-- ==== Sys2Proof/Laws/Requests.lean ====
section
/-! SUPPORT. SPDM requests and management requests: admission, and the effect that follows. -/

namespace Sys2Proof.Laws

open Sys2Proof Sys2Proof.Machine

set_option maxRecDepth 8000

/-- Asks of one range each: as many as there is room for go out, in their order. -/
theorem fitAsks_singles : ∀ (n : Nat) (l : List InvAsk), (∀ x ∈ l, x.ranges.length = 1) → fitAsks n l = (l.take n, l.drop n)
  | 0, [], _ => rfl
  | 0, x :: l, h => by
    unfold fitAsks
    rw [if_neg (by rw [h x (.head _)]; decide)]
    rfl
  | n + 1, [], _ => rfl
  | n + 1, x :: l, h => by
    unfold fitAsks
    rw [if_pos (by rw [h x (.head _)]; omega), h x (.head _)]
    show (x :: (fitAsks n l).1, (fitAsks n l).2) = _
    rw [fitAsks_singles n l fun y hy => h y (.tail _ hy)]
    rfl

theorem asksSize_singles : ∀ (l : List InvAsk), (∀ x ∈ l, x.ranges.length = 1) → asksSize l = l.length
  | [], _ => rfl
  | x :: l, h => by
    have := asksSize_singles l fun y hy => h y (.tail _ hy)
    unfold asksSize at this ⊢
    rw [List.map_cons, List.sum_cons, this, h x (.head _), List.length_cons]
    omega

/-- What goes out never passes the room, and what waits is the rest, in order (R255). -/
theorem fitAsks_fits : ∀ (n : Nat) (l : List InvAsk), asksSize (fitAsks n l).1 ≤ n ∧ (fitAsks n l).1 ++ (fitAsks n l).2 = l
  | n, [] => ⟨Nat.zero_le n, rfl⟩
  | n, x :: l => by
    unfold fitAsks
    split
    · rename_i h
      have := fitAsks_fits (n - x.ranges.length) l
      refine ⟨?_, by rw [List.cons_append, this.2]⟩
      have h2 := this.1
      unfold asksSize at h2 ⊢
      rw [List.map_cons, List.sum_cons]
      omega
    · exact ⟨Nat.zero_le n, rfl⟩

/-- A request on a path that is up. -/
theorem spdm_up {s : State} {p : SpdmPath} {k : State → State} (h : s.spdmUp p = true) : s.spdm p k = k s := by
  unfold State.spdm; rw [if_pos h]

/-- A request on a path that is down. -/
theorem spdm_down {s : State} {p : SpdmPath} {k : State → State} (h : s.spdmUp p = false) : s.spdm p k = s := by
  unfold State.spdm; rw [if_neg (by simp [h])]

/-- A session request on a path that is down. -/
theorem inSession_down {s : State} {p : SpdmPath} {id : Nat} {k : Session → State → State} (h : s.spdmUp p = false) :
    s.inSession p id k = s := by
  unfold State.inSession; rw [spdm_down h]

/-- A request inside a secured session. -/
theorem inSession_ready {s : State} {p : SpdmPath} {id : Nat} {x : Session} {k : Session → State → State} (h : s.spdmUp p = true)
    (hx : s.session p id = some x) (hr : x.ready = true) : s.inSession p id k = k x s := by
  unfold State.inSession; rw [spdm_up h, hx]; dsimp only; rw [if_pos hr]

/-- A TDISP request of a VF that exists. -/
theorem tdisp_ready {s : State} {p : Side} {id : Nat} {vf : Nat} {x : Session} {k : Tdi → State → State} (h : s.spdmUp (.doe p) = true)
    (hx : s.session (.doe p) id = some x) (hr : x.ready = true) (hv : vf ≠ 0) (he : (s.port p).vfEnable = true) :
    s.tdisp p id vf k = k (s.tdi p vf) s := by
  unfold State.tdisp; rw [inSession_ready h hx hr, if_neg (by simp [hv, he])]

/-- CC_HALT as a management request. -/
theorem ccHalt_request (r : MgtReq) (t : Side) (n : Fin 8) (act : CcAct) (s : State) : exec (.ccHalt r t n act) s =
    .next (mgtRequest (.ccHalt r t n act) r 0x0022 roleDebug (some [t.num, n.val, match act with | .halt => 0 | .step => 1 | .resume => 2])
      noCheck s fun _ s =>
        (match act with
        | .halt => (if s.carries t = true then s.touched (s.homeOf t) 0x0022 s.time.last else s).modTwin t fun w => { w with halted := setBit w.halted n.val true }
        | .step => (if s.carries t = true then s.touched (s.homeOf t) 0x0022 s.time.last else s)
        | .resume => (if s.carries t = true then s.touched (s.homeOf t) 0x0022 s.time.last else s).modTwin t fun w => { w with halted := setBit w.halted n.val false }).mgtSay r E.ok []) := by
  cases act <;> rfl

/-- CLEAR_OOS as a management request. -/
theorem clearOos_request (r : MgtReq) (p : Path) (v : Word) (s : State) : exec (.clearOos (some r) p v) s =
    .next (mgtRequest (.clearOos (some r) p v) r 0x0034 roleOperate (some [v.toNat])
      (fun _ s => if (s.twin (Side.ofBool (tst v.toNat 48))).state ≠ .outOfService then E.badField else E.ok) s
      fun _ s => (s.clearOosNow (Side.ofBool (tst v.toNat 48))).mgtSay r E.ok []) := rfl

/-- The management rows. -/
theorem mgt_exec {c : Instr} {r : MgtReq} {op role : Nat} {dg : Option (List Nat)} (h : mgtRow c = some (r, op, role, dg)) (s : State) :
    ∃ ck k, exec c s = .next (mgtRequest c r op role dg ck s k) := by
  unfold mgtRow at h
  split at h
  all_goals first
    | (cases h; done)
    | (simp only [Option.some.injEq, Prod.mk.injEq] at h; obtain ⟨e1, e2, e3, e4⟩ := h; subst e1 e2 e3 e4; first | with_reducible exact ⟨_, _, ccHalt_request _ _ _ _ _⟩ | with_reducible exact ⟨_, _, clearOos_request _ _ _ _⟩ | exact ⟨_, _, rfl⟩)

/-- A request that is carried. -/
theorem mgt_carried {c : Instr} {r : MgtReq} {op role : Nat} {dg : Option (List Nat)} {ck : Session → State → Nat} {s : State} {x : Session}
    {k : Session → State → State} (h : Carried s r x) : mgtRequest c r op role dg ck s k = s.stamped c fun st s =>
            if !tst x.roles role then s.mgtSay r E.notAuthorised []
            else if ck x s ≠ E.ok then s.mgtSay r (ck x s) []
            else
              match dg with
              | none => k x s
              | some args =>
                k x ((s.measExtend 7 (sha384 (Config.requestBytes op r.tag args))).log st 7 0 none 0 op (x.slot.getD 8)) := by
  obtain ⟨h1, h2, h3, h4⟩ := h
  unfold mgtRequest
  rcases h1 with e | e <;> (rw [e] at h2 h3 ⊢; dsimp only; rw [if_neg (by simp [h2]), h3]; dsimp only; rw [if_neg (by simp [h4])]; all_goals (cases dg <;> rfl))

/-- A request that no session carries. -/
theorem mgt_not {c : Instr} {r : MgtReq} {op role : Nat} {dg : Option (List Nat)} {ck : Session → State → Nat} {s : State}
    {k : Session → State → State} (h : ∀ x, ¬Carried s r x) : mgtRequest c r op role dg ck s k = s := by
  unfold mgtRequest
  rcases e : r.path with p | _ | _
  · rfl
  all_goals
    dsimp only
    by_cases h2 : s.spdmUp r.path = true
    · rw [e] at h2
      rw [if_neg (by simp [h2])]
      rcases h3 : s.session r.path r.session with _ | x
      · rw [e] at h3; rw [h3]
      · rw [e] at h3; rw [h3]
        dsimp only
        by_cases h4 : x.ready = true
        · exact absurd ⟨by simp [e], by rw [e]; exact h2, by rw [e]; exact h3, h4⟩ (h x)
        · rw [if_pos (by simpa using h4)]
    · rw [e] at h2
      rw [if_pos (by simpa using h2)]

/-- A request that is admitted and passes its own checks acts. -/
theorem asks_go {c : Instr} {r : MgtReq} {op role : Nat} {dg : Option (List Nat)} {ck : Session → State → Nat} {s u w : State} {x : Session}
    {k : Session → State → State} (h : Asks c s r x u) (hr : mgtRow c = some (r, op, role, dg)) (hc : ck x s.stamp.2 = E.ok)
    (e : k x u = w) :
    (Host.Outcome.next (mgtRequest c r op role dg ck s k) : Host.Outcome State Fault Refusal) = .next w := by
  obtain ⟨op', role', dg', h1, h2, h3, h4, h5⟩ := h
  rw [hr] at h1
  simp only [Option.some.injEq, Prod.mk.injEq, true_and] at h1
  obtain ⟨e2, e3, e4⟩ := h1
  subst e2 e3 e4
  rw [mgt_carried h2, stamped_go h3, if_neg (by simp [h4]), if_neg (by simp [hc]), ← e, h5]
  cases dg <;> rfl

/-- A request that fails one of its own checks is answered, and nothing is extended or logged. -/
theorem asks_no {c : Instr} {r : MgtReq} {op role : Nat} {dg : Option (List Nat)} {ck : Session → State → Nat} {s u : State} {x : Session}
    {k : Session → State → State} {code : Nat} (h : Asks c s r x u) (hr : mgtRow c = some (r, op, role, dg)) (hc : ck x s.stamp.2 = code)
    (hn : code ≠ E.ok) :
    (Host.Outcome.next (mgtRequest c r op role dg ck s k) : Host.Outcome State Fault Refusal) = .next (s.stamp.2.mgtSay r code []) := by
  obtain ⟨op', role', dg', h1, h2, h3, h4, h5⟩ := h
  rw [hr] at h1
  simp only [Option.some.injEq, Prod.mk.injEq, true_and] at h1
  obtain ⟨e2, e3, e4⟩ := h1
  subst e2 e3 e4
  rw [mgt_carried h2, stamped_go h3, if_neg (by simp [h4]), if_pos (by rw [hc]; exact hn), hc]

end Sys2Proof.Laws
end

