-- ==== Sys2Proof/Laws/Rows.lean ====
section
/-! SUPPORT. What each row can change: one frame lemma per constructor of Instr. -/

namespace Sys2Proof.Machine

theorem execPowerUp_frame (xstart : Fin 8) (s : State) {s' : State}
    (he : exec (.powerUp xstart) s = .next s') :
    Frame 24576 s s' := by
  obtain rfl := Host.Outcome.next.inj he
  apply powerUp_frame (M := 24576) <;> first | exact Frame.rfl | rfl

theorem execIoscTrim_frame (s : State) {s' : State}
    (he : exec (.ioscTrim) s = .next s') :
    Frame 16384 s s' := by
  obtain rfl := Host.Outcome.next.inj he
  apply ioscTrim_frame (M := 16384) <;> first | exact Frame.rfl | rfl

theorem execXtalCheck_frame (count : Nat) (s : State) {s' : State}
    (he : exec (.xtalCheck count) s = .next s') :
    Frame 16384 s s' := by
  obtain rfl := Host.Outcome.next.inj he
  apply xtalCheck_frame (M := 16384) <;> first | exact Frame.rfl | rfl

theorem execPllLocked_frame (s : State) {s' : State}
    (he : exec (.pllLocked) s = .next s') :
    Frame 49156 s s' := by
  obtain rfl := Host.Outcome.next.inj he
  apply pllLocked_frame (M := 49156) <;> first | exact Frame.rfl | rfl

theorem execSharedMbistDone_frame (sig : Word) (s : State) {s' : State}
    (he : exec (.sharedMbistDone sig) s = .next s') :
    Frame 16384 s s' := by
  obtain rfl := Host.Outcome.next.inj he
  apply sharedMbist_frame (M := 16384) <;> first | exact Frame.rfl | rfl

theorem execImageLoadDone_frame (t : Side) (s : State) {s' : State}
    (he : exec (.imageLoadDone t) s = .next s') :
    Frame 3206412 s s' := by
  obtain rfl := Host.Outcome.next.inj he
  apply imageLoadDone_frame (M := 3206412) <;> first | exact Frame.rfl | rfl

theorem execImageRemeasureDone_frame (t : Side) (s : State) {s' : State}
    (he : exec (.imageRemeasureDone t) s = .next s') :
    Frame 58372 s s' := by
  obtain rfl := Host.Outcome.next.inj he
  apply imageRemeasureDone_frame (M := 58372) <;> first | exact Frame.rfl | rfl

theorem execSelftestDone_frame (t : Side) (mbist : Word) (lbist : Word) (s : State) {s' : State}
    (he : exec (.selftestDone t mbist lbist) s = .next s') :
    Frame 1502492 s s' := by
  obtain rfl := Host.Outcome.next.inj he
  apply selftestDone_frame (M := 1502492) <;> first | exact Frame.rfl | rfl

theorem execTwinResetRelease_frame (t : Side) (s : State) {s' : State}
    (he : exec (.twinResetRelease t) s = .next s') :
    Frame 8196 s s' := by
  obtain rfl := Host.Outcome.next.inj he
  apply twinResetRelease_frame (M := 8196) <;> first | exact Frame.rfl | rfl

theorem execTickBoundary_frame (missA : Bool) (missB : Bool) (s : State) {s' : State}
    (he : exec (.tickBoundary missA missB) s = .next s') :
    Frame 4194302 s s' := by
  obtain rfl := Host.Outcome.next.inj he
  apply boundary_frame (M := 4194302) <;> first | exact Frame.rfl | rfl

theorem execThrottleRequest_frame (input : PowerInput) (s : State) {s' : State}
    (he : exec (.throttleRequest input) s = .next s') :
    Frame 2048 s s' := by
  obtain rfl := Host.Outcome.next.inj he
  repeat' (first
    | with_reducible intro _ | with_reducible assumption
    | with_reducible apply State.modPlan_frame (M := 2048)
    | with_reducible apply State.request_frame (M := 2048)
    | exact Frame.rfl | rfl | split)

theorem execDetachForced_frame (s : State) {s' : State}
    (he : exec (.detachForced) s = .next s') :
    Frame 8192 s s' := by
  obtain rfl := Host.Outcome.next.inj he
  apply detachForced_frame (M := 8192) <;> first | exact Frame.rfl | rfl

theorem execDiscoveryPhaseEnd_frame (s : State) {s' : State}
    (he : exec (.discoveryPhaseEnd) s = .next s') :
    Frame 1246768 s s' := by
  obtain rfl := Host.Outcome.next.inj he
  apply discoveryPhaseEnd_frame (M := 1246768) <;> first | exact Frame.rfl | rfl

theorem execCeWindowStart_frame (engine : Fin 40) (entry : Nat) (s : State) {s' : State}
    (he : exec (.ceWindowStart engine entry) s = .next s') :
    Frame 1555862 s s' := by
  obtain rfl := Host.Outcome.next.inj he
  apply ceWindow_frame (M := 1555862) <;> first | exact Frame.rfl | rfl

theorem execWalkComplete_frame (ctx : Nat) (queue : Nat) (cva : Nat) (access : Access) (s : State) {s' : State}
    (he : exec (.walkComplete ctx queue cva access) s = .next s') :
    Frame 1090710 s s' := by
  obtain rfl := Host.Outcome.next.inj he
  apply walkComplete_frame (M := 1090710) <;> first | exact Frame.rfl | rfl

theorem execAtsTranslationCompletion_frame (p : Side) (tag : Nat) (result : AtsResult) (s : State) {s' : State}
    (he : exec (.atsTranslationCompletion p tag result) s = .next s') :
    Frame 3653526 s s' := by
  obtain rfl := Host.Outcome.next.inj he
  apply atsCompletion_frame (M := 3653526) <;> first | exact Frame.rfl | rfl

theorem execAtsInvalidationRequest_frame (p : Side) (f : Fin 128) (itag : Nat) (pasid : Option Nat) (addr : Nat) (size : Nat) (s : State) {s' : State}
    (he : exec (.atsInvalidationRequest p f itag pasid addr size) s = .next s') :
    Frame 128 s s' := by
  obtain rfl := Host.Outcome.next.inj he
  apply atsInvalidate_frame (M := 128) <;> first | exact Frame.rfl | rfl

theorem execAtsInvalidationCompletion_frame (p : Side) (f : Fin 128) (itag : Nat) (s : State) {s' : State}
    (he : exec (.atsInvalidationCompletion p f itag) s = .next s') :
    Frame 1048704 s s' := by
  obtain rfl := Host.Outcome.next.inj he
  apply atsInvDone_frame (M := 1048704) <;> first | exact Frame.rfl | rfl

theorem execPrgResponse_frame (p : Side) (f : Fin 128) (index : Nat) (gen : Nat) (code : PrgCode) (s : State) {s' : State}
    (he : exec (.prgResponse p f index gen code) s = .next s') :
    Frame 1057426 s s' := by
  obtain rfl := Host.Outcome.next.inj he
  apply prgResponse_frame (M := 1057426) <;> first | exact Frame.rfl | rfl

theorem execPriTimeout_frame (p : Side) (index : Nat) (s : State) {s' : State}
    (he : exec (.priTimeout p index) s = .next s') :
    Frame 144 s s' := by
  obtain rfl := Host.Outcome.next.inj he
  apply priTimeout_frame (M := 144) <;> first | exact Frame.rfl | rfl

theorem execStallLimit_frame (p : Side) (f : Fin 128) (id : Nat) (s : State) {s' : State}
    (he : exec (.stallLimit p f id) s = .next s') :
    Frame 144 s s' := by
  obtain rfl := Host.Outcome.next.inj he
  apply stallLimit_frame (M := 144) <;> first | exact Frame.rfl | rfl

theorem execFaultRespRetry_frame (path : Path) (value : Word) (s : State) {s' : State}
    (he : exec (.faultRespRetry path value) s = .next s') :
    Frame 1835006 s s' := by
  obtain rfl := Host.Outcome.next.inj he
  apply writeNamed_frame (M := 1835006) <;> first | exact Frame.rfl | rfl

theorem execFaultRespFail_frame (path : Path) (value : Word) (s : State) {s' : State}
    (he : exec (.faultRespFail path value) s = .next s') :
    Frame 1835006 s s' := by
  obtain rfl := Host.Outcome.next.inj he
  apply writeNamed_frame (M := 1835006) <;> first | exact Frame.rfl | rfl

theorem execXltProbe_frame (path : Path) (value : Word) (s : State) {s' : State}
    (he : exec (.xltProbe path value) s = .next s') :
    Frame 1835006 s s' := by
  obtain rfl := Host.Outcome.next.inj he
  apply writeNamed_frame (M := 1835006) <;> first | exact Frame.rfl | rfl

theorem execFringProgram_frame (path : Path) (value : Word) (s : State) {s' : State}
    (he : exec (.fringProgram path value) s = .next s') :
    Frame 1835006 s s' := by
  obtain rfl := Host.Outcome.next.inj he
  apply writeNamed_frame (M := 1835006) <;> first | exact Frame.rfl | rfl

theorem execDoorbell_frame (path : Path) (offset : Nat) (width : Nat) (value : Word) (poisoned : Bool) (s : State) {s' : State}
    (he : exec (.doorbell path offset width value poisoned) s = .next s') :
    Frame 33626 s s' := by
  obtain rfl := Host.Outcome.next.inj he
  refine State.inOrderAt_frame (M := 33626) _ _ _ _ (by exact rfl) ?_ Frame.rfl
  intro y0 fr
  exact doorbell_frame _ _ _ _ _ _ _ (by exact rfl) fr

theorem execSlotFetch_frame (tag : QueueTag) (bytes : List Byte) (poisoned : Bool) (s : State) {s' : State}
    (he : exec (.slotFetch tag bytes poisoned) s = .next s') :
    Frame 1156278 s s' := by
  obtain rfl := Host.Outcome.next.inj he
  apply fetchSlot_frame (M := 1156278) <;> first | exact Frame.rfl | rfl

theorem execPredicateReadComplete_frame (tag : WordTag) (word : Nat) (poisoned : Bool) (s : State) {s' : State}
    (he : exec (.predicateReadComplete tag word poisoned) s = .next s') :
    Frame 1156502 s s' := by
  obtain rfl := Host.Outcome.next.inj he
  apply readPredicate_frame (M := 1156502) <;> first | exact Frame.rfl | rfl

theorem execCommandComplete_frame (queue : Nat) (s : State) {s' : State}
    (he : exec (.commandComplete queue) s = .next s') :
    Frame 1551798 s s' := by
  obtain rfl := Host.Outcome.next.inj he
  apply commandComplete_frame (M := 1551798) <;> first | exact Frame.rfl | rfl

theorem execNop_frame (ref : CmdRef) (s : State) {s' : State}
    (he : exec (.nop ref) s = .next s') :
    Frame 1050896 s s' := by
  obtain rfl := Host.Outcome.next.inj he
  apply endAtStart_frame (M := 1050896) <;> first | exact Frame.rfl | rfl

theorem execFenceSignal_frame (ref : CmdRef) (s : State) {s' : State}
    (he : exec (.fenceSignal ref) s = .next s') :
    Frame 1050896 s s' := by
  obtain rfl := Host.Outcome.next.inj he
  apply endAtStart_frame (M := 1050896) <;> first | exact Frame.rfl | rfl

theorem execFenceWait_frame (ref : CmdRef) (s : State) {s' : State}
    (he : exec (.fenceWait ref) s = .next s') :
    Frame 1050896 s s' := by
  obtain rfl := Host.Outcome.next.inj he
  apply fenceWait_frame (M := 1050896) <;> first | exact Frame.rfl | rfl

theorem execWriteInline_frame (ref : CmdRef) (s : State) {s' : State}
    (he : exec (.writeInline ref) s = .next s') :
    Frame 1551766 s s' := by
  obtain rfl := Host.Outcome.next.inj he
  apply writeInline_frame (M := 1551766) <;> first | exact Frame.rfl | rfl

theorem execBarrier_frame (ref : CmdRef) (s : State) {s' : State}
    (he : exec (.barrier ref) s = .next s') :
    Frame 1050896 s s' := by
  obtain rfl := Host.Outcome.next.inj he
  apply endAtStart_frame (M := 1050896) <;> first | exact Frame.rfl | rfl

theorem execCopy_frame (ref : CmdRef) (s : State) {s' : State}
    (he : exec (.copy ref) s = .next s') :
    Frame 1050896 s s' := by
  obtain rfl := Host.Outcome.next.inj he
  apply engineStart_frame (M := 1050896) <;> first | exact Frame.rfl | rfl

theorem execCopy2d_frame (ref : CmdRef) (s : State) {s' : State}
    (he : exec (.copy2d ref) s = .next s') :
    Frame 1050896 s s' := by
  obtain rfl := Host.Outcome.next.inj he
  apply engineStart_frame (M := 1050896) <;> first | exact Frame.rfl | rfl

theorem execGather_frame (ref : CmdRef) (s : State) {s' : State}
    (he : exec (.gather ref) s = .next s') :
    Frame 1050896 s s' := by
  obtain rfl := Host.Outcome.next.inj he
  apply engineStart_frame (M := 1050896) <;> first | exact Frame.rfl | rfl

theorem execScatter_frame (ref : CmdRef) (s : State) {s' : State}
    (he : exec (.scatter ref) s = .next s') :
    Frame 1050896 s s' := by
  obtain rfl := Host.Outcome.next.inj he
  apply engineStart_frame (M := 1050896) <;> first | exact Frame.rfl | rfl

theorem execFill_frame (ref : CmdRef) (s : State) {s' : State}
    (he : exec (.fill ref) s = .next s') :
    Frame 1050896 s s' := by
  obtain rfl := Host.Outcome.next.inj he
  repeat' (first
    | with_reducible intro _ | with_reducible assumption
    | with_reducible apply engineStart_frame (M := 1050896)
    | with_reducible apply State.fill_frame (M := 1050896)
    | exact Frame.rfl | rfl | split)

theorem execQuantize_frame (ref : CmdRef) (s : State) {s' : State}
    (he : exec (.quantize ref) s = .next s') :
    Frame 1050896 s s' := by
  obtain rfl := Host.Outcome.next.inj he
  apply engineStart_frame (M := 1050896) <;> first | exact Frame.rfl | rfl

theorem execDequantize_frame (ref : CmdRef) (s : State) {s' : State}
    (he : exec (.dequantize ref) s = .next s') :
    Frame 1050896 s s' := by
  obtain rfl := Host.Outcome.next.inj he
  apply engineStart_frame (M := 1050896) <;> first | exact Frame.rfl | rfl

theorem execAccumulate_frame (ref : CmdRef) (s : State) {s' : State}
    (he : exec (.accumulate ref) s = .next s') :
    Frame 1050896 s s' := by
  obtain rfl := Host.Outcome.next.inj he
  apply engineStart_frame (M := 1050896) <;> first | exact Frame.rfl | rfl

theorem execCompact_frame (ref : CmdRef) (s : State) {s' : State}
    (he : exec (.compact ref) s = .next s') :
    Frame 1050896 s s' := by
  obtain rfl := Host.Outcome.next.inj he
  apply engineStart_frame (M := 1050896) <;> first | exact Frame.rfl | rfl

theorem execExpand_frame (ref : CmdRef) (s : State) {s' : State}
    (he : exec (.expand ref) s = .next s') :
    Frame 1050896 s s' := by
  obtain rfl := Host.Outcome.next.inj he
  apply engineStart_frame (M := 1050896) <;> first | exact Frame.rfl | rfl

theorem execDispatch_frame (ref : CmdRef) (s : State) {s' : State}
    (he : exec (.dispatch ref) s = .next s') :
    Frame 1050896 s s' := by
  obtain rfl := Host.Outcome.next.inj he
  apply engineStart_frame (M := 1050896) <;> first | exact Frame.rfl | rfl

theorem execCombine_frame (ref : CmdRef) (s : State) {s' : State}
    (he : exec (.combine ref) s = .next s') :
    Frame 1050896 s s' := by
  obtain rfl := Host.Outcome.next.inj he
  apply engineStart_frame (M := 1050896) <;> first | exact Frame.rfl | rfl

theorem execAllreduce_frame (ref : CmdRef) (s : State) {s' : State}
    (he : exec (.allreduce ref) s = .next s') :
    Frame 1551766 s s' := by
  obtain rfl := Host.Outcome.next.inj he
  apply collective_frame (M := 1551766) <;> first | exact Frame.rfl | rfl

theorem execReduceScatter_frame (ref : CmdRef) (s : State) {s' : State}
    (he : exec (.reduceScatter ref) s = .next s') :
    Frame 1551766 s s' := by
  obtain rfl := Host.Outcome.next.inj he
  apply collective_frame (M := 1551766) <;> first | exact Frame.rfl | rfl

theorem execAllgather_frame (ref : CmdRef) (s : State) {s' : State}
    (he : exec (.allgather ref) s = .next s') :
    Frame 1551766 s s' := by
  obtain rfl := Host.Outcome.next.inj he
  apply collective_frame (M := 1551766) <;> first | exact Frame.rfl | rfl

theorem execAlltoall_frame (ref : CmdRef) (s : State) {s' : State}
    (he : exec (.alltoall ref) s = .next s') :
    Frame 1551766 s s' := by
  obtain rfl := Host.Outcome.next.inj he
  apply collective_frame (M := 1551766) <;> first | exact Frame.rfl | rfl

theorem execBroadcast_frame (ref : CmdRef) (s : State) {s' : State}
    (he : exec (.broadcast ref) s = .next s') :
    Frame 1551766 s s' := by
  obtain rfl := Host.Outcome.next.inj he
  apply collective_frame (M := 1551766) <;> first | exact Frame.rfl | rfl

theorem execCollectiveBarrier_frame (ref : CmdRef) (s : State) {s' : State}
    (he : exec (.collectiveBarrier ref) s = .next s') :
    Frame 1551766 s s' := by
  obtain rfl := Host.Outcome.next.inj he
  apply collective_frame (M := 1551766) <;> first | exact Frame.rfl | rfl

theorem execCollTimeout_frame (ref : CmdRef) (s : State) {s' : State}
    (he : exec (.collTimeout ref) s = .next s') :
    Frame 1179664 s s' := by
  obtain rfl := Host.Outcome.next.inj he
  apply collTimeout_frame (M := 1179664) <;> first | exact Frame.rfl | rfl

theorem execMap_frame (ref : CmdRef) (s : State) {s' : State}
    (he : exec (.map ref) s = .next s') :
    Frame 1313168 s s' := by
  obtain rfl := Host.Outcome.next.inj he
  apply mapCmd_frame (M := 1313168) <;> first | exact Frame.rfl | rfl

theorem execUnmap_frame (ref : CmdRef) (s : State) {s' : State}
    (he : exec (.unmap ref) s = .next s') :
    Frame 1051024 s s' := by
  obtain rfl := Host.Outcome.next.inj he
  apply unmapCmd_frame (M := 1051024) <;> first | exact Frame.rfl | rfl

theorem execInvalidate_frame (ref : CmdRef) (s : State) {s' : State}
    (he : exec (.invalidate ref) s = .next s') :
    Frame 1051024 s s' := by
  obtain rfl := Host.Outcome.next.inj he
  apply invalidateCmd_frame (M := 1051024) <;> first | exact Frame.rfl | rfl

theorem execCoreInvalidateDone_frame (tag : InvTag) (s : State) {s' : State}
    (he : exec (.coreInvalidateDone tag) s = .next s') :
    Frame 1187856 s s' := by
  obtain rfl := Host.Outcome.next.inj he
  apply coreInvalidated_frame (M := 1187856) <;> first | exact Frame.rfl | rfl

theorem execLaunch_frame (ref : CmdRef) (s : State) {s' : State}
    (he : exec (.launch ref) s = .next s') :
    Frame 1050896 s s' := by
  obtain rfl := Host.Outcome.next.inj he
  apply launch_frame (M := 1050896) <;> first | exact Frame.rfl | rfl

theorem execLaunchAnswer_frame (ref : CmdRef) (gen : Nat) (code : Nat) (s : State) {s' : State}
    (he : exec (.launchAnswer ref gen code) s = .next s') :
    Frame 8208 s s' := by
  obtain rfl := Host.Outcome.next.inj he
  apply launchAnswer_frame (M := 8208) <;> first | exact Frame.rfl | rfl

theorem execOpen_frame (ref : CmdRef) (s : State) {s' : State}
    (he : exec (.open_ ref) s = .next s') :
    Frame 1314232 s s' := by
  obtain rfl := Host.Outcome.next.inj he
  apply State.atStamp_frame (M := 1314232)
  · rfl
  · apply ctxOpen_frame (M := 1314232) <;> first | exact Frame.rfl | rfl

theorem execStart_frame (ref : CmdRef) (s : State) {s' : State}
    (he : exec (.start ref) s = .next s') :
    Frame 1052088 s s' := by
  obtain rfl := Host.Outcome.next.inj he
  apply State.atStamp_frame (M := 1052088)
  · rfl
  · apply ctxStart_frame (M := 1052088) <;> first | exact Frame.rfl | rfl

theorem execPark_frame (ref : CmdRef) (s : State) {s' : State}
    (he : exec (.park ref) s = .next s') :
    Frame 1052088 s s' := by
  obtain rfl := Host.Outcome.next.inj he
  apply State.atStamp_frame (M := 1052088)
  · rfl
  · apply ctxPark_frame (M := 1052088) <;> first | exact Frame.rfl | rfl

theorem execResume_frame (ref : CmdRef) (s : State) {s' : State}
    (he : exec (.resume ref) s = .next s') :
    Frame 1052088 s s' := by
  obtain rfl := Host.Outcome.next.inj he
  apply State.atStamp_frame (M := 1052088)
  · rfl
  · apply ctxResume_frame (M := 1052088) <;> first | exact Frame.rfl | rfl

theorem execSetHome_frame (ref : CmdRef) (s : State) {s' : State}
    (he : exec (.setHome ref) s = .next s') :
    Frame 1052088 s s' := by
  obtain rfl := Host.Outcome.next.inj he
  apply State.atStamp_frame (M := 1052088)
  · rfl
  · apply ctxSetHome_frame (M := 1052088) <;> first | exact Frame.rfl | rfl

theorem execClose_frame (ref : CmdRef) (s : State) {s' : State}
    (he : exec (.close ref) s = .next s') :
    Frame 1085432 s s' := by
  obtain rfl := Host.Outcome.next.inj he
  apply State.atStamp_frame (M := 1085432)
  · rfl
  · apply ctxClose_frame (M := 1085432) <;> first | exact Frame.rfl | rfl

theorem execKill_frame (ref : CmdRef) (s : State) {s' : State}
    (he : exec (.kill ref) s = .next s') :
    Frame 1085432 s s' := by
  obtain rfl := Host.Outcome.next.inj he
  apply State.atStamp_frame (M := 1085432)
  · rfl
  · apply ctxKill_frame (M := 1085432) <;> first | exact Frame.rfl | rfl

theorem execDrainLimit_frame (ctx : Nat) (s : State) {s' : State}
    (he : exec (.drainLimit ctx) s = .next s') :
    Frame 10 s s' := by
  obtain rfl := Host.Outcome.next.inj he
  apply drainLimit_frame (M := 10) <;> first | exact Frame.rfl | rfl

theorem execQCreate_frame (ref : CmdRef) (s : State) {s' : State}
    (he : exec (.qCreate ref) s = .next s') :
    Frame 1050928 s s' := by
  obtain rfl := Host.Outcome.next.inj he
  apply qCreate_frame (M := 1050928) <;> first | exact Frame.rfl | rfl

theorem execQPark_frame (ref : CmdRef) (s : State) {s' : State}
    (he : exec (.qPark ref) s = .next s') :
    Frame 1051952 s s' := by
  obtain rfl := Host.Outcome.next.inj he
  apply State.queueAtStamp_frame (M := 1051952)
  · rfl
  · apply qPark_frame (M := 1051952) <;> first | exact Frame.rfl | rfl

theorem execQResume_frame (ref : CmdRef) (s : State) {s' : State}
    (he : exec (.qResume ref) s = .next s') :
    Frame 1051952 s s' := by
  obtain rfl := Host.Outcome.next.inj he
  apply State.queueAtStamp_frame (M := 1051952)
  · rfl
  · apply qResume_frame (M := 1051952) <;> first | exact Frame.rfl | rfl

theorem execQStop_frame (ref : CmdRef) (s : State) {s' : State}
    (he : exec (.qStop ref) s = .next s') :
    Frame 1051952 s s' := by
  obtain rfl := Host.Outcome.next.inj he
  apply State.queueAtStamp_frame (M := 1051952)
  · rfl
  · apply qStop_frame (M := 1051952) <;> first | exact Frame.rfl | rfl

theorem execQDestroy_frame (ref : CmdRef) (s : State) {s' : State}
    (he : exec (.qDestroy ref) s = .next s') :
    Frame 1051952 s s' := by
  obtain rfl := Host.Outcome.next.inj he
  apply State.queueAtStamp_frame (M := 1051952)
  · rfl
  · apply qDestroy_frame (M := 1051952) <;> first | exact Frame.rfl | rfl

theorem execObjCreate_frame (ref : CmdRef) (s : State) {s' : State}
    (he : exec (.objCreate ref) s = .next s') :
    Frame 3148144 s s' := by
  obtain rfl := Host.Outcome.next.inj he
  apply objCreateWith_frame (M := 3148144) <;> first | exact Frame.rfl | rfl

theorem execObjFree_frame (ref : CmdRef) (s : State) {s' : State}
    (he : exec (.objFree ref) s = .next s') :
    Frame 1050992 s s' := by
  obtain rfl := Host.Outcome.next.inj he
  apply objFree_frame (M := 1050992) <;> first | exact Frame.rfl | rfl

theorem execObjectFreed_frame (obj : Nat) (s : State) {s' : State}
    (he : exec (.objectFreed obj) s = .next s') :
    Frame 192 s s' := by
  obtain rfl := Host.Outcome.next.inj he
  apply objectFreed_frame (M := 192) <;> first | exact Frame.rfl | rfl

theorem execFenceAlloc_frame (ref : CmdRef) (s : State) {s' : State}
    (he : exec (.fenceAlloc ref) s = .next s') :
    Frame 3148080 s s' := by
  obtain rfl := Host.Outcome.next.inj he
  apply fenceAlloc_frame (M := 3148080) <;> first | exact Frame.rfl | rfl

theorem execFenceReset_frame (ref : CmdRef) (s : State) {s' : State}
    (he : exec (.fenceReset ref) s = .next s') :
    Frame 1182000 s s' := by
  obtain rfl := Host.Outcome.next.inj he
  apply fenceReset_frame (M := 1182000) <;> first | exact Frame.rfl | rfl

theorem execFenceFree_frame (ref : CmdRef) (s : State) {s' : State}
    (he : exec (.fenceFree ref) s = .next s') :
    Frame 1182000 s s' := by
  obtain rfl := Host.Outcome.next.inj he
  apply fenceFree_frame (M := 1182000) <;> first | exact Frame.rfl | rfl

theorem execStage_frame (ref : CmdRef) (s : State) {s' : State}
    (he : exec (.stage ref) s = .next s') :
    Frame 1050928 s s' := by
  obtain rfl := Host.Outcome.next.inj he
  apply planStage_frame (M := 1050928) <;> first | exact Frame.rfl | rfl

theorem execPlanUnitAck_frame (slot : Fin 4) (unit : PlanUnit) (s : State) {s' : State}
    (he : exec (.planUnitAck slot unit) s = .next s') :
    Frame 2064 s s' := by
  obtain rfl := Host.Outcome.next.inj he
  apply planUnitAck_frame (M := 2064) <;> first | exact Frame.rfl | rfl

theorem execPlanLoadTimeout_frame (slot : Fin 4) (s : State) {s' : State}
    (he : exec (.planLoadTimeout slot) s = .next s') :
    Frame 2064 s s' := by
  obtain rfl := Host.Outcome.next.inj he
  apply planLoadTimeout_frame (M := 2064) <;> first | exact Frame.rfl | rfl

theorem execCommit_frame (ref : CmdRef) (s : State) {s' : State}
    (he : exec (.commit ref) s = .next s') :
    Frame 1050928 s s' := by
  obtain rfl := Host.Outcome.next.inj he
  apply planCommit_frame (M := 1050928) <;> first | exact Frame.rfl | rfl

theorem execPlanStagingCheck_frame (s : State) {s' : State}
    (he : exec (.planStagingCheck) s = .next s') :
    Frame 1050624 s s' := by
  obtain rfl := Host.Outcome.next.inj he
  apply planStagingCheck_frame (M := 1050624) <;> first | exact Frame.rfl | rfl

theorem execPlanGroupDecision_frame (note : TreeNote) (s : State) {s' : State}
    (he : exec (.planGroupDecision note) s = .next s') :
    Frame 1050624 s s' := by
  obtain rfl := Host.Outcome.next.inj he
  apply planGroupDecision_frame (M := 1050624) <;> first | exact Frame.rfl | rfl

theorem execPlanDecisionMissed_frame (s : State) {s' : State}
    (he : exec (.planDecisionMissed) s = .next s') :
    Frame 44048 s s' := by
  obtain rfl := Host.Outcome.next.inj he
  apply planDecisionMissed_frame (M := 44048) <;> first | exact Frame.rfl | rfl

theorem execWithdraw_frame (ref : CmdRef) (s : State) {s' : State}
    (he : exec (.withdraw ref) s = .next s') :
    Frame 1050928 s s' := by
  obtain rfl := Host.Outcome.next.inj he
  apply planWithdraw_frame (M := 1050928) <;> first | exact Frame.rfl | rfl

theorem execRelease_frame (ref : CmdRef) (s : State) {s' : State}
    (he : exec (.release ref) s = .next s') :
    Frame 1050928 s s' := by
  obtain rfl := Host.Outcome.next.inj he
  apply planRelease_frame (M := 1050928) <;> first | exact Frame.rfl | rfl

theorem execSelftest_frame (ref : CmdRef) (s : State) {s' : State}
    (he : exec (.selftest ref) s = .next s') :
    Frame 1067284 s s' := by
  obtain rfl := Host.Outcome.next.inj he
  apply selftest_frame (M := 1067284) <;> first | exact Frame.rfl | rfl

theorem execAbort_frame (ref : CmdRef) (s : State) {s' : State}
    (he : exec (.abort ref) s = .next s') :
    Frame 1444112 s s' := by
  obtain rfl := Host.Outcome.next.inj he
  apply abort_frame (M := 1444112) <;> first | exact Frame.rfl | rfl

theorem execIntentNoticeAck_frame (ref : CmdRef) (s : State) {s' : State}
    (he : exec (.intentNoticeAck ref) s = .next s') :
    Frame 1048592 s s' := by
  obtain rfl := Host.Outcome.next.inj he
  apply intentAck_frame (M := 1048592) <;> first | exact Frame.rfl | rfl

theorem execLinkDown_frame (p : Side) (us : Nat) (s : State) {s' : State}
    (he : exec (.linkDown p us) s = .next s') :
    Frame 256 s s' := by
  obtain rfl := Host.Outcome.next.inj he
  apply linkDown_frame (M := 256) <;> first | exact Frame.rfl | rfl

theorem execLinkTrainingComplete_frame (p : Side) (speed : Fin 8) (width : Fin 8) (flit : Bool) (cxl : Bool) (s : State) {s' : State}
    (he : exec (.linkTrainingComplete p speed width flit cxl) s = .next s') :
    Frame 1122688 s s' := by
  obtain rfl := Host.Outcome.next.inj he
  apply linkTraining_frame (M := 1122688) <;> first | exact Frame.rfl | rfl

theorem execHoldWindowExpiry_frame (p : Side) (s : State) {s' : State}
    (he : exec (.holdWindowExpiry p) s = .next s') :
    Frame 1550082 s s' := by
  obtain rfl := Host.Outcome.next.inj he
  apply holdExpiry_frame (M := 1550082) <;> first | exact Frame.rfl | rfl

theorem execPortReset_frame (p : Side) (s : State) {s' : State}
    (he : exec (.portReset p) s = .next s') :
    Frame 2074570 s s' := by
  obtain rfl := Host.Outcome.next.inj he
  apply portReset_frame (M := 2074570) <;> first | exact Frame.rfl | rfl

theorem execFlr_frame (p : Side) (f : Fin 128) (s : State) {s' : State}
    (he : exec (.flr p f) s = .next s') :
    Frame 1607642 s s' := by
  obtain rfl := Host.Outcome.next.inj he
  apply flr_frame (M := 1607642) <;> first | exact Frame.rfl | rfl

theorem execFlrComplete_frame (p : Side) (f : Fin 128) (s : State) {s' : State}
    (he : exec (.flrComplete p f) s = .next s') :
    Frame 512 s s' := by
  obtain rfl := Host.Outcome.next.inj he
  apply flrComplete_frame (M := 512) <;> first | exact Frame.rfl | rfl

theorem execVfEnableClear_frame (p : Side) (s : State) {s' : State}
    (he : exec (.vfEnableClear p) s = .next s') :
    Frame 1082186 s s' := by
  obtain rfl := Host.Outcome.next.inj he
  apply vfEnableClear_frame (M := 1082186) <;> first | exact Frame.rfl | rfl

theorem execD3hotEntry_frame (p : Side) (f : Fin 128) (s : State) {s' : State}
    (he : exec (.d3hotEntry p f) s = .next s') :
    Frame 1049088 s s' := by
  obtain rfl := Host.Outcome.next.inj he
  apply d3hotEntry_frame (M := 1049088) <;> first | exact Frame.rfl | rfl

theorem execD0Return_frame (p : Side) (f : Fin 128) (s : State) {s' : State}
    (he : exec (.d0Return p f) s = .next s') :
    Frame 1607642 s s' := by
  obtain rfl := Host.Outcome.next.inj he
  apply d0Return_frame (M := 1607642) <;> first | exact Frame.rfl | rfl

theorem execBusMasterEnableClear_frame (p : Side) (f : Fin 128) (s : State) {s' : State}
    (he : exec (.busMasterEnableClear p f) s = .next s') :
    Frame 1049088 s s' := by
  obtain rfl := Host.Outcome.next.inj he
  apply busMasterClear_frame (M := 1049088) <;> first | exact Frame.rfl | rfl

theorem execInboundBar4Request_frame (p : Side) (reqId : Nat) (addr : Nat) (kind : Bar4Kind) (s : State) {s' : State}
    (he : exec (.inboundBar4Request p reqId addr kind) s = .next s') :
    Frame 1377040 s s' := by
  obtain rfl := Host.Outcome.next.inj he
  apply inboundBar4_frame (M := 1377040) <;> first | exact Frame.rfl | rfl

theorem execHostCompletion_frame (p : Side) (tag : Nat) (status : CplStatus) (data : List Byte) (poisoned : Bool) (s : State) {s' : State}
    (he : exec (.hostCompletion p tag status data poisoned) s = .next s') :
    Frame 1553846 s s' := by
  obtain rfl := Host.Outcome.next.inj he
  apply hostCompletion_frame (M := 1553846) <;> first | exact Frame.rfl | rfl

theorem execHostCompletionTimeout_frame (p : Side) (tag : Nat) (s : State) {s' : State}
    (he : exec (.hostCompletionTimeout p tag) s = .next s') :
    Frame 1188656 s s' := by
  obtain rfl := Host.Outcome.next.inj he
  apply hostTimeout_frame (M := 1188656) <;> first | exact Frame.rfl | rfl

theorem execFlushReadComplete_frame (p : Side) (cpl : FlushCpl) (s : State) {s' : State}
    (he : exec (.flushReadComplete p cpl) s = .next s') :
    Frame 8448 s s' := by
  obtain rfl := Host.Outcome.next.inj he
  apply flushComplete_frame (M := 8448) <;> first | exact Frame.rfl | rfl

theorem execFlushReadTimeout_frame (p : Side) (s : State) {s' : State}
    (he : exec (.flushReadTimeout p) s = .next s') :
    Frame 768 s s' := by
  obtain rfl := Host.Outcome.next.inj he
  apply flushTimeout_frame (M := 768) <;> first | exact Frame.rfl | rfl

theorem execPlaceCommit_frame (path : Path) (value : Word) (s : State) {s' : State}
    (he : exec (.placeCommit path value) s = .next s') :
    Frame 1835006 s s' := by
  obtain rfl := Host.Outcome.next.inj he
  apply writeNamed_frame (M := 1835006) <;> first | exact Frame.rfl | rfl

theorem execPlaceClear_frame (path : Path) (value : Word) (s : State) {s' : State}
    (he : exec (.placeClear path value) s = .next s') :
    Frame 1835006 s s' := by
  obtain rfl := Host.Outcome.next.inj he
  apply writeNamed_frame (M := 1835006) <;> first | exact Frame.rfl | rfl

theorem execJournalStatusClear_frame (path : Path) (value : Word) (s : State) {s' : State}
    (he : exec (.journalStatusClear path value) s = .next s') :
    Frame 1835006 s s' := by
  obtain rfl := Host.Outcome.next.inj he
  apply writeNamed_frame (M := 1835006) <;> first | exact Frame.rfl | rfl

theorem execObjQuerySelect_frame (path : Path) (value : Word) (s : State) {s' : State}
    (he : exec (.objQuerySelect path value) s = .next s') :
    Frame 1835006 s s' := by
  obtain rfl := Host.Outcome.next.inj he
  apply writeNamed_frame (M := 1835006) <;> first | exact Frame.rfl | rfl

theorem execXltPartCommit_frame (path : Path) (value : Word) (s : State) {s' : State}
    (he : exec (.xltPartCommit path value) s = .next s') :
    Frame 1835006 s s' := by
  obtain rfl := Host.Outcome.next.inj he
  apply writeNamed_frame (M := 1835006) <;> first | exact Frame.rfl | rfl

theorem execXltStatusClear_frame (path : Path) (value : Word) (s : State) {s' : State}
    (he : exec (.xltStatusClear path value) s = .next s') :
    Frame 1835006 s s' := by
  obtain rfl := Host.Outcome.next.inj he
  apply writeNamed_frame (M := 1835006) <;> first | exact Frame.rfl | rfl

theorem execStaleGenClear_frame (path : Path) (value : Word) (s : State) {s' : State}
    (he : exec (.staleGenClear path value) s = .next s') :
    Frame 1835006 s s' := by
  obtain rfl := Host.Outcome.next.inj he
  apply writeNamed_frame (M := 1835006) <;> first | exact Frame.rfl | rfl

theorem execCeCountClear_frame (path : Path) (value : Word) (s : State) {s' : State}
    (he : exec (.ceCountClear path value) s = .next s') :
    Frame 1835006 s s' := by
  obtain rfl := Host.Outcome.next.inj he
  apply writeNamed_frame (M := 1835006) <;> first | exact Frame.rfl | rfl

theorem execPlanEpochClear_frame (path : Path) (value : Word) (s : State) {s' : State}
    (he : exec (.planEpochClear path value) s = .next s') :
    Frame 1835006 s s' := by
  obtain rfl := Host.Outcome.next.inj he
  apply writeNamed_frame (M := 1835006) <;> first | exact Frame.rfl | rfl

theorem execRegErrClear_frame (path : Path) (value : Word) (s : State) {s' : State}
    (he : exec (.regErrClear path value) s = .next s') :
    Frame 1835006 s s' := by
  obtain rfl := Host.Outcome.next.inj he
  apply writeNamed_frame (M := 1835006) <;> first | exact Frame.rfl | rfl

theorem execDipClear_frame (path : Path) (value : Word) (s : State) {s' : State}
    (he : exec (.dipClear path value) s = .next s') :
    Frame 1835006 s s' := by
  obtain rfl := Host.Outcome.next.inj he
  apply writeNamed_frame (M := 1835006) <;> first | exact Frame.rfl | rfl

theorem execCohCountClear_frame (path : Path) (value : Word) (s : State) {s' : State}
    (he : exec (.cohCountClear path value) s = .next s') :
    Frame 1835006 s s' := by
  obtain rfl := Host.Outcome.next.inj he
  apply writeNamed_frame (M := 1835006) <;> first | exact Frame.rfl | rfl

theorem execCohCount1Clear_frame (path : Path) (value : Word) (s : State) {s' : State}
    (he : exec (.cohCount1Clear path value) s = .next s') :
    Frame 1835006 s s' := by
  obtain rfl := Host.Outcome.next.inj he
  apply writeNamed_frame (M := 1835006) <;> first | exact Frame.rfl | rfl

theorem execFabCountClear_frame (path : Path) (value : Word) (s : State) {s' : State}
    (he : exec (.fabCountClear path value) s = .next s') :
    Frame 1835006 s s' := by
  obtain rfl := Host.Outcome.next.inj he
  apply writeNamed_frame (M := 1835006) <;> first | exact Frame.rfl | rfl

theorem execRegisterWrite_frame (path : Path) (offset : Nat) (value : Word) (poisoned : Bool) (s : State) {s' : State}
    (he : exec (.registerWrite path offset value poisoned) s = .next s') :
    Frame 1835006 s s' := by
  obtain rfl := Host.Outcome.next.inj he
  apply writeArrives_frame (M := 1835006) <;> first | exact Frame.rfl | rfl

theorem execBar0BadAccess_frame (path : Path) (offset : Nat) (width : Nat) (isWrite : Bool) (s : State) {s' : State}
    (he : exec (.bar0BadAccess path offset width isWrite) s = .next s') :
    Frame 3720010 s s' := by
  obtain rfl := Host.Outcome.next.inj he
  apply accessArrives_frame (M := 3720010) <;> first | exact Frame.rfl | rfl

theorem execEventRaised_frame (us : Nat) (s : State) {s' : State}
    (he : exec (.eventRaised us) s = .next s') :
    Frame 1049858 s s' := by
  obtain rfl := Host.Outcome.next.inj he
  apply eventRaised_frame (M := 1049858) <;> first | exact Frame.rfl | rfl

theorem execModerationRelease_frame (f : Fin 128) (v : Fin 2048) (us : Nat) (s : State) {s' : State}
    (he : exec (.moderationRelease f v us) s = .next s') :
    Frame 1049858 s s' := by
  obtain rfl := Host.Outcome.next.inj he
  apply moderationRelease_frame (M := 1049858) <;> first | exact Frame.rfl | rfl

theorem execVectorDelivery_frame (f : Fin 128) (v : Fin 2048) (us : Nat) (s : State) {s' : State}
    (he : exec (.vectorDelivery f v us) s = .next s') :
    Frame 1049858 s s' := by
  obtain rfl := Host.Outcome.next.inj he
  apply vectorDelivery_frame (M := 1049858) <;> first | exact Frame.rfl | rfl

theorem execIrqAck_frame (path : Path) (value : Word) (s : State) {s' : State}
    (he : exec (.irqAck path value) s = .next s') :
    Frame 1835006 s s' := by
  obtain rfl := Host.Outcome.next.inj he
  repeat' (first
    | with_reducible intro _ | with_reducible assumption
    | with_reducible apply writeNamed_frame (M := 1835006)
    | with_reducible apply irqAck_frame (M := 1835006)
    | exact Frame.rfl | rfl | split)

theorem execIrqIdle_frame (path : Path) (value : Word) (s : State) {s' : State}
    (he : exec (.irqIdle path value) s = .next s') :
    Frame 1835006 s s' := by
  obtain rfl := Host.Outcome.next.inj he
  repeat' (first
    | with_reducible intro _ | with_reducible assumption
    | with_reducible apply writeNamed_frame (M := 1835006)
    | with_reducible apply irqAck_frame (M := 1835006)
    | exact Frame.rfl | rfl | split)

theorem execIrqDisableWrite_frame (path : Path) (value : Word) (s : State) {s' : State}
    (he : exec (.irqDisableWrite path value) s = .next s') :
    Frame 1835006 s s' := by
  obtain rfl := Host.Outcome.next.inj he
  apply writeNamed_frame (M := 1835006) <;> first | exact Frame.rfl | rfl

theorem execIrqRouteCommit_frame (path : Path) (value : Word) (s : State) {s' : State}
    (he : exec (.irqRouteCommit path value) s = .next s') :
    Frame 1835006 s s' := by
  obtain rfl := Host.Outcome.next.inj he
  apply writeNamed_frame (M := 1835006) <;> first | exact Frame.rfl | rfl

theorem execStandbyRequest_frame (path : Path) (value : Word) (s : State) {s' : State}
    (he : exec (.standbyRequest path value) s = .next s') :
    Frame 1835006 s s' := by
  obtain rfl := Host.Outcome.next.inj he
  apply writeNamed_frame (M := 1835006) <;> first | exact Frame.rfl | rfl

theorem execWakeSourceFire_frame (sources : List (Nat × Nat)) (s : State) {s' : State}
    (he : exec (.wakeSourceFire sources) s = .next s') :
    Frame 17412 s s' := by
  obtain rfl := Host.Outcome.next.inj he
  apply wakeFire_frame (M := 17412) <;> first | exact Frame.rfl | rfl

theorem execFaultOccurrence_frame (t : Side) (source : Fin 15) (ctx : Option Nat) (code : Nat) (detail : Nat) (s : State) {s' : State}
    (he : exec (.faultOccurrence t source ctx code detail) s = .next s') :
    Frame 3650870 s s' := by
  obtain rfl := Host.Outcome.next.inj he
  apply faultOccurrence_frame (M := 3650870) <;> first | exact Frame.rfl | rfl

theorem execGraceTimerExpiry_frame (t : Side) (s : State) {s' : State}
    (he : exec (.graceTimerExpiry t) s = .next s') :
    Frame 9740 s s' := by
  obtain rfl := Host.Outcome.next.inj he
  apply graceExpiry_frame (M := 9740) <;> first | exact Frame.rfl | rfl

theorem execFltAck_frame (path : Path) (value : Word) (s : State) {s' : State}
    (he : exec (.fltAck path value) s = .next s') :
    Frame 1835006 s s' := by
  obtain rfl := Host.Outcome.next.inj he
  repeat' (first
    | with_reducible intro _ | with_reducible assumption
    | with_reducible apply writeNamed_frame (M := 1835006)
    | with_reducible apply State.fltAck_frame (M := 1835006)
    | exact Frame.rfl | rfl | split)

theorem execSafeState_frame (t : Side) (s : State) {s' : State}
    (he : exec (.safeState t) s = .next s') :
    Frame 41990 s s' := by
  obtain rfl := Host.Outcome.next.inj he
  apply safeState_frame (M := 41990) <;> first | exact Frame.rfl | rfl

theorem execDetach_frame (path : Path) (value : Word) (s : State) {s' : State}
    (he : exec (.detach path value) s = .next s') :
    Frame 1835006 s s' := by
  obtain rfl := Host.Outcome.next.inj he
  apply writeNamed_frame (M := 1835006) <;> first | exact Frame.rfl | rfl

theorem execDetachWithdraw_frame (path : Path) (value : Word) (s : State) {s' : State}
    (he : exec (.detachWithdraw path value) s = .next s') :
    Frame 1835006 s s' := by
  obtain rfl := Host.Outcome.next.inj he
  apply writeNamed_frame (M := 1835006) <;> first | exact Frame.rfl | rfl

theorem execTwinReturn_frame (path : Path) (value : Word) (s : State) {s' : State}
    (he : exec (.twinReturn path value) s = .next s') :
    Frame 1835006 s s' := by
  obtain rfl := Host.Outcome.next.inj he
  apply writeNamed_frame (M := 1835006) <;> first | exact Frame.rfl | rfl

theorem execClearOos_frame (req : Option MgtReq) (path : Path) (value : Word) (s : State) {s' : State}
    (he : exec (.clearOos req path value) s = .next s') :
    Frame 1835006 s s' := by
  obtain rfl := Host.Outcome.next.inj he
  repeat' (first
    | with_reducible intro _ | with_reducible assumption
    | with_reducible apply clearOosCmd_frame (M := 1835006)
    | with_reducible apply State.clearOos_frame (M := 1835006)
    | exact Frame.rfl | rfl | split)

theorem execCdReset_frame (path : Path) (value : Word) (s : State) {s' : State}
    (he : exec (.cdReset path value) s = .next s') :
    Frame 1835006 s s' := by
  obtain rfl := Host.Outcome.next.inj he
  apply writeNamed_frame (M := 1835006) <;> first | exact Frame.rfl | rfl

theorem execCdReturn_frame (path : Path) (value : Word) (s : State) {s' : State}
    (he : exec (.cdReturn path value) s = .next s') :
    Frame 1835006 s s' := by
  obtain rfl := Host.Outcome.next.inj he
  apply writeNamed_frame (M := 1835006) <;> first | exact Frame.rfl | rfl

theorem execSampleReturn_frame (cd : Fin 48) (core : Nat) (gen : Nat) (data : List Byte) (s : State) {s' : State}
    (he : exec (.sampleReturn cd core gen data) s = .next s') :
    Frame 8192 s s' := by
  obtain rfl := Host.Outcome.next.inj he
  apply sampleReturn_frame (M := 8192) <;> first | exact Frame.rfl | rfl

theorem execSampleTimeout_frame (cd : Fin 48) (core : Nat) (s : State) {s' : State}
    (he : exec (.sampleTimeout cd core) s = .next s') :
    Frame 8192 s s' := by
  obtain rfl := Host.Outcome.next.inj he
  apply sampleTimeout_frame (M := 8192) <;> first | exact Frame.rfl | rfl

theorem execSampleDataRead_frame (path : Path) (s : State) {s' : State}
    (he : exec (.sampleDataRead path) s = .next s') :
    Frame 3720010 s s' := by
  obtain rfl := Host.Outcome.next.inj he
  apply readNamed_frame (M := 3720010) <;> first | exact Frame.rfl | rfl

theorem execPwrwarnAssert_frame (us : Nat) (s : State) {s' : State}
    (he : exec (.pwrwarnAssert us) s = .next s') :
    Frame 1109278 s s' := by
  obtain rfl := Host.Outcome.next.inj he
  apply warnAsserted_frame (M := 1109278) <;> first | exact Frame.rfl | rfl

theorem execPwrwarnClear_frame (us : Nat) (s : State) {s' : State}
    (he : exec (.pwrwarnClear us) s = .next s') :
    Frame 41986 s s' := by
  obtain rfl := Host.Outcome.next.inj he
  apply pwrwarnClear_frame (M := 41986) <;> first | exact Frame.rfl | rfl

theorem execPowerFailReset_frame (s : State) {s' : State}
    (he : exec (.powerFailReset) s = .next s') :
    Frame 1048574 s s' := by
  obtain rfl := Host.Outcome.next.inj he
  apply powerFail_frame (M := 1048574) <;> first | exact Frame.rfl | rfl

theorem execClockSourceWrite_frame (path : Path) (value : Word) (s : State) {s' : State}
    (he : exec (.clockSourceWrite path value) s = .next s') :
    Frame 1835006 s s' := by
  obtain rfl := Host.Outcome.next.inj he
  apply writeNamed_frame (M := 1835006) <;> first | exact Frame.rfl | rfl

theorem execClkStatusRead_frame (path : Path) (s : State) {s' : State}
    (he : exec (.clkStatusRead path) s = .next s') :
    Frame 3720010 s s' := by
  obtain rfl := Host.Outcome.next.inj he
  apply readNamed_frame (M := 3720010) <;> first | exact Frame.rfl | rfl

theorem execClockGateWrite_frame (path : Path) (value : Word) (s : State) {s' : State}
    (he : exec (.clockGateWrite path value) s = .next s') :
    Frame 1835006 s s' := by
  obtain rfl := Host.Outcome.next.inj he
  apply writeNamed_frame (M := 1835006) <;> first | exact Frame.rfl | rfl

theorem execPllLossOfLock_frame (pll : Pll) (s : State) {s' : State}
    (he : exec (.pllLossOfLock pll) s = .next s') :
    Frame 16388 s s' := by
  obtain rfl := Host.Outcome.next.inj he
  apply pllLoss_frame (M := 16388) <;> first | exact Frame.rfl | rfl

theorem execXtalLost_frame (s : State) {s' : State}
    (he : exec (.xtalLost) s = .next s') :
    Frame 16388 s s' := by
  obtain rfl := Host.Outcome.next.inj he
  apply xtalLost_frame (M := 16388) <;> first | exact Frame.rfl | rfl

theorem execFcntGo_frame (path : Path) (value : Word) (s : State) {s' : State}
    (he : exec (.fcntGo path value) s = .next s') :
    Frame 1835006 s s' := by
  obtain rfl := Host.Outcome.next.inj he
  apply writeNamed_frame (M := 1835006) <;> first | exact Frame.rfl | rfl

theorem execFcntDone_frame (count : Nat) (s : State) {s' : State}
    (he : exec (.fcntDone count) s = .next s') :
    Frame 16384 s s' := by
  obtain rfl := Host.Outcome.next.inj he
  apply fcntDone_frame (M := 16384) <;> first | exact Frame.rfl | rfl

theorem execFcntTimeout_frame (count : Nat) (s : State) {s' : State}
    (he : exec (.fcntTimeout count) s = .next s') :
    Frame 16384 s s' := by
  obtain rfl := Host.Outcome.next.inj he
  apply fcntTimeout_frame (M := 16384) <;> first | exact Frame.rfl | rfl

theorem execBistGo_frame (path : Path) (value : Word) (s : State) {s' : State}
    (he : exec (.bistGo path value) s = .next s') :
    Frame 1835006 s s' := by
  obtain rfl := Host.Outcome.next.inj he
  apply writeNamed_frame (M := 1835006) <;> first | exact Frame.rfl | rfl

theorem execHello_frame (link : Fin 24) (serial : Nat) (peerLink : Nat) (_pin : Option Nat) (best : Nat) (dist : Nat) (answer : Option FabAnswer) (s : State) {s' : State}
    (he : exec (.hello link serial peerLink _pin best dist answer) s = .next s') :
    Frame 1179648 s s' := by
  obtain rfl := Host.Outcome.next.inj he
  apply hello_frame (M := 1179648) <;> first | exact Frame.rfl | rfl

theorem execProbe_frame (link : Fin 24) (roundTrip : Nat) (s : State) {s' : State}
    (he : exec (.probe link roundTrip) s = .next s') :
    Frame 131072 s s' := by
  obtain rfl := Host.Outcome.next.inj he
  apply probe_frame (M := 131072) <;> first | exact Frame.rfl | rfl

theorem execCensus_frame (_link : Fin 24) (nodes : List FabNode) (s : State) {s' : State}
    (he : exec (.census _link nodes) s = .next s') :
    Frame 1246768 s s' := by
  obtain rfl := Host.Outcome.next.inj he
  apply census_frame (M := 1246768) <;> first | exact Frame.rfl | rfl

theorem execFabricMapPacket_frame (link : Fin 24) (map : FabMap) (s : State) {s' : State}
    (he : exec (.fabricMapPacket link map) s = .next s') :
    Frame 1246768 s s' := by
  obtain rfl := Host.Outcome.next.inj he
  apply fabricMap_frame (M := 1246768) <;> first | exact Frame.rfl | rfl

theorem execBeacon_frame (link : Fin 24) (number : Nat) (offset : Int) (s : State) {s' : State}
    (he : exec (.beacon link number offset) s = .next s') :
    Frame 173056 s s' := by
  obtain rfl := Host.Outcome.next.inj he
  apply beacon_frame (M := 173056) <;> first | exact Frame.rfl | rfl

theorem execBeaconLoss_frame (s : State) {s' : State}
    (he : exec (.beaconLoss) s = .next s') :
    Frame 1246768 s s' := by
  obtain rfl := Host.Outcome.next.inj he
  apply beaconLoss_frame (M := 1246768) <;> first | exact Frame.rfl | rfl

theorem execFabricJoin_frame (link : Fin 24) (device : Nat) (root : Nat) (number : Nat) (s : State) {s' : State}
    (he : exec (.fabricJoin link device root number) s = .next s') :
    Frame 204802 s s' := by
  obtain rfl := Host.Outcome.next.inj he
  apply fabricJoin_frame (M := 204802) <;> first | exact Frame.rfl | rfl

theorem execGlobal_frame (_link : Fin 24) (src : Nat) (msg : GlobalMsg) (s : State) {s' : State}
    (he : exec (.global_ _link src msg) s = .next s') :
    Frame 1180162 s s' := by
  obtain rfl := Host.Outcome.next.inj he
  apply globalPacket_frame (M := 1180162) <;> first | exact Frame.rfl | rfl

theorem execFabricLinkDown_frame (link : Fin 24) (s : State) {s' : State}
    (he : exec (.fabricLinkDown link) s = .next s') :
    Frame 1246768 s s' := by
  obtain rfl := Host.Outcome.next.inj he
  apply fabricLinkDown_frame (M := 1246768) <;> first | exact Frame.rfl | rfl

theorem execFabricLinkUp_frame (link : Fin 24) (s : State) {s' : State}
    (he : exec (.fabricLinkUp link) s = .next s') :
    Frame 1246768 s s' := by
  obtain rfl := Host.Outcome.next.inj he
  apply fabricLinkUp_frame (M := 1246768) <;> first | exact Frame.rfl | rfl

theorem execWrite_frame (h : FabHdr) (data : List Byte) (marks : Nat) (s : State) {s' : State}
    (he : exec (.write h data marks) s = .next s') :
    Frame 1549328 s s' := by
  obtain rfl := Host.Outcome.next.inj he
  repeat' (first
    | with_reducible intro _ | with_reducible assumption
    | with_reducible apply State.arrive_frame (M := 1549328)
    | with_reducible apply takeWrite_frame (M := 1549328)
    | exact Frame.rfl | rfl | split)

theorem execRead_frame (h : FabHdr) (len : Nat) (s : State) {s' : State}
    (he : exec (.read h len) s = .next s') :
    Frame 1287168 s s' := by
  obtain rfl := Host.Outcome.next.inj he
  repeat' (first
    | with_reducible intro _ | with_reducible assumption
    | with_reducible apply State.arrive_frame (M := 1287168)
    | with_reducible apply takeRead_frame (M := 1287168)
    | exact Frame.rfl | rfl | split)

theorem execRdata_frame (h : FabHdr) (data : List Byte) (marks : Nat) (s : State) {s' : State}
    (he : exec (.rdata h data marks) s = .next s') :
    Frame 1553814 s s' := by
  obtain rfl := Host.Outcome.next.inj he
  repeat' (first
    | with_reducible intro _ | with_reducible assumption
    | with_reducible apply State.arrive_frame (M := 1553814)
    | with_reducible apply takeRdata_frame (M := 1553814)
    | exact Frame.rfl | rfl | split)

theorem execNak_frame (h : FabHdr) (code : Nat) (s : State) {s' : State}
    (he : exec (.nak h code) s = .next s') :
    Frame 1221650 s s' := by
  obtain rfl := Host.Outcome.next.inj he
  repeat' (first
    | with_reducible intro _ | with_reducible assumption
    | with_reducible apply State.arrive_frame (M := 1221650)
    | with_reducible apply takeNak_frame (M := 1221650)
    | exact Frame.rfl | rfl | split)

theorem execAck_frame (h : FabHdr) (valid : Nat) (upTo : List Nat) (s : State) {s' : State}
    (he : exec (.ack h valid upTo) s = .next s') :
    Frame 1221648 s s' := by
  obtain rfl := Host.Outcome.next.inj he
  repeat' (first
    | with_reducible intro _ | with_reducible assumption
    | with_reducible apply State.arrive_frame (M := 1221648)
    | with_reducible apply takeAck_frame (M := 1221648)
    | with_reducible apply State.takeAck_frame (M := 1221648)
    | exact Frame.rfl | rfl | split)

theorem execAckTimeout_frame (dev : Nat) (s : State) {s' : State}
    (he : exec (.ackTimeout dev) s = .next s') :
    Frame 1549874 s s' := by
  obtain rfl := Host.Outcome.next.inj he
  apply ackTimeout_frame (M := 1549874) <;> first | exact Frame.rfl | rfl

theorem execFixedDelayDelivery_frame (us : Nat) (s : State) {s' : State}
    (he : exec (.fixedDelayDelivery us) s = .next s') :
    Frame 1554358 s s' := by
  obtain rfl := Host.Outcome.next.inj he
  apply deliveries_frame (M := 1554358) <;> first | exact Frame.rfl | rfl

theorem execPathfence_frame (h : FabHdr) (previous : Nat) (s : State) {s' : State}
    (he : exec (.pathfence h previous) s = .next s') :
    Frame 1221632 s s' := by
  obtain rfl := Host.Outcome.next.inj he
  apply fenceArrives_frame (M := 1221632) <;> first | exact Frame.rfl | rfl

theorem execPfack_frame (h : FabHdr) (valid : Nat) (counts : List Nat) (s : State) {s' : State}
    (he : exec (.pfack h valid counts) s = .next s') :
    Frame 1223696 s s' := by
  obtain rfl := Host.Outcome.next.inj he
  repeat' (first
    | with_reducible intro _ | with_reducible assumption
    | with_reducible apply State.arrive_frame (M := 1223696)
    | with_reducible apply takePfack_frame (M := 1223696)
    | exact Frame.rfl | rfl | split)

theorem execFenceUpd_frame (h : FabHdr) (value : Nat) (state : Fin 3) (code : Nat) (scope : Nat) (s : State) {s' : State}
    (he : exec (.fenceUpd h value state code scope) s = .next s') :
    Frame 1222194 s s' := by
  obtain rfl := Host.Outcome.next.inj he
  repeat' (first
    | with_reducible intro _ | with_reducible assumption
    | with_reducible apply State.arrive_frame (M := 1222194)
    | with_reducible apply takeFenceUpd_frame (M := 1222194)
    | exact Frame.rfl | rfl | split)

theorem execInval_frame (h : FabHdr) (clusters : Nat) (ranges : List (Nat × Nat)) (s : State) {s' : State}
    (he : exec (.inval h clusters ranges) s = .next s') :
    Frame 1221634 s s' := by
  obtain rfl := Host.Outcome.next.inj he
  repeat' (first
    | with_reducible intro _ | with_reducible assumption
    | with_reducible apply State.arrive_frame (M := 1221634)
    | with_reducible apply takeInval_frame (M := 1221634)
    | exact Frame.rfl | rfl | split)

theorem execInvalDone_frame (h : FabHdr) (s : State) {s' : State}
    (he : exec (.invalDone h) s = .next s') :
    Frame 1221650 s s' := by
  obtain rfl := Host.Outcome.next.inj he
  repeat' (first
    | with_reducible intro _ | with_reducible assumption
    | with_reducible apply State.arrive_frame (M := 1221650)
    | with_reducible apply takeInvalDone_frame (M := 1221650)
    | exact Frame.rfl | rfl | split)

theorem execGrantCommit_frame (path : Path) (value : Word) (s : State) {s' : State}
    (he : exec (.grantCommit path value) s = .next s') :
    Frame 1835006 s s' := by
  obtain rfl := Host.Outcome.next.inj he
  apply writeNamed_frame (M := 1835006) <;> first | exact Frame.rfl | rfl

theorem execGrantClear_frame (path : Path) (value : Word) (s : State) {s' : State}
    (he : exec (.grantClear path value) s = .next s') :
    Frame 1835006 s s' := by
  obtain rfl := Host.Outcome.next.inj he
  apply writeNamed_frame (M := 1835006) <;> first | exact Frame.rfl | rfl

theorem execGrantOffer_frame (h : FabHdr) (base : Nat) (size : Nat) (rights : Nat) (ctx : Nat) (fence : Bool) (s : State) {s' : State}
    (he : exec (.grantOffer h base size rights ctx fence) s = .next s') :
    Frame 1221634 s s' := by
  obtain rfl := Host.Outcome.next.inj he
  repeat' (first
    | with_reducible intro _ | with_reducible assumption
    | with_reducible apply State.arrive_frame (M := 1221634)
    | with_reducible apply takeOffer_frame (M := 1221634)
    | exact Frame.rfl | rfl | split)

theorem execGrantRevoke_frame (h : FabHdr) (s : State) {s' : State}
    (he : exec (.grantRevoke h) s = .next s') :
    Frame 1222194 s s' := by
  obtain rfl := Host.Outcome.next.inj he
  repeat' (first
    | with_reducible intro _ | with_reducible assumption
    | with_reducible apply State.arrive_frame (M := 1222194)
    | with_reducible apply takeRevoke_frame (M := 1222194)
    | exact Frame.rfl | rfl | split)

theorem execProxyBind_frame (path : Path) (value : Word) (s : State) {s' : State}
    (he : exec (.proxyBind path value) s = .next s') :
    Frame 1835006 s s' := by
  obtain rfl := Host.Outcome.next.inj he
  apply writeNamed_frame (M := 1835006) <;> first | exact Frame.rfl | rfl

theorem execProxyUnbind_frame (path : Path) (value : Word) (s : State) {s' : State}
    (he : exec (.proxyUnbind path value) s = .next s') :
    Frame 1835006 s s' := by
  obtain rfl := Host.Outcome.next.inj he
  apply writeNamed_frame (M := 1835006) <;> first | exact Frame.rfl | rfl

theorem execGroupCommit_frame (path : Path) (value : Word) (s : State) {s' : State}
    (he : exec (.groupCommit path value) s = .next s') :
    Frame 1835006 s s' := by
  obtain rfl := Host.Outcome.next.inj he
  apply writeNamed_frame (M := 1835006) <;> first | exact Frame.rfl | rfl

theorem execGroupClear_frame (path : Path) (value : Word) (s : State) {s' : State}
    (he : exec (.groupClear path value) s = .next s') :
    Frame 1835006 s s' := by
  obtain rfl := Host.Outcome.next.inj he
  apply writeNamed_frame (M := 1835006) <;> first | exact Frame.rfl | rfl

theorem execGroupDigestAnswer_frame (h : FabHdr) (group : Nat) (agree : Bool) (s : State) {s' : State}
    (he : exec (.groupDigestAnswer h group agree) s = .next s') :
    Frame 1221634 s s' := by
  obtain rfl := Host.Outcome.next.inj he
  repeat' (first
    | with_reducible intro _ | with_reducible assumption
    | with_reducible apply State.arrive_frame (M := 1221634)
    | with_reducible apply takeAnswer_frame (M := 1221634)
    | exact Frame.rfl | rfl | split)

theorem execGroupAgreeTimeout_frame (group : Nat) (s : State) {s' : State}
    (he : exec (.groupAgreeTimeout group) s = .next s') :
    Frame 1179648 s s' := by
  obtain rfl := Host.Outcome.next.inj he
  apply groupAgreeTimeout_frame (M := 1179648) <;> first | exact Frame.rfl | rfl

theorem execRouteCommit_frame (path : Path) (value : Word) (s : State) {s' : State}
    (he : exec (.routeCommit path value) s = .next s') :
    Frame 1835006 s s' := by
  obtain rfl := Host.Outcome.next.inj he
  apply writeNamed_frame (M := 1835006) <;> first | exact Frame.rfl | rfl

theorem execRepin_frame (path : Path) (value : Word) (s : State) {s' : State}
    (he : exec (.repin path value) s = .next s') :
    Frame 1835006 s s' := by
  obtain rfl := Host.Outcome.next.inj he
  apply writeNamed_frame (M := 1835006) <;> first | exact Frame.rfl | rfl

theorem execGlobalSnapshot_frame (path : Path) (value : Word) (s : State) {s' : State}
    (he : exec (.globalSnapshot path value) s = .next s') :
    Frame 1835006 s s' := by
  obtain rfl := Host.Outcome.next.inj he
  apply writeNamed_frame (M := 1835006) <;> first | exact Frame.rfl | rfl

theorem execGlobalReset_frame (path : Path) (value : Word) (s : State) {s' : State}
    (he : exec (.globalReset path value) s = .next s') :
    Frame 1835006 s s' := by
  obtain rfl := Host.Outcome.next.inj he
  apply writeNamed_frame (M := 1835006) <;> first | exact Frame.rfl | rfl

theorem execCollData_frame (h : FabHdr) (group : Nat) (tag : Nat) (rank : Nat) (chunk : Nat) (dir : CollDir) (data : List Byte) (s : State) {s' : State}
    (he : exec (.collData h group tag rank chunk dir data) s = .next s') :
    Frame 1221634 s s' := by
  obtain rfl := Host.Outcome.next.inj he
  repeat' (first
    | with_reducible intro _ | with_reducible assumption
    | with_reducible apply State.arrive_frame (M := 1221634)
    | with_reducible apply collData_frame (M := 1221634)
    | exact Frame.rfl | rfl | split)

theorem execCollCtl_frame (h : FabHdr) (group : Nat) (tag : Nat) (rank : Nat) (msg : CollMsg) (s : State) {s' : State}
    (he : exec (.collCtl h group tag rank msg) s = .next s') :
    Frame 1221650 s s' := by
  obtain rfl := Host.Outcome.next.inj he
  repeat' (first
    | with_reducible intro _ | with_reducible assumption
    | with_reducible apply State.arrive_frame (M := 1221650)
    | with_reducible apply collCtl_frame (M := 1221650)
    | exact Frame.rfl | rfl | split)

theorem execCohDomainCommit_frame (path : Path) (value : Word) (s : State) {s' : State}
    (he : exec (.cohDomainCommit path value) s = .next s') :
    Frame 1835006 s s' := by
  obtain rfl := Host.Outcome.next.inj he
  apply writeNamed_frame (M := 1835006) <;> first | exact Frame.rfl | rfl

theorem execCohPartCommit_frame (path : Path) (value : Word) (s : State) {s' : State}
    (he : exec (.cohPartCommit path value) s = .next s') :
    Frame 1835006 s s' := by
  obtain rfl := Host.Outcome.next.inj he
  apply writeNamed_frame (M := 1835006) <;> first | exact Frame.rfl | rfl

theorem execCohDirProbe_frame (path : Path) (value : Word) (s : State) {s' : State}
    (he : exec (.cohDirProbe path value) s = .next s') :
    Frame 1835006 s s' := by
  obtain rfl := Host.Outcome.next.inj he
  apply writeNamed_frame (M := 1835006) <;> first | exact Frame.rfl | rfl

theorem execAgentRead_frame (agent : Agent) (ctx : Nat) (home : Nat) (line : Nat) (s : State) {s' : State}
    (he : exec (.agentRead agent ctx home line) s = .next s') :
    Frame 1245184 s s' := by
  obtain rfl := Host.Outcome.next.inj he
  apply agentRead_frame (M := 1245184) <;> first | exact Frame.rfl | rfl

theorem execAgentWrite_frame (agent : Agent) (ctx : Nat) (home : Nat) (line : Nat) (offset : Nat) (data : List Byte) (s : State) {s' : State}
    (he : exec (.agentWrite agent ctx home line offset data) s = .next s') :
    Frame 1245184 s s' := by
  obtain rfl := Host.Outcome.next.inj he
  apply agentWrite_frame (M := 1245184) <;> first | exact Frame.rfl | rfl

theorem execAgentEvict_frame (agent : Agent) (_ctx : Nat) (home : Nat) (line : Nat) (s : State) {s' : State}
    (he : exec (.agentEvict agent _ctx home line) s = .next s') :
    Frame 1245184 s s' := by
  obtain rfl := Host.Outcome.next.inj he
  apply agentEvict_frame (M := 1245184) <;> first | exact Frame.rfl | rfl

theorem execWinHoldExpiry_frame (agent : Agent) (home : Nat) (line : Nat) (s : State) {s' : State}
    (he : exec (.winHoldExpiry agent home line) s = .next s') :
    Frame 1245184 s s' := by
  obtain rfl := Host.Outcome.next.inj he
  apply winHoldExpiry_frame (M := 1245184) <;> first | exact Frame.rfl | rfl

theorem execRds_frame (via : Option FabHdr) (src : Nat) (line : Nat) (s : State) {s' : State}
    (he : exec (.rds via src line) s = .next s') :
    Frame 1549824 s s' := by
  obtain rfl := Host.Outcome.next.inj he
  repeat' (first
    | with_reducible intro _ | with_reducible assumption
    | with_reducible apply State.cohArrive_frame (M := 1549824)
    | with_reducible apply homeRequest_frame (M := 1549824)
    | exact Frame.rfl | rfl | split)

theorem execRdx_frame (via : Option FabHdr) (src : Nat) (line : Nat) (s : State) {s' : State}
    (he : exec (.rdx via src line) s = .next s') :
    Frame 1549824 s s' := by
  obtain rfl := Host.Outcome.next.inj he
  repeat' (first
    | with_reducible intro _ | with_reducible assumption
    | with_reducible apply State.cohArrive_frame (M := 1549824)
    | with_reducible apply homeRequest_frame (M := 1549824)
    | exact Frame.rfl | rfl | split)

theorem execUpg_frame (via : Option FabHdr) (src : Nat) (line : Nat) (s : State) {s' : State}
    (he : exec (.upg via src line) s = .next s') :
    Frame 1549824 s s' := by
  obtain rfl := Host.Outcome.next.inj he
  repeat' (first
    | with_reducible intro _ | with_reducible assumption
    | with_reducible apply State.cohArrive_frame (M := 1549824)
    | with_reducible apply homeRequest_frame (M := 1549824)
    | exact Frame.rfl | rfl | split)

theorem execPuts_frame (via : Option FabHdr) (src : Nat) (line : Nat) (s : State) {s' : State}
    (he : exec (.puts via src line) s = .next s') :
    Frame 1549824 s s' := by
  obtain rfl := Host.Outcome.next.inj he
  repeat' (first
    | with_reducible intro _ | with_reducible assumption
    | with_reducible apply State.cohArrive_frame (M := 1549824)
    | with_reducible apply homePut_frame (M := 1549824)
    | exact Frame.rfl | rfl | split)

theorem execPute_frame (via : Option FabHdr) (src : Nat) (line : Nat) (s : State) {s' : State}
    (he : exec (.pute via src line) s = .next s') :
    Frame 1549824 s s' := by
  obtain rfl := Host.Outcome.next.inj he
  repeat' (first
    | with_reducible intro _ | with_reducible assumption
    | with_reducible apply State.cohArrive_frame (M := 1549824)
    | with_reducible apply homePut_frame (M := 1549824)
    | exact Frame.rfl | rfl | split)

theorem execPuto_frame (via : Option FabHdr) (src : Nat) (line : Nat) (data : List Byte) (marks : Fin 16) (s : State) {s' : State}
    (he : exec (.puto via src line data marks) s = .next s') :
    Frame 1549824 s s' := by
  obtain rfl := Host.Outcome.next.inj he
  repeat' (first
    | with_reducible intro _ | with_reducible assumption
    | with_reducible apply State.cohArrive_frame (M := 1549824)
    | with_reducible apply homePut_frame (M := 1549824)
    | exact Frame.rfl | rfl | split)

theorem execPutm_frame (via : Option FabHdr) (src : Nat) (line : Nat) (data : List Byte) (marks : Fin 16) (s : State) {s' : State}
    (he : exec (.putm via src line data marks) s = .next s') :
    Frame 1549824 s s' := by
  obtain rfl := Host.Outcome.next.inj he
  repeat' (first
    | with_reducible intro _ | with_reducible assumption
    | with_reducible apply State.cohArrive_frame (M := 1549824)
    | with_reducible apply homePut_frame (M := 1549824)
    | exact Frame.rfl | rfl | split)

theorem execFwds_frame (via : Option FabHdr) (agent : Agent) (home : Nat) (line : Nat) (req : Nat) (owner : Bool) (s : State) {s' : State}
    (he : exec (.fwds via agent home line req owner) s = .next s') :
    Frame 1287168 s s' := by
  obtain rfl := Host.Outcome.next.inj he
  repeat' (first
    | with_reducible intro _ | with_reducible assumption
    | with_reducible apply State.cohArrive_frame (M := 1287168)
    | with_reducible apply State.agentAsked_frame (M := 1287168)
    | exact Frame.rfl | rfl | split)

theorem execFwdx_frame (via : Option FabHdr) (agent : Agent) (home : Nat) (line : Nat) (req : Nat) (owner : Bool) (s : State) {s' : State}
    (he : exec (.fwdx via agent home line req owner) s = .next s') :
    Frame 1287168 s s' := by
  obtain rfl := Host.Outcome.next.inj he
  repeat' (first
    | with_reducible intro _ | with_reducible assumption
    | with_reducible apply State.cohArrive_frame (M := 1287168)
    | with_reducible apply State.agentAsked_frame (M := 1287168)
    | exact Frame.rfl | rfl | split)

theorem execInv_frame (via : Option FabHdr) (agent : Agent) (home : Nat) (line : Nat) (s : State) {s' : State}
    (he : exec (.inv via agent home line) s = .next s') :
    Frame 1287168 s s' := by
  obtain rfl := Host.Outcome.next.inj he
  repeat' (first
    | with_reducible intro _ | with_reducible assumption
    | with_reducible apply State.cohArrive_frame (M := 1287168)
    | with_reducible apply State.agentAsked_frame (M := 1287168)
    | exact Frame.rfl | rfl | split)

theorem execSnpcur_frame (via : Option FabHdr) (agent : Agent) (home : Nat) (line : Nat) (s : State) {s' : State}
    (he : exec (.snpcur via agent home line) s = .next s') :
    Frame 1287168 s s' := by
  obtain rfl := Host.Outcome.next.inj he
  repeat' (first
    | with_reducible intro _ | with_reducible assumption
    | with_reducible apply State.cohArrive_frame (M := 1287168)
    | with_reducible apply State.agentAsked_frame (M := 1287168)
    | exact Frame.rfl | rfl | split)

theorem execSnprecall_frame (via : Option FabHdr) (agent : Agent) (home : Nat) (line : Nat) (s : State) {s' : State}
    (he : exec (.snprecall via agent home line) s = .next s') :
    Frame 1287168 s s' := by
  obtain rfl := Host.Outcome.next.inj he
  repeat' (first
    | with_reducible intro _ | with_reducible assumption
    | with_reducible apply State.cohArrive_frame (M := 1287168)
    | with_reducible apply State.agentAsked_frame (M := 1287168)
    | exact Frame.rfl | rfl | split)

theorem execDatas_frame (via : Option FabHdr) (agent : Agent) (home : Nat) (line : Nat) (data : List Byte) (marks : Fin 16) (done : Bool) (s : State) {s' : State}
    (he : exec (.datas via agent home line data marks done) s = .next s') :
    Frame 1287168 s s' := by
  obtain rfl := Host.Outcome.next.inj he
  repeat' (first
    | with_reducible intro _ | with_reducible assumption
    | with_reducible apply State.cohArrive_frame (M := 1287168)
    | with_reducible apply State.takeData_frame (M := 1287168)
    | exact Frame.rfl | rfl | split)

theorem execDatae_frame (via : Option FabHdr) (agent : Agent) (home : Nat) (line : Nat) (data : List Byte) (marks : Fin 16) (done : Bool) (s : State) {s' : State}
    (he : exec (.datae via agent home line data marks done) s = .next s') :
    Frame 1287168 s s' := by
  obtain rfl := Host.Outcome.next.inj he
  repeat' (first
    | with_reducible intro _ | with_reducible assumption
    | with_reducible apply State.cohArrive_frame (M := 1287168)
    | with_reducible apply State.takeData_frame (M := 1287168)
    | exact Frame.rfl | rfl | split)

theorem execDatao_frame (via : Option FabHdr) (agent : Agent) (home : Nat) (line : Nat) (data : List Byte) (marks : Fin 16) (done : Bool) (s : State) {s' : State}
    (he : exec (.datao via agent home line data marks done) s = .next s') :
    Frame 1287168 s s' := by
  obtain rfl := Host.Outcome.next.inj he
  repeat' (first
    | with_reducible intro _ | with_reducible assumption
    | with_reducible apply State.cohArrive_frame (M := 1287168)
    | with_reducible apply State.takeData_frame (M := 1287168)
    | exact Frame.rfl | rfl | split)

theorem execDatam_frame (via : Option FabHdr) (agent : Agent) (home : Nat) (line : Nat) (data : List Byte) (marks : Fin 16) (done : Bool) (s : State) {s' : State}
    (he : exec (.datam via agent home line data marks done) s = .next s') :
    Frame 1287168 s s' := by
  obtain rfl := Host.Outcome.next.inj he
  repeat' (first
    | with_reducible intro _ | with_reducible assumption
    | with_reducible apply State.cohArrive_frame (M := 1287168)
    | with_reducible apply State.takeData_frame (M := 1287168)
    | exact Frame.rfl | rfl | split)

theorem execUpgack_frame (via : Option FabHdr) (agent : Agent) (home : Nat) (line : Nat) (s : State) {s' : State}
    (he : exec (.upgack via agent home line) s = .next s') :
    Frame 1287168 s s' := by
  obtain rfl := Host.Outcome.next.inj he
  repeat' (first
    | with_reducible intro _ | with_reducible assumption
    | with_reducible apply State.cohArrive_frame (M := 1287168)
    | with_reducible apply State.takeAck_frame (M := 1287168)
    | with_reducible apply takeAck_frame (M := 1287168)
    | exact Frame.rfl | rfl | split)

theorem execGrant_frame (via : Option FabHdr) (agent : Agent) (home : Nat) (line : Nat) (s : State) {s' : State}
    (he : exec (.grant via agent home line) s = .next s') :
    Frame 1287168 s s' := by
  obtain rfl := Host.Outcome.next.inj he
  repeat' (first
    | with_reducible intro _ | with_reducible assumption
    | with_reducible apply State.cohArrive_frame (M := 1287168)
    | with_reducible apply State.takeAck_frame (M := 1287168)
    | with_reducible apply takeAck_frame (M := 1287168)
    | exact Frame.rfl | rfl | split)

theorem execAckdone_frame (via : Option FabHdr) (agent : Agent) (home : Nat) (line : Nat) (s : State) {s' : State}
    (he : exec (.ackdone via agent home line) s = .next s') :
    Frame 1287168 s s' := by
  obtain rfl := Host.Outcome.next.inj he
  repeat' (first
    | with_reducible intro _ | with_reducible assumption
    | with_reducible apply State.cohArrive_frame (M := 1287168)
    | with_reducible apply State.takeAck_frame (M := 1287168)
    | with_reducible apply takeAck_frame (M := 1287168)
    | exact Frame.rfl | rfl | split)

theorem execInvack_frame (via : Option FabHdr) (src : Nat) (line : Nat) (late : Bool) (s : State) {s' : State}
    (he : exec (.invack via src line late) s = .next s') :
    Frame 1549824 s s' := by
  obtain rfl := Host.Outcome.next.inj he
  repeat' (first
    | with_reducible intro _ | with_reducible assumption
    | with_reducible apply State.cohArrive_frame (M := 1549824)
    | with_reducible apply homeAnswer_frame (M := 1549824)
    | with_reducible apply State.takeInvAck_frame (M := 1549824)
    | exact Frame.rfl | rfl | split)

theorem execFwddone_frame (via : Option FabHdr) (src : Nat) (line : Nat) (req : Nat) (kind : FwdKind) (late : Bool) (s : State) {s' : State}
    (he : exec (.fwddone via src line req kind late) s = .next s') :
    Frame 1549824 s s' := by
  obtain rfl := Host.Outcome.next.inj he
  repeat' (first
    | with_reducible intro _ | with_reducible assumption
    | with_reducible apply State.cohArrive_frame (M := 1549824)
    | with_reducible apply homeAnswer_frame (M := 1549824)
    | with_reducible apply State.takeFwdDone_frame (M := 1549824)
    | exact Frame.rfl | rfl | split)

theorem execSnprsp_frame (via : Option FabHdr) (src : Nat) (line : Nat) (data : List Byte) (marks : Fin 16) (keep : Bool) (late : Bool) (s : State) {s' : State}
    (he : exec (.snprsp via src line data marks keep late) s = .next s') :
    Frame 1549824 s s' := by
  obtain rfl := Host.Outcome.next.inj he
  repeat' (first
    | with_reducible intro _ | with_reducible assumption
    | with_reducible apply State.cohArrive_frame (M := 1549824)
    | with_reducible apply homeAnswer_frame (M := 1549824)
    | with_reducible apply State.takeSnpRsp_frame (M := 1549824)
    | exact Frame.rfl | rfl | split)

theorem execMiss_frame (via : Option FabHdr) (src : Nat) (line : Nat) (star : Bool) (late : Bool) (s : State) {s' : State}
    (he : exec (.miss via src line star late) s = .next s') :
    Frame 1549824 s s' := by
  obtain rfl := Host.Outcome.next.inj he
  repeat' (first
    | with_reducible intro _ | with_reducible assumption
    | with_reducible apply State.cohArrive_frame (M := 1549824)
    | with_reducible apply homeAnswer_frame (M := 1549824)
    | with_reducible apply State.missTake_frame (M := 1549824)
    | exact Frame.rfl | rfl | split)

theorem execPutack_frame (via : Option FabHdr) (agent : Agent) (home : Nat) (line : Nat) (s : State) {s' : State}
    (he : exec (.putack via agent home line) s = .next s') :
    Frame 1287168 s s' := by
  obtain rfl := Host.Outcome.next.inj he
  repeat' (first
    | with_reducible intro _ | with_reducible assumption
    | with_reducible apply State.cohArrive_frame (M := 1287168)
    | with_reducible apply State.takeAck_frame (M := 1287168)
    | with_reducible apply takeAck_frame (M := 1287168)
    | exact Frame.rfl | rfl | split)

theorem execStaleputack_frame (via : Option FabHdr) (agent : Agent) (home : Nat) (line : Nat) (s : State) {s' : State}
    (he : exec (.staleputack via agent home line) s = .next s') :
    Frame 1287168 s s' := by
  obtain rfl := Host.Outcome.next.inj he
  repeat' (first
    | with_reducible intro _ | with_reducible assumption
    | with_reducible apply State.cohArrive_frame (M := 1287168)
    | with_reducible apply State.takeAck_frame (M := 1287168)
    | with_reducible apply takeAck_frame (M := 1287168)
    | exact Frame.rfl | rfl | split)

theorem execFwddoneack_frame (via : Option FabHdr) (agent : Agent) (home : Nat) (line : Nat) (s : State) {s' : State}
    (he : exec (.fwddoneack via agent home line) s = .next s') :
    Frame 1287168 s s' := by
  obtain rfl := Host.Outcome.next.inj he
  repeat' (first
    | with_reducible intro _ | with_reducible assumption
    | with_reducible apply State.cohArrive_frame (M := 1287168)
    | with_reducible apply State.takeAck_frame (M := 1287168)
    | with_reducible apply takeAck_frame (M := 1287168)
    | exact Frame.rfl | rfl | split)

theorem execBlockingOpStart_frame (line : Nat) (s : State) {s' : State}
    (he : exec (.blockingOpStart line) s = .next s') :
    Frame 4194302 s s' := by
  obtain rfl := Host.Outcome.next.inj he
  apply blockingStart_frame (M := 4194302) <;> first | exact Frame.rfl | rfl

theorem execRegRead_frame (req : MgtReq) (side : Side) (offset : Nat) (s : State) {s' : State}
    (he : exec (.regRead req side offset) s = .next s') :
    Frame 3719178 s s' := by
  obtain rfl := Host.Outcome.next.inj he
  apply mgtRead_frame (M := 3719178) <;> first | exact Frame.rfl | rfl

theorem execRegWrite_frame (req : MgtReq) (side : Side) (offset : Nat) (value : Word) (s : State) {s' : State}
    (he : exec (.regWrite req side offset value) s = .next s') :
    Frame 1834942 s s' := by
  obtain rfl := Host.Outcome.next.inj he
  apply mgtWrite_frame (M := 1834942) <;> first | exact Frame.rfl | rfl

theorem execLogRead_frame (req : MgtReq) (index : Nat) (count : Nat) (s : State) {s' : State}
    (he : exec (.logRead req index count) s = .next s') :
    Frame 1081346 s s' := by
  obtain rfl := Host.Outcome.next.inj he
  apply logRead_frame (M := 1081346) <;> first | exact Frame.rfl | rfl

theorem execSensorRead_frame (req : MgtReq) (s : State) {s' : State}
    (he : exec (.sensorRead req) s = .next s') :
    Frame 1081346 s s' := by
  obtain rfl := Host.Outcome.next.inj he
  apply sensorRead_frame (M := 1081346) <;> first | exact Frame.rfl | rfl

theorem execFlashErase_frame (req : MgtReq) (offset : Nat) (count : Nat) (s : State) {s' : State}
    (he : exec (.flashErase req offset count) s = .next s') :
    Frame 1081346 s s' := by
  obtain rfl := Host.Outcome.next.inj he
  apply flashErase_frame (M := 1081346) <;> first | exact Frame.rfl | rfl

theorem execFlashWrite_frame (req : MgtReq) (offset : Nat) (data : List Byte) (s : State) {s' : State}
    (he : exec (.flashWrite req offset data) s = .next s') :
    Frame 1081346 s s' := by
  obtain rfl := Host.Outcome.next.inj he
  repeat' (first
    | with_reducible intro _ | with_reducible assumption
    | with_reducible apply flashProgram_frame (M := 1081346)
    | with_reducible apply State.flashWrite_frame (M := 1081346)
    | exact Frame.rfl | rfl | split)

theorem execFlashRead_frame (req : MgtReq) (offset : Nat) (len : Nat) (s : State) {s' : State}
    (he : exec (.flashRead req offset len) s = .next s') :
    Frame 1081346 s s' := by
  obtain rfl := Host.Outcome.next.inj he
  apply flashFetch_frame (M := 1081346) <;> first | exact Frame.rfl | rfl

theorem execFwLoad_frame (req : MgtReq) (t : Side) (s : State) {s' : State}
    (he : exec (.fwLoad req t) s = .next s') :
    Frame 1081350 s s' := by
  obtain rfl := Host.Outcome.next.inj he
  apply fwLoad_frame (M := 1081350) <;> first | exact Frame.rfl | rfl

theorem execFwRestore_frame (req : MgtReq) (t : Side) (s : State) {s' : State}
    (he : exec (.fwRestore req t) s = .next s') :
    Frame 1081346 s s' := by
  obtain rfl := Host.Outcome.next.inj he
  apply fwRestore_frame (M := 1081346) <;> first | exact Frame.rfl | rfl

theorem execDebugRead_frame (req : MgtReq) (addr : Nat) (len : Nat) (s : State) {s' : State}
    (he : exec (.debugRead req addr len) s = .next s') :
    Frame 1146890 s s' := by
  obtain rfl := Host.Outcome.next.inj he
  apply debugRead_frame (M := 1146890) <;> first | exact Frame.rfl | rfl

theorem execDebugWrite_frame (req : MgtReq) (addr : Nat) (data : List Byte) (s : State) {s' : State}
    (he : exec (.debugWrite req addr data) s = .next s') :
    Frame 1409050 s s' := by
  obtain rfl := Host.Outcome.next.inj he
  apply debugWrite_frame (M := 1409050) <;> first | exact Frame.rfl | rfl

theorem execCcHalt_frame (req : MgtReq) (t : Side) (core : Fin 8) (act : CcAct) (s : State) {s' : State}
    (he : exec (.ccHalt req t core act) s = .next s') :
    Frame 1081358 s s' := by
  obtain rfl := Host.Outcome.next.inj he
  apply ccHalt_frame (M := 1081358) <;> first | exact Frame.rfl | rfl

theorem execCredSet_frame (req : MgtReq) (slot : Fin 8) (hash : List Byte) (roles : Nat) (s : State) {s' : State}
    (he : exec (.credSet req slot hash roles) s = .next s') :
    Frame 1081346 s s' := by
  obtain rfl := Host.Outcome.next.inj he
  apply credSet_frame (M := 1081346) <;> first | exact Frame.rfl | rfl

theorem execCredLock_frame (req : MgtReq) (s : State) {s' : State}
    (he : exec (.credLock req) s = .next s') :
    Frame 1081346 s s' := by
  obtain rfl := Host.Outcome.next.inj he
  apply credLock_frame (M := 1081346) <;> first | exact Frame.rfl | rfl

theorem execSvnRaise_frame (req : MgtReq) (svn : Nat) (s : State) {s' : State}
    (he : exec (.svnRaise req svn) s = .next s') :
    Frame 1081346 s s' := by
  obtain rfl := Host.Outcome.next.inj he
  apply svnRaise_frame (M := 1081346) <;> first | exact Frame.rfl | rfl

theorem execMeasExtend_frame (req : MgtReq) (slot : Nat) (digest : List Byte) (s : State) {s' : State}
    (he : exec (.measExtend req slot digest) s = .next s') :
    Frame 1081346 s s' := by
  obtain rfl := Host.Outcome.next.inj he
  repeat' (first
    | with_reducible intro _ | with_reducible assumption
    | with_reducible apply State.measExtend_frame (M := 1081346)
    | with_reducible apply measExtend_frame (M := 1081346)
    | exact Frame.rfl | rfl | split)

theorem execGroupDigestReceipt_frame (h : FabHdr) (group : Nat) (digest : List Byte) (s : State) {s' : State}
    (he : exec (.groupDigestReceipt h group digest) s = .next s') :
    Frame 1221634 s s' := by
  obtain rfl := Host.Outcome.next.inj he
  repeat' (first
    | with_reducible intro _ | with_reducible assumption
    | with_reducible apply State.arrive_frame (M := 1221634)
    | with_reducible apply takeDigest_frame (M := 1221634)
    | exact Frame.rfl | rfl | split)

theorem execHomeTimeout_frame (agent : Nat) (s : State) {s' : State}
    (he : exec (.homeTimeout agent) s = .next s') :
    Frame 1549826 s s' := by
  obtain rfl := Host.Outcome.next.inj he
  apply homeTimeout_frame (M := 1549826) <;> first | exact Frame.rfl | rfl

theorem execRlcHomeTimeout_frame (home : Nat) (s : State) {s' : State}
    (he : exec (.rlcHomeTimeout home) s = .next s') :
    Frame 1114112 s s' := by
  obtain rfl := Host.Outcome.next.inj he
  apply rlcHomeTimeout_frame (M := 1114112) <;> first | exact Frame.rfl | rfl

theorem execMemrd_frame (p : Side) (decoder : Fin 2) (addr : Nat) (m : CxlMeta) (s : State) {s' : State}
    (he : exec (.memrd p decoder addr m) s = .next s') :
    Frame 1507840 s s' := by
  obtain rfl := Host.Outcome.next.inj he
  apply hostRequest_frame (M := 1507840) <;> first | exact Frame.rfl | rfl

theorem execMemrddata_frame (p : Side) (decoder : Fin 2) (addr : Nat) (m : CxlMeta) (s : State) {s' : State}
    (he : exec (.memrddata p decoder addr m) s = .next s') :
    Frame 1507840 s s' := by
  obtain rfl := Host.Outcome.next.inj he
  apply hostRequest_frame (M := 1507840) <;> first | exact Frame.rfl | rfl

theorem execMeminv_frame (p : Side) (decoder : Fin 2) (addr : Nat) (m : CxlMeta) (s : State) {s' : State}
    (he : exec (.meminv p decoder addr m) s = .next s') :
    Frame 1507840 s s' := by
  obtain rfl := Host.Outcome.next.inj he
  apply hostRequest_frame (M := 1507840) <;> first | exact Frame.rfl | rfl

theorem execMemclnevct_frame (p : Side) (decoder : Fin 2) (addr : Nat) (s : State) {s' : State}
    (he : exec (.memclnevct p decoder addr) s = .next s') :
    Frame 1507840 s s' := by
  obtain rfl := Host.Outcome.next.inj he
  apply hostRequest_frame (M := 1507840) <;> first | exact Frame.rfl | rfl

theorem execMemwr_frame (p : Side) (decoder : Fin 2) (addr : Nat) (m : CxlMeta) (data : List Byte) (poisoned : Bool) (s : State) {s' : State}
    (he : exec (.memwr p decoder addr m data poisoned) s = .next s') :
    Frame 1507840 s s' := by
  obtain rfl := Host.Outcome.next.inj he
  apply hostRequest_frame (M := 1507840) <;> first | exact Frame.rfl | rfl

theorem execBiconflict_frame (p : Side) (decoder : Fin 2) (addr : Nat) (s : State) {s' : State}
    (he : exec (.biconflict p decoder addr) s = .next s') :
    Frame 1507840 s s' := by
  obtain rfl := Host.Outcome.next.inj he
  apply hostRequest_frame (M := 1507840) <;> first | exact Frame.rfl | rfl

theorem execBirsp_frame (p : Side) (decoder : Fin 2) (addr : Nat) (rsp : CxlMeta) (s : State) {s' : State}
    (he : exec (.birsp p decoder addr rsp) s = .next s') :
    Frame 1507840 s s' := by
  obtain rfl := Host.Outcome.next.inj he
  apply biRsp_frame (M := 1507840) <;> first | exact Frame.rfl | rfl

theorem execGetVersion_frame (path : SpdmPath) (s : State) {s' : State}
    (he : exec (.getVersion path) s = .next s') :
    Frame 1048576 s s' := by
  obtain rfl := Host.Outcome.next.inj he
  apply getVersion_frame (M := 1048576) <;> first | exact Frame.rfl | rfl

theorem execGetCapabilities_frame (path : SpdmPath) (s : State) {s' : State}
    (he : exec (.getCapabilities path) s = .next s') :
    Frame 1048576 s s' := by
  obtain rfl := Host.Outcome.next.inj he
  apply getCapabilities_frame (M := 1048576) <;> first | exact Frame.rfl | rfl

theorem execNegotiateAlgorithms_frame (path : SpdmPath) (asked : Nat) (s : State) {s' : State}
    (he : exec (.negotiateAlgorithms path asked) s = .next s') :
    Frame 1048576 s s' := by
  obtain rfl := Host.Outcome.next.inj he
  apply negotiate_frame (M := 1048576) <;> first | exact Frame.rfl | rfl

theorem execGetDigests_frame (path : SpdmPath) (s : State) {s' : State}
    (he : exec (.getDigests path) s = .next s') :
    Frame 1048576 s s' := by
  obtain rfl := Host.Outcome.next.inj he
  apply getDigests_frame (M := 1048576) <;> first | exact Frame.rfl | rfl

theorem execGetCertificate_frame (path : SpdmPath) (slot : Nat) (offset : Nat) (len : Nat) (s : State) {s' : State}
    (he : exec (.getCertificate path slot offset len) s = .next s') :
    Frame 1048576 s s' := by
  obtain rfl := Host.Outcome.next.inj he
  apply getCertificate_frame (M := 1048576) <;> first | exact Frame.rfl | rfl

theorem execChallenge_frame (path : SpdmPath) (slot : Nat) (nonce : List Byte) (s : State) {s' : State}
    (he : exec (.challenge path slot nonce) s = .next s') :
    Frame 1048576 s s' := by
  obtain rfl := Host.Outcome.next.inj he
  apply challenge_frame (M := 1048576) <;> first | exact Frame.rfl | rfl

theorem execGetMeasurements_frame (path : SpdmPath) (session : Option Nat) (index : Nat) (nonce : List Byte) (s : State) {s' : State}
    (he : exec (.getMeasurements path session index nonce) s = .next s') :
    Frame 1048576 s s' := by
  obtain rfl := Host.Outcome.next.inj he
  apply getMeasurements_frame (M := 1048576) <;> first | exact Frame.rfl | rfl

theorem execKeyExchange_frame (path : SpdmPath) (slot : Nat) (withAuth : Bool) (exchange : List Byte) (s : State) {s' : State}
    (he : exec (.keyExchange path slot withAuth exchange) s = .next s') :
    Frame 1081344 s s' := by
  obtain rfl := Host.Outcome.next.inj he
  apply keyExchange_frame (M := 1081344) <;> first | exact Frame.rfl | rfl

theorem execFinish_frame (path : SpdmPath) (session : Nat) (key : Option (List Byte)) (s : State) {s' : State}
    (he : exec (.finish path session key) s = .next s') :
    Frame 1081344 s s' := by
  obtain rfl := Host.Outcome.next.inj he
  repeat' (first
    | with_reducible intro _ | with_reducible assumption
    | with_reducible apply State.finish_frame (M := 1081344)
    | with_reducible apply finish_frame (M := 1081344)
    | exact Frame.rfl | rfl | split)

theorem execHeartbeat_frame (path : SpdmPath) (session : Nat) (s : State) {s' : State}
    (he : exec (.heartbeat path session) s = .next s') :
    Frame 1048576 s s' := by
  obtain rfl := Host.Outcome.next.inj he
  apply heartbeat_frame (M := 1048576) <;> first | exact Frame.rfl | rfl

theorem execKeyUpdate_frame (path : SpdmPath) (session : Nat) (s : State) {s' : State}
    (he : exec (.keyUpdate path session) s = .next s') :
    Frame 1081344 s s' := by
  obtain rfl := Host.Outcome.next.inj he
  apply keyUpdate_frame (M := 1081344) <;> first | exact Frame.rfl | rfl

theorem execEndSession_frame (path : SpdmPath) (session : Nat) (s : State) {s' : State}
    (he : exec (.endSession path session) s = .next s') :
    Frame 1081344 s s' := by
  obtain rfl := Host.Outcome.next.inj he
  apply endSession_frame (M := 1081344) <;> first | exact Frame.rfl | rfl

theorem execSpdmUnsupportedRequest_frame (path : SpdmPath) (code : Nat) (s : State) {s' : State}
    (he : exec (.spdmUnsupportedRequest path code) s = .next s') :
    Frame 1048576 s s' := by
  obtain rfl := Host.Outcome.next.inj he
  apply spdmUnsupported_frame (M := 1048576) <;> first | exact Frame.rfl | rfl

theorem execKeyProg_frame (p : Side) (session : Nat) (stream : Fin 8) (keySet : Bool) (s : State) {s' : State}
    (he : exec (.keyProg p session stream keySet) s = .next s') :
    Frame 1048832 s s' := by
  obtain rfl := Host.Outcome.next.inj he
  apply keyProg_frame (M := 1048832) <;> first | exact Frame.rfl | rfl

theorem execKSetGo_frame (p : Side) (session : Nat) (stream : Fin 8) (keySet : Bool) (s : State) {s' : State}
    (he : exec (.kSetGo p session stream keySet) s = .next s') :
    Frame 1048832 s s' := by
  obtain rfl := Host.Outcome.next.inj he
  apply kSetGo_frame (M := 1048832) <;> first | exact Frame.rfl | rfl

theorem execKSetStop_frame (p : Side) (session : Nat) (stream : Fin 8) (keySet : Bool) (s : State) {s' : State}
    (he : exec (.kSetStop p session stream keySet) s = .next s') :
    Frame 1048832 s s' := by
  obtain rfl := Host.Outcome.next.inj he
  apply kSetStop_frame (M := 1048832) <;> first | exact Frame.rfl | rfl

theorem execIdeIntegrityFailure_frame (p : Side) (stream : Fin 8) (s : State) {s' : State}
    (he : exec (.ideIntegrityFailure p stream) s = .next s') :
    Frame 33610 s s' := by
  obtain rfl := Host.Outcome.next.inj he
  apply ideFailure_frame (M := 33610) <;> first | exact Frame.rfl | rfl

theorem execLockInterface_frame (p : Side) (session : Nat) (vf : Fin 128) (stream : Fin 8) (s : State) {s' : State}
    (he : exec (.lockInterface p session vf stream) s = .next s') :
    Frame 1081600 s s' := by
  obtain rfl := Host.Outcome.next.inj he
  apply lockInterface_frame (M := 1081600) <;> first | exact Frame.rfl | rfl

theorem execStartInterface_frame (p : Side) (session : Nat) (vf : Fin 128) (s : State) {s' : State}
    (he : exec (.startInterface p session vf) s = .next s') :
    Frame 1081600 s s' := by
  obtain rfl := Host.Outcome.next.inj he
  apply startInterface_frame (M := 1081600) <;> first | exact Frame.rfl | rfl

theorem execStopInterface_frame (p : Side) (session : Nat) (vf : Fin 128) (s : State) {s' : State}
    (he : exec (.stopInterface p session vf) s = .next s') :
    Frame 1082112 s s' := by
  obtain rfl := Host.Outcome.next.inj he
  apply stopInterface_frame (M := 1082112) <;> first | exact Frame.rfl | rfl

theorem execDeviceInterfaceReport_frame (p : Side) (session : Nat) (vf : Fin 128) (s : State) {s' : State}
    (he : exec (.deviceInterfaceReport p session vf) s = .next s') :
    Frame 1048576 s s' := by
  obtain rfl := Host.Outcome.next.inj he
  apply interfaceReport_frame (M := 1048576) <;> first | exact Frame.rfl | rfl

theorem execTdiViolation_frame (p : Side) (vf : Fin 128) (space : Fin 4) (offset : Nat) (s : State) {s' : State}
    (he : exec (.tdiViolation p vf space offset) s = .next s') :
    Frame 33610 s s' := by
  obtain rfl := Host.Outcome.next.inj he
  apply tdiViolation_frame (M := 33610) <;> first | exact Frame.rfl | rfl

theorem execSensorSample_frame (values : List Nat) (s : State) {s' : State}
    (he : exec (.sensorSample values) s = .next s') :
    Frame 41984 s s' := by
  obtain rfl := Host.Outcome.next.inj he
  apply sensorSample_frame (M := 41984) <;> first | exact Frame.rfl | rfl

theorem execLogMirrorWrite_frame (s : State) {s' : State}
    (he : exec (.logMirrorWrite) s = .next s') :
    Frame 32768 s s' := by
  obtain rfl := Host.Outcome.next.inj he
  apply logMirrorWrite_frame (M := 32768) <;> first | exact Frame.rfl | rfl

theorem execConfigurationRequest_frame (p : Side) (f : Fin 128) (cfg : Cfg) (s : State) {s' : State}
    (he : exec (.configurationRequest p f cfg) s = .next s') :
    Frame 1049344 s s' := by
  obtain rfl := Host.Outcome.next.inj he
  apply configRequest_frame (M := 1049344) <;> first | exact Frame.rfl | rfl

theorem execImageRegionWriteDone_frame (s : State) {s' : State}
    (he : exec (.imageRegionWriteDone) s = .next s') :
    Frame 1081344 s s' := by
  obtain rfl := Host.Outcome.next.inj he
  apply imageWriteDone_frame (M := 1081344) <;> first | exact Frame.rfl | rfl

theorem execLinkReportedUp_frame (link : Fin 24) (peerDev : Nat) (peerLink : Nat) (s : State) {s' : State}
    (he : exec (.linkReportedUp link peerDev peerLink) s = .next s') :
    Frame 131072 s s' := by
  obtain rfl := Host.Outcome.next.inj he
  apply linkReportedUp_frame (M := 131072) <;> first | exact Frame.rfl | rfl

/-- Two states that a frame relates agree outside the parts that a list names. -/
theorem Frame.same {m : Nat} {l : List Part} {s t : State} (f : Frame m s t)
    (htime : Part.time ∉ l → m.testBit 1 = false)
    (htwins : Part.twins ∉ l → m.testBit 2 = false)
    (hctxs : Part.ctxs ∉ l → m.testBit 3 = false)
    (hqueues : Part.queues ∉ l → m.testBit 4 = false)
    (hfences : Part.fences ∉ l → m.testBit 5 = false)
    (hobjs : Part.objs ∉ l → m.testBit 6 = false)
    (hxlt : Part.xlt ∉ l → m.testBit 7 = false)
    (hports : Part.ports ∉ l → m.testBit 8 = false)
    (hfuncs : Part.funcs ∉ l → m.testBit 9 = false)
    (hirq : Part.irq ∉ l → m.testBit 10 = false)
    (hplan : Part.plan ∉ l → m.testBit 11 = false)
    (hengines : Part.engines ∉ l → m.testBit 12 = false)
    (hrst : Part.rst ∉ l → m.testBit 13 = false)
    (hclk : Part.clk ∉ l → m.testBit 14 = false)
    (hmgt : Part.mgt ∉ l → m.testBit 15 = false)
    (hcoh : Part.coh ∉ l → m.testBit 16 = false)
    (hfab : Part.fab ∉ l → m.testBit 17 = false)
    (hmem : Part.mem ∉ l → m.testBit 18 = false)
    (hsels : Part.sels ∉ l → m.testBit 19 = false)
    (hout : Part.out ∉ l → m.testBit 20 = false)
    (hfreeCtr : Part.freeCtr ∉ l → m.testBit 21 = false)
    : Same l s t :=
  ⟨f.pending, fun h => f.time (htime h), fun h => f.twins (htwins h), fun h => f.ctxs (hctxs h), fun h => f.queues (hqueues h), fun h => f.fences (hfences h), fun h => f.objs (hobjs h), fun h => f.xlt (hxlt h), fun h => f.ports (hports h), fun h => f.funcs (hfuncs h), fun h => f.irq (hirq h), fun h => f.plan (hplan h), fun h => f.engines (hengines h), fun h => f.rst (hrst h), fun h => f.clk (hclk h), fun h => f.mgt (hmgt h), fun h => f.coh (hcoh h), fun h => f.fab (hfab h), fun h => f.mem (hmem h), fun h => f.sels (hsels h), fun h => f.out (hout h), fun h => f.freeCtr (hfreeCtr h)⟩
/-- A part outside a mask is outside a smaller one. -/
theorem Sub.off {m M i : Nat} (hm : Sub m M) (h : M.testBit i = false) : m.testBit i = false := by
  unfold Sub at hm
  rw [← hm, Nat.testBit_and, h, Bool.and_false]
/-- A frame holds with a larger mask. -/
theorem Frame.mono {m M : Nat} {s t : State} (hm : Sub m M) (f : Frame m s t) : Frame M s t :=
  ⟨f.pending, f.wf, f.lock, f.svn, f.lead, fun h => f.time (Sub.off hm h), fun h => f.twins (Sub.off hm h), fun h => f.ctxs (Sub.off hm h), fun h => f.queues (Sub.off hm h), fun h => f.fences (Sub.off hm h), fun h => f.objs (Sub.off hm h), fun h => f.xlt (Sub.off hm h), fun h => f.ports (Sub.off hm h), fun h => f.funcs (Sub.off hm h), fun h => f.irq (Sub.off hm h), fun h => f.plan (Sub.off hm h), fun h => f.engines (Sub.off hm h), fun h => f.rst (Sub.off hm h), fun h => f.clk (Sub.off hm h), fun h => f.mgt (Sub.off hm h), fun h => f.coh (Sub.off hm h), fun h => f.fab (Sub.off hm h), fun h => f.mem (Sub.off hm h), fun h => f.sels (Sub.off hm h), fun h => f.out (Sub.off hm h), fun h => f.freeCtr (Sub.off hm h)⟩

/-- Every row keeps what every frame keeps: the queue of commands, the form of memory, the fuses, and one lead. -/
theorem exec_frame (c : Instr) (s : State) {t : State} (h : exec c s = .next t) : Frame 4194303 s t := by
  cases c
  case powerUp => exact Frame.mono (by exact rfl) (execPowerUp_frame (he := h))
  case ioscTrim => exact Frame.mono (by exact rfl) (execIoscTrim_frame (he := h))
  case xtalCheck => exact Frame.mono (by exact rfl) (execXtalCheck_frame (he := h))
  case pllLocked => exact Frame.mono (by exact rfl) (execPllLocked_frame (he := h))
  case sharedMbistDone => exact Frame.mono (by exact rfl) (execSharedMbistDone_frame (he := h))
  case imageLoadDone => exact Frame.mono (by exact rfl) (execImageLoadDone_frame (he := h))
  case imageRemeasureDone => exact Frame.mono (by exact rfl) (execImageRemeasureDone_frame (he := h))
  case selftestDone => exact Frame.mono (by exact rfl) (execSelftestDone_frame (he := h))
  case twinResetRelease => exact Frame.mono (by exact rfl) (execTwinResetRelease_frame (he := h))
  case tickBoundary => exact Frame.mono (by exact rfl) (execTickBoundary_frame (he := h))
  case throttleRequest => exact Frame.mono (by exact rfl) (execThrottleRequest_frame (he := h))
  case detachForced => exact Frame.mono (by exact rfl) (execDetachForced_frame (he := h))
  case discoveryPhaseEnd => exact Frame.mono (by exact rfl) (execDiscoveryPhaseEnd_frame (he := h))
  case ceWindowStart => exact Frame.mono (by exact rfl) (execCeWindowStart_frame (he := h))
  case walkComplete => exact Frame.mono (by exact rfl) (execWalkComplete_frame (he := h))
  case atsTranslationCompletion => exact Frame.mono (by exact rfl) (execAtsTranslationCompletion_frame (he := h))
  case atsInvalidationRequest => exact Frame.mono (by exact rfl) (execAtsInvalidationRequest_frame (he := h))
  case atsInvalidationCompletion => exact Frame.mono (by exact rfl) (execAtsInvalidationCompletion_frame (he := h))
  case prgResponse => exact Frame.mono (by exact rfl) (execPrgResponse_frame (he := h))
  case priTimeout => exact Frame.mono (by exact rfl) (execPriTimeout_frame (he := h))
  case stallLimit => exact Frame.mono (by exact rfl) (execStallLimit_frame (he := h))
  case faultRespRetry => exact Frame.mono (by exact rfl) (execFaultRespRetry_frame (he := h))
  case faultRespFail => exact Frame.mono (by exact rfl) (execFaultRespFail_frame (he := h))
  case xltProbe => exact Frame.mono (by exact rfl) (execXltProbe_frame (he := h))
  case fringProgram => exact Frame.mono (by exact rfl) (execFringProgram_frame (he := h))
  case doorbell => exact Frame.mono (by exact rfl) (execDoorbell_frame (he := h))
  case slotFetch => exact Frame.mono (by exact rfl) (execSlotFetch_frame (he := h))
  case predicateReadComplete => exact Frame.mono (by exact rfl) (execPredicateReadComplete_frame (he := h))
  case commandComplete => exact Frame.mono (by exact rfl) (execCommandComplete_frame (he := h))
  case nop => exact Frame.mono (by exact rfl) (execNop_frame (he := h))
  case fenceSignal => exact Frame.mono (by exact rfl) (execFenceSignal_frame (he := h))
  case fenceWait => exact Frame.mono (by exact rfl) (execFenceWait_frame (he := h))
  case writeInline => exact Frame.mono (by exact rfl) (execWriteInline_frame (he := h))
  case barrier => exact Frame.mono (by exact rfl) (execBarrier_frame (he := h))
  case copy => exact Frame.mono (by exact rfl) (execCopy_frame (he := h))
  case copy2d => exact Frame.mono (by exact rfl) (execCopy2d_frame (he := h))
  case gather => exact Frame.mono (by exact rfl) (execGather_frame (he := h))
  case scatter => exact Frame.mono (by exact rfl) (execScatter_frame (he := h))
  case fill => exact Frame.mono (by exact rfl) (execFill_frame (he := h))
  case quantize => exact Frame.mono (by exact rfl) (execQuantize_frame (he := h))
  case dequantize => exact Frame.mono (by exact rfl) (execDequantize_frame (he := h))
  case accumulate => exact Frame.mono (by exact rfl) (execAccumulate_frame (he := h))
  case compact => exact Frame.mono (by exact rfl) (execCompact_frame (he := h))
  case expand => exact Frame.mono (by exact rfl) (execExpand_frame (he := h))
  case dispatch => exact Frame.mono (by exact rfl) (execDispatch_frame (he := h))
  case combine => exact Frame.mono (by exact rfl) (execCombine_frame (he := h))
  case allreduce => exact Frame.mono (by exact rfl) (execAllreduce_frame (he := h))
  case reduceScatter => exact Frame.mono (by exact rfl) (execReduceScatter_frame (he := h))
  case allgather => exact Frame.mono (by exact rfl) (execAllgather_frame (he := h))
  case alltoall => exact Frame.mono (by exact rfl) (execAlltoall_frame (he := h))
  case broadcast => exact Frame.mono (by exact rfl) (execBroadcast_frame (he := h))
  case collectiveBarrier => exact Frame.mono (by exact rfl) (execCollectiveBarrier_frame (he := h))
  case collTimeout => exact Frame.mono (by exact rfl) (execCollTimeout_frame (he := h))
  case map => exact Frame.mono (by exact rfl) (execMap_frame (he := h))
  case unmap => exact Frame.mono (by exact rfl) (execUnmap_frame (he := h))
  case invalidate => exact Frame.mono (by exact rfl) (execInvalidate_frame (he := h))
  case coreInvalidateDone => exact Frame.mono (by exact rfl) (execCoreInvalidateDone_frame (he := h))
  case launch => exact Frame.mono (by exact rfl) (execLaunch_frame (he := h))
  case launchAnswer => exact Frame.mono (by exact rfl) (execLaunchAnswer_frame (he := h))
  case open_ => exact Frame.mono (by exact rfl) (execOpen_frame (he := h))
  case start => exact Frame.mono (by exact rfl) (execStart_frame (he := h))
  case park => exact Frame.mono (by exact rfl) (execPark_frame (he := h))
  case resume => exact Frame.mono (by exact rfl) (execResume_frame (he := h))
  case setHome => exact Frame.mono (by exact rfl) (execSetHome_frame (he := h))
  case close => exact Frame.mono (by exact rfl) (execClose_frame (he := h))
  case kill => exact Frame.mono (by exact rfl) (execKill_frame (he := h))
  case drainLimit => exact Frame.mono (by exact rfl) (execDrainLimit_frame (he := h))
  case qCreate => exact Frame.mono (by exact rfl) (execQCreate_frame (he := h))
  case qPark => exact Frame.mono (by exact rfl) (execQPark_frame (he := h))
  case qResume => exact Frame.mono (by exact rfl) (execQResume_frame (he := h))
  case qStop => exact Frame.mono (by exact rfl) (execQStop_frame (he := h))
  case qDestroy => exact Frame.mono (by exact rfl) (execQDestroy_frame (he := h))
  case objCreate => exact Frame.mono (by exact rfl) (execObjCreate_frame (he := h))
  case objFree => exact Frame.mono (by exact rfl) (execObjFree_frame (he := h))
  case objectFreed => exact Frame.mono (by exact rfl) (execObjectFreed_frame (he := h))
  case fenceAlloc => exact Frame.mono (by exact rfl) (execFenceAlloc_frame (he := h))
  case fenceReset => exact Frame.mono (by exact rfl) (execFenceReset_frame (he := h))
  case fenceFree => exact Frame.mono (by exact rfl) (execFenceFree_frame (he := h))
  case stage => exact Frame.mono (by exact rfl) (execStage_frame (he := h))
  case planUnitAck => exact Frame.mono (by exact rfl) (execPlanUnitAck_frame (he := h))
  case planLoadTimeout => exact Frame.mono (by exact rfl) (execPlanLoadTimeout_frame (he := h))
  case commit => exact Frame.mono (by exact rfl) (execCommit_frame (he := h))
  case planStagingCheck => exact Frame.mono (by exact rfl) (execPlanStagingCheck_frame (he := h))
  case planGroupDecision => exact Frame.mono (by exact rfl) (execPlanGroupDecision_frame (he := h))
  case planDecisionMissed => exact Frame.mono (by exact rfl) (execPlanDecisionMissed_frame (he := h))
  case withdraw => exact Frame.mono (by exact rfl) (execWithdraw_frame (he := h))
  case release => exact Frame.mono (by exact rfl) (execRelease_frame (he := h))
  case selftest => exact Frame.mono (by exact rfl) (execSelftest_frame (he := h))
  case abort => exact Frame.mono (by exact rfl) (execAbort_frame (he := h))
  case intentNoticeAck => exact Frame.mono (by exact rfl) (execIntentNoticeAck_frame (he := h))
  case linkDown => exact Frame.mono (by exact rfl) (execLinkDown_frame (he := h))
  case linkTrainingComplete => exact Frame.mono (by exact rfl) (execLinkTrainingComplete_frame (he := h))
  case holdWindowExpiry => exact Frame.mono (by exact rfl) (execHoldWindowExpiry_frame (he := h))
  case portReset => exact Frame.mono (by exact rfl) (execPortReset_frame (he := h))
  case flr => exact Frame.mono (by exact rfl) (execFlr_frame (he := h))
  case flrComplete => exact Frame.mono (by exact rfl) (execFlrComplete_frame (he := h))
  case vfEnableClear => exact Frame.mono (by exact rfl) (execVfEnableClear_frame (he := h))
  case d3hotEntry => exact Frame.mono (by exact rfl) (execD3hotEntry_frame (he := h))
  case d0Return => exact Frame.mono (by exact rfl) (execD0Return_frame (he := h))
  case busMasterEnableClear => exact Frame.mono (by exact rfl) (execBusMasterEnableClear_frame (he := h))
  case inboundBar4Request => exact Frame.mono (by exact rfl) (execInboundBar4Request_frame (he := h))
  case hostCompletion => exact Frame.mono (by exact rfl) (execHostCompletion_frame (he := h))
  case hostCompletionTimeout => exact Frame.mono (by exact rfl) (execHostCompletionTimeout_frame (he := h))
  case flushReadComplete => exact Frame.mono (by exact rfl) (execFlushReadComplete_frame (he := h))
  case flushReadTimeout => exact Frame.mono (by exact rfl) (execFlushReadTimeout_frame (he := h))
  case placeCommit => exact Frame.mono (by exact rfl) (execPlaceCommit_frame (he := h))
  case placeClear => exact Frame.mono (by exact rfl) (execPlaceClear_frame (he := h))
  case journalStatusClear => exact Frame.mono (by exact rfl) (execJournalStatusClear_frame (he := h))
  case objQuerySelect => exact Frame.mono (by exact rfl) (execObjQuerySelect_frame (he := h))
  case xltPartCommit => exact Frame.mono (by exact rfl) (execXltPartCommit_frame (he := h))
  case xltStatusClear => exact Frame.mono (by exact rfl) (execXltStatusClear_frame (he := h))
  case staleGenClear => exact Frame.mono (by exact rfl) (execStaleGenClear_frame (he := h))
  case ceCountClear => exact Frame.mono (by exact rfl) (execCeCountClear_frame (he := h))
  case planEpochClear => exact Frame.mono (by exact rfl) (execPlanEpochClear_frame (he := h))
  case regErrClear => exact Frame.mono (by exact rfl) (execRegErrClear_frame (he := h))
  case dipClear => exact Frame.mono (by exact rfl) (execDipClear_frame (he := h))
  case cohCountClear => exact Frame.mono (by exact rfl) (execCohCountClear_frame (he := h))
  case cohCount1Clear => exact Frame.mono (by exact rfl) (execCohCount1Clear_frame (he := h))
  case fabCountClear => exact Frame.mono (by exact rfl) (execFabCountClear_frame (he := h))
  case registerWrite => exact Frame.mono (by exact rfl) (execRegisterWrite_frame (he := h))
  case bar0BadAccess => exact Frame.mono (by exact rfl) (execBar0BadAccess_frame (he := h))
  case eventRaised => exact Frame.mono (by exact rfl) (execEventRaised_frame (he := h))
  case moderationRelease => exact Frame.mono (by exact rfl) (execModerationRelease_frame (he := h))
  case vectorDelivery => exact Frame.mono (by exact rfl) (execVectorDelivery_frame (he := h))
  case irqAck => exact Frame.mono (by exact rfl) (execIrqAck_frame (he := h))
  case irqIdle => exact Frame.mono (by exact rfl) (execIrqIdle_frame (he := h))
  case irqDisableWrite => exact Frame.mono (by exact rfl) (execIrqDisableWrite_frame (he := h))
  case irqRouteCommit => exact Frame.mono (by exact rfl) (execIrqRouteCommit_frame (he := h))
  case standbyRequest => exact Frame.mono (by exact rfl) (execStandbyRequest_frame (he := h))
  case wakeSourceFire => exact Frame.mono (by exact rfl) (execWakeSourceFire_frame (he := h))
  case faultOccurrence => exact Frame.mono (by exact rfl) (execFaultOccurrence_frame (he := h))
  case graceTimerExpiry => exact Frame.mono (by exact rfl) (execGraceTimerExpiry_frame (he := h))
  case fltAck => exact Frame.mono (by exact rfl) (execFltAck_frame (he := h))
  case safeState => exact Frame.mono (by exact rfl) (execSafeState_frame (he := h))
  case detach => exact Frame.mono (by exact rfl) (execDetach_frame (he := h))
  case detachWithdraw => exact Frame.mono (by exact rfl) (execDetachWithdraw_frame (he := h))
  case twinReturn => exact Frame.mono (by exact rfl) (execTwinReturn_frame (he := h))
  case clearOos => exact Frame.mono (by exact rfl) (execClearOos_frame (he := h))
  case cdReset => exact Frame.mono (by exact rfl) (execCdReset_frame (he := h))
  case cdReturn => exact Frame.mono (by exact rfl) (execCdReturn_frame (he := h))
  case sampleReturn => exact Frame.mono (by exact rfl) (execSampleReturn_frame (he := h))
  case sampleTimeout => exact Frame.mono (by exact rfl) (execSampleTimeout_frame (he := h))
  case sampleDataRead => exact Frame.mono (by exact rfl) (execSampleDataRead_frame (he := h))
  case pwrwarnAssert => exact Frame.mono (by exact rfl) (execPwrwarnAssert_frame (he := h))
  case pwrwarnClear => exact Frame.mono (by exact rfl) (execPwrwarnClear_frame (he := h))
  case powerFailReset => exact Frame.mono (by exact rfl) (execPowerFailReset_frame (he := h))
  case clockSourceWrite => exact Frame.mono (by exact rfl) (execClockSourceWrite_frame (he := h))
  case clkStatusRead => exact Frame.mono (by exact rfl) (execClkStatusRead_frame (he := h))
  case clockGateWrite => exact Frame.mono (by exact rfl) (execClockGateWrite_frame (he := h))
  case pllLossOfLock => exact Frame.mono (by exact rfl) (execPllLossOfLock_frame (he := h))
  case xtalLost => exact Frame.mono (by exact rfl) (execXtalLost_frame (he := h))
  case fcntGo => exact Frame.mono (by exact rfl) (execFcntGo_frame (he := h))
  case fcntDone => exact Frame.mono (by exact rfl) (execFcntDone_frame (he := h))
  case fcntTimeout => exact Frame.mono (by exact rfl) (execFcntTimeout_frame (he := h))
  case bistGo => exact Frame.mono (by exact rfl) (execBistGo_frame (he := h))
  case hello => exact Frame.mono (by exact rfl) (execHello_frame (he := h))
  case probe => exact Frame.mono (by exact rfl) (execProbe_frame (he := h))
  case census => exact Frame.mono (by exact rfl) (execCensus_frame (he := h))
  case fabricMapPacket => exact Frame.mono (by exact rfl) (execFabricMapPacket_frame (he := h))
  case beacon => exact Frame.mono (by exact rfl) (execBeacon_frame (he := h))
  case beaconLoss => exact Frame.mono (by exact rfl) (execBeaconLoss_frame (he := h))
  case fabricJoin => exact Frame.mono (by exact rfl) (execFabricJoin_frame (he := h))
  case global_ => exact Frame.mono (by exact rfl) (execGlobal_frame (he := h))
  case fabricLinkDown => exact Frame.mono (by exact rfl) (execFabricLinkDown_frame (he := h))
  case fabricLinkUp => exact Frame.mono (by exact rfl) (execFabricLinkUp_frame (he := h))
  case write => exact Frame.mono (by exact rfl) (execWrite_frame (he := h))
  case read => exact Frame.mono (by exact rfl) (execRead_frame (he := h))
  case rdata => exact Frame.mono (by exact rfl) (execRdata_frame (he := h))
  case nak => exact Frame.mono (by exact rfl) (execNak_frame (he := h))
  case ack => exact Frame.mono (by exact rfl) (execAck_frame (he := h))
  case ackTimeout => exact Frame.mono (by exact rfl) (execAckTimeout_frame (he := h))
  case fixedDelayDelivery => exact Frame.mono (by exact rfl) (execFixedDelayDelivery_frame (he := h))
  case pathfence => exact Frame.mono (by exact rfl) (execPathfence_frame (he := h))
  case pfack => exact Frame.mono (by exact rfl) (execPfack_frame (he := h))
  case fenceUpd => exact Frame.mono (by exact rfl) (execFenceUpd_frame (he := h))
  case inval => exact Frame.mono (by exact rfl) (execInval_frame (he := h))
  case invalDone => exact Frame.mono (by exact rfl) (execInvalDone_frame (he := h))
  case grantCommit => exact Frame.mono (by exact rfl) (execGrantCommit_frame (he := h))
  case grantClear => exact Frame.mono (by exact rfl) (execGrantClear_frame (he := h))
  case grantOffer => exact Frame.mono (by exact rfl) (execGrantOffer_frame (he := h))
  case grantRevoke => exact Frame.mono (by exact rfl) (execGrantRevoke_frame (he := h))
  case proxyBind => exact Frame.mono (by exact rfl) (execProxyBind_frame (he := h))
  case proxyUnbind => exact Frame.mono (by exact rfl) (execProxyUnbind_frame (he := h))
  case groupCommit => exact Frame.mono (by exact rfl) (execGroupCommit_frame (he := h))
  case groupClear => exact Frame.mono (by exact rfl) (execGroupClear_frame (he := h))
  case groupDigestAnswer => exact Frame.mono (by exact rfl) (execGroupDigestAnswer_frame (he := h))
  case groupAgreeTimeout => exact Frame.mono (by exact rfl) (execGroupAgreeTimeout_frame (he := h))
  case routeCommit => exact Frame.mono (by exact rfl) (execRouteCommit_frame (he := h))
  case repin => exact Frame.mono (by exact rfl) (execRepin_frame (he := h))
  case globalSnapshot => exact Frame.mono (by exact rfl) (execGlobalSnapshot_frame (he := h))
  case globalReset => exact Frame.mono (by exact rfl) (execGlobalReset_frame (he := h))
  case collData => exact Frame.mono (by exact rfl) (execCollData_frame (he := h))
  case collCtl => exact Frame.mono (by exact rfl) (execCollCtl_frame (he := h))
  case cohDomainCommit => exact Frame.mono (by exact rfl) (execCohDomainCommit_frame (he := h))
  case cohPartCommit => exact Frame.mono (by exact rfl) (execCohPartCommit_frame (he := h))
  case cohDirProbe => exact Frame.mono (by exact rfl) (execCohDirProbe_frame (he := h))
  case agentRead => exact Frame.mono (by exact rfl) (execAgentRead_frame (he := h))
  case agentWrite => exact Frame.mono (by exact rfl) (execAgentWrite_frame (he := h))
  case agentEvict => exact Frame.mono (by exact rfl) (execAgentEvict_frame (he := h))
  case winHoldExpiry => exact Frame.mono (by exact rfl) (execWinHoldExpiry_frame (he := h))
  case rds => exact Frame.mono (by exact rfl) (execRds_frame (he := h))
  case rdx => exact Frame.mono (by exact rfl) (execRdx_frame (he := h))
  case upg => exact Frame.mono (by exact rfl) (execUpg_frame (he := h))
  case puts => exact Frame.mono (by exact rfl) (execPuts_frame (he := h))
  case pute => exact Frame.mono (by exact rfl) (execPute_frame (he := h))
  case puto => exact Frame.mono (by exact rfl) (execPuto_frame (he := h))
  case putm => exact Frame.mono (by exact rfl) (execPutm_frame (he := h))
  case fwds => exact Frame.mono (by exact rfl) (execFwds_frame (he := h))
  case fwdx => exact Frame.mono (by exact rfl) (execFwdx_frame (he := h))
  case inv => exact Frame.mono (by exact rfl) (execInv_frame (he := h))
  case snpcur => exact Frame.mono (by exact rfl) (execSnpcur_frame (he := h))
  case snprecall => exact Frame.mono (by exact rfl) (execSnprecall_frame (he := h))
  case datas => exact Frame.mono (by exact rfl) (execDatas_frame (he := h))
  case datae => exact Frame.mono (by exact rfl) (execDatae_frame (he := h))
  case datao => exact Frame.mono (by exact rfl) (execDatao_frame (he := h))
  case datam => exact Frame.mono (by exact rfl) (execDatam_frame (he := h))
  case upgack => exact Frame.mono (by exact rfl) (execUpgack_frame (he := h))
  case grant => exact Frame.mono (by exact rfl) (execGrant_frame (he := h))
  case ackdone => exact Frame.mono (by exact rfl) (execAckdone_frame (he := h))
  case invack => exact Frame.mono (by exact rfl) (execInvack_frame (he := h))
  case fwddone => exact Frame.mono (by exact rfl) (execFwddone_frame (he := h))
  case snprsp => exact Frame.mono (by exact rfl) (execSnprsp_frame (he := h))
  case miss => exact Frame.mono (by exact rfl) (execMiss_frame (he := h))
  case putack => exact Frame.mono (by exact rfl) (execPutack_frame (he := h))
  case staleputack => exact Frame.mono (by exact rfl) (execStaleputack_frame (he := h))
  case fwddoneack => exact Frame.mono (by exact rfl) (execFwddoneack_frame (he := h))
  case blockingOpStart => exact Frame.mono (by exact rfl) (execBlockingOpStart_frame (he := h))
  case regRead => exact Frame.mono (by exact rfl) (execRegRead_frame (he := h))
  case regWrite => exact Frame.mono (by exact rfl) (execRegWrite_frame (he := h))
  case logRead => exact Frame.mono (by exact rfl) (execLogRead_frame (he := h))
  case sensorRead => exact Frame.mono (by exact rfl) (execSensorRead_frame (he := h))
  case flashErase => exact Frame.mono (by exact rfl) (execFlashErase_frame (he := h))
  case flashWrite => exact Frame.mono (by exact rfl) (execFlashWrite_frame (he := h))
  case flashRead => exact Frame.mono (by exact rfl) (execFlashRead_frame (he := h))
  case fwLoad => exact Frame.mono (by exact rfl) (execFwLoad_frame (he := h))
  case fwRestore => exact Frame.mono (by exact rfl) (execFwRestore_frame (he := h))
  case debugRead => exact Frame.mono (by exact rfl) (execDebugRead_frame (he := h))
  case debugWrite => exact Frame.mono (by exact rfl) (execDebugWrite_frame (he := h))
  case ccHalt => exact Frame.mono (by exact rfl) (execCcHalt_frame (he := h))
  case credSet => exact Frame.mono (by exact rfl) (execCredSet_frame (he := h))
  case credLock => exact Frame.mono (by exact rfl) (execCredLock_frame (he := h))
  case svnRaise => exact Frame.mono (by exact rfl) (execSvnRaise_frame (he := h))
  case measExtend => exact Frame.mono (by exact rfl) (execMeasExtend_frame (he := h))
  case groupDigestReceipt => exact Frame.mono (by exact rfl) (execGroupDigestReceipt_frame (he := h))
  case homeTimeout => exact Frame.mono (by exact rfl) (execHomeTimeout_frame (he := h))
  case rlcHomeTimeout => exact Frame.mono (by exact rfl) (execRlcHomeTimeout_frame (he := h))
  case memrd => exact Frame.mono (by exact rfl) (execMemrd_frame (he := h))
  case memrddata => exact Frame.mono (by exact rfl) (execMemrddata_frame (he := h))
  case meminv => exact Frame.mono (by exact rfl) (execMeminv_frame (he := h))
  case memclnevct => exact Frame.mono (by exact rfl) (execMemclnevct_frame (he := h))
  case memwr => exact Frame.mono (by exact rfl) (execMemwr_frame (he := h))
  case biconflict => exact Frame.mono (by exact rfl) (execBiconflict_frame (he := h))
  case birsp => exact Frame.mono (by exact rfl) (execBirsp_frame (he := h))
  case getVersion => exact Frame.mono (by exact rfl) (execGetVersion_frame (he := h))
  case getCapabilities => exact Frame.mono (by exact rfl) (execGetCapabilities_frame (he := h))
  case negotiateAlgorithms => exact Frame.mono (by exact rfl) (execNegotiateAlgorithms_frame (he := h))
  case getDigests => exact Frame.mono (by exact rfl) (execGetDigests_frame (he := h))
  case getCertificate => exact Frame.mono (by exact rfl) (execGetCertificate_frame (he := h))
  case challenge => exact Frame.mono (by exact rfl) (execChallenge_frame (he := h))
  case getMeasurements => exact Frame.mono (by exact rfl) (execGetMeasurements_frame (he := h))
  case keyExchange => exact Frame.mono (by exact rfl) (execKeyExchange_frame (he := h))
  case finish => exact Frame.mono (by exact rfl) (execFinish_frame (he := h))
  case heartbeat => exact Frame.mono (by exact rfl) (execHeartbeat_frame (he := h))
  case keyUpdate => exact Frame.mono (by exact rfl) (execKeyUpdate_frame (he := h))
  case endSession => exact Frame.mono (by exact rfl) (execEndSession_frame (he := h))
  case spdmUnsupportedRequest => exact Frame.mono (by exact rfl) (execSpdmUnsupportedRequest_frame (he := h))
  case keyProg => exact Frame.mono (by exact rfl) (execKeyProg_frame (he := h))
  case kSetGo => exact Frame.mono (by exact rfl) (execKSetGo_frame (he := h))
  case kSetStop => exact Frame.mono (by exact rfl) (execKSetStop_frame (he := h))
  case ideIntegrityFailure => exact Frame.mono (by exact rfl) (execIdeIntegrityFailure_frame (he := h))
  case lockInterface => exact Frame.mono (by exact rfl) (execLockInterface_frame (he := h))
  case startInterface => exact Frame.mono (by exact rfl) (execStartInterface_frame (he := h))
  case stopInterface => exact Frame.mono (by exact rfl) (execStopInterface_frame (he := h))
  case deviceInterfaceReport => exact Frame.mono (by exact rfl) (execDeviceInterfaceReport_frame (he := h))
  case tdiViolation => exact Frame.mono (by exact rfl) (execTdiViolation_frame (he := h))
  case sensorSample => exact Frame.mono (by exact rfl) (execSensorSample_frame (he := h))
  case logMirrorWrite => exact Frame.mono (by exact rfl) (execLogMirrorWrite_frame (he := h))
  case configurationRequest => exact Frame.mono (by exact rfl) (execConfigurationRequest_frame (he := h))
  case imageRegionWriteDone => exact Frame.mono (by exact rfl) (execImageRegionWriteDone_frame (he := h))
  case linkReportedUp => exact Frame.mono (by exact rfl) (execLinkReportedUp_frame (he := h))

end Sys2Proof.Machine
end

