-- ==== Sys2Proof/Tests/Slice0.lean ====
section
/-! SUPPORT. Witnesses: for the statements with hypotheses, states and operands that meet them together, clause by clause; and
tests of single steps, whose expected results come from the spec. -/

namespace Sys2Proof.Tests

set_option Elab.async false

open Sys2Proof Sys2Proof.Machine

/-! ### Small states -/

/-- A host port whose link is in L0. -/
def livePort : Port :=
  { Port.reset with
    up := true, trained := true, cap := 1, inService := true, mse := true, vfEnable := true }

/-- A device in service: twin A leads and twin B follows, both links are up, the tick is agreed, and context 0 owns the object 0
of 1 MiB at address 0. -/
def base : State :=
  { State.reset with
    twins := ⟨{ Twin.reset with state := .lead, boot := false }, { Twin.reset with state := .active, boot := false }⟩
    time := { State.reset.time with tick := 100, bnd := 100, agreed := true }
    clk := { State.reset.clk with phase := 5 }
    ports := ⟨livePort, livePort⟩
    plan := { State.reset.plan with slots := [(0, { startPlan 2 1 1 with both := startEntries .a 1 ++ startEntries .b 1 ++ [planEntry 0 8 1 0] })] }
    objs := [(0, { Obj.none with state := .live, size64k := 16 })]
    funcs := [(0, { Func.reset with ready := true, bme := true }), (128, { Func.reset with ready := true, bme := true })] }

/-- The bytes of a record from its 8-byte words. -/
def words (l : List Nat) : List Byte := l.flatMap (leBytes 8)

/-- An admitted command that has not begun. -/
def newCmd (b : List Byte) : Cmd :=
  { slot := 0, bytes := b, stamp := 0, eligible := 100, admTick := 0, counted := true, started := false, begun := false, claimFrom := 0
    pred := .none, point := 0, above := [], claims := [], tally := [], stall := none, ends := none, blurred := false, result := none
    doneAt := 0, residue := 0, skipped := false, note := false, moved := false, forced := false, byAbort := false, vector := none
    quietFence := false, halfAt := none, halfDone := false, poisoned := false, invIssued := false, invAt := [], invLeft := 0
    invRest := [], lastHost := none, peerLeft := 0, notice := false, noticeAck := false, acts := 0, phase := 0, aux := [] }

/-- A state whose privileged queue of twin A holds one command. -/
def holding (s : State) (c : Cmd) : State :=
  { s with
    queues := (0, { privQueue .a with state := .active, prod := 1, cons := 1, cmds := [c] }) :: s.queues.tail }

/-- A command of the first slot, from its opcode, its subop and its parameter words. -/
def cmdOf (op sub : Nat) (par : List Nat) : Cmd := newCmd (words ((op + 65536 * sub) :: 0 :: par))

/-- The command in the first slot of queue 0. -/
def first : CmdRef := ⟨0, 0⟩

/-! ### How a witness shows what a claim asks -/

theorem waits_of {s : State} {r : CmdRef} {op : Nat} {sub : Option Nat} {c : Cmd}
    (h : (decide ((s.queue r.queue).cmdAt r.slot = some c) && hOpcode c.bytes == op && sub.all (fun x => hSubop c.bytes == x) &&
      !c.begun && c.result.isNone) = true) : Waits s r op sub c := by
  simp only [Bool.and_eq_true, decide_eq_true_eq, beq_iff_eq, Bool.not_eq_true', Option.isNone_iff_eq_none] at h
  obtain ⟨⟨⟨⟨h1, h2⟩, h3⟩, h4⟩, h5⟩ := h
  refine ⟨h1, h2, ?_, h4, h5⟩
  rintro x rfl
  simpa using h3

theorem begins_of {s : State} {r : CmdRef} {op : Nat} {sub : Option Nat} {c : Cmd}
    (h : ((decide ((s.queue r.queue).cmdAt r.slot = some c) && hOpcode c.bytes == op && sub.all (fun x => hSubop c.bytes == x) &&
      !c.begun && c.result.isNone) && c.pred != .decided && s.startable r.queue c && !hPred c.bytes) = true) :
    Begins s r op sub c (s.startedAt r c) := by
  rw [Bool.and_eq_true, Bool.and_eq_true, Bool.and_eq_true] at h
  obtain ⟨⟨⟨h1, h2⟩, h3⟩, h4⟩ := h
  exact ⟨waits_of h1, .inr ⟨by simpa using h2, h3, by simpa using h4, rfl⟩⟩

theorem checked_of {s : State} {r : CmdRef} {op sub : Nat} {c : Cmd} {u : State} (hb : Begins s r op (some sub) c u)
    (h : u.handleChecks r.queue c.slot c.stamp c.bytes = E.ok) : Checked s r op sub c (u.countSignal r.queue c) := ⟨u, hb, h, rfl⟩

theorem ctlBegins_of {s : State} {r : CmdRef} {sub : Nat} {c : Cmd} {u : State} (hb : Checked s r Op.contextCtl sub c u)
    (h : (!namesPriv sub (pf c.bytes 0 11 0) (pf c.bytes 0 25 12) &&
      (ctxCode sub (u.ctx (pf c.bytes 0 11 0)).eff == E.ok)) = true) : CtlBegins s r sub c u := by
  simp only [Bool.and_eq_true, Bool.not_eq_true', beq_iff_eq] at h
  exact ⟨hb, h.1, .inr h.2⟩

theorem writes_of {s : State} {p : Path} {r : Reg} {v : Word}
    (h : ((s.atOnce p && !s.deaf p && !s.tdiViolates p) && decide (regAt (Path.func p) r.offset = some r) &&
      (!r.mgmtOnly || (Path.fn p).isNone) && !r.reserved v.toNat && !Reg.illegal (Path.func p) v.toNat r) = true) : Writes s p r v := by
  simp only [Bool.and_eq_true, Bool.or_eq_true, Bool.not_eq_true', decide_eq_true_eq, Option.isNone_iff_eq_none] at h
  obtain ⟨⟨⟨⟨⟨⟨h0, h1⟩, h2⟩, h3⟩, h4⟩, h5⟩, h6⟩ := h
  exact ⟨⟨h0, h1, h2⟩, h3, h4, h5, h6⟩

/-- The PF's BAR0 on port 0, and the first VF's. -/
def pf0 : Path := .bar .a 0 none

def vf1 : Path := .bar .a 1 none

theorem exists_ok {α β : Type} {x : Except α β} (h : x.toBool = true) : ∃ t, x = .ok t := by
  cases x with
  | error => cases h
  | ok t => exact ⟨t, rfl⟩

theorem delivered_of {s : State} {h : FabHdr} {kind : Nat}
    (e : (h.tc.val == kindClass kind && h.vc.val == kindVc kind && h.dst == s.fab.device && h.pgen == (s.rx h.src).gen &&
      h.dgen == s.gen 52 && h.pseq == (s.rx h.src).expect.getD h.tc.val 0 && (s.route h.src).delay == h.age) = true) :
    Delivered s h kind (s.countedPkt h) := by
  simp only [Bool.and_eq_true, beq_iff_eq] at e
  obtain ⟨⟨⟨⟨⟨⟨h1, h2⟩, h3⟩, h4⟩, h5⟩, h6⟩, h7⟩ := e
  refine ⟨⟨⟨h1, h2, h3⟩, h4, h5, h6⟩, fun _ => Nat.le_of_eq h7, ?_⟩
  rw [if_neg (by omega)]

theorem asks_of {c : Instr} {s : State} {r : MgtReq} {x : Session} {op role : Nat} {dg : Option (List Nat)}
    (hm : mgtRow c = some (r, op, role, dg))
    (h : (decide (r.path = .mctpI3c) && s.spdmUp r.path && decide (s.session r.path r.session = some x) && x.ready && s.canStamp &&
      tst x.roles role) = true) : Asks c s r x (s.asked r op dg x) := by
  simp only [Bool.and_eq_true, decide_eq_true_eq] at h
  obtain ⟨⟨⟨⟨⟨h1, h2⟩, h3⟩, h4⟩, h5⟩, h6⟩ := h
  exact ⟨op, role, dg, hm, ⟨.inl h1, h2, h3, h4⟩, h5, h6, rfl⟩



/-- A state of the start-up sequencer. -/
def atPhase (n : Nat) : State := { State.reset with clk := { State.reset.clk with phase := n } }

/-- A firmware image of 256 bytes, as R454 lays its header out. -/
def image : List Byte := words [0x1574D5848, 256] ++ List.replicate 240 0

/-- A request of Harson's to the host. -/
def hostReq (k : ReqKind) : Req :=
  { tag := 9, kind := k, ctx := 0, ctxGen := 0, queue := 0, queueGen := 0, portGen := 0, twinGen := 0, page := none }

/-- A twin reads an image from the image store. -/
def loadingFrom (b : List Byte) : State :=
  { (base.modTwin .b fun w => { w with loading := true }) with
    mgt := { State.reset.mgt with minSvn := 0, flash := (List.range 256).map fun i => (imageBase + i, b.getD i 0) } }

/-- A twin measures the copy of an image that it holds. -/
def remeasuring (b : List Byte) : State :=
  { (base.modTwin .b fun w => { w with ret := some .measure, image := b }) with mgt := { State.reset.mgt with minSvn := 0 } }

theorem witness_StepRunsFrontCommandOrIdles :
  ∃ s : State, s.pending = [] :=
   ⟨base, by decide +kernel⟩

theorem witness_EachRowTouchesOnlyItsParts :
  ∃ (c : Instr) (s t : State), exec c s = .next t :=
   ⟨.ioscTrim, atPhase 1, _, rfl⟩

theorem witness_EveryStepKeepsMemoryCanonical :
  ∃ s t : State, s.mem.wf = true ∧
      step s = .next t :=
   ⟨base, _, by decide +kernel, rfl⟩

theorem witness_EveryStepKeepsAtMostOneLead :
  ∃ s t : State, ¬(s.leads .a = true ∧ s.leads .b = true) ∧
      step s = .next t :=
   ⟨base, _, by decide +kernel, rfl⟩

theorem witness_NoStepUnblowsAFuse :
  ∃ s t : State, step s = .next t ∧
      s.mgt.credLock = true :=
   ⟨{ base with mgt := { State.reset.mgt with credLock := true } }, _, rfl, by decide +kernel⟩

theorem witness_StartUpSequenceRuns :
  (∃ (s : State), s.clk.phase = 0) ∧
  (∃ s : State, s.clk.phase = 1) ∧
  (∃ (s : State) (n : Nat), s.clk.phase = 2 ∧
      2450 ≤ n ∧
      n ≤ 2550) ∧
  (∃ (s : State) (n : Nat), s.clk.phase = 2 ∧
      (n < 2450 ∨ 2550 < n) ∧
      s.clk.checks < 7) ∧
  (∃ (s : State) (n : Nat), s.clk.phase = 2 ∧
      (n < 2450 ∨ 2550 < n) ∧
      s.clk.checks = 7) ∧
  (∃ s : State, s.clk.phase = 3) ∧
  (∃ s : State, s.clk.phase = 4) ∧
  (∃ (s : State) (g : Word), s.clk.phase = 4 ∧
      g ≠ 0x17E49D5AB8306C2F) :=
   ⟨⟨atPhase 0, by decide +kernel⟩,
    ⟨atPhase 1, by decide +kernel⟩,
    ⟨atPhase 2, 2450, by decide +kernel⟩,
    ⟨atPhase 2, 2551, by decide +kernel⟩,
    ⟨{ atPhase 2 with clk := { State.reset.clk with phase := 2, checks := 7 } }, 2449, by decide +kernel⟩,
    ⟨atPhase 3, by decide +kernel⟩,
    ⟨atPhase 4, by decide +kernel⟩,
    ⟨atPhase 4, 0, by decide +kernel⟩⟩


theorem witness_ImagesAreMeasured_good : Config.releaseSignatureOk image = true →
    (∃ (s : State) (x : Side) (h image : List Byte), (s.twin x).loading = true ∧ s.clk.phase ≠ 7 ∧
      h = s.flashRead imageBase 256 ∧ 256 ≤ rd h 8 4 ∧ rd h 8 4 ≤ imageMax ∧ image = s.flashRead imageBase (rd h 8 4) ∧
      s.imageCheck x image = 0) ∧
    (∃ (s : State) (x : Side), (s.twin x).ret = some .measure ∧ s.imageCheck x (s.twin x).image = 0) := by
  intro hs
  have hf : (loadingFrom image).flashRead imageBase 256 = image := by decide +kernel
  have hr : rd image 8 4 = 256 := by decide +kernel
  refine ⟨⟨loadingFrom image, .b, image, image, by decide +kernel, by decide +kernel, hf.symm, Nat.le_of_eq hr.symm, by rw [hr]; decide +kernel,
    by rw [hr, hf], ?_⟩, ⟨remeasuring image, .b, by decide +kernel, ?_⟩⟩
  · unfold State.imageCheck; rw [hs]; decide +kernel
  · have : ((remeasuring image).twin .b).image = image := rfl
    rw [this]; unfold State.imageCheck; rw [hs]; decide +kernel

theorem witness_ImagesAreMeasured_bad :
    (∃ (s : State) (x : Side) (h image : List Byte), (s.twin x).loading = true ∧ s.clk.phase ≠ 7 ∧
      h = s.flashRead imageBase 256 ∧ 256 ≤ rd h 8 4 ∧ rd h 8 4 ≤ imageMax ∧ image = s.flashRead imageBase (rd h 8 4) ∧
      s.imageCheck x image ≠ 0 ∧ (s.twin x).boot = false) ∧
    (∃ (s : State) (x : Side), (s.twin x).ret = some .measure ∧ s.imageCheck x (s.twin x).image ≠ 0 ∧ (s.twin x).boot = false) :=
  ⟨⟨loadingFrom (0 :: image.tail), .b, _, _, by decide +kernel, by decide +kernel, rfl, by decide +kernel, by decide +kernel, rfl,
    by decide +kernel, by decide +kernel⟩, ⟨remeasuring [], .b, by decide +kernel, by decide +kernel, by decide +kernel⟩⟩

theorem witness_SelfTestsAreJudgedBySignature :
  (∃ (s u : State) (r : CmdRef) (c : Cmd), Begins s r Op.selftest none c u ∧
      (u.twin (Side.ofBool (tst (pw c.bytes 0) 0))).state = .detached ∧
      (u.twin (Side.ofBool (tst (pw c.bytes 0) 0))).test = none ∧
      (u.twin (Side.ofBool (tst (pw c.bytes 0) 0))).loading = false) ∧
  (∃ (s : State) (x : Side) (o : TestOrigin) (kind : Nat), (s.twin x).test = some (o, kind)) ∧
  (∃ (s : State) (x : Side), (s.twin x).inReset = true ∧
      s.domainHeld (48 + x.num) = true) ∧
  (∃ (s : State) (x : Side), (s.twin x).inReset = true ∧
      s.domainHeld (48 + x.num) = false) :=
   ⟨⟨holding (base.modTwin .b fun w => { w with state := .detached }) (cmdOf Op.selftest 0 [1]), _, first, cmdOf Op.selftest 0 [1], begins_of (by decide +kernel), by decide +kernel⟩,
    ⟨base.modTwin .b fun w => { w with test := some (.start, 3) }, .b, .start, 3, by decide +kernel⟩,
    ⟨(base.modTwin .a fun w => { w with inReset := true }).modPort .a fun x => { x with reqs := [{ hostReq (.word 0 0) with twinGen := 1 }] }, .a, by decide +kernel⟩,
    ⟨base.modTwin .a fun w => { w with inReset := true }, .a, by decide +kernel⟩⟩

theorem witness_ClockMonitorAndCounterAct :
  (∃ (s : State) (b : Bool), s.clk.tclk = bit b ∧
      tst s.clk.locks (bit !b) = true) ∧
  (∃ (s : State) (b : Bool), s.clk.hclkS = bit b ∧
      tst s.clk.locks (2 + bit !b) = false) ∧
  (∃ (s : State) (x : Side) (b : Bool), s.clk.hclk.get x = bit b ∧
      s.carries x = true ∧
      (s.twin x).fail = none) ∧
  (∃ (s : State) (x : Side) (b : Bool), s.clk.hclk.get x ≠ bit b) ∧
  (∃ s : State, (s.clk.tclk < 2 ∨ s.clk.hclkS < 2)) ∧
  (∃ (s : State), s.clk.busy = true) ∧
  (∃ (s : State), s.clk.busy = true) :=
   ⟨⟨{ base with clk := { base.clk with locks := 255 } }, false, by decide +kernel⟩,
    ⟨base, false, by decide +kernel⟩,
    ⟨base, .b, false, by decide +kernel⟩,
    ⟨base, .b, true, by decide +kernel⟩,
    ⟨base, by decide +kernel⟩,
    ⟨{ base with clk := { base.clk with busy := true } }, by decide +kernel⟩,
    ⟨{ base with clk := { base.clk with busy := true } }, by decide +kernel⟩⟩

theorem witness_SupplyWarningsAreRecorded :
  (∃ (s : State), s.rst.warn = none) ∧
  (∃ (s : State) (w : Nat), s.rst.warn = some w ∧
      s.rst.cleared = false) :=
   ⟨⟨base, by decide +kernel⟩,
    ⟨{ base with rst := { base.rst with warn := some 4 } }, 4, by decide +kernel⟩⟩


/-- A state with a RUNNING context 2, which has an empty ACTIVE queue 2. -/
def ordinary : State :=
  { base with
    ctxs := base.ctxs ++ [(2, { Ctx.none with state := .running })]
    queues := base.queues ++ [(2, { Queue.none with live := true, state := .active, ctx := 2 })] }

/-- A privileged queue to whose first slot the doorbell has been rung. -/
def rung : State :=
  { base with
    queues := [(0, { privQueue .a with state := .active, prod := 1 })] }

theorem witness_DoorbellsAreTakenOrRefused :
  (∃ (s : State) (p : Side) (f : Fin 128) (e : Option (Fin 8)), s.atOnce (.bar p f e) = false) ∧
  (∃ (s : State) (path : Path), s.atOnce path = true ∧
      s.deaf path = false) ∧
  (∃ (s : State) (path : Path) (off width : Nat), s.atOnce path = true ∧
      s.deaf path = false ∧
      (width ≠ 8 ∨ off % 8 ≠ 0)) ∧
  (∃ (s : State) (path : Path), s.atOnce path = true ∧
      s.deaf path = true) ∧
  (∃ (s : State) (path : Path) (off : Nat), s.atOnce path = true ∧
      off % 8 = 0 ∧
      s.deaf path = false ∧
      s.anyService = true ∧
      s.canStamp = false) ∧
  (∃ (s u : State) (path : Path) (off slot qn : Nat) (v : Word) (q : _), s.atOnce path = true ∧
      off % 8 = 0 ∧
      s.deaf path = false ∧
      s.anyService = true ∧
      s.tdiViolates path = false ∧
      s.canStamp = true ∧
      u = s.stamp.2 ∧
      u.doorCtx path off = some slot ∧
      off % 4096 < 0x200 ∧
      u.localQueue slot (off % 4096 / 8) = some qn ∧
      (u.queue qn).state ≠ .stopped ∧
      (u.ctx (u.queue qn).ctx).state ≠ .draining ∧
      (u.queue qn).priv = false ∧
      (u.queue qn).ring1 (Path.side path) v.toNat s.stamp.1 (decide ((u.ctx (u.queue qn).ctx).state = .running)) = .taken q) ∧
  (∃ (s u : State) (path : Path) (off slot qn : Nat) (v : Word) (code : _), s.atOnce path = true ∧
      off % 8 = 0 ∧
      s.deaf path = false ∧
      s.anyService = true ∧
      s.tdiViolates path = false ∧
      s.canStamp = true ∧
      u = s.stamp.2 ∧
      u.doorCtx path off = some slot ∧
      off % 4096 < 0x200 ∧
      u.localQueue slot (off % 4096 / 8) = some qn ∧
      (u.queue qn).state ≠ .stopped ∧
      (u.ctx (u.queue qn).ctx).state ≠ .draining ∧
      (u.queue qn).priv = false ∧
      (u.queue qn).ring1 (Path.side path) v.toNat s.stamp.1 (decide ((u.ctx (u.queue qn).ctx).state = .running)) = .reject code) :=
   ⟨⟨base.modPort .a fun x => { x with behind := [.unsupported .a] }, .a, 0, none, by decide +kernel⟩,
    ⟨base, pf0, by decide +kernel⟩,
    ⟨base, pf0, 0, 4, by decide +kernel⟩,
    ⟨base.modFunc .a 0 fun x => { x with flr := true }, pf0, by decide +kernel⟩,
    ⟨{ base with time := { base.time with seq := 65535 } }, pf0, 0, by decide +kernel⟩,
    by refine ⟨ordinary, _, pf0, 8192, 2, 2, 0x100000001, _, ?_, ?_, ?_, ?_, ?_, ?_, rfl, ?_, ?_, ?_, ?_, ?_, ?_, rfl⟩ <;> decide +kernel,
    by refine ⟨ordinary, _, pf0, 8192, 2, 2, 0x200000001, _, ?_, ?_, ?_, ?_, ?_, ?_, rfl, ?_, ?_, ?_, ?_, ?_, ?_, rfl⟩ <;> decide +kernel⟩

theorem witness_DoorbellWritesTheProducerIndex :
  (∃ (q q' : Queue) (via : Side) (value stamp : Nat) (running : Bool), q.ret ≤ q.prod ∧
      q.prod ≤ q.ret + q.slots ∧
      q.ring1 via value stamp running = .taken q') ∧
  (∃ (q q' : Queue) (via : Side) (value stamp : Nat) (running : Bool), q.ret ≤ q.prod ∧
      q.prod ≤ q.ret + q.slots ∧
      q.ring1 via value stamp running = .taken q' ∧
      q.prod < q'.prod ∧
      q.state = .idle ∧
      running = true) :=
   ⟨⟨ordinary.queue 2, _, .a, 0x100000001, 0, true, by decide +kernel, by decide +kernel, rfl⟩,
    ⟨{ ordinary.queue 2 with state := .idle }, _, .a, 0x100000001, 0, true, by decide +kernel, by decide +kernel, rfl, by decide +kernel⟩⟩

theorem witness_SlotFetchAdmitsTheHeadSlot :
  (∃ (s : State) (qn : Nat) (q : Queue) (given head b : List Byte) (p : Bool), q = s.queue qn ∧
      s.canFetch qn = true ∧
      s.inTheWay (s.slotRanges qn) [] = [] ∧
      s.slotBytes q (s.ringAddr q q.cons) 64 given p = .ok (head, false) ∧
      hPhase head = q.phaseAt q.cons ∧
      q.cons % q.slots + hChain head + 1 ≤ q.slots ∧
      q.cons + hChain head + 1 ≤ q.prod ∧
      s.chainBytes q p (hChain head + 1) (s.ringAddr q q.cons) given = .ok (b, false)) ∧
  (∃ (s : State) (qn : Nat) (q : Queue) (given head : List Byte) (p : Bool), q = s.queue qn ∧
      s.canFetch qn = true ∧
      s.inTheWay (s.slotRanges qn) [] = [] ∧
      s.slotBytes q (s.ringAddr q q.cons) 64 given p = .ok (head, true)) ∧
  (∃ (s : State) (qn : Nat), 1024 ≤ (s.queue qn).cmds.length) ∧
  (∃ (s : State) (qn g : Nat), g ≠ (s.queue qn).gen) :=
   ⟨⟨rung, 0, rung.queue 0, words (256 :: List.replicate 7 0), words (256 :: List.replicate 7 0), words (256 :: List.replicate 7 0), false, rfl, by decide +kernel, by decide +kernel, rfl, by decide +kernel, by decide +kernel, by decide +kernel, rfl⟩,
    ⟨rung, 0, rung.queue 0, words (256 :: List.replicate 7 0), words (256 :: List.replicate 7 0), true, rfl, by decide +kernel, by decide +kernel, rfl⟩,
    ⟨{ rung with queues := [(0, { privQueue .a with cmds := List.replicate 1024 (newCmd []) })] }, 0, by decide +kernel⟩,
    ⟨base, 0, 1, by decide +kernel⟩⟩

theorem witness_PredicatedCommandsAskForTheirWord :
  (∃ (i : Instr) (s : State) (r : CmdRef) (op : Nat) (sub : Option Nat) (c : Cmd), startRow i = some (r, op, sub) ∧
      Waits s r op sub c ∧
      c.pred ≠ .decided ∧
      s.startable r.queue c = true ∧
      hPred c.bytes = true ∧
      s.collOf r = none) ∧
  (∃ (s : State) (qn : Nat) (q : Queue) (c : Cmd) (t : Target), q = s.queue qn ∧
      t = (s.target q.ctx (bits (rd c.bytes 16 8) 56 3 * 8) 8 .read).1 ∧
      (∀ b page, t ≠ .host b page)) ∧
  (∃ (s : State) (qn : Nat) (q : Queue) (c : Cmd) (t : Target) (b page : _), q = s.queue qn ∧
      t = (s.target q.ctx (bits (rd c.bytes 16 8) 56 3 * 8) 8 .read).1 ∧
      t = .host b page ∧
      (s.canIssue (s.ctx q.ctx).port (s.ctx q.ctx).func = true) ∧
      s.tagFree (s.ctx q.ctx).port = true) ∧
  (∃ (s : State) (qn : Nat) (q : Queue) (c : Cmd) (t : Target) (b page : _), q = s.queue qn ∧
      t = (s.target q.ctx (bits (rd c.bytes 16 8) 56 3 * 8) 8 .read).1 ∧
      t = .host b page ∧
      (s.canIssue (s.ctx q.ctx).port (s.ctx q.ctx).func = false ∨ s.tagFree (s.ctx q.ctx).port = false)) :=
   ⟨⟨.nop first, holding base (cmdOf (Op.nop + 2 ^ 30) 0 []), first, Op.nop, none, cmdOf (Op.nop + 2 ^ 30) 0 [], rfl, waits_of (by decide +kernel), by decide +kernel⟩,
    ⟨base, 0, _, cmdOf Op.nop 0 [2 ^ 56], _, rfl, rfl, nofun⟩,
    ⟨base, 0, _, cmdOf Op.nop 0 [0], _, 0, none, rfl, rfl, rfl, by decide +kernel⟩,
    ⟨base.modPort .a fun x => { x with up := false }, 0, _, cmdOf Op.nop 0 [0], _, 0, none, rfl, rfl, rfl, by decide +kernel⟩⟩

theorem witness_PredicatesDecideCommands :
  (∃ (s u : State) (r : CmdRef) (a : Nat) (c : Cmd), (s.queue r.queue).cmdAt r.slot = some c ∧
      c.pred = .waiting ∧
      c.result = none ∧
      u = s.dropWord r.queue c.slot ∧
      (s.target (s.queue r.queue).ctx (bits (rd c.bytes 16 8) 56 3 * 8) 8 .read).1 = .loc a ∧
      (u.target (s.queue r.queue).ctx (bits (rd c.bytes 16 8) 56 3 * 8) 8 .read).1 = .loc a ∧
      s.inTheWay [(a, 8)] [] = []) ∧
  (∃ (s : State) (r : CmdRef) (g : Nat), s.inTheWay (s.wordRanges r) [] = [] ∧
      g ≠ (s.queue r.queue).gen) ∧
  (∃ (s : State) (r : CmdRef) (c : Cmd), s.inTheWay (s.wordRanges r) [] = [] ∧
      (s.queue r.queue).cmdAt r.slot = some c ∧
      c.result ≠ none) :=
   ⟨⟨holding base { cmdOf (Op.nop + 2 ^ 30) 0 [2 ^ 56] with pred := .waiting }, _, first, 0, { cmdOf (Op.nop + 2 ^ 30) 0 [2 ^ 56] with pred := .waiting }, by decide +kernel, by decide +kernel, by decide +kernel, rfl, by decide +kernel⟩,
    ⟨base, first, 1, by decide +kernel⟩,
    ⟨holding base { cmdOf (Op.nop + 2 ^ 30) 0 [2 ^ 56] with pred := .waiting, result := some 0 }, first, { cmdOf (Op.nop + 2 ^ 30) 0 [2 ^ 56] with pred := .waiting, result := some 0 }, by decide +kernel⟩⟩

theorem witness_EndingCommandsEndAsTheyBegin :
  (∃ (s u : State) (r : CmdRef) (c : Cmd), Begins s r Op.nop none c u) ∧
  (∃ (s u : State) (r : CmdRef) (c : Cmd), Begins s r Op.fenceSignal none c u) ∧
  (∃ (s u : State) (r : CmdRef) (c : Cmd), Begins s r Op.barrier none c u) ∧
  (∃ (s u : State) (r : CmdRef) (c : Cmd), Begins s r Op.fenceWait none c u) ∧
  (∃ (d : Cmd) (f : Fence), hOpcode d.bytes = Op.fenceWait ∧
      d.begun = true ∧
      d.result = none ∧
      fTag (ph d.bytes 8) = f.tag) ∧
  (∃ (f : Fence) (target : Nat), target ≤ f.value) ∧
  (∃ (f : Fence) (target : Nat), f.value < target ∧
      f.state = .broken) ∧
  (∃ (f : Fence) (target : Nat), f.value < target ∧
      f.state ≠ .broken) :=
   ⟨⟨holding base (cmdOf Op.nop 0 []), _, first, cmdOf Op.nop 0 [], begins_of (by decide +kernel)⟩,
    ⟨holding base (cmdOf Op.fenceSignal 0 []), _, first, cmdOf Op.fenceSignal 0 [], begins_of (by decide +kernel)⟩,
    ⟨holding base (cmdOf Op.barrier 0 []), _, first, cmdOf Op.barrier 0 [], begins_of (by decide +kernel)⟩,
    ⟨holding base (cmdOf Op.fenceWait 0 []), _, first, cmdOf Op.fenceWait 0 [], begins_of (by decide +kernel)⟩,
    ⟨{ cmdOf Op.fenceWait 0 [] with begun := true }, Fence.none, by decide +kernel⟩,
    ⟨{ Fence.none with value := 5 }, 5, by decide +kernel⟩,
    ⟨{ Fence.none with state := .broken }, 1, by decide +kernel⟩,
    ⟨{ Fence.none with value := 4 }, 5, by decide +kernel⟩⟩

theorem witness_EngineCommandsBegin :
  (∃ (s u : State) (r : CmdRef) (c : Cmd), Begins s r Op.copy none c u) ∧
  (∃ (s u : State) (r : CmdRef) (c : Cmd), Begins s r Op.copy2d none c u) ∧
  (∃ (s u : State) (r : CmdRef) (c : Cmd), Begins s r Op.gather none c u) ∧
  (∃ (s u : State) (r : CmdRef) (c : Cmd), Begins s r Op.scatter none c u) ∧
  (∃ (s u : State) (r : CmdRef) (c : Cmd), Begins s r Op.fill none c u) ∧
  (∃ (s u : State) (r : CmdRef) (c : Cmd), Begins s r Op.quantize none c u) ∧
  (∃ (s u : State) (r : CmdRef) (c : Cmd), Begins s r Op.dequantize none c u) ∧
  (∃ (s u : State) (r : CmdRef) (c : Cmd), Begins s r Op.accumulate none c u) ∧
  (∃ (s u : State) (r : CmdRef) (c : Cmd), Begins s r Op.compact none c u) ∧
  (∃ (s u : State) (r : CmdRef) (c : Cmd), Begins s r Op.expand none c u) ∧
  (∃ (s u : State) (r : CmdRef) (c : Cmd), Begins s r Op.dispatch none c u) ∧
  (∃ (s u : State) (r : CmdRef) (c : Cmd), Begins s r Op.combine none c u) ∧
  (∃ (s u : State) (r : CmdRef) (op : Nat) (c : Cmd), Begins s r op none c u) :=
   ⟨⟨holding base (cmdOf Op.copy 0 []), _, first, cmdOf Op.copy 0 [], begins_of (by decide +kernel)⟩,
    ⟨holding base (cmdOf Op.copy2d 0 []), _, first, cmdOf Op.copy2d 0 [], begins_of (by decide +kernel)⟩,
    ⟨holding base (cmdOf Op.gather 0 []), _, first, cmdOf Op.gather 0 [], begins_of (by decide +kernel)⟩,
    ⟨holding base (cmdOf Op.scatter 0 []), _, first, cmdOf Op.scatter 0 [], begins_of (by decide +kernel)⟩,
    ⟨holding base (cmdOf Op.fill 0 []), _, first, cmdOf Op.fill 0 [], begins_of (by decide +kernel)⟩,
    ⟨holding base (cmdOf Op.quantize 0 []), _, first, cmdOf Op.quantize 0 [], begins_of (by decide +kernel)⟩,
    ⟨holding base (cmdOf Op.dequantize 0 []), _, first, cmdOf Op.dequantize 0 [], begins_of (by decide +kernel)⟩,
    ⟨holding base (cmdOf Op.accumulate 0 []), _, first, cmdOf Op.accumulate 0 [], begins_of (by decide +kernel)⟩,
    ⟨holding base (cmdOf Op.compact 0 []), _, first, cmdOf Op.compact 0 [], begins_of (by decide +kernel)⟩,
    ⟨holding base (cmdOf Op.expand 0 []), _, first, cmdOf Op.expand 0 [], begins_of (by decide +kernel)⟩,
    ⟨holding base (cmdOf Op.dispatch 0 []), _, first, cmdOf Op.dispatch 0 [], begins_of (by decide +kernel)⟩,
    ⟨holding base (cmdOf Op.combine 0 []), _, first, cmdOf Op.combine 0 [], begins_of (by decide +kernel)⟩,
    ⟨holding base (cmdOf Op.copy 0 []), _, first, Op.copy, cmdOf Op.copy 0 [], begins_of (by decide +kernel)⟩⟩

theorem witness_WriteInlineWritesItsBytes :
  ∃ (s u v : State) (r : CmdRef) (c : Cmd) (a n : Nat), Begins s r Op.writeInline none c u ∧
      u.works r.queue = true ∧
      u.slices r.queue = true ∧
      c.skipped = false ∧
      c.stall = none ∧
      c.point = 0 ∧
      c.peerLeft = 0 ∧
      (∀ p, ∀ e ∈ (u.port p).journal, e.dataOf r.queue c.slot (2 ^ 64) = false) ∧
      n = pf c.bytes 8 8 0 ∧
      0 < n ∧
      pf c.bytes 0 56 0 % 64 + n ≤ 64 ∧
      n ≤ (c.bytes.drop (pOff c.bytes + 16)).length ∧
      (u.target (u.queue r.queue).ctx (pf c.bytes 0 56 0) n .write).1 = .loc a ∧
      u.inTheWay [] (u.inlineRanges r.queue c.bytes) = [] ∧
      (v = ((u.touch (u.queue r.queue).ctx (pf c.bytes 0 56 0) .write).setMem (u.mem.storeP a (((c.bytes.drop (pOff c.bytes + 16)).take n).map fun x => (x, false)))).modCmd r.queue c.slot (fun y => { y with point := 1 })) ∧
      Quiet v [(a, n)] :=
   by refine ⟨holding base (cmdOf Op.writeInline 0 [2 ^ 56, 8, 0, 0, 0, 0]), _, _, first, cmdOf Op.writeInline 0 [2 ^ 56, 8, 0, 0, 0, 0], 0, _, begins_of (by decide +kernel), ?_, ?_, ?_, ?_, ?_, ?_, (fun p e he => by cases p <;> cases he), rfl, ?_, ?_, ?_, ?_, ?_, rfl, by unfold Quiet; decide +kernel⟩ <;> decide +kernel

theorem witness_LaunchesAreHandedOffAndAnswered :
  (∃ (s u : State) (r : CmdRef) (c : Cmd), Begins s r Op.launch none c u ∧
      u.works r.queue = true ∧
      u.slices r.queue = true ∧
      c.skipped = false ∧
      c.phase = 0 ∧
      (∀ n, n < 48 → tst (pf c.bytes 8 47 0) n = true → (u.cd n).state = .inService) ∧
      u.serves (u.ctx (u.queue r.queue).ctx).home.other = false) ∧
  (∃ (s : State) (r : CmdRef) (c : Cmd) (gen code : Nat), s.rst.orphans.contains r = false ∧
      (s.ctx (s.queue r.queue).ctx).gen = gen ∧
      (s.queue r.queue).cmdAt r.slot = some c ∧
      hOpcode c.bytes = Op.launch ∧
      c.phase = 1 ∧
      c.acts ≠ 0 ∧
      launchCode code = true) ∧
  (∃ (s : State) (r : CmdRef) (c : Cmd) (gen code : Nat), s.rst.orphans.contains r = false ∧
      (s.ctx (s.queue r.queue).ctx).gen = gen ∧
      (s.queue r.queue).cmdAt r.slot = some c ∧
      hOpcode c.bytes = Op.launch ∧
      c.phase = 1 ∧
      c.acts ≠ 0 ∧
      launchCode code = true ∧
      code ≠ E.ok) ∧
  (∃ (s : State) (r : CmdRef) (gen : Nat), s.rst.orphans.contains r = false ∧
      (s.ctx (s.queue r.queue).ctx).gen ≠ gen) ∧
  (∃ (s : State) (r : CmdRef), s.rst.orphans.contains r = true) ∧
  (∃ (s : State) (r : CmdRef) (c : Cmd), (s.queue r.queue).cmdAt r.slot = some c ∧
      c.notice = true ∧
      c.noticeAck = false ∧
      hOpcode c.bytes ≠ Op.launch) :=
   ⟨⟨holding (base.modTwin .b fun w => { w with state := .detached }) (cmdOf Op.launch 0 [0, 1]), _, first, cmdOf Op.launch 0 [0, 1], begins_of (by decide +kernel), by decide +kernel⟩,
    ⟨holding base { cmdOf Op.launch 0 [0, 1] with begun := true, phase := 1, acts := 1 }, first, { cmdOf Op.launch 0 [0, 1] with begun := true, phase := 1, acts := 1 }, 0, 0, by decide +kernel⟩,
    ⟨holding base { cmdOf Op.launch 0 [0, 1] with begun := true, phase := 1, acts := 1 }, first, { cmdOf Op.launch 0 [0, 1] with begun := true, phase := 1, acts := 1 }, 0, E.badField, by decide +kernel⟩,
    ⟨base, first, 1, by decide +kernel⟩,
    ⟨{ base with rst := { base.rst with orphans := [first] } }, first, by decide +kernel⟩,
    ⟨holding base { cmdOf Op.nop 0 [] with begun := true, notice := true }, first, { cmdOf Op.nop 0 [] with begun := true, notice := true }, by decide +kernel⟩⟩

theorem witness_AbortEndsTheTargetsCommands :
  (∃ (s u : State) (r : CmdRef) (c : Cmd), Begins s r Op.abort none c u) ∧
  (∃ (s : State) (n : Nat) (skip : Cmd → Bool) (l : List Cmd), (l = (s.queue n).cmds.filter (fun c => !skip c && !c.spared && !c.byAbort)) ∧
      (∀ c ∈ l, c.claims = [])) ∧
  (∃ (d : Cmd), accumulates d.bytes = false) :=
   ⟨⟨holding base (cmdOf Op.abort 0 []), _, first, cmdOf Op.abort 0 [], begins_of (by decide +kernel)⟩,
    ⟨holding base (newCmd []), 0, fun _ => false, _, rfl, by decide +kernel⟩,
    ⟨newCmd [], by decide +kernel⟩⟩

theorem witness_CommandCompleteRetiresTheHead :
  ∃ (s t : State) (qn code : Nat) (c : Cmd) (l : List Cmd), (s.queue qn).live = true ∧
      s.works qn = true ∧
      (s.queue qn).cmds = c :: l ∧
      (∀ d ∈ (s.queue qn).cmds, s.halfDue d = false) ∧
      c.result = some code ∧
      c.doneAt ≤ s.time.bnd ∧
      s.mapWaits qn c = false ∧
      (c.skipped = true ∨ (s.landed qn c = true ∧ (code ≠ E.ok ∨ hOpcode c.bytes ≠ Op.dispatch) ∧ statsAddr c.bytes = 0 ∧
        c.tally = [] ∧ (ctrlOf c.bytes).inv = false ∧ c.invDone = true)) ∧
      (s.queue qn).replyHeld c = false ∧
      (s.queue qn).deferred = [] ∧
      s.signalReady qn c code = true ∧
      s.stepsShort qn c code = none ∧
      s.inTheWay [] (s.replyRanges qn c) = [] ∧
      s.retire qn c code = some t ∧
      Quiet t (s.replyRanges qn c) :=
   by refine ⟨holding base { cmdOf Op.nop 0 [] with begun := true, started := true, result := some 0 }, ((holding base { cmdOf Op.nop 0 [] with begun := true, started := true, result := some 0 }).retire 0 { cmdOf Op.nop 0 [] with begun := true, started := true, result := some 0 } 0).get (by decide +kernel), 0, 0, { cmdOf Op.nop 0 [] with begun := true, started := true, result := some 0 }, [], ?_, ?_, ?_, ?_, ?_, ?_, ?_, ?_, ?_, ?_, ?_, ?_, ?_, (Option.some_get _).symm, by unfold Quiet; decide +kernel⟩ <;> decide +kernel


/-- The root table of context 0 holds one leaf of the highest level. -/
def mapped : State := { base with xlt := { base.xlt with writes := [(0, 3)] } }

/-- Object 1 is a pool of 64 KiB. -/
def pooled : State :=
  { base with objs := base.objs ++ [(1, { Obj.none with state := .live, base := 0x100000, size64k := 1, attr := 1 })] }

/-- Context 2 in a state of its life. -/
def withCtx (st : CtxState) : State := { base with ctxs := base.ctxs ++ [(2, { Ctx.none with state := st })] }

/-- Fence 0 is allocated, of context 0. -/
def fenced : State := { base with fences := [(0, { Fence.none with live := true })] }

/-- A plan slot 1 in a state of its life, with the period in force. -/
def withSlot (st : SlotState) : State :=
  { base with plan := { base.plan with slots := base.plan.slots ++ [(1, { PlanSlot.none with state := st, period := 2 })] } }

/-- A plan image without entries (R70), with the digest of R73. -/
def planImage : List Byte :=
  let h := words [0x080000014E414C50, 0, 0, 0, 0]
  h ++ sha384 (h ++ List.replicate 88 0) ++ List.replicate 40 0

/-- The image stands at the start of object 0. -/
def imaged : State := base.setMem (base.mem.store 0 planImage false)

/-- A commit of slot 1 pends. -/
def pend (tick : Nat) (fabric : Bool) (check : Option Bool) : Commit :=
  { slot := 1, tick := tick, fabric := fabric, group := 1, cmd := first, check := check, decision := none, results := [], sent := false }

def pending (tick : Nat) (fabric : Bool) (check : Option Bool) : State :=
  { withSlot .pending with plan := { (withSlot .pending).plan with pend := some (pend tick fabric check) } }

/-- Group 1 has the members listed; this device is device 0. -/
def inGroup (l : List Nat) (s : State) : State :=
  s.modFab fun f => { f with groups := [(1, { Group.none with members := l.length, list := l })] }

/-- Queue 2 of context 2 is being given up. -/
def givenUp : State :=
  { ordinary with queues := base.queues ++ [(2, { Queue.none with live := true, ctx := 2, destroy := true })] }

theorem witness_MappingCommandsWriteEntries :
  (∃ (s u : State) (r : CmdRef) (c : Cmd), Begins s r Op.map none c u) ∧
  (∃ (s u : State) (r : CmdRef) (c : Cmd), Begins s r Op.unmap none c u ∧
      (∀ x ∈ u.leaves (u.queue r.queue).ctx,
        (leafPage x.1 x.2.1 x.2.2.2).1 + (leafPage x.1 x.2.1 x.2.2.2).2 ≤ pf c.bytes 0 56 0 ∨
          pf c.bytes 0 56 0 + 4096 * pf c.bytes 8 44 0 ≤ (leafPage x.1 x.2.1 x.2.2.2).1)) ∧
  (∃ (s u : State) (r : CmdRef) (c : Cmd) (x : Nat × Nat × Nat × Nat), Begins s r Op.unmap none c u ∧
      x ∈ u.leaves (u.queue r.queue).ctx ∧
      (leafPage x.1 x.2.1 x.2.2.2).1 < pf c.bytes 0 56 0 ∧
      pf c.bytes 0 56 0 < (leafPage x.1 x.2.1 x.2.2.2).1 + (leafPage x.1 x.2.1 x.2.2.2).2 ∧
      0 < pf c.bytes 8 44 0) ∧
  (∃ (s u : State) (r : CmdRef) (c : Cmd), Begins s r Op.invalidate none c u ∧
      tst (pw c.bytes 24) 1 = true ∧
      tst (pw c.bytes 24) 0 = false) ∧
  (∃ (s u : State) (r : CmdRef) (c : Cmd), Begins s r Op.invalidate none c u ∧
      tst (pw c.bytes 24) 1 = false ∧
      tst (pw c.bytes 24) 0 = true ∧
      u.liveDomains (pf c.bytes 16 47 0) ≠ 0 ∧
      0 < u.invRoom) ∧
  (∃ (s u : State) (r : CmdRef) (c : Cmd), Begins s r Op.invalidate none c u ∧
      tst (pw c.bytes 24) 1 = false ∧
      tst (pw c.bytes 24) 0 = true ∧
      u.liveDomains (pf c.bytes 16 47 0) = 0) ∧
  (∃ (s : State) (n : Fin 48) (g : Nat), g ≠ s.gen n.val) ∧
  (∃ (r : CmdRef), r.queue < 16384) ∧
  (∃ (c : Cmd), hOpcode c.bytes = Op.invalidate ∧
      c.invIssued = true ∧
      c.invDone = true) ∧
  (∃ (c : Cmd), c.invDone = false) :=
   ⟨⟨holding base (cmdOf Op.map 0 []), _, first, cmdOf Op.map 0 [], begins_of (by decide +kernel)⟩,
    ⟨holding base (cmdOf Op.unmap 0 [2 ^ 56, 1]), _, first, cmdOf Op.unmap 0 [2 ^ 56, 1], begins_of (by decide +kernel), by decide +kernel⟩,
    ⟨holding mapped (cmdOf Op.unmap 0 [4096, 1]), _, first, cmdOf Op.unmap 0 [4096, 1], (0, 4, 0, 3), begins_of (by decide +kernel), by decide +kernel⟩,
    ⟨holding base (cmdOf Op.invalidate 0 [0, 0, 0, 2]), _, first, cmdOf Op.invalidate 0 [0, 0, 0, 2], begins_of (by decide +kernel), by decide +kernel⟩,
    ⟨holding base (cmdOf Op.invalidate 0 [0, 0, 1, 1]), _, first, cmdOf Op.invalidate 0 [0, 0, 1, 1], begins_of (by decide +kernel), by decide +kernel⟩,
    ⟨holding base (cmdOf Op.invalidate 0 [0, 0, 0, 1]), _, first, cmdOf Op.invalidate 0 [0, 0, 0, 1], begins_of (by decide +kernel), by decide +kernel⟩,
    ⟨base, 0, 1, by decide +kernel⟩,
    ⟨first, by decide +kernel⟩,
    ⟨{ cmdOf Op.invalidate 0 [] with begun := true, invIssued := true }, by decide +kernel⟩,
    ⟨{ cmdOf Op.invalidate 0 [] with begun := true, invIssued := true, invLeft := 1 }, by decide +kernel⟩⟩

theorem witness_ContextsOpenStartParkResume :
  (∃ (s u : State) (r : CmdRef) (c : Cmd) (home : Side), CtlBegins s r 1 c u ∧
      u.tdiFrozen (pf c.bytes 0 18 12) = false ∧
      u.chooseHome (pf c.bytes 0 27 26) = some home ∧
      (∀ y ∈ u.ctxs, y.2.eff ≠ .free → y.2.func = pf c.bytes 0 18 12 →
        (pf c.bytes 0 18 12 = 0 ∨ y.2.loc ≠ pf c.bytes 0 24 19) ∧ (y.2.priv = true ∨ y.2.pasid ≠ pf c.bytes 8 19 0)) ∧
      (u.poolAt (pf c.bytes 16 63 12 * 4096)).isSome = true ∧
      u.poolBound (pf c.bytes 16 63 12 * 4096) = false ∧
      u.pasidHeld (pf c.bytes 0 11 0) = false) ∧
  (∃ (s u : State) (r : CmdRef) (c : Cmd), CtlBegins s r 2 c u) ∧
  (∃ (s u : State) (r : CmdRef) (c : Cmd), CtlBegins s r 3 c u) ∧
  (∃ (s u : State) (r : CmdRef) (c : Cmd), CtlBegins s r 4 c u) ∧
  (∃ (s u : State) (r : CmdRef) (c : Cmd), CtlBegins s r 5 c u ∧
      u.serves (if pf c.bytes 0 13 12 = 1 then .a else .b) = true) ∧
  (∃ (i : Instr) (s u : State) (r : CmdRef) (c : Cmd) (sub : Nat), startRow i = some (r, Op.contextCtl, some sub) ∧
      Checked s r Op.contextCtl sub c u ∧
      namesPriv sub (pf c.bytes 0 11 0) (pf c.bytes 0 25 12) = false ∧
      sub ≠ 0x32 ∧
      ctxCode sub (u.ctx (pf c.bytes 0 11 0)).eff ≠ E.ok) :=
   ⟨⟨holding pooled (cmdOf Op.contextCtl 1 [2 + 2 ^ 26, 0, 0x100000]), _, first, cmdOf Op.contextCtl 1 [2 + 2 ^ 26, 0, 0x100000], .a, ctlBegins_of (checked_of (begins_of (by decide +kernel)) (by decide +kernel)) (by decide +kernel), by decide +kernel⟩,
    ⟨holding (withCtx .opened) (cmdOf Op.contextCtl 2 [2]), _, first, cmdOf Op.contextCtl 2 [2], ctlBegins_of (checked_of (begins_of (by decide +kernel)) (by decide +kernel)) (by decide +kernel)⟩,
    ⟨holding (withCtx .running) (cmdOf Op.contextCtl 3 [2]), _, first, cmdOf Op.contextCtl 3 [2], ctlBegins_of (checked_of (begins_of (by decide +kernel)) (by decide +kernel)) (by decide +kernel)⟩,
    ⟨holding (withCtx .parked) (cmdOf Op.contextCtl 4 [2]), _, first, cmdOf Op.contextCtl 4 [2], ctlBegins_of (checked_of (begins_of (by decide +kernel)) (by decide +kernel)) (by decide +kernel)⟩,
    ⟨holding (withCtx .running) (cmdOf Op.contextCtl 5 [2 + 2 ^ 12]), _, first, cmdOf Op.contextCtl 5 [2 + 2 ^ 12], ctlBegins_of (checked_of (begins_of (by decide +kernel)) (by decide +kernel)) (by decide +kernel), by decide +kernel⟩,
    ⟨.start first, holding base (cmdOf Op.contextCtl 2 [2]), _, first, cmdOf Op.contextCtl 2 [2], 2, rfl, checked_of (begins_of (by decide +kernel)) (by decide +kernel), by decide +kernel⟩⟩

theorem witness_ContextsAreTornDown :
  (∃ (s u : State) (r : CmdRef) (c : Cmd), CtlBegins s r 7 c u) ∧
  (∃ (s u v : State) (r : CmdRef) (c : Cmd), CtlBegins s r 6 c u ∧
      v = u.unlockFor (pf c.bytes 0 11 0) c.stamp) ∧
  (∃ (s : State) (n : Nat), (s.ctx n).state = .draining ∧
      (s.ctx n).drainLeft = some 0 ∧
      s.canStamp = true) ∧
  (∃ (s : State) (n : Nat), (s.ctx n).state = .draining ∧
      (s.ctx n).drainLeft = some 0 ∧
      s.canStamp = false) ∧
  (∃ (s : State) (n : Nat), 2 ≤ n ∧
      (s.ctx n).state ≠ .free ∧
      (s.ctx n).state ≠ .dead ∧
      (s.ctx n).teardown = none) ∧
  (∃ (s : State) (n : Nat), 2 ≤ n ∧
      (s.ctx n).state ≠ .free ∧
      (s.ctx n).state ≠ .dead ∧
      (s.ctx n).teardown ≠ none) :=
   ⟨⟨holding (withCtx .running) (cmdOf Op.contextCtl 7 [2]), _, first, cmdOf Op.contextCtl 7 [2], ctlBegins_of (checked_of (begins_of (by decide +kernel)) (by decide +kernel)) (by decide +kernel)⟩,
    ⟨holding (withCtx .running) (cmdOf Op.contextCtl 6 [2]), _, _, first, cmdOf Op.contextCtl 6 [2], ctlBegins_of (checked_of (begins_of (by decide +kernel)) (by decide +kernel)) (by decide +kernel), rfl⟩,
    ⟨{ base with ctxs := base.ctxs ++ [(2, { Ctx.none with state := .draining, drainLeft := some 0 })] }, 2, by decide +kernel⟩,
    ⟨{ base with time := { base.time with seq := 65535 },  ctxs := base.ctxs ++ [(2, { Ctx.none with state := .draining, drainLeft := some 0 })] }, 2, by decide +kernel⟩,
    ⟨withCtx .running, 2, by decide +kernel⟩,
    ⟨{ base with ctxs := base.ctxs ++ [(2, { Ctx.none with state := .draining, teardown := some (1, 0) })] }, 2, by decide +kernel⟩⟩

theorem witness_QueuesFollowTheirStates :
  (∃ (s u : State) (r : CmdRef) (c : Cmd), CtlBegins s r 0x10 c u ∧
      (u.queue (pf c.bytes 0 25 12)).live = false ∧
      u.localQueue (pf c.bytes 0 11 0) (pf c.bytes 0 31 26) = none ∧
      (pf c.bytes 0 47 37 < vecCount (u.ctx (pf c.bytes 0 11 0)).func) ∧
      (((u.queuesOf (pf c.bytes 0 11 0)).filter fun n => (u.queue n).live && !(u.queue n).destroy).length < 64) ∧
      u.queueHeld (pf c.bytes 0 25 12) = false) ∧
  (∃ (s u : State) (r : CmdRef) (c : Cmd), CtlBegins s r 0x10 c u ∧
      (u.queue (pf c.bytes 0 25 12)).destroy = true ∧
      (u.queue (pf c.bytes 0 25 12)).live = true ∧
      (∀ n, u.localQueue (pf c.bytes 0 11 0) (pf c.bytes 0 31 26) = some n →
        (u.queue n).destroy = true) ∧
      (pf c.bytes 0 47 37 < vecCount (u.ctx (pf c.bytes 0 11 0)).func) ∧
      (((u.queuesOf (pf c.bytes 0 11 0)).filter fun n => (u.queue n).live && !(u.queue n).destroy).length < 64)) ∧
  (∃ (i : Instr) (s u : State) (r : CmdRef) (c : Cmd) (q : Queue) (sub : Nat), 0x11 ≤ sub ∧
      sub ≤ 0x14 ∧
      startRow i = some (r, Op.contextCtl, some sub) ∧
      CtlBegins s r sub c u ∧
      q = u.queue (pf c.bytes 0 25 12) ∧
      q.live = true ∧
      q.ctx = pf c.bytes 0 11 0 ∧
      q.destroy = false) :=
   ⟨⟨holding (withCtx .running) (cmdOf Op.contextCtl 16 [2 + 2 * 2 ^ 12]), _, first, cmdOf Op.contextCtl 16 [2 + 2 * 2 ^ 12], ctlBegins_of (checked_of (begins_of (by decide +kernel)) (by decide +kernel)) (by decide +kernel), by decide +kernel⟩,
    ⟨holding givenUp (cmdOf Op.contextCtl 16 [2 + 2 * 2 ^ 12]), _, first, cmdOf Op.contextCtl 16 [2 + 2 * 2 ^ 12], ctlBegins_of (checked_of (begins_of (by decide +kernel)) (by decide +kernel)) (by decide +kernel), by decide +kernel, by decide +kernel, (fun n h => by obtain rfl : n = 2 := Option.some.inj (h.symm.trans (by decide +kernel)); decide +kernel), by decide +kernel⟩,
    ⟨.qPark first, holding ordinary (cmdOf Op.contextCtl 17 [2 + 2 * 2 ^ 12]), _, first, cmdOf Op.contextCtl 17 [2 + 2 * 2 ^ 12], _, 0x11, by decide +kernel, by decide +kernel, rfl, ctlBegins_of (checked_of (begins_of (by decide +kernel)) (by decide +kernel)) (by decide +kernel), rfl, by decide +kernel⟩⟩

theorem witness_ObjectsAreMadeAndFreed :
  (∃ (s u v : State) (r : CmdRef) (c : Cmd) (start i : Nat), CtlBegins s r 0x20 c u ∧
      (pf c.bytes 24 15 0 % 2 = 1 → pf c.bytes 0 11 0 < 2) ∧
      pf c.bytes 8 63 16 * 65536 + 65536 * pf c.bytes 16 24 0 ≤ tableBase ∧
      u.objOverlap (pf c.bytes 0 11 0) (pf c.bytes 8 63 16 * 65536) (65536 * pf c.bytes 16 24 0) = false ∧
      windowAttrBad u (pf c.bytes 0 11 0) (pf c.bytes 8 63 16 * 65536) (pf c.bytes 16 24 0) (pf c.bytes 24 15 0) = false ∧
      (∀ y ∈ u.objs, y.2.state ≠ .free → y.2.mark ≠ some (c.mark r.queue)) ∧
      u.free 4194304 = (start, v) ∧
      (nextFree (fun i => decide ((v.obj i).state ≠ .free) || (v.obj i).scrub) 4194304 (v.objs.length + 1) start = some i)) ∧
  (∃ (s u : State) (r : CmdRef) (c : Cmd) (o : Obj), CtlBegins s r 0x21 c u ∧
      o = u.obj (pf c.bytes 0 33 12) ∧
      o.state = .live ∧
      o.owner = pf c.bytes 0 11 0 ∧
      (o.attr % 2 = 1 → u.poolBound o.base = false)) ∧
  (∃ (s u : State) (r : CmdRef) (c : Cmd), CtlBegins s r 0x21 c u ∧
      (u.obj (pf c.bytes 0 33 12)).state = .retiring ∧
      (u.obj (pf c.bytes 0 33 12)).owner = pf c.bytes 0 11 0) ∧
  (∃ (s : State) (i : Nat), (s.obj i).state = .retiring ∧
      (s.obj i).unmapped = false ∧
      s.refs i = 0) ∧
  (∃ (s : State) (i : Nat), (s.obj i).state = .retiring ∧
      (s.obj i).unmapped = false ∧
      s.refs i = 0 ∧
      (s.obj i).owner < 2) ∧
  (∃ (s : State) (i : Nat), s.refs i ≠ 0) :=
   ⟨by refine ⟨holding { base with objs := [] } (cmdOf Op.contextCtl 32 [0, 0, 1, 0]), _, _, first, cmdOf Op.contextCtl 32 [0, 0, 1, 0], _, _, ctlBegins_of (checked_of (begins_of (by decide +kernel)) (by decide +kernel)) (by decide +kernel), ?_, ?_, ?_, ?_, ?_, rfl, rfl⟩ <;> decide +kernel,
    ⟨holding base (cmdOf Op.contextCtl 33 [0]), _, first, cmdOf Op.contextCtl 33 [0], _, ctlBegins_of (checked_of (begins_of (by decide +kernel)) (by decide +kernel)) (by decide +kernel), rfl, by decide +kernel⟩,
    ⟨holding { base with objs := [(0, { Obj.none with state := .retiring, size64k := 16 })] } (cmdOf Op.contextCtl 33 [0]), _, first, cmdOf Op.contextCtl 33 [0], ctlBegins_of (checked_of (begins_of (by decide +kernel)) (by decide +kernel)) (by decide +kernel), by decide +kernel⟩,
    ⟨{ base with objs := [(0, { Obj.none with state := .retiring, size64k := 16 })] }, 0, by decide +kernel⟩,
    ⟨{ base with objs := [(0, { Obj.none with state := .retiring, size64k := 16 })] }, 0, by decide +kernel⟩,
    ⟨{ base with plan := { base.plan with slots := [(0, { startPlan 2 1 1 with obj := some 0 })] } }, 0, by decide +kernel⟩⟩

theorem witness_FencesAreMadeResetAndFreed :
  (∃ (s u v : State) (r : CmdRef) (c : Cmd) (start i : Nat), CtlBegins s r 0x30 c u ∧
      (pf c.bytes 0 47 32 = 0 ∨ (pf c.bytes 0 47 32 = (u.ctx (pf c.bytes 0 11 0)).share ∧
        (u.tdiFrozen (u.ctx (pf c.bytes 0 11 0)).func = false ∨
          ∀ y ∈ u.ctxs, y.2.eff ≠ .free → y.2.share = pf c.bytes 0 47 32 → y.2.func = (u.ctx (pf c.bytes 0 11 0)).func))) ∧
      (∀ y ∈ u.fences, y.2.live = true → y.2.mark ≠ some (c.mark r.queue)) ∧
      u.free 1048576 = (start, v) ∧
      (nextFree (fun i => (v.fence i).live) 1048576 (v.fences.length + 1) start = some i)) ∧
  (∃ (s u : State) (r : CmdRef) (c : Cmd) (f : Fence), CtlBegins s r 0x31 c u ∧
      u.fenceOf (ph c.bytes 8) = some f ∧
      f.owner = pf c.bytes 0 11 0) ∧
  (∃ (s u : State) (r : CmdRef) (c : Cmd) (f : Fence), CtlBegins s r 0x32 c u ∧
      u.fenceOf (ph c.bytes 8) = some f ∧
      f.owner = pf c.bytes 0 11 0) :=
   ⟨⟨holding base (cmdOf Op.contextCtl 48 [0]), _, _, first, cmdOf Op.contextCtl 48 [0], _, _, ctlBegins_of (checked_of (begins_of (by decide +kernel)) (by decide +kernel)) (by decide +kernel), by decide +kernel, by decide +kernel, rfl, rfl⟩,
    ⟨holding fenced (cmdOf Op.contextCtl 49 [0]), _, first, cmdOf Op.contextCtl 49 [0], { Fence.none with live := true }, ctlBegins_of (checked_of (begins_of (by decide +kernel)) (by decide +kernel)) (by decide +kernel), by decide +kernel⟩,
    ⟨holding fenced (cmdOf Op.contextCtl 50 [0]), _, first, cmdOf Op.contextCtl 50 [0], { Fence.none with live := true }, ctlBegins_of (checked_of (begins_of (by decide +kernel)) (by decide +kernel)) (by decide +kernel), by decide +kernel⟩⟩

theorem witness_PlansAreStagedAndCommitted :
  (∃ (s u : State) (r : CmdRef) (c : Cmd) (o : Obj) (a : Nat), PlanBegins s r 1 c u ∧
      (u.slot (pf c.bytes 0 1 0)).state = .empty ∧
      o = u.obj (pf c.bytes 8 21 0) ∧
      o.attr % 2 = 0 ∧
      a = o.base + pw c.bytes 16 ∧
      u.imageCode a (65536 * o.size64k - pw c.bytes 16) = E.ok) ∧
  (∃ (s u : State) (r : CmdRef) (c : Cmd), PlanBegins s r 1 c u ∧
      (u.slot (pf c.bytes 0 1 0)).state ≠ .empty) ∧
  (∃ (s u : State) (r : CmdRef) (c : Cmd), PlanBegins s r 1 c u ∧
      (u.slot (pf c.bytes 0 1 0)).state = .empty ∧
      (u.obj (pf c.bytes 8 21 0)).attr % 2 = 1) ∧
  (∃ (s u : State) (r : CmdRef) (c : Cmd) (p : PlanSlot), PlanBegins s r 4 c u ∧
      p = u.slot (pf c.bytes 0 1 0)) ∧
  (∃ (s u : State) (r : CmdRef) (c : Cmd) (p : PlanSlot) (t : Nat), PlanBegins s r 2 c u ∧
      p = u.slot (pf c.bytes 0 1 0) ∧
      u.time.agreed = true ∧
      (p.state = .loading ∨ p.state = .staged) ∧
      pf c.bytes 0 3 2 = 1 ∧
      t = pf c.bytes 8 47 0 ∧
      c.admTick + 3 ≤ t ∧
      t ≤ c.admTick + 2 ^ 20 ∧
      p.period = u.time.period ∧
      u.plan.pend = none) ∧
  (∃ (s u : State) (r : CmdRef) (c : Cmd), PlanBegins s r 2 c u ∧
      u.time.agreed = true ∧
      (u.slot (pf c.bytes 0 1 0)).state ≠ .loading ∧
      (u.slot (pf c.bytes 0 1 0)).state ≠ .staged) ∧
  (∃ (s u : State) (r : CmdRef) (c : Cmd) (m : Commit), PlanBegins s r 3 c u ∧
      u.plan.pend = some m ∧
      m.slot = pf c.bytes 0 1 0 ∧
      (u.slot m.slot).state = .pending) :=
   ⟨⟨holding imaged (cmdOf Op.planCtl 1 [1, 0, 0]), _, first, cmdOf Op.planCtl 1 [1, 0, 0], _, _, checked_of (begins_of (by decide +kernel)) (by decide +kernel), by decide +kernel, rfl, by decide +kernel, rfl, by decide +kernel⟩,
    ⟨holding base (cmdOf Op.planCtl 1 [0]), _, first, cmdOf Op.planCtl 1 [0], checked_of (begins_of (by decide +kernel)) (by decide +kernel), by decide +kernel⟩,
    ⟨holding pooled (cmdOf Op.planCtl 1 [1, 1, 0]), _, first, cmdOf Op.planCtl 1 [1, 1, 0], checked_of (begins_of (by decide +kernel)) (by decide +kernel), by decide +kernel⟩,
    ⟨holding (withSlot .staged) (cmdOf Op.planCtl 4 [1]), _, first, cmdOf Op.planCtl 4 [1], _, checked_of (begins_of (by decide +kernel)) (by decide +kernel), rfl⟩,
    ⟨holding (withSlot .staged) (cmdOf Op.planCtl 2 [1 + 4, 102]), _, first, cmdOf Op.planCtl 2 [1 + 4, 102], _, _, checked_of (begins_of (by decide +kernel)) (by decide +kernel), rfl, by decide +kernel, by decide +kernel, by decide +kernel, rfl, by decide +kernel⟩,
    ⟨holding base (cmdOf Op.planCtl 2 [1]), _, first, cmdOf Op.planCtl 2 [1], checked_of (begins_of (by decide +kernel)) (by decide +kernel), by decide +kernel⟩,
    ⟨holding (pending 200 false none) (cmdOf Op.planCtl 3 [1]), _, first, cmdOf Op.planCtl 3 [1], pend 200 false none, checked_of (begins_of (by decide +kernel)) (by decide +kernel), by decide +kernel⟩⟩

theorem witness_PlanEventsDecideSwitches :
  (∃ (s : State) (i : Fin 4) (u : PlanUnit) (p : PlanSlot), p = (s.slot i.val).ackBy u ∧
      (s.slot i.val).stage.isSome = true ∧
      (s.slot i.val).failed = false ∧
      s.unitServes u = true) ∧
  (∃ (s : State) (i : Fin 4) (p : PlanSlot), p = s.slot i.val ∧
      p.stage.isSome = true ∧
      p.failed = false ∧
      p.loadedAt + 64 ≤ s.time.bnd) ∧
  (∃ (s : State) (m k : Commit), s.plan.pend = some m ∧
      m.check = none ∧
      s.time.tick = s.checkTick m ∧
      k = { m with check := some (s.allAcked (s.slot m.slot) && !(s.slot m.slot).failed), decision := if m.fabric then m.decision else some (s.allAcked (s.slot m.slot) && !(s.slot m.slot).failed) } ∧
      (m.fabric = false ∨ m.sent = true ∨ s.rankIn m.group = 0 ∨ s.groupResult k = none)) ∧
  (∃ (s : State) (m k : Commit) (ok : _), s.plan.pend = some m ∧
      m.check = none ∧
      s.time.tick = s.checkTick m ∧
      k = { m with check := some (s.allAcked (s.slot m.slot) && !(s.slot m.slot).failed), decision := if m.fabric then m.decision else some (s.allAcked (s.slot m.slot) && !(s.slot m.slot).failed) } ∧
      m.fabric = true ∧
      m.sent = false ∧
      s.rankIn m.group ≠ 0 ∧
      s.groupResult k = some ok) ∧
  (∃ (s : State) (m : Commit) (dev : Nat), s.plan.pend = some m ∧
      m.fabric = true ∧
      dev ∈ s.treeBelow m.group ∧
      (∀ r ∈ m.results, r.1 ≠ dev)) ∧
  (∃ (s : State) (m : Commit), s.plan.pend = some m ∧
      m.fabric = true ∧
      m.check.isSome = true ∧
      m.decision = none ∧
      s.rankIn m.group ≠ 0 ∧
      s.time.tick + 2 ≤ m.tick ∧
      m.tick ≤ s.time.tick + 1 + s.commitDepth true m.group) ∧
  (∃ (s : State) (m : Commit), s.plan.pend = some m ∧
      m.fabric = true ∧
      m.decision = none ∧
      s.rankIn m.group = 0 ∧
      m.tick ≤ s.time.tick + 1 + s.commitDepth true m.group) ∧
  (∃ (s : State) (m : Commit), s.plan.pend = some m ∧
      m.fabric = true ∧
      m.decision = none ∧
      s.rankIn m.group ≠ 0 ∧
      s.time.tick + 2 = m.tick) :=
   ⟨⟨{ withSlot .loading with plan := { (withSlot .loading).plan with slots := base.plan.slots ++ [(1, { PlanSlot.none with state := .loading, stage := some first, loadedAt := 100 })] } }, 1, .link 3, _, rfl, by decide +kernel⟩,
    ⟨{ withSlot .loading with plan := { (withSlot .loading).plan with slots := base.plan.slots ++ [(1, { PlanSlot.none with state := .loading, stage := some first, loadedAt := 36 })] } }, 1, _, rfl, by decide +kernel⟩,
    ⟨pending 102 false none, pend 102 false none, _, by decide +kernel, by decide +kernel, by decide +kernel, rfl, by decide +kernel⟩,
    ⟨inGroup [5, 0] (pending 104 true none), pend 104 true none, _, _, by decide +kernel, by decide +kernel, by decide +kernel, rfl, by decide +kernel, by decide +kernel, by decide +kernel, rfl⟩,
    ⟨inGroup [0, 5] (pending 104 true none), pend 104 true none, 5, by decide +kernel⟩,
    ⟨inGroup [5, 0] (pending 102 true (some true)), pend 102 true (some true), by decide +kernel⟩,
    ⟨inGroup [0, 5] (pending 102 true (some true)), pend 102 true (some true), by decide +kernel⟩,
    ⟨inGroup [5, 0] (pending 102 true none), pend 102 true none, by decide +kernel⟩⟩

theorem witness_BoundariesAdvanceTheTick :
  (∃ (s : State), (s.clk.phase = 4 ∨ s.clk.phase = 5) ∧
      s.clk.dead = false) ∧
  (∃ (s : State), ((s.clk.phase ≠ 4 ∧ s.clk.phase ≠ 5) ∨ s.clk.dead = true)) ∧
  (∃ t : Time, t.agreed = true ∧
      t.jumpTo = none ∧
      t.tick + 1 < 2 ^ 48) ∧
  (∃ (t : Time) (n : Nat), t.agreed = true ∧
      t.jumpTo = some n ∧
      t.tick + 1 < n ∧
      n < 2 ^ 48) ∧
  (∃ t : Time, t.agreed = false ∧
      t.jumpTo = none) ∧
  (∃ s : State, s.lead.isSome = true ∧
      s.time.seq < 65535) :=
   ⟨⟨base, by decide +kernel⟩,
    ⟨atPhase 3, by decide +kernel⟩,
    ⟨{ base.time with tick := 2 ^ 48 - 2 }, by decide +kernel⟩,
    ⟨{ base.time with jumpTo := some 102 }, 102, by decide +kernel⟩,
    ⟨{ base.time with agreed := false }, by decide +kernel⟩,
    ⟨base, by decide +kernel⟩⟩


theorem find_full {α : Type} (v : α) : ∀ (k n i : Nat), k ≤ i → i < k + n → Tbl.find ((List.range' k n).map fun j => (j, v)) i = some v
  | _, 0, _, h, h' => by omega
  | k, n + 1, i, h, h' => by
    simp only [List.range'_succ, List.map_cons, Tbl.find]
    split
    · rfl
    · rw [if_neg (by omega)]
      exact find_full v (k + 1) n i (by omega) (by omega)

/-- Every fence, or every object, is in use. -/
def full (f : Fence) (o : Obj) : State :=
  { base with fences := (List.range' 0 (2 ^ 20)).map fun i => (i, f), objs := (List.range' 0 (2 ^ 22)).map fun i => (i, o) }

theorem full_lists (f : Fence) (o : Obj) (b : List Byte) :
    (((holding (full f o) (newCmd b)).startedAt first (newCmd b)).countSignal first.queue (newCmd b)).fences = ((List.range' 0 (2 ^ 20)).map fun i => (i, f)) ∧
    (((holding (full f o) (newCmd b)).startedAt first (newCmd b)).countSignal first.queue (newCmd b)).objs = ((List.range' 0 (2 ^ 22)).map fun i => (i, o)) := by
  unfold State.countSignal
  rw [if_neg (by simp [newCmd])]
  unfold State.startedAt State.markStart State.modCmd State.modQueue State.setQueue State.modPlan
  constructor <;> rfl

theorem witness_FullTablesAnswerBadLength :
  (∃ (s u : State) (r : CmdRef) (c : Cmd), CtlBegins s r 0x30 c u ∧
      (pf c.bytes 0 47 32 = 0 ∨ (pf c.bytes 0 47 32 = (u.ctx (pf c.bytes 0 11 0)).share ∧
        (u.tdiFrozen (u.ctx (pf c.bytes 0 11 0)).func = false ∨
          ∀ y ∈ u.ctxs, y.2.eff ≠ .free → y.2.share = pf c.bytes 0 47 32 → y.2.func = (u.ctx (pf c.bytes 0 11 0)).func))) ∧
      (∀ y ∈ u.fences, y.2.live = true → y.2.mark ≠ some (c.mark r.queue)) ∧
      (∀ i < 2 ^ 20, (u.fence i).live = true)) ∧
  (∃ (s u : State) (r : CmdRef) (c : Cmd), CtlBegins s r 0x20 c u ∧
      (pf c.bytes 24 15 0 % 2 = 1 → pf c.bytes 0 11 0 < 2) ∧
      pf c.bytes 8 63 16 * 65536 + 65536 * pf c.bytes 16 24 0 ≤ tableBase ∧
      u.objOverlap (pf c.bytes 0 11 0) (pf c.bytes 8 63 16 * 65536) (65536 * pf c.bytes 16 24 0) = false ∧
      windowAttrBad u (pf c.bytes 0 11 0) (pf c.bytes 8 63 16 * 65536) (pf c.bytes 16 24 0) (pf c.bytes 24 15 0) = false ∧
      (∀ y ∈ u.objs, y.2.state ≠ .free → y.2.mark ≠ some (c.mark r.queue)) ∧
      (∀ i < 2 ^ 22, (u.obj i).state ≠ .free)) := by
  refine ⟨⟨holding (full { Fence.none with live := true } Obj.none) (cmdOf Op.contextCtl 0x30 [0]), _, first, cmdOf Op.contextCtl 0x30 [0],
      ctlBegins_of (checked_of (begins_of (by decide +kernel)) (by decide +kernel)) (by decide +kernel), .inl (by decide +kernel), ?_, ?_⟩,
    ⟨holding (full Fence.none { Obj.none with state := .live }) (cmdOf Op.contextCtl 0x20 [0, 0, 1, 0]), _, first, cmdOf Op.contextCtl 0x20 [0, 0, 1, 0],
      ctlBegins_of (checked_of (begins_of (by decide +kernel)) (by decide +kernel)) (by decide +kernel), by decide +kernel, by decide +kernel, ?_, by decide +kernel, ?_, ?_⟩⟩
  · intro y hy _
    rw [show cmdOf _ _ _ = newCmd _ from rfl, (full_lists _ _ _).1] at hy
    obtain ⟨i, -, rfl⟩ := List.mem_map.mp hy
    exact nofun
  · intro i hi
    have h := find_full { Fence.none with live := true } 0 (2 ^ 20) i (by omega) (by omega)
    exact congrArg (fun o => (Option.getD o Fence.none).live) h
  · refine List.any_eq_false.mpr fun y hy => ?_
    rw [show cmdOf _ _ _ = newCmd _ from rfl, (full_lists _ _ _).2] at hy
    obtain ⟨i, -, rfl⟩ := List.mem_map.mp hy
    dsimp only
    decide +kernel
  · intro y hy _
    rw [show cmdOf _ _ _ = newCmd _ from rfl, (full_lists _ _ _).2] at hy
    obtain ⟨i, -, rfl⟩ := List.mem_map.mp hy
    exact nofun
  · intro i hi
    have h := find_full ({ Obj.none with state := .live } : Obj) 0 (2 ^ 22) i (by omega) (by omega)
    have h' := congrArg (fun o => (Option.getD o Obj.none).state) h
    exact fun e => nomatch h'.symm.trans e


/-- A member that has begun a barrier. -/
def inBarrier : State :=
  let s := holding base { cmdOf Op.collective 6 [] with begun := true, started := true }
  s.collBegin first (cmdOf Op.collective 6 []).bytes

/-- Context 2 belongs to the first VF. -/
def vfCtx : State := { base with ctxs := base.ctxs ++ [(2, { Ctx.none with state := .running, func := 1 })] }

/-- Object 1 is a coherent window. -/
def windowed : State :=
  { base with objs := base.objs ++ [(1, { Obj.none with state := .live, base := 0x100000, size64k := 1, attr := 2 ^ 15 + 2 ^ 12 })] }

/-- Object 0 is of 4 MiB. -/
def big : State := { base with objs := [(0, { Obj.none with state := .live, size64k := 64 })] }

theorem witness_WindowsFollowTheSetInForce :
  (∃ (s v : State) (n : Fin 40) (i : Nat) (e : Word), s.entries[i]? = some e ∧
      enKind e = 0 ∧
      enRes e = n.val ∧
      enApplies e s.cyclePos = true ∧
      (n.val, i) ∉ s.plan.windows ∧
      s.acts (engineTwin n.val) = true ∧
      (∀ x ∈ s.windowsAhead n.val i, (n.val, x.2) ∈ s.plan.windows) ∧
      (v = ((s.waitEnds n.val).modPlan fun p => { p with windows := p.windows ++ [(n.val, i)] })) ∧
      0 < v.units e - v.tookUnits i e ∧
      v.nextWork n.val (enQueue e) = none) ∧
  (∃ (s : State) (n : Fin 40) (i : Nat) (e : Word), s.entries[i]? = some e ∧
      (enKind e ≠ 0 ∨ enRes e ≠ n.val ∨ enApplies e s.cyclePos = false ∨ (n.val, i) ∈ s.plan.windows ∨ s.acts (engineTwin n.val) = false ∨
        ∃ x ∈ s.windowsAhead n.val i, (n.val, x.2) ∉ s.plan.windows)) :=
   ⟨by refine ⟨holding base { cmdOf Op.copy 0 [2 ^ 56, 2 ^ 56 + 8192, 4096, 0] with begun := true, started := true }, _, 0, 1, _, rfl, ?_, ?_, ?_, ?_, ?_, ?_, rfl, ?_⟩ <;> decide +kernel,
    ⟨base, 0, 0, _, rfl, by decide +kernel⟩⟩

theorem witness_WindowMovesACopysBytes :
  ∃ (s v : State) (n : Fin 40) (i : Nat) (e : Word) (c : Cmd) (a d len : Nat) (x : _), s.entries[i]? = some e ∧
      enKind e = 0 ∧
      enRes e = n.val ∧
      enApplies e s.cyclePos = true ∧
      (n.val, i) ∉ s.plan.windows ∧
      s.acts (engineTwin n.val) = true ∧
      (∀ x ∈ s.windowsAhead n.val i, (n.val, x.2) ∈ s.plan.windows) ∧
      (v = ((s.waitEnds n.val).modPlan fun p => { p with windows := p.windows ++ [(n.val, i)] })) ∧
      v.mayStart (v.windowFrom n.val i) = true ∧
      v.nextWork n.val (enQueue e) = some (c, 0) ∧
      (v.queue (enQueue e)).cmds = [c] ∧
      hOpcode c.bytes = Op.copy ∧
      pathOf c.bytes = 0 ∧
      c.point = 0 ∧
      c.above = [] ∧
      c.poisoned = false ∧
      c.blurred = false ∧
      c.forced = false ∧
      c.ends = none ∧
      c.result = none ∧
      len = pf c.bytes 16 39 0 ∧
      0 < len ∧
      len ≤ 4096 ∧
      (∀ x, x = v ∨ x = v.engineView n.val (enQueue e) →
        x.pieces (v.queue (enQueue e)).ctx .read (pf c.bytes 0 56 0) len = [(pf c.bytes 0 56 0, len, .loc a)] ∧
        x.pieces (v.queue (enQueue e)).ctx .write (pf c.bytes 8 56 0) len = [(pf c.bytes 8 56 0, len, .loc d)]) ∧
      unitCost c.bytes (plainWork c.bytes 0 len) [⟨0, pf c.bytes 0 56 0, len, .loc a⟩] [⟨0, pf c.bytes 8 56 0, len, .loc d⟩] =
        32 * (v.units e - v.tookUnits i e) ∧
      0 < v.units e - v.tookUnits i e ∧
      (Ctrl.ofNat (pw c.bytes (ctrlOff Op.copy))).inv = false ∧
      v.inTheWay [(a, len)] [(d, len)] = [] ∧
      (a + len ≤ d ∨ d + len ≤ a) ∧
      s.mem.anyPoison a len = false ∧
      s.mem.wf = true ∧
      (v.engine n.val).spoil ≠ some ((v.queue (enQueue e)).ctx, v.time.bnd) ∧
      (∀ y ∈ s.queues, ∀ k ∈ y.2.cmds, k.begun = true → isEngine (hOpcode k.bytes) = true → y.1 = enQueue e ∧ k.slot = c.slot) ∧
      (x < d ∨ d + len ≤ x) :=
   by refine ⟨holding base { cmdOf Op.copy 0 [2 ^ 56, 2 ^ 56 + 8192, 4096, 0] with begun := true, started := true }, _, 8, 6, _, { cmdOf Op.copy 0 [2 ^ 56, 2 ^ 56 + 8192, 4096, 0] with begun := true, started := true }, 0, 8192, _, 8191, rfl, ?_, ?_, ?_, ?_, ?_, ?_, rfl, ?_, ?_, ?_, ?_, ?_, ?_, ?_, ?_, ?_, ?_, ?_, ?_, rfl, ?_, ?_, by
      rintro x (rfl | rfl) <;> decide +kernel, ?_⟩ <;> decide +kernel

theorem witness_CollectivesBeginStepAndEnd :
  (∃ (i : Instr) (s u : State) (r : CmdRef) (c : Cmd) (sub : Nat), startRow i = some (r, Op.collective, some sub) ∧
      Begins s r Op.collective (some sub) c u ∧
      s.collOf r = none) ∧
  (∃ (i : Instr) (s : State) (r : CmdRef) (sub : Nat), startRow i = some (r, Op.collective, some sub) ∧
      (s.collOf r).isSome = true) ∧
  (∃ (s : State) (b : List Byte), (s.collPar b).q = 0 ∧
      s.fab.early = [] ∧
      s.fab.earlyCtl = []) ∧
  (∃ (s : State) (r : CmdRef) (c : Coll) (d : Cmd), s.collOf r = some c ∧
      (s.queue r.queue).cmdAt r.slot = some d ∧
      hSubop d.bytes = 6 ∧
      (s.collPar d.bytes).q = 0 ∧
      c.last ≠ some s.time.bnd ∧
      d.stall = none ∧
      d.result = none ∧
      d.poisoned = false ∧
      s.clk.cutS = false ∧
      s.acts (s.ctx (s.queue r.queue).ctx).home = true ∧
      s.slices r.queue = true ∧
      c.startAt + (s.collPar d.bytes).depth ≤ s.time.bnd ∧
      (∀ q ∈ (s.collPar d.bytes).children, (s.collPar d.bytes).rankOf q ∈ c.arrivals) ∧
      c.released = false ∧
      c.sat = 0 ∧
      c.nan = 0) ∧
  (∃ (s : State) (r : CmdRef) (c : Coll) (d : Cmd), s.collOf r = some c ∧
      (s.queue r.queue).cmdAt r.slot = some d ∧
      c.waitFrom + s.collTicks ≤ s.time.bnd) :=
   ⟨⟨.collectiveBarrier first, holding base (cmdOf Op.collective 6 []), _, first, cmdOf Op.collective 6 [], 6, rfl, begins_of (by decide +kernel), by decide +kernel⟩,
    ⟨.collectiveBarrier first, inBarrier, first, 6, rfl, by decide +kernel⟩,
    ⟨base, [], by decide +kernel⟩,
    ⟨inBarrier, first, _, { cmdOf Op.collective 6 [] with begun := true, started := true }, rfl, by decide +kernel⟩,
    ⟨{ inBarrier with time := { inBarrier.time with bnd := 2 ^ 25 } }, first, _, { cmdOf Op.collective 6 [] with begun := true, started := true }, rfl, by decide +kernel⟩⟩

theorem witness_RegisterWritesAreTakenOrRejectedWhole :
  (∃ (i : Instr) (s : State) (p : Path) (r : Reg) (v : Word), (writeRow i = some (p, r, v) ∨ i = .registerWrite p r.offset v false) ∧
      Reaches s p ∧
      (regAt (Path.func p) r.offset = some r)) ∧
  (∃ (s : State) (p : Path), s.atOnce p = true ∧
      s.deaf p = false) ∧
  (∃ (s : State) (p : Path), s.atOnce p = true ∧
      s.deaf p = true) ∧
  (∃ (s : State) (p : Side) (f : Fin 128) (n : Option (Fin 8)), s.atOnce (.bar p f n) = false) ∧
  (∃ (s : State) (p : Path) (o : Nat), Reaches s p ∧
      o % 8 ≠ 0) ∧
  (∃ (p : Path) (q : Side) (f : Nat), Path.fn p = some (q, f)) :=
   ⟨⟨.fltAck pf0 1, base, pf0, .fltAck, 1, .inl rfl, by unfold Reaches; decide +kernel, by decide +kernel⟩,
    ⟨base, pf0, by decide +kernel⟩,
    ⟨base.modFunc .a 0 fun x => { x with flr := true }, pf0, by decide +kernel⟩,
    ⟨base.modPort .a fun x => { x with behind := [.unsupported .a] }, .a, 0, none, by decide +kernel⟩,
    ⟨base, pf0, 4, by unfold Reaches; decide +kernel, by decide +kernel⟩,
    ⟨pf0, .a, 0, by decide +kernel⟩⟩

theorem witness_HolesReadZeroAndTakeNoWrite :
  (∃ (p : Path) (q : Side) (f o : Nat), Path.fn p = some (q, f) ∧
      placeAt f o = .nothing) ∧
  (∃ (s : State) (p : Path) (q : Side) (f o : Nat), Path.fn p = some (q, f) ∧
      placeAt f o = .nothing ∧
      Reaches s p ∧
      o % 8 = 0) :=
   ⟨⟨pf0, .a, 0, 0x8000, by decide +kernel⟩,
    ⟨base, pf0, .a, 0, 0x8000, by decide +kernel, by decide +kernel, by unfold Reaches; decide +kernel, by decide +kernel⟩⟩

theorem witness_StampLastShowsTheLastStamp :
  ∃ (s : State), s.lead ≠ none :=
   ⟨base, by decide +kernel⟩

theorem witness_ReadsReturnAndClearsSetToZero :
  (∃ (s : State) (p : Path) (o w : Nat) (isWrite : Bool), Reaches s p ∧
      (¬ (0 < w ∧ o % w = 0 ∧ (w = 8 ∨ (w = 4 ∧ isWrite = false))))) ∧
  (∃ (s t : State) (p : Path) (o w v : Nat), Reaches s p ∧
      (w = 4 ∨ w = 8) ∧
      o % w = 0 ∧
      s.readAt p (o - o % 8) = (v, t)) ∧
  (∃ (s : State) (p : Path), Reaches s p ∧
      (Path.func p = 0)) ∧
  (∃ (s : State) (p : Path) (n core word : Nat) (d : List Byte), Reaches s p ∧
      (Path.func p = 0) ∧
      n = bits (s.sel p .rstSampleSel) 18 13 ∧
      core = bits (s.sel p .rstSampleSel) 12 9 ∧
      word = bits (s.sel p .rstSampleSel) 8 0 ∧
      (s.cd n).owners = [] ∧
      Tbl.find (s.cd n).sample core = some (some d)) ∧
  (∃ (s : State) (p : Path) (n : Nat), Reaches s p ∧
      (Path.func p = 0) ∧
      n = bits (s.sel p .rstSampleSel) 18 13 ∧
      (s.cd n).owners = [] ∧
      (s.cd n).sample = []) ∧
  (∃ (s : State) (p : Path) (v : Word), Writes s p .cmdJournalStatus v ∧
      tst v.toNat 63 = true) ∧
  (∃ (s : State) (p : Path) (v : Word), Writes s p .xltStatus v ∧
      tst v.toNat 63 = true) ∧
  (∃ (s : State) (p : Path) (v : Word), Writes s p .fltStaleGen v ∧
      tst v.toNat 63 = true) ∧
  (∃ (s : State) (p : Path) (v : Word), Writes s p .ceCount v ∧
      tst v.toNat 63 = true) ∧
  (∃ (s : State) (p : Path) (v : Word), Writes s p .planEpoch v ∧
      tst v.toNat 63 = true) ∧
  (∃ (s : State) (p : Path) (v : Word), Writes s p .fltRegErr v ∧
      tst v.toNat 63 = true) ∧
  (∃ (s : State) (p : Path) (v : Word), Writes s p .rstDip v ∧
      tst v.toNat 63 = true) ∧
  (∃ (s : State) (p : Path) (v : Word), Writes s p .cohCount v ∧
      tst v.toNat 63 = true) ∧
  (∃ (s : State) (p : Path) (v : Word), Writes s p .cohCount1 v ∧
      tst v.toNat 63 = true) ∧
  (∃ (s : State) (p : Path) (v : Word), Writes s p .fabCount v ∧
      tst v.toNat 63 = true) :=
   ⟨⟨base, pf0, 0, 4, true, by unfold Reaches; decide +kernel, by decide +kernel⟩,
    ⟨base, (base.readAt pf0 0).2, pf0, 4, 4, (base.readAt pf0 0).1, by unfold Reaches; decide +kernel, by decide +kernel, by decide +kernel, rfl⟩,
    ⟨base, pf0, by unfold Reaches; decide +kernel, by decide +kernel⟩,
    ⟨{ base with rst := { base.rst with cds := [(0, { Cd.reset with sample := [(0, some [])] })] } }, pf0, _, _, _, [], by unfold Reaches; decide +kernel, by decide +kernel, rfl, rfl, rfl, by decide +kernel⟩,
    ⟨base, pf0, _, by unfold Reaches; decide +kernel, by decide +kernel, rfl, by decide +kernel⟩,
    ⟨base, pf0, 0x8000000000000000, writes_of (by decide +kernel), by decide +kernel⟩,
    ⟨base, pf0, 0x8000000000000000, writes_of (by decide +kernel), by decide +kernel⟩,
    ⟨base, pf0, 0x8000000000000000, writes_of (by decide +kernel), by decide +kernel⟩,
    ⟨base, pf0, 0x8000000000000000, writes_of (by decide +kernel), by decide +kernel⟩,
    ⟨base, pf0, 0x8000000000000000, writes_of (by decide +kernel), by decide +kernel⟩,
    ⟨base, pf0, 0x8000000000000000, writes_of (by decide +kernel), by decide +kernel⟩,
    ⟨base, pf0, 0x8000000000000000, writes_of (by decide +kernel), by decide +kernel⟩,
    ⟨base, pf0, 0x8000000000000000, writes_of (by decide +kernel), by decide +kernel⟩,
    ⟨base, pf0, 0x8000000000000000, writes_of (by decide +kernel), by decide +kernel⟩,
    ⟨base, pf0, 0x8000000000000000, writes_of (by decide +kernel), by decide +kernel⟩⟩

theorem witness_RegistersCommitWhatTheyStage :
  (∃ (s t : State) (p : Path) (v : Word), Writes s p .objPlaceSel v ∧
      tst v.toNat 63 = true ∧
      tst v.toNat 62 = false ∧
      s.placeCommit (Path.side p) (bits v.toNat 7 0) (w64 (s.sel p (.objPlaceD 0))) (w64 (s.sel p (.objPlaceD 1)))
        (w64 (s.sel p (.objPlaceD 2))) (w64 (s.sel p (.objPlaceD 3))) = .ok t) ∧
  (∃ (s : State) (d0 d1 d2 d3 : Word) (o : Obj) (g : Region), o = s.obj (regObj d1) ∧
      g = { enabled := true, d0 := d0, d1 := d1, d2 := d2, d3 := d3, next := none }) ∧
  (∃ (s : State) (p : Path) (v : Word), Writes s p .objPlaceSel v ∧
      tst v.toNat 63 = false ∧
      tst v.toNat 62 = true) ∧
  (∃ (s : State) (p : Path) (v : Word), Writes s p .xltPartSel v ∧
      tst v.toNat 63 = true) ∧
  (∃ (s t : State) (n v : Nat), (t = (s.modXlt fun x => { x with part := Tbl.set (8, 4, 0) x.part n (bits v 47 32, bits v 31 16, bits v 9 0) }))) ∧
  (∃ (i : Instr) (s : State) (p : Path) (v : Word), (i = .faultRespRetry p v ∨ i = .faultRespFail p v) ∧
      Writes s p .xltFaultResp v) ∧
  (∃ (s : State) (p : Path) (v : Word), Writes s p .xltFring v) ∧
  (∃ (s : State) (p : Path) (v : Word), Writes s p .xltProbeSel v ∧
      tst v.toNat 63 = true ∧
      (Path.func p ≠ 0) ∧
      (s.seesCtx (Path.func p) (bits v.toNat 11 0) = true)) ∧
  (∃ (s : State) (p : Path) (v : Word) (c w0 w1 w2 w3 : Nat), Writes s p .objQuerySel v ∧
      (Path.func p ≠ 0) ∧
      (s.query (Path.func p) (bits v.toNat 33 32) (bits v.toNat 31 0) = some (c, w0, w1, w2, w3))) ∧
  (∃ (s : State) (p : Path) (v : Word), Writes s p .objQuerySel v ∧
      (s.query (Path.func p) (bits v.toNat 33 32) (bits v.toNat 31 0) = none)) :=
   ⟨(exists_ok (x := big.placeCommit .a 0 0 0 0 0) (by decide +kernel)).elim fun t h =>
      ⟨big, t, pf0, 0x8000000000000000, writes_of (by decide +kernel), by decide +kernel, by decide +kernel, h⟩,
    ⟨base, 0, 0, 0, 0, _, _, rfl, rfl⟩,
    ⟨base, pf0, 0x4000000000000000, writes_of (by decide +kernel), by decide +kernel⟩,
    ⟨base, pf0, 0x8000000000000000, writes_of (by decide +kernel), by decide +kernel⟩,
    ⟨base, _, 2, 0, rfl⟩,
    ⟨.faultRespRetry pf0 0, base, pf0, 0, .inl rfl, writes_of (by decide +kernel)⟩,
    ⟨base, pf0, 6, writes_of (by decide +kernel)⟩,
    ⟨vfCtx, vf1, 0x8000000000000002, writes_of (by decide +kernel), by decide +kernel⟩,
    ⟨vfCtx, vf1, 2, (Option.get (vfCtx.query 1 0 2) (by decide +kernel)).1, (Option.get (vfCtx.query 1 0 2) (by decide +kernel)).2.1, (Option.get (vfCtx.query 1 0 2) (by decide +kernel)).2.2.1, (Option.get (vfCtx.query 1 0 2) (by decide +kernel)).2.2.2.1, (Option.get (vfCtx.query 1 0 2) (by decide +kernel)).2.2.2.2, writes_of (by decide +kernel), by decide +kernel, (Option.some_get (x := vfCtx.query 1 0 2) (by decide +kernel)).symm⟩,
    ⟨base, pf0, 0x300400000, writes_of (by decide +kernel), by decide +kernel⟩⟩

theorem witness_CoherenceRegistersCommit :
  (∃ (s t : State) (p : Path) (v : Word), Writes s p .cohPartSel v ∧
      tst v.toNat 63 = true ∧
      (t = (s.modCoh fun c => { c with parts := Tbl.set (0, 0) c.parts (bits v.toNat 11 0) (bits (s.sel p .cohPart) 9 0, bits (s.sel p .cohPart) 23 16) }))) ∧
  (∃ (s : State) (p : Path) (v : Word) (n w : Nat) (d : Domain), Writes s p .cohDomainSel v ∧
      tst v.toNat 63 = true ∧
      n = bits v.toNat 6 0 ∧
      w = s.sel p .cohDomain ∧
      d = { valid := tst w 32, members := bits w 26 16, group := bits w 15 0 }) ∧
  (∃ (s : State) (p : Path) (v : Word), Writes s p .cohDirProbe v ∧
      tst v.toNat 63 = true ∧
      s.window (bits v.toNat 40 7 * 128) = none) ∧
  (∃ (s t : State) (p : Path) (v : Word) (o : Obj) (w0 w1 w2 : Nat), Writes s p .cohDirProbe v ∧
      tst v.toNat 63 = true ∧
      s.window (bits v.toNat 40 7 * 128) = some o ∧
      t = s.observe o.owner Reg.cohDirProbe.offset s.time.last ∧
      (t.dirE (bits v.toNat 40 7 * 128)).words o.owner = (w0, w1, w2)) :=
   ⟨⟨base, _, pf0, 0x8000000000000000, writes_of (by decide +kernel), by decide +kernel, rfl⟩,
    ⟨base, pf0, 0x8000000000000000, _, _, _, writes_of (by decide +kernel), by decide +kernel, rfl, rfl, rfl⟩,
    ⟨base, pf0, 0x8000000000000000, writes_of (by decide +kernel), by decide +kernel⟩,
    ⟨windowed, _, pf0, 0x8000000000100000, _, _, _, _, writes_of (by decide +kernel), by decide +kernel, rfl, rfl, rfl⟩⟩

theorem witness_InterruptRegistersAct :
  (∃ (i : Instr) (s : State) (p : Path) (v : Word), (i = .irqAck p v ∨ i = .irqIdle p v) ∧
      Writes s p .irqAck v) ∧
  (∃ (x : Vec), x.state = .service) ∧
  (∃ (x : Vec), (x.state = .waiting ∨ x.state = .due)) ∧
  (∃ (x : Vec), x.state = .waiting) ∧
  (∃ (x : Vec), x.state ≠ .waiting) ∧
  (∃ (s : State) (p : Path) (v : Word), Writes s p .irqGlobal v) ∧
  (∃ (s : State) (p : Path) (v : Word), Writes s p .irqRouteSel v ∧
      tst v.toNat 63 = true) ∧
  (∃ (s : State) (p : Path) (v : Word) (t : Side), Writes s p .irqWakeCtl v ∧
      tst v.toNat (match t with | .a => 62 | .b => 63) = true ∧
      tst v.toNat (match t with | .a => 63 | .b => 62) = false) ∧
  (∃ (s : State) (p : Path) (v : Word) (t : Side), Writes s p .fltAck v ∧
      t = Side.ofBool (tst (s.sel p .fltSel) 0)) ∧
  (∃ (c : Collector) (n : Nat), c.pending - Nat.land c.pending n = 0) ∧
  (∃ (c : Collector) (n : Nat), c.pending - Nat.land c.pending n ≠ 0) :=
   ⟨⟨.irqAck pf0 0, base, pf0, 0, .inl rfl, writes_of (by decide +kernel)⟩,
    ⟨{ Vec.reset with state := .service }, by decide +kernel⟩,
    ⟨{ Vec.reset with state := .waiting }, by decide +kernel⟩,
    ⟨{ Vec.reset with state := .waiting }, by decide +kernel⟩,
    ⟨{ Vec.reset with state := .due }, by decide +kernel⟩,
    ⟨base, pf0, 1, writes_of (by decide +kernel)⟩,
    ⟨base, pf0, 0x8000000000000000, writes_of (by decide +kernel), by decide +kernel⟩,
    ⟨base, pf0, 0x4000000000000000, .a, writes_of (by decide +kernel), by decide +kernel⟩,
    ⟨base, pf0, 1, _, writes_of (by decide +kernel), rfl⟩,
    ⟨Collector.reset, 1, by decide +kernel⟩,
    ⟨{ Collector.reset with pending := 3 }, 1, by decide +kernel⟩⟩

theorem witness_ResetAndClockRegistersAct :
  (∃ (s u : State) (p : Path) (v : Word) (t : Side), Writes s p .rstTwinCtl v ∧
      tst v.toNat 63 = true ∧
      tst v.toNat 61 = false ∧
      t = Side.ofBool (tst v.toNat 48) ∧
      (u = (s.modRst fun r => { r with ctlTwin := tst v.toNat 48, ctlTick := bits v.toNat 47 0 }))) ∧
  (∃ (s u : State) (p : Path) (v : Word), Writes s p .rstTwinCtl v ∧
      tst v.toNat 63 = false ∧
      tst v.toNat 62 = false ∧
      tst v.toNat 61 = false ∧
      tst v.toNat 60 = true ∧
      (u = (s.modRst fun r => { r with ctlTwin := tst v.toNat 48, ctlTick := bits v.toNat 47 0 }))) ∧
  (∃ (s u : State) (p : Path) (v : Word) (t : Side), Writes s p .rstTwinCtl v ∧
      tst v.toNat 63 = false ∧
      tst v.toNat 62 = true ∧
      tst v.toNat 61 = false ∧
      t = Side.ofBool (tst v.toNat 48) ∧
      (u = (s.modRst fun r => { r with ctlTwin := tst v.toNat 48, ctlTick := bits v.toNat 47 0 }))) ∧
  (∃ (s u : State) (t : Side), u = (s.wakeTwin t).twinGates t true ∧
      (u.twin t).ret = none ∧
      (u.twin t).inReset = false ∧
      (u.inSelftest t = true ∨ (u.twin t).loading = true)) ∧
  (∃ (s u : State) (t : Side), u = (s.wakeTwin t).twinGates t true ∧
      (u.twin t).ret = none ∧
      (u.twin t).inReset = false ∧
      u.inSelftest t = false ∧
      (u.twin t).loading = false ∧
      (u.twin t).measured = true ∧
      (u.twin t).tested = true) ∧
  (∃ (s u : State) (p : Path) (v : Word) (t : Side), Writes s p .rstTwinCtl v ∧
      Path.fn p = none ∧
      tst v.toNat 63 = false ∧
      tst v.toNat 62 = false ∧
      tst v.toNat 61 = true ∧
      t = Side.ofBool (tst v.toNat 48) ∧
      (u = (s.modRst fun r => { r with ctlTwin := tst v.toNat 48, ctlTick := bits v.toNat 47 0 }))) ∧
  (∃ (s : State) (p : Path) (v : Word), Writes s p .rstTwinCtl v ∧
      Path.fn p ≠ none ∧
      tst v.toNat 61 = true) ∧
  (∃ (s : State) (p : Path) (v : Word) (n : Nat), Writes s p .rstCdCtl v ∧
      tst v.toNat 63 = true ∧
      n = s.sel p .rstCdSel) ∧
  (∃ (s : State) (p : Path) (v : Word) (n : Nat), Writes s p .rstCdCtl v ∧
      tst v.toNat 63 = false ∧
      tst v.toNat 62 = true ∧
      n = s.sel p .rstCdSel) ∧
  (∃ (s : State) (p : Path) (v : Word), Writes s p .clkSrc v ∧
      (∀ k < 4, bits v.toNat (5 + 2 * k) (4 + 2 * k) = s.clk.field k) ∧
      (tst v.toNat 0 = s.clk.aclk ∨ tst s.clk.seen (if tst v.toNat 0 then 1 else 0) = true) ∧
      (tst v.toNat 1 = s.clk.mclk ∨ tst s.clk.seen (if tst v.toNat 1 then 2 else 0) = true)) ∧
  (∃ (s : State) (p : Path) (v : Word) (k w : Nat), Writes s p .clkSrc v ∧
      k < 4 ∧
      w < 2 ∧
      w ≠ s.clk.field k ∧
      s.clk.pend = [] ∧
      bits v.toNat (5 + 2 * k) (4 + 2 * k) = w ∧
      (∀ j < 4, j ≠ k → bits v.toNat (5 + 2 * j) (4 + 2 * j) = s.clk.field j) ∧
      (∀ t, clkTwin k = some t → s.inSelftest t = false) ∧
      tst v.toNat 0 = s.clk.aclk ∧
      tst v.toNat 1 = s.clk.mclk) ∧
  (∃ (s : State) (p : Path) (v : Word), Writes s p .clkGate v ∧
      (∃ n < 40, tst v.toNat n ≠ s.gateOn n ∧ s.gateLock n ≠ none)) ∧
  (∃ (s : State) (p : Path) (v : Word), Writes s p .clkGate v ∧
      (∀ n < 40, tst v.toNat n = s.gateOn n ∨ s.gateLock n = none) ∧
      (∃ n < 40, ∃ q, gateParent n = some q ∧ tst v.toNat n = true ∧ tst v.toNat q = false)) ∧
  (∃ (s : State) (p : Path) (v : Word), Writes s p .clkGate v ∧
      (∀ n < 40, tst v.toNat n = s.gateOn n ∨ s.gateLock n = none) ∧
      (∀ n < 40, ∀ q, gateParent n = some q → tst v.toNat n = true → tst v.toNat q = true)) ∧
  (∃ (s : State) (p : Path) (v : Word), Writes s p .clkFcntCtl v ∧
      tst v.toNat 63 = true) ∧
  (∃ (s : State) (p : Path) (v : Word) (t : Side), Writes s p .clkBistCtl v ∧
      tst v.toNat 63 = true ∧
      t = Side.ofBool (tst v.toNat 0)) :=
   ⟨⟨base, _, pf0, 0x8001000000000000, _, writes_of (by decide +kernel), by decide +kernel, by decide +kernel, rfl, rfl⟩,
    ⟨base, _, pf0, 0x1000000000000000, writes_of (by decide +kernel), by decide +kernel, by decide +kernel, by decide +kernel, by decide +kernel, rfl⟩,
    ⟨base, _, pf0, 0x4001000000000000, _, writes_of (by decide +kernel), by decide +kernel, by decide +kernel, by decide +kernel, rfl, rfl⟩,
    ⟨base.modTwin .b fun w => { w with state := .detached, loading := true }, _, .b, rfl, by decide +kernel⟩,
    ⟨base.modTwin .b fun w => { w with state := .detached, measured := true, tested := true }, _, .b, rfl, by decide +kernel⟩,
    ⟨base, _, .mgmt .a, 0x2001000000000000, _, writes_of (by decide +kernel), by decide +kernel, by decide +kernel, by decide +kernel, by decide +kernel, rfl, rfl⟩,
    ⟨base, pf0, 0x2001000000000000, writes_of (by decide +kernel), by decide +kernel⟩,
    ⟨base, pf0, 0x8000000000000000, _, writes_of (by decide +kernel), by decide +kernel, rfl⟩,
    ⟨base, pf0, 0x4000000000000000, _, writes_of (by decide +kernel), by decide +kernel, by decide +kernel, rfl⟩,
    ⟨base, pf0, 0, writes_of (by decide +kernel), by decide +kernel⟩,
    by refine ⟨base, pf0, 0x10, 0, 1, writes_of (by decide +kernel), ?_, ?_, ?_, ?_, ?_, ?_, fun t _ => by cases t <;> decide +kernel, ?_⟩ <;> decide +kernel,
    ⟨base, pf0, 0xFFFFFFFFFE, writes_of (by decide +kernel), ⟨0, by decide, by decide +kernel, by decide +kernel⟩⟩,
    ⟨base.modTwin .b fun w => { w with state := .detached }, pf0, 0xFEFFFFFFFF, writes_of (by decide +kernel), by decide +kernel, ⟨33, by decide, 32, rfl, by decide, by decide⟩⟩,
    ⟨base, pf0, 0xFFFFFFFFFF, writes_of (by decide +kernel), by decide +kernel, fun n _ q hq _ => by
      simp only [gateParent] at hq
      (repeat' split at hq) <;> cases hq <;> decide⟩,
    ⟨base, pf0, 0x8000000000000001, writes_of (by decide +kernel), by decide +kernel⟩,
    ⟨base, .mgmt .a, 0x8000000000000002, _, writes_of (by decide +kernel), by decide +kernel, rfl⟩⟩


/-- A node of the map. -/
def node (serial dist : Nat) : FabNode :=
  { serial := serial, pin := none, dist := dist, parent := 0, parentLink := 0, gen := 0, links := [] }

/-- A device whose fabric is as given. -/
def inFab (f : Fab → Fab) : State := base.modFab f

/-- A translation asked of the host, for a unit of queue 2. -/
def asked : AtsReq :=
  { port := .a, tag := 3, ctx := 2, pasidGen := 0, page := 0, access := .read, stale := false, orphan := false, queue := 2, slot := 0, unit := 0 }

/-- Context 2 has its first page in the shared TLB, for reads and writes. -/
def cached : State :=
  { ordinary with
    xlt := { ordinary.xlt with
      tlb := ⟨[{ ctx := 2, pasidGen := 0, page := 0, sizeLog := 0, entry := 0x63 }], []⟩
      ats := [asked]
      inv := [{ port := .a, func := 0, itag := 1, pasid := none, cover := 0, reads := [] }] } }

/-- Queue 2 has a copy under way whose source is not mapped. -/
def unmapped : State :=
  { ordinary with
    queues := base.queues ++ [(2, { Queue.none with
      live := true, state := .active, ctx := 2, prod := 1, cons := 1
      cmds := [{ cmdOf Op.copy 0 [0, 8192, 4096, 0] with begun := true, started := true }] })] }

/-- The source is a page of the host that no cache holds. -/
def uncachedPage : State :=
  { unmapped with
    funcs := [(0, { Func.reset with ready := true, bme := true, ats := true })]
    xlt := { ordinary.xlt with tlb := ⟨[{ ctx := 2, pasidGen := 0, page := 0, sizeLog := 0, entry := 0x6B }], []⟩ } }

def request : PageReq :=
  { ctx := 2, port := .a, func := 0, pasid := 0, pasidGen := 0, page := 0, r := true, w := false, index := some 4, sentAt := 0
    retried := false, again := false, users := [] }

def record : FaultRec :=
  { cva := 0, phase := false, ahead := false, terminated := false, control := false, reason := 0, access := .read, level := 0, id := 5
    queue := 2, slot := 0, unit := 0, ctx := 2, code := 0, run := 0, raised := 0, stamp := none, written := true, users := [] }

/-- A page request and a stalled record have waited long. -/
def waited : State :=
  { ordinary with
    time := { base.time with bnd := 2 ^ 25 }
    xlt := { ordinary.xlt with requests := [request], stalled := [record] } }

/-- Port 0 in another state. -/
def port0 (f : Port → Port) : State := base.modPort .a f

/-- Function `f` of port 0 in an FLR. -/
def inFlr (f : Nat) : State := base.modFunc .a f fun x => { x with flr := true }

/-- Port 0 has one region, over object 0. -/
def placed : State :=
  port0 fun x => { x with regions := [(0, { enabled := true, d0 := 0, d1 := 0, d2 := 0, d3 := 0x1300000000, next := none })] }

/-- Port 0 has asked the host once; queue 0 holds a command. -/
def asking (r : Req) : State := (holding base (cmdOf Op.nop 0 [])).modPort .a fun x => { x with reqs := [r] }

/-- Vector 0 of function 0 is DUE and can be delivered. -/
def due : State :=
  { base with
    funcs := [(0, { Func.reset with ready := true, bme := true, msix := true, table := [(0, { addr := 0x1000, data := 7, mask := false })] })]
    irq := { base.irq with vecs := [(0, { Vec.reset with state := .due, events := 1 })] } }

/-- Twin A's collector. -/
def withCol (f : Collector → Collector) : State := base.modTwin .a fun w => { w with col := f w.col }

/-- Compute domain 0 is sampled, and core 3 is awaited. -/
def sampling : State := { base with rst := { base.rst with cds := [(0, { Cd.reset with stage := 2, awaiting := [3] })] } }

theorem witness_FabricRegistersCommit :
  (∃ (s : State) (p : Path) (v : Word) (i d0 d1 d2 d3 : Nat), Writes s p .fabGrantSel v ∧
      tst v.toNat 63 = true ∧
      tst v.toNat 62 = false ∧
      i = bits v.toNat 15 0 ∧
      d0 = s.sel p (.fabGrantD 0) ∧
      d1 = s.sel p (.fabGrantD 1) ∧
      d2 = s.sel p (.fabGrantD 2) ∧
      d3 = s.sel p (.fabGrantD 3)) ∧
  (∃ (s : State) (i d0 d1 d2 d3 : Nat) (o : Obj) (g : GrantEnt), tst d0 4 = false ∧
      o = s.obj (bits d1 31 0 % 2 ^ 22) ∧
      g = s.grant i ∧
      o.state = .live ∧
      o.owner = bits d0 37 26 ∧
      o.attr % 2 = 0 ∧
      65536 * bits d2 63 16 + 65536 * bits d3 24 0 ≤ 65536 * o.size64k ∧
      bits d0 63 50 ≠ s.fab.device ∧
      (s.route (bits d0 63 50)).unreach = false ∧
      bits d0 2 0 ≠ 0) ∧
  (∃ (s : State) (d0 d1 : Nat), tst d0 4 = false ∧
      ((s.obj (bits d1 31 0 % 2 ^ 22)).state = .free ∨ (s.obj (bits d1 31 0 % 2 ^ 22)).owner ≠ bits d0 37 26)) ∧
  (∃ (s : State) (p : Path) (v : Word) (i : Nat), Writes s p .fabGrantSel v ∧
      tst v.toNat 63 = false ∧
      tst v.toNat 62 = true ∧
      i = bits v.toNat 15 0) ∧
  (∃ (s : State) (p : Path) (v : Word) (h w k : Nat) (f : Fence) (g : HeldGrant), Writes s p .fabProxySel v ∧
      tst v.toNat 63 = true ∧
      tst v.toNat 62 = false ∧
      h = bits v.toNat 31 0 ∧
      s.proxyFrozen h = false ∧
      w = s.sel p .fabProxy ∧
      s.fenceOf h = some f ∧
      s.heldGrant (bits w 63 50) (bits w 49 34) = some (k, g) ∧
      g.fence = true ∧
      f.owner = g.ctx ∧
      f.mode = 0 ∧
      f.signallers = 0 ∧
      f.proxy = none) ∧
  (∃ (s : State) (p : Path) (v : Word) (h : Nat), Writes s p .fabProxySel v ∧
      tst v.toNat 63 = true ∧
      h = bits v.toNat 31 0 ∧
      s.fenceOf h = none) ∧
  (∃ (s : State) (p : Path) (v : Word) (h : Nat) (f : Fence), Writes s p .fabProxySel v ∧
      tst v.toNat 63 = false ∧
      tst v.toNat 62 = true ∧
      h = bits v.toNat 31 0 ∧
      s.proxyFrozen h = false ∧
      s.fenceOf h = some f) ∧
  (∃ (s : State) (p : Path) (v : Word) (g w : Nat), Writes s p .fabGroupSel v ∧
      tst v.toNat 63 = true ∧
      tst v.toNat 62 = false ∧
      g = bits v.toNat 15 0 ∧
      w = s.sel p .fabGroup) ∧
  (∃ (s : State) (g n list : Nat) (o : Obj) (ids : List Nat), o = s.obj list ∧
      (ids = ((List.range n).map fun i => leNat (s.mem.readN (o.base + 2 * i) 2))) ∧
      g ≠ 0 ∧
      n ≠ 0 ∧
      n ≤ 16384 ∧
      (o.state ≠ .live ∨ 1 < o.owner)) ∧
  (∃ (s : State) (g n list : Nat) (o : Obj) (ids : List Nat), o = s.obj list ∧
      (ids = ((List.range n).map fun i => leNat (s.mem.readN (o.base + 2 * i) 2))) ∧
      g ≠ 0 ∧
      n ≠ 0 ∧
      n ≤ 16384 ∧
      o.state = .live ∧
      o.owner ≤ 1 ∧
      65536 * o.size64k < 2 * n) ∧
  (∃ (s : State) (g n list : Nat) (o : Obj) (ids : List Nat), o = s.obj list ∧
      (ids = ((List.range n).map fun i => leNat (s.mem.readN (o.base + 2 * i) 2))) ∧
      g ≠ 0 ∧
      n ≠ 0 ∧
      n ≤ 16384 ∧
      o.state = .live ∧
      o.owner ≤ 1 ∧
      2 * n ≤ 65536 * o.size64k ∧
      s.fab.device ∉ ids) ∧
  (∃ (s : State) (g n list : Nat) (o : Obj) (ids : List Nat), o = s.obj list ∧
      (ids = ((List.range n).map fun i => leNat (s.mem.readN (o.base + 2 * i) 2))) ∧
      g ≠ 0 ∧
      n ≠ 0 ∧
      n ≤ 16384 ∧
      o.state = .live ∧
      o.owner ≤ 1 ∧
      2 * n ≤ 65536 * o.size64k ∧
      s.fab.device ∈ ids ∧
      s.groupUsed g = true) ∧
  (∃ (s : State) (g n list : Nat) (o : Obj) (ids : List Nat), o = s.obj list ∧
      (ids = ((List.range n).map fun i => leNat (s.mem.readN (o.base + 2 * i) 2))) ∧
      g ≠ 0 ∧
      n ≠ 0 ∧
      n ≤ 16384 ∧
      o.state = .live ∧
      o.owner ≤ 1 ∧
      2 * n ≤ 65536 * o.size64k ∧
      s.fab.device ∈ ids ∧
      s.groupUsed g = false ∧
      0 < (s.group g).members ∧
      ids.idxOf s.fab.device ≠ 0) ∧
  (∃ (s : State) (p : Path) (v : Word) (g : Nat), Writes s p .fabGroupSel v ∧
      tst v.toNat 63 = false ∧
      tst v.toNat 62 = true ∧
      g = bits v.toNat 15 0) ∧
  (∃ (s : State) (p : Path) (v : Word) (d w : Nat), Writes s p .fabRouteSel v ∧
      tst v.toNat 63 = true ∧
      tst v.toNat 62 = false ∧
      d = bits v.toNat 13 0 ∧
      w = bits (s.sel p .fabRoute) 47 24) ∧
  (∃ (s : State) (p : Path) (v : Word) (d : Nat), Writes s p .fabRouteSel v ∧
      tst v.toNat 63 = false ∧
      tst v.toNat 62 = true ∧
      d = bits v.toNat 13 0) ∧
  (∃ (i : Instr) (s : State) (p : Path) (v : Word) (g : Nat) (rst : Bool) (x : Global), (i = .globalSnapshot p v ∨ i = .globalReset p v) ∧
      Writes s p .fabGlobal v ∧
      tst v.toNat 63 = true ∧
      rst = tst v.toNat 62 ∧
      g = bits v.toNat 15 0 ∧
      x = { reset := rst, group := g, tick := none, snapTick := bits (s.sel p .fabSnapTick) 47 0, confirms := 0, done := false, restored := false, told := false, via := Path.asker p } ∧
      s.fab.global ≠ none) ∧
  (∃ (i : Instr) (s : State) (p : Path) (v : Word) (g : Nat) (rst : Bool) (x : Global), (i = .globalSnapshot p v ∨ i = .globalReset p v) ∧
      Writes s p .fabGlobal v ∧
      tst v.toNat 63 = true ∧
      rst = tst v.toNat 62 ∧
      g = bits v.toNat 15 0 ∧
      x = { reset := rst, group := g, tick := none, snapTick := bits (s.sel p .fabSnapTick) 47 0, confirms := 0, done := false, restored := false, told := false, via := Path.asker p } ∧
      s.fab.global = none ∧
      ((rst = true ∧ g ≠ 0) ∨ s.time.agreed = false ∨ s.fab.device ∉ s.members g ∨
          (g ≠ 0 ∧ (s.group g).valid = false))) ∧
  (∃ (i : Instr) (s : State) (p : Path) (v : Word) (g : Nat) (rst : Bool) (x : Global), (i = .globalSnapshot p v ∨ i = .globalReset p v) ∧
      Writes s p .fabGlobal v ∧
      tst v.toNat 63 = true ∧
      rst = tst v.toNat 62 ∧
      g = bits v.toNat 15 0 ∧
      x = { reset := rst, group := g, tick := none, snapTick := bits (s.sel p .fabSnapTick) 47 0, confirms := 0, done := false, restored := false, told := false, via := Path.asker p } ∧
      s.fab.global = none ∧
      (rst = true → g = 0) ∧
      s.time.agreed = true ∧
      s.fab.device ∈ s.members g ∧
      (g = 0 ∨ (s.group g).valid = true)) :=
   ⟨⟨base, pf0, 0x8000000000000000, _, _, _, _, _, writes_of (by decide +kernel), by decide +kernel, by decide +kernel, rfl, rfl, rfl, rfl, rfl⟩,
    ⟨base, 2, 5 * 2 ^ 50 + 1, 0, 0, 1, _, _, by decide +kernel, rfl, rfl, by decide +kernel⟩,
    ⟨base, 0, 9, by decide +kernel⟩,
    ⟨base, pf0, 0x4000000000000000, _, writes_of (by decide +kernel), by decide +kernel, by decide +kernel, rfl⟩,
    ⟨{ (inFab fun f => { f with have_ := [(0, { dev := 0, id := 0, ggen := 0, base := 0, size := 0, rights := 0, ctx := 0, fence := true })] }) with fences := fenced.fences }, pf0, 0x8000000000000000, _, _, 0, { Fence.none with live := true }, { dev := 0, id := 0, ggen := 0, base := 0, size := 0, rights := 0, ctx := 0, fence := true }, writes_of (by decide +kernel), by decide +kernel, by decide +kernel, rfl, by decide +kernel, rfl, by decide +kernel⟩,
    ⟨base, pf0, 0x8000000000000000, _, writes_of (by decide +kernel), by decide +kernel, rfl, by decide +kernel⟩,
    ⟨fenced, pf0, 0x4000000000000000, _, { Fence.none with live := true }, writes_of (by decide +kernel), by decide +kernel, by decide +kernel, rfl, by decide +kernel⟩,
    ⟨base, pf0, 0x8000000000000000, _, _, writes_of (by decide +kernel), by decide +kernel, by decide +kernel, rfl, rfl⟩,
    ⟨base, 1, 1, 9, _, _, rfl, rfl, by decide +kernel⟩,
    ⟨{ base with objs := [(0, { Obj.none with state := .live })] }, 1, 16384, 0, _, _, rfl, rfl, by decide +kernel⟩,
    ⟨inFab fun f => { f with device := 7 }, 1, 1, 0, _, _, rfl, rfl, by decide +kernel⟩,
    ⟨inFab fun f => { f with global := some { reset := false, group := 1, tick := none, snapTick := 0, confirms := 0, done := false, restored := false, told := false, via := none } }, 1, 1, 0, _, _, rfl, rfl, by decide +kernel⟩,
    ⟨(inFab fun f => { f with device := 7, groups := [(1, { Group.none with members := 1 })] }).setMem { bytes := [(2, 7)], poison := [] }, 1, 2, 0, _, _, rfl, rfl, by decide +kernel⟩,
    ⟨base, pf0, 0x4000000000000000, _, writes_of (by decide +kernel), by decide +kernel, by decide +kernel, rfl⟩,
    ⟨base, pf0, 0x8000000000000000, _, _, writes_of (by decide +kernel), by decide +kernel, by decide +kernel, rfl, rfl⟩,
    ⟨base, pf0, 0x4000000000000000, _, writes_of (by decide +kernel), by decide +kernel, by decide +kernel, rfl⟩,
    ⟨.globalSnapshot pf0 0xA000000000000000, inFab fun f => { f with global := some { reset := false, group := 1, tick := none, snapTick := 0, confirms := 0, done := false, restored := false, told := false, via := none } }, pf0, 0xA000000000000000, _, _, _, .inl rfl, writes_of (by decide +kernel), by decide +kernel, rfl, rfl, rfl, by decide +kernel⟩,
    ⟨.globalReset pf0 0xC000000000000001, base, pf0, 0xC000000000000001, _, _, _, .inr rfl, writes_of (by decide +kernel), by decide +kernel, rfl, rfl, rfl, by decide +kernel⟩,
    ⟨.globalReset pf0 0xC000000000000000, inFab fun f => { f with map := [(node 1 0, 0)] }, pf0, 0xC000000000000000, _, _, _, .inr rfl, writes_of (by decide +kernel), by decide +kernel, rfl, rfl, rfl, by decide +kernel⟩⟩

theorem witness_TranslationEventsAct :
  (∃ (s : State) (n q cva : Nat) (acc : Access), (s.queue q).live = true ∧
      (s.queue q).ctx = n ∧
      (s.ctx n).priv = false ∧
      cva < 2 ^ 57 ∧
      (∀ r l, (s.target n cva 1 acc).1 ≠ .fail r l) ∧
      (∀ p, (s.target n cva 1 acc).1 ≠ .miss p)) ∧
  (∃ (s : State) (n q cva r l u : Nat) (acc : Access) (c : Cmd), (s.queue q).live = true ∧
      (s.queue q).ctx = n ∧
      (s.ctx n).priv = false ∧
      cva < 2 ^ 57 ∧
      (s.target n cva 1 acc).1 = .fail r l ∧
      s.unitFor q cva acc = some (c, u)) ∧
  (∃ (s : State) (n q cva page u : Nat) (acc : Access) (c : Cmd), (s.queue q).live = true ∧
      (s.queue q).ctx = n ∧
      (s.ctx n).priv = false ∧
      cva < 2 ^ 57 ∧
      (s.target n cva 1 acc).1 = .miss page ∧
      s.unitFor q cva acc = some (c, u)) ∧
  (∃ (s : State) (n cva e l : Nat) (acc : Access), (s.ctx n).priv = false ∧
      s.leafOf n cva acc = .leaf e l ∧
      0 < (s.part n).1) ∧
  (∃ (s u : State) (p : Side) (tag : Nat) (r : AtsReq) (rr w : Bool), (s.xlt.ats.find? (fun r => r.port = p && r.tag = tag) = some r) ∧
      (u = (s.modXlt fun x => { x with ats := x.ats.filter fun y => !(y.port = p && y.tag = tag) })) ∧
      r.pasidGen = (s.ctx r.ctx).pasidGen ∧
      (s.ctx r.ctx).state ≠ .free ∧
      (s.ctx r.ctx).state ≠ .dead ∧
      r.stale = false ∧
      r.orphan = false ∧
      (r.access ≠ .write → rr = true) ∧
      (r.access ≠ .read → w = true)) ∧
  (∃ (s u : State) (p : Side) (tag : Nat) (r : AtsReq) (rr w : Bool), (s.xlt.ats.find? (fun r => r.port = p && r.tag = tag) = some r) ∧
      (u = (s.modXlt fun x => { x with ats := x.ats.filter fun y => !(y.port = p && y.tag = tag) })) ∧
      r.pasidGen = (s.ctx r.ctx).pasidGen ∧
      (s.ctx r.ctx).state ≠ .free ∧
      (s.ctx r.ctx).state ≠ .dead ∧
      r.stale = false ∧
      r.orphan = false ∧
      r.queue ≠ 16384 ∧
      ((r.access ≠ .write ∧ rr = false) ∨ (r.access ≠ .read ∧ w = false))) ∧
  (∃ (s : State) (r : AtsReq), 0 < (s.part r.ctx).2.1) ∧
  (∃ (s u : State) (p : Side) (tag : Nat) (x : AtsResult) (r : AtsReq), (s.xlt.ats.find? (fun r => r.port = p && r.tag = tag) = some r) ∧
      (u = (s.modXlt fun x => { x with ats := x.ats.filter fun y => !(y.port = p && y.tag = tag) })) ∧
      x ≠ .timedOut ∧
      r.orphan = true) ∧
  (∃ (s u : State) (p : Side) (tag : Nat) (x : AtsResult) (r : AtsReq), (s.xlt.ats.find? (fun r => r.port = p && r.tag = tag) = some r) ∧
      (u = (s.modXlt fun x => { x with ats := x.ats.filter fun y => !(y.port = p && y.tag = tag) })) ∧
      x ≠ .timedOut ∧
      r.orphan = false ∧
      r.pasidGen ≠ (s.ctx r.ctx).pasidGen) ∧
  (∃ (s : State) (p : Side) (f : Fin 128), ((s.xlt.inv.filter fun i => i.port = p && i.func = f.val).length < 32)) ∧
  (∃ (s : State) (p : Side) (f : Fin 128) (itag : Nat) (i : AtsInv), (s.xlt.inv.find? (fun i => i.port = p && i.func = f.val && i.itag = itag) = some i) ∧
      (s.port p).up = true ∧
      i.cover ≤ (s.port p).jacked ∧
      (∀ r ∈ (s.port p).reqs, r.tag ∉ i.reads)) ∧
  (∃ (s u : State) (n : Nat) (p : Side) (f : Fin 128) (i g : Nat) (mine : PageReq → Bool), s.canStamp = true ∧
      s.stamp = (n, u) ∧
      (mine = (fun r => r.port = p && r.func = f.val && r.index = some i && r.pasidGen = g && (u.ctx r.ctx).pasidGen = g))) ∧
  (∃ (s : State) (p : Side) (i : Nat) (mine : PageReq → Bool), (mine = (fun r => r.port = p && r.index = some i && decide (s.time.bnd ≥ r.sentAt + bits (s.func p r.func).ctl.toNat 47 24))) ∧
      s.xlt.requests.any mine = true) ∧
  (∃ (s : State) (p : Side) (f : Fin 128) (id : Nat) (r : FaultRec), s.stalledAt p f.val id = some r ∧
      (r.raised + bits (s.func p f.val).ctl.toNat 23 0 + 1 ≤ s.time.bnd)) :=
   ⟨⟨cached, 2, 2, 0, .read, by decide +kernel, by decide +kernel, by decide +kernel, by decide +kernel, (fun _ _ h => by rw [show (cached.target 2 0 1 .read).1 = Target.loc 0 by decide +kernel] at h; cases h), (fun _ h => by rw [show (cached.target 2 0 1 .read).1 = Target.loc 0 by decide +kernel] at h; cases h)⟩,
    ⟨unmapped, 2, 2, 0, 0, 4, 0, .read, { cmdOf Op.copy 0 [0, 8192, 4096, 0] with begun := true, started := true }, by decide +kernel⟩,
    ⟨uncachedPage, 2, 2, 0, 0, 0, .read, { cmdOf Op.copy 0 [0, 8192, 4096, 0] with begun := true, started := true }, by decide +kernel⟩,
    ⟨cached, 2, 0, 0x63, 0, .read, by decide +kernel⟩,
    ⟨cached, _, .a, 3, _, true, false, rfl, rfl, by decide +kernel⟩,
    ⟨cached, _, .a, 3, _, false, false, rfl, rfl, by decide +kernel⟩,
    ⟨cached, asked, by decide +kernel⟩,
    ⟨{ cached with xlt := { cached.xlt with ats := [{ asked with orphan := true }] } }, _, .a, 3, .failed, _, rfl, rfl, by decide +kernel⟩,
    ⟨{ cached with ctxs := [(2, { Ctx.none with state := .running, pasidGen := 1 })] }, _, .a, 3, .failed, _, rfl, rfl, by decide +kernel⟩,
    ⟨base, .a, 0, by decide +kernel⟩,
    ⟨cached, .a, 0, 1, _, rfl, by decide +kernel⟩,
    ⟨waited, _, _, .a, 0, 4, 0, _, by decide +kernel, rfl, rfl⟩,
    ⟨waited, .a, 4, _, rfl, by decide +kernel⟩,
    ⟨waited, .a, 0, 5, _, rfl, by decide +kernel⟩⟩

theorem witness_LinksGoDownAndReturn :
  (∃ (s : State) (p : Side), (s.port p).up = true) ∧
  (∃ (s : State) (p : Side), (s.port p).up = false ∧
      s.carries p = true ∧
      ((s.port p).genDue = true → s.domainHeld (50 + p.num) = false)) ∧
  (∃ (s : State) (p : Side), ((s.port p).up = true ∨ s.carries p = false ∨ ((s.port p).genDue = true ∧ s.domainHeld (50 + p.num) = true))) ∧
  (∃ (s : State) (p : Side), (s.port p).holding = true ∧
      (s.port p).cxl = false ∧
      (s.port p).holdStart + 1000 * (s.port p).holdMs < s.time.us + periodUs s.time.period) ∧
  (∃ (s u : State) (p : Side) (n : Nat), (s.port p).holding = true ∧
      (s.port p).cxl = true ∧
      ptrHost p ∉ s.coh.dead ∧
      (s.port p).holdStart + 1000 * (s.port p).holdMs < s.time.us + periodUs s.time.period ∧
      s.stamp = (n, u)) ∧
  (∃ (s : State) (p : Side), (s.port p).cxl = false ∧
      (s.port p).tdis = []) :=
   ⟨⟨base, .a, by decide +kernel⟩,
    ⟨port0 fun x => { x with up := false }, .a, by decide +kernel⟩,
    ⟨base, .a, by decide +kernel⟩,
    ⟨port0 fun x => { x with up := false, holding := true, holdMs := 0 }, .a, by decide +kernel⟩,
    ⟨port0 fun x => { x with up := false, cxl := true, holding := true, holdMs := 0 }, _, .a, _, by decide +kernel, by decide +kernel, by decide +kernel, by decide +kernel, rfl⟩,
    ⟨base, .a, by decide +kernel⟩⟩

theorem witness_FunctionsAreResetAndConfigured :
  (∃ (i : Instr) (s u : State) (p : Side) (f : Fin 128) (n : Nat), (i = .flr p f ∨ (i = .d0Return p f ∧ (s.func p f.val).d3 = true ∧ (s.port p).up = true ∧ (s.func p f.val).flr = false)) ∧
      f.val ≠ 0 ∧
      (s.tdi .a f.val).state = .unlocked ∧
      (s.tdi .b f.val).state = .unlocked ∧
      s.stamp = (n, u) ∧
      s.canStamp = false) ∧
  (∃ (i : Instr) (s u : State) (p : Side) (f : Fin 128) (n : Nat), (i = .flr p f ∨ (i = .d0Return p f ∧ (s.func p f.val).d3 = true ∧ (s.port p).up = true ∧ (s.func p f.val).flr = false)) ∧
      f.val ≠ 0 ∧
      (s.tdi .a f.val).state = .unlocked ∧
      (s.tdi .b f.val).state = .unlocked ∧
      s.stamp = (n, u) ∧
      s.canStamp = true) ∧
  (∃ (s : State) (p : Side) (f : Fin 128), ((s.func p f.val).flr = true) ∧
      s.tearing p f.val = false ∧
      f.val = 0) ∧
  (∃ (s u : State) (p : Side) (f : Fin 128), ((s.func p f.val).flr = true) ∧
      s.tearing p f.val = false ∧
      f.val ≠ 0 ∧
      (u = (s.modFunc p f.val fun x => { x with flr := false, silenced := false }))) ∧
  (∃ (s : State) (p : Side) (f : Fin 128), s.tearing p f.val = true) ∧
  (∃ (s : State) (p : Side), (s.port p).vfEnable = true ∧
      (s.port p).tdis = [] ∧
      (s.port p).up = true ∧
      ((s.func p 0).flr = false)) ∧
  (∃ (s u : State) (p : Side) (f : Fin 128), (s.port p).up = true ∧
      ((s.func p f.val).flr = false) ∧
      (u = (s.modFunc p f.val fun x => { x with d3 := true, ready := false, event := max x.event 5 }))) ∧
  (∃ (s : State) (p : Side) (f : Fin 128), (s.port p).up = true ∧
      ((s.func p f.val).flr = false)) ∧
  (∃ (i : Instr) (s : State) (p : Side) (f : Fin 128) (c : Cfg), (i = .configurationRequest p f c ∨ i = .d3hotEntry p f ∨ i = .busMasterEnableClear p f ∨ i = .d0Return p f ∨
        (i = .vfEnableClear p ∧ f.val = 0)) ∧
      (s.port p).up = true ∧
      ((s.func p f.val).flr = true)) ∧
  (∃ (i : Instr) (s : State) (p : Side) (f : Fin 128) (c : Cfg), (i = .configurationRequest p f c ∨ i = .d3hotEntry p f ∨ i = .busMasterEnableClear p f ∨ i = .d0Return p f ∨
        (i = .vfEnableClear p ∧ f.val = 0)) ∧
      (s.port p).up = false) ∧
  (∃ (s : State) (p : Side) (f : Fin 128), (s.port p).up = true ∧
      ((s.func p f.val).flr = false)) ∧
  (∃ (s : State) (p : Side) (n : Nat), (s.port p).up = true ∧
      ((s.func p 0).flr = false) ∧
      (s.port p).mse = false ∧
      6 ≤ n ∧
      n ≤ 11) ∧
  (∃ (s : State) (p : Side) (n : Nat), (s.port p).up = true ∧
      ((s.func p 0).flr = false) ∧
      (n = 128 ∨ n = 256 ∨ n = 512)) ∧
  (∃ (s : State) (p : Side) (f : Fin 128), (s.port p).up = true ∧
      ((s.func p f.val).flr = false)) :=
   ⟨⟨.flr .a 1, { base with time := { base.time with seq := 65535 } }, _, .a, 1, _, .inl rfl, by decide +kernel, by decide +kernel, by decide +kernel, rfl, by decide +kernel⟩,
    ⟨.flr .a 1, base, _, .a, 1, _, .inl rfl, by decide +kernel, by decide +kernel, by decide +kernel, rfl, by decide +kernel⟩,
    ⟨inFlr 0, .a, 0, by decide +kernel⟩,
    ⟨inFlr 1, _, .a, 1, by decide +kernel, by decide +kernel, by decide +kernel, rfl⟩,
    ⟨{ base with ctxs := base.ctxs ++ [(2, { Ctx.none with state := .draining, teardown := some (1, 0), func := 1 })] }, .a, 1, by decide +kernel⟩,
    ⟨base, .a, by decide +kernel⟩,
    ⟨base, _, .a, 0, by decide +kernel, by decide +kernel, rfl⟩,
    ⟨base, .a, 0, by decide +kernel⟩,
    ⟨.configurationRequest .a 0 .busMasterSet, inFlr 0, .a, 0, .busMasterSet, .inl rfl, by decide +kernel⟩,
    ⟨.configurationRequest .a 0 .busMasterSet, port0 fun x => { x with up := false }, .a, 0, .busMasterSet, .inl rfl, by decide +kernel⟩,
    ⟨base, .a, 0, by decide +kernel⟩,
    ⟨port0 fun x => { x with mse := false }, .a, 6, by decide +kernel⟩,
    ⟨base, .a, 128, by decide +kernel⟩,
    ⟨base, .a, 0, by decide +kernel⟩⟩

theorem witness_HostRequestsAndCompletionsAct :
  (∃ (s : State) (p : Side) (id addr a n : Nat), (s.port p).up = true ∧
      (s.port p).mse = true ∧
      s.placed4 p id addr (.read n) = some a ∧
      s.coh.dir = [] ∧
      s.writeWaits p = false ∧
      (s.port p).behind = []) ∧
  (∃ (s u : State) (p : Side) (id addr a : Nat) (d : List Byte) (bad : Bool) (x : _), s.mem.wf = true ∧
      (s.port p).up = true ∧
      (s.port p).mse = true ∧
      s.placed4 p id addr (.write d bad) = some a ∧
      s.coh.dir = [] ∧
      s.writeWaits p = false ∧
      (s.port p).behind = [] ∧
      (u = (if bad = true then s.modFunc p 0 fun v => { v with poisonedTlp := true, advisory := true } else s)) ∧
      Quiet (u.setMem (s.mem.store a d bad)) [(a, d.length)] ∧
      (x < a ∨ a + d.length ≤ x)) ∧
  (∃ (s u : State) (p : Side) (id addr a : Nat) (d : List Byte) (bad : Bool), s.mem.wf = true ∧
      (s.port p).up = true ∧
      (s.port p).mse = true ∧
      s.placed4 p id addr (.write d bad) = some a ∧
      s.coh.dir = [] ∧
      s.writeWaits p = false ∧
      (s.port p).behind = [] ∧
      (u = (if bad = true then s.modFunc p 0 fun v => { v with poisonedTlp := true, advisory := true } else s)) ∧
      Quiet (u.setMem (s.mem.store a d bad)) [(a, d.length)] ∧
      bad = true ∧
      d ≠ []) ∧
  (∃ (s : State) (p : Side) (id addr : Nat) (k : Bar4Kind), (s.port p).up = true ∧
      (s.port p).mse = true ∧
      s.placed4 p id addr k = none ∧
      s.writeWaits p = false ∧
      (s.port p).behind = []) ∧
  (∃ (s : State) (p : Side) (id addr a : Nat) (k : Bar4Kind), (s.port p).up = true ∧
      (s.port p).mse = true ∧
      s.placed4 p id addr k = some a ∧
      (∀ d, k ≠ .write d true) ∧
      (s.writeWaits p = true ∨ (s.port p).behind ≠ [])) ∧
  (∃ (s : State) (p : Side) (tag q pos u off len : Nat) (x : _) (d : List Byte) (r : Req), ((s.port p).reqs.find? (fun r => r.tag = tag) = some r) ∧
      r.kind = .source q pos u off len x ∧
      (s.dropReq p tag).staleReq p r = none ∧
      d.length = len) ∧
  (∃ (s : State) (p : Side) (tag q pos u off len : Nat) (x : _) (st : CplStatus) (r : Req), ((s.port p).reqs.find? (fun r => r.tag = tag) = some r) ∧
      r.kind = .source q pos u off len x ∧
      (s.dropReq p tag).staleReq p r = none ∧
      st ≠ .ok) ∧
  (∃ (s v : State) (p : Side) (tag f q pos : Nat) (r : Req), ((s.port p).reqs.find? (fun r => r.tag = tag) = some r) ∧
      r.kind = .signal f q pos ∧
      (s.dropReq p tag).staleReq p r = none ∧
      (v = (s.dropReq p tag).modFunc p (s.ctx r.ctx).func (fun x => { x with cplTimeout := true }))) ∧
  (∃ (s v : State) (p : Side) (tag : Nat) (r : Req), ((s.port p).reqs.find? (fun r => r.tag = tag) = some r) ∧
      (s.dropReq p tag).staleReq p r = some v) ∧
  (∃ (s v : State) (p : Side) (tag q pos u off len : Nat) (x : _) (r : Req) (c : Cmd), ((s.port p).reqs.find? (fun r => r.tag = tag) = some r) ∧
      r.kind = .source q pos u off len x ∧
      (s.dropReq p tag).staleReq p r = none ∧
      (v = (s.dropReq p tag).modFunc p (s.ctx r.ctx).func (fun x => { x with cplTimeout := true })) ∧
      (s.queue q).cmd pos = some c) ∧
  (∃ (s : State) (p : Side) (gen : Nat) (f : Flush), ((s.port p).flushes.find? (fun f => f.gen = gen) = some f) ∧
      gen = s.gen (50 + p.num)) ∧
  (∃ (s : State) (p : Side) (gen : Nat), gen ≠ s.gen (50 + p.num)) ∧
  (∃ (s : State) (p : Side) (f : Flush) (l : List Flush), (s.port p).flushes = f :: l) :=
   ⟨⟨placed, .a, 0, 0, 0, 64, by decide +kernel⟩,
    by refine ⟨placed, _, .a, 0, 0, 0, [1, 2], true, 2, ?_, ?_, ?_, ?_, ?_, ?_, ?_, rfl, by unfold Quiet; decide +kernel, ?_⟩ <;> decide +kernel,
    by refine ⟨placed, _, .a, 0, 0, 0, [1, 2], true, ?_, ?_, ?_, ?_, ?_, ?_, ?_, rfl, by unfold Quiet; decide +kernel, ?_⟩ <;> decide +kernel,
    ⟨base, .a, 0, 0, .read 4, by decide +kernel⟩,
    ⟨placed.modPort .a fun x => { x with behind := [.unsupported .a] }, .a, 0, 0, 0, .read 4, by decide +kernel, by decide +kernel, by decide +kernel, (fun _ h => nomatch h), by decide +kernel⟩,
    ⟨asking (hostReq (.source 0 0 0 0 4 0)), .a, 9, 0, 0, 0, 0, 4, 0, [1, 2, 3, 4], _, rfl, rfl, by decide +kernel⟩,
    ⟨asking (hostReq (.source 0 0 0 0 4 0)), .a, 9, 0, 0, 0, 0, 4, 0, .unsupported, _, rfl, rfl, by decide +kernel⟩,
    ⟨asking (hostReq (.signal 0 0 0)), _, .a, 9, 0, 0, 0, _, rfl, rfl, by decide +kernel, rfl⟩,
    ⟨{ asking (hostReq (.source 0 0 0 0 4 0)) with rst := { base.rst with gens := [(48, 1)] } }, _, .a, 9, _, rfl, rfl⟩,
    ⟨asking (hostReq (.source 0 0 0 0 4 0)), _, .a, 9, 0, 0, 0, 0, 4, 0, _, cmdOf Op.nop 0 [], rfl, rfl, by decide +kernel, rfl, by decide +kernel⟩,
    ⟨port0 fun x => { x with flushes := [{ cover := 0, stamp := 0, gen := 0 }] }, .a, 0, _, rfl, by decide +kernel⟩,
    ⟨base, .a, 1, by decide +kernel⟩,
    ⟨port0 fun x => { x with flushes := [{ cover := 0, stamp := 0, gen := 0 }] }, .a, _, _, rfl⟩⟩

theorem witness_InterruptEventsAct :
  (∃ (s u : State) (us f v : Nat) (o : Origin) (l : List (Nat × Nat × Origin)), s.irq.raised = (f, v, o) :: l ∧
      u = s.reach us) ∧
  (∃ (x : Vec), x.state = .quiet) ∧
  (∃ (x : Vec), x.state = .waiting) ∧
  (∃ (x : Vec), (x.state = .due ∨ x.state = .service)) ∧
  (∃ (s u : State) (us : Nat), u = s.reach us) ∧
  (∃ (x : Vec) (now o c d : Nat), x.state = .waiting ∧
      x.window = some (o, c, d) ∧
      o ≤ now ∧
      (c ≤ x.events ∨ o + d ≤ now)) ∧
  (∃ (x : Vec) (now o c d : Nat), x.state = .waiting ∧
      x.window = some (o, c, d) ∧
      o ≤ now ∧
      x.events < c ∧
      now < o + d) ∧
  (∃ (s u : State) (f : Fin 128) (v : Fin 2048) (us : Nat), u = s.reach us ∧
      u.deliverable f.val v.val = true ∧
      (∀ g w, (g, w) ∈ u.vecKeys → vecKey g w < vecKey f.val v.val → u.deliverable g w = false) ∧
      u.canStamp = true) ∧
  (∃ (s : State) (f v : Nat), (s.vec f v).route = none) ∧
  (∃ (x : Vec), x.adapt = false) ∧
  (∃ (x : Vec), x.adapt = true) ∧
  (∃ (s : State) (f : Fin 128) (v : Fin 2048) (us : Nat), (s.reach us).deliverable f.val v.val = false) ∧
  (∃ (s : State) (src : List (Nat × Nat)) (hits : Tbl Wake) (names : Side → Bool) (q : _), (hits = (s.irq.wakes.filter fun (_, w) => src.any fun (k, a) => w.matches k a)) ∧
      (names = (fun t => hits.any fun (_, w) => tst w.action t.num)) ∧
      names q = true ∧
      (s.twin q).standby = false ∧
      (s.twin q).standbyReq = true) ∧
  (∃ (s : State) (src : List (Nat × Nat)) (hits : Tbl Wake) (names : Side → Bool) (q : _), (hits = (s.irq.wakes.filter fun (_, w) => src.any fun (k, a) => w.matches k a)) ∧
      (names = (fun t => hits.any fun (_, w) => tst w.action t.num)) ∧
      names q = false) :=
   ⟨⟨{ base with irq := { base.irq with raised := [(0, 0, .chip)] } }, _, 1, 0, 0, .chip, [], by decide +kernel, rfl⟩,
    ⟨Vec.reset, by decide +kernel⟩,
    ⟨{ Vec.reset with state := .waiting }, by decide +kernel⟩,
    ⟨{ Vec.reset with state := .service }, by decide +kernel⟩,
    ⟨base, _, 0, rfl⟩,
    ⟨{ Vec.reset with state := .waiting, events := 4, window := some (0, 4, 16) }, 3, 0, 4, 16, by decide +kernel⟩,
    ⟨{ Vec.reset with state := .waiting, events := 3, window := some (0, 4, 16) }, 15, 0, 4, 16, by decide +kernel⟩,
    ⟨due, _, 0, 0, 5, rfl, by decide +kernel, fun g w hm hk => by simp only [vecKey, Fin.val_zero] at hk; omega, by decide +kernel⟩,
    ⟨due, 0, 0, by decide +kernel⟩,
    ⟨{ Vec.reset with adapt := false }, by decide +kernel⟩,
    ⟨{ Vec.reset with adapt := true }, by decide +kernel⟩,
    ⟨base, 0, 0, 0, by decide +kernel⟩,
    ⟨{ (base.modTwin .b fun w => { w with state := .detached, standbyReq := true }) with irq := { base.irq with wakes := [(0, { enable := true, action := 2, ret := false, kind := 1, arg := 0 })] } }, [(1, 0)], _, _, .b, rfl, rfl, by decide +kernel⟩,
    ⟨{ (base.modTwin .b fun w => { w with state := .detached, standbyReq := true }) with irq := { base.irq with wakes := [(0, { enable := true, action := 2, ret := false, kind := 1, arg := 0 })] } }, [(1, 0)], _, _, .a, rfl, rfl, by decide +kernel⟩⟩

theorem witness_FaultsAreCapturedAndEscalate :
  (∃ (s u v : State) (t : Side) (src : Fin 15) (ctx : Option Nat) (code detail n : Nat), src.val < 13 ∧
      s.canStamp = true ∧
      s.stamp = (n, u) ∧
      v = u.occur t src.val n code ctx detail) ∧
  (∃ (s : State) (src : Fin 15), s.canStamp = false ∧
      7 < src.val ∧
      src.val < 13) ∧
  (∃ (s : State) (detail : Nat), (s.window (detail / 128 * 128)).isSome = true) ∧
  (∃ (s : State) (n k : Nat), ((s.engine n).last = none ∨ (∃ q pos u, (s.engine n).last = some (q, pos, u) ∧ ((s.queue q).cmd pos = none ∨ (s.queue q).ctx ≠ k)))) ∧
  (∃ (c : Collector) (src : Nat), Tbl.wf Capture.none c.caps = true ∧
      tst c.first src = false) ∧
  (∃ (c : Collector) (src : Nat), Tbl.wf Capture.none c.caps = true ∧
      tst c.first src = true) ∧
  (∃ (c : Collector) (src : Nat), Tbl.wf Capture.none c.caps = true ∧
      startOf src = 0) ∧
  (∃ (c : Collector) (src : Nat), Tbl.wf Capture.none c.caps = true ∧
      startOf src ≠ 0) ∧
  (∃ (s : State) (t : Side) (c : Collector), c = (s.twin t).col ∧
      c.grace = some 1 ∧
      c.pending ≠ 0 ∧
      s.ladderStep t = 1) ∧
  (∃ (s : State) (t : Side) (c : Collector), c = (s.twin t).col ∧
      c.grace = some 1 ∧
      c.pending ≠ 0 ∧
      2 ≤ s.ladderStep t ∧
      s.serves t.other = true) ∧
  (∃ (s : State) (t : Side) (c : Collector), c = (s.twin t).col ∧
      c.grace = some 1 ∧
      c.pending ≠ 0 ∧
      2 ≤ s.ladderStep t ∧
      s.serves t.other = false ∧
      (s.twin t.other).state ≠ .detaching) ∧
  (∃ (s : State) (t : Side), ((s.twin t).col.grace ≠ some 1 ∨ (s.twin t).col.pending = 0)) ∧
  (∃ (s u v : State) (t : Side) (n : Nat), s.carries t = true ∧
      s.carries t.other = true ∧
      (u = (s.modTwin t fun w => { w with col := { w.col with safe := true }, fail := w.fail.or (some .safe) })) ∧
      u.canStamp = true ∧
      u.stamp = (n, v)) ∧
  (∃ (s : State) (t : Side), s.carries t = true ∧
      s.carries t.other = false) ∧
  (∃ (s : State) (d : Detach), s.rst.detach = some d ∧
      64 ≤ d.waited) ∧
  (∃ (s : State) (n : Fin 48) (core gen : Nat) (d : List Byte), gen = s.gen n.val ∧
      (s.cd n.val).stage = 2 ∧
      core ∈ (s.cd n.val).awaiting ∧
      d.length = 4096) ∧
  (∃ (s : State) (n : Fin 48) (gen : Nat), gen ≠ s.gen n.val) ∧
  (∃ (s : State) (n : Fin 48) (core : Nat), (s.cd n.val).stage = 2 ∧
      core ∈ (s.cd n.val).awaiting) :=
   ⟨⟨base, _, _, .a, 1, none, 0, 3, _, by decide +kernel, by decide +kernel, rfl, rfl⟩,
    ⟨{ base with time := { base.time with seq := 65535 } }, 8, by decide +kernel⟩,
    ⟨windowed, 1048576, by decide +kernel⟩,
    ⟨base, 0, 0, .inl rfl⟩,
    ⟨Collector.reset, 5, by decide +kernel⟩,
    ⟨{ Collector.reset with first := 32, caps := [(5, { Capture.none with occur := 1 })] }, 5, by decide +kernel⟩,
    ⟨Collector.reset, 1, by decide +kernel⟩,
    ⟨Collector.reset, 0, by decide +kernel⟩,
    ⟨withCol fun c => { c with grace := some 1, pending := 1, named := [(0, 0, 0)] }, .a, _, rfl, by decide +kernel⟩,
    ⟨withCol fun c => { c with grace := some 1, pending := 16 }, .a, _, rfl, by decide +kernel⟩,
    ⟨(withCol fun c => { c with grace := some 1, pending := 16 }).modTwin .b fun w => { w with state := .detached }, .a, _, rfl, by decide +kernel⟩,
    ⟨base, .a, by decide +kernel⟩,
    ⟨base, _, _, .a, _, by decide +kernel, by decide +kernel, rfl, by decide +kernel, rfl⟩,
    ⟨base.modTwin .b fun w => { w with state := .detached }, .a, by decide +kernel⟩,
    ⟨{ base with rst := { base.rst with detach := some { twin := .b, tick := 9, waited := 64, withdrawn := false, forced := false } } }, _, rfl, by decide +kernel⟩,
    ⟨sampling, 0, 3, _, List.replicate 4096 0, rfl, by decide +kernel⟩,
    ⟨base, 0, 1, by decide +kernel⟩,
    ⟨sampling, 0, 3, by decide +kernel⟩⟩


/-- Link 0 is up. -/
def linked (f : FabLink → FabLink) : State := inFab fun x => { x with links := [(0, f { FabLink.none with up := true })] }

/-- A packet of a kind from device 5, in order. -/
def hdr (kind : Nat) : FabHdr :=
  { link := 0, dst := 0, src := 5, tc := Fin.ofNat 4 (kindClass kind), vc := Fin.ofNat 8 (kindVc kind), poison := false, pgen := 0, pseq := 0
    grant := 0, ggen := 0, dgen := 0, rgen := 0, tag := 0, addr := 0, us := 0, age := 0 }

/-- Device 5 holds grant 0, over object 0. -/
def granted (fence : Bool) : State :=
  inFab fun f => { f with grants := [(0, { GrantEnt.none with holder := 5, enable := true, fence := fence, rights := 7, size64k := 1 })] }

/-- A read of device 5 is outstanding. -/
def reading : FabRead := { dev := 5, tag := 0, queue := 0, slot := 0, unit := 0, engine := 0, offset := 0, len := 4, gen := 0 }

/-- The path to device 5. -/
def path5 (p : FabPath) : State := inFab fun f => { f with paths := [(5, p)], routes := [(5, { Route.none with alts := 0x20 })] }

/-- The grants held of device 5. -/
def held5 (l : List (Nat × HeldGrant)) : State := inFab fun f => { f with have_ := l }

def offer : HeldGrant := { dev := 5, id := 0, ggen := 0, base := 0, size := 0, rights := 0, ctx := 0, fence := false }

theorem witness_DiscoveryAndLinksAct :
  (∃ (s : State), s.discovering = true ∧
      s.fab.phase = 0) ∧
  (∃ (s : State), s.discovering = true ∧
      s.fab.phase = 1 ∧
      s.fab.quiet < 33) ∧
  (∃ (s : State), s.discovering = true ∧
      s.fab.phase = 1 ∧
      33 ≤ s.fab.quiet ∧
      s.fab.best = ownSerial) ∧
  (∃ (s : State) (l : _), s.discovering = true ∧
      s.fab.phase = 1 ∧
      33 ≤ s.fab.quiet ∧
      s.fab.best ≠ ownSerial ∧
      s.electParent = some l) ∧
  (∃ (s : State), s.discovering = true ∧
      s.fab.phase = 2 ∧
      s.fab.isRoot = true ∧
      censusDone s.fab.nodes = true) ∧
  (∃ (s : State), s.discovering = true ∧
      s.fab.phase = 3 ∧
      s.fab.isRoot = true ∧
      s.fab.map ≠ []) ∧
  (∃ (s : State) (link : Fin 24), s.discovering = true ∧
      (s.flink link.val).up = true ∧
      s.fab.phase = 1) ∧
  (∃ (s : State) (l b d : Nat), (pairMin ((ownSerial, 0) :: (s.linksUp.filter fun x => x.2.heard).map fun x => (x.2.best, x.2.dist + 1)) =
        some (b, d)) ∧
      l = s.fab.quiet) ∧
  (∃ (s : State) (link : Fin 24), s.discovering = true ∧
      (s.flink link.val).up = true ∧
      s.fab.phase = 0) ∧
  (∃ (s : State) (link : Fin 24) (x : FabLink), s.discovering = true ∧
      x = s.flink link.val ∧
      x.up = true ∧
      x.probes.length < 16) ∧
  (∃ (s : State), s.discovering = true ∧
      1 ≤ s.fab.phase ∧
      s.fab.phase < 5 ∧
      (s.fab.phase = 1 ∨ s.fab.isRoot = true)) ∧
  (∃ (s : State), s.discovering = true ∧
      s.fab.phase = 5 ∧
      s.fab.isRoot = true) ∧
  (∃ (s : State) (p : Nat), s.discovering = true ∧
      2 ≤ s.fab.phase ∧
      s.fab.isRoot = false ∧
      s.fab.parent = some p) ∧
  (∃ (s : State) (link : Fin 24), s.discovering = true ∧
      s.fab.parent = some link.val ∧
      (s.fab.phase = 2 ∨ s.fab.phase = 3)) ∧
  (∃ (s : State) (link : Fin 24), s.discovering = true ∧
      s.fab.parent = some link.val ∧
      s.fab.phase = 5) ∧
  (∃ (s : State) (link : Fin 24), s.discovering = true ∧
      s.fab.parent = some link.val ∧
      (s.fab.phase = 3 ∨ s.fab.phase = 4) ∧
      s.fab.startIn = none) ∧
  (∃ (s : State) (link : Fin 24) (o : Int) (u : State), s.discovering = true ∧
      s.fab.parent = some link.val ∧
      s.fab.phase = 5 ∧
      u = s.skewed o) ∧
  (∃ (s : State) (o : Int), (s.fab.skewTicks + 1 = 16 → o.natAbs ≤ 50)) ∧
  (∃ (s : State), s.fab.phase = 5 ∧
      s.fab.isRoot = false ∧
      4 ≤ s.fab.missed ∧
      s.linksUp = [] ∧
      s.fab.dist ≠ 1) ∧
  (∃ (s : State), s.fab.phase = 5 ∧
      s.fab.isRoot = false ∧
      4 ≤ s.fab.missed ∧
      s.linksUp = [] ∧
      s.fab.dist = 1 ∧
      (∀ n ∈ s.fab.map, n.1.dist = 1 → ownSerial ≤ n.1.serial)) ∧
  (∃ (s : State), s.fab.joining = true) ∧
  (∃ (s : State) (link : Fin 24), (s.flink link.val).up = true) ∧
  (∃ (s : State) (link : Fin 24), (s.flink link.val).up = true ∧
      (s.flink link.val).reported = false ∧
      16 ≤ (s.flink link.val).upFor) ∧
  (∃ (s : State) (link : Fin 24), (s.flink link.val).up = false ∧
      tst s.clk.gates (3 + link.val) = true) :=
   ⟨⟨base, by decide +kernel⟩,
    ⟨inFab fun f => { f with phase := 1, quiet := 32 }, by decide +kernel⟩,
    ⟨inFab fun f => { f with phase := 1, quiet := 33, best := ownSerial }, by decide +kernel, by decide +kernel, by decide +kernel, rfl⟩,
    ⟨(linked fun x => { x with heard := true, best := ownSerial + 1 }).modFab fun f => { f with phase := 1, quiet := 33, best := ownSerial + 1, dist := 1 }, 0, by decide +kernel, by decide +kernel, by decide +kernel, Nat.succ_ne_self ownSerial, by
      simp only [State.electParent, State.linksUp, linked, inFab, State.modFab, List.filter]
      generalize ownSerial = k
      simp
      exact ⟨0, rfl⟩⟩,
    ⟨inFab fun f => { f with phase := 2, isRoot := true }, by decide +kernel⟩,
    ⟨inFab fun f => { f with phase := 3, isRoot := true, map := [(node 1 0, 0)] }, by decide +kernel⟩,
    ⟨(linked id).modFab fun f => { f with phase := 1 }, 0, by decide +kernel⟩,
    ⟨base, 0, ownSerial, 0, rfl, by decide +kernel⟩,
    ⟨linked id, 0, by decide +kernel⟩,
    ⟨linked fun x => { x with probes := List.replicate 15 3 }, 0, _, by decide +kernel, rfl, by decide +kernel⟩,
    ⟨inFab fun f => { f with phase := 4, isRoot := true }, by decide +kernel⟩,
    ⟨inFab fun f => { f with phase := 5, isRoot := true }, by decide +kernel⟩,
    ⟨inFab fun f => { f with phase := 2, parent := some 3 }, 3, by decide +kernel⟩,
    ⟨inFab fun f => { f with phase := 3, parent := some 0 }, 0, by decide +kernel⟩,
    ⟨inFab fun f => { f with phase := 5, parent := some 0 }, 0, by decide +kernel⟩,
    ⟨inFab fun f => { f with phase := 3, parent := some 0 }, 0, by decide +kernel⟩,
    ⟨inFab fun f => { f with phase := 5, parent := some 0 }, 0, 1001, _, by decide +kernel, by decide +kernel, by decide +kernel, rfl⟩,
    ⟨inFab fun f => { f with skewTicks := 15 }, 50, by decide +kernel⟩,
    ⟨inFab fun f => { f with phase := 5, missed := 4, dist := 2 }, by decide +kernel⟩,
    ⟨inFab fun f => { f with phase := 5, missed := 4, dist := 1 }, by decide +kernel⟩,
    ⟨inFab fun f => { f with joining := true }, by decide +kernel⟩,
    ⟨linked id, 0, by decide +kernel⟩,
    ⟨linked fun x => { x with upFor := 16 }, 0, by decide +kernel⟩,
    ⟨base, 0, by decide +kernel⟩⟩

theorem witness_GlobalOperationsAndGroupsAgree :
  (∃ (s : State), s.canStamp = false) ∧
  (∃ (s u : State) (n : Nat), s.canStamp = true ∧
      s.stamp = (n, u)) ∧
  (∃ (s : State) (g snap : Nat) (rst : Bool) (x : Global), x = { reset := rst, group := g, tick := some s.time.tick, snapTick := max snap (s.time.tick + treeDepth (s.members g).length), confirms := 0, done := false, restored := false, told := false, via := none }) ∧
  (∃ (s u : State) (g t snap n : Nat) (rst : Bool) (x : Global), s.canStamp = true ∧
      s.stamp = (n, u) ∧
      x = { reset := rst, group := g, tick := some t, snapTick := snap, confirms := 0, done := false, restored := false, told := false, via := s.fab.global.bind (·.via) }) ∧
  (∃ (s u : State) (n : Nat) (x : Global), s.canStamp = true ∧
      s.stamp = (n, u) ∧
      s.fab.global = some x ∧
      x.tick = none) ∧
  (∃ (s u : State) (n : Nat), s.canStamp = true ∧
      s.stamp = (n, u)) ∧
  (∃ (s : State) (g : Nat) (x : Group), x = s.group g ∧
      x.members ≠ 0 ∧
      x.rank = 0 ∧
      x.mismatch = false ∧
      x.answered = false ∧
      (∃ y ∈ x.early, y.2 ≠ listDigest x.list)) ∧
  (∃ (s : State) (g : Nat) (x : Group), x = s.group g ∧
      x.members ≠ 0 ∧
      x.rank = 0 ∧
      x.mismatch = false ∧
      x.answered = false ∧
      (∀ y ∈ x.early, y.2 = listDigest x.list) ∧
      (x.matched ++ x.early.map (·.1)).eraseDups.length + 1 = x.members) ∧
  (∃ (s : State) (g t : Nat) (x : Group), x = s.group g ∧
      x.members ≠ 0 ∧
      x.rank = 0 ∧
      x.mismatch = true ∧
      x.answered = false ∧
      x.first = some t ∧
      s.time.bnd < t + 4096) ∧
  (∃ (s u : State) (h : FabHdr) (g n : Nat), s.canStamp = true ∧
      s.stamp = (n, u) ∧
      (u.group g).members ≠ 0 ∧
      (u.group g).list.head? = some h.src) ∧
  (∃ (s : State) (g t : Nat) (x : Group), x = s.group g ∧
      x.first = some t ∧
      x.members ≠ 0 ∧
      x.valid = false ∧
      x.answered = false ∧
      x.mismatch = false ∧
      t + 4096 ≤ s.time.bnd) :=
   ⟨⟨{ base with time := { base.time with seq := 65535 } }, by decide +kernel⟩,
    ⟨base, _, _, by decide +kernel, rfl⟩,
    ⟨base, 0, 0, false, _, rfl⟩,
    ⟨base, _, 0, 0, 0, _, false, _, by decide +kernel, rfl, rfl⟩,
    ⟨inFab fun f => { f with global := some { reset := false, group := 0, tick := none, snapTick := 0, confirms := 0, done := false, restored := false, told := false, via := none } }, _, _, _, by decide +kernel, rfl, rfl, by decide +kernel⟩,
    ⟨base, _, _, by decide +kernel, rfl⟩,
    ⟨inFab fun f => { f with groups := [(1, { Group.none with members := 2, list := [0, 5], early := [(5, [])] })] }, 1, _, rfl, by decide +kernel, by decide +kernel, by decide +kernel, by decide +kernel, ⟨(5, []), .head _, by decide +kernel⟩⟩,
    ⟨inFab fun f => { f with groups := [(1, { Group.none with members := 2, list := [0, 5], early := [(5, listDigest [0, 5])] })] }, 1, _, rfl, by decide +kernel⟩,
    ⟨inFab fun f => { f with groups := [(1, { Group.none with members := 2, mismatch := true, first := some 100 })] }, 1, 100, _, rfl, by decide +kernel⟩,
    ⟨inFab fun f => { f with groups := [(1, { Group.none with members := 2, list := [5, 0], early := [] })] }, _, hdr K.group, 1, _, by decide +kernel, rfl, by decide +kernel⟩,
    ⟨{ (inFab fun f => { f with groups := [(1, { Group.none with members := 2, first := some 0 })] }) with time := { base.time with bnd := 4096 } }, 1, 0, _, rfl, by decide +kernel⟩⟩

theorem witness_PacketsAreChecked :
  (∃ (c : Instr) (h : FabHdr) (k : Nat), packetRow c = some (h, k) ∧
      (h.tc.val ≠ kindClass k ∨ h.vc.val ≠ kindVc k)) ∧
  (∃ (c : Instr) (s : State) (h : FabHdr) (k : Nat), packetRow c = some (h, k) ∧
      h.tc.val = kindClass k ∧
      h.vc.val = kindVc k ∧
      h.dst ≠ s.fab.device) ∧
  (∃ (c : Instr) (s : State) (h : FabHdr) (k : Nat), packetRow c = some (h, k) ∧
      Addressed s h k ∧
      h.pgen ≠ (s.rx h.src).gen) ∧
  (∃ (c : Instr) (s : State) (h : FabHdr) (k : Nat), packetRow c = some (h, k) ∧
      Addressed s h k ∧
      h.pgen = (s.rx h.src).gen ∧
      h.dgen ≠ s.gen 52) ∧
  (∃ (c : Instr) (s : State) (h : FabHdr) (k : Nat), packetRow c = some (h, k) ∧
      Addressed s h k ∧
      h.pgen = (s.rx h.src).gen ∧
      h.dgen = s.gen 52 ∧
      h.pseq ≠ (s.rx h.src).expect.getD h.tc.val 0) ∧
  (∃ (c : Instr) (s : State) (h : FabHdr) (k : Nat), packetRow c = some (h, k) ∧
      InOrder s h k ∧
      fixedKind k = true ∧
      h.age < (s.route h.src).delay) ∧
  (∃ (s : State) (h : FabHdr) (n : Nat), Addressed s h K.pathfence ∧
      n % 256 = (s.rx h.src).gen) ∧
  (∃ (s : State) (h : FabHdr) (n : Nat), Addressed s h K.pathfence ∧
      n % 256 ≠ (s.rx h.src).gen ∧
      h.pgen ≠ (s.rx h.src).gen) ∧
  (∃ (s : State) (us t : Nat) (c : Instr) (h : FabHdr) (k : Nat) (f : State → State), (s.reach us).fab.held = [(t, c)] ∧
      t ≤ ((s.reach us).time.us + us) * 1000 ∧
      fabParts c = some (h, k, f) ∧
      (∀ h g t r m, c ≠ .collCtl h g t r m)) ∧
  (∃ (s : State) (us : Nat), (∀ x ∈ (s.reach us).fab.held, ((s.reach us).time.us + us) * 1000 < x.1)) :=
   ⟨⟨.grantRevoke { hdr K.grantRevoke with vc := 1 }, { hdr K.grantRevoke with vc := 1 }, K.grantRevoke, rfl, by decide +kernel⟩,
    ⟨.grantRevoke { hdr K.grantRevoke with dst := 9 }, base, { hdr K.grantRevoke with dst := 9 }, K.grantRevoke, rfl, by decide +kernel⟩,
    ⟨.grantRevoke { hdr K.grantRevoke with pgen := 1 }, base, { hdr K.grantRevoke with pgen := 1 }, K.grantRevoke, rfl, by unfold Addressed; decide +kernel, by decide +kernel⟩,
    ⟨.grantRevoke { hdr K.grantRevoke with dgen := 1 }, base, { hdr K.grantRevoke with dgen := 1 }, K.grantRevoke, rfl, by unfold Addressed; decide +kernel, by decide +kernel⟩,
    ⟨.grantRevoke { hdr K.grantRevoke with pseq := 1 }, base, { hdr K.grantRevoke with pseq := 1 }, K.grantRevoke, rfl, by unfold Addressed; decide +kernel, by decide +kernel⟩,
    ⟨.grantRevoke (hdr K.grantRevoke), (inFab fun f => { f with routes := [(5, { Route.none with delay := 10 })] }), (hdr K.grantRevoke), K.grantRevoke, rfl, by unfold InOrder Addressed; decide +kernel, by decide +kernel⟩,
    ⟨base, hdr K.pathfence, 0, by unfold Addressed; decide +kernel, by decide +kernel⟩,
    ⟨base, { hdr K.pathfence with pgen := 1 }, 1, by unfold Addressed; decide +kernel, by decide +kernel⟩,
    ⟨inFab fun f => { f with held := [(100000, .grantRevoke (hdr K.grantRevoke))] }, 100, 100000, _, hdr K.grantRevoke, _, _, rfl, by decide +kernel, rfl, fun _ _ _ _ _ h => nomatch h⟩,
    ⟨inFab fun f => { f with held := [(100001, .grantRevoke (hdr K.grantRevoke))] }, 100, by decide +kernel⟩⟩

theorem witness_DeliveredPacketsAct :
  (∃ (s v : State) (h : FabHdr) (d : List Byte) (m : Nat), Delivered s h K.write v ∧
      v.grantOk h d.length 1 = true ∧
      v.inTheWay [] [(h.addr, d.length)] = [] ∧
      Quiet (v.setMem (v.mem.storeP h.addr (marked d m))) [(h.addr, d.length)]) ∧
  (∃ (s v : State) (h : FabHdr) (d : List Byte), Delivered s h K.write v ∧
      v.grantOk h d.length 1 = false) ∧
  (∃ (s v : State) (h : FabHdr) (n : Nat), Delivered s h K.read v ∧
      v.grantOk h n 0 = true ∧
      v.inTheWay [(h.addr, n)] [] = []) ∧
  (∃ (s v : State) (h : FabHdr) (n : Nat), Delivered s h K.read v ∧
      v.grantOk h n 0 = false) ∧
  (∃ (s v : State) (h : FabHdr) (r : FabRead), Delivered s h K.rdata v ∧
      v.readOf h = some r ∧
      (v.queue r.queue).gen ≠ h.rgen) ∧
  (∃ (s v : State) (h : FabHdr) (d : List Byte) (r : FabRead), Delivered s h K.rdata v ∧
      v.readOf h = some r ∧
      (v.queue r.queue).gen = h.rgen ∧
      d.length = r.len ∧
      v.canStamp = true) ∧
  (∃ (s v : State) (h : FabHdr) (r : FabRead), Delivered s h K.nak v ∧
      v.readOf h = some r ∧
      (v.queue r.queue).gen = h.rgen ∧
      v.canStamp = true) ∧
  (∃ (s v u : State) (h : FabHdr) (w : FabWrite), Delivered s h K.nak v ∧
      v.readOf h = none ∧
      ((v.fab.writes.reverse.find? fun w => w.dev = h.src && w.tag = h.tag) = some w) ∧
      (v.queue w.queue).gen = h.rgen ∧
      v.canStamp = true ∧
      u = v.stamp.2) ∧
  (∃ (s : State) (r : CmdRef) (c : Cmd), (s.queue r.queue).cmdAt r.slot = some c ∧
      c.result = none) ∧
  (∃ (s : State) (r : CmdRef) (c : Cmd), (s.queue r.queue).cmdAt r.slot = some c ∧
      c.result = some E.ok ∧
      isEngine (hOpcode c.bytes) = true) ∧
  (∃ (s v : State) (h : FabHdr) (valid : Nat) (upTo : List Nat) (l : List FabSent), Delivered s h K.ack v ∧
      (l = (v.path h.src).unacked.filter (fun y => !y.covered valid upTo)) ∧
      ((v.path h.src).unacked.any (fun y => y.covered valid upTo) = true)) ∧
  (∃ (s v : State) (h : FabHdr) (valid : Nat) (upTo : List Nat) (l : List FabSent), Delivered s h K.ack v ∧
      (l = (v.path h.src).unacked.filter (fun y => !y.covered valid upTo)) ∧
      ((v.path h.src).unacked.any (fun y => y.covered valid upTo) = false)) ∧
  (∃ (s v : State) (h : FabHdr), Delivered s h K.pfack v ∧
      (v.path h.src).fence = none) ∧
  (∃ (s v : State) (h : FabHdr) (l : Nat) (a0 a1 a2 a3 : Nat) (keep : List FabSent), Delivered s h K.pfack v ∧
      (v.path h.src).fence.isSome = true ∧
      (v.path h.src).waiting = [] ∧
      (v.route h.src).link = some l ∧
      (keep = [0, 1, 2, 3].flatMap (fun k => renumber (v.path h.src).unacked k ([a0, a1, a2, a3].getD k 0) ((v.path h.src).next.getD k 0)))) ∧
  (∃ (s : State) (d t : Nat), (s.path d).timer = some t ∧
      s.time.bnd < t) ∧
  (∃ (s : State) (d t : Nat), (s.path d).timer = some t ∧
      t ≤ s.time.bnd ∧
      (s.path d).changes < 4) ∧
  (∃ (s : State) (d t : Nat), (s.path d).timer = some t ∧
      t ≤ s.time.bnd ∧
      4 ≤ (s.path d).changes ∧
      s.canStamp = true) ∧
  (∃ (s v u : State) (h : FabHdr), Delivered s h K.fenceUpd v ∧
      v.canStamp = true ∧
      u = v.stamp.2 ∧
      h.addr = 1 ∧
      (u.grant h.grant).enable = true ∧
      (u.grant h.grant).fence = true ∧
      (u.grant h.grant).holder = h.src) ∧
  (∃ (s v u : State) (h : FabHdr), Delivered s h K.fenceUpd v ∧
      v.canStamp = true ∧
      u = v.stamp.2 ∧
      h.addr ≠ 1) ∧
  (∃ (f : Fence), f.state ≠ .broken) ∧
  (∃ (f : Fence), f.state = .broken) ∧
  (∃ (s v u : State) (h : FabHdr) (cl : Nat) (l : List (Nat × Nat)), Delivered s h K.inval v ∧
      v.canStamp = true ∧
      u = v.stamp.2 ∧
      (u.liveDomains cl = 0 ∨ l = [])) ∧
  (∃ (s v u : State) (h : FabHdr) (cl : Nat) (l : List (Nat × Nat)), Delivered s h K.inval v ∧
      v.canStamp = true ∧
      u = v.stamp.2 ∧
      u.liveDomains cl ≠ 0 ∧
      l ≠ []) ∧
  (∃ (s v u : State) (h : FabHdr) (r : CmdRef) (cl : Nat), Delivered s h K.invalDone v ∧
      ((v.fab.invals.find? fun x => x.1 = h.src && x.2.1 = h.tag) = some (h.src, h.tag, r, cl)) ∧
      (v.queue r.queue).gen = h.rgen ∧
      v.canStamp = true ∧
      u = v.stamp.2) ∧
  (∃ (s : State) (r : CmdRef) (n : Fin 48) (gen : Nat) (c : Cmd), gen = s.gen n.val ∧
      r.queue < 16384 ∧
      (s.queue r.queue).cmdAt r.slot = some c) ∧
  (∃ (c : Cmd), hOpcode c.bytes = Op.invalidate ∧
      c.result = none) ∧
  (∃ (s : State) (n : Fin 48) (gen : Nat), gen ≠ s.gen n.val) ∧
  (∃ (s : State) (r : CmdRef) (n : Fin 48) (gen src g : Nat) (left : Tbl Nat), gen = s.gen n.val ∧
      r.queue = 16384 + src ∧
      ((s.fab.served.find? fun x => x.1 = src && x.2.1 = r.slot) = some (src, r.slot, g, left))) ∧
  (∃ (s v u : State) (h : FabHdr) (b n r ctx : Nat) (f : Bool) (g : HeldGrant) (i x : _), Delivered s h K.grantOffer v ∧
      v.canStamp = true ∧
      u = v.stamp.2 ∧
      g = { dev := h.src, id := h.grant, ggen := h.ggen, base := b, size := n, rights := r, ctx := ctx, fence := f } ∧
      u.heldGrant h.src h.grant = some (i, x)) ∧
  (∃ (s v u : State) (h : FabHdr) (b n r ctx : Nat) (f : Bool) (g : HeldGrant) (i : _), Delivered s h K.grantOffer v ∧
      v.canStamp = true ∧
      u = v.stamp.2 ∧
      g = { dev := h.src, id := h.grant, ggen := h.ggen, base := b, size := n, rights := r, ctx := ctx, fence := f } ∧
      u.heldGrant h.src h.grant = none ∧
      u.heldPlace = some i) ∧
  (∃ (s v u : State) (h : FabHdr) (b n r ctx : Nat) (f : Bool) (g : HeldGrant), Delivered s h K.grantOffer v ∧
      v.canStamp = true ∧
      u = v.stamp.2 ∧
      g = { dev := h.src, id := h.grant, ggen := h.ggen, base := b, size := n, rights := r, ctx := ctx, fence := f } ∧
      u.heldGrant h.src h.grant = none ∧
      u.heldPlace = none) ∧
  (∃ (s v : State) (h : FabHdr), Delivered s h K.grantRevoke v ∧
      v.canStamp = true) ∧
  (∃ (s v : State) (h : FabHdr), Delivered s h K.group v) ∧
  (∃ (s v : State) (h : FabHdr), Delivered s h K.group v) ∧
  (∃ (s v u : State) (h : FabHdr) (g t : Nat) (c : _), Delivered s h K.collData v ∧
      v.canStamp = true ∧
      u = v.stamp.2 ∧
      ((u.fab.colls.find? fun c => c.group = g && c.tag = t) = some c)) ∧
  (∃ (s v u : State) (h : FabHdr) (g t : Nat), Delivered s h K.collData v ∧
      v.canStamp = true ∧
      u = v.stamp.2 ∧
      ((u.fab.colls.find? fun c => c.group = g && c.tag = t) = none)) ∧
  (∃ (s v u : State) (h : FabHdr) (g t : Nat), Delivered s h K.collCtl v ∧
      v.canStamp = true ∧
      u = v.stamp.2 ∧
      ((u.fab.colls.find? fun c => c.group = g && c.tag = t) = none)) ∧
  (∃ (s v u : State) (h : FabHdr) (g t : Nat) (m : CollMsg) (c cmd : _), Delivered s h K.collCtl v ∧
      v.canStamp = true ∧
      u = v.stamp.2 ∧
      ((u.fab.colls.find? fun c => c.group = g && c.tag = t) = some c) ∧
      (u.queue c.ref.queue).cmdAt c.ref.slot = some cmd ∧
      m = .arrival) ∧
  (∃ (s : State), (∀ x ∈ s.fab.invRest, x.ranges.length = 1)) :=
   ⟨⟨granted false, _, hdr K.write, [1, 2], 0, delivered_of (by decide +kernel), by decide +kernel, by decide +kernel, by unfold Quiet; decide +kernel⟩,
    ⟨base, _, hdr K.write, [1, 2], delivered_of (by decide +kernel), by decide +kernel⟩,
    ⟨granted false, _, hdr K.read, 64, delivered_of (by decide +kernel), by decide +kernel⟩,
    ⟨base, _, hdr K.read, 64, delivered_of (by decide +kernel), by decide +kernel⟩,
    ⟨(inFab fun f => { f with reads := [reading] }), _, { hdr K.rdata with rgen := 1 }, reading, delivered_of (by decide +kernel), by decide +kernel⟩,
    ⟨(inFab fun f => { f with reads := [reading] }), _, hdr K.rdata, [1, 2, 3, 4], reading, delivered_of (by decide +kernel), by decide +kernel⟩,
    ⟨(inFab fun f => { f with reads := [reading] }), _, hdr K.nak, reading, delivered_of (by decide +kernel), by decide +kernel⟩,
    ⟨inFab fun f => { f with writes := [{ dev := 5, tag := 0, queue := 0, slot := 0, unit := 0 }] }, _, _, hdr K.nak, _, delivered_of (by decide +kernel), by decide +kernel, rfl, by decide +kernel, by decide +kernel, rfl⟩,
    ⟨holding base (cmdOf Op.nop 0 []), first, _, rfl, by decide +kernel⟩,
    ⟨holding base { cmdOf Op.copy 0 [0, 0, 4096, 0] with result := some 0 }, first, _, rfl, by decide +kernel⟩,
    ⟨path5 { FabPath.none with unacked := [{ cls := 0, pseq := 0, pkt := plainPkt K.inval [] }] }, _, hdr K.ack, 1, [0], _, delivered_of (by decide +kernel), rfl, by decide +kernel⟩,
    ⟨path5 { FabPath.none with unacked := [{ cls := 0, pseq := 0, pkt := plainPkt K.inval [] }] }, _, hdr K.ack, 0, [0], _, delivered_of (by decide +kernel), rfl, by decide +kernel⟩,
    ⟨base, _, hdr K.pfack, delivered_of (by decide +kernel), by decide +kernel⟩,
    ⟨path5 { FabPath.none with fence := some 0 }, _, hdr K.pfack, 0, 0, 0, 0, 0, _, delivered_of (by decide +kernel), by decide +kernel, by decide +kernel, by decide +kernel, rfl⟩,
    ⟨path5 { FabPath.none with timer := some 101 }, 5, 101, by decide +kernel⟩,
    ⟨path5 { FabPath.none with timer := some 100 }, 5, 100, by decide +kernel⟩,
    ⟨path5 { FabPath.none with timer := some 100, changes := 4 }, 5, 100, by decide +kernel⟩,
    ⟨granted true, _, _, { hdr K.fenceUpd with addr := 1 }, delivered_of (by decide +kernel), by decide +kernel, rfl, by decide +kernel⟩,
    ⟨base, _, _, hdr K.fenceUpd, delivered_of (by decide +kernel), by decide +kernel, rfl, by decide +kernel⟩,
    ⟨{ Fence.none with live := true }, by decide +kernel⟩,
    ⟨{ Fence.none with state := .broken }, by decide +kernel⟩,
    ⟨base, _, _, hdr K.inval, 0, [], delivered_of (by decide +kernel), by decide +kernel, rfl, by decide +kernel⟩,
    ⟨base, _, _, hdr K.inval, 1, [(0, 4096)], delivered_of (by decide +kernel), by decide +kernel, rfl, by decide +kernel⟩,
    ⟨inFab fun f => { f with invals := [(5, 0, first, 0)] }, _, _, hdr K.invalDone, first, 0, delivered_of (by decide +kernel), by decide +kernel, by decide +kernel, by decide +kernel, rfl⟩,
    ⟨holding base (cmdOf Op.copy 0 []), first, 0, _, _, rfl, by decide +kernel, rfl⟩,
    ⟨cmdOf Op.invalidate 0 [], by decide +kernel⟩,
    ⟨base, 0, 1, by decide +kernel⟩,
    ⟨inFab fun f => { f with served := [(5, 0, 0, [(0, 1)])] }, ⟨16389, 0⟩, 0, 0, 5, 0, [(0, 1)], by decide +kernel⟩,
    ⟨held5 [(0, offer)], _, _, hdr K.grantOffer, 0, 4096, 1, 0, false, _, 0, offer, delivered_of (by decide +kernel), by decide +kernel, rfl, rfl, by decide +kernel⟩,
    ⟨base, _, _, hdr K.grantOffer, 0, 4096, 1, 0, false, _, 0, delivered_of (by decide +kernel), by decide +kernel, rfl, rfl, by decide +kernel⟩,
    ⟨held5 ((List.range 65536).map fun i => (i, { offer with dev := 6 })), _, _, hdr K.grantOffer, 0, 4096, 1, 0, false, _, delivered_of (by decide +kernel), by decide +kernel, rfl, rfl, by decide +kernel⟩,
    ⟨base, _, hdr K.grantRevoke, delivered_of (by decide +kernel), by decide +kernel⟩,
    ⟨base, _, hdr K.group, delivered_of (by decide +kernel)⟩,
    ⟨base, _, hdr K.group, delivered_of (by decide +kernel)⟩,
    ⟨inBarrier, _, _, hdr K.collData, 0, 0, _, delivered_of (by decide +kernel), by decide +kernel, rfl, rfl⟩,
    ⟨base, _, _, hdr K.collData, 0, 0, delivered_of (by decide +kernel), by decide +kernel, rfl, by decide +kernel⟩,
    ⟨base, _, _, hdr K.collCtl, 0, 0, delivered_of (by decide +kernel), by decide +kernel, rfl, by decide +kernel⟩,
    ⟨inBarrier, _, _, hdr K.collCtl, 0, 0, .arrival, _, _, delivered_of (by decide +kernel), by decide +kernel, rfl, rfl, rfl, by decide +kernel⟩,
    ⟨inFab fun f => { f with invRest := [⟨⟨16389, 0⟩, none, 1, [(0, 4096)]⟩] }, by decide +kernel⟩⟩


/-- Core 0's line 0 of this device's windows, in a state. -/
def line0 (st : LineState) (hold owed : Bool) : AgentLine :=
  { AgentLine.none (.core 0) 0 0 with state := st, hold := hold, owed := owed }

def lined (st : LineState) (hold owed : Bool) : State := { base with coh := { base.coh with lines := [line0 st hold owed] } }

/-- Object 1 is a coherent window of which cores, hosts and peers may cache lines; its first line has the given entry. -/
def homed (attr : Nat) (e : DirEntry) : State :=
  { base with
    objs := base.objs ++ [(1, { Obj.none with state := .live, base := 0x100000, size64k := 64, attr := 2 ^ 15 + attr })]
    coh := { base.coh with dir := [(0x2000, e)] } }

/-- The host may cache lines of the window, through decoder 0 of port 0. -/
def hosted (e : DirEntry) : State :=
  (homed (2 ^ 12 + 2 ^ 13) e).modPort .a fun x =>
    { x with cxl := true, regions := [(254, { enabled := true, d0 := 0, d1 := 1, d2 := 0, d3 := 0x3300000000, next := none })] }

/-- An answer is awaited of an agent. -/
def await (agent : Nat) (k : AwaitKind) : Await := { agent := agent, kind := k, req := 3, trans := 0, sentAt := 95, halves := 0 }


/-- The agents' clauses ask for a line of any state with nothing waiting at it, held or not, on the die or through a packet. -/
theorem witness_CoherentAgentsAct (st : LineState) (hold owed : Bool) :
    (∃ (s : State) (a : Agent) (ctx home line : Nat) (x : AgentLine), s.banked a ctx = true ∧ x = s.aline a home line ∧ a ≠ .cache ∧
      x.state = st ∧ x.hold = hold ∧ x.owed = owed ∧ x.gotStale = false ∧ x.stores = [] ∧ x.reads = 0 ∧
      Comes s none K.cohReq s ∧ Comes s none K.cohRsp s) ∧
    (∃ (s : State) (ctx : Nat), s.banked .cache ctx = false) ∧
    (∃ (s : State) (home : Nat), ∃ x ∈ s.coh.lines, x.agent = .cache ∧ x.home = home ∧ x.unanswered = true ∧ x.since + 5 ≤ s.time.bnd) ∧
    (∃ (s : State) (home : Nat), ∀ x ∈ s.coh.lines, x.agent = .cache → x.home = home → x.unanswered = true → s.time.bnd < x.since + 5) ∧
    (∃ (s v : State) (h : FabHdr), Comes s (some h) K.cohReq v) ∧ (∃ (s v : State) (h : FabHdr), Comes s (some h) K.cohRsp v) :=
  ⟨⟨lined st hold owed, .core 0, 0, 0, 0, _, rfl, rfl, by decide, rfl, rfl, rfl, rfl, rfl, rfl, rfl, rfl⟩, ⟨base, 0, by decide +kernel⟩,
    ⟨{ base with coh := { base.coh with lines := [{ AgentLine.none .cache 5 0 with state := .isD }] } }, 5, _, .head _, by decide +kernel⟩,
    ⟨base, 5, by decide +kernel⟩, ⟨base, _, hdr K.cohReq, delivered_of (by decide +kernel)⟩, ⟨base, _, hdr K.cohRsp, delivered_of (by decide +kernel)⟩⟩

theorem witness_CoherenceHomesAct :
  (∃ (s v : State) (via : Option FabHdr) (src l : Nat) (d : List Byte) (m : Fin 16) (c : Instr) (op : CohOp), Comes s via K.cohReq v ∧
      (c, op) ∈ [(.rds via src l, CohOp.rds), (.rdx via src l, .rdx), (.upg via src l, .upg), (.puts via src l, .puts),
        (.pute via src l, .pute), (.puto via src l d m, .puto), (.putm via src l d m, .putm)] ∧
      v.window l = none) ∧
  (∃ (s v : State) (via : Option FabHdr) (src l : Nat) (d : List Byte) (m : Fin 16) (c : Instr) (op : CohOp) (o h : _), Comes s via K.cohReq v ∧
      (c, op) ∈ [(.rds via src l, CohOp.rds), (.rdx via src l, .rdx), (.upg via src l, .upg), (.puts via src l, .puts),
        (.pute via src l, .pute), (.puto via src l d m, .puto), (.putm via src l d m, .putm)] ∧
      v.window l = some o ∧
      via = some h ∧
      v.grantOk h 128 (cohRight op) = false) ∧
  (∃ (s v : State) (via : Option FabHdr) (src l : Nat) (d : List Byte) (m : Fin 16) (c : Instr) (op : CohOp) (o : _), Comes s via K.cohReq v ∧
      (c, op) ∈ [(.rds via src l, CohOp.rds), (.rdx via src l, .rdx), (.upg via src l, .upg), (.puts via src l, .puts),
        (.pute via src l, .pute), (.puto via src l d m, .puto), (.putm via src l d m, .putm)] ∧
      v.window l = some o ∧
      (∀ h, via = some h → v.grantOk h 128 (cohRight op) = true) ∧
      v.admits o src = false) ∧
  (∃ (s v u : State) (via : Option FabHdr) (src l : Nat) (o : Obj), Comes s via K.cohReq v ∧
      v.window l = some o ∧
      v.admits o src = true ∧
      v.stillDead src = false ∧
      u = v.reviveAgent src ∧
      (∀ h, via = some h → v.grantOk h 128 0 = true)) ∧
  (∃ (s v u : State) (via : Option FabHdr) (src l : Nat) (o : Obj), Comes s via K.cohReq v ∧
      v.window l = some o ∧
      v.admits o src = true ∧
      v.stillDead src = false ∧
      u = v.reviveAgent src ∧
      (∀ h, via = some h → v.grantOk h 128 1 = true)) ∧
  (∃ (s v : State) (via : Option FabHdr) (src l : Nat) (o : Obj), Comes s via K.cohReq v ∧
      v.window l = some o ∧
      v.admits o src = true ∧
      v.stillDead src = true ∧
      (∀ h, via = some h → v.grantOk h 128 0 = true ∧ v.grantOk h 128 1 = true)) ∧
  (∃ (s : State) (l : Nat) (e : DirEntry), e = s.dirE l ∧
      (e.blocked.isSome = true ∨ e.queue ≠ [])) ∧
  (∃ (s : State) (l r : Nat) (o : Obj) (op : CohOp) (e : DirEntry), e = s.dirE l ∧
      e.blocked = none ∧
      e.queue = [] ∧
      s.hostFirst o e op r = true) ∧
  (∃ (s : State) (l r : Nat) (o : Obj) (op : CohOp) (e : DirEntry), e = s.dirE l ∧
      e.blocked = none ∧
      e.queue = [] ∧
      s.hostFirst o e op r = false ∧
      e.state ≠ .i) ∧
  (∃ (s : State) (l r : Nat) (o : Obj) (op : CohOp) (e : DirEntry), e = s.dirE l ∧
      e.blocked = none ∧
      e.queue = [] ∧
      s.hostFirst o e op r = false ∧
      e.state = .i ∧
      (s.setEntries o.owner l).length < 16) ∧
  (∃ (s w : State) (l r : Nat) (e : DirEntry), e = s.dirE l ∧
      w = s.setDir l (e.predict s.coh.predOn .rds r) ∧
      r ∉ e.ptrs ∧
      e.state = .i) ∧
  (∃ (s w : State) (l r : Nat) (e : DirEntry), e = s.dirE l ∧
      w = s.setDir l (e.predict s.coh.predOn .rds r) ∧
      r ∉ e.ptrs ∧
      e.state = .s) ∧
  (∃ (s w : State) (l r : Nat) (e : DirEntry), e = s.dirE l ∧
      w = s.setDir l (e.predict s.coh.predOn .rdx r) ∧
      e.owner ≠ some r) ∧
  (∃ (s : State) (l r : Nat) (o : Obj), (s.dirE l).owner = none ∧
      s.others o (s.dirE l) r = []) ∧
  (∃ (s : State) (l r : Nat) (o : Obj), (s.dirE l).owner = none ∧
      s.others o (s.dirE l) r ≠ []) ∧
  (∃ (s w : State) (l r : Nat) (e : DirEntry), e = s.dirE l ∧
      w = s.setDir l (e.predict s.coh.predOn .upg r) ∧
      ((e.state = .s ∧ e.holds r = true) ∨ (e.state = .o ∧ e.owner = some r))) ∧
  (∃ (s : State) (l src : Nat), ((s.dirE l).holds src = false ∨ (∃ a ∈ (s.dirE l).awaits, a.agent = src))) ∧
  (∃ (s : State) (l src : Nat) (op : CohOp), (s.dirE l).holds src = true ∧
      (∀ a ∈ (s.dirE l).awaits, a.agent ≠ src) ∧
      (op = .putm ∨ op = .puto)) ∧
  (∃ (s : State) (l src : Nat) (op : CohOp), (s.dirE l).holds src = true ∧
      (∀ a ∈ (s.dirE l).awaits, a.agent ≠ src) ∧
      (op = .puts ∨ op = .pute)) ∧
  (∃ (s v u : State) (via : Option FabHdr) (src l : Nat) (late : Bool), Comes s via K.cohRsp v ∧
      u = v.countLate late ∧
      (∀ a ∈ (u.dirE l).awaits, a.agent ≠ src)) ∧
  (∃ (s v u : State) (via : Option FabHdr) (src l : Nat) (late : Bool) (a : _), Comes s via K.cohRsp v ∧
      u = v.countLate late ∧
      (((u.dirE l).awaited fun a => a.agent = src && a.kind = .inv) = some a) ∧
      (u.dirE l).blocked = none) ∧
  (∃ (s v u : State) (via : Option FabHdr) (src l : Nat) (late : Bool) (a : _), Comes s via K.cohRsp v ∧
      u = v.countLate late ∧
      (((u.dirE l).awaited fun a => a.agent = src && (a.kind = .snpCur || a.kind = .snpRecall)) = some a)) ∧
  (∃ (s v u : State) (via : Option FabHdr) (l : Nat) (late : Bool) (r : _), Comes s via K.cohRsp v ∧
      u = v.countLate late ∧
      (∀ a ∈ (u.dirE l).awaits, a.req ≠ r)) ∧
  (∃ (s v u : State) (via : Option FabHdr) (l : Nat) (late : Bool) (r a o : _), Comes s via K.cohRsp v ∧
      u = v.countLate late ∧
      (((u.dirE l).awaited fun a => a.req = r && (a.kind = .fwds || a.kind = .fwdx)) = some a) ∧
      u.window l = some o ∧
      aOwner o.attr = false) ∧
  (∃ (s v u : State) (via : Option FabHdr) (l : Nat) (late : Bool) (r a o : _), Comes s via K.cohRsp v ∧
      u = v.countLate late ∧
      (((u.dirE l).awaited fun a => a.req = r && (a.kind = .fwds || a.kind = .fwdx)) = some a) ∧
      u.window l = some o ∧
      aOwner o.attr = true) ∧
  (∃ (s v u : State) (via : Option FabHdr) (src l : Nat) (late : Bool) (a : _), Comes s via K.cohRsp v ∧
      u = v.countLate late ∧
      (((u.dirE l).awaited fun a => a.agent = src && a.kind ≠ .inv) = some a) ∧
      a.kind = .snpRecall) ∧
  (∃ (s : State) (a : Nat) (n u : _), (∃ e ∈ s.coh.dir, ∃ w ∈ e.2.awaits, w.agent = a ∧ w.sentAt + 5 ≤ s.time.bnd) ∧
      a ∉ s.coh.dead ∧
      (isHost a = false ∨ (s.port (Side.ofBool (a % 2 = 1))).holding = false) ∧
      s.canStamp = true ∧
      s.stamp = (n, u)) ∧
  (∃ (s : State) (a : Nat), (∃ e ∈ s.coh.dir, ∃ w ∈ e.2.awaits, w.agent = a ∧ w.sentAt + 5 ≤ s.time.bnd) ∧
      a ∉ s.coh.dead ∧
      (isHost a = false ∨ (s.port (Side.ofBool (a % 2 = 1))).holding = false) ∧
      s.canStamp = false) ∧
  (∃ (s : State) (a : Nat), (∀ e ∈ s.coh.dir, ∀ w ∈ e.2.awaits, w.agent = a → s.time.bnd < w.sentAt + 5)) ∧
  (∃ (s w : State) (l : Nat), w = (s.startBlock l).settleLine l ∧
      w.readyGroup l = none) ∧
  (∃ (s w : State) (l : Nat) (g lines x y : _), w = (s.startBlock l).settleLine l ∧
      w.readyGroup l = some (g, lines, x) ∧
      (y = ((w.modCoh fun c => { c with serving := lines, groups := c.groups.filter fun x => x.1 ≠ g }).serveWaiting x).releaseGroup g lines)) ∧
  (∃ (s : State) (l : Nat) (o : Obj) (b : BlockOp) (t : List LineReq), (s.dirE l).blocked = none ∧
      (s.dirE l).awaits = [] ∧
      (s.dirE l).queue = .block b :: t ∧
      s.window l = some o ∧
      b.allocates = true ∧ (s.dirE l).state = .i ∧ 16 ≤ (s.setEntries o.owner l).length) ∧
  (∃ (s : State) (l : Nat) (o : Obj) (b : BlockOp) (t : List LineReq), (s.dirE l).blocked = none ∧
      (s.dirE l).awaits = [] ∧
      (s.dirE l).queue = .block b :: t ∧
      s.window l = some o ∧
      (b.allocates = false ∨ (s.dirE l).state ≠ .i ∨ (s.setEntries o.owner l).length < 16)) ∧
  (∃ (s : State) (p : Side) (dec : Fin 2) (addr : Nat), (s.port p).up = true ∧
      (s.port p).cxl = true ∧
      s.hdmLine p dec.val addr = none) ∧
  (∃ (s u : State) (p : Side) (dec : Fin 2) (addr a l : Nat) (half : Bool) (o : Obj), (s.port p).up = true ∧
      (s.port p).cxl = true ∧
      s.hdmLine p dec.val addr = some a ∧
      l = a - a % 128 ∧
      half = decide (64 ≤ a % 128) ∧
      s.window l = some o ∧
      s.admits o (ptrHost p) = true ∧
      s.stillDead (ptrHost p) = false ∧
      (u = ((s.reviveAgent (ptrHost p)).modDir l fun e => e.reached (ptrHost p))) ∧
      (∀ w ∈ (u.dirE l).awaits, w.agent ≠ ptrHost p)) ∧
  (∃ (s u : State) (p : Side) (dec : Fin 2) (addr a l : Nat) (half : Bool) (o : Obj), (s.port p).up = true ∧
      (s.port p).cxl = true ∧
      s.hdmLine p dec.val addr = some a ∧
      l = a - a % 128 ∧
      half = decide (64 ≤ a % 128) ∧
      s.window l = some o ∧
      s.admits o (ptrHost p) = true ∧
      s.stillDead (ptrHost p) = false ∧
      (u = ((s.reviveAgent (ptrHost p)).modDir l fun e => e.reached (ptrHost p))) ∧
      (∃ w ∈ (u.dirE l).awaits, w.agent = ptrHost p)) ∧
  (∃ (s u : State) (p : Side) (dec : Fin 2) (addr a l : Nat) (half : Bool) (o : Obj), (s.port p).up = true ∧
      (s.port p).cxl = true ∧
      s.hdmLine p dec.val addr = some a ∧
      l = a - a % 128 ∧
      half = decide (64 ≤ a % 128) ∧
      s.window l = some o ∧
      s.admits o (ptrHost p) = true ∧
      s.stillDead (ptrHost p) = false ∧
      (u = ((s.reviveAgent (ptrHost p)).modDir l fun e => e.reached (ptrHost p))) ∧
      (u.dirE l).blocked = none ∧
      (u.dirE l).queue = []) ∧
  (∃ (s u : State) (p : Side) (dec : Fin 2) (addr a l : Nat) (half : Bool) (o : Obj) (r : _), (s.port p).up = true ∧
      (s.port p).cxl = true ∧
      s.hdmLine p dec.val addr = some a ∧
      l = a - a % 128 ∧
      half = decide (64 ≤ a % 128) ∧
      s.window l = some o ∧
      s.admits o (ptrHost p) = true ∧
      s.stillDead (ptrHost p) = false ∧
      (u = ((s.reviveAgent (ptrHost p)).modDir l fun e => e.reached (ptrHost p))) ∧
      ((u.dirE l).blocked = some (.host p half r) ∨ .block (.host p half r) ∈ (u.dirE l).queue)) ∧
  (∃ (s : State) (p : Side) (dec : Fin 2) (addr a l : Nat) (w : Await), s.hdmLine p dec.val addr = some a ∧
      l = a - a % 128 ∧
      (((s.dirE l).awaited fun x => x.agent = ptrHost p && (match x.kind with | .bisnp _ => true | _ => false)) = some w) ∧
      w.halves = 0) :=
   ⟨⟨base, _, none, 0, 0x100000, [], 0, .rds none 0 0x100000, .rds, rfl, .head _, by decide +kernel⟩,
    ⟨homed (2^12) DirEntry.none, _, some (hdr K.cohReq), 0, 0x100000, [], 0, .rds (some (hdr K.cohReq)) 0 0x100000, .rds, _, hdr K.cohReq, delivered_of (by decide +kernel), .head _, rfl, rfl, by decide +kernel⟩,
    ⟨homed (0) DirEntry.none, _, none, 0, 0x100000, [], 0, .rds none 0 0x100000, .rds, _, rfl, .head _, rfl, nofun, by decide +kernel⟩,
    ⟨homed (2^12) DirEntry.none, _, _, none, 3, 0x100000, _, rfl, rfl, by decide +kernel, by decide +kernel, rfl, nofun⟩,
    ⟨homed (2^12) DirEntry.none, _, _, none, 3, 0x100000, _, rfl, rfl, by decide +kernel, by decide +kernel, rfl, nofun⟩,
    ⟨{ homed (2^12) DirEntry.none with coh := { (homed (2^12) DirEntry.none).coh with dead := [3] } }, _, none, 3, 0x100000, _, rfl, rfl, by decide +kernel, by decide +kernel, nofun⟩,
    ⟨homed (2^12) { DirEntry.none with blocked := some .evict }, 0x100000, _, rfl, by decide +kernel⟩,
    ⟨homed (2^12) { DirEntry.none with state := .s, ptrs := [0x4000] }, 0x100000, 3, Obj.none, .rdx, _, rfl, by decide +kernel⟩,
    ⟨homed (2^12) { DirEntry.none with state := .s, ptrs := [1] }, 0x100000, 3, Obj.none, .rds, _, rfl, by decide +kernel⟩,
    ⟨homed (2^12) DirEntry.none, 0x100000, 3, Obj.none, .rds, _, rfl, by decide +kernel⟩,
    ⟨homed (2^12) DirEntry.none, _, 0x100000, 3, _, rfl, rfl, by decide +kernel⟩,
    ⟨homed (2^12) { DirEntry.none with state := .s, ptrs := [1] }, _, 0x100000, 3, _, rfl, rfl, by decide +kernel⟩,
    ⟨homed (2^12) DirEntry.none, _, 0x100000, 3, _, rfl, rfl, by decide +kernel⟩,
    ⟨homed (2^12) DirEntry.none, 0x100000, 3, Obj.none, by decide +kernel⟩,
    ⟨homed (2^12) { DirEntry.none with state := .s, ptrs := [1] }, 0x100000, 3, Obj.none, by decide +kernel⟩,
    ⟨homed (2^12) { DirEntry.none with state := .s, ptrs := [1] }, _, 0x100000, 1, _, rfl, rfl, by decide +kernel⟩,
    ⟨base, 0x100000, 3, by decide +kernel⟩,
    ⟨homed (2^12) { DirEntry.none with state := .x, ptrs := [3] }, 0x100000, 3, .putm, by decide +kernel⟩,
    ⟨homed (2^12) { DirEntry.none with state := .s, ptrs := [3] }, 0x100000, 3, .puts, by decide +kernel⟩,
    ⟨homed (2^12) DirEntry.none, _, _, none, 7, 0x100000, false, rfl, rfl, by decide +kernel⟩,
    ⟨homed (2^12) { DirEntry.none with state := .s, ptrs := [7], awaits := [await 7 .inv] }, _, _, none, 7, 0x100000, false, _, rfl, rfl, rfl, by decide +kernel⟩,
    ⟨homed (2^12) { DirEntry.none with state := .s, ptrs := [7], awaits := [await 7 .snpCur] }, _, _, none, 7, 0x100000, false, _, rfl, rfl, rfl⟩,
    ⟨homed (2^12) DirEntry.none, _, _, none, 0x100000, false, 9, rfl, rfl, by decide +kernel⟩,
    ⟨homed (2^12) { DirEntry.none with state := .s, ptrs := [7], awaits := [await 7 .fwds] }, _, _, none, 0x100000, false, 3, _, _, rfl, rfl, rfl, rfl, by decide +kernel⟩,
    ⟨homed (2^12+2^14) { DirEntry.none with state := .s, ptrs := [7], awaits := [await 7 .fwdx] }, _, _, none, 0x100000, false, 3, _, _, rfl, rfl, rfl, rfl, by decide +kernel⟩,
    ⟨homed (2^12) { DirEntry.none with state := .s, ptrs := [7], awaits := [await 7 .snpRecall] }, _, _, none, 7, 0x100000, false, _, rfl, rfl, rfl, by decide +kernel⟩,
    ⟨homed (2^12) { DirEntry.none with state := .s, ptrs := [7], awaits := [await 7 .inv] }, 7, _, _, ⟨_, .head _, _, .head _, rfl, by decide⟩, by decide +kernel, by decide +kernel, by decide +kernel, rfl⟩,
    ⟨{ homed (2^12) { DirEntry.none with state := .s, ptrs := [7], awaits := [await 7 .inv] } with time := { base.time with seq := 65535 } }, 7, ⟨_, .head _, _, .head _, rfl, by decide⟩, by decide +kernel⟩,
    ⟨base, 7, by decide +kernel⟩,
    ⟨base, _, 0x100000, rfl, by decide +kernel⟩,
    ⟨{ homed (2 ^ 12) { DirEntry.none with blocked := some (.access 0 false), ready := true } with
      coh := { (homed (2 ^ 12) { DirEntry.none with blocked := some (.access 0 false), ready := true }).coh with groups := [(0, .cmd (.slotFetch ⟨0, 0⟩ [] false))] } }, _, 0x100000, _, _, _, _, rfl, rfl, rfl⟩,
    ⟨(homed (2 ^ 12) { DirEntry.none with queue := [.block (.host .a false (.memRd .a))] }).modCoh fun c => { c with
      dir := c.dir ++ (List.range 16).map fun i => (0x2000 + 256 * (i + 1), { DirEntry.none with state := .s, ptrs := [3] }) }, 0x100000, _, _, _, by decide +kernel, by decide +kernel, rfl, rfl, by decide +kernel⟩,
    ⟨homed (2^12) { DirEntry.none with queue := [.block .evict] }, 0x100000, _, _, _, by decide +kernel, by decide +kernel, rfl, rfl, by decide +kernel⟩,
    ⟨port0 fun x => { x with cxl := true }, .a, 0, 0, by decide +kernel⟩,
    ⟨hosted DirEntry.none, _, .a, 0, 0, 0x100000, _, false, _, by decide +kernel, by decide +kernel, by decide +kernel, rfl, by decide +kernel, rfl, by decide +kernel, by decide +kernel, rfl, by decide +kernel⟩,
    ⟨hosted { DirEntry.none with state := .s, ptrs := [0x4000], awaits := [await 0x4000 .inv] }, _, .a, 0, 0, 0x100000, _, false, _, by decide +kernel, by decide +kernel, by decide +kernel, rfl, by decide +kernel, rfl, by decide +kernel, by decide +kernel, rfl, ⟨_, .head _, by decide⟩⟩,
    ⟨hosted DirEntry.none, _, .a, 0, 0, 0x100000, _, false, _, by decide +kernel, by decide +kernel, by decide +kernel, rfl, by decide +kernel, rfl, by decide +kernel, by decide +kernel, rfl, by decide +kernel⟩,
    ⟨hosted { DirEntry.none with queue := [.block (.host .a false (.memRd .i))] }, _, .a, 0, 0, 0x100000, _, false, _, .memRd .i, by decide +kernel, by decide +kernel, by decide +kernel, rfl, by decide +kernel, rfl, by decide +kernel, by decide +kernel, rfl, by decide +kernel⟩,
    ⟨hosted { DirEntry.none with state := .s, ptrs := [0x4000], awaits := [await 0x4000 (.bisnp true)] }, .a, 0, 0, 0x100000, _, _, by decide +kernel, rfl, rfl, by decide +kernel⟩⟩


/-- A session, and a request in it. -/
def session (p : SpdmPath) (ready auth : Bool) (roles : Nat) : Session :=
  { path := p, id := 1, ready := ready, auth := auth, slot := none, roles := roles, updates := 0 }

def req : MgtReq := ⟨.mctpI3c, 1, 7⟩

/-- The clock of the net is up. -/
def netUp : State := { base with clk := { base.clk with mclk := true } }

/-- A device with one session; nothing is locked. -/
def inSession (x : Session) : State :=
  { base with mgt := { base.mgt with sessions := [x], credLock := false, minSvn := 0 } }

/-- The management controller holds every role in a secured session. -/
def managed : State := inSession (session .mctpI3c true true 31)

/-- The host's session through the mailbox of port 0, with the first VF's TDI in a state and stream 0 as given. -/
def trusted (st : TdiState) (y : Stream) : State :=
  (inSession (session (.doe .a) true false 0)).modPort .a fun x =>
    { x with streams := [(0, y)], tdis := [(1, { Tdi.none with state := st })] }

theorem witness_AttestationAndDeviceSecurityAct :
  (∃ (s : State) (p : SpdmPath) (k : _), s.spdmUp p = true ∧
      k ≠ 0) ∧
  (∃ (s : State) (p : SpdmPath) (n : _), s.spdmUp p = true ∧
      1 ≤ n ∧
      n ≤ 16) ∧
  (∃ (s : State) (p : SpdmPath), s.spdmUp p = false) ∧
  (∃ (s : State) (p : Side), s.spdmUp (.doe p) = true ∧
      s.sessionRoom (.doe p) = true) ∧
  (∃ (s : State), s.spdmUp .mctpNet = true ∧
      s.mgt.empty = false ∧
      s.sessionRoom .mctpNet = true) ∧
  (∃ (s : State) (p : SpdmPath) (id : Nat) (x : Session) (key : List Byte), s.spdmUp p = true ∧
      s.session p id = some x ∧
      x.ready = false ∧
      x.auth = true ∧
      s.mgt.slotOf key = none) ∧
  (∃ (s : State) (p : SpdmPath) (id : Nat) (x : Session) (key : List Byte) (i r : _), s.spdmUp p = true ∧
      s.session p id = some x ∧
      x.ready = false ∧
      x.auth = true ∧
      s.mgt.slotOf key = some (i, r)) ∧
  (∃ (s : State) (p : SpdmPath) (id : Nat) (x : Session), s.spdmUp p = true ∧
      s.session p id = some x ∧
      x.ready = false ∧
      x.auth = false) ∧
  (∃ (s : State) (p : SpdmPath) (id : Nat) (x : Session), s.spdmUp p = true ∧
      s.session p id = some x ∧
      x.ready = true) ∧
  (∃ (s : State) (p : Side) (id : Nat) (n : Fin 8) (x : Session) (y : Stream) (k : _), s.spdmUp (.doe p) = true ∧
      s.session (.doe p) id = some x ∧
      x.ready = true ∧
      y = s.stream p n.val ∧
      y.keyed k = true) ∧
  (∃ (s : State) (p : Side) (id : Nat) (n : Fin 8) (x : Session) (y : Stream) (k : _), s.spdmUp (.doe p) = true ∧
      s.session (.doe p) id = some x ∧
      x.ready = true ∧
      y = s.stream p n.val ∧
      y.keyed k = false) ∧
  (∃ (s : State) (p : Side) (id : Nat) (vf : Fin 128) (n : Fin 8) (x : Session) (c : List Byte), s.spdmUp (.doe p) = true ∧
      s.session (.doe p) id = some x ∧
      x.ready = true ∧
      vf ≠ 0 ∧
      (s.port p).vfEnable = true ∧
      c = Config.configBytes (s.tdiItems vf.val) ∧
      (s.tdi p vf.val).state = .unlocked ∧
      (s.stream p n.val).secure = true) ∧
  (∃ (s : State) (p : Side) (id : Nat) (vf : Fin 128) (n : Fin 8) (x : Session) (c : List Byte), s.spdmUp (.doe p) = true ∧
      s.session (.doe p) id = some x ∧
      x.ready = true ∧
      vf ≠ 0 ∧
      (s.port p).vfEnable = true ∧
      c = Config.configBytes (s.tdiItems vf.val) ∧
      ((s.tdi p vf.val).state ≠ .unlocked ∨ (s.stream p n.val).secure = false)) ∧
  (∃ (s : State) (p : Side) (id : Nat) (vf : Fin 128) (x : Session) (c : List Byte), s.spdmUp (.doe p) = true ∧
      s.session (.doe p) id = some x ∧
      x.ready = true ∧
      vf ≠ 0 ∧
      (s.port p).vfEnable = true ∧
      c = Config.configBytes (s.tdiItems vf.val) ∧
      (s.tdi p vf.val).state = .locked) ∧
  (∃ (s : State) (p : Side) (id : Nat) (vf : Fin 128) (x : Session) (c : List Byte), s.spdmUp (.doe p) = true ∧
      s.session (.doe p) id = some x ∧
      x.ready = true ∧
      vf ≠ 0 ∧
      (s.port p).vfEnable = true ∧
      c = Config.configBytes (s.tdiItems vf.val) ∧
      (s.tdi p vf.val).state ≠ .locked) ∧
  (∃ (s : State) (p : Side) (id : Nat) (vf : Fin 128) (x : Session) (c : List Byte), s.spdmUp (.doe p) = true ∧
      s.session (.doe p) id = some x ∧
      x.ready = true ∧
      vf ≠ 0 ∧
      (s.port p).vfEnable = true ∧
      c = Config.configBytes (s.tdiItems vf.val) ∧
      ((s.tdi p vf.val).state = .locked ∨ (s.tdi p vf.val).state = .run)) ∧
  (∃ (s : State) (p : Side) (id : Nat) (vf : Fin 128) (x : Session) (c : List Byte), s.spdmUp (.doe p) = true ∧
      s.session (.doe p) id = some x ∧
      x.ready = true ∧
      vf ≠ 0 ∧
      (s.port p).vfEnable = true ∧
      c = Config.configBytes (s.tdiItems vf.val) ∧
      (s.tdi p vf.val).state = .error) ∧
  (∃ (s : State) (p : Side) (id : Nat) (vf : Fin 128) (x : Session) (c : List Byte), s.spdmUp (.doe p) = true ∧
      s.session (.doe p) id = some x ∧
      x.ready = true ∧
      vf ≠ 0 ∧
      (s.port p).vfEnable = true ∧
      c = Config.configBytes (s.tdiItems vf.val) ∧
      (s.tdi p vf.val).state = .unlocked) ∧
  (∃ (s : State) (p : Side) (vf : Fin 128), (s.tdi p vf.val).state.frozen = false) ∧
  (∃ (s : State) (p : Side) (vf : Fin 128) (n u : _), (s.tdi p vf.val).state.frozen = true ∧
      s.canStamp = true ∧
      s.stamp = (n, u)) ∧
  (∃ (s : State) (p : Side) (vf : Fin 128), (s.tdi p vf.val).state.frozen = true ∧
      s.canStamp = false) ∧
  (∃ (s : State) (p : Side) (n : Fin 8) (x : Stream), x = s.stream p n.val ∧
      (∀ y ∈ (s.port p).tdis, y.2.stream = n.val → y.2.state.frozen = false)) ∧
  (∃ (s : State) (p : Side) (n : Fin 8) (x : Stream) (k u v : _), x = s.stream p n.val ∧
      (∃ y ∈ (s.port p).tdis, y.2.stream = n.val ∧ y.2.state.frozen = true) ∧
      s.canStamp = true ∧
      s.stamp = (k, u) ∧
      v = u.setStream p n.val { x with secure := false, fails := satAdd 65535 x.fails 1 }) ∧
  (∃ (s : State) (p : Side) (n : Fin 8) (x : Stream), x = s.stream p n.val ∧
      (∃ y ∈ (s.port p).tdis, y.2.stream = n.val ∧ y.2.state.frozen = true) ∧
      s.canStamp = false) :=
   ⟨⟨netUp, .mctpNet, 1, by decide +kernel⟩,
    ⟨netUp, .mctpNet, 16, by decide +kernel⟩,
    ⟨atPhase 0, .mctpNet, by decide +kernel⟩,
    ⟨base, .a, by decide +kernel⟩,
    ⟨{ netUp with mgt := { base.mgt with creds := [(0, [], 31)] } }, by decide +kernel⟩,
    ⟨inSession (session .mctpI3c false true 0), .mctpI3c, 1, session .mctpI3c false true 0, [], by decide +kernel⟩,
    ⟨{ inSession (session .mctpI3c false true 0) with mgt := { (inSession (session .mctpI3c false true 0)).mgt with creds := [(0, sha384 [], 31)] } }, .mctpI3c, 1, session .mctpI3c false true 0, [], 0, 31, by decide +kernel⟩,
    ⟨inSession (session .mctpI3c false false 0), .mctpI3c, 1, session .mctpI3c false false 0, by decide +kernel⟩,
    ⟨inSession (session .mctpI3c true true 0), .mctpI3c, 1, session .mctpI3c true true 0, by decide +kernel⟩,
    ⟨trusted .unlocked { Stream.none with keys0 := true }, .a, 1, 0, session (.doe .a) true false 0, _, false, by decide +kernel, by decide +kernel, by decide +kernel, rfl, by decide +kernel⟩,
    ⟨trusted .unlocked Stream.none, .a, 1, 0, session (.doe .a) true false 0, _, false, by decide +kernel, by decide +kernel, by decide +kernel, rfl, by decide +kernel⟩,
    by refine ⟨trusted .unlocked { Stream.none with secure := true }, .a, 1, 1, 0, session (.doe .a) true false 0, _, ?_, ?_, ?_, ?_, ?_, rfl, ?_⟩ <;> decide +kernel,
    by refine ⟨trusted .locked Stream.none, .a, 1, 1, 0, session (.doe .a) true false 0, _, ?_, ?_, ?_, ?_, ?_, rfl, ?_⟩ <;> decide +kernel,
    by refine ⟨trusted .locked Stream.none, .a, 1, 1, session (.doe .a) true false 0, _, ?_, ?_, ?_, ?_, ?_, rfl, ?_⟩ <;> decide +kernel,
    by refine ⟨trusted .run Stream.none, .a, 1, 1, session (.doe .a) true false 0, _, ?_, ?_, ?_, ?_, ?_, rfl, ?_⟩ <;> decide +kernel,
    by refine ⟨trusted .run Stream.none, .a, 1, 1, session (.doe .a) true false 0, _, ?_, ?_, ?_, ?_, ?_, rfl, ?_⟩ <;> decide +kernel,
    by refine ⟨trusted .error Stream.none, .a, 1, 1, session (.doe .a) true false 0, _, ?_, ?_, ?_, ?_, ?_, rfl, ?_⟩ <;> decide +kernel,
    by refine ⟨trusted .unlocked Stream.none, .a, 1, 1, session (.doe .a) true false 0, _, ?_, ?_, ?_, ?_, ?_, rfl, ?_⟩ <;> decide +kernel,
    ⟨base, .a, 1, by decide +kernel⟩,
    ⟨trusted .run Stream.none, .a, 1, _, _, by decide +kernel, by decide +kernel, rfl⟩,
    ⟨{ trusted .run Stream.none with time := { base.time with seq := 65535 } }, .a, 1, by decide +kernel⟩,
    ⟨base, .a, 0, _, rfl, by decide +kernel⟩,
    ⟨trusted .run Stream.none, .a, 0, _, _, _, _, rfl, ⟨_, .head _, by decide +kernel⟩, by decide +kernel, rfl, rfl⟩,
    ⟨{ trusted .run Stream.none with time := { base.time with seq := 65535 } }, .a, 0, _, rfl, ⟨_, .head _, by decide +kernel⟩, by decide +kernel⟩⟩

theorem witness_ManagementActs :
  (∃ (c : Instr) (s : State) (r : MgtReq) (op role : Nat) (dg : Option (List Nat)), mgtRow c = some (r, op, role, dg) ∧
      (∀ x, ¬Carried s r x)) ∧
  (∃ (c : Instr) (s : State) (r : MgtReq) (op role : Nat) (dg : Option (List Nat)) (x : _), mgtRow c = some (r, op, role, dg) ∧
      Carried s r x ∧
      s.canStamp = false) ∧
  (∃ (c : Instr) (s : State) (r : MgtReq) (op role : Nat) (dg : Option (List Nat)) (x : _), mgtRow c = some (r, op, role, dg) ∧
      Carried s r x ∧
      s.canStamp = true ∧
      tst x.roles role = false) ∧
  (∃ (s u : State) (r : MgtReq) (x : Session) (p : Side) (off : Nat), Asks (.regRead r p off) s r x u ∧
      off % 8 = 0) ∧
  (∃ (s u : State) (r : MgtReq) (x : Session) (p : Side) (off : Nat), Asks (.regRead r p off) s r x u ∧
      off % 8 ≠ 0) ∧
  (∃ (s u : State) (r : MgtReq) (x : Session) (p : Side) (off : Nat) (v : Word) (t : _), Asks (.regWrite r p off v) s r x u ∧
      off % 8 = 0 ∧
      u.writeAt (.mgmt p) off v.toNat = .ok t) ∧
  (∃ (s u : State) (r : MgtReq) (x : Session) (p : Side) (off : Nat) (v : Word) (k : _), Asks (.regWrite r p off v) s r x u ∧
      off % 8 = 0 ∧
      u.writeAt (.mgmt p) off v.toNat = .error k) ∧
  (∃ (s u : State) (r : MgtReq) (x : Session) (p : Side) (off : Nat) (v : Word), Asks (.regWrite r p off v) s r x u ∧
      off % 8 ≠ 0) ∧
  (∃ (s u : State) (r : MgtReq) (x : Session) (i n : Nat), Asks (.logRead r i n) s r x u ∧
      n ≤ 32 ∧
      i < 8192) ∧
  (∃ (s u : State) (r : MgtReq) (x : Session) (i n : Nat), Asks (.logRead r i n) s r x u ∧
      32 < n) ∧
  (∃ (s u : State) (r : MgtReq) (x : Session) (i n : Nat), Asks (.logRead r i n) s r x u ∧
      n ≤ 32 ∧
      8192 ≤ i) ∧
  (∃ (s u : State) (r : MgtReq) (x : Session), Asks (.sensorRead r) s r x u) ∧
  (∃ (s u : State) (r : MgtReq) (x : Session) (off n : Nat), Asks (.flashErase r off n) s r x u ∧
      (u.imageRead = true ∨ u.mgt.flashBusy.isSome = true)) ∧
  (∃ (s u : State) (r : MgtReq) (x : Session) (off n : Nat), Asks (.flashErase r off n) s r x u ∧
      u.imageRead = false ∧
      u.mgt.flashBusy = none ∧
      off % 65536 = 0 ∧
      n ≠ 0 ∧
      inImage off (65536 * n) = true) ∧
  (∃ (s u : State) (r : MgtReq) (x : Session) (off : Nat) (d : List Byte), Asks (.flashWrite r off d) s r x u ∧
      (u.imageRead = true ∨ u.mgt.flashBusy.isSome = true)) ∧
  (∃ (s u : State) (r : MgtReq) (x : Session) (off : Nat) (d : List Byte), Asks (.flashWrite r off d) s r x u ∧
      u.imageRead = false ∧
      u.mgt.flashBusy = none ∧
      d ≠ [] ∧
      d.length ≤ 4096 ∧
      inImage off d.length = true) ∧
  (∃ (s u : State) (r : MgtReq) (x : Session) (off n : Nat), Asks (.flashRead r off n) s r x u ∧
      n ≤ 4096 ∧
      off + n ≤ 2 ^ 26) ∧
  (∃ (s u : State) (r : MgtReq) (x : Session) (off n : Nat), Asks (.flashRead r off n) s r x u ∧
      4096 < n) ∧
  (∃ (s u v : State) (r : MgtReq) (x : Session) (t : Side), Asks (.fwLoad r t) s r x u ∧
      v = s.stamp.2 ∧
      v.mgt.flashBusy = none ∧
      v.inSelftest t = false ∧
      (v.twin t).loading = false ∧
      (v.twin t).state = .detached) ∧
  (∃ (s u v : State) (r : MgtReq) (x : Session) (t : Side), Asks (.fwLoad r t) s r x u ∧
      v = s.stamp.2 ∧
      v.mgt.flashBusy = none ∧
      v.inSelftest t = false ∧
      (v.twin t).loading = false ∧
      (v.twin t).state ≠ .detached) ∧
  (∃ (s u v : State) (r : MgtReq) (x : Session) (t : Side), Asks (.fwLoad r t) s r x u ∧
      v = s.stamp.2 ∧
      (v.mgt.flashBusy.isSome = true ∨ v.inSelftest t = true ∨ (v.twin t).loading = true)) ∧
  (∃ (s u v : State) (r : MgtReq) (x : Session) (t : Side), Asks (.fwRestore r t) s r x u ∧
      v = s.stamp.2 ∧
      v.mgt.flashBusy = none ∧
      v.imageRead = false ∧
      (v.twin t).state.serves = true) ∧
  (∃ (s u v : State) (r : MgtReq) (x : Session) (t : Side), Asks (.fwRestore r t) s r x u ∧
      v = s.stamp.2 ∧
      v.mgt.flashBusy = none ∧
      v.imageRead = false ∧
      (v.twin t).state.serves = false) ∧
  (∃ (s u v : State) (r : MgtReq) (x : Session) (t : Side), Asks (.fwRestore r t) s r x u ∧
      v = s.stamp.2 ∧
      (v.mgt.flashBusy.isSome = true ∨ v.imageRead = true)) ∧
  (∃ (s u v : State) (r : MgtReq) (x : Session) (a n : Nat), Asks (.debugRead r a n) s r x u ∧
      v = u.touched (u.ownersIn a n) 0x0020 u.time.last ∧
      n ≤ 4096 ∧
      a + n ≤ Config.deviceMemory ∧
      v.inTheWay [(a, n)] [] = []) ∧
  (∃ (s u v : State) (r : MgtReq) (x : Session) (a n : Nat), Asks (.debugRead r a n) s r x u ∧
      v = u.touched (u.ownersIn a n) 0x0020 u.time.last ∧
      4096 < n) ∧
  (∃ (s u v : State) (r : MgtReq) (x : Session) (a : Nat) (d : List Byte), Asks (.debugWrite r a d) s r x u ∧
      v = u.touched (u.ownersIn a d.length) 0x0021 u.time.last ∧
      d.length ≤ 4096 ∧
      a + d.length ≤ Config.deviceMemory ∧
      v.inTheWay [] [(a, d.length)] = []) ∧
  (∃ (s u v : State) (r : MgtReq) (x : Session) (a : Nat) (d : List Byte), Asks (.debugWrite r a d) s r x u ∧
      v = u.touched (u.ownersIn a d.length) 0x0021 u.time.last ∧
      d.length ≤ 4096 ∧
      Config.deviceMemory < a + d.length) ∧
  (∃ (s u v : State) (r : MgtReq) (x : Session) (a : Nat) (d : List Byte), Asks (.debugWrite r a d) s r x u ∧
      v = u.touched (u.ownersIn a d.length) 0x0021 u.time.last ∧
      4096 < d.length) ∧
  (∃ (s u : State) (r : MgtReq) (x : Session) (t : Side) (n : Fin 8) (act : CcAct), Asks (.ccHalt r t n act) s r x u) ∧
  (∃ (s u v : State) (r : MgtReq) (x : Session) (n : Fin 8) (h : List Byte) (roles : Nat), Asks (.credSet r n h roles) s r x u ∧
      v = s.stamp.2 ∧
      v.mgt.credLock = true ∧
      x.slot = none) ∧
  (∃ (s u v : State) (r : MgtReq) (x : Session) (n : Fin 8) (h : List Byte) (roles : Nat), Asks (.credSet r n h roles) s r x u ∧
      v = s.stamp.2 ∧
      (v.mgt.credLock = false ∨ x.slot.isSome = true) ∧
      h.length ≠ 48) ∧
  (∃ (s u v : State) (r : MgtReq) (x : Session) (n : Fin 8) (h : List Byte) (roles : Nat), Asks (.credSet r n h roles) s r x u ∧
      v = s.stamp.2 ∧
      (v.mgt.credLock = false ∨ x.slot.isSome = true) ∧
      h.length = 48 ∧
      32 ≤ roles) ∧
  (∃ (s u v w : State) (r : MgtReq) (x : Session) (n : Fin 8) (h : List Byte) (roles : Nat), Asks (.credSet r n h roles) s r x u ∧
      v = s.stamp.2 ∧
      (v.mgt.credLock = false ∨ x.slot.isSome = true) ∧
      h.length = 48 ∧
      roles < 32 ∧
      (w = u.modMgt (fun m => { m with creds := Tbl.put m.creds n.val (h, roles) }))) ∧
  (∃ (s u : State) (r : MgtReq) (x : Session), Asks (.credLock r) s r x u) ∧
  (∃ (s u : State) (r : MgtReq) (x : Session) (n : Nat), Asks (.svnRaise r n) s r x u ∧
      s.stamp.2.mgt.minSvn ≤ n ∧
      n < 65536) ∧
  (∃ (s u : State) (r : MgtReq) (x : Session) (n : Nat), Asks (.svnRaise r n) s r x u ∧
      (n < s.stamp.2.mgt.minSvn ∨ 65536 ≤ n)) ∧
  (∃ (s u : State) (r : MgtReq) (x : Session) (n : Nat) (d : List Byte), Asks (.measExtend r n d) s r x u ∧
      8 ≤ n ∧
      n ≤ 15 ∧
      d.length = 48) ∧
  (∃ (s u : State) (r : MgtReq) (x : Session) (n : Nat) (d : List Byte), Asks (.measExtend r n d) s r x u ∧
      8 ≤ n ∧
      n ≤ 15 ∧
      d.length ≠ 48) ∧
  (∃ (s u : State) (r : MgtReq) (x : Session) (n : Nat) (d : List Byte), Asks (.measExtend r n d) s r x u ∧
      (n < 8 ∨ 15 < n)) ∧
  (∃ (s u : State) (r : MgtReq) (x : Session) (p : Path) (v : Word), Asks (.clearOos (some r) p v) s r x u ∧
      (s.stamp.2.twin (Side.ofBool (tst v.toNat 48))).state = .outOfService) ∧
  (∃ (s u : State) (r : MgtReq) (x : Session) (p : Path) (v : Word), Asks (.clearOos (some r) p v) s r x u ∧
      (s.stamp.2.twin (Side.ofBool (tst v.toNat 48))).state ≠ .outOfService) ∧
  (∃ (s : State), 4 ≤ s.clk.phase) ∧
  (∃ (s : State) (i v : Nat), sensorState i v (s.limits i) (Tbl.get (0, 0) s.mgt.sensors i).2 = (Tbl.get (0, 0) s.mgt.sensors i).2) ∧
  (∃ (s : State) (n : Nat) (recs : List Byte), 4 ≤ s.clk.phase ∧
      s.gateOn 39 = true ∧
      s.mgt.lostNew = 0 ∧
      n = min 127 (s.mgt.written - s.mgt.mirrored) ∧
      (recs = (List.range n).flatMap (fun i => logBytes (s.logAt (s.mgt.mirrored + i))))) :=
   ⟨⟨.sensorRead req, base, req, _, _, _, rfl, fun _ h => nomatch h.2.2.1⟩,
    ⟨.sensorRead req, { managed with time := { base.time with seq := 65535 } }, req, _, _, _, session .mctpI3c true true 31, rfl, by unfold Carried; decide +kernel, by decide +kernel⟩,
    ⟨.sensorRead req, inSession (session .mctpI3c true true 0), req, 4, 0, none, session .mctpI3c true true 0, by decide +kernel, by unfold Carried; decide +kernel, by decide +kernel⟩,
    ⟨managed, _, req, session .mctpI3c true true 31, .a, 8, asks_of rfl (by decide +kernel), by decide +kernel⟩,
    ⟨managed, _, req, session .mctpI3c true true 31, .a, 4, asks_of rfl (by decide +kernel), by decide +kernel⟩,
    (exists_ok (x := (managed.asked req 2 none (session .mctpI3c true true 31)).writeAt (.mgmt .a) 0x107030 1) (by decide +kernel)).elim fun t h =>
      ⟨managed, _, req, session .mctpI3c true true 31, .a, 0x107030, 1, t, asks_of rfl (by decide +kernel), by decide, h⟩,
    ⟨managed, _, req, session .mctpI3c true true 31, .a, 0x107030, 0x2000, _, asks_of rfl (by decide +kernel), by decide, rfl⟩,
    ⟨managed, _, req, session .mctpI3c true true 31, .a, 4, 0, asks_of rfl (by decide +kernel), by decide +kernel⟩,
    ⟨managed, _, req, session .mctpI3c true true 31, 8191, 32, asks_of rfl (by decide +kernel), by decide +kernel⟩,
    ⟨managed, _, req, session .mctpI3c true true 31, 0, 33, asks_of rfl (by decide +kernel), by decide +kernel⟩,
    ⟨managed, _, req, session .mctpI3c true true 31, 8192, 32, asks_of rfl (by decide +kernel), by decide +kernel⟩,
    ⟨managed, _, req, session .mctpI3c true true 31, asks_of rfl (by decide +kernel)⟩,
    ⟨(managed.modTwin .b fun w => { w with loading := true }), _, req, session .mctpI3c true true 31, 0, 0, asks_of rfl (by decide +kernel), by decide +kernel⟩,
    ⟨managed, _, req, session .mctpI3c true true 31, 0x10000, 511, asks_of rfl (by decide +kernel), by decide +kernel⟩,
    ⟨(managed.modTwin .b fun w => { w with loading := true }), _, req, session .mctpI3c true true 31, 0, [], asks_of rfl (by decide +kernel), by decide +kernel⟩,
    ⟨managed, _, req, session .mctpI3c true true 31, 0x1FFF000, List.replicate 4096 0, asks_of rfl (by decide +kernel), by decide +kernel⟩,
    ⟨managed, _, req, session .mctpI3c true true 31, 0x3FFF000, 4096, asks_of rfl (by decide +kernel), by decide +kernel⟩,
    ⟨managed, _, req, session .mctpI3c true true 31, 0, 4097, asks_of rfl (by decide +kernel), by decide +kernel⟩,
    ⟨(managed.modTwin .b fun w => { w with state := .detached }), _, _, req, session .mctpI3c true true 31, .b, asks_of rfl (by decide +kernel), rfl, by decide +kernel⟩,
    ⟨managed, _, _, req, session .mctpI3c true true 31, .b, asks_of rfl (by decide +kernel), rfl, by decide +kernel⟩,
    ⟨(managed.modTwin .b fun w => { w with loading := true }), _, _, req, session .mctpI3c true true 31, .b, asks_of rfl (by decide +kernel), rfl, by decide +kernel⟩,
    ⟨managed, _, _, req, session .mctpI3c true true 31, .b, asks_of rfl (by decide +kernel), rfl, by decide +kernel⟩,
    ⟨(managed.modTwin .b fun w => { w with state := .detached }), _, _, req, session .mctpI3c true true 31, .b, asks_of rfl (by decide +kernel), rfl, by decide +kernel⟩,
    ⟨(managed.modTwin .b fun w => { w with loading := true }), _, _, req, session .mctpI3c true true 31, .b, asks_of rfl (by decide +kernel), rfl, by decide +kernel⟩,
    ⟨managed, _, _, req, session .mctpI3c true true 31, Config.deviceMemory - 4096, 4096, asks_of rfl (by decide +kernel), rfl, by decide +kernel⟩,
    ⟨managed, _, _, req, session .mctpI3c true true 31, 0, 4097, asks_of rfl (by decide +kernel), rfl, by decide +kernel⟩,
    ⟨managed, _, _, req, session .mctpI3c true true 31, 0, List.replicate 4096 0, asks_of rfl (by decide +kernel), rfl, by decide +kernel⟩,
    ⟨managed, _, _, req, session .mctpI3c true true 31, Config.deviceMemory, [0], asks_of rfl (by decide +kernel), rfl, by decide +kernel⟩,
    ⟨managed, _, _, req, session .mctpI3c true true 31, 0, List.replicate 4097 0, asks_of rfl (by decide +kernel), rfl, by decide +kernel⟩,
    ⟨managed, _, req, session .mctpI3c true true 31, .a, 0, .halt, asks_of rfl (by decide +kernel)⟩,
    ⟨{ managed with mgt := { managed.mgt with credLock := true } }, _, _, req, session .mctpI3c true true 31, 0, List.replicate 48 0, 31, asks_of rfl (by decide +kernel), rfl, by decide +kernel⟩,
    ⟨managed, _, _, req, session .mctpI3c true true 31, 7, [], 31, asks_of rfl (by decide +kernel), rfl, by decide +kernel⟩,
    ⟨managed, _, _, req, session .mctpI3c true true 31, 7, List.replicate 48 0, 32, asks_of rfl (by decide +kernel), rfl, by decide +kernel⟩,
    ⟨managed, _, _, _, req, session .mctpI3c true true 31, 7, List.replicate 48 0, 31, asks_of rfl (by decide +kernel), rfl, by decide +kernel, by decide +kernel, by decide +kernel, rfl⟩,
    ⟨managed, _, req, session .mctpI3c true true 31, asks_of rfl (by decide +kernel)⟩,
    ⟨managed, _, req, session .mctpI3c true true 31, 65535, asks_of rfl (by decide +kernel), by decide +kernel⟩,
    ⟨{ managed with mgt := { managed.mgt with minSvn := 5 } }, _, req, session .mctpI3c true true 31, 4, asks_of rfl (by decide +kernel), by decide +kernel⟩,
    ⟨managed, _, req, session .mctpI3c true true 31, 15, List.replicate 48 0, asks_of rfl (by decide +kernel), by decide +kernel⟩,
    ⟨managed, _, req, session .mctpI3c true true 31, 8, [], asks_of rfl (by decide +kernel), by decide +kernel⟩,
    ⟨managed, _, req, session .mctpI3c true true 31, 7, List.replicate 48 0, asks_of rfl (by decide +kernel), by decide +kernel⟩,
    ⟨(managed.modTwin .b fun w => { w with state := .outOfService }), _, req, session .mctpI3c true true 31, .mgmt .a, 0x2001000000000000, asks_of rfl (by decide +kernel), by decide +kernel⟩,
    ⟨managed, _, req, session .mctpI3c true true 31, .mgmt .a, 0x2001000000000000, asks_of rfl (by decide +kernel), by decide +kernel⟩,
    ⟨base, by decide +kernel⟩,
    ⟨{ base with mgt := { base.mgt with limits := [(0, 0x006400640064)], sensors := [] } }, 0, 1, by decide +kernel⟩,
    ⟨base, _, _, by decide +kernel, by decide +kernel, by decide +kernel, rfl, rfl⟩⟩


/-! ### Well-formedness refuses what does not fit -/

/-- A row that names a command of a ring refuses a queue or a slot that no queue has. -/
theorem test_wf_refuses_references : ((
    [.nop, .fenceSignal, .fenceWait, .writeInline, .barrier, .copy, .copy2d, .gather, .scatter, .fill, .quantize, .dequantize,
     .accumulate, .compact, .expand, .dispatch, .combine, .allreduce, .reduceScatter, .allgather, .alltoall, .broadcast,
     .collectiveBarrier, .collTimeout, .map, .unmap, .invalidate, .launch, .open_, .start, .park, .resume, .setHome, .close,
     .kill, .qCreate, .qPark, .qResume, .qStop, .qDestroy, .objCreate, .objFree, .fenceAlloc, .fenceReset, .fenceFree, .stage,
     .commit, .withdraw, .release, .selftest, .abort, .intentNoticeAck] : List (CmdRef → Instr)).all fun f =>
    !(f ⟨16384, 0⟩).wf && !(f ⟨0, 65536⟩).wf && (f ⟨16383, 65535⟩).wf) = true := by decide +kernel

/-- Each field of a packet's header has a width. -/
theorem test_wf_refuses_headers :
    ([{ hdr 1 with dst := 16384 }, { hdr 1 with src := 16384 }, { hdr 1 with pgen := 256 }, { hdr 1 with pseq := 65536 },
      { hdr 1 with grant := 65536 }, { hdr 1 with ggen := 256 }, { hdr 1 with dgen := 256 }, { hdr 1 with rgen := 256 },
      { hdr 1 with tag := 4096 }, { hdr 1 with addr := 2 ^ 52 }, { hdr 1 with us := 32 }].all fun h =>
      !(Instr.invalDone h).wf && !(Instr.ack h 0 []).wf && !(Instr.rds (some h) 0 0).wf && (Instr.invalDone (hdr 1)).wf) = true := by
  decide +kernel

/-- Every other bound of an operand refuses the first value beyond it. -/
theorem test_wf_refuses_operands :
    ([.walkComplete 4096 0 0 .read, .walkComplete 0 16384 0 .read, .walkComplete 0 0 (2 ^ 57) .read, .prgResponse .a 0 0 256 .success,
      .slotFetch ⟨16384, 0⟩ [] false, .slotFetch ⟨0, 256⟩ [] false, .predicateReadComplete ⟨⟨16384, 0⟩, 0⟩ 0 false,
      .predicateReadComplete ⟨first, 256⟩ 0 false, .flushReadComplete .a ⟨256, true⟩, .commandComplete 16384,
      .coreInvalidateDone ⟨⟨32768, 0⟩, 0, 0⟩, .coreInvalidateDone ⟨first, 0, 256⟩, .launchAnswer first 256 0, .planGroupDecision ⟨65536, 0, 0, true, true⟩,
      .planGroupDecision ⟨0, 65536, 0, true, true⟩, .planGroupDecision ⟨0, 0, 2 ^ 48, true, true⟩, .launchAnswer first 0 65536, .drainLimit 4096, .objectFreed (2 ^ 22), .linkDown .a 32,
      .inboundBar4Request .a 65536 0 (.read 4), .eventRaised 32, .moderationRelease 0 0 32, .vectorDelivery 0 0 32,
      .faultOccurrence .a 0 (some 4096) 0 0, .faultOccurrence .a 0 none 65536 0, .faultOccurrence .a 0 none 0 65536,
      .sampleReturn 0 16 0 (List.replicate 4096 0), .sampleReturn 0 0 256 (List.replicate 4096 0), .sampleReturn 0 0 0 [],
      .sampleTimeout 0 16, .pwrwarnAssert 32, .pwrwarnClear 32, .hello 0 (2 ^ 64) 0 none 0 0 none, .hello 0 0 24 none 0 0 none,
      .hello 0 0 0 none (2 ^ 64) 0 none, .hello 0 0 0 none 0 16384 none, .fabricJoin 0 16384 0 0, .fabricJoin 0 0 16384 0,
      .global_ 0 65536 .confirm, .ackTimeout 16384, .fixedDelayDelivery 32, .groupAgreeTimeout 65536] : List Instr).all (!·.wf) = true ∧
    ([.write (hdr 1) (List.replicate 513 0) 0, .rdata (hdr 3) (List.replicate 513 0) 0, .nak (hdr 4) 65536, .fenceUpd (hdr 8) 0 0 65536 0,
      .grantOffer (hdr 13) 0 0 0 4096 false, .groupDigestAnswer (hdr 63) 65536 true, .groupDigestReceipt (hdr 63) 0 [],
      .collData (hdr 24) 65536 0 0 0 .up [], .collCtl (hdr 25) 65536 0 0 .arrival, .agentRead .cache 4096 0 0, .agentRead .cache 0 16384 0,
      .agentRead .cache 0 0 64, .agentRead .cache 0 0 (2 ^ 52), .agentWrite .cache 0 0 0 127 [0, 0], .agentEvict .cache 0 16384 0,
      .winHoldExpiry .cache 0 1, .rds none 65536 0, .rdx none 0 1, .upg none 65536 0, .puts none 65536 0, .pute none 0 1,
      .puto none 0 0 [] 0, .putm none 0 0 [] 0, .fwds none .cache 16384 0 0 false, .fwdx none .cache 0 0 65536 false,
      .inv none .cache 16384 0, .snpcur none .cache 0 1, .snprecall none .cache 16384 0, .datas none .cache 0 0 [] 0 true,
      .datae none .cache 0 0 [] 0 true, .datao none .cache 0 0 [] 0 true, .datam none .cache 0 0 [] 0 true, .upgack none .cache 0 1,
      .grant none .cache 16384 0, .ackdone none .cache 0 1, .invack none 65536 0 false, .fwddone none 0 0 65536 .keep false,
      .snprsp none 0 0 [] 0 true false, .miss none 65536 0 false false, .putack none .cache 0 1, .staleputack none .cache 16384 0,
      .fwddoneack none .cache 0 1, .blockingOpStart 64, .logRead req 0 33, .flashWrite req 0 (List.replicate 4097 0), .flashRead req 0 4097,
      .debugRead req 0 4097, .debugWrite req 0 (List.replicate 4097 0), .credSet req 0 [] 0, .measExtend req 8 [], .homeTimeout 65536,
      .rlcHomeTimeout 16384, .memwr .a 0 0 .i [] false, .spdmUnsupportedRequest .mctpNet 65536, .sensorSample [],
      .linkReportedUp 0 16384 0, .linkReportedUp 0 0 24] : List Instr).all (!·.wf) = true := by
  decide +kernel

/-! ### Small checks against the spec's worked examples -/

/-- The state that a command leads to. -/
def after (c : Instr) (s : State) : State :=
  match exec c s with
  | .next t => t
  | _ => s

/-- 07, "seeding a peer": the header of C1 names COPY, phase 1, scope C and fence 0x0020_0300. -/
theorem test_header_of_c1 :
    let b := words [0x0020030009000108, 1]
    hOpcode b = Op.copy ∧ hPhase b = true ∧ hChain b = 0 ∧ hScope b = 1 ∧ hFenceEn b = true ∧ hFence b = 0x00200300 ∧ hPred b = false := by
  decide +kernel

/-- 05, "a two-slot WRITE_INLINE": its header's word 0. -/
theorem test_header_of_write_inline :
    let b := words [0x0030015509000203, 0xC]
    hOpcode b = Op.writeInline ∧ hPhase b = false ∧ hChain b = 1 ∧ hScope b = 1 ∧ hFence b = 0x00300155 := by decide +kernel

/-- 05, the same example: a producer at 254 of 256 slots in the second lap; the value 0 rings two slots. -/
theorem test_doorbell_wraps :
    (({ Queue.none with prod := 510, ret := 510, prodPhase := false }.ring1 .a 0 0 true) matches .taken { prod := 512, .. }) = true := by
  decide +kernel

/-- 08, "two terms that vanish": 9 × 2⁻²⁷ added to 1.0 is a tie and rounds down, and again. -/
theorem test_two_terms_vanish :
    (accFloat 0x3F800000 (mulScale 9 (scaleParts 0x3200))).1 = 0x3F800000 ∧
    (accFloat 0x3F800000 (mulScale 18 (scaleParts 0x3200))).1 = 0x3F800001 := by decide +kernel

/-- 12, "moderation and re-firing": DELAY 40, COUNT 16: the window that opens at 2 releases at 42, or with the sixteenth event. -/
theorem test_moderation :
    let x := ({ Vec.reset with delay := 40, count := 16 } : Vec).event 2 .chip
    x.state = .waiting ∧ (x.moderate 41).state = .waiting ∧ (x.moderate 42).state = .due ∧
    ((Nat.repeat (fun y => Vec.event y 19 .chip) 14 x).moderate 20).state = .waiting ∧
    ((Nat.repeat (fun y => Vec.event y 19 .chip) 15 x).moderate 20).state = .due := by decide +kernel

/-- 12, the same: with ADAPT, DELAY_NOW 0 doubles to 1 when COUNT released the vector, and halves to 0 on the IDLE bypass. -/
theorem test_adaptation :
    ({ Vec.reset with adapt := true, delay := 40, delayNow := 0, released := some 0 } : Vec).delivered.delayNow = 1 ∧
    ({ Vec.reset with adapt := true, delay := 40, delayNow := 1, released := some 1 } : Vec).delivered.delayNow = 0 := by decide +kernel

/-- 15, "moving twin A to its spare PLL": the frequency counter starts, and ends with COUNT 1,600,032. -/
theorem test_frequency_counter :
    let s := after (.fcntGo pf0 0x800000001A00C350) { base with clk := { base.clk with locks := 255, xtal := true } }
    s.clk.busy = true ∧ (after (.fcntDone 1600032) s).clk.count = 1600032 ∧ (after (.fcntDone 1600032) s).clk.done = true := by
  decide +kernel

/-- R499: twin A's signatures pass, and a bit apart fail. -/
theorem test_signatures :
    let s := base.modTwin .b fun w => { w with state := .detached, test := some (.start, 3) }
    ((after (.selftestDone .b 0x8F6BE2150C9A47D3 0xC4D819A362F05B7E) s).twin .b).testResult = 1 ∧
    ((after (.selftestDone .b 0x8F6BE2150C9A47D2 0xC4D819A362F05B7E) s).twin .b).testResult = 2 := by decide +kernel

/-- The digest of the empty string, as FIPS 180-4 gives SHA-384. -/
theorem test_sha384 : (sha384 []).take 8 = [0x38, 0xB0, 0x60, 0xA7, 0x51, 0xAC, 0x96, 0x38] := by decide +kernel

/-- An empty queue idles; a command in front runs, and leaves the queue. -/
theorem test_step :
    step base = .next base ∧
    (match step { atPhase 1 with pending := [.ioscTrim, .pllLocked] } with
      | .next t => decide (t.clk.phase = 2 ∧ t.pending = [.pllLocked])
      | _ => false) = true := ⟨rfl, by decide +kernel⟩

/-- No word spells a command, and then the state is as it was. -/
theorem test_no_word_spells_a_command : decodeTableWord 64 0 = none ∧ base.withFetchWord 64 0 = base := ⟨rfl, rfl⟩

/-- R253, R252: a copy onto part of its own source, one onto other bytes, and one onto bytes that an earlier copy has written. -/
theorem test_writes_that_meet :
    let self := cmdOf Op.copy 0 [2 ^ 56, 2 ^ 56 + 4000, 4096, 0]
    let c := cmdOf Op.copy 0 [2 ^ 56, 2 ^ 56 + 8192, 4096, 0]
    let d := { cmdOf Op.copy 0 [2 ^ 56 + 65536, 2 ^ 56 + 8192, 4096, 0] with slot := 1, point := 1 }
    (holding base self).selfMeets 0 self.bytes = true ∧ (holding base c).selfMeets 0 c.bytes = false ∧
    (base.modQueue 0 fun q => { q with cmds := [d, c] }).overlaps 0 c = [(8192, 4096)] := by decide +kernel

/-- R255: with 4,095 range invalidations issued in the tick, the second of a peer's two waits, and goes out in the next tick. -/
theorem test_invalidations_of_a_tick :
    let ask : Nat → InvAsk := fun a => ⟨⟨16389, 0⟩, none, 1, [(a, 128)]⟩
    let s := inFab fun f => { f with invTick := 4095, invRest := [ask 0, ask 128] }
    s.servedRest.fab.invRest = [ask 128] ∧ s.servedRest.out = s.out ++ [.coreInv [(0, s.gen 0)] 0 128 ⟨16389, 0⟩] ∧
      s.servedRest.restsIssued.fab.invRest = [] := by decide +kernel

/-- R373, R374: a PFACK goes ahead of a PATHFENCE that is unanswered, as number 0; what is sent again then begins at 1. -/
theorem test_pfack_goes_ahead :
    let s := base.modPath 1 fun x => { x with fence := some 0, next := [0, 0, 0, 0], unacked := [⟨0, 7, plainPkt K.group []⟩] }
    let t := s.sendPfack 1 (plainPkt K.pfack [])
    (t.path 1).next = [1, 0, 0, 0] ∧ ((t.pfackDeliver 1 [7, 0, 0, 0]).path 1).unacked.map (·.pseq) = [1] := by decide +kernel

/-- R419: an uncorrectable error of shared-plane storage that held a line of a coherent window poisons the line. -/
theorem test_shared_error :
    let t := after (.faultOccurrence .a 14 none 1 (0x100000 + 5)) windowed
    tst t.rst.chip 7 = true ∧ (t.mem.poisoned 0x100000 && t.mem.poisoned 0x10007F && !t.mem.poisoned 0x100080) = true := by
  decide +kernel

/-- R467: a compute domain that goes into reset leaves a CD record. -/
theorem test_cd_record :
    let t := (base.modCd 3 fun c => { c with stage := 1 }).cdStage 3
    (t.logAt base.mgt.written).2.1 = logWord 3 0 none 0 ∧ (t.logAt base.mgt.written).2.2.1 = 3 ∧
      bits (t.logAt base.mgt.written).2.2.2.toNat 63 62 = 1 := by decide +kernel

/-- R17: an offset that holds no register reads as zero, and a write to it is recorded with HX_E_BAD_FIELD. -/
theorem test_hole :
    ((after (.registerWrite pf0 0x8000 1 false) base).func .a 0).errCode = E.badField := by decide +kernel

end Sys2Proof.Tests
end

section
/-! Offsets of BAR0 that hold no register (R17): what a read of one returns, and what a write to one does. -/

namespace Sys2Proof.Laws

open Sys2Proof Sys2Proof.Machine

/-- A path that comes through a function's BAR, or through the alias, acts as that function. -/
theorem func_eq_of_fn {p : Path} {q : Side} {f : Nat} (h : Path.fn p = some (q, f)) : Path.func p = f := by
  cases p with
  | bar r g ide => exact congrArg Prod.snd (Option.some.inj h)
  | die r => exact congrArg Prod.snd (Option.some.inj h)
  | mgmt r => exact nomatch h

/-- An error of an access that came through a function is recorded with that function. -/
theorem regErr_eq_regErrAt {p : Path} {q : Side} {f : Nat} (h : Path.fn p = some (q, f)) (s : State) (space o code : Nat) :
    s.regErr p space o code = s.regErrAt q f space o code := by
  unfold State.regErr; rw [h]

/-- A hole reads as zero, and the read changes nothing. -/
theorem readAt_hole {p : Path} {o : Nat} (h : placeAt (Path.func p) o = .nothing) (s : State) : s.readAt p o = (0, s) := by
  unfold State.readAt; rw [h]

/-- A hole takes no write. -/
theorem writeAt_hole {p : Path} {o : Nat} (h : placeAt (Path.func p) o = .nothing) (s : State) (v : Nat) :
    s.writeAt p o v = .error E.badField := by
  unfold State.writeAt; rw [h]

/-- A REGISTER_WRITE with nothing ahead of it is taken at once (R96). -/
theorem exec_registerWrite_at_once {s : State} {p : Path} (h : s.atOnce p = true) (o : Nat) (v : Word) (bad : Bool) :
    exec (.registerWrite p o v bad) s = .next (writeRegister p o v bad s) :=
  congrArg Host.Outcome.next (at_once h _ _)

/-- An aligned write that the offset's place rejects is recorded with the code of the rejection. -/
theorem writeRegister_of_error {s : State} {p : Path} {o code : Nat} {v : Word} (ha : Reaches s p) (ho : o % 8 = 0)
    (he : s.writeAt p o v.toNat = .error code) : writeRegister p o v false s = s.regErr p 0 o code := by
  obtain ⟨-, hdeaf, htdi⟩ := ha
  simp [writeRegister, hdeaf, htdi, ho, he]

/-- A write that reaches a hole changes nothing but the record of the rejection. -/
theorem exec_registerWrite_hole {s : State} {p : Path} {o : Nat} (ha : Reaches s p) (ho : o % 8 = 0)
    (h : placeAt (Path.func p) o = .nothing) (v : Word) :
    exec (.registerWrite p o v false) s = .next (s.regErr p 0 o E.badField) := by
  rw [exec_registerWrite_at_once ha.1, writeRegister_of_error ha ho (writeAt_hole h s _)]

/-- Settles O39: the place of the offset is a hole of the function by which the path acts, so the read finds zero, and the write's
rejection is recorded with that function. -/
theorem holesReadZeroAndTakeNoWrite : Obligations.HolesReadZeroAndTakeNoWrite := by
  intro s p q f o v hfn hole
  have hp : placeAt (Path.func p) o = .nothing := by rw [func_eq_of_fn hfn, hole]
  refine ⟨readAt_hole hp s, fun ha ho => ?_⟩
  rw [exec_registerWrite_hole ha ho hp, regErr_eq_regErrAt hfn]
  rfl

end Sys2Proof.Laws
end

section
/-! HX_CMD_STAMP_LAST (R39): what a read of it returns, and that the order point leaves in it each stamp that it issues. -/

namespace Sys2Proof.Laws

open Sys2Proof Sys2Proof.Machine

/-- The register stands in the shared-plane window, whose read looks at no selector of the path and at no port. -/
theorem peek_cmdStampLast (s : State) (p : Path) : s.peek p .cmdStampLast = s.time.last := by
  have hle : ¬ Reg.cmdStampLast.offset < 0x100000 := by decide
  have hlt : Reg.cmdStampLast.offset < 0x104000 := by decide
  unfold State.peek
  rw [if_neg (by omega), if_neg hle, if_pos hlt]
  rfl

/-- A read returns the last stamp and does nothing else. -/
theorem readReg_cmdStampLast (s : State) (p : Path) : s.readReg p .cmdStampLast = (s.time.last, s) :=
  congrArg (·, s) (peek_cmdStampLast s p)

/-- The order point of a lead twin keeps the stamp that it issues as the last one. -/
theorem stamp_last_of_lead {s : State} (h : s.lead ≠ none) : s.stamp.2.time.last = s.stamp.1 := by
  unfold State.stamp
  rw [if_neg (mt Option.isNone_iff_eq_none.mp h)]

/-- Settles O40: every path reads the same field of the order point, which each stamp of a lead twin sets, and which is all ones at
reset. -/
theorem stampLastShowsTheLastStamp : Obligations.StampLastShowsTheLastStamp := by
  refine ⟨readReg_cmdStampLast, fun s hlead => ⟨s.stamp.1, s.stamp.2, rfl, fun p => ?_⟩, readReg_cmdStampLast State.reset⟩
  rw [readReg_cmdStampLast, stamp_last_of_lead hlead]

end Sys2Proof.Laws
end

section
/-! FENCE_ALLOC and OBJ_CREATE on a full table (R508, R135): no index is free, so the command is rejected before it allocates. -/

namespace Sys2Proof.Laws

open Sys2Proof Sys2Proof.Machine

/-- Where no live fence bears a command's mark, no earlier allocation is taken over (R440). -/
theorem find_markedFence_eq_none {l : List (Nat × Fence)} {m : Nat × Nat × Nat} (h : ∀ y ∈ l, y.2.live = true → y.2.mark ≠ some m) :
    (l.find? fun (_, f) => f.live && f.mark = some m) = none := by
  refine List.find?_eq_none.mpr fun y hy hm => ?_
  obtain ⟨hlive, hmark⟩ := Bool.and_eq_true_iff.mp hm
  exact h y hy hlive (of_decide_eq_true hmark)

/-- The same for memory objects. -/
theorem find_markedObj_eq_none {l : List (Nat × Obj)} {m : Nat × Nat × Nat} (h : ∀ y ∈ l, y.2.state ≠ .free → y.2.mark ≠ some m) :
    (l.find? fun (_, o) => decide (o.state ≠ .free) && o.mark = some m) = none := by
  refine List.find?_eq_none.mpr fun y hy hm => ?_
  obtain ⟨hused, hmark⟩ := Bool.and_eq_true_iff.mp hm
  exact h y hy (of_decide_eq_true hused) (of_decide_eq_true hmark)

/-- No fence index is free. -/
def FencesFull (s : State) : Prop := ∀ i < 2 ^ 20, (s.fence i).live = true

/-- No object index is free. -/
def ObjsFull (s : State) : Prop := ∀ i < 2 ^ 22, (s.obj i).state ≠ .free

/-- The search for a fence index ends without one, wherever it starts. -/
theorem nextFree_fence_eq_none {s : State} (h : FencesFull s) (n i : Nat) :
    nextFree (fun i => (s.fence i).live) 1048576 n i = none :=
  nextFree_full _ _ (by decide) h n i

/-- The search for an object index ends without one, wherever it starts. -/
theorem nextFree_obj_eq_none {s : State} (h : ObjsFull s) (n i : Nat) :
    nextFree (fun i => decide ((s.obj i).state ≠ .free) || (s.obj i).scrub) 4194304 n i = none :=
  nextFree_full _ _ (by decide) (fun j hj => by simp [h j hj]) n i

/-- A fence may be shared in a group (R138, R459): in none, or in the context's own, which no other function's context shares while
the function's interface is locked. -/
def MayShare (s : State) (x : Ctx) (share : Nat) : Prop :=
  share = 0 ∨ (share = x.share ∧
    (s.tdiFrozen x.func = false ∨ ∀ y ∈ s.ctxs, y.2.eff ≠ .free → y.2.share = share → y.2.func = x.func))

/-- The group is the context's own. -/
theorem MayShare.own {s : State} {x : Ctx} {share : Nat} (h : MayShare s x share) : (share ≠ 0 && share ≠ x.share) = false := by
  rcases h with rfl | ⟨rfl, -⟩ <;> simp

/-- No locked interface would share the fence with another function. -/
theorem MayShare.unlocked {s : State} {x : Ctx} {share : Nat} (h : MayShare s x share) :
    (s.tdiFrozen x.func && (share ≠ 0 &&
      s.ctxs.any fun (_, y) => decide (y.eff ≠ .free) && decide (y.share = share) && decide (y.func ≠ x.func))) = false := by
  rcases h with rfl | ⟨-, hfrozen | hfunc⟩
  · simp
  · rw [hfrozen, Bool.false_and]
  · have hany : (s.ctxs.any fun (_, y) => decide (y.eff ≠ .free) && decide (y.share = share) && decide (y.func ≠ x.func)) = false :=
      List.any_eq_false.mpr fun y hy => by
        simp only [Bool.and_eq_true, decide_eq_true_eq]
        exact fun ⟨⟨hused, hshare⟩, hother⟩ => hother (hfunc y hy hused hshare)
    rw [hany, Bool.and_false, Bool.and_false]

/-- FENCE_ALLOC with no fence index free ends with HX_E_BAD_LENGTH. -/
theorem exec_fenceAlloc_full {s u : State} {r : CmdRef} {c : Cmd} (hb : CtlBegins s r 0x30 c u)
    (hshare : MayShare u (u.ctx (pf c.bytes 0 11 0)) (pf c.bytes 0 47 32))
    (hmark : ∀ y ∈ u.fences, y.2.live = true → y.2.mark ≠ some (c.mark r.queue)) (hfull : FencesFull u) :
    exec (.fenceAlloc r) s = .next (u.finish r.queue c.slot E.badLength 0) := by
  refine congrArg Host.Outcome.next ?_
  unfold fenceAlloc
  rw [ctl_eq hb]
  dsimp only
  rw [if_neg (Bool.eq_false_iff.mp hshare.own), if_neg (Bool.eq_false_iff.mp hshare.unlocked), find_markedFence_eq_none hmark]
  dsimp only
  rw [nextFree_fence_eq_none (s := (u.free 1048576).2) hfull]
  rfl

/-- OBJ_CREATE of a range and attributes that it may have, with no object index free, ends with HX_E_BAD_LENGTH. -/
theorem exec_objCreate_full {s u : State} {r : CmdRef} {c : Cmd} (hb : CtlBegins s r 0x20 c u)
    (hpool : pf c.bytes 24 15 0 % 2 = 1 → pf c.bytes 0 11 0 < 2)
    (hend : pf c.bytes 8 63 16 * 65536 + 65536 * pf c.bytes 16 24 0 ≤ tableBase)
    (hover : u.objOverlap (pf c.bytes 0 11 0) (pf c.bytes 8 63 16 * 65536) (65536 * pf c.bytes 16 24 0) = false)
    (hattr : windowAttrBad u (pf c.bytes 0 11 0) (pf c.bytes 8 63 16 * 65536) (pf c.bytes 16 24 0) (pf c.bytes 24 15 0) = false)
    (hmark : ∀ y ∈ u.objs, y.2.state ≠ .free → y.2.mark ≠ some (c.mark r.queue)) (hfull : ObjsFull u) :
    exec (.objCreate r) s = .next (u.finish r.queue c.slot E.badLength 0) := by
  refine congrArg Host.Outcome.next ?_
  unfold objCreateWith
  rw [ctl_eq hb]
  dsimp only
  rw [if_neg (by simpa using hpool), if_neg (by simpa [hover, hattr] using hend), find_markedObj_eq_none hmark]
  dsimp only
  rw [nextFree_obj_eq_none (s := (u.free 4194304).2) hfull]
  rfl

/-- Settles O31: each command ends in the state in which it began, with the code in its queue alone. That state has the objects of the
state before, as beginning a control command touches none. -/
theorem fullTablesAnswerBadLength : Obligations.FullTablesAnswerBadLength := by
  refine ⟨fun s u r c hb hshare hmark hfull => ⟨_, exec_fenceAlloc_full hb hshare hmark hfull, rfl, rfl⟩,
    fun s u r c hb hpool hend hover hattr hmark hfull => ⟨_, exec_objCreate_full hb hpool hend hover hattr hmark hfull, rfl, ?_⟩⟩
  exact (checked_same hb.1).objs rfl

end Sys2Proof.Laws
end

section
/-! What every step keeps, and what each row can change: the invariants and the frame of exec, from the frame law of each row. -/

namespace Sys2Proof.Laws

open Sys2Proof Sys2Proof.Machine

/-- A step answers a next state. -/
theorem exec_next (c : Instr) (s : State) : ∃ t, exec c s = .next t := by
  cases c
  case clearOos req path value => cases req <;> exact ⟨_, rfl⟩
  all_goals exact ⟨_, rfl⟩

/-- A step is a row's run on the state without the row, or nothing. -/
theorem step_cases {s t : State} (h : step s = .next t) :
    (s.pending = [] ∧ t = s) ∨ ∃ c l, s.pending = c :: l ∧ exec c { s with pending := l } = .next t := by
  unfold step at h
  split at h
  next hp => exact .inl ⟨hp, (Host.Outcome.next.inj h).symm⟩
  next c l hp => exact .inr ⟨c, l, hp, h⟩

/-- What every row keeps, a step keeps, where it does not look at the queue of commands. -/
theorem step_keeps {P : State → State → Prop} (hrefl : ∀ s, P s s)
    (hrow : ∀ (s t : State) (l : List Instr), Frame 4194303 { s with pending := l } t → P s t) {s t : State} (h : step s = .next t) : P s t := by
  rcases step_cases h with ⟨-, rfl⟩ | ⟨c, l, -, he⟩
  · exact hrefl _
  · exact hrow s t l (exec_frame c _ he)

/-- Settles O1: both clauses are the two arms of `step`. -/
theorem stepRunsFrontCommandOrIdles : Obligations.StepRunsFrontCommandOrIdles :=
  ⟨fun _ _ _ => rfl, fun s h => by unfold step; rw [h]⟩

/-- Settles O2: each arm of the dispatcher answers a next state, and no row changes the queue that it is given. -/
theorem stepAnswersAndTakesOnlyTheFront : Obligations.StepAnswersAndTakesOnlyTheFront := by
  intro s
  unfold step
  rcases hp : s.pending with _ | ⟨c, l⟩
  · exact ⟨s, rfl, hp⟩
  · obtain ⟨t, ht⟩ := exec_next c { s with pending := l }
    exact ⟨t, ht, (exec_frame c _ ht).pending⟩

/-- Settles O4: every row's frame keeps the form of memory. -/
theorem everyStepKeepsMemoryCanonical : Obligations.EveryStepKeepsMemoryCanonical :=
  fun _ _ hs h => step_keeps (P := fun s t => s.mem.wf = true → t.mem.wf = true) (fun _ => id) (fun _ _ _ f => f.wf) h hs

/-- That at most one twin leads, as the frame laws say it. -/
theorem oneLead_iff (s : State) : OneLead s ↔ ¬(s.leads .a = true ∧ s.leads .b = true) := by
  unfold OneLead; rw [← Bool.and_eq_true_iff, Bool.not_eq_true]

/-- Settles O5: every row's frame keeps one lead, which does not depend on the queue of commands. -/
theorem everyStepKeepsAtMostOneLead : Obligations.EveryStepKeepsAtMostOneLead := by
  intro s t hs h
  rw [← oneLead_iff] at hs ⊢
  exact step_keeps (P := fun s t => OneLead s → OneLead t) (fun _ => id) (fun _ _ _ f => f.lead) h hs

/-- Settles O6: every row's frame keeps the lock and does not lower MIN_SVN. -/
theorem noStepUnblowsAFuse : Obligations.NoStepUnblowsAFuse :=
  fun _ _ h => step_keeps (P := fun s t => (s.mgt.credLock = true → t.mgt.credLock = true) ∧ s.mgt.minSvn ≤ t.mgt.minSvn)
    (fun _ => ⟨id, Nat.le_refl _⟩) (fun _ _ _ f => ⟨f.lock, f.svn⟩) h

/-- Settles O7: memory is empty, both twins are OUT_OF_SERVICE, and no command waits. -/
theorem resetMeetsTheInvariants : Obligations.ResetMeetsTheInvariants := by
  refine ⟨rfl, ?_, rfl⟩
  decide

/-- The bit of a part in the masks of the frame laws: the parts follow the queue of commands in their order. -/
def partBit (p : Part) : Nat := p.ctorIdx + 1

/-- The parts of State. -/
def allParts : List Part :=
  [.time, .twins, .ctxs, .queues, .fences, .objs, .xlt, .ports, .funcs, .irq, .plan, .engines, .rst, .clk, .mgt, .coh, .fab, .mem,
    .sels, .out, .freeCtr]

theorem mem_allParts (p : Part) : p ∈ allParts := by
  cases p <;> decide

/-- A mask has the bits of listed parts alone. -/
def covers (l : List Part) (m : Nat) : Bool := allParts.all fun p => l.contains p || !m.testBit (partBit p)

theorem testBit_of_covers {l : List Part} {m : Nat} (h : covers l m = true) {p : Part} (hp : p ∉ l) : m.testBit (partBit p) = false := by
  have hall := List.all_eq_true.mp h p (mem_allParts p)
  simpa [hp] using hall

/-- A frame within listed parts leaves every other part. -/
theorem same_of_frame {m : Nat} {l : List Part} {s t : State} (f : Frame m s t) (h : covers l m = true) : Same l s t := by
  have off : ∀ p, p ∉ l → m.testBit (partBit p) = false := fun _ => testBit_of_covers h
  exact f.same (off _) (off _) (off _) (off _) (off _) (off _) (off _) (off _) (off _) (off _) (off _) (off _) (off _) (off _) (off _)
    (off _) (off _) (off _) (off _) (off _) (off _)

/-- Settles O3: the mask of each row's frame law has the bits of the parts that `touches` names alone. -/
theorem eachRowTouchesOnlyItsParts : Obligations.EachRowTouchesOnlyItsParts := by
  intro c s t h
  cases c with
  | powerUp => exact same_of_frame (execPowerUp_frame (he := h)) rfl
  | ioscTrim => exact same_of_frame (execIoscTrim_frame (he := h)) rfl
  | xtalCheck => exact same_of_frame (execXtalCheck_frame (he := h)) rfl
  | pllLocked => exact same_of_frame (execPllLocked_frame (he := h)) rfl
  | sharedMbistDone => exact same_of_frame (execSharedMbistDone_frame (he := h)) rfl
  | imageLoadDone => exact same_of_frame (execImageLoadDone_frame (he := h)) rfl
  | imageRemeasureDone => exact same_of_frame (execImageRemeasureDone_frame (he := h)) rfl
  | selftestDone => exact same_of_frame (execSelftestDone_frame (he := h)) rfl
  | twinResetRelease => exact same_of_frame (execTwinResetRelease_frame (he := h)) rfl
  | tickBoundary => exact same_of_frame (execTickBoundary_frame (he := h)) rfl
  | throttleRequest => exact same_of_frame (execThrottleRequest_frame (he := h)) rfl
  | detachForced => exact same_of_frame (execDetachForced_frame (he := h)) rfl
  | discoveryPhaseEnd => exact same_of_frame (execDiscoveryPhaseEnd_frame (he := h)) rfl
  | ceWindowStart => exact same_of_frame (execCeWindowStart_frame (he := h)) rfl
  | walkComplete => exact same_of_frame (execWalkComplete_frame (he := h)) rfl
  | atsTranslationCompletion => exact same_of_frame (execAtsTranslationCompletion_frame (he := h)) rfl
  | atsInvalidationRequest => exact same_of_frame (execAtsInvalidationRequest_frame (he := h)) rfl
  | atsInvalidationCompletion => exact same_of_frame (execAtsInvalidationCompletion_frame (he := h)) rfl
  | prgResponse => exact same_of_frame (execPrgResponse_frame (he := h)) rfl
  | priTimeout => exact same_of_frame (execPriTimeout_frame (he := h)) rfl
  | stallLimit => exact same_of_frame (execStallLimit_frame (he := h)) rfl
  | faultRespRetry => exact same_of_frame (execFaultRespRetry_frame (he := h)) rfl
  | faultRespFail => exact same_of_frame (execFaultRespFail_frame (he := h)) rfl
  | xltProbe => exact same_of_frame (execXltProbe_frame (he := h)) rfl
  | fringProgram => exact same_of_frame (execFringProgram_frame (he := h)) rfl
  | doorbell => exact same_of_frame (execDoorbell_frame (he := h)) rfl
  | slotFetch => exact same_of_frame (execSlotFetch_frame (he := h)) rfl
  | predicateReadComplete => exact same_of_frame (execPredicateReadComplete_frame (he := h)) rfl
  | commandComplete => exact same_of_frame (execCommandComplete_frame (he := h)) rfl
  | nop => exact same_of_frame (execNop_frame (he := h)) rfl
  | fenceSignal => exact same_of_frame (execFenceSignal_frame (he := h)) rfl
  | fenceWait => exact same_of_frame (execFenceWait_frame (he := h)) rfl
  | writeInline => exact same_of_frame (execWriteInline_frame (he := h)) rfl
  | barrier => exact same_of_frame (execBarrier_frame (he := h)) rfl
  | copy => exact same_of_frame (execCopy_frame (he := h)) rfl
  | copy2d => exact same_of_frame (execCopy2d_frame (he := h)) rfl
  | gather => exact same_of_frame (execGather_frame (he := h)) rfl
  | scatter => exact same_of_frame (execScatter_frame (he := h)) rfl
  | fill => exact same_of_frame (execFill_frame (he := h)) rfl
  | quantize => exact same_of_frame (execQuantize_frame (he := h)) rfl
  | dequantize => exact same_of_frame (execDequantize_frame (he := h)) rfl
  | accumulate => exact same_of_frame (execAccumulate_frame (he := h)) rfl
  | compact => exact same_of_frame (execCompact_frame (he := h)) rfl
  | expand => exact same_of_frame (execExpand_frame (he := h)) rfl
  | dispatch => exact same_of_frame (execDispatch_frame (he := h)) rfl
  | combine => exact same_of_frame (execCombine_frame (he := h)) rfl
  | allreduce => exact same_of_frame (execAllreduce_frame (he := h)) rfl
  | reduceScatter => exact same_of_frame (execReduceScatter_frame (he := h)) rfl
  | allgather => exact same_of_frame (execAllgather_frame (he := h)) rfl
  | alltoall => exact same_of_frame (execAlltoall_frame (he := h)) rfl
  | broadcast => exact same_of_frame (execBroadcast_frame (he := h)) rfl
  | collectiveBarrier => exact same_of_frame (execCollectiveBarrier_frame (he := h)) rfl
  | collTimeout => exact same_of_frame (execCollTimeout_frame (he := h)) rfl
  | map => exact same_of_frame (execMap_frame (he := h)) rfl
  | unmap => exact same_of_frame (execUnmap_frame (he := h)) rfl
  | invalidate => exact same_of_frame (execInvalidate_frame (he := h)) rfl
  | coreInvalidateDone => exact same_of_frame (execCoreInvalidateDone_frame (he := h)) rfl
  | launch => exact same_of_frame (execLaunch_frame (he := h)) rfl
  | launchAnswer => exact same_of_frame (execLaunchAnswer_frame (he := h)) rfl
  | open_ => exact same_of_frame (execOpen_frame (he := h)) rfl
  | start => exact same_of_frame (execStart_frame (he := h)) rfl
  | park => exact same_of_frame (execPark_frame (he := h)) rfl
  | resume => exact same_of_frame (execResume_frame (he := h)) rfl
  | setHome => exact same_of_frame (execSetHome_frame (he := h)) rfl
  | close => exact same_of_frame (execClose_frame (he := h)) rfl
  | kill => exact same_of_frame (execKill_frame (he := h)) rfl
  | drainLimit => exact same_of_frame (execDrainLimit_frame (he := h)) rfl
  | qCreate => exact same_of_frame (execQCreate_frame (he := h)) rfl
  | qPark => exact same_of_frame (execQPark_frame (he := h)) rfl
  | qResume => exact same_of_frame (execQResume_frame (he := h)) rfl
  | qStop => exact same_of_frame (execQStop_frame (he := h)) rfl
  | qDestroy => exact same_of_frame (execQDestroy_frame (he := h)) rfl
  | objCreate => exact same_of_frame (execObjCreate_frame (he := h)) rfl
  | objFree => exact same_of_frame (execObjFree_frame (he := h)) rfl
  | objectFreed => exact same_of_frame (execObjectFreed_frame (he := h)) rfl
  | fenceAlloc => exact same_of_frame (execFenceAlloc_frame (he := h)) rfl
  | fenceReset => exact same_of_frame (execFenceReset_frame (he := h)) rfl
  | fenceFree => exact same_of_frame (execFenceFree_frame (he := h)) rfl
  | stage => exact same_of_frame (execStage_frame (he := h)) rfl
  | planUnitAck => exact same_of_frame (execPlanUnitAck_frame (he := h)) rfl
  | planLoadTimeout => exact same_of_frame (execPlanLoadTimeout_frame (he := h)) rfl
  | commit => exact same_of_frame (execCommit_frame (he := h)) rfl
  | planStagingCheck => exact same_of_frame (execPlanStagingCheck_frame (he := h)) rfl
  | planGroupDecision => exact same_of_frame (execPlanGroupDecision_frame (he := h)) rfl
  | planDecisionMissed => exact same_of_frame (execPlanDecisionMissed_frame (he := h)) rfl
  | withdraw => exact same_of_frame (execWithdraw_frame (he := h)) rfl
  | release => exact same_of_frame (execRelease_frame (he := h)) rfl
  | selftest => exact same_of_frame (execSelftest_frame (he := h)) rfl
  | abort => exact same_of_frame (execAbort_frame (he := h)) rfl
  | intentNoticeAck => exact same_of_frame (execIntentNoticeAck_frame (he := h)) rfl
  | linkDown => exact same_of_frame (execLinkDown_frame (he := h)) rfl
  | linkTrainingComplete => exact same_of_frame (execLinkTrainingComplete_frame (he := h)) rfl
  | holdWindowExpiry => exact same_of_frame (execHoldWindowExpiry_frame (he := h)) rfl
  | portReset => exact same_of_frame (execPortReset_frame (he := h)) rfl
  | flr => exact same_of_frame (execFlr_frame (he := h)) rfl
  | flrComplete => exact same_of_frame (execFlrComplete_frame (he := h)) rfl
  | vfEnableClear => exact same_of_frame (execVfEnableClear_frame (he := h)) rfl
  | d3hotEntry => exact same_of_frame (execD3hotEntry_frame (he := h)) rfl
  | d0Return => exact same_of_frame (execD0Return_frame (he := h)) rfl
  | busMasterEnableClear => exact same_of_frame (execBusMasterEnableClear_frame (he := h)) rfl
  | inboundBar4Request => exact same_of_frame (execInboundBar4Request_frame (he := h)) rfl
  | hostCompletion => exact same_of_frame (execHostCompletion_frame (he := h)) rfl
  | hostCompletionTimeout => exact same_of_frame (execHostCompletionTimeout_frame (he := h)) rfl
  | flushReadComplete => exact same_of_frame (execFlushReadComplete_frame (he := h)) rfl
  | flushReadTimeout => exact same_of_frame (execFlushReadTimeout_frame (he := h)) rfl
  | placeCommit => exact same_of_frame (execPlaceCommit_frame (he := h)) rfl
  | placeClear => exact same_of_frame (execPlaceClear_frame (he := h)) rfl
  | journalStatusClear => exact same_of_frame (execJournalStatusClear_frame (he := h)) rfl
  | objQuerySelect => exact same_of_frame (execObjQuerySelect_frame (he := h)) rfl
  | xltPartCommit => exact same_of_frame (execXltPartCommit_frame (he := h)) rfl
  | xltStatusClear => exact same_of_frame (execXltStatusClear_frame (he := h)) rfl
  | staleGenClear => exact same_of_frame (execStaleGenClear_frame (he := h)) rfl
  | ceCountClear => exact same_of_frame (execCeCountClear_frame (he := h)) rfl
  | planEpochClear => exact same_of_frame (execPlanEpochClear_frame (he := h)) rfl
  | regErrClear => exact same_of_frame (execRegErrClear_frame (he := h)) rfl
  | dipClear => exact same_of_frame (execDipClear_frame (he := h)) rfl
  | cohCountClear => exact same_of_frame (execCohCountClear_frame (he := h)) rfl
  | cohCount1Clear => exact same_of_frame (execCohCount1Clear_frame (he := h)) rfl
  | fabCountClear => exact same_of_frame (execFabCountClear_frame (he := h)) rfl
  | registerWrite => exact same_of_frame (execRegisterWrite_frame (he := h)) rfl
  | bar0BadAccess => exact same_of_frame (execBar0BadAccess_frame (he := h)) rfl
  | eventRaised => exact same_of_frame (execEventRaised_frame (he := h)) rfl
  | moderationRelease => exact same_of_frame (execModerationRelease_frame (he := h)) rfl
  | vectorDelivery => exact same_of_frame (execVectorDelivery_frame (he := h)) rfl
  | irqAck => exact same_of_frame (execIrqAck_frame (he := h)) rfl
  | irqIdle => exact same_of_frame (execIrqIdle_frame (he := h)) rfl
  | irqDisableWrite => exact same_of_frame (execIrqDisableWrite_frame (he := h)) rfl
  | irqRouteCommit => exact same_of_frame (execIrqRouteCommit_frame (he := h)) rfl
  | standbyRequest => exact same_of_frame (execStandbyRequest_frame (he := h)) rfl
  | wakeSourceFire => exact same_of_frame (execWakeSourceFire_frame (he := h)) rfl
  | faultOccurrence => exact same_of_frame (execFaultOccurrence_frame (he := h)) rfl
  | graceTimerExpiry => exact same_of_frame (execGraceTimerExpiry_frame (he := h)) rfl
  | fltAck => exact same_of_frame (execFltAck_frame (he := h)) rfl
  | safeState => exact same_of_frame (execSafeState_frame (he := h)) rfl
  | detach => exact same_of_frame (execDetach_frame (he := h)) rfl
  | detachWithdraw => exact same_of_frame (execDetachWithdraw_frame (he := h)) rfl
  | twinReturn => exact same_of_frame (execTwinReturn_frame (he := h)) rfl
  | clearOos => exact same_of_frame (execClearOos_frame (he := h)) rfl
  | cdReset => exact same_of_frame (execCdReset_frame (he := h)) rfl
  | cdReturn => exact same_of_frame (execCdReturn_frame (he := h)) rfl
  | sampleReturn => exact same_of_frame (execSampleReturn_frame (he := h)) rfl
  | sampleTimeout => exact same_of_frame (execSampleTimeout_frame (he := h)) rfl
  | sampleDataRead => exact same_of_frame (execSampleDataRead_frame (he := h)) rfl
  | pwrwarnAssert => exact same_of_frame (execPwrwarnAssert_frame (he := h)) rfl
  | pwrwarnClear => exact same_of_frame (execPwrwarnClear_frame (he := h)) rfl
  | powerFailReset => exact same_of_frame (execPowerFailReset_frame (he := h)) rfl
  | clockSourceWrite => exact same_of_frame (execClockSourceWrite_frame (he := h)) rfl
  | clkStatusRead => exact same_of_frame (execClkStatusRead_frame (he := h)) rfl
  | clockGateWrite => exact same_of_frame (execClockGateWrite_frame (he := h)) rfl
  | pllLossOfLock => exact same_of_frame (execPllLossOfLock_frame (he := h)) rfl
  | xtalLost => exact same_of_frame (execXtalLost_frame (he := h)) rfl
  | fcntGo => exact same_of_frame (execFcntGo_frame (he := h)) rfl
  | fcntDone => exact same_of_frame (execFcntDone_frame (he := h)) rfl
  | fcntTimeout => exact same_of_frame (execFcntTimeout_frame (he := h)) rfl
  | bistGo => exact same_of_frame (execBistGo_frame (he := h)) rfl
  | hello => exact same_of_frame (execHello_frame (he := h)) rfl
  | probe => exact same_of_frame (execProbe_frame (he := h)) rfl
  | census => exact same_of_frame (execCensus_frame (he := h)) rfl
  | fabricMapPacket => exact same_of_frame (execFabricMapPacket_frame (he := h)) rfl
  | beacon => exact same_of_frame (execBeacon_frame (he := h)) rfl
  | beaconLoss => exact same_of_frame (execBeaconLoss_frame (he := h)) rfl
  | fabricJoin => exact same_of_frame (execFabricJoin_frame (he := h)) rfl
  | global_ => exact same_of_frame (execGlobal_frame (he := h)) rfl
  | fabricLinkDown => exact same_of_frame (execFabricLinkDown_frame (he := h)) rfl
  | fabricLinkUp => exact same_of_frame (execFabricLinkUp_frame (he := h)) rfl
  | write => exact same_of_frame (execWrite_frame (he := h)) rfl
  | read => exact same_of_frame (execRead_frame (he := h)) rfl
  | rdata => exact same_of_frame (execRdata_frame (he := h)) rfl
  | nak => exact same_of_frame (execNak_frame (he := h)) rfl
  | ack => exact same_of_frame (execAck_frame (he := h)) rfl
  | ackTimeout => exact same_of_frame (execAckTimeout_frame (he := h)) rfl
  | fixedDelayDelivery => exact same_of_frame (execFixedDelayDelivery_frame (he := h)) rfl
  | pathfence => exact same_of_frame (execPathfence_frame (he := h)) rfl
  | pfack => exact same_of_frame (execPfack_frame (he := h)) rfl
  | fenceUpd => exact same_of_frame (execFenceUpd_frame (he := h)) rfl
  | inval => exact same_of_frame (execInval_frame (he := h)) rfl
  | invalDone => exact same_of_frame (execInvalDone_frame (he := h)) rfl
  | grantCommit => exact same_of_frame (execGrantCommit_frame (he := h)) rfl
  | grantClear => exact same_of_frame (execGrantClear_frame (he := h)) rfl
  | grantOffer => exact same_of_frame (execGrantOffer_frame (he := h)) rfl
  | grantRevoke => exact same_of_frame (execGrantRevoke_frame (he := h)) rfl
  | proxyBind => exact same_of_frame (execProxyBind_frame (he := h)) rfl
  | proxyUnbind => exact same_of_frame (execProxyUnbind_frame (he := h)) rfl
  | groupCommit => exact same_of_frame (execGroupCommit_frame (he := h)) rfl
  | groupClear => exact same_of_frame (execGroupClear_frame (he := h)) rfl
  | groupDigestAnswer => exact same_of_frame (execGroupDigestAnswer_frame (he := h)) rfl
  | groupAgreeTimeout => exact same_of_frame (execGroupAgreeTimeout_frame (he := h)) rfl
  | routeCommit => exact same_of_frame (execRouteCommit_frame (he := h)) rfl
  | repin => exact same_of_frame (execRepin_frame (he := h)) rfl
  | globalSnapshot => exact same_of_frame (execGlobalSnapshot_frame (he := h)) rfl
  | globalReset => exact same_of_frame (execGlobalReset_frame (he := h)) rfl
  | collData => exact same_of_frame (execCollData_frame (he := h)) rfl
  | collCtl => exact same_of_frame (execCollCtl_frame (he := h)) rfl
  | cohDomainCommit => exact same_of_frame (execCohDomainCommit_frame (he := h)) rfl
  | cohPartCommit => exact same_of_frame (execCohPartCommit_frame (he := h)) rfl
  | cohDirProbe => exact same_of_frame (execCohDirProbe_frame (he := h)) rfl
  | agentRead => exact same_of_frame (execAgentRead_frame (he := h)) rfl
  | agentWrite => exact same_of_frame (execAgentWrite_frame (he := h)) rfl
  | agentEvict => exact same_of_frame (execAgentEvict_frame (he := h)) rfl
  | winHoldExpiry => exact same_of_frame (execWinHoldExpiry_frame (he := h)) rfl
  | rds => exact same_of_frame (execRds_frame (he := h)) rfl
  | rdx => exact same_of_frame (execRdx_frame (he := h)) rfl
  | upg => exact same_of_frame (execUpg_frame (he := h)) rfl
  | puts => exact same_of_frame (execPuts_frame (he := h)) rfl
  | pute => exact same_of_frame (execPute_frame (he := h)) rfl
  | puto => exact same_of_frame (execPuto_frame (he := h)) rfl
  | putm => exact same_of_frame (execPutm_frame (he := h)) rfl
  | fwds => exact same_of_frame (execFwds_frame (he := h)) rfl
  | fwdx => exact same_of_frame (execFwdx_frame (he := h)) rfl
  | inv => exact same_of_frame (execInv_frame (he := h)) rfl
  | snpcur => exact same_of_frame (execSnpcur_frame (he := h)) rfl
  | snprecall => exact same_of_frame (execSnprecall_frame (he := h)) rfl
  | datas => exact same_of_frame (execDatas_frame (he := h)) rfl
  | datae => exact same_of_frame (execDatae_frame (he := h)) rfl
  | datao => exact same_of_frame (execDatao_frame (he := h)) rfl
  | datam => exact same_of_frame (execDatam_frame (he := h)) rfl
  | upgack => exact same_of_frame (execUpgack_frame (he := h)) rfl
  | grant => exact same_of_frame (execGrant_frame (he := h)) rfl
  | ackdone => exact same_of_frame (execAckdone_frame (he := h)) rfl
  | invack => exact same_of_frame (execInvack_frame (he := h)) rfl
  | fwddone => exact same_of_frame (execFwddone_frame (he := h)) rfl
  | snprsp => exact same_of_frame (execSnprsp_frame (he := h)) rfl
  | miss => exact same_of_frame (execMiss_frame (he := h)) rfl
  | putack => exact same_of_frame (execPutack_frame (he := h)) rfl
  | staleputack => exact same_of_frame (execStaleputack_frame (he := h)) rfl
  | fwddoneack => exact same_of_frame (execFwddoneack_frame (he := h)) rfl
  | blockingOpStart => exact same_of_frame (execBlockingOpStart_frame (he := h)) rfl
  | regRead => exact same_of_frame (execRegRead_frame (he := h)) rfl
  | regWrite => exact same_of_frame (execRegWrite_frame (he := h)) rfl
  | logRead => exact same_of_frame (execLogRead_frame (he := h)) rfl
  | sensorRead => exact same_of_frame (execSensorRead_frame (he := h)) rfl
  | flashErase => exact same_of_frame (execFlashErase_frame (he := h)) rfl
  | flashWrite => exact same_of_frame (execFlashWrite_frame (he := h)) rfl
  | flashRead => exact same_of_frame (execFlashRead_frame (he := h)) rfl
  | fwLoad => exact same_of_frame (execFwLoad_frame (he := h)) rfl
  | fwRestore => exact same_of_frame (execFwRestore_frame (he := h)) rfl
  | debugRead => exact same_of_frame (execDebugRead_frame (he := h)) rfl
  | debugWrite => exact same_of_frame (execDebugWrite_frame (he := h)) rfl
  | ccHalt => exact same_of_frame (execCcHalt_frame (he := h)) rfl
  | credSet => exact same_of_frame (execCredSet_frame (he := h)) rfl
  | credLock => exact same_of_frame (execCredLock_frame (he := h)) rfl
  | svnRaise => exact same_of_frame (execSvnRaise_frame (he := h)) rfl
  | measExtend => exact same_of_frame (execMeasExtend_frame (he := h)) rfl
  | groupDigestReceipt => exact same_of_frame (execGroupDigestReceipt_frame (he := h)) rfl
  | homeTimeout => exact same_of_frame (execHomeTimeout_frame (he := h)) rfl
  | rlcHomeTimeout => exact same_of_frame (execRlcHomeTimeout_frame (he := h)) rfl
  | memrd => exact same_of_frame (execMemrd_frame (he := h)) rfl
  | memrddata => exact same_of_frame (execMemrddata_frame (he := h)) rfl
  | meminv => exact same_of_frame (execMeminv_frame (he := h)) rfl
  | memclnevct => exact same_of_frame (execMemclnevct_frame (he := h)) rfl
  | memwr => exact same_of_frame (execMemwr_frame (he := h)) rfl
  | biconflict => exact same_of_frame (execBiconflict_frame (he := h)) rfl
  | birsp => exact same_of_frame (execBirsp_frame (he := h)) rfl
  | getVersion => exact same_of_frame (execGetVersion_frame (he := h)) rfl
  | getCapabilities => exact same_of_frame (execGetCapabilities_frame (he := h)) rfl
  | negotiateAlgorithms => exact same_of_frame (execNegotiateAlgorithms_frame (he := h)) rfl
  | getDigests => exact same_of_frame (execGetDigests_frame (he := h)) rfl
  | getCertificate => exact same_of_frame (execGetCertificate_frame (he := h)) rfl
  | challenge => exact same_of_frame (execChallenge_frame (he := h)) rfl
  | getMeasurements => exact same_of_frame (execGetMeasurements_frame (he := h)) rfl
  | keyExchange => exact same_of_frame (execKeyExchange_frame (he := h)) rfl
  | finish => exact same_of_frame (execFinish_frame (he := h)) rfl
  | heartbeat => exact same_of_frame (execHeartbeat_frame (he := h)) rfl
  | keyUpdate => exact same_of_frame (execKeyUpdate_frame (he := h)) rfl
  | endSession => exact same_of_frame (execEndSession_frame (he := h)) rfl
  | spdmUnsupportedRequest => exact same_of_frame (execSpdmUnsupportedRequest_frame (he := h)) rfl
  | keyProg => exact same_of_frame (execKeyProg_frame (he := h)) rfl
  | kSetGo => exact same_of_frame (execKSetGo_frame (he := h)) rfl
  | kSetStop => exact same_of_frame (execKSetStop_frame (he := h)) rfl
  | ideIntegrityFailure => exact same_of_frame (execIdeIntegrityFailure_frame (he := h)) rfl
  | lockInterface => exact same_of_frame (execLockInterface_frame (he := h)) rfl
  | startInterface => exact same_of_frame (execStartInterface_frame (he := h)) rfl
  | stopInterface => exact same_of_frame (execStopInterface_frame (he := h)) rfl
  | deviceInterfaceReport => exact same_of_frame (execDeviceInterfaceReport_frame (he := h)) rfl
  | tdiViolation => exact same_of_frame (execTdiViolation_frame (he := h)) rfl
  | sensorSample => exact same_of_frame (execSensorSample_frame (he := h)) rfl
  | logMirrorWrite => exact same_of_frame (execLogMirrorWrite_frame (he := h)) rfl
  | configurationRequest => exact same_of_frame (execConfigurationRequest_frame (he := h)) rfl
  | imageRegionWriteDone => exact same_of_frame (execImageRegionWriteDone_frame (he := h)) rfl
  | linkReportedUp => exact same_of_frame (execLinkReportedUp_frame (he := h)) rfl
end Sys2Proof.Laws
end

section
/-! The state after reset, the start-up sequencer, the clock monitor and the supply (13, 15). -/

namespace Sys2Proof.Laws

open Sys2Proof Sys2Proof.Machine

set_option maxRecDepth 8000

/-- A table that lists one key holds the default elsewhere. -/
theorem tbl_get_single_ne {α : Type} (d v : α) {k n : Nat} (h : n ≠ k) : Tbl.get d [(k, v)] n = d := by
  unfold Tbl.get Tbl.find
  rw [if_neg h]
  split <;> rfl

/-- A table that lists the first two keys holds the default at every later key. -/
theorem tbl_get_pair_ge {α : Type} (d v w : α) {n : Nat} (h : 2 ≤ n) : Tbl.get d [(0, v), (1, w)] n = d := by
  unfold Tbl.get Tbl.find Tbl.find Tbl.find
  simp [show n ≠ 0 by omega, show n ≠ 1 by omega, show ¬ n < 1 by omega]

/-- Settles O8: the tables of the reset state list the start plan, the privileged contexts and the privileged queues alone. -/
theorem resetLeavesTheSpecifiedState : Obligations.ResetLeavesTheSpecifiedState := by
  have hslot : ∀ n, n ≠ 0 → State.reset.slot n = PlanSlot.none := fun n h => tbl_get_single_ne _ _ h
  have hctx : ∀ n, 2 ≤ n → State.reset.ctx n = Ctx.none := fun n h => tbl_get_pair_ge _ _ _ h
  have hqueue : ∀ n, 2 ≤ n → State.reset.queue n = Queue.none := fun n h => tbl_get_pair_ge _ _ _ h
  refine ⟨rfl, rfl, rfl, rfl, fun n h => congrArg _ (hslot n h), fun n h => congrArg _ (hctx n h), rfl, rfl,
    fun n h => congrArg _ (hqueue n h), fun _ => rfl, fun _ => rfl, fun _ => rfl, fun _ _ => rfl, fun _ => rfl, ?_, ?_, fun _ => rfl,
    fun _ _ => ⟨rfl, rfl⟩, rfl, rfl, rfl, rfl, rfl⟩
  · intro t; cases t <;> rfl
  · intro p; cases p <;> rfl

/-- The start-up sequencer in the phase that an event expects. -/
theorem atPhase_eq {s : State} {n : Nat} (h : s.clk.phase = n) (k : State → State) : s.atPhase n k = k s := by
  unfold State.atPhase; rw [if_pos h]

/-- A valid checkpoint is copied in four records. -/
theorem copyCheckpoint_written (s : State) :
    s.copyCheckpoint.mgt.written = s.mgt.written + (if ckptOk s.rst.ckpt then 4 else 0) := by
  unfold State.copyCheckpoint
  cases ckptOk s.rst.ckpt <;> rfl

/-- Copying the checkpoint writes the log alone. -/
theorem copyCheckpoint_mgt (s : State) : Frame 32768 s s.copyCheckpoint := State.copyCheckpoint_frame s rfl Frame.rfl

theorem pllLocked_starts {s : State} (h : s.clk.phase = 3) : ∃ t, exec .pllLocked s = .next t ∧
    t.clk = { s.clk with phase := 4, locks := 255, mpll := true, mclk := true } ∧
    (∀ x, t.twin x = { s.twin x with loading := true }) ∧
    t.mgt.written = s.mgt.written + (if ckptOk s.rst.ckpt then 4 else 0) ∧ Same [.twins, .clk, .mgt] s t := by
  refine ⟨_, rfl, ?_⟩
  have hsame := same_of_frame (l := [.twins, .clk, .mgt]) (pllLocked_frame (M := 49156) s rfl Frame.rfl) rfl
  unfold pllLocked at hsame ⊢
  rw [atPhase_eq h] at hsame ⊢
  generalize hv : (s.modClk fun c => { c with phase := 4, locks := 255, mpll := true, mclk := true }) = v at hsame ⊢
  have hfr := copyCheckpoint_mgt v
  refine ⟨?_, fun x => ?_, ?_, hsame⟩
  · exact (hfr.clk rfl).trans (by rw [← hv]; rfl)
  · have htwin : v.copyCheckpoint.twin x = s.twin x := twin_of_twins ((hfr.twins rfl).trans (by rw [← hv]; rfl)) x
    cases x <;> exact congrArg (fun w : Twin => { w with loading := true }) htwin
  · exact (copyCheckpoint_written v).trans (by rw [← hv]; rfl)

/-- The kept generation stands in the image store. -/
theorem keptGen_congr {s t : State} (h : s.mgt = t.mgt) : s.keptGen = t.keptGen := by
  unfold State.keptGen State.flashRead
  rw [h]

/-- Settles O9: each event runs its effect in the phase that expects it; the crystal's count decides which of three effects. -/
theorem startUpSequenceRuns : Obligations.StartUpSequenceRuns := by
  refine ⟨fun s x h => ?_, fun s h => ?_, fun s n h hlo hhi => ?_, fun s n h hn hc => ?_, fun s n h hn hc => ?_,
    fun s h => pllLocked_starts h, fun s h => ?_, fun s g h hg => ?_⟩
  · refine congrArg Host.Outcome.next ((atPhase_eq h _).trans ?_)
    dsimp only
    rw [keptGen_congr (s := s.modClk _) (t := s) rfl]
    rfl
  · exact congrArg Host.Outcome.next (atPhase_eq h _)
  · exact congrArg Host.Outcome.next ((atPhase_eq h _).trans (if_pos ⟨hlo, hhi⟩))
  · exact congrArg Host.Outcome.next ((atPhase_eq h _).trans ((if_neg (by omega)).trans (if_pos (by omega))))
  · exact congrArg Host.Outcome.next ((atPhase_eq h _).trans ((if_neg (by omega)).trans (if_neg (by omega))))
  · exact congrArg Host.Outcome.next (atPhase_eq h _)
  · refine congrArg Host.Outcome.next ((atPhase_eq h _).trans ?_)
    have hne : g ≠ expectSig 2 2 := hg
    simp only [hne, if_false]
    rfl

/-- Where a command leads. -/
theorem goes_to {c : Instr} {s t : State} {P : State → Prop} (he : exec c s = .next t) (hp : P t) : Goes c s P := ⟨t, he, hp⟩

/-- Turning gates leaves the twins. -/
theorem twinGates_twin (s : State) (t x : Side) (on : Bool) : (s.twinGates t on).twin x = s.twin x := rfl

/-- A self-test that starts: the twin is awake and its test is named. -/
theorem startTest_twin (s : State) (t : Side) (o : TestOrigin) (k : Nat) :
    (s.startTest t o k).twin t = { s.twin t with standby := false, test := some (o, k) } := by
  unfold State.startTest
  rw [twinGates_twin, State.modTwin_twin, wakeTwin_twin]

/-- The other twin is not tested. -/
theorem startTest_other (s : State) (t : Side) (o : TestOrigin) (k : Nat) : (s.startTest t o k).twin t.other = s.twin t.other := by
  unfold State.startTest
  rw [twinGates_twin, State.modTwin_twin_other, wakeTwin_other s (by cases t <;> decide)]

/-- A self-test changes nothing of the management part. -/
theorem startTest_mgt (s : State) (t : Side) (o : TestOrigin) (k : Nat) : (s.startTest t o k).mgt = s.mgt :=
  (State.startTest_frame s t o k (M := 16388) rfl Frame.rfl).mgt rfl

/-- A chip-wide event measures nothing. -/
theorem chip_meas (s : State) (a b : Nat) : (s.chip a b).mgt.meas = s.mgt.meas := by
  unfold State.chip; dsimp only; split <;> rfl

/-- A twin's new state measures nothing. -/
theorem setTwinState_meas (s : State) (t : Side) (n : TwinState) : (s.setTwinState t n).mgt.meas = s.mgt.meas := by
  unfold State.setTwinState State.twinChanged
  dsimp only
  split
  · rfl
  · exact chip_meas _ _ _

/-- A twin that has started is OUT_OF_SERVICE once it is taken out of service. -/
theorem outOfService_state {s : State} {t : Side} (h : (s.twin t).boot = false) :
    ((s.outOfService t).twin t).state = .outOfService ∧ (s.outOfService t).mgt.meas = s.mgt.meas ∧
      ((s.outOfService t).twin t).image = (s.twin t).image ∧ ((s.outOfService t).twin t).loading = (s.twin t).loading ∧
      ((s.outOfService t).twin t).boot = false := by
  unfold State.outOfService
  generalize hv : s.modTwin t (fun w => { w with ret := none, auto := false, test := none }) = v
  have hw : v.twin t = { s.twin t with ret := none, auto := false, test := none } := by rw [← hv, State.modTwin_twin]
  have hb : (v.twin t).boot = false := by rw [hw]; exact h
  have ht : ((v.setTwinState t .outOfService).twinGates t false).twin t = { v.twin t with state := .outOfService } :=
    setTwinState_twin v t .outOfService
  have hm : ((v.setTwinState t .outOfService).twinGates t false).mgt.meas = v.mgt.meas := setTwinState_meas v t .outOfService
  simp only [hb, Bool.false_eq_true, if_false]
  rw [ht, hm, hw, ← hv]
  exact ⟨rfl, rfl, rfl, rfl, h⟩

/-- A twin whose start has ended before ends nothing. -/
theorem bootEnds_started {s : State} {t : Side} (h : (s.twin t).boot = false) : s.bootEnds t = s := by
  unfold State.bootEnds; rw [h]; rfl

/-- The state in which a twin has read an image whole, before its check is judged. -/
def imageRead (s : State) (x : Side) (image : List Byte) : State :=
  ((((s.modTwin x fun w => { w with loading := false }).takeImage x image).measExtend 6 (sha384 image)).fwLog x (s.imageCheck x image))

theorem imageRead_twin (s : State) (x : Side) (image : List Byte) : (imageRead s x image).twin x =
    { s.twin x with loading := false, image := image, svn := rd (image.take 256) 6 2, mirrorFmt := rd (image.take 256) 0xC 1,
                    mirrorMin := rd (image.take 256) 0xD 1, version := w64 (rd (image.take 256) 0x10 8) } := by
  cases x <;> rfl

theorem imageRead_other (s : State) (x : Side) (image : List Byte) : (imageRead s x image).twin x.other = s.twin x.other := by
  cases x <;> rfl

theorem imageRead_meas (s : State) (x : Side) (image : List Byte) :
    (imageRead s x image).mgt.meas = (s.measExtend 6 (sha384 image)).mgt.meas := by
  cases x <;> rfl

/-- An image is checked against the other twin and the fuses, not against what its own twin does. -/
theorem imageCheck_modTwin (s : State) (x : Side) (f : Twin → Twin) (image : List Byte) :
    (s.modTwin x f).imageCheck x image = s.imageCheck x image := by
  unfold State.imageCheck
  rw [State.modTwin_twin_other, State.modTwin_mgt]

/-- What a slot is set to depends on the measurements alone. -/
theorem measSet_congr {s t : State} (h : s.mgt.meas = t.mgt.meas) (n : Nat) (d : List Byte) :
    (s.measSet n d).mgt.meas = (t.measSet n d).mgt.meas :=
  congrArg (fun m => Tbl.set (List.replicate 48 0) m n d) h

/-- IMAGE_LOAD_DONE of a header that gives a possible length: the check of the whole image decides. -/
theorem imageLoadDone_whole {s : State} {x : Side} {h image : List Byte} (hl : (s.twin x).loading = true) (hp : s.clk.phase ≠ 7)
    (hh : h = s.flashRead imageBase 256) (hlo : 256 ≤ rd h 8 4) (hhi : rd h 8 4 ≤ imageMax)
    (hi : image = s.flashRead imageBase (rd h 8 4)) :
    imageLoadDone x s =
      if s.imageCheck x image = 0 then
        (((imageRead s x image).measSet (imageSlot x) (sha384 image)).modTwin x fun w => { w with measured := true }).startTest x
          (if ((imageRead s x image).twin x).boot then .start else .fwLoad) 3
      else (((imageRead s x image).measSet (imageSlot x) (List.replicate 48 0)).outOfService x).bootEnds x := by
  have hread : ∀ n, (s.modTwin x fun w => { w with loading := false }).flashRead imageBase n = s.flashRead imageBase n := fun _ => rfl
  have hcheck := imageCheck_modTwin s x (fun w => { w with loading := false }) image
  unfold imageLoadDone imageRead
  simp only [hl, hp, hread, ← hh, hlo, hhi, ← hi, hcheck, decide_true, Bool.and_self, Bool.not_true, Bool.false_or, decide_false,
    Bool.false_eq_true, if_false, if_true]

/-- A pass: the twin's slot takes the digest, and the self-test starts. -/
theorem imageLoad_passes {s : State} {x : Side} {image : List Byte} (he : imageLoadDone x s =
      (((imageRead s x image).measSet (imageSlot x) (sha384 image)).modTwin x fun w => { w with measured := true }).startTest x
          (if ((imageRead s x image).twin x).boot then .start else .fwLoad) 3) :
    Goes (.imageLoadDone x) s fun t =>
      (t.twin x).image = image ∧ (t.twin x).loading = false ∧ (t.twin x).measured = true ∧
      (t.twin x).test = some (if (s.twin x).boot then .start else .fwLoad, 3) ∧ t.twin x.other = s.twin x.other ∧
      t.mgt.meas = ((s.measExtend 6 (sha384 image)).measSet (imageSlot x) (sha384 image)).mgt.meas := by
  refine goes_to (congrArg Host.Outcome.next he) ?_
  rw [startTest_twin, startTest_other, startTest_mgt, State.modTwin_twin, State.modTwin_twin_other, State.modTwin_mgt]
  have htwin : ((imageRead s x image).measSet (imageSlot x) (sha384 image)).twin x = (imageRead s x image).twin x := rfl
  have hother : ((imageRead s x image).measSet (imageSlot x) (sha384 image)).twin x.other = (imageRead s x image).twin x.other := rfl
  rw [htwin, hother, imageRead_twin, imageRead_other]
  exact ⟨rfl, rfl, rfl, rfl, rfl, measSet_congr (imageRead_meas s x image) _ _⟩

/-- A failure: the twin's slot is zero, and a twin that has started goes out of service. -/
theorem imageLoad_fails {s : State} {x : Side} {image : List Byte} (hb : (s.twin x).boot = false) (he : imageLoadDone x s =
      (((imageRead s x image).measSet (imageSlot x) (List.replicate 48 0)).outOfService x).bootEnds x) :
    Goes (.imageLoadDone x) s fun t =>
      (t.twin x).image = image ∧ (t.twin x).loading = false ∧ (t.twin x).state = .outOfService ∧
      t.mgt.meas = ((s.measExtend 6 (sha384 image)).measSet (imageSlot x) (List.replicate 48 0)).mgt.meas := by
  refine goes_to (congrArg Host.Outcome.next he) ?_
  have htwin : ((imageRead s x image).measSet (imageSlot x) (List.replicate 48 0)).twin x = (imageRead s x image).twin x := rfl
  obtain ⟨hstate, hmeas, himage, hload, hboot⟩ := outOfService_state (s := (imageRead s x image).measSet (imageSlot x) (List.replicate 48 0))
    (t := x) (by rw [htwin, imageRead_twin]; exact hb)
  rw [bootEnds_started hboot, hstate, hmeas, himage, hload, htwin, imageRead_twin]
  exact ⟨rfl, rfl, rfl, measSet_congr (imageRead_meas s x image) _ _⟩

/-- Settles O10: the first failing check of the image decides between the self-test and OUT_OF_SERVICE, at the load and at the
measurement after a reset. -/
theorem imagesAreMeasured : Obligations.ImagesAreMeasured := by
  refine ⟨fun s x h image hl hp hh hlo hhi hi hc => ?_, fun s x h image hl hp hh hlo hhi hi hc hb => ?_, fun s x hr hc => ?_,
    fun s x hr hc hb => ?_⟩
  · exact imageLoad_passes ((imageLoadDone_whole hl hp hh hlo hhi hi).trans (if_pos hc))
  · exact imageLoad_fails hb ((imageLoadDone_whole hl hp hh hlo hhi hi).trans (if_neg hc))
  · refine goes_to rfl ?_
    simp only [imageRemeasureDone, hr, hc, ne_eq, not_true, if_false, if_true, startTest_twin, startTest_mgt, State.modTwin_twin,
      State.modTwin_mgt, and_self]
  · refine goes_to rfl ?_
    have hstart : (((s.measSet (imageSlot x) (List.replicate 48 0)).fwLog x (s.imageCheck x (s.twin x).image)).twin x).boot = false := hb
    obtain ⟨hstate, hmeas, -, -, -⟩ := outOfService_state hstart
    simp only [imageRemeasureDone, hr, hc, ne_eq, not_true, if_false, hstate, hmeas, and_true]
    rfl

/-- A chip-wide event sets its sticky bit, and nothing else of the resets. -/
theorem chip_rst (s : State) (a b : Nat) : (s.chip a b).rst = { s.rst with chip := setBit s.rst.chip a true } := by
  unfold State.chip; dsimp only; split <;> rfl

/-- A twin's new state changes no more of the resets than the chip-wide events. -/
theorem setTwinState_rst (s : State) (t : Side) (n : TwinState) : ∃ k, (s.setTwinState t n).rst = { s.rst with chip := k } := by
  unfold State.setTwinState State.twinChanged
  dsimp only
  split
  · exact ⟨s.rst.chip, rfl⟩
  · exact ⟨_, chip_rst _ _ _⟩

/-- A twin's new state advances no generation. -/
theorem setTwinState_gens (s : State) (t : Side) (n : TwinState) : (s.setTwinState t n).rst.gens = s.rst.gens := by
  obtain ⟨k, hk⟩ := setTwinState_rst s t n
  rw [hk]

/-- What the end of a self-test leaves of the generations and of the twin's test. -/
structure TestedAs (x : Side) (gens : Tbl Nat) (l m : Word) (result : Nat) (s : State) : Prop where
  gens : s.rst.gens = gens
  test : (s.twin x).test = none
  sigL : (s.twin x).sigL = l
  sigM : (s.twin x).sigM = m
  result : (s.twin x).testResult = result

section
variable {x : Side} {g : Tbl Nat} {l m : Word} {res : Nat} {s t : State}

theorem TestedAs.of_same (h : TestedAs x g l m res s) (ht : t.twin x = s.twin x) (hr : t.rst.gens = s.rst.gens) :
    TestedAs x g l m res t :=
  ⟨hr.trans h.gens, (congrArg (·.test) ht).trans h.test, (congrArg (·.sigL) ht).trans h.sigL, (congrArg (·.sigM) ht).trans h.sigM,
    (congrArg (·.testResult) ht).trans h.result⟩

/-- An operation that changes neither the twins nor the resets. -/
theorem TestedAs.of_frame {M : Nat} (h : TestedAs x g l m res s) (f : Frame M s t) (ht : M.testBit 2 = false) (hr : M.testBit 13 = false) :
    TestedAs x g l m res t :=
  h.of_same (twin_of_twins (f.twins ht) x) (congrArg (·.gens) (f.rst hr))

theorem TestedAs.of_modTwin (h : TestedAs x g l m res s) {f : Twin → Twin} (ht : (f (s.twin x)).test = none)
    (hl : (f (s.twin x)).sigL = (s.twin x).sigL) (hm : (f (s.twin x)).sigM = (s.twin x).sigM)
    (hr : (f (s.twin x)).testResult = (s.twin x).testResult) : TestedAs x g l m res (s.modTwin x f) := by
  have hw : (s.modTwin x f).twin x = f (s.twin x) := State.modTwin_twin s x f
  exact ⟨h.gens, by rw [hw, ht], by rw [hw, hl, h.sigL], by rw [hw, hm, h.sigM], by rw [hw, hr, h.result]⟩

/-- The twin's test is judged, and its generation advances. -/
theorem TestedAs.of_judged {f : Twin → Twin} (ht : (f (s.twin x)).test = none) (hl : (f (s.twin x)).sigL = l)
    (hm : (f (s.twin x)).sigM = m) (hr : (f (s.twin x)).testResult = res) :
    TestedAs x (Tbl.set 0 s.rst.gens (48 + x.num) ((s.gen (48 + x.num) + 1) % 256)) l m res
      ((s.modTwin x f).advanceGen (48 + x.num)) := by
  have hw : ((s.modTwin x f).advanceGen (48 + x.num)).twin x = f (s.twin x) := State.modTwin_twin s x f
  exact ⟨rfl, by rw [hw, ht], by rw [hw, hl], by rw [hw, hm], by rw [hw, hr]⟩

theorem TestedAs.outOfService (h : TestedAs x g l m res s) : TestedAs x g l m res (s.outOfService x) := by
  unfold State.outOfService
  generalize hv : s.modTwin x (fun w => { w with ret := none, auto := false, test := none }) = v
  have hb : TestedAs x g l m res v := hv ▸ h.of_modTwin rfl rfl rfl rfl
  dsimp only
  split
  · exact hb.of_same rfl rfl
  · have hs : (v.setTwinState x .outOfService).twin x = { v.twin x with state := .outOfService } := setTwinState_twin v x .outOfService
    refine TestedAs.of_same (s := v.setTwinState x .outOfService) ?_ rfl rfl
    exact ⟨(setTwinState_gens v x .outOfService).trans hb.gens, by rw [hs]; exact hb.test, by rw [hs]; exact hb.sigL,
      by rw [hs]; exact hb.sigM, by rw [hs]; exact hb.result⟩

/-- At the end of both starts a twin takes a state and keeps the rest. -/
theorem bootStates_twin (s : State) (x : Side) : ∃ st, s.bootStates.twin x = { s.twin x with state := st } := by
  unfold State.bootStates
  cases ha : (s.twin .a).measured && (s.twin .a).tested <;> cases hb : (s.twin .b).measured && (s.twin .b).tested <;> cases x <;>
    simp only [ha, hb, Bool.not_true, Bool.not_false, if_true, Bool.false_eq_true, if_false] <;> exact ⟨_, rfl⟩

theorem TestedAs.bootEnds (h : TestedAs x g l m res s) : TestedAs x g l m res (s.bootEnds x) := by
  unfold State.bootEnds
  generalize hv : s.modTwin x (fun w => { w with boot := false }) = v
  have hb : TestedAs x g l m res v := hv ▸ h.of_modTwin h.test rfl rfl rfl
  dsimp only
  split
  · exact h
  · split
    · exact hb
    · obtain ⟨st, hst⟩ := bootStates_twin v x
      have hg : v.bootStates.rst = v.rst := (State.bootStates_frame v (M := 1067276) rfl Frame.rfl).rst rfl
      exact ⟨(congrArg (·.gens) hg).trans hb.gens, by rw [hst]; exact hb.test, by rw [hst]; exact hb.sigL, by rw [hst]; exact hb.sigM,
        by rw [hst]; exact hb.result⟩

theorem TestedAs.fwLog (h : TestedAs x g l m res s) (c : Nat) : TestedAs x g l m res (s.fwLog x c) := h.of_same rfl rfl

theorem TestedAs.twinGates (h : TestedAs x g l m res s) (b : Bool) : TestedAs x g l m res (s.twinGates x b) := h.of_same rfl rfl

theorem TestedAs.ite {c : Prop} [Decidable c] {u v : State} (hu : TestedAs x g l m res u)
    (hv : TestedAs x g l m res v) : TestedAs x g l m res (if c then u else v) := by
  split
  · exact hu
  · exact hv

/-- A failed twin's gates go off, or it goes out of service. -/
theorem TestedAs.outed {c : Prop} [Decidable c] (h : TestedAs x g l m res s) :
    TestedAs x g l m res (if c then s.twinGates x false else s.outOfService x) := by
  split
  · exact h.twinGates _
  · exact h.outOfService

theorem TestedAs.endTest (h : TestedAs x g l m res s) (r : CmdRef) (c : Nat) : TestedAs x g l m res (s.endTest r c) :=
  h.of_frame (State.endTest_frame s r c (M := 16) rfl Frame.rfl) rfl rfl

theorem TestedAs.testRecord (h : TestedAs x g l m res s) (r : CmdRef) (a b : Word) : TestedAs x g l m res (s.testRecord r a b) :=
  h.of_frame (State.testRecord_frame s r a b (M := 1442064) rfl Frame.rfl) rfl rfl

end

/-- The signatures decide a self-test's result, and the twin's generation advances. -/
theorem selftestDone_tested {s : State} {x : Side} {o : TestOrigin} {kind : Nat} (m l : Word) (h : (s.twin x).test = some (o, kind)) :
    TestedAs x (Tbl.set 0 s.rst.gens (48 + x.num) ((s.gen (48 + x.num) + 1) % 256))
      (if kind % 2 = 1 then l else (s.twin x).sigL) (if 2 ≤ kind then m else (s.twin x).sigM)
      (if (kind % 2 = 1 → l = expectSig x.num 1) ∧ (2 ≤ kind → m = expectSig x.num 2) then 1 else 2) (selftestDone x m l s) := by
  unfold selftestDone
  rw [h]
  dsimp only
  have hpass : ((!decide (kind % 2 = 1) || decide (l = expectSig x.num 1)) && (!decide (2 ≤ kind) || decide (m = expectSig x.num 2))) =
      decide ((kind % 2 = 1 → l = expectSig x.num 1) ∧ (2 ≤ kind → m = expectSig x.num 2)) := by
    by_cases h1 : kind % 2 = 1 <;> by_cases h2 : 2 ≤ kind <;> simp only [h1, h2, decide_true, decide_false, Bool.not_true, Bool.not_false,
      Bool.false_or, Bool.true_or, Bool.true_and, Bool.and_true, true_implies, false_implies, and_true, true_and, Bool.decide_and]
  generalize ((!decide (kind % 2 = 1) || decide (l = expectSig x.num 1)) && (!decide (2 ≤ kind) || decide (m = expectSig x.num 2))) = pass
    at hpass ⊢
  generalize hv : (State.modTwin s x _).advanceGen (48 + x.num) = v
  have hres : (if (kind % 2 = 1 → l = expectSig x.num 1) ∧ (2 ≤ kind → m = expectSig x.num 2) then 1 else 2) = if pass then 1 else 2 := by
    rw [hpass]; simp only [decide_eq_true_eq]
  rw [hres]
  have hb : TestedAs x (Tbl.set 0 s.rst.gens (48 + x.num) ((s.gen (48 + x.num) + 1) % 256))
      (if kind % 2 = 1 then l else (s.twin x).sigL) (if 2 ≤ kind then m else (s.twin x).sigM) (if pass then 1 else 2) v :=
    hv ▸ TestedAs.of_judged rfl rfl rfl rfl
  generalize (if kind % 2 = 1 then l else (s.twin x).sigL) = sigL at hb ⊢
  generalize (if 2 ≤ kind then m else (s.twin x).sigM) = sigM at hb ⊢
  generalize (if pass = true then 1 else 2) = result at hb ⊢
  cases pass with
  | true =>
    rw [if_pos rfl]
    cases o with
    | start => exact hb.bootEnds
    | returning => dsimp only; exact hb.of_modTwin hb.test rfl rfl rfl
    | command r => exact (hb.testRecord _ _ _).endTest _ _
    | fwLoad => exact hb
    | management => dsimp only; exact .ite (hb.twinGates _) hb
  | false =>
    rw [if_neg Bool.false_ne_true]
    cases o with
    | start => exact (hb.fwLog _).outed.bootEnds
    | command r => exact ((hb.testRecord _ _ _).fwLog _).outed.endTest _ _
    | returning | fwLoad | management => exact (hb.fwLog _).outed

/-- The release of a twin's reset advances its generation and goes on with the measurement. -/
theorem twinResetRelease_goes {s : State} {x : Side} (hr : (s.twin x).inReset = true) (hh : s.domainHeld (48 + x.num) = false) :
    Goes (.twinResetRelease x) s fun t =>
      t.rst.gens = Tbl.set 0 s.rst.gens (48 + x.num) ((s.gen (48 + x.num) + 1) % 256) ∧ (t.twin x).inReset = false ∧
        (t.twin x).ret = some .measure ∧
      (t.twin x).auto = true ∧ (t.twin x).state = (s.twin x).state ∧ Same [.twins, .rst] s t := by
  refine goes_to rfl ?_
  have hsame := same_of_frame (l := [.twins, .rst]) (execTwinResetRelease_frame x s (he := rfl)) rfl
  have hrun : twinResetRelease x s = (s.modTwin x fun w =>
      { w with inReset := false, auto := true, ret := some .measure, fail := none, standby := false,
               col := { w.col with safe := false } }).advanceGen (48 + x.num) := by
    unfold twinResetRelease
    rw [hr, hh]
    rfl
  rw [hrun] at hsame ⊢
  have htwin : ∀ v : State, (v.advanceGen (48 + x.num)).twin x = v.twin x := fun _ => rfl
  rw [htwin, State.modTwin_twin]
  exact ⟨rfl, rfl, rfl, rfl, rfl, hsame⟩

/-- Settles O11: the SELFTEST starts its test as it begins; the end of a test judges its signatures and advances the generation
whatever asked for it; the release waits for a reply of the next generation. -/
theorem selfTestsAreJudgedBySignature : Obligations.SelfTestsAreJudgedBySignature := by
  refine ⟨fun s u r c hb hs ht hl => ?_, fun s x o kind m l h => ?_, fun s x hr hh => ?_, fun s x hr hh => twinResetRelease_goes hr hh⟩
  · refine congrArg Host.Outcome.next ((begin_eq hb _).trans ?_)
    simp only [hs, ht, hl, ne_eq, not_true, Option.isSome_none, Bool.or_false, Bool.false_eq_true, if_false]
  · obtain ⟨hg, ht, hl, hm, hr⟩ := selftestDone_tested m l h
    exact ⟨_, rfl, hg, ht, hl, hm, hr⟩
  · refine congrArg Host.Outcome.next ?_
    unfold twinResetRelease
    rw [hr, hh]
    rfl

/-- Clearing a bit of nothing. -/
theorem setBit_zero (n : Nat) : setBit 0 n false = 0 := by
  simp [setBit, bit]

/-- No bit of zero is set. -/
theorem tst_zero (n : Nat) : tst 0 n = false := Nat.zero_testBit n

/-- A clock that does not run on the PLL that lost lock goes on. -/
theorem loseLock_unused {s : State} {k : Nat} {b : Bool} (h : s.clk.field k ≠ bit b) :
    s.loseLock k b = { s with clk := { s.clk with locks := setBit s.clk.locks (2 * k + bit b) false } } :=
  if_pos h

/-- TCLK moves to its other PLL where that one is locked (R480). -/
theorem loseLock_tclk {s : State} {b : Bool} (h : s.clk.tclk = bit b) (hl : tst s.clk.locks (bit !b) = true) :
    s.loseLock 0 b = { s with
      clk := { s.clk with locks := setBit s.clk.locks (bit b) false, lost := setBit s.clk.lost 3 true, tclk := bit !b } } := by
  have hother : tst (setBit s.clk.locks (0 + bit b) false) (0 + bit !b) = true := by
    rw [tst_setBit_other _ _ _ _ (by cases b <;> decide), Nat.zero_add, hl]
  unfold State.loseLock
  simp [State.modClk, Clk.field, Clk.setField, clkTwin, h] at hother ⊢
  simp [hother]

/-- With no other PLL the shared plane's clock stops (R480). -/
theorem loseLock_hclkS {s : State} {b : Bool} (h : s.clk.hclkS = bit b) (hl : tst s.clk.locks (2 + bit !b) = false) :
    s.loseLock 1 b = { s with
      clk := { s.clk with locks := setBit s.clk.locks (2 + bit b) false, lost := setBit s.clk.lost 2 true, dead := true } } := by
  have hother : tst (setBit s.clk.locks (2 + bit b) false) (2 + bit !b) = false := by
    rw [tst_setBit_other _ _ _ _ (by cases b <;> decide), hl]
  unfold State.loseLock
  simp [State.modClk, Clk.field, clkTwin, h, hother]

/-- A twin that carries traffic fails with its clock (R480). -/
theorem loseLock_twin {s : State} {x : Side} {b : Bool} (h : s.clk.hclk.get x = bit b) (hc : s.carries x = true)
    (hf : (s.twin x).fail = none) : s.loseLock (2 + x.num) b = (({ s with
      clk := { s.clk with locks := setBit s.clk.locks (4 + 2 * x.num + bit b) false,
                          lost := setBit s.clk.lost (1 - x.num) true } } : State).modTwin x fun w => { w with fail := some .clock }) := by
  have hfield : s.clk.field (2 + x.num) = bit b := by cases x <;> exact h
  have hcarries : ∀ c : Clk, ({ s with clk := c } : State).carries x = true := fun _ => hc
  have htwin : ∀ c : Clk, ({ s with clk := c } : State).twin x = s.twin x := fun _ => rfl
  unfold State.loseLock State.failAt
  cases x <;> simp [State.modClk, Clk.field, clkTwin, Side.num, State.modTwin, hcarries, htwin, hf] at hfield ⊢ <;> simp [hfield]

/-- What the loss of the crystal leaves: no clock on the crystal and no PLL locked. -/
structure NoCrystal (c : Clk) : Prop where
  aclk : c.aclk = false
  mclk : c.mclk = false
  xtal : c.xtal = false
  xtalLost : c.xtalLost = true
  locks : c.locks = 0
  mpll : c.mpll = false

/-- The clock part after a PLL loses lock while none is locked: a source of the shared plane that ran on it stops. -/
theorem loseLock_noCrystal {s : State} (h : NoCrystal s.clk) (k : Nat) (b : Bool) :
    NoCrystal (s.loseLock k b).clk ∧ (∀ j, (s.loseLock k b).clk.field j = s.clk.field j) ∧
      (s.clk.dead = true → (s.loseLock k b).clk.dead = true) ∧
      (k < 2 → s.clk.field k = bit b → (s.loseLock k b).clk.dead = true) := by
  obtain ⟨haclk, hmclk, hxtal, hlost, hlocks, hmpll⟩ := h
  have hset : ∀ n, setBit s.clk.locks n false = 0 := fun n => hlocks ▸ setBit_zero n
  have hfield : ∀ j, ({ s.clk with locks := 0 } : Clk).field j = s.clk.field j := fun _ => rfl
  unfold State.loseLock
  simp only [State.modClk, hset, hfield, tst_zero]
  split
  · rename_i hne
    exact ⟨⟨haclk, hmclk, hxtal, hlost, rfl, hmpll⟩, fun _ => rfl, id, fun _ he => absurd he hne⟩
  · split
    · rename_i t ht
      have hk : ¬ k < 2 := by
        intro hk
        have : k ≠ 2 ∧ k ≠ 3 := by omega
        simp [clkTwin, this] at ht
      split <;> exact ⟨⟨haclk, hmclk, hxtal, hlost, rfl, hmpll⟩, fun _ => rfl, id, fun h => absurd h hk⟩
    · exact ⟨⟨haclk, hmclk, hxtal, hlost, rfl, hmpll⟩, fun _ => rfl, fun _ => rfl, fun _ _ => rfl⟩

/-- The clock part after both PLLs of a source lose lock. -/
theorem loseLocks_noCrystal {s : State} (h : NoCrystal s.clk) (k : Nat) :
    NoCrystal ((s.loseLock k false).loseLock k true).clk ∧
      (∀ j, ((s.loseLock k false).loseLock k true).clk.field j = s.clk.field j) ∧
      (s.clk.dead = true → ((s.loseLock k false).loseLock k true).clk.dead = true) ∧
      (k < 2 → s.clk.field k < 2 → ((s.loseLock k false).loseLock k true).clk.dead = true) := by
  obtain ⟨h1, f1, d1, u1⟩ := loseLock_noCrystal h k false
  obtain ⟨h2, f2, d2, u2⟩ := loseLock_noCrystal h1 k true
  refine ⟨h2, fun j => (f2 j).trans (f1 j), fun hd => d2 (d1 hd), fun hk hlt => ?_⟩
  have hor : s.clk.field k = 0 ∨ s.clk.field k = 1 := by omega
  rcases hor with h0 | h1
  · exact d2 (u1 hk h0)
  · exact u2 hk ((f1 k).trans h1)

/-- The clock part after every PLL loses lock. -/
theorem loseAll_noCrystal {v : State} (h : NoCrystal v.clk) :
    NoCrystal ([0, 1, 2, 3].foldl (fun s k => (s.loseLock k false).loseLock k true) v).clk ∧
      (v.clk.tclk < 2 ∨ v.clk.hclkS < 2 →
        ([0, 1, 2, 3].foldl (fun s k => (s.loseLock k false).loseLock k true) v).clk.dead = true) := by
  simp only [List.foldl_cons, List.foldl_nil]
  obtain ⟨h0, f0, d0, u0⟩ := loseLocks_noCrystal h 0
  obtain ⟨h1, f1, d1, u1⟩ := loseLocks_noCrystal h0 1
  obtain ⟨h2, f2, d2, -⟩ := loseLocks_noCrystal h1 2
  obtain ⟨h3, f3, d3, -⟩ := loseLocks_noCrystal h2 3
  refine ⟨h3, fun hlt => d3 (d2 ?_)⟩
  rcases hlt with hlt | hlt
  · exact d1 (u0 (by decide) hlt)
  · exact u1 (by decide) (by rw [f0]; exact hlt)

/-- With the crystal lost no PLL is locked, and a source that ran on one of the shared plane's stops it. -/
theorem xtalLost_goes (s : State) : Goes .xtalLost s fun t =>
    t.clk.aclk = false ∧ t.clk.mclk = false ∧ t.clk.xtal = false ∧ t.clk.xtalLost = true ∧ t.clk.locks = 0 ∧ t.clk.mpll = false ∧
    (s.clk.tclk < 2 ∨ s.clk.hclkS < 2 → t.clk.dead = true) ∧ Same [.twins, .clk] s t := by
  have hsame := same_of_frame (l := [.twins, .clk]) (execXtalLost_frame s (he := rfl)) rfl
  obtain ⟨v, hv⟩ : ∃ v, v = (s.modClk fun c =>
    { c with aclk := false, xtal := false, xtalLost := true, locks := 0, seen := setBit c.seen 1 false }).loseMpll := ⟨_, rfl⟩
  have hrun : xtalLost s = [0, 1, 2, 3].foldl (fun s k => (s.loseLock k false).loseLock k true) v := by rw [hv]; rfl
  have hclk : NoCrystal v.clk ∧ v.clk.tclk = s.clk.tclk ∧ v.clk.hclkS = s.clk.hclkS := by
    rw [hv]; exact ⟨⟨rfl, rfl, rfl, rfl, rfl, rfl⟩, rfl, rfl⟩
  obtain ⟨hno, htclk, hhclkS⟩ := hclk
  obtain ⟨h, hdead⟩ := loseAll_noCrystal hno
  rw [htclk, hhclkS] at hdead
  rw [hrun] at hsame
  exact goes_to (congrArg Host.Outcome.next hrun) ⟨h.aclk, h.mclk, h.xtal, h.xtalLost, h.locks, h.mpll, hdead, hsame⟩

/-- Settles O12: which PLL lost lock, and what its clock then runs on, decides the effect; the loss of the crystal is the loss of every
PLL. -/
theorem clockMonitorAndCounterAct : Obligations.ClockMonitorAndCounterAct := by
  refine ⟨fun _ => rfl, fun s b h hl => ?_, fun s b h hl => ?_, fun s x b h hc hf => ?_, fun s x b h => ?_, xtalLost_goes,
    fun s n h => ?_, fun s n h => ?_⟩
  · exact congrArg Host.Outcome.next (loseLock_tclk h hl)
  · exact congrArg Host.Outcome.next (loseLock_hclkS h hl)
  · exact congrArg Host.Outcome.next (loseLock_twin h hc hf)
  · have hfield : s.clk.field (2 + x.num) ≠ bit b := by cases x <;> exact h
    have hn : 2 * (2 + x.num) = 4 + 2 * x.num := by omega
    refine congrArg Host.Outcome.next ((loseLock_unused hfield).trans ?_)
    rw [hn]
  · refine congrArg Host.Outcome.next ?_
    unfold fcntDone
    rw [h]
    rfl
  · refine congrArg Host.Outcome.next ?_
    unfold fcntTimeout
    rw [h]
    rfl

/-- A start that ends keeps what its twin and the other have under test. -/
theorem bootEnds_test (s : State) (x y : Side) : ((s.bootEnds x).twin y).test = (s.twin y).test := by
  unfold State.bootEnds
  have hboot : ((s.modTwin x fun w => { w with boot := false }).twin y).test = (s.twin y).test := by cases x <;> cases y <;> rfl
  dsimp only
  split
  · rfl
  · split
    · exact hboot
    · obtain ⟨st, hst⟩ := bootStates_twin (s.modTwin x fun w => { w with boot := false }) y
      rw [hst]
      exact hboot

/-- A twin that takes a state leaves the other. -/
theorem setTwinState_ne (s : State) {t x : Side} (n : TwinState) (h : x ≠ t) : (s.setTwinState t n).twin x = s.twin x := by
  unfold State.setTwinState State.twinChanged
  dsimp only
  split
  · exact twin_modTwin_ne s _ h
  · rw [log_twin, chip_twin]
    exact twin_modTwin_ne s _ h

/-- A twin that is taken out of service leaves the other. -/
theorem outOfService_ne (s : State) {t x : Side} (h : x ≠ t) : (s.outOfService t).twin x = s.twin x := by
  unfold State.outOfService
  dsimp only
  rw [twinGates_twin]
  split
  · exact twin_modTwin_ne s _ h
  · rw [setTwinState_ne _ _ h]
    exact twin_modTwin_ne s _ h

/-- A twin that is taken out of service is not under test. -/
theorem outOfService_test (s : State) (t : Side) : ((s.outOfService t).twin t).test = none := by
  unfold State.outOfService
  dsimp only
  rw [twinGates_twin]
  split
  · rw [State.modTwin_twin]
  · rw [setTwinState_twin, State.modTwin_twin]

/-- A supply warning leaves the stopped twin without a test, and the other's as it stands. -/
theorem stopTest_test (s : State) (x y : Side) : ((s.stopTest x).twin y).test = if y = x then none else (s.twin y).test := by
  unfold State.stopTest
  split
  · rename_i h
    by_cases hy : y = x
    · rw [if_pos hy, hy, h]
    · rw [if_neg hy]
  · rename_i o k h
    generalize hv : s.modTwin x _ = v
    have hvt : (v.twin y).test = if y = x then none else (s.twin y).test := by
      rw [← hv]
      by_cases hy : y = x
      · rw [if_pos hy, hy, State.modTwin_twin]
      · rw [if_neg hy, twin_modTwin_ne s _ hy]
    dsimp only
    split
    · exact hvt
    · rw [bootEnds_test]
      by_cases hy : y = x
      · rw [if_pos hy, hy, outOfService_test]
      · rw [outOfService_ne _ hy, hvt]
    · exact hvt

/-- Nor does what takes a twin out of service. -/
theorem outOfService_rst (s : State) (t : Side) : ∃ k, (s.outOfService t).rst = { s.rst with chip := k } := by
  unfold State.outOfService
  dsimp only
  split
  · exact ⟨s.rst.chip, rfl⟩
  · exact setTwinState_rst (s.modTwin t fun w => { w with ret := none, auto := false, test := none }) t .outOfService

/-- A self-test that stops leaves the warning as it stands. -/
theorem stopTest_rst (s : State) (x : Side) : ∃ k, (s.stopTest x).rst = { s.rst with chip := k } := by
  unfold State.stopTest
  split
  · exact ⟨s.rst.chip, rfl⟩
  · dsimp only
    split
    · exact ⟨s.rst.chip, rfl⟩
    · rw [(State.bootEnds_frame _ x (M := 1067276) rfl Frame.rfl).rst rfl]
      exact outOfService_rst _ x
    · exact ⟨s.rst.chip, rfl⟩

/-- PWRWARN_ASSERT with no warning standing: the warning begins, and no self-test goes on. -/
theorem warnAsserted_goes {s : State} {us : Nat} (h : s.rst.warn = none) : Goes (.pwrwarnAssert us) s fun t =>
    t.rst.warn = some (s.time.us + us) ∧ t.rst.cleared = false ∧ (t.twin .a).test = none ∧ (t.twin .b).test = none ∧
    t.mem = s.mem ∧ t.fences = s.fences := by
  have hsame := execPwrwarnAssert_frame us s (he := rfl)
  have hwarn : (s.reach us).rst.warn = none := h
  have hrun : pwrwarnAssert us s = (s.reach us).modRst fun r => { r with warn := some (s.time.us + us), cleared := false } := by
    unfold pwrwarnAssert
    dsimp only
    rw [hwarn]
    rfl
  obtain ⟨k, hk⟩ := stopTest_rst (pwrwarnAssert us s) .a
  obtain ⟨k', hk'⟩ := stopTest_rst ((pwrwarnAssert us s).stopTest .a) .b
  have hrst : (warnAsserted us s).rst = { (pwrwarnAssert us s).rst with chip := k' } := hk'.trans (by rw [hk])
  refine goes_to rfl ⟨?_, ?_, ?_, ?_, hsame.mem rfl, hsame.fences rfl⟩
  · rw [hrst, hrun]; rfl
  · rw [hrst, hrun]; rfl
  · exact (stopTest_test _ .b .a).trans ((if_neg (by decide)).trans (stopTest_test _ .a .a))
  · exact stopTest_test _ .b .b

/-- PWRWARN_CLEAR of a warning that stands: the dip is recorded. -/
theorem pwrwarnClear_goes {s : State} {us w : Nat} (h : s.rst.warn = some w) (hc : s.rst.cleared = false) :
    Goes (.pwrwarnClear us) s fun t =>
    t.rst.cleared = true ∧ t.rst.dips = satAdd 65535 s.rst.dips 1 ∧ t.rst.lastUs = min 65535 (s.time.us + us - w) ∧ t.rst.dip = true ∧
    (t.rst.long = true ↔ s.rst.long = true ∨ 256 < s.time.us + us - w) ∧ tst t.rst.chip 4 = true ∧
    Same [.time, .irq, .rst, .mgt] s t := by
  have hsame := same_of_frame (l := [.time, .irq, .rst, .mgt]) (execPwrwarnClear_frame us s (he := rfl)) rfl
  refine goes_to rfl ?_
  have hw : (s.reach us).rst.warn = some w := h
  have hcl : (s.reach us).rst.cleared = false := hc
  obtain ⟨v, hv⟩ : ∃ v, v = (s.reach us).modRst fun r => { r with
      cleared := true, dips := satAdd 65535 r.dips 1, lastUs := min 65535 (s.time.us + us - w), dip := true,
      long := r.long || decide (256 < s.time.us + us - w) } := ⟨_, rfl⟩
  have hrun : pwrwarnClear us s = if 256 < s.time.us + us - w then
      (v.chip 4 (min 65535 (s.time.us + us - w))).chip 5 (min 65535 (s.time.us + us - w))
      else v.chip 4 (min 65535 (s.time.us + us - w)) := by
    unfold pwrwarnClear
    dsimp only
    rw [hw, hcl, hv]
    rfl
  have hrst : ∃ k, (pwrwarnClear us s).rst = { v.rst with chip := k } ∧ tst k 4 = true := by
    rw [hrun]
    split
    · refine ⟨_, by rw [chip_rst, chip_rst], ?_⟩
      rw [tst_setBit_other _ _ _ _ (by decide), tst_setBit]
    · exact ⟨_, chip_rst _ _ _, tst_setBit _ _ _⟩
  obtain ⟨k, hk, hbit⟩ := hrst
  rw [hk, hv]
  refine ⟨rfl, rfl, rfl, rfl, ?_, hbit, hsame⟩
  show (s.rst.long || decide (256 < s.time.us + us - w)) = true ↔ _
  rw [Bool.or_eq_true, decide_eq_true_eq]

/-- Settles O13: the warning stops the self-tests of both twins; its end records the dip; a loss of supply is the reset state with what
outlives it. -/
theorem supplyWarningsAreRecorded : Obligations.SupplyWarningsAreRecorded :=
  ⟨fun _ _ h => warnAsserted_goes h, fun _ _ _ h hc => pwrwarnClear_goes h hc,
    fun _ => goes_to rfl ⟨rfl, rfl, rfl, rfl, rfl, rfl, rfl, rfl, rfl, rfl, rfl⟩⟩

end Sys2Proof.Laws
end

section
/-! Doorbells, slot fetches, predicates and the commands that end as they begin (04, 05). -/

namespace Sys2Proof.Laws

open Sys2Proof Sys2Proof.Machine

set_option maxRecDepth 8000

/-- Behind a write that waits, what arrives at a BAR waits too. -/
theorem inOrderAt_waits {s : State} {p : Side} {f : Fin 128} {e : Option (Fin 8)} (h : s.atOnce (.bar p f e) = false) (c : Instr)
    (k : State → State) : s.inOrderAt (.bar p f e) c k = s.modPort p fun x => { x with behind := x.behind ++ [.cmd c] } := by
  have hw : (s.writeWaits p || !(s.port p).behind.isEmpty) = true := Bool.not_eq_eq_eq_not.mp h
  exact if_pos hw

/-- A doorbell with nothing ahead of it. -/
theorem exec_doorbell {s : State} {p : Path} (h : s.atOnce p = true) (off width : Nat) (v : Word) (b : Bool) :
    exec (.doorbell p off width v b) s = .next (doorbell (.doorbell p off width v b) p off width v b s) :=
  congrArg Host.Outcome.next (at_once h _ _)

/-- An aligned clean doorbell of a function that takes it is stamped. -/
theorem doorbell_stamped {s : State} {p : Path} {off : Nat} {v : Word} (ho : off % 8 = 0) (hd : s.deaf p = false)
    (ha : s.anyService = true) (c : Instr) :
    doorbell c p off 8 v false s = s.stamped c fun st s =>
      if s.tdiViolates p then
        match Path.fn p with
        | some (q, f) => (s.tdiError q f st).regErr p 1 off E.notAuthorised
        | none => s
      else s.ring3 p off v.toNat st := by
  unfold doorbell
  rw [hd, ha, ho]
  rfl

/-- Whether a TDI turns an access away does not depend on the stamp. -/
theorem tdiViolates_stamp (s : State) (p : Path) : s.stamp.2.tdiViolates p = s.tdiViolates p := by
  unfold State.stamp
  split <;> rfl

/-- A doorbell that reaches an ordinary queue of a context that does not drain is judged by `Queue.ring1`. -/
theorem ring3_queue {u : State} {p : Path} {off slot qn value stamp : Nat} (hs : u.doorCtx p off = some slot) (ho : off % 4096 < 0x200)
    (hq : u.localQueue slot (off % 4096 / 8) = some qn) (hst : (u.queue qn).state ≠ .stopped)
    (hc : (u.ctx (u.queue qn).ctx).state ≠ .draining) (hp : (u.queue qn).priv = false) :
    u.ring3 p off value stamp =
      match (u.queue qn).ring1 (Path.side p) value stamp (decide ((u.ctx (u.queue qn).ctx).state = .running)) with
      | .reject code => u.regErr p 1 off code
      | .overrun => u.setQueue qn ((u.queue qn).park E.badLength ((u.queue qn).cons % (u.queue qn).slots))
      | .taken q => u.setQueue qn q := by
  unfold State.ring3
  rw [hs]
  dsimp only
  rw [if_neg (by omega), hq]
  unfold State.ring2
  simp only [hst, hc, hp, Bool.false_and, Bool.false_eq_true, if_false] <;> rfl

/-- Settles O14: a doorbell passes the order of arrival, its function, its data, its width and its stamp before its queue judges it. -/
theorem doorbellsAreTakenOrRefused : Obligations.DoorbellsAreTakenOrRefused := by
  refine ⟨fun s p f e off width v b h => ?_, fun s p off width v h hd => ?_, fun s p off width v h hd hw => ?_,
    fun s p off width v b h hd => ?_, fun s p off v h ho hd ha hn => ?_,
    fun s u p off slot qn v h ho hd ha ht hn hu hs hlt hq hst hc hp => ?_⟩
  · exact congrArg Host.Outcome.next (inOrderAt_waits h _ _)
  · rw [exec_doorbell h]
    unfold doorbell
    rw [hd]
    rfl
  · rw [exec_doorbell h]
    unfold doorbell
    rw [hd, if_neg Bool.false_ne_true, if_neg Bool.false_ne_true, if_pos (by simpa using hw)]
  · rw [exec_doorbell h]
    unfold doorbell
    rw [hd]
    rfl
  · rw [exec_doorbell h, doorbell_stamped ho hd ha]
    unfold State.stamped
    rw [hn]
    rfl
  · have hrun : exec (.doorbell p off 8 v false) s = .next (u.ring3 p off v.toNat s.stamp.1) := by
      rw [exec_doorbell h, doorbell_stamped ho hd ha, stamped_go hn, tdiViolates_stamp, ht, hu]
      rfl
    rw [ring3_queue hs hlt hq hst hc hp] at hrun
    exact ⟨fun q hq => by rw [hrun, hq], fun code hq => by rw [hrun, hq]⟩

/-- The slots that a doorbell adds lead from the producer index to the one written. -/
theorem ring_distance {prod n p : Nat} (hp : p < n) : (prod + (p + n - prod % n) % n) % n = p := by
  have hmod : prod % n < n := Nat.mod_lt _ (by omega)
  have hdiv := Nat.div_add_mod prod n
  rw [Nat.add_mod_mod]
  have heq : prod + (p + n - prod % n) = p + n * (prod / n + 1) := by rw [Nat.mul_add]; omega
  rw [heq, Nat.add_mul_mod_self_left, Nat.mod_eq_of_lt hp]

/-- Settles O15: the index written is as far ahead as the slots added, of which there are no more than the ring has free. -/
theorem doorbellWritesTheProducerIndex : Obligations.DoorbellWritesTheProducerIndex := by
  intro q q' via value stamp running hret hfull h
  unfold Queue.ring1 at h
  dsimp only at h
  split at h
  · cases h
  rename_i hok
  have hp : bits value 31 0 < q.slots := by simp at hok; omega
  have hv : bits value 31 0 = value % 2 ^ 32 := by simp [bits]
  have hdist := ring_distance (prod := q.prod) hp
  generalize (bits value 31 0 + q.slots - q.prod % q.slots) % q.slots = d at h hdist
  have hdist' : (q.prod + (if (decide (d = 0) && tst value 32 != q.prodPhase) = true then q.slots else d)) % q.slots = value % 2 ^ 32 := by
    split
    · rename_i hz
      have hz : d = 0 := by simp at hz; exact hz.1
      rw [Nat.add_mod_right, ← hv, ← hdist, hz, Nat.add_zero]
    · rw [hdist, hv]
  generalize (if (decide (d = 0) && tst value 32 != q.prodPhase) = true then q.slots else d) = e at h hdist'
  split at h
  · rename_i hz
    obtain rfl := Rung.taken.inj h
    rw [hz, Nat.add_zero] at hdist'
    exact ⟨hdist', Nat.le_refl _, hfull, rfl, rfl, rfl, fun hlt => absurd hlt (Nat.lt_irrefl _)⟩
  split at h
  · cases h
  split at h
  · cases h
  · rename_i hroom
    obtain rfl := Rung.taken.inj h
    refine ⟨hdist', Nat.le_add_right _ _, ?_, rfl, rfl, rfl, fun _ hi hr => ?_⟩
    · show q.prod + e ≤ q.ret + q.slots
      omega
    · simp [hi, hr]

end Sys2Proof.Laws
end

section
/-! Slot fetches. -/
namespace Sys2Proof.Laws

open Sys2Proof Sys2Proof.Machine

set_option maxRecDepth 8000

/-- SLOT_FETCH of the queue's generation, with no line in its way, judges what the reads return. -/
theorem exec_slotFetch {s : State} {qn : Nat} {given : List Byte} {p : Bool} (hf : s.canFetch qn = true)
    (hw : s.inTheWay (s.slotRanges qn) [] = []) :
    exec (.slotFetch ⟨qn, (s.queue qn).gen⟩ given p) s = .next (slotFetch qn (s.queue qn).gen given p s.extraCheck s) := by
  refine congrArg Host.Outcome.next ?_
  show fetchSlot qn (s.queue qn).gen given p s = _
  unfold fetchSlot
  dsimp only
  rw [if_neg (by simp [hf]), uncached_none hw]

/-- A fetch that may not go on leaves the state. -/
theorem slotFetch_stays {s : State} {qn : Nat} (h : s.canFetch qn = false) (given : List Byte) (p : Bool) (extra : List Byte → Nat) :
    slotFetch qn (s.queue qn).gen given p extra s = s := by
  unfold slotFetch
  simp [h]

/-- A head slot that the reads do not return clean parks its queue. -/
theorem slotFetch_poisoned {s : State} {qn : Nat} {given head : List Byte} {p : Bool} {extra : List Byte → Nat} (hf : s.canFetch qn = true)
    (hb : s.slotBytes (s.queue qn) (s.ringAddr (s.queue qn) (s.queue qn).cons) 64 given p = .ok (head, true)) :
    slotFetch qn (s.queue qn).gen given p extra s =
      s.setQueue qn ((s.queue qn).park E.poisoned ((s.queue qn).cons % (s.queue qn).slots)) := by
  unfold slotFetch
  simp [hf, hb]

/-- A head slot of the expected phase with its whole chain is admitted, or rejected with the code of its checks. -/
theorem slotFetch_admits {s : State} {qn : Nat} {given head b : List Byte} {p : Bool} {extra : List Byte → Nat} {q : Queue}
    (hq : q = s.queue qn) (hf : s.canFetch qn = true)
    (hb : s.slotBytes q (s.ringAddr q q.cons) 64 given p = .ok (head, false)) (hp : hPhase head = q.phaseAt q.cons)
    (hfit : q.cons % q.slots + hChain head + 1 ≤ q.slots) (hr : q.cons + hChain head + 1 ≤ q.prod)
    (hc : s.chainBytes q p (hChain head + 1) (s.ringAddr q q.cons) given = .ok (b, false)) :
    slotFetch qn q.gen given p extra s =
      if s.admitCode qn q.cons b extra = E.ok then s.admitCmd qn q.cons b
      else s.setQueue qn { q with
        reject := some (q.cons, hChain head + 1, s.admitCode qn q.cons b extra), rejectDone := false, rereads := 0 } := by
  subst hq
  unfold slotFetch
  simp only [ne_eq, not_true, if_false, hf, Bool.not_true, Bool.false_eq_true, hb, hp, bne_self_eq_false, hfit, decide_true,
    Bool.true_and, decide_eq_true_eq, Nat.not_lt.mpr hr, if_true, hc]

/-- Settles O16: what the head slot's bytes, phase, chain and checks make of a fetch. -/
theorem slotFetchAdmitsTheHeadSlot : Obligations.SlotFetchAdmitsTheHeadSlot := by
  refine ⟨fun s qn q given head b p hq hf hw hb hp hfit hr hc => ?_, fun s qn q given head p hq hf hw hb => ?_,
    fun s qn given p hn => ?_, fun s qn g given p hg => ?_⟩
  · have e := slotFetch_admits (extra := s.extraCheck) hq hf hb hp hfit hr hc
    subst hq
    rw [exec_slotFetch hf hw, e]
  · subst hq
    rw [exec_slotFetch hf hw, slotFetch_poisoned hf hb]
  · have hf : s.canFetch qn = false := by
      unfold State.canFetch
      simp [Nat.not_lt.mpr hn]
    refine congrArg Host.Outcome.next ?_
    show fetchSlot qn (s.queue qn).gen given p s = s
    unfold fetchSlot
    dsimp only
    rw [if_pos (by simp [hf]), slotFetch_stays hf]
  · refine congrArg Host.Outcome.next ?_
    show fetchSlot qn g given p s = _
    unfold fetchSlot slotFetch
    simp [hg]

/-- A word that is not of its queue's generation is dropped. -/
theorem predicateRead_old {s : State} {r : CmdRef} {g : Nat} (h : g ≠ (s.queue r.queue).gen) (w : Nat) (bad : Bool) :
    predicateRead r g w bad s = s.staleQueue := by
  unfold predicateRead
  rw [if_pos h]

/-- A word whose command has been ended decides nothing. -/
theorem predicateRead_ended {s : State} {r : CmdRef} {c : Cmd} (hc : (s.queue r.queue).cmdAt r.slot = some c) (h : c.result ≠ none)
    (w : Nat) (bad : Bool) : predicateRead r (s.queue r.queue).gen w bad s = s.dropWord r.queue c.slot := by
  have hr : c.result.isSome = true := Option.isSome_iff_ne_none.mpr h
  unfold predicateRead
  simp [hc, hr]

/-- A word in device memory decides its command. -/
theorem predicateRead_local {s u : State} {r : CmdRef} {c : Cmd} {a : Nat} (hc : (s.queue r.queue).cmdAt r.slot = some c)
    (hp : c.pred = .waiting) (hr : c.result = none) (hu : u = s.dropWord r.queue c.slot)
    (ht : (u.target (s.queue r.queue).ctx (predAddr c.bytes) 8 .read).1 = .loc a) (w : Nat) (bad : Bool) :
    predicateRead r (s.queue r.queue).gen w bad s =
      let v := u.touch (s.queue r.queue).ctx (predAddr c.bytes) .read
      if u.mem.anyPoison a 8 = true then v.finish r.queue c.slot E.poisoned 0
      else if predHolds (rd c.bytes 16 1 % 8) (rd c.bytes 24 8) (u.mem.word a) = true then
        v.modCmd r.queue c.slot fun d => { d with pred := .decided }
      else (v.finish r.queue c.slot E.ok 0).modCmd r.queue c.slot fun d => { d with skipped := true, pred := .decided, begun := true } := by
  subst hu
  unfold predicateRead
  simp only [ne_eq, not_true, if_false, hc, hp, hr, Option.isSome_none, Bool.or_false, decide_false, Bool.false_eq_true, ht]

/-- Dropping a request for a word leaves memory. -/
theorem dropWord_mem (s : State) (qn pos : Nat) : (s.dropWord qn pos).mem = s.mem :=
  (State.dropWord_frame s qn pos (M := 256) rfl Frame.rfl).mem rfl

/-- Settles O18: the word, its poison and its generation decide what becomes of the command. -/
theorem predicatesDecideCommands : Obligations.PredicatesDecideCommands := by
  refine ⟨fun s u r a given bad c hc hp hr hu hs ht hw => ?_, fun s r g w bad hw hg => ?_, fun s r w bad c hw hc hr => ?_⟩
  · have hrange : s.wordRanges r = [(a, 8)] := by
      unfold State.wordRanges predAddr
      simp only [hc, hs, hp, if_true]
    have hm : u.mem = s.mem := by rw [hu, dropWord_mem]
    have e := predicateRead_local hc hp hr hu ht given bad
    rw [hm] at e
    refine congrArg Host.Outcome.next ?_
    show readPredicate r (s.queue r.queue).gen given bad s = _
    unfold readPredicate
    rw [uncached_none (by rw [hrange]; exact hw)]
    exact e
  · exact congrArg Host.Outcome.next ((uncached_none hw).trans (predicateRead_old hg w bad))
  · exact congrArg Host.Outcome.next ((uncached_none hw).trans (predicateRead_ended hc hr w bad))

end Sys2Proof.Laws
end

section
/-! Predicates asked for. -/
namespace Sys2Proof.Laws

open Sys2Proof Sys2Proof.Machine

set_option maxRecDepth 8000

/-- The command in a ring slot has not begun. -/
def Unbegun (t : State) (r : CmdRef) : Prop := ∃ d, (t.queue r.queue).cmdAt r.slot = some d ∧ d.begun = false

/-- A change to one command that neither moves it nor lets it begin leaves its slot's command unbegun. -/
theorem unbegun_modCmd {t : State} {r : CmdRef} {pos : Nat} {f : Cmd → Cmd} (h : Unbegun t r) (hs : ∀ x, (f x).slot = x.slot)
    (hb : ∀ x, (f x).begun = x.begun) : Unbegun (t.modCmd r.queue pos f) r := by
  obtain ⟨d, hd, hn⟩ := h
  refine ⟨_, modCmd_cmdAt hd hs, ?_⟩
  split
  · rw [hb, hn]
  · exact hn

/-- Whether a slot's command has begun depends on the queues alone. -/
theorem unbegun_of_queues {s t : State} {r : CmdRef} (h : t.queues = s.queues) (hu : Unbegun s r) : Unbegun t r := by
  unfold Unbegun State.queue at *
  rwa [h]

/-- Asking for a predicate word lets no command begin. -/
theorem unbegun_askWord {t : State} {r : CmdRef} (h : Unbegun t r) (c : Cmd) : Unbegun (t.askWord r.queue c) r := by
  have ask : ∀ v : State, v.queues = t.queues → ∀ o, Unbegun ((v.modCmd r.queue c.slot fun d => { d with pred := .waiting }).emit o) r :=
    fun v hv o => unbegun_of_queues (s := v.modCmd r.queue c.slot fun d => { d with pred := .waiting }) rfl
      (unbegun_modCmd (unbegun_of_queues hv h) (fun _ => rfl) fun _ => rfl)
  unfold State.askWord
  dsimp only
  split
  · split
    · exact ask _ ((State.request_frame _ _ _ _ _ _ (M := 256) rfl Frame.rfl).queues rfl) _
    · exact h
  · exact ask _ rfl _

/-- A started WRITE_INLINE alone goes on. -/
theorem runInline_unbegun {t : State} {r : CmdRef} (h : Unbegun t r) : t.runInline r = t := by
  obtain ⟨d, hd, hn⟩ := h
  unfold State.runInline
  simp [hd, hn]

/-- A started LAUNCH alone is handed off. -/
theorem tryLaunch_unbegun {t : State} {r : CmdRef} (h : Unbegun t r) : t.tryLaunch r = t := by
  obtain ⟨d, hd, hn⟩ := h
  unfold State.tryLaunch
  simp [hd, hn]

/-- A command that does not begin starts no transition. -/
theorem startsOnTime_unbegun {t : State} {r : CmdRef} (h : Unbegun t r) (s : State) : s.startsOnTime t r = none := by
  obtain ⟨d, hd, hn⟩ := h
  unfold State.startsOnTime
  rw [hd]
  split
  · rename_i e; cases e; simp [hn]
  · rfl

theorem atStamp_unbegun {t : State} {r : CmdRef} (h : Unbegun t r) (s : State) : s.atStamp r t = t := by
  unfold State.atStamp
  rw [startsOnTime_unbegun h]

theorem queueAtStamp_unbegun {t : State} {r : CmdRef} (h : Unbegun t r) (s : State) : s.queueAtStamp r t = t := by
  unfold State.queueAtStamp
  rw [startsOnTime_unbegun h]

/-- Every row at which a ring command begins is its `begin`, followed by what goes on where the command has begun. -/
theorem startRow_exec {i : Instr} {s : State} {r : CmdRef} {op : Nat} {sub : Option Nat} (h : startRow i = some (r, op, sub))
    (hc : s.collOf r = none) :
    ∃ (k : Nat → Cmd → State → State) (f : State → State), exec i s = .next (f (begin r op sub s k)) ∧ ∀ t, Unbegun t r → f t = t := by
  have coll : ∀ n, op = Op.collective → sub = some n →
      ∃ (k : Nat → Cmd → State → State) (f : State → State), exec i s = .next (f (begin r op sub s k)) ∧ ∀ t, Unbegun t r → f t = t := by
    rintro n rfl rfl
    refine ⟨fun _ c s => (s.collBegin r c.bytes).collStep r, id, ?_, fun _ _ => rfl⟩
    rw [coll_exec h]
    refine congrArg Host.Outcome.next ?_
    unfold collective
    rw [hc]
    rfl
  cases i
  all_goals first | (simp [startRow] at h; done) | skip
  all_goals
    have h' := h
    simp only [startRow, Option.some.injEq, Prod.mk.injEq] at h'
    obtain ⟨e1, e2, e3⟩ := h'
  case allreduce | reduceScatter | allgather | alltoall | broadcast | collectiveBarrier => exact coll _ e2.symm e3.symm
  all_goals
    clear coll
    subst e1 e2 e3
  case writeInline => exact ⟨_, fun t => t.runInline _, rfl, fun _ => runInline_unbegun⟩
  case launch => exact ⟨_, fun t => t.tryLaunch _, rfl, fun _ => tryLaunch_unbegun⟩
  case open_ | start | park | resume | setHome | close | kill => exact ⟨_, fun t => s.atStamp _ t, rfl, fun _ h => atStamp_unbegun h s⟩
  case qPark | qResume | qStop | qDestroy => exact ⟨_, fun t => s.queueAtStamp _ t, rfl, fun _ h => queueAtStamp_unbegun h s⟩
  all_goals exact ⟨_, id, rfl, fun _ _ => rfl⟩

/-- Settles O17: a predicated command is held and asks for its word; its row does nothing else, as it has not begun. -/
theorem predicatedCommandsAskForTheirWord : Obligations.PredicatedCommandsAskForTheirWord := by
  refine ⟨fun i s r op sub c hi hw hp hs hh hc => ?_, fun s qn q c t hq ht => ?_⟩
  · obtain ⟨k, f, he, hf⟩ := startRow_exec hi hc
    rw [he, waits_begin hw hp hs hh]
    refine congrArg Host.Outcome.next (hf _ (unbegun_askWord (unbegun_modCmd ?_ ?_ ?_) c))
    · exact ⟨_, markStart_cmdAt hw.1, hw.2.2.2.1⟩
    all_goals exact fun _ => rfl
  · subst hq
    have ht : (s.target (s.queue qn).ctx (predAddr c.bytes) 8 .read).1 = t := ht.symm
    unfold State.askWord
    refine ⟨fun hn => ?_, fun b page e hi hf => ?_, fun b page e h => ?_⟩
    · simp only [ht]
      rfl
    · simp only [ht, e, hi, hf, Bool.and_self, if_true]
      rfl
    · have : (s.canIssue (s.ctx (s.queue qn).ctx).port (s.ctx (s.queue qn).ctx).func && s.tagFree (s.ctx (s.queue qn).ctx).port) = false := by
        rcases h with h | h <;> simp [h]
      simp only [ht, e, this, Bool.false_eq_true, if_false]

/-- Settles O19: the opcodes that only end finish as they begin; a wait is evaluated against its fence. -/
theorem endingCommandsEndAsTheyBegin : Obligations.EndingCommandsEndAsTheyBegin := by
  refine ⟨fun s u r c h => ?_, fun s u r c h => ?_, fun s u r c h => ?_, fun s u r c h => ?_, fun d f now ho hb hr ht => ?_,
    fun f target => ⟨fun h => ?_, fun h hs => ?_, fun h hs => ?_⟩⟩
  · exact congrArg Host.Outcome.next (begin_eq h _)
  · exact congrArg Host.Outcome.next (begin_eq h _)
  · exact congrArg Host.Outcome.next (begin_eq h _)
  · exact congrArg Host.Outcome.next (begin_eq h _)
  · unfold Cmd.evalWait
    rw [if_pos (by simp [ho, hb, hr, ht])] <;> rfl
  · unfold waitOutcome
    simp [h]
  · unfold waitOutcome
    simp [Nat.not_le.mpr h, hs]
  · unfold waitOutcome
    simp [Nat.not_le.mpr h, hs]

/-- Settles O20: an engine's row only begins its command. -/
theorem engineCommandsBegin : Obligations.EngineCommandsBegin := by
  refine ⟨?_, ?_, ?_, ?_, ?_, ?_, ?_, ?_, ?_, ?_, ?_, ?_, fun s u r op c h => begun_of h⟩
  all_goals exact fun s u r c h => congrArg Host.Outcome.next (begin_eq h _)

end Sys2Proof.Laws
end

section
/-! WRITE_INLINE. -/
namespace Sys2Proof.Laws

open Sys2Proof Sys2Proof.Machine

set_option maxRecDepth 8000

/-- What touching a translation leaves: memory and queues. -/
theorem touch_mem (s : State) (slot cva : Nat) (acc : Access) : (s.touch slot cva acc).mem = s.mem :=
  (State.touch_frame s slot cva acc (M := 128) rfl Frame.rfl).mem rfl

theorem touch_queues (s : State) (slot cva : Nat) (acc : Access) : (s.touch slot cva acc).queues = s.queues :=
  (State.touch_frame s slot cva acc (M := 128) rfl Frame.rfl).queues rfl

/-- A queue depends on the queues alone. -/
theorem queue_of_queues {s t : State} (h : t.queues = s.queues) (n : Nat) : t.queue n = s.queue n := by
  unfold State.queue; rw [h]

theorem touch_queue (s : State) (slot cva : Nat) (acc : Access) (n : Nat) : (s.touch slot cva acc).queue n = s.queue n :=
  queue_of_queues (touch_queues s slot cva acc) n

/-- A queue while memory changes. -/
theorem setMem_queue (s : State) (m : Mem) (n : Nat) : (s.setMem m).queue n = s.queue n := rfl

/-- What ends a command does not move it. -/
theorem finish_slot (c : Cmd) (code residue now : Nat) : (c.finish code residue now).slot = c.slot := by
  unfold Cmd.finish
  split <;> rfl

/-- A command without a result ends with the code and the residue. -/
theorem finish_result {c : Cmd} (h : c.result = none) (code residue now : Nat) :
    (c.finish code residue now).result = some code ∧ (c.finish code residue now).residue = residue := by
  unfold Cmd.finish
  rw [h]
  exact ⟨rfl, rfl⟩

/-- A write of n bytes within 64 bytes is one piece. -/
theorem inlinePieces_one {b : List Byte} (h0 : 0 < pf b 8 8 0) (h : pf b 0 56 0 % 64 + pf b 8 8 0 ≤ 64) : inlinePieces b = 1 := by
  unfold inlinePieces
  omega

/-- The one piece: all bytes, at the destination. -/
theorem inlineAt_one {u : State} {qn n : Nat} {b : List Byte} (hn : n = pf b 8 8 0) (h : pf b 0 56 0 % 64 + n ≤ 64)
    (hl : n ≤ (b.drop (pOff b + 16)).length) :
    u.inlineAt qn b 0 = (pf b 0 56 0, (b.drop (pOff b + 16)).take n, (u.target (u.queue qn).ctx (pf b 0 56 0) n .write).1) := by
  have hd : inlineDone b (0 + 1) = n := by
    unfold inlineDone
    rw [if_neg (by omega), ← hn]
    omega
  have hz : inlineDone b 0 = 0 := by unfold inlineDone; rw [if_pos rfl]
  unfold State.inlineAt
  dsimp only
  rw [hd, hz, Nat.add_zero, Nat.add_zero, Nat.sub_zero, List.length_take, Nat.min_eq_left hl]

/-- A piece in device memory, with nothing of the command's on its way, is written. -/
theorem inlinePiece_local {u v : State} {qn a n : Nat} {c : Cmd} (hn : n = pf c.bytes 8 8 0) (h : pf c.bytes 0 56 0 % 64 + n ≤ 64)
    (hl : n ≤ (c.bytes.drop (pOff c.bytes + 16)).length) (ht : (u.target (u.queue qn).ctx (pf c.bytes 0 56 0) n .write).1 = .loc a)
    (hj : ∀ p, ∀ e ∈ (u.port p).journal, e.dataOf qn c.slot (2 ^ 64) = false) (hp : c.peerLeft = 0)
    (hv : v = ((u.touch (u.queue qn).ctx (pf c.bytes 0 56 0) .write).setMem
      (u.mem.storeP a (((c.bytes.drop (pOff c.bytes + 16)).take n).map fun x => (x, false)))).modCmd qn c.slot fun y =>
        { y with point := 1 }) (hq : Quiet v [(a, n)]) :
    u.inlinePiece qn c 0 = .ok v := by
  have hw : u.inlineWaits qn c (.loc a) = false := by
    unfold State.inlineWaits
    simpa [hp] using ⟨hj .a, hj .b⟩
  have hlen : ((c.bytes.drop (pOff c.bytes + 16)).take n).length = n := by rw [List.length_take, Nat.min_eq_left hl]
  unfold State.inlinePiece
  simp only [inlineAt_one hn h hl, ht, State.stopOf, if_true, hw, Bool.false_eq_true, if_false]
  refine congrArg Except.ok ?_
  unfold State.writePiece localRanges
  simp only [List.filterMap_cons, List.filterMap_nil, hlen, touch_mem]
  subst hv
  exact disturb_quiet _ hq

/-- Settles O21: the one piece is written, and with no piece left the command ends. -/
theorem writeInlineWritesItsBytes : Obligations.WriteInlineWritesItsBytes := by
  intro s u v r c a n hb hwk hsl hsk hst hpt hpl hj hn h0 h64 hl ht hr hv hq
  obtain ⟨c', hc', hc⟩ := began_at hb
  have hslot : c'.slot = c.slot := by rw [hc]
  have hbytes : c'.bytes = c.bytes := by rw [hc]
  have hbegun : c'.begun = true := by rw [hc]
  have hres : c'.result = none := by rw [hc]; exact hb.1.2.2.2.2
  have hskip : c'.skipped = false := by rw [hc]; exact hsk
  have hstall : c'.stall = none := by rw [hc]; exact hst
  have hpoint : c'.point = 0 := by rw [hc]; exact hpt
  have hpeer : c'.peerLeft = 0 := by rw [hc]; exact hpl
  have hop : hOpcode c'.bytes = Op.writeInline := by rw [hbytes]; exact hb.1.2.1
  clear hc
  rw [← hbytes] at hn h64 hl ht hr hv ⊢
  rw [← hslot] at hj hv
  have hcmd : (u.queue r.queue).cmd c'.slot = some c' := cmd_of_cmdAt hc'
  have hone : inlinePieces c'.bytes = 1 := inlinePieces_one (by omega) (by omega)
  have hneed : u.inlineNeed r.queue c'.bytes 0 = 0 := by
    unfold State.inlineNeed
    simp [hone, List.range_succ, inlineAt_one hn h64 hl, ht]
  have hpiece : u.inlinePiece r.queue c' 0 = .ok v := inlinePiece_local hn h64 hl ht hj hpeer hv hq
  have hvCmd : (v.queue r.queue).cmd c'.slot = some { c' with point := 1 } := by
    rw [hv]
    refine modCmd_cmd (f := fun y => { y with point := 1 }) ?_ fun _ => rfl
    rwa [setMem_queue, touch_queue]
  have hvAt : (v.queue r.queue).cmdAt r.slot = some { c' with point := 1 } := by
    rw [hv]
    refine (modCmd_cmdAt (f := fun y => { y with point := 1 }) (c := c') ?_ fun _ => rfl).trans (by rw [if_pos rfl])
    rwa [setMem_queue, touch_queue]
  have hrun : u.runInline r = v.finish r.queue c'.slot E.ok 0 := by
    unfold State.runInline
    simp only [hc', hop, hbegun, hres, hskip, hwk, hsl, hpoint, hneed, hone, uncached_none hr]
    simp [State.inlineFrom, hcmd, hres, hstall, hpoint, hone, hpiece, hvCmd]
  refine goes_to (t := v.finish r.queue c'.slot E.ok 0) ?_ ⟨?_, ?_⟩
  · refine congrArg Host.Outcome.next ?_
    show (begin r Op.writeInline none s fun _ _ s => s).runInline r = _
    rw [begin_eq hb, hrun]
  · show v.mem = _
    rw [hv, ← begins_mem hb]
    rfl
  · refine ⟨_, modCmd_cmdAt (f := fun c => c.finish E.ok 0 v.time.bnd) hvAt fun _ => finish_slot .., ?_⟩
    rw [if_pos rfl]
    exact finish_result (c := { c' with point := 1 }) hres _ _ _

end Sys2Proof.Laws
end

section
/-! LAUNCH and ABORT. -/
namespace Sys2Proof.Laws

open Sys2Proof Sys2Proof.Machine

set_option maxRecDepth 8000

/-- A started LAUNCH whose domains are in service and which needs no notice is handed off. -/
theorem tryLaunch_handsOff {u : State} {r : CmdRef} {c : Cmd} (hc : (u.queue r.queue).cmdAt r.slot = some c) (ho : hOpcode c.bytes = Op.launch)
    (hb : c.begun = true) (hr : c.result = none) (hk : c.skipped = false) (hp : c.phase = 0) (hw : u.works r.queue = true)
    (hs : u.slices r.queue = true) (hd : ∀ n, n < 48 → tst (pf c.bytes 8 47 0) n = true → (u.cd n).state = .inService)
    (hn : u.noticeNeeded r.queue c = false) :
    u.tryLaunch r = (u.modCmd r.queue c.slot fun d => { d with phase := 1, acts := 1 }).emit
      (.launch (u.queue r.queue).ctx (u.ctx (u.queue r.queue).ctx).gen (u.ctx (u.queue r.queue).ctx).pasid
        (pf c.bytes 0 56 8 * 256) (pf c.bytes 8 47 0) (pf c.bytes 16 31 0) (pf c.bytes 16 47 32) (pf c.bytes 16 63 48)
        ((c.bytes.drop (pOff c.bytes + 32)).take (pf c.bytes 24 8 0)) c.stamp) := by
  have none_in : ∀ st : CdState, st ≠ .inService →
      (((List.range 48).filter fun n => tst (pf c.bytes 8 47 0) n).any fun n => decide ((u.cd n).state = st)) = false := by
    intro st hst
    rw [List.any_eq_false]
    intro n hm
    obtain ⟨hlt, ht⟩ := List.mem_filter.mp hm
    rw [hd n (List.mem_range.mp hlt) ht]
    exact fun e => hst (of_decide_eq_true e).symm
  unfold State.tryLaunch
  simp only [hc, ho, hb, hr, hk, hp, hw, hs, hn, none_in .outOfService (by decide), none_in .resetting (by decide)]
  rfl

/-- A LAUNCH that its act's acknowledgement lets go on is the one command that goes on. -/
theorem tryLaunch_other {u : State} {r : CmdRef} {c : Cmd} (hc : (u.queue r.queue).cmdAt r.slot = some c)
    (ho : hOpcode c.bytes ≠ Op.launch) : u.tryLaunch r = u := by
  unfold State.tryLaunch
  simp [hc, ho]

/-- An answer of the current context generation to a LAUNCH handed off. -/
theorem launchAnswer_ends {s : State} {r : CmdRef} {c : Cmd} {gen code : Nat} (ho : s.rst.orphans.contains r = false)
    (hg : (s.ctx (s.queue r.queue).ctx).gen = gen) (hc : (s.queue r.queue).cmdAt r.slot = some c) (hl : hOpcode c.bytes = Op.launch)
    (hp : c.phase = 1) (ha : c.acts ≠ 0) (hk : launchCode code = true) :
    launchAnswer r gen code s =
      if code ≠ E.ok then s.modCmd r.queue c.slot fun d => { (d.finish code 0 s.time.bnd) with acts := 0 }
      else ((List.range 48).filter fun n => tst (pf c.bytes 8 47 0) n).foldl
        (fun v n => v.modCd n fun d => { d with launched := insertNat (s.queue r.queue).ctx d.launched })
        (s.modCmd r.queue c.slot fun d => { (d.finish code 0 s.time.bnd) with acts := 0 }) := by
  unfold launchAnswer
  simp only [ho, hg, hc, Bool.false_eq_true, if_false]
  simp [hl, hp, ha, hk]

/-- Settles O22: the hand-off, the answers by generation, and the acknowledgement of a notice. -/
theorem launchesAreHandedOffAndAnswered : Obligations.LaunchesAreHandedOffAndAnswered := by
  refine ⟨fun s u r c hb hw hs hk hp hd hn => ?_, fun s r c gen code ho hg hc hl hp ha hk => ?_, fun s r gen code ho hg => ?_,
    fun s r gen code ho => ?_, fun s r c hc hn ha hl => ?_⟩
  · obtain ⟨c', hc', e⟩ := began_at hb
    have hlaunch := tryLaunch_handsOff hc' (by rw [e]; exact hb.1.2.1) (by rw [e]) (by rw [e]; exact hb.1.2.2.2.2) (by rw [e]; exact hk)
      (by rw [e]; exact hp) hw hs (by rw [e]; exact hd) (by unfold State.noticeNeeded; rw [hn]; rfl)
    refine congrArg Host.Outcome.next ?_
    show (begin r Op.launch none s fun _ _ s => s).tryLaunch r = _
    rw [begin_eq hb, hlaunch]
    rw [e]
  · refine goes_to (congrArg Host.Outcome.next (launchAnswer_ends ho hg hc hl hp ha hk)) ?_
    have first : Frame 16 s (s.modCmd r.queue c.slot fun d => { (d.finish code 0 s.time.bnd) with acts := 0 }) :=
      State.modCmd_frame _ _ _ _ rfl Frame.rfl
    split
    · exact ⟨rfl, fun _ => first.rst rfl, same_of_frame (l := [.queues, .rst]) first rfl⟩
    · rename_i hcode
      have later : ∀ v M, Sub 8192 M → Frame M v (((List.range 48).filter fun n => tst (pf c.bytes 8 47 0) n).foldl
          (fun v n => v.modCd n fun d => { d with launched := insertNat (s.queue r.queue).ctx d.launched }) v) := fun v M hm =>
        Frame.foldl (fun _ _ fr => State.modCd_frame _ _ _ hm fr) Frame.rfl
      exact ⟨(later _ 8192 rfl).queues rfl, fun h => absurd h hcode, same_of_frame (l := [.queues, .rst])
        (Frame.foldl (m := 8208) (fun _ _ fr => State.modCd_frame _ _ _ rfl fr) (State.modCmd_frame _ _ _ _ rfl Frame.rfl)) rfl⟩
  · refine congrArg Host.Outcome.next ?_
    show launchAnswer r gen code s = _
    unfold launchAnswer
    simp only [ho, hg, Bool.false_eq_true, if_false, ne_eq, not_false_eq_true, if_true]
  · refine congrArg Host.Outcome.next ?_
    show launchAnswer r gen code s = _
    unfold launchAnswer
    simp only [ho, if_true]
  · refine congrArg Host.Outcome.next ?_
    show intentAck r s = _
    unfold intentAck
    simp only [hc, hn, ha, Bool.not_false, Bool.and_self, if_true]
    have hat := modCmd_cmdAt (pos := c.slot) (f := fun d => { d with noticeAck := true }) hc fun _ => rfl
    exact tryLaunch_other hat (by rw [if_pos rfl]; exact hl)

/-- An engine's bursts land for commands that have claimed units. -/
theorem landBursts_idle (s : State) (n : Nat) {c : Cmd} (h : c.claims = []) : s.landBursts n c = s := by
  unfold State.landBursts
  split
  · rfl
  · rw [h]
    rfl

/-- Commands that have claimed nothing land nothing. -/
theorem landAll_idle (n : Nat) : ∀ (l : List Cmd) (s : State), (∀ c ∈ l, c.claims = []) →
    l.foldl (fun s c => if c.result.isNone then s.landBursts n c else s) s = s
  | [], _, _ => rfl
  | c :: l, s, h => by
    rw [List.foldl_cons, landBursts_idle s n (h c (.head _)), ite_self]
    exact landAll_idle n l s fun d hd => h d (.tail _ hd)

/-- Settles O23: the target's commands are ended and counted as the ABORT begins. -/
theorem abortEndsTheTargetsCommands : Obligations.AbortEndsTheTargetsCommands := by
  refine ⟨fun s u r c hb => ?_, fun s n skip l hl hc => ?_, fun d now v =>
    ⟨rfl, rfl, rfl, rfl, fun ha => by simp [Cmd.abortAt, Cmd.cutOff, Cmd.force, ha], rfl⟩⟩
  · exact congrArg Host.Outcome.next (begin_eq hb _)
  · subst hl
    unfold State.abortQueue
    dsimp only
    rw [landAll_idle _ _ _ hc]

end Sys2Proof.Laws
end

section
/-! COMMAND_COMPLETE. -/
namespace Sys2Proof.Laws

open Sys2Proof Sys2Proof.Machine

set_option maxRecDepth 8000

/-- A command whose half step is not due takes none. -/
theorem halfStep_undue {s : State} {c : Cmd} (h : s.halfDue c = false) (qn : Nat) : s.halfStep qn c = s := by
  unfold State.halfStep
  simp [h]

/-- A queue none of whose half steps is due takes none. -/
theorem halfSteps_undue {s : State} {qn : Nat} (h : ∀ d ∈ (s.queue qn).cmds, s.halfDue d = false) : s.halfSteps qn = s := by
  have fold : ∀ l : List Cmd, (∀ d ∈ l, s.halfDue d = false) → l.foldl (fun s c => s.halfStep qn c) s = s := by
    intro l hl
    induction l with
    | nil => rfl
    | cons d l ih => rw [List.foldl_cons, halfStep_undue (hl d (.head _)), ih fun e he => hl e (.tail _ he)]
  exact fold _ h

/-- Steps 3 to 5 with nothing that holds them retire the command. -/
theorem steps35_retires {s t : State} {qn code : Nat} {c : Cmd} (hh : (s.queue qn).replyHeld c = false) (hd : (s.queue qn).deferred = [])
    (hs : s.signalReady qn c code = true) (hr : s.stepsShort qn c code = none) (hw : s.inTheWay [] (s.replyRanges qn c) = [])
    (ht : s.retire qn c code = some t) (hq : Quiet t (s.replyRanges qn c)) : s.steps35 qn c code = t := by
  unfold State.steps35
  dsimp only
  rw [if_neg (by simp [hh]), uncached_none hw, hd]
  simp only [List.length_nil, State.writeDeferred, ite_self, hs, Bool.not_true, Bool.false_eq_true, if_false, hr, ht]
  exact disturb_quiet none hq

/-- A command that has landed, with nothing left of steps 1 and 2, comes to steps 3 to 5. -/
theorem completeCmd_landed {s : State} {qn code : Nat} {c : Cmd} {l : List Cmd} (hl : (s.queue qn).cmds = c :: l)
    (hr : c.result = some code) (hm : s.mapWaits qn c = false) (hh : s.halfDue c = false)
    (hw : c.skipped = true ∨ (s.landed qn c = true ∧ (code ≠ E.ok ∨ hOpcode c.bytes ≠ Op.dispatch) ∧ statsAddr c.bytes = 0 ∧
      c.tally = [] ∧ (ctrlOf c.bytes).inv = false ∧ c.invDone = true)) : s.completeCmd qn c code = s.steps35 qn c code := by
  unfold State.completeCmd
  rcases hw with hk | ⟨ha, ho, hs, ht, hi, hv⟩
  · simp [hm, hh, hk]
  · have hc : c.writesCounts code = false := by
      unfold Cmd.writesCounts
      rcases ho with h | h <;> simp [h]
    have hd : c.lastDone code = true := by
      unfold Cmd.lastDone
      simp [hc, hs, ht]
    have hf : (s.queue qn).cmd c.slot = some c := by
      unfold Queue.cmd
      rw [hl]
      simp
    simp [hm, hh, ha, hc, hd, hi, hf, hv, hr]

/-- Settles O24: nothing is left of steps 1 and 2, so the head retires; the next command is another one. -/
theorem commandCompleteRetiresTheHead : Obligations.CommandCompleteRetiresTheHead := by
  intro s t qn code c l hlive hworks hl hhalf hr hd hm hw hh hdef hs hshort hway ht hq
  have hc : c ∈ (s.queue qn).cmds := by rw [hl]; exact .head _
  have hdone : s.completeCmd qn c code = t :=
    (completeCmd_landed hl hr hm (hhalf c hc) hw).trans (steps35_retires hh hdef hs hshort hway ht hq)
  obtain ⟨hgone, hret⟩ := retire_queue ht
  refine ⟨congrArg Host.Outcome.next ?_, hgone, hret⟩
  show commandComplete qn s = t
  unfold commandComplete
  simp only [hlive, hworks, Bool.not_true, Bool.or_false, Bool.false_eq_true, if_false, halfSteps_undue hhalf, hl, hr, hd, if_true, hdone,
    List.head?_cons]
  rcases hx : (t.queue qn).cmds with _ | ⟨d, m⟩
  · rfl
  · have hne : ¬ c.slot = d.slot := fun e => hgone d (by rw [hx]; exact .head _) e.symm
    simp [hne]

end Sys2Proof.Laws
end


section
/-! MAP, UNMAP, INVALIDATE and the answers of cores. -/
namespace Sys2Proof.Laws

open Sys2Proof Sys2Proof.Machine

set_option maxRecDepth 8000

/-- The live domains depend on the resets alone. -/
theorem liveDomains_of_rst {s t : State} (h : t.rst = s.rst) (clusters : Nat) : t.liveDomains clusters = s.liveDomains clusters := by
  unfold State.liveDomains State.cd
  rw [h]

/-- One range asked for at live domains, with room in the tick, goes out at once. -/
theorem askInvalidate_goes {u : State} {qn pos clusters a n : Nat} (hl : u.liveDomains clusters ≠ 0) (hr : 0 < u.invRoom) :
    u.askInvalidate qn pos clusters [(a, n)] =
      ((u.modCmd qn pos fun d =>
          { d with
            invIssued := true, invLeft := 0, invRest := []
            invAt := (domainsOf (u.liveDomains clusters)).map fun n => (n, 1) }).modQueue qn fun q =>
          { q with invTick := q.invTick + 1 }).emits
        [.coreInv ((domainsOf (u.liveDomains clusters)).map fun n => (n, u.gen n)) a n ⟨qn, pos % (u.queue qn).slots⟩] := by
  obtain ⟨k, hk⟩ : ∃ k, u.invRoom = k + 1 := ⟨u.invRoom - 1, by omega⟩
  unfold State.askInvalidate
  dsimp only
  rw [if_neg (by simp [hl]), hk]
  simp only [List.drop_succ_cons, List.drop_nil, List.take_succ_cons, List.take_nil]
  rfl

/-- Where no domain is live, step 2 is done. -/
theorem askInvalidate_none {u : State} {qn pos clusters : Nat} (l : List (Nat × Nat)) (hl : u.liveDomains clusters = 0) :
    u.askInvalidate qn pos clusters l = u.modCmd qn pos fun d => { d with invIssued := true, invAt := [], invLeft := 0, invRest := [] } := by
  unfold State.askInvalidate
  simp [hl]

/-- Settles O25: the checks and the entries of MAP and UNMAP, the two halves of INVALIDATE, and the answers by generation. -/
theorem mappingCommandsWriteEntries : Obligations.MappingCommandsWriteEntries := by
  refine ⟨fun s u r c hb => ?_, fun s u r c hb hx => ?_, fun s u r c x hb hx h1 h2 hn => ?_, fun s u r c hb hx hy => ?_,
    fun s u r c hb hx hy hl hr => ?_, fun s u r c hb hx hy hl => ?_, fun s r n g hg => ?_, fun s r n hr => ?_,
    fun c now => ⟨fun ho hi hd => ?_, fun hd => ?_⟩⟩
  · refine congrArg Host.Outcome.next ((begin_eq hb _).trans ?_)
    cases u.mapRun (u.queue r.queue).ctx c.bytes <;> rfl
  · refine congrArg Host.Outcome.next ((begin_eq hb _).trans ?_)
    dsimp only
    rw [List.filter_eq_nil_iff.mpr]
    · rfl
    · rintro ⟨v, l, a, e⟩ hm
      have := hx _ hm
      dsimp only at this
      simp only [Bool.and_eq_true, decide_eq_true_eq]
      omega
  · refine congrArg Host.Outcome.next ((begin_eq hb _).trans ?_)
    obtain ⟨v, l, a, e⟩ := x
    dsimp only at h1 h2
    refine if_pos (List.any_eq_true.mpr ⟨(v, l, a, e), List.mem_filter.mpr ⟨hx, ?_⟩, ?_⟩)
    · simp only [Bool.and_eq_true, decide_eq_true_eq]
      omega
    · simp only [Bool.or_eq_true, decide_eq_true_eq]
      exact .inl h1
  · refine congrArg Host.Outcome.next ((begin_eq hb _).trans ?_)
    simp only [hx, hy, if_true, Bool.false_eq_true, if_false]
  · refine congrArg Host.Outcome.next ((begin_eq hb _).trans ?_)
    simp only [hx, hy, if_true, Bool.false_eq_true, if_false]
    rw [askInvalidate_goes hl hr, if_neg]
    exact fun h => hl ((liveDomains_of_rst rfl _).symm.trans h)
  · refine congrArg Host.Outcome.next ((begin_eq hb _).trans ?_)
    simp only [hx, hy, if_true, Bool.false_eq_true, if_false]
    rw [askInvalidate_none _ hl, if_pos]
    exact (liveDomains_of_rst rfl _).trans hl
  · refine congrArg Host.Outcome.next ?_
    show coreInvalidated r n.val g s = _
    unfold coreInvalidated
    simp [hg]
  · refine congrArg Host.Outcome.next ?_
    show coreInvalidated r n.val (s.gen n.val) s = _
    unfold coreInvalidated
    simp [hr]
    rfl
  · unfold Cmd.afterInv
    simp [ho, hi, hd]
  · unfold Cmd.afterInv
    simp [hd]

end Sys2Proof.Laws
end

section
/-! CONTEXT_CTL: contexts and queues. -/
namespace Sys2Proof.Laws

open Sys2Proof Sys2Proof.Machine

set_option maxRecDepth 8000

/-- A command that has been refused starts no transition. -/
theorem startsOnTime_refused {t : State} {r : CmdRef} {d : Cmd} {code : Nat} (hd : (t.queue r.queue).cmdAt r.slot = some d)
    (hr : d.result = some code) (hc : code ≠ E.ok) (s : State) : s.startsOnTime t r = none := by
  unfold State.startsOnTime
  rw [hd]
  split
  · rename_i e
    cases e
    simp [hr, hc]
  · rfl

/-- Counting a signal leaves the command of the slot in its place and without a result. -/
theorem countSignal_at {v : State} {qn k : Nat} {c d : Cmd} (h : (v.queue qn).cmdAt k = some d) :
    ∃ d', ((v.countSignal qn c).queue qn).cmdAt k = some d' ∧ d'.slot = d.slot ∧ d'.result = d.result := by
  unfold State.countSignal
  split
  · have hq : ∀ w : State, ∀ i, (w.addSignaller i).queue qn = w.queue qn := fun w i =>
      queue_of_queues ((State.addSignaller_frame w i (M := 32) rfl Frame.rfl).queues rfl) qn
    rw [hq]
    refine ⟨_, modCmd_cmdAt (f := fun d => { d with counted := true }) h fun _ => rfl, ?_⟩
    split <;> exact ⟨rfl, rfl⟩
  · exact ⟨d, h, rfl, rfl⟩

/-- A control command whose handles pass is in its slot, without a result. -/
theorem checked_at {s u : State} {r : CmdRef} {op sub : Nat} {c : Cmd} (h : Checked s r op sub c u) :
    ∃ d, (u.queue r.queue).cmdAt r.slot = some d ∧ d.slot = c.slot ∧ d.result = none := by
  obtain ⟨v, hb, _, rfl⟩ := h
  obtain ⟨c', hc', e⟩ := began_at hb
  obtain ⟨d, hd, hs, hr⟩ := countSignal_at (c := c) hc'
  exact ⟨d, hd, by rw [hs, e], by rw [hr, e]; exact hb.1.2.2.2.2⟩

/-- A control command that ends with a code other than HX_OK starts no transition. -/
theorem startsOnTime_finish {s u : State} {r : CmdRef} {op sub code : Nat} {c : Cmd} (h : Checked s r op sub c u) (hc : code ≠ E.ok) (v : State) :
    v.startsOnTime (u.finish r.queue c.slot code 0) r = none := by
  obtain ⟨d, hd, hs, hr⟩ := checked_at h
  refine startsOnTime_refused (modCmd_cmdAt (f := fun c => c.finish code 0 u.time.bnd) hd fun _ => finish_slot ..) ?_ hc v
  rw [if_pos hs]
  exact (finish_result hr _ _ _).1

/-- Every row of CONTEXT_CTL is its `ctl`, followed by the transition that it starts. -/
theorem ctlRow_exec {i : Instr} {r : CmdRef} {sub : Nat} (h : startRow i = some (r, Op.contextCtl, some sub)) (s : State) :
    ∃ (k : Nat → Cmd → Ctx → State → Ctl) (f : State → State), exec i s = .next (f (ctl r sub s k)) ∧
      ∀ t, s.startsOnTime t r = none → f t = t := by
  have ctx : ∀ t, s.startsOnTime t r = none → s.atStamp r t = t := by
    intro t e
    unfold State.atStamp
    rw [e]
  have queue : ∀ t, s.startsOnTime t r = none → s.queueAtStamp r t = t := by
    intro t e
    unfold State.queueAtStamp
    rw [e]
  cases i
  all_goals first | (simp [startRow] at h; done) | skip
  all_goals
    simp only [startRow, Option.some.injEq, Prod.mk.injEq] at h
    obtain ⟨e1, e2, e3⟩ := h
  all_goals first | (exact absurd e2 (by decide)) | skip
  all_goals subst e1 e3
  case open_ | start | park | resume | setHome | close | kill => exact ⟨_, s.atStamp _, rfl, ctx⟩
  case qPark | qResume | qStop | qDestroy => exact ⟨_, s.queueAtStamp _, rfl, queue⟩
  all_goals exact ⟨_, id, rfl, fun _ _ => rfl⟩

/-- OPEN whose checks pass makes its context. -/
theorem openWork_done {u : State} {qn : Nat} {c : Cmd} {home : Side} (hf : u.tdiFrozen (pf c.bytes 0 18 12) = false)
    (hh : u.chooseHome (pf c.bytes 0 27 26) = some home)
    (hy : ∀ y ∈ u.ctxs, y.2.eff ≠ .free → y.2.func = pf c.bytes 0 18 12 →
      (pf c.bytes 0 18 12 = 0 ∨ y.2.loc ≠ pf c.bytes 0 24 19) ∧ (y.2.priv = true ∨ y.2.pasid ≠ pf c.bytes 8 19 0))
    (hp : (u.poolAt (pf c.bytes 16 63 12 * 4096)).isSome = true) (hb : u.poolBound (pf c.bytes 16 63 12 * 4096) = false)
    (hg : u.pasidHeld (pf c.bytes 0 11 0) = false) (x : Ctx) :
    openWork qn c x u = .done 0
      (((u.freeFences (pf c.bytes 0 11 0)).setMem (u.mem.clearPage (pf c.bytes 16 63 12 * 4096))).setCtx (pf c.bytes 0 11 0)
        { Ctx.none with
          next := some .opened, gen := x.gen, home := home, port := Side.ofBool (tst (pw c.bytes 0) 25),
          terminate := tst (pw c.bytes 0) 28, func := pf c.bytes 0 18 12, loc := pf c.bytes 0 24 19, pasid := pf c.bytes 8 19 0,
          pasidGen := (x.pasidGen + 1) % 256, share := pf c.bytes 0 47 32, root := pf c.bytes 16 63 12 * 4096 }) := by
  obtain ⟨o, ho⟩ := Option.isSome_iff_exists.mp hp
  have hmem : (u.freeFences (pf c.bytes 0 11 0)).mem = u.mem := (State.freeFences_frame u _ (M := 32) rfl Frame.rfl).mem rfl
  unfold openWork
  simp only [hf, hh, ho, hb, hg, hmem, Bool.false_eq_true, if_false]
  rw [if_neg, if_neg]
  · rw [List.any_eq_true]
    rintro ⟨⟨n, y⟩, hm, ht⟩
    simp only [Bool.and_eq_true, decide_eq_true_eq, Bool.not_eq_true'] at ht
    obtain ⟨⟨⟨he, hfn⟩, hpr⟩, hl⟩ := ht
    exact (hy _ hm he hfn).2.elim (fun h0 => absurd h0 (by simp [hpr])) fun h0 => h0 hl
  · rw [Bool.and_eq_true, List.any_eq_true]
    rintro ⟨hne, ⟨n, y⟩, hm, ht⟩
    simp only [Bool.and_eq_true, decide_eq_true_eq] at ht hne
    obtain ⟨⟨he, hfn⟩, hl⟩ := ht
    exact (hy _ hm he hfn).1.elim hne fun h0 => h0 hl

/-- Settles O26: each subop's work where its checks pass, and the code of the context's state where it forbids the subop. -/
theorem contextsOpenStartParkResume : Obligations.ContextsOpenStartParkResume := by
  refine ⟨fun s u r c home hb hf hh hy hp hbd hg => ?_, fun s u r c hb => ?_, fun s u r c hb => ?_, fun s u r c hb => ?_,
    fun s u r c hb hs => ?_, fun i s u r c sub hi hc hn hx hne => ?_⟩
  · refine congrArg Host.Outcome.next (congrArg (s.atStamp r) ((ctl_eq hb _).trans ?_))
    rw [openWork_done hf hh hy hp hbd hg]
    rfl
  · exact congrArg Host.Outcome.next (congrArg (s.atStamp r) (ctl_eq hb _))
  · exact congrArg Host.Outcome.next (congrArg (s.atStamp r) (ctl_eq hb _))
  · exact congrArg Host.Outcome.next (congrArg (s.atStamp r) (ctl_eq hb _))
  · refine congrArg Host.Outcome.next (congrArg (s.atStamp r) ?_)
    show ctxSetHome r s = _
    unfold ctxSetHome
    rw [ctl_eq hb]
    simp only [hs, Bool.not_true, Bool.false_eq_true, if_false]
    rfl
  · obtain ⟨k, f, he, hf⟩ := ctlRow_exec hi s
    rw [he, ctl_bad hc hn hx hne]
    exact congrArg Host.Outcome.next (hf _ (startsOnTime_finish hc hne s))

end Sys2Proof.Laws
end

section
/-! Teardown, and the states of queues. -/
namespace Sys2Proof.Laws

open Sys2Proof Sys2Proof.Machine

set_option maxRecDepth 8000

/-- Settles O27: CLOSE, KILL and the drain's end come to `beginTeardown`, of which the first trigger stands. -/
theorem contextsAreTornDown : Obligations.ContextsAreTornDown := by
  refine ⟨fun s u r c hb => ?_, fun s u v r c hb hv => ?_, fun s n hs hd => ⟨fun hc => ?_, fun hc => ?_⟩,
    fun s n code stamp hn h1 h2 => ⟨fun h => ?_, fun h => ?_⟩⟩
  · exact congrArg Host.Outcome.next (congrArg (s.atStamp r) (ctl_eq hb _))
  · subst hv
    refine congrArg Host.Outcome.next (congrArg (s.atStamp r) ?_)
    show ctxClose r s = _
    unfold ctxClose
    rw [ctl_eq hb]
    simp only [Bool.and_eq_true, Option.isNone_iff_eq_none]
    split <;> rfl
  · refine congrArg Host.Outcome.next ?_
    show drainLimit (.drainLimit n) n s = _
    unfold drainLimit
    simp [hs, hd, stamped_go hc]
  · refine congrArg Host.Outcome.next ?_
    show drainLimit (.drainLimit n) n s = _
    unfold drainLimit State.stamped
    simp [hs, hd, hc]
  · unfold State.beginTeardown
    simp [h1, h2, h, Nat.not_lt.mpr hn]
  · unfold State.beginTeardown
    simp [Option.isSome_iff_ne_none.mpr h]

/-- Q_CREATE whose checks pass, of a queue and a local index that are free, makes its queue. -/
theorem queueWork_done {u : State} {qn : Nat} {c : Cmd} {x : Ctx} (hl : (u.queue (pf c.bytes 0 25 12)).live = false)
    (hn : u.localQueue (pf c.bytes 0 11 0) (pf c.bytes 0 31 26) = none) (hv : pf c.bytes 0 47 37 < vecCount x.func)
    (hq : ((u.queuesOf (pf c.bytes 0 11 0)).filter fun n => (u.queue n).live && !(u.queue n).destroy).length < 64)
    (hh : u.queueHeld (pf c.bytes 0 25 12) = false) :
    queueWork qn c x u = .done 0 (u.setQueue (pf c.bytes 0 25 12)
      { Queue.none with
        live := true, gen := ((u.queue (pf c.bytes 0 25 12)).gen + 1) % 256, ctx := pf c.bytes 0 11 0, loc := pf c.bytes 0 31 26,
        size := pf c.bytes 0 36 32, vector := pf c.bytes 0 47 37, ring := pf c.bytes 8 56 12, reply := pf c.bytes 16 56 12 }) := by
  unfold queueWork
  simp [hl, hn, hh, Nat.not_le.mpr hv, Nat.not_le.mpr hq]

/-- Q_CREATE of a queue that is being given up waits. -/
theorem queueWork_holds {u : State} {qn : Nat} {c : Cmd} {x : Ctx} (hd : (u.queue (pf c.bytes 0 25 12)).destroy = true)
    (hl : (u.queue (pf c.bytes 0 25 12)).live = true)
    (hn : ∀ n, u.localQueue (pf c.bytes 0 11 0) (pf c.bytes 0 31 26) = some n → (u.queue n).destroy = true)
    (hv : pf c.bytes 0 47 37 < vecCount x.func)
    (hq : ((u.queuesOf (pf c.bytes 0 11 0)).filter fun n => (u.queue n).live && !(u.queue n).destroy).length < 64) :
    queueWork qn c x u = .hold := by
  unfold queueWork
  rcases ho : u.localQueue (pf c.bytes 0 11 0) (pf c.bytes 0 31 26) with _ | n
  · simp [ho, hd, hl, Nat.not_le.mpr hv, Nat.not_le.mpr hq]
  · simp [ho, hd, hl, hn n ho, Nat.not_le.mpr hv, Nat.not_le.mpr hq]

/-- A live queue of the context is changed, or its state's code answered. -/
theorem ctlQueue_live {u : State} {r : CmdRef} {c : Cmd} {sub slot qn : Nat} (hl : (u.queue qn).live = true) (hx : (u.queue qn).ctx = slot)
    (hd : (u.queue qn).destroy = false) (f : Queue → Queue) :
    ctlOut r c u (u.ctlQueue sub slot qn fun q => .done 0 (u.setQueue qn (f q))) =
      if queueCode sub (u.queue qn).eff ≠ E.ok then u.finish r.queue c.slot (queueCode sub (u.queue qn).eff) 0
      else (u.setQueue qn (f (u.queue qn))).finish r.queue c.slot E.ok 0 := by
  unfold State.ctlQueue
  simp only [hl, hx, hd, Bool.not_true, ne_eq, not_true, decide_false, Bool.or_self, Bool.false_eq_true, if_false]
  split <;> rfl

/-- Settles O28: queues are made where nothing stands in the way, and changed by the subops that their states allow. -/
theorem queuesFollowTheirStates : Obligations.QueuesFollowTheirStates := by
  refine ⟨fun s u r c hb hl hn hv hq hh => ?_, fun s u r c hb hd hl hn hv hq => ?_,
    fun i s u r c q sub h1 h2 hi hb hq hl hx hd => ?_, fun q now => ?_⟩
  · refine congrArg Host.Outcome.next ?_
    show ctl r 0x10 s queueWork = _
    rw [ctl_eq hb, queueWork_done hl hn hv hq hh]
    rfl
  · refine congrArg Host.Outcome.next ?_
    show ctl r 0x10 s queueWork = _
    rw [ctl_eq hb, queueWork_holds hd hl hn hv hq]
    rfl
  · subst hq
    cases i
    all_goals first | (simp [startRow] at hi; done) | skip
    all_goals
      simp only [startRow, Option.some.injEq, Prod.mk.injEq] at hi
      obtain ⟨e1, e2, e3⟩ := hi
    all_goals first | (exact absurd e2 (by decide)) | skip
    all_goals first | (exact absurd e3 (by omega)) | skip
    all_goals
      subst e1 e3
      exact congrArg Host.Outcome.next (congrArg (s.queueAtStamp _) ((ctl_eq hb _).trans (ctlQueue_live hl hx hd _)))
  · unfold Queue.resume
    simp

end Sys2Proof.Laws
end

section
/-! Memory objects and fences. -/
namespace Sys2Proof.Laws

open Sys2Proof Sys2Proof.Machine

set_option maxRecDepth 8000

/-- An object after the effect of its removal: its mappings gone at once, or waiting for the accesses through them. -/
theorem objectFreed_objs {s : State} {i : Nat} (hs : (s.obj i).state = .retiring) (hu : (s.obj i).unmapped = false) (hr : s.refs i = 0) :
    (objectFreed i s).objs = (s.setObj i { s.obj i with
        unmapped := true
        uses :=
          if (s.obj i).owner < 2 ∨ (s.ctx (s.obj i).owner).state = .free ∨ (s.ctx (s.obj i).owner).state = .dead ∨
            (∀ x ∈ s.leaves (s.obj i).owner, ¬(eType x.2.2.2 = 0 ∧ bits x.2.2.2 63 42 = i)) then some [] else none }).objs ∧
      ((s.obj i).owner < 2 → (objectFreed i s).xlt = s.xlt) := by
  have hit : ((s.leaves (s.obj i).owner).filter fun x => decide (eType x.2.2.2 = 0) && decide (bits x.2.2.2 63 42 = i)).isEmpty = true ↔
      ∀ x ∈ s.leaves (s.obj i).owner, ¬(eType x.2.2.2 = 0 ∧ bits x.2.2.2 63 42 = i) := by
    rw [List.isEmpty_iff, List.filter_eq_nil_iff]
    simp only [Bool.and_eq_true, decide_eq_true_eq]
  unfold objectFreed
  simp only [hs, hu, hr, ne_eq, not_true, decide_false, Bool.or_self, Bool.false_eq_true, if_false, Bool.or_eq_true, decide_eq_true_eq, hit,
    or_assoc]
  split
  · exact ⟨rfl, fun _ => rfl⟩
  · rename_i h
    refine ⟨?_, fun ho => absurd (.inl ho) h⟩
    refine (State.prune_frame _ _ _ (M := 128) rfl (Frame.foldl (s := s.setObj i _) ?_ Frame.rfl)).objs rfl
    exact fun _ _ fr => State.changes_frame _ _ _ _ _ rfl (State.writeEntry_frame _ _ _ rfl fr)

/-- Settles O29: allocation at a free index, the RETIRING state, and the removal of an object's mappings. -/
theorem objectsAreMadeAndFreed : Obligations.ObjectsAreMadeAndFreed := by
  refine ⟨fun s u v r c start i hb hpool hend hover hattr hmark hf hn => ?_, fun s u r c o hb ho hs hx hp => ?_, fun s u r c hb hs hx => ?_,
    fun s i hs hu hr => ?_, fun s i hr => ?_⟩
  · refine congrArg Host.Outcome.next ?_
    show objCreateWith windowAttrBad r s = _
    unfold objCreateWith
    rw [ctl_eq hb]
    dsimp only
    rw [if_neg (by simpa using hpool), if_neg (by simpa [hover, hattr] using hend), find_markedObj_eq_none hmark]
    simp only [hf, hn]
    rfl
  · subst ho
    refine congrArg Host.Outcome.next ?_
    show objFree r s = _
    unfold objFree
    rw [ctl_eq hb]
    simp only [hs, hx]
    rw [if_neg (by simp), if_neg (by simp), if_neg (by simpa using hp)]
    rfl
  · refine congrArg Host.Outcome.next ?_
    show objFree r s = _
    unfold objFree
    rw [ctl_eq hb]
    simp only [hs, hx]
    rw [if_neg (by simp), if_pos trivial]
    rfl
  · obtain ⟨ho, hx⟩ := objectFreed_objs hs hu hr
    exact ⟨_, rfl, ho, hx, same_of_frame (l := [.objs, .xlt]) (objectFreed_frame i s (M := 192) rfl Frame.rfl) rfl⟩
  · refine congrArg Host.Outcome.next ?_
    show objectFreed i s = s
    unfold objectFreed
    simp [hr]

/-- Settles O30: allocation at a free index, a reset of a broken fence alone, and a free that breaks and settles. -/
theorem fencesAreMadeResetAndFreed : Obligations.FencesAreMadeResetAndFreed := by
  refine ⟨fun s u v r c start i hb hshare hmark hf hn => ?_, fun s u r c f hb hf ho => ?_, fun s u r c f hb hf ho => ?_⟩
  · have share : MayShare u (u.ctx (pf c.bytes 0 11 0)) (pf c.bytes 0 47 32) := hshare
    refine congrArg Host.Outcome.next ?_
    show fenceAlloc r s = _
    unfold fenceAlloc
    rw [ctl_eq hb]
    dsimp only
    rw [if_neg (Bool.eq_false_iff.mp share.own), if_neg (Bool.eq_false_iff.mp share.unlocked), find_markedFence_eq_none hmark]
    simp only [hf, hn]
    rfl
  · refine congrArg Host.Outcome.next ?_
    show fenceReset r s = _
    unfold fenceReset
    rw [ctl_eq hb]
    unfold State.ctlFence
    simp only [hf, ho, if_true]
    split <;> rfl
  · refine congrArg Host.Outcome.next ?_
    show fenceFree r s = _
    unfold fenceFree
    rw [ctl_eq hb]
    unfold State.ctlFence
    simp only [hf, ho, if_true]
    rfl

end Sys2Proof.Laws
end

section
/-! Plans: staging, commits and the two-phase switch. -/
namespace Sys2Proof.Laws

open Sys2Proof Sys2Proof.Machine

set_option maxRecDepth 8000

/-- STAGE into a slot: what the slot's state, the object and the image make of it. -/
theorem exec_stage {s u : State} {r : CmdRef} {c : Cmd} (hb : PlanBegins s r 1 c u) :
    exec (.stage r) s = .next
      (if (u.slot (pf c.bytes 0 1 0)).state ≠ .empty then u.finish r.queue c.slot E.locked 0
       else
        let o := u.obj (pf c.bytes 8 21 0)
        let a := o.base + pw c.bytes 16
        let code := if o.attr % 2 = 1 then E.xltPerm else u.imageCode a (65536 * o.size64k - pw c.bytes 16)
        if code ≠ E.ok then u.finish r.queue c.slot code 0
        else u.setSlot (pf c.bytes 0 1 0)
          { PlanSlot.none with
            state := .loading, period := rd (u.mem.readN a 128) 6 1, keep := rd (u.mem.readN a 128) 7 1,
            cycle := rd (u.mem.readN a 128) 8 1 + 1, cap0 := rd (u.mem.readN a 128) 0xA 2, cap1 := rd (u.mem.readN a 128) 0xC 2,
            planId := w64 (rd (u.mem.readN a 128) 0x20 8), digest := (u.mem.image a).digest, both := (u.mem.image a).both,
            alone := (u.mem.image a).alone, obj := some (pf c.bytes 8 21 0), loadedAt := u.time.bnd, stage := some ⟨r.queue, c.slot⟩ }) := by
  refine congrArg Host.Outcome.next ?_
  show planStage r s = _
  unfold planStage
  rw [plan_eq hb]
  dsimp only
  generalize (if (u.obj (pf c.bytes 8 21 0)).attr % 2 = 1 then E.xltPerm else _) = code
  by_cases h1 : (u.slot (pf c.bytes 0 1 0)).state ≠ .empty
  · rw [if_pos h1, if_pos h1]
    rfl
  · rw [if_neg h1, if_neg h1]
    by_cases h2 : code ≠ E.ok
    · rw [if_pos h2, if_pos h2]
      rfl
    · rw [if_neg h2, if_neg h2]
      rfl

/-- Settles O32: the state of the slot that a PLAN_CTL names decides what it does. -/
theorem plansAreStagedAndCommitted : Obligations.PlansAreStagedAndCommitted := by
  refine ⟨fun s u r c o a hb he ho hat ha hi => ?_, fun s u r c hb he => ?_, fun s u r c hb he ho => ?_, fun s u r c p hb hp => ?_,
    fun s u r c p t hb hp hg hs h1 ht h3 h4 h5 h6 => ?_, fun s u r c hb hg h1 h2 => ?_, fun s u r c m hb hm hs hp => ?_⟩
  · subst ho ha
    have hodd : ¬(u.obj (pf c.bytes 8 21 0)).attr % 2 = 1 := by omega
    rw [exec_stage hb, if_neg (not_not_intro he)]
    dsimp only
    rw [if_neg hodd, hi, if_neg (by decide)]
  · rw [exec_stage hb, if_pos he]
  · rw [exec_stage hb, if_neg (not_not_intro he)]
    dsimp only
    rw [if_pos ho, if_pos (by decide)]
  · subst hp
    refine congrArg Host.Outcome.next ?_
    show planRelease r s = _
    unfold planRelease
    rw [plan_eq hb]
    cases hs : (u.slot (pf c.bytes 0 1 0)).state <;> rfl
  · subst hp ht
    have hd : u.commitDepth false (pf c.bytes 0 31 16) = 0 := rfl
    refine congrArg Host.Outcome.next ?_
    show planCommit r s = _
    unfold planCommit
    rw [plan_eq hb]
    have hlate : ¬c.admTick + 1048576 < pf c.bytes 8 47 0 := by omega
    rcases hs with hs | hs
    all_goals
      simp [hg, hs, h1, h5, h6, hd, Nat.not_lt.mpr h3, hlate]
      rfl
  · refine congrArg Host.Outcome.next ?_
    show planCommit r s = _
    unfold planCommit
    rw [plan_eq hb]
    simp only [hg]
    cases hs : (u.slot (pf c.bytes 0 1 0)).state
    case loading => exact absurd hs h1
    case staged => exact absurd hs h2
    all_goals rfl
  · refine congrArg Host.Outcome.next ?_
    show planWithdraw r s = _
    unfold planWithdraw
    rw [plan_eq hb, ← hs]
    simp only [hm, hp]
    rw [if_neg (by simp)]
    split <;> rfl

/-- The staging check of the pending commit, in its tick, is followed by the report. -/
theorem stagingCheck_reports {s : State} {m k : Commit} (hm : s.plan.pend = some m) (hc : m.check = none) (ht : s.time.tick = s.checkTick m)
    (hk : k = { m with
      check := some (s.allAcked (s.slot m.slot) && !(s.slot m.slot).failed)
      decision := if m.fabric then m.decision else some (s.allAcked (s.slot m.slot) && !(s.slot m.slot).failed) }) :
    planStagingCheck s = (s.modPlan fun x => { x with pend := some k }).reportUp := by
  subst hk
  unfold planStagingCheck
  simp only [hm, hc, ht, Option.isNone_none, decide_true, Bool.and_self, if_true]
  rfl

/-- A result that is no group's, has been sent, is the root's own, or is not yet known does not go up. -/
theorem reportUp_quiet {s : State} {k : Commit} (h : k.fabric = false ∨ k.sent = true ∨ s.rankIn k.group = 0 ∨ s.groupResult k = none) :
    (s.modPlan fun x => { x with pend := some k }).reportUp = s.modPlan fun x => { x with pend := some k } := by
  have hrank : (s.modPlan fun x => { x with pend := some k }).rankIn k.group = s.rankIn k.group := rfl
  have hres : (s.modPlan fun x => { x with pend := some k }).groupResult k = s.groupResult k := rfl
  unfold State.reportUp
  dsimp only [State.modPlan_plan]
  rw [hrank, hres]
  rcases h with h | h | h | h <;> simp [h]

/-- A subtree's result goes up once. -/
theorem reportUp_sends {s : State} {k : Commit} {ok : Bool} (h1 : k.fabric = true) (h2 : k.sent = false) (h3 : k.check.isSome = true)
    (h4 : s.rankIn k.group ≠ 0) (h5 : s.groupResult k = some ok) :
    (s.modPlan fun x => { x with pend := some k }).reportUp =
      (s.modPlan fun x => { x with pend := some { k with sent := true } }).emit (.planHop (s.treeAbove k.group) k.group k.tick true ok) := by
  have hrank : (s.modPlan fun x => { x with pend := some k }).rankIn k.group = s.rankIn k.group := rfl
  have hres : (s.modPlan fun x => { x with pend := some k }).groupResult k = s.groupResult k := rfl
  unfold State.reportUp
  dsimp only [State.modPlan_plan]
  rw [hrank, hres]
  simp [h1, h2, h4, h5, Option.isSome_iff_ne_none.mp h3]
  rfl

/-- The pending commit of the fabric is the one of its group and tick. -/
theorem pendOf_self {s : State} {m : Commit} (hm : s.plan.pend = some m) (hf : m.fabric = true) : s.pendOf m.group m.tick = some m := by
  unfold State.pendOf
  rw [hm]
  simp [hf]

/-- Settles O33: each event of the switch acts on the pending commit that it names. -/
theorem planEventsDecideSwitches : Obligations.PlanEventsDecideSwitches := by
  refine ⟨fun s i u p hp hst hf hu => ?_, fun s i p hp hst hf ht => ?_, fun s m k hm hc ht hk => ⟨fun h => ?_, fun ok h1 h2 h3 h4 => ?_⟩,
    fun s m dev ok hm hf hd hr => ?_, fun s m ok hm hf hc hd hr h1 h2 => ?_, fun s m hm hf hd hr ht => ?_,
    fun s m hm hf hd hr ht => ?_, fun s on limit => rfl⟩
  · subst hp
    refine congrArg Host.Outcome.next ?_
    show planUnitAck i.val u s = _
    unfold planUnitAck
    simp [hf, hu, Option.isSome_iff_ne_none.mp hst]
  · subst hp
    refine congrArg Host.Outcome.next ?_
    show planLoadTimeout i.val s = _
    unfold planLoadTimeout
    (simp [hf, Nat.not_lt.mpr ht, Option.isSome_iff_ne_none.mp hst]) <;> rfl
  · refine congrArg Host.Outcome.next ?_
    show planStagingCheck s = _
    have hfab : k.fabric = m.fabric := by rw [hk]
    have hsent : k.sent = m.sent := by rw [hk]
    have hg : k.group = m.group := by rw [hk]
    rw [stagingCheck_reports hm hc ht hk]
    exact reportUp_quiet (by rwa [hfab, hsent, hg])
  · refine congrArg Host.Outcome.next ?_
    show planStagingCheck s = _
    rw [stagingCheck_reports hm hc ht hk]
    have hg : k.group = m.group := by rw [hk]
    have htick : k.tick = m.tick := by rw [hk]
    rw [reportUp_sends (by rw [hk]; exact h1) (by rw [hk]; exact h2) (by rw [hk]; rfl) (by rw [hg]; exact h3) h4, hg, htick]
  · refine congrArg Host.Outcome.next ?_
    show planGroupDecision dev m.group m.tick true ok s = _
    unfold planGroupDecision State.resultUp
    have hnew : (m.results.any fun r => decide (r.1 = dev)) = false := by
      rw [List.any_eq_false]
      intro r hm
      simpa using hr r hm
    simp [hd, pendOf_self hm hf, hnew]
  · refine congrArg Host.Outcome.next ?_
    show planGroupDecision (s.treeAbove m.group) m.group m.tick false ok s = _
    unfold planGroupDecision State.decisionDown
    have hp : (s.tellDecision m.group m.tick ok).pendOf m.group m.tick = some m := pendOf_self hm hf
    simp [hr, hp, hc, hd]
    exact fun h => absurd (h h1) (Nat.not_lt.mpr h2)
  · unfold State.rootDecides
    simp [hm, hf, hd, hr, ht]
  · refine goes_to (t := s.missDecision m) ?_ ⟨?_, ?_, ?_, ?_, ?_⟩
    · refine congrArg Host.Outcome.next ?_
      show planDecisionMissed s = _
      unfold planDecisionMissed
      simp [hm, hf, hd, hr, ht]
    all_goals
      have fr := fun v : State => State.chip_frame v 0 m.slot (M := 41984) rfl Frame.rfl
      unfold State.missDecision
    · rw [(fr _).plan rfl]
      rfl
    · rw [(fr _).plan rfl]
      rfl
    · rw [(fr _).plan rfl]
      rfl
    · rw [chip_rst]
      exact tst_setBit _ _ _
    · rw [(fr _).queues rfl]
      rfl

end Sys2Proof.Laws
end

section
/-! Tick boundaries and windows. -/
namespace Sys2Proof.Laws

open Sys2Proof Sys2Proof.Machine

set_option maxRecDepth 8000

/-- Settles O34: a boundary is its event and the tick that it begins; what is advanced, and by how much. -/
theorem boundariesAdvanceTheTick : Obligations.BoundariesAdvanceTheTick := by
  refine ⟨fun s a b hp hd => ?_, fun s a b h => ?_, fun t => ⟨rfl, rfl, rfl, rfl⟩, fun t ha hj ht => ?_, fun t n ha hj h1 h2 => ?_,
    fun t ha hj => ?_, fun s hl hs => ?_⟩
  · refine congrArg Host.Outcome.next ?_
    show boundary a b s = _
    unfold boundary
    rw [if_neg (by rcases hp with h | h <;> simp [h, hd])]
    rfl
  · refine congrArg Host.Outcome.next ?_
    show boundary a b s = s
    unfold boundary
    refine if_pos ?_
    rcases h with ⟨h1, h2⟩ | h
    · simp [h1, h2]
    · simp [h]
  · unfold Time.advance
    simp [ha, hj]
    omega
  · have hmax : max n (t.tick + 1) = n := by omega
    unfold Time.advance
    simp [ha, hj, hmax, h1]
    omega
  · unfold Time.advance
    simp [ha, hj]
  · unfold State.stampBoundary
    simp [hl, hs]

/-- An entry of the set in force opens a window of its engine: the conditions of R63 and R242. -/
structure Opens (s : State) (n i : Nat) (e : Word) : Prop where
  entry : s.entries[i]? = some e
  kind : enKind e = 0
  res : enRes e = n
  applies : enApplies e s.cyclePos = true
  fresh : (n, i) ∉ s.plan.windows
  acts : s.acts (engineTwin n) = true
  turn : ∀ x ∈ s.windowsAhead n i, (n, x.2) ∈ s.plan.windows

/-- A window that opens is counted and run. -/
theorem ceWindow_opens {s : State} {n i : Nat} {e : Word} (h : Opens s n i e) :
    ceWindow n i s = ((s.waitEnds n).modPlan fun p => { p with windows := p.windows ++ [(n, i)] }).runWindow n i e 0 := by
  obtain ⟨he, hk, hr, ha, hf, hc, ht⟩ := h
  unfold ceWindow
  simp only [he]
  rw [if_neg]
  simp only [Bool.or_eq_true, not_or]
  refine ⟨⟨⟨⟨⟨by simp [hk], by simp [hr]⟩, by simp [ha]⟩, by simpa using hf⟩, by simp [hc]⟩, ?_⟩
  rw [List.any_eq_true]
  rintro ⟨⟨w, j⟩, hm, hn⟩
  exact absurd (ht _ hm) (by simpa using hn)

/-- What opens no window does nothing. -/
theorem ceWindow_not {s : State} {n i : Nat} {e : Word} (he : s.entries[i]? = some e) (h : ¬Opens s n i e) : ceWindow n i s = s := by
  unfold ceWindow
  simp only [he]
  refine if_pos (Classical.byContradiction fun hn => h ?_)
  simp only [Bool.or_eq_true, not_or] at hn
  obtain ⟨⟨⟨⟨⟨hk, hr⟩, ha⟩, hf⟩, hc⟩, ht⟩ := hn
  refine ⟨he, by simpa using hk, by simpa using hr, by simpa using ha, by simpa using hf, by simpa using hc, fun x hx => ?_⟩
  refine Classical.byContradiction fun hw => ?_
  exact ht (List.any_eq_true.mpr ⟨x, hx, by simpa using hw⟩)

/-- A window that finds nothing to claim uses no cycle. -/
theorem window1_nothing {s : State} {n qn : Nat} (h : s.nextWork n qn = none) (from_ k t end_ : Nat) :
    s.window1 n qn from_ (k + 1) t end_ = ⟨s, t, false⟩ := by
  unfold State.window1
  split
  · rfl
  · simp only [h]

/-- Settles O35: a window that opens with nothing to claim ends idle; every other condition leaves the state. -/
theorem windowsFollowTheSetInForce : Obligations.WindowsFollowTheSetInForce := by
  refine ⟨fun s v n i e he hk hr ha hf hc ht hv hu hn => ?_, fun s n i e he h => ?_⟩
  · refine congrArg Host.Outcome.next ?_
    show ceWindow n.val i s = _
    have hlen : 0 < v.windowLen i e := by unfold State.windowLen; omega
    rw [ceWindow_opens ⟨he, hk, hr, ha, hf, hc, ht⟩, ← hv]
    unfold State.runWindow
    simp only [window1_nothing hn, hlen, decide_true, Bool.false_eq_true, if_false]
    rfl
  · refine congrArg Host.Outcome.next (ceWindow_not he ?_)
    rintro ⟨-, hk, hr, ha, hf, hc, ht⟩
    rcases h with h | h | h | h | h | ⟨x, hx, h⟩
    · exact h hk
    · exact h hr
    · exact Bool.false_ne_true (h.symm.trans ha)
    · exact hf h
    · exact Bool.false_ne_true (h.symm.trans hc)
    · exact h (ht x hx)

end Sys2Proof.Laws
end

section
/-! Collectives. -/
namespace Sys2Proof.Laws

open Sys2Proof Sys2Proof.Machine

set_option maxRecDepth 8000

/-- A state after packets have left: the paths' counts and what is sent alone differ. -/
def Sent (s t : State) : Prop := ∃ ps o, t = { s with fab := { s.fab with paths := ps }, out := o }

theorem Sent.refl (s : State) : Sent s s := ⟨s.fab.paths, s.out, rfl⟩

theorem Sent.trans {s t u : State} (h : Sent s t) (k : Sent t u) : Sent s u := by
  obtain ⟨p, o, rfl⟩ := h
  obtain ⟨p', o', rfl⟩ := k
  exact ⟨p', o', rfl⟩

/-- A packet that leaves is counted on its path, and sent. -/
theorem sent_fabEmit (s : State) (d : Nat) (p : FabPkt) : Sent s (s.fabEmit d p) := by
  unfold State.fabEmit
  dsimp only
  split
  · exact ⟨_, _, rfl⟩
  · exact ⟨_, _, rfl⟩

/-- A packet toward a device leaves, waits, or is not sent. -/
theorem sent_fabSend (s : State) (d : Nat) (p : FabPkt) : Sent s (s.fabSend d p) := by
  unfold State.fabSend
  split
  · exact Sent.refl s
  · split
    · exact ⟨_, _, rfl⟩
    · exact sent_fabEmit s d p

/-- Packets one after another. -/
theorem sent_foldl {α : Type} {f : State → α → State} (h : ∀ s x, Sent s (f s x)) : ∀ (l : List α) (s : State), Sent s (l.foldl f s)
  | [], s => Sent.refl s
  | x :: l, s => (h s x).trans (sent_foldl h l (f s x))

/-- A collective after its change. -/
theorem modColl_collOf {s : State} {r : CmdRef} {c : Coll} {f : Coll → Coll} (h : s.collOf r = some c) (hf : ∀ x, (f x).ref = x.ref) :
    (s.modColl r f).collOf r = some (f c) := by
  have hc : c.ref = r := by simpa using List.find?_some h
  have he : ((fun c : Coll => decide (c.ref = r)) ∘ fun c => if c.ref = r then f c else c) = fun c => decide (c.ref = r) := by
    funext x
    simp only [Function.comp]
    split <;> simp [hf]
  unfold State.collOf at h ⊢
  show (s.fab.colls.map fun c => if c.ref = r then f c else c).find? _ = _
  rw [List.find?_map, he, h]
  simp [hc]

/-- What a collective is among its group depends on the fabric's map, groups and device. -/
theorem collPar_modColl (s : State) (r : CmdRef) (f : Coll → Coll) (b : List Byte) : (s.modColl r f).collPar b = s.collPar b := rfl

/-- The root of a barrier whose members have all arrived releases them. -/
theorem barrierStep_releases {s : State} {p : CollPar} {c : Coll} (hq : p.q = 0) (ha : ∀ q ∈ p.children, p.rankOf q ∈ c.arrivals)
    (hr : c.released = false) :
    Sent (s.modColl c.ref fun x => { x with released := true, down := 1 }) (s.barrierStep p c) := by
  have hall : (p.children.all fun q => c.arrivals.contains (p.rankOf q)) = true := by
    rw [List.all_eq_true]
    exact fun q hm => List.contains_iff_mem.mpr (ha q hm)
  unfold State.barrierStep
  simp only [hq, hall, hr, if_true, Bool.not_false, Bool.and_self]
  exact sent_foldl (fun v q => sent_fabSend v _ _) _ _

/-- The root of a tree stands at level 0. -/
theorem level_root {p : CollPar} (h : p.q = 0) : p.level = 0 := by
  unfold CollPar.level treeLevel
  rw [h]
  rfl

/-- A collective that has ended here is gone, and its command has ended. -/
theorem collFinish_ends {s : State} {r : CmdRef} {d : Cmd} {p : CollPar} {c : Coll} (hd : (s.queue r.queue).cmdAt r.slot = some d)
    (hr : d.result = none) (hp : d.poisoned = false) (h6 : p.sub = 6) (hq : p.q = 0) :
    (s.collFinish r r.queue d p c).collOf r = none ∧
      ∃ e, ((s.collFinish r r.queue d p c).queue r.queue).cmdAt r.slot = some e ∧ e.result = some E.ok ∧ e.doneAt = s.time.bnd + p.depth := by
  constructor
  · show (s.fab.colls.filter fun y => y.ref ≠ r).find? (fun c => c.ref = r) = none
    rw [List.find?_eq_none]
    intro x hx
    simpa using (List.mem_filter.mp hx).2
  · have late : (if (p.sub = 4 || p.total = 0 && p.sub ≠ 6) = true then 0
        else (p.depth - p.level) + if p.sub = 6 then 0 else p.chunks - 1 - p.lastChunk) = p.depth := by
      simp [h6, level_root hq]
    unfold State.collFinish
    simp only [late]
    refine ⟨_, modCmd_cmdAt (s := s.modFab _) hd fun x => ?_, ?_⟩
    · exact finish_slot ..
    · simp only [if_true, Cmd.finish, hr, hp]
      exact ⟨rfl, rfl⟩

/-- Settles O37: a collective's record and steps; the root's last step releases the others and ends. -/
theorem collectivesBeginStepAndEnd : Obligations.CollectivesBeginStepAndEnd := by
  refine ⟨fun i s u r c sub hi hb hc => ?_, fun i s r sub hi hc => ?_, fun s r b hq he hx => ?_,
    fun s r c d hc hd h6 hq hl hst hres hpo hcut hact hsl hstart hall hrel hsat hnan => ?_, fun s r c d hc hd hw => ?_⟩
  · rw [coll_exec hi]
    unfold collective
    rw [hc, begin_eq hb]
    rfl
  · rw [coll_exec hi]
    unfold collective
    rw [if_pos hc]
  · unfold State.collBegin
    simp [hq, he, hx]
    exact ⟨rfl, rfl⟩
  · have hlev := level_root hq
    have hmoved := barrierStep_releases (s := s) hq hall hrel
    have href : c.ref = r := by simpa using List.find?_some hc
    rw [href] at hmoved
    have hc' : (s.barrierStep (s.collPar d.bytes) c).collOf r = some { c with released := true, down := 1 } := by
      obtain ⟨ps, o, e⟩ := hmoved
      rw [e]
      exact modColl_collOf (f := fun x => { x with released := true, down := 1 }) hc fun _ => rfl
    have hd' : ((s.barrierStep (s.collPar d.bytes) c).queue r.queue).cmdAt r.slot = some d := by
      obtain ⟨ps, o, e⟩ := hmoved
      rw [e]
      exact hd
    have ht : (s.barrierStep (s.collPar d.bytes) c).time = s.time := by
      obtain ⟨ps, o, e⟩ := hmoved
      rw [e]
      rfl
    have hdone : (s.collPar d.bytes).done d { c with released := true, down := 1 } = true := by
      unfold CollPar.done
      rw [if_pos (show (s.collPar d.bytes).sub = 6 from h6)]
      rfl
    have hstep : s.collStep r =
        (s.barrierStep (s.collPar d.bytes) c).collFinish r r.queue d (s.collPar d.bytes) { c with released := true, down := 1 } := by
      unfold State.collStep
      simp only [hc, hd]
      rw [if_neg (by simp [hl, hst, hcut, hact, hsl])]
      have hsub : (s.collPar d.bytes).sub = 6 := h6
      have hearly : ¬s.time.bnd < c.startAt + (s.collPar d.bytes).depth := by omega
      simp only [hlev, hsub, Nat.sub_zero, hearly, decide_false, Bool.false_and, Bool.false_eq_true, if_false, if_true, hc', hd', hres,
        Option.isNone_none, Bool.true_and, hdone]
    obtain ⟨h1, e, h2, h3, h4⟩ := collFinish_ends (c := { c with released := true, down := 1 }) hd' hres hpo h6 hq
    refine goes_to (t := s.collStep r) ?_ ?_
    · refine congrArg Host.Outcome.next ?_
      show collective 6 r s = _
      unfold collective
      rw [if_pos (by rw [hc]; rfl)]
    · rw [hstep]
      exact ⟨h1, e, h2, h3, by rw [h4, ht]⟩
  · refine congrArg Host.Outcome.next ?_
    show collTimeout r s = _
    unfold collTimeout
    simp only [hc, hd]
    exact if_pos hw

end Sys2Proof.Laws
end


section
/-! Register writes and reads. -/
namespace Sys2Proof.Laws

open Sys2Proof Sys2Proof.Machine

set_option maxRecDepth 8000

/-- A write of a register by name or by its offset is the same write. -/
theorem registerWrite_exec {i : Instr} {s : State} {p : Path} {r : Reg} {v : Word}
    (h : writeRow i = some (p, r, v) ∨ i = .registerWrite p r.offset v false) : exec i s = .next (writeNamed p r v s) := by
  rcases h with h | rfl
  · exact writeRow_exec h s
  · rfl

/-- A REGISTER_WRITE with nothing ahead of it. -/
theorem registerWrite_taken {s : State} {p : Path} (h : s.atOnce p = true) (o : Nat) (v : Word) (b : Bool) :
    exec (.registerWrite p o v b) s = .next (writeRegister p o v b s) :=
  congrArg Host.Outcome.next (at_once h _ _)

/-- Settles O38: the checks of a write as a whole come before the register's own rules. -/
theorem registerWritesAreTakenOrRejectedWhole : Obligations.RegisterWritesAreTakenOrRejectedWhole := by
  refine ⟨fun i s p r v hi ha hr => ?_, fun s p o v h hd => ?_, fun s p o v b h hd => ?_, fun s p f n o v b h => ?_,
    fun s p o v ha ho => ?_, fun s p o code q f hf => ?_⟩
  · rw [registerWrite_exec hi]
    unfold writeNamed writeArrives
    rw [at_once ha.1, writeReg_at ha hr]
    unfold State.writeReg Reg.reserved
    simp only [Bool.and_eq_true, Bool.or_eq_true, decide_eq_true_eq, Option.isSome_iff_ne_none]
    by_cases hm : r.mgmtOnly = true ∧ Path.fn p ≠ none
    · rw [if_pos hm, if_pos hm]
    · rw [if_neg hm, if_neg hm]
      by_cases hl : Nat.land v.toNat r.mask ≠ v.toNat ∨ Reg.illegal (Path.func p) v.toNat r = true
      · rw [if_pos hl, if_pos hl]
      · rw [if_neg hl, if_neg hl] <;> rfl
  · rw [registerWrite_taken h]
    unfold writeRegister
    simp [hd]
  · rw [registerWrite_taken h]
    unfold writeRegister
    simp [hd]
  · exact congrArg Host.Outcome.next (inOrderAt_waits h _ _)
  · rw [registerWrite_taken ha.1]
    unfold writeRegister
    simp [ha.2.1, ha.2.2, ho]
  · unfold State.regErr
    rw [hf]
    rfl

/-- An access of BAR0 that its function and its TDI let through. -/
theorem badAccess_reached {s : State} {p : Path} (h : Reaches s p) (o w : Nat) (b : Bool) :
    badAccess p o w b s =
      if !(decide (o % max 1 w = 0) && (decide (w = 8) || (decide (w = 4) && !b))) then
        (if b then s.regErr p 0 o E.badLength else (s.regErr p 0 o E.badLength).emit (.regData p o 0))
      else if b then s
      else ((s.readAt p (o - o % 8)).2).emit (.regData p o (w64 (halfOf o w (s.readAt p (o - o % 8)).1))) := by
  unfold badAccess
  simp only [h.2.1, h.2.2, Bool.false_eq_true, if_false]

/-- A read of a register by name. -/
theorem readNamed_reg {s : State} {p : Path} {r : Reg} (h : Reaches s p) (hr : regAt (Path.func p) r.offset = some r) :
    readNamed p r s = ((s.readReg p r).2).emit (.regData p r.offset (w64 (s.readReg p r).1)) := by
  have ho := offset_aligned r
  have hread : s.readAt p r.offset = s.readReg p r := by
    unfold State.readAt
    rw [placeAt_reg hr]
  unfold readNamed accessArrives
  rw [at_once h.1, badAccess_reached h, ho, Nat.sub_zero, hread, show max 1 8 = 8 from rfl, ho]
  rfl

/-- What the word of a sample reads, and where it moves WORD. -/
theorem sampleRead_alone {s : State} {p : Path} (ho : (s.cd (bits (s.sel p .rstSampleSel) 18 13)).owners = []) :
    s.sampleRead p =
      let v := s.sel p .rstSampleSel
      let x := s.sampleWord (bits v 18 13) (bits v 12 9) (bits v 8 0)
      (x.1, x.2.setSel p .rstSampleSel (v - bits v 8 0 + (bits v 8 0 + 1) % 512)) := by
  have hseen : s.sampleSeen (bits (s.sel p .rstSampleSel) 18 13) Reg.rstSampleData.offset = s := by
    unfold State.sampleSeen
    rw [ho]
    rfl
  unfold State.sampleRead
  dsimp only
  rw [hseen]

/-- A BAR0_BAD_ACCESS with nothing ahead of it. -/
theorem badAccess_exec {s : State} {p : Path} (h : Reaches s p) (o w : Nat) (b : Bool) :
    exec (.bar0BadAccess p o w b) s = .next (badAccess p o w b s) := by
  cases b with
  | false => exact congrArg Host.Outcome.next (at_once h.1 _ _)
  | true => exact congrArg Host.Outcome.next (at_once h.1 _ _)

/-- Settles O41: a bad access is turned away before its register is read, and each clearing row writes one register. -/
theorem readsReturnAndClearsSetToZero : Obligations.ReadsReturnAndClearsSetToZero := by
  refine ⟨fun s p o w b ha hw => ?_, fun s t p o w v ha hw ho hr => ?_, fun s p ha hf => ?_,
    fun s p n core word d ha hf hn hc hw ho hd => ?_, fun s p n ha hf hn ho hd => ?_,
    fun s p v hw hb => ?_, fun s p v hw hb => ?_, fun s p v hw hb => ?_, fun s p v hw hb => ?_, fun s p v hw hb => ?_,
    fun s p v hw hb => ?_, fun s p v hw hb => ?_, fun s p v hw hb => ?_, fun s p v hw hb => ?_, fun s p v hw hb => ?_⟩
  · rw [badAccess_exec ha, badAccess_reached ha]
    have : (decide (o % max 1 w = 0) && (decide (w = 8) || (decide (w = 4) && !b))) = false := by
      rw [Bool.eq_false_iff]
      intro e
      simp only [Bool.and_eq_true, Bool.or_eq_true, decide_eq_true_eq, Bool.not_eq_true'] at e
      obtain ⟨e, hwb⟩ := e
      have : 0 < w := by omega
      exact hw ⟨this, by rwa [Nat.max_eq_right this] at e, hwb⟩
    rw [this]
    rfl
  · rw [badAccess_exec ha, badAccess_reached ha, hr]
    rcases hw with rfl | rfl
    · have h4 : o % 8 = 0 ∨ o % 8 = 4 := by omega
      rcases h4 with h4 | h4 <;> simp [ho, halfOf, h4]
    · simp [ho, halfOf]
  · show Host.Outcome.next (readNamed p .clkStatus s) = _
    rw [readNamed_reg ha (by rw [hf]; rfl)]
    rfl
  · show Host.Outcome.next (readNamed p .rstSampleData s) = _
    subst hn hc hw
    rw [readNamed_reg ha (by rw [hf]; rfl)]
    unfold State.readReg
    simp only [sampleRead_alone ho, State.sampleWord, hd]
  · show ∃ v, Host.Outcome.next (readNamed p .rstSampleData s) = _
    subst hn
    rw [readNamed_reg ha (by rw [hf]; rfl)]
    unfold State.readReg
    simp only [sampleRead_alone ho, State.sampleWord, hd]
    exact ⟨_, rfl⟩
  all_goals
    apply row_ok rfl hw
    refine congrArg Except.ok ?_
    simp only [hb, if_true]

end Sys2Proof.Laws
end

section
/-! Requests of the host to BAR4, completions of Harson's own requests, and flushing reads. -/
namespace Sys2Proof.Laws

open Sys2Proof Sys2Proof.Machine

set_option maxRecDepth 8000

/-- With no write of the port waiting, and nothing behind one, what arrives is taken at once. -/
theorem inOrder_now {s : State} {p : Side} (hw : s.writeWaits p = false) (hb : (s.port p).behind = []) (w : Waiting)
    (k : State → State) : s.inOrder p w k = k s := by
  unfold State.inOrder
  simp [hw, hb]

/-- Behind a write that waits, or behind what waits already, what arrives waits. -/
theorem inOrder_later {s : State} {p : Side} (h : s.writeWaits p = true ∨ (s.port p).behind ≠ []) (w : Waiting) (k : State → State) :
    s.inOrder p w k = s.modPort p fun x => { x with behind := x.behind ++ [w] } := by
  unfold State.inOrder
  rw [if_pos (by simpa using h)]

/-- With no line in the directory nothing stands in the way. -/
theorem inTheWay_noDir {s : State} (h : s.coh.dir = []) (r w : List (Nat × Nat)) : s.inTheWay r w = [] := by
  unfold State.inTheWay
  rw [h]
  rfl

/-- A request that no region admits is recorded, and answered unless it is a write. -/
theorem inboundBar4_refused {s : State} {p : Side} {id addr : Nat} {k : Bar4Kind} (hu : (s.port p).up = true)
    (hm : (s.port p).mse = true) (hp : s.placed4 p id addr k = none) (hw : s.writeWaits p = false) (hb : (s.port p).behind = []) :
    inboundBar4 p id addr k s =
      if bar4Write k then s.regErrAt p 0 2 (addr / 2 ^ 21) E.peerDenied
      else (s.regErrAt p 0 2 (addr / 2 ^ 21) E.peerDenied).emit (.bar4Cpl p .unsupported [] false) := by
  unfold inboundBar4
  simp only [hu, hm, hp, Bool.not_true, Bool.false_eq_true, if_false]
  split
  · rfl
  · exact inOrder_now (s := s.regErrAt p 0 2 (addr / 2 ^ 21) E.peerDenied) hw hb _ _

/-- A request that a region admits is made in its turn; poisoned data is reported first. -/
theorem inboundBar4_admitted {s : State} {p : Side} {id addr a : Nat} {k : Bar4Kind} (hu : (s.port p).up = true)
    (hm : (s.port p).mse = true) (hp : s.placed4 p id addr k = some a) (hk : ∀ d, k ≠ .write d true) :
    inboundBar4 p id addr k s = s.inOrder p (.access p a k) fun s => s.startAccess p a k := by
  unfold inboundBar4
  simp only [hu, hm, hp, Bool.not_true, Bool.false_eq_true, if_false]

theorem inboundBar4_poisoned {s : State} {p : Side} {id addr a : Nat} {d : List Byte} (hu : (s.port p).up = true)
    (hm : (s.port p).mse = true) (hp : s.placed4 p id addr (.write d true) = some a) :
    inboundBar4 p id addr (.write d true) s =
      (s.aerAdvisory p).inOrder p (.access p a (.write d true)) fun s => s.startAccess p a (.write d true) := by
  unfold inboundBar4
  simp only [hu, hm, hp, Bool.not_true, Bool.false_eq_true, if_false]

/-- A write that no line and no engine command meets puts its bytes. -/
theorem startAccess_write {u : State} {p : Side} {a : Nat} {d : List Byte} {bad : Bool} (hd : u.coh.dir = [])
    (hq : Quiet (u.setMem (u.mem.store a d bad)) [(a, d.length)]) :
    u.startAccess p a (.write d bad) = u.setMem (u.mem.store a d bad) := by
  unfold State.startAccess State.access4
  dsimp only
  rw [uncached_none (inTheWay_noDir hd _ _)]
  exact disturb_quiet none hq

/-- A store's bytes are those written, whatever the marks. -/
theorem store_bytes (m : Mem) (a : Nat) (d : List Byte) (bad : Bool) : (m.store a d bad).bytes = (m.writeN a d).bytes := by
  unfold Mem.store
  split <;> rfl

/-- What a store leaves in memory. -/
theorem store_effect {m : Mem} (h : m.wf = true) (a : Nat) (d : List Byte) (bad : Bool) :
    (m.store a d bad).readN a d.length = d ∧ (∀ x, x < a ∨ a + d.length ≤ x → (m.store a d bad).read x = m.read x) ∧
      (m.store a d bad).wf = true ∧ (bad = true → d ≠ [] → (m.store a d bad).anyPoison a d.length = true) := by
  refine ⟨?_, fun x hx => Mem.read_store_other h hx, Mem.store_wf h, fun hb hd => ?_⟩
  · rw [readN_bytes (store_bytes m a d bad), Mem.readN_writeN h]
  · unfold Mem.store
    rw [if_pos hb]
    exact mark_poison _ _ _ (List.length_pos_iff.mpr hd)

/-- A completion of a request of the generations in force. -/
theorem completion_of {s : State} {p : Side} {tag : Nat} {r : Req} (hf : (s.port p).reqs.find? (fun r => r.tag = tag) = some r)
    (hs : (s.dropReq p tag).staleReq p r = none) (st : CplStatus) (d : List Byte) (bad : Bool) :
    (∀ q pos u off len x, r.kind = .source q pos u off len x → hostCompletion p tag st d bad s =
      if st ≠ .ok then (s.dropReq p tag).endUnit q pos u E.atsFailed
      else if d.length ≠ len then s
      else (s.dropReq p tag).sourceArrived q pos u off (d.map fun b => (b, bad))) ∧
    (∀ f q pos, r.kind = .signal f q pos → hostCompletion p tag st d bad s =
      if st = .ok then (s.dropReq p tag).atomicDone p q pos
      else ((s.dropReq p tag).atomicDone p q pos).breakFence f E.hostLost) := by
  constructor
  · intro q pos u off len x hk
    unfold hostCompletion
    simp only [hf, hs, hk]
  · intro f q pos hk
    unfold hostCompletion
    simp only [hf, hs, hk]

/-- A request is current when its context's, its queue's, its port's and its twin's generations are. -/
theorem staleReq_none {s : State} {p : Side} {r : Req} :
    s.staleReq p r = none ↔ (s.ctx r.ctx).gen = r.ctxGen ∧ (s.queue r.queue).gen = r.queueGen ∧
      s.gen (50 + p.num) = r.portGen ∧ s.gen (48 + p.num) = r.twinGen := by
  unfold State.staleReq
  by_cases h1 : (s.ctx r.ctx).gen = r.ctxGen
  · by_cases h2 : (s.queue r.queue).gen = r.queueGen
    · by_cases h3 : s.gen (50 + p.num) = r.portGen
      · by_cases h4 : s.gen (48 + p.num) = r.twinGen <;> simp [h1, h2, h3, h4]
      · simp [h1, h2, h3]
    · simp [h1, h2]
  · simp [h1]

/-- A timeout of a request of the generations in force. -/
theorem timeout_of {s v : State} {p : Side} {tag : Nat} {r : Req} (hf : (s.port p).reqs.find? (fun r => r.tag = tag) = some r)
    (hs : (s.dropReq p tag).staleReq p r = none)
    (hv : v = (s.dropReq p tag).modFunc p (s.ctx r.ctx).func (fun x => { x with cplTimeout := true })) :
    (∀ q pos u off len x, r.kind = .source q pos u off len x →
      hostTimeout p tag s = (v.breakCmdFence q pos E.hostLost).endUnit q pos u E.hostLost) ∧
    (∀ f q pos, r.kind = .signal f q pos → hostTimeout p tag s = (v.atomicDone p q pos).breakFence f E.hostLost) := by
  have hv' : (s.dropReq p tag).aerTimeout p (s.ctx r.ctx).func = v := hv.symm
  have hs' : v.staleReq p r = none := by
    rw [staleReq_none] at hs ⊢
    rw [hv]
    exact hs
  constructor
  · intro q pos u off len x hk
    unfold hostTimeout
    simp only [hf, hv', hs', hk]
  · intro f q pos hk
    unfold hostTimeout
    simp only [hf, hv', hs', hk]

/-- Settles O50: the turn of an arrival, what a region admits, and the generations of a completion. -/
theorem hostRequestsAndCompletionsAct : Obligations.HostRequestsAndCompletionsAct := by
  refine ⟨fun s p id addr a n hu hm hp hd hw hb => ?_, fun s u p id addr a d bad hwf hu hm hp hd hw hb hu' hq => ?_,
    fun s p id addr k hu hm hp hw hb => ?_, fun s p id addr a k hu hm hp hk h => ?_,
    fun s p tag q pos u off len x d bad r hf hk hs hl => ?_, fun s p tag q pos u off len x st d bad r hf hk hs hst => ?_,
    fun s v p tag f q pos st d bad r hf hk hs hv => ⟨?_, ?_⟩, fun s v p tag st d bad r hf hs => ?_,
    fun s v p tag q pos u off len x r c hf hk hs hv hc => ?_, fun s p gen f hf hg => ⟨?_, ?_⟩, fun s p gen ok hg => ?_,
    fun s p f l hl => ?_⟩
  · refine congrArg Host.Outcome.next ((inboundBar4_admitted hu hm hp (by simp)).trans ((inOrder_now hw hb _ _).trans ?_))
    unfold State.startAccess State.access4
    exact uncached_none (inTheWay_noDir hd _ _)
  · have he : inboundBar4 p id addr (.write d bad) s = u.setMem (u.mem.store a d bad) := by
      cases bad with
      | true =>
        obtain rfl : u = s.aerAdvisory p := hu'
        rw [inboundBar4_poisoned hu hm hp, inOrder_now (s := s.aerAdvisory p) hw hb]
        exact startAccess_write hd hq
      | false =>
        obtain rfl : u = s := hu'
        rw [inboundBar4_admitted hu hm hp (by simp), inOrder_now hw hb]
        exact startAccess_write hd hq
    have hmem : u.mem = s.mem := by subst hu'; split <;> rfl
    rw [hmem] at he
    exact goes_to (congrArg Host.Outcome.next he) ⟨rfl, store_effect hwf a d bad⟩
  · exact congrArg Host.Outcome.next (inboundBar4_refused hu hm hp hw hb)
  · exact congrArg Host.Outcome.next ((inboundBar4_admitted hu hm hp hk).trans (inOrder_later h _ _))
  · exact congrArg Host.Outcome.next (((completion_of hf hs .ok d bad).1 q pos u off len x hk).trans (by simp [hl]))
  · exact congrArg Host.Outcome.next (((completion_of hf hs st d bad).1 q pos u off len x hk).trans (by simp [hst]))
  · exact congrArg Host.Outcome.next ((completion_of hf hs st d bad).2 f q pos hk)
  · exact congrArg Host.Outcome.next ((timeout_of hf hs hv).2 f q pos hk)
  · refine congrArg Host.Outcome.next ?_
    unfold hostCompletion
    simp only [hf, hs]
  · refine congrArg Host.Outcome.next (((timeout_of hf hs hv).1 q pos u off len x hk).trans ?_)
    have hc' : (v.queue q).cmd pos = some c := by rw [hv]; exact hc
    unfold State.breakCmdFence
    simp only [hc']
    split <;> rfl
  · have he : exec (.flushReadComplete p ⟨gen, true⟩) s = .next
        ((((s.setPort p { s.port p with flushes := (s.port p).flushes.erase f }).dropEntries p
          fun e => decide (e.seq < f.cover) && !e.owed).modPort p
            fun x => { x with jacked := max x.jacked f.cover, acked := true, lastAck := f.stamp, sent := [] })) := by
      refine congrArg Host.Outcome.next ?_
      show flushComplete p gen true s = _
      unfold flushComplete
      simp only [hf]
      rw [if_neg (by exact not_not_intro hg)]
      rfl
    refine goes_to he ⟨?_, ?_, ?_, ?_, ?_, ?_, ?_⟩
    · simp [State.dropEntries, State.modPort]
    · simp [State.dropEntries, State.modPort]
    · simp [State.dropEntries, State.modPort]
    · simp [State.dropEntries, State.modPort]
    · simp [State.dropEntries, State.modPort]
    · simp [State.dropEntries, State.modPort]
    · exact same_of_frame (State.modPort_frame _ _ _ (M := 256) rfl
        (State.dropEntries_frame _ _ _ rfl (State.setPort_frame _ _ _ rfl Frame.rfl))) rfl
  · refine congrArg Host.Outcome.next ?_
    show flushComplete p gen false s = _
    unfold flushComplete
    simp only [hf]
    rw [if_neg (by exact not_not_intro hg)]
    cases p <;> rfl
  · cases hf : (s.port p).flushes.find? fun f => f.gen = gen with
    | none =>
      refine goes_to (t := s.staleDomain) (congrArg Host.Outcome.next ?_) ⟨rfl, rfl, rfl, same_of_frame
        (State.staleDomain_frame _ (M := 8448) rfl Frame.rfl) rfl⟩
      show flushComplete p gen ok s = _
      unfold flushComplete
      simp only [hf]
      rw [if_pos hg]
    | some f =>
      refine goes_to (t := (s.setPort p { s.port p with flushes := (s.port p).flushes.erase f }).staleDomain)
        (congrArg Host.Outcome.next ?_) ⟨?_, ?_, rfl, same_of_frame
        (State.staleDomain_frame _ (M := 8448) rfl (State.setPort_frame _ _ _ rfl Frame.rfl)) rfl⟩
      · show flushComplete p gen ok s = _
        unfold flushComplete
        simp only [hf]
        rw [if_pos (by exact hg)]
      · cases p <;> rfl
      · cases p <;> rfl
  · refine congrArg Host.Outcome.next ?_
    show flushTimeout p s = _
    unfold flushTimeout
    simp only [hl]
    rfl

end Sys2Proof.Laws
end

section
/-! Events, moderation, delivery, and the wake watcher. -/
namespace Sys2Proof.Laws

open Sys2Proof Sys2Proof.Machine

set_option maxRecDepth 8000

/-- What the output held before INTA stays in it. -/
theorem mem_inta1_out {s : State} {o : Out} (h : o ∈ s.out) (p : Side) : o ∈ (s.inta1 p).out := by
  unfold State.inta1
  dsimp only
  split
  · exact h
  · split
    · exact List.mem_append_left _ h
    · exact h

/-- What a delivery by MSI-X sends, and what it makes of the vectors. -/
theorem deliver_msix {s : State} {f v : Nat} (h : (s.vec f v).route = none) :
    (s.deliver f v).irq.delivered = s.irq.delivered ++ [(f, v)] ∧
      .msix (s.vecPort f v) f v (Tbl.get MsixEntry.reset (s.func (s.vecPort f v) f).table v).addr
        (Tbl.get MsixEntry.reset (s.func (s.vecPort f v) f).table v).data ∈ (s.deliver f v).out ∧
      (s.deliver f v).irq.vecs = (s.setVec f v (s.vec f v).delivered).irq.vecs := by
  have hi : s.stamp.2.irq = s.irq := (State.stamp_frame s (M := 2) rfl Frame.rfl).irq rfl
  have hf : s.stamp.2.funcs = s.funcs := (State.stamp_frame s (M := 2) rfl Frame.rfl).funcs rfl
  have hfunc : ∀ p k, s.stamp.2.func p k = s.func p k := fun p k => by unfold State.func; rw [hf]
  unfold State.deliver
  simp only [h, hfunc]
  refine ⟨?_, mem_inta1_out (mem_inta1_out ?_ .a) .b, ?_⟩
  · rw [inta_irq]
    show s.stamp.2.irq.delivered ++ [(f, v)] = _
    rw [hi]
  · exact List.mem_append_right _ (List.mem_singleton.mpr rfl)
  · rw [inta_irq]
    show Tbl.set Vec.reset s.stamp.2.irq.vecs (vecKey f v) (s.vec f v).delivered = _
    rw [hi]
    rfl

/-- A twin whose RETURN begins is awake; the other twin is as before. -/
theorem beginReturn_standby (s : State) (t : Side) : ((s.beginReturn t).twin t).standby = false := by
  have h : (((s.wakeTwin t).twinGates t true).twin t).standby = false := by rw [twinGates_twin, wakeTwin_twin]
  unfold State.beginReturn
  generalize (s.wakeTwin t).twinGates t true = u at h
  dsimp only
  split
  · exact h
  · split
    · rwa [State.modTwin_twin]
    · unfold State.goReturn
      dsimp only
      split
      · rwa [State.modTwin_twin]
      · split
        · rw [startTest_twin]
        · rwa [State.modTwin_twin]

theorem beginReturn_other (s : State) (t : Side) : (s.beginReturn t).twin t.other = s.twin t.other := by
  have h : ((s.wakeTwin t).twinGates t true).twin t.other = s.twin t.other := by
    rw [twinGates_twin, wakeTwin_other s (by cases t <;> decide)]
  rw [← h]
  unfold State.beginReturn
  generalize (s.wakeTwin t).twinGates t true = u
  dsimp only
  split
  · rfl
  · split
    · exact State.modTwin_twin_other _ _ _
    · unfold State.goReturn
      dsimp only
      split
      · exact State.modTwin_twin_other _ _ _
      · split
        · rw [startTest_other, State.modTwin_twin_other]
        · exact State.modTwin_twin_other _ _ _

/-- A wake or a RETURN changes nothing of the interrupts. -/
theorem wakeTwin_irq (s : State) (t : Side) : (s.wakeTwin t).irq = s.irq :=
  (State.wakeTwin_frame s t (M := 16388) rfl Frame.rfl).irq rfl

theorem beginReturn_irq (s : State) (t : Side) : (s.beginReturn t).irq = s.irq :=
  (State.beginReturn_frame s t (M := 16388) rfl Frame.rfl).irq rfl

/-- What firing sources do to one twin that a slot with a hit names: it is woken, and its RETURN begins; or its standby is withdrawn. -/
def wakeStep (names returns : Bool) (s : State) (t : Side) : State :=
  if !names then s
  else if (s.twin t).standby then
    let s := s.wakeTwin t
    if returns && (s.twin t).state = .detached then s.beginReturn t else s
  else if (s.twin t).standbyReq then
    (s.modTwin t fun w => { w with standbyReq := false }).modIrq fun i => { i with cancelled := true }
  else s

/-- The HIT bits and the count of wakes. -/
def wakeHits (hits : Tbl Wake) (names : Side → Bool) (s : State) : State :=
  let u := s.modIrq fun i => { i with hit := hits.foldl (fun h (k, _) => setBit h k true) i.hit }
  if [Side.a, Side.b].any fun t => names t && (s.twin t).standby then
    u.modIrq fun i => { i with wakeCount := satAdd 65535 i.wakeCount 1 }
  else u

theorem wakeFire_eq {s : State} {src : List (Nat × Nat)} {hits : Tbl Wake} {names : Side → Bool}
    (hh : hits = s.irq.wakes.filter fun (_, w) => src.any fun (k, a) => w.matches k a)
    (hn : names = fun t => hits.any fun (_, w) => tst w.action t.num) :
    ∃ r : Side → Bool, wakeFire src s = wakeStep (names .b) (r .b) (wakeStep (names .a) (r .a) (wakeHits hits names s) .a) .b := by
  subst hn hh
  exact ⟨fun t => (s.irq.wakes.filter fun (_, w) => src.any fun (k, a) => w.matches k a).any fun (_, w) =>
    tst w.action t.num && w.ret, rfl⟩

/-- A step for one twin leaves the other, and of the interrupts all but CANCELLED, which it may set. -/
theorem wakeStep_other (n r : Bool) (s : State) (t : Side) : (wakeStep n r s t).twin t.other = s.twin t.other := by
  unfold wakeStep
  dsimp only
  split
  · rfl
  · split
    · split
      · rw [beginReturn_other, wakeTwin_other s (by cases t <;> decide)]
      · rw [wakeTwin_other s (by cases t <;> decide)]
    · split
      · exact State.modTwin_twin_other s t fun w => { w with standbyReq := false }
      · rfl

theorem wakeStep_irq (n r : Bool) (s : State) (t : Side) :
    ∃ c, (wakeStep n r s t).irq = { s.irq with cancelled := c } ∧ (s.irq.cancelled = true → c = true) := by
  unfold wakeStep
  dsimp only
  split
  · exact ⟨s.irq.cancelled, rfl, id⟩
  · split
    · split
      · exact ⟨s.irq.cancelled, (beginReturn_irq _ _).trans (wakeTwin_irq _ _), id⟩
      · exact ⟨s.irq.cancelled, wakeTwin_irq _ _, id⟩
    · split
      · exact ⟨true, rfl, fun _ => rfl⟩
      · exact ⟨s.irq.cancelled, rfl, id⟩

/-- A twin that is named is awake after its step, and a standby that it asked for is withdrawn. -/
theorem wakeStep_named (r : Bool) (s : State) (t : Side) : ((wakeStep true r s t).twin t).standby = false ∧
    ((s.twin t).standby = false → (s.twin t).standbyReq = true →
      ((wakeStep true r s t).twin t).standbyReq = false ∧ (wakeStep true r s t).irq.cancelled = true) := by
  unfold wakeStep
  simp only [Bool.not_true, Bool.false_eq_true, if_false]
  by_cases hs : (s.twin t).standby = true
  · rw [if_pos hs]
    refine ⟨?_, fun h => absurd hs (by simp [h])⟩
    split
    · exact beginReturn_standby _ _
    · rw [wakeTwin_twin]
  · rw [if_neg hs]
    simp only [Bool.not_eq_true] at hs
    by_cases hr : (s.twin t).standbyReq = true
    · rw [if_pos hr]
      have e : (((s.modTwin t fun w => { w with standbyReq := false }).modIrq fun i => { i with cancelled := true }).twin t) =
          { s.twin t with standbyReq := false } :=
        State.modTwin_twin s t fun w => { w with standbyReq := false }
      exact ⟨by rw [e]; exact hs, fun _ _ => ⟨by rw [e], rfl⟩⟩
    · rw [if_neg hr]
      exact ⟨hs, fun _ h => absurd h hr⟩

/-- The two steps, one for each twin. -/
theorem wakeSteps (names r : Side → Bool) (b : State) :
    (∃ c, (wakeStep (names .b) (r .b) (wakeStep (names .a) (r .a) b .a) .b).irq = { b.irq with cancelled := c }) ∧
    (∀ q, names q = true → ((wakeStep (names .b) (r .b) (wakeStep (names .a) (r .a) b .a) .b).twin q).standby = false) ∧
    (∀ q, names q = true → (b.twin q).standby = false → (b.twin q).standbyReq = true →
      ((wakeStep (names .b) (r .b) (wakeStep (names .a) (r .a) b .a) .b).twin q).standbyReq = false ∧
      (wakeStep (names .b) (r .b) (wakeStep (names .a) (r .a) b .a) .b).irq.cancelled = true) ∧
    (∀ q, names q = false → (wakeStep (names .b) (r .b) (wakeStep (names .a) (r .a) b .a) .b).twin q = b.twin q) := by
  have hba := wakeStep_other (names .a) (r .a) b .a
  have hna := wakeStep_named (r .a) b .a
  have hfa : names .a = false → (wakeStep (names .a) (r .a) b .a) = b := fun h => by rw [h]; rfl
  obtain ⟨c1, hc1, _⟩ := wakeStep_irq (names .a) (r .a) b .a
  generalize hm : wakeStep (names .a) (r .a) b .a = m at hba hfa hc1
  have hab : (wakeStep (names .b) (r .b) m .b).twin .a = m.twin .a := wakeStep_other (names .b) (r .b) m .b
  have hnb := wakeStep_named (r .b) m .b
  have hfb : names .b = false → (wakeStep (names .b) (r .b) m .b) = m := fun h => by rw [h]; rfl
  obtain ⟨c2, hc2, hk⟩ := wakeStep_irq (names .b) (r .b) m .b
  have hb : m.twin .b = b.twin .b := hba
  rw [hb] at hnb
  refine ⟨⟨c2, by rw [hc2, hc1]⟩, fun q h => ?_, fun q h h1 h2 => ?_, fun q h => ?_⟩
  · cases q with
    | a =>
      rw [h] at hm
      rw [hab, ← hm]
      exact hna.1
    | b =>
      rw [h]
      exact hnb.1
  · cases q with
    | a =>
      rw [h] at hm
      have hs := hna.2 h1 h2
      rw [hm] at hs
      refine ⟨by rw [hab]; exact hs.1, ?_⟩
      rw [hc2]
      exact hk hs.2
    | b =>
      rw [h]
      exact hnb.2 h1 h2
  · cases q with
    | a => rw [hab, hfa h]
    | b => rw [hfb h, hb]

/-- The hits change no twin. -/
theorem wakeHits_twin (hits : Tbl Wake) (names : Side → Bool) (s : State) (t : Side) : (wakeHits hits names s).twin t = s.twin t := by
  unfold wakeHits
  dsimp only
  split <;> rfl

theorem wakeHits_irq (hits : Tbl Wake) (names : Side → Bool) (s : State) :
    (wakeHits hits names s).irq.hit = hits.foldl (fun h (k, _) => setBit h k true) s.irq.hit ∧
      (wakeHits hits names s).irq.wakeCount =
        (if (names .a = true ∧ (s.twin .a).standby = true) ∨ (names .b = true ∧ (s.twin .b).standby = true) then
          satAdd 65535 s.irq.wakeCount 1 else s.irq.wakeCount) := by
  unfold wakeHits
  simp only [List.any_cons, List.any_nil, Bool.or_false, Bool.or_eq_true, Bool.and_eq_true]
  split <;> exact ⟨rfl, rfl⟩

/-- An event at a vector, by the state it finds (R402). -/
theorem event_cases (x : Vec) (now : Nat) (o : Origin) :
    (x.state = .quiet → (x.event now o).events = 1 ∧ (x.event now o).state = (if x.idle = true then .due else .waiting)) ∧
    (x.state = .waiting → (x.event now o).events = min (x.events + 1) 16383 ∧
      (x.event now o).state = (if x.idle = true then .due else .waiting)) ∧
    (x.state = .due ∨ x.state = .service → (x.event now o).events = min (x.events + 1) 16383 ∧ (x.event now o).state = x.state) := by
  unfold Vec.event satAdd
  refine ⟨fun h => ?_, fun h => ?_, fun h => ?_⟩
  · simp only [h]
    by_cases hi : x.idle = true <;> simp [hi, Vec.release, Vec.open]
  · simp only [h]
    by_cases hi : x.idle = true <;> simp [hi, Vec.release, Nat.min_comm]
  · rcases h with h | h <;> simp [h, Nat.min_comm]

/-- Moderation at a waiting vector whose window is open (R404). -/
theorem moderate_cases {x : Vec} {now o c d : Nat} (h : x.state = .waiting) (hw : x.window = some (o, c, d)) (ho : o ≤ now) :
    (c ≤ x.events ∨ o + d ≤ now → (x.moderate now).state = .due ∧ (x.moderate now).events = x.events ∧
      (x.moderate now).released = some (if c ≤ x.events then 0 else if x.events = 1 then 1 else 2)) ∧
    (x.events < c → now < o + d → x.moderate now = x) := by
  have he : x.moderate now = if x.events ≥ c then x.release now 0
      else if now ≥ o + d then x.release now (if x.events = 1 then 1 else 2) else x := by
    unfold Vec.moderate
    simp only [h, hw]
    exact if_neg (by omega)
  rw [he]
  refine ⟨fun hr => ?_, fun hc hd => ?_⟩
  · by_cases hc : c ≤ x.events
    · rw [if_pos hc, if_pos hc]
      exact ⟨rfl, rfl, rfl⟩
    · rw [if_neg hc, if_neg hc, if_pos (by omega)]
      exact ⟨rfl, rfl, rfl⟩
  · rw [if_neg (by omega), if_neg (by omega)]

/-- The moderation delay after a delivery (R405). -/
theorem delivered_cases (x : Vec) : x.delivered.state = (if x.autoAck = true then .quiet else .service) ∧ x.delivered.events = 0 ∧
    x.delivered.idle = false ∧ (x.adapt = false → x.delivered.delayNow = x.delayNow) ∧
    (x.adapt = true → x.delivered.delayNow =
      (if x.released = some 0 then min (max (2 * x.delayNow) 1) x.delay
       else if x.released = some 1 then x.delayNow / 2 else x.delayNow)) := by
  unfold Vec.delivered
  refine ⟨rfl, rfl, rfl, fun h => by simp [h], fun h => ?_⟩
  simp only [h, Bool.not_true, Bool.false_eq_true, if_false]
  split
  case h_1 e => rw [if_pos e]
  case h_2 e => rw [e]; rfl
  case h_3 h0 h1 => rw [if_neg h0, if_neg h1]

/-- Settles O51: firing sources act on one twin after the other. -/
theorem interruptEventsAct : Obligations.InterruptEventsAct := by
  refine ⟨fun s u us f v o l hl hu => ?_, event_cases, fun s u f v us hu => ?_, fun x now o c d h hw ho => moderate_cases h hw ho,
    fun s u f v us hu hd hf hc => ?_, fun s f v h => deliver_msix h, delivered_cases, fun s f v us hd => ?_,
    fun s src hits names hh hn => ?_⟩
  · subst hu
    refine congrArg Host.Outcome.next ?_
    show eventRaised us s = _
    unfold eventRaised
    simp only [hl]
  · subst hu
    rfl
  · subst hu
    refine congrArg Host.Outcome.next ?_
    show vectorDelivery _ f.val v.val us s = _
    unfold vectorDelivery
    have hfirst : ((s.reach us).vecKeys.any fun (g, w) =>
        decide (vecKey g w < vecKey f.val v.val) && (s.reach us).deliverable g w) = false := by
      rw [List.any_eq_false]
      rintro ⟨g, w⟩ hm
      simp only [Bool.and_eq_true, decide_eq_true_eq, not_and]
      exact fun hlt => by rw [hf g w hm hlt]; exact Bool.false_ne_true
    simp only [hd, hfirst, hc, Bool.not_false, Bool.and_self, if_true]
  · refine congrArg Host.Outcome.next ?_
    show vectorDelivery _ f.val v.val us s = _
    unfold vectorDelivery
    simp only [hd, Bool.false_and, Bool.false_eq_true, if_false]
  · obtain ⟨r, he⟩ := wakeFire_eq hh hn
    obtain ⟨hirq, hon, hreq, hoff⟩ := wakeSteps names r (wakeHits hits names s)
    obtain ⟨hhit, hcount⟩ := wakeHits_irq hits names s
    simp only [wakeHits_twin] at hreq hoff
    refine goes_to (congrArg Host.Outcome.next he) ⟨?_, ?_, hon, hreq, hoff, ?_⟩
    · rw [← hhit]
      obtain ⟨c, e⟩ := hirq
      rw [e]
    · rw [← hcount]
      obtain ⟨c, e⟩ := hirq
      rw [e]
    · rw [← he]
      exact same_of_frame (wakeFire_frame src s (M := 17412) rfl Frame.rfl) rfl

end Sys2Proof.Laws
end

section
/-! Fault collectors, the ladder, and a domain's samples. -/
namespace Sys2Proof.Laws

open Sys2Proof Sys2Proof.Machine

set_option maxRecDepth 8000

/-- An occurrence at the twin's collector. -/
theorem occur_col (s : State) (t : Side) (src n code detail : Nat) (ctx : Option Nat) :
    ((s.occur t src n code ctx detail).twin t).col = (s.twin t).col.occur src n code ctx detail := by
  unfold State.occur
  dsimp only
  split
  · rw [chip_twin, State.modTwin_twin]
  · rw [State.modTwin_twin]

/-- An occurrence that can be stamped. -/
theorem occurNow_stamped {s u : State} {n : Nat} (hc : s.canStamp = true) (hs : s.stamp = (n, u)) (t : Side) (src : Fin 15)
    (code : Nat) (ctx : Option Nat) (detail : Nat) : s.occurNow t src code ctx detail = u.occur t src.val n code ctx detail := by
  unfold State.occurNow
  rw [if_pos hc, hs]

/-- An occurrence of a twin's source: what its own effect adds. -/
theorem faultOccurrence_twin {src : Fin 15} (h : src.val < 13) (s : State) (t : Side) (ctx : Option Nat) (code detail : Nat) :
    faultOccurrence t src ctx code detail s =
      let v := s.occurNow t src code ctx detail
      if src.val = 0 then
        let w := v.modEngine (detail % 40) fun e => { e with uncorr := true }
        ctx.elim w fun k => w.spoilUnit (detail % 40) k
      else if src.val = 1 then v.modEngine (detail % 40) fun e => { e with corr := true }
      else if src.val = 7 then v.discard t fun _ => true
      else v := by
  unfold faultOccurrence
  rw [if_neg (by omega)]
  simp only [Fin.ext_iff]
  cases ctx <;> rfl

/-- With no unit of the context to mark, the error waits for the next one. -/
theorem spoilUnit_waits {s : State} {n k : Nat}
    (h : (s.engine n).last = none ∨
      ∃ q pos u, (s.engine n).last = some (q, pos, u) ∧ ((s.queue q).cmd pos = none ∨ (s.queue q).ctx ≠ k)) :
    s.spoilUnit n k = s.modEngine n fun e => { e with spoil := some (k, s.time.bnd) } := by
  unfold State.spoilUnit
  rcases h with h | ⟨q, pos, u, hl, h⟩
  · simp only [h]
  · simp only [hl]
    cases hc : (s.queue q).cmd pos with
    | none => rfl
    | some c =>
      have hk : (s.queue q).ctx ≠ k := h.resolve_left (by simp [hc])
      simp only [decide_eq_true hk, Bool.true_or, if_true]

/-- What an occurrence makes of a collector (R418). -/
theorem collector_occur {c : Collector} (hw : Tbl.wf Capture.none c.caps = true) (src n code detail : Nat) (ctx : Option Nat) :
    (tst c.first src = false → Tbl.get Capture.none (c.occur src n code ctx detail).caps src =
      { stamp := n, code := code, ctx := ctx, occur := 1, detail := detail % 65536 }) ∧
    (tst c.first src = true → Tbl.get Capture.none (c.occur src n code ctx detail).caps src =
      { Tbl.get Capture.none c.caps src with occur := satAdd 65535 (Tbl.get Capture.none c.caps src).occur 1 }) ∧
    (c.occur src n code ctx detail).first = setBit c.first src true ∧
    (startOf src = 0 → (c.occur src n code ctx detail).pending = c.pending ∧ (c.occur src n code ctx detail).grace = c.grace) ∧
    (startOf src ≠ 0 → (c.occur src n code ctx detail).pending = setBit c.pending src true) := by
  unfold Collector.occur
  by_cases h0 : startOf src = 0
  · simp only [h0, if_true]
    refine ⟨fun h => ?_, fun h => ?_, trivial, by simp, by simp⟩
    · simp [Tbl.get_set_same hw, h]
    · simp [Tbl.get_set_same hw, h]
  · simp only [h0, if_false]
    refine ⟨fun h => ?_, fun h => ?_, trivial, by simp, by simp⟩
    · simp [Tbl.get_set_same hw, h]
    · simp [Tbl.get_set_same hw, h]

/-- Containing what is named leaves the twins. -/
theorem containNamed_twin (s : State) (t x : Side) : (s.containNamed t).twin x = s.twin x := by
  have h : (s.containNamed t).twins = s.twins := (State.containNamed_frame s t (M := 1544) rfl Frame.rfl).twins rfl
  unfold State.twin
  rw [h]

/-- The grace timer's last tick with something pending. -/
theorem graceExpiry_due {s : State} {t : Side} (hg : (s.twin t).col.grace = some 1) (hp : (s.twin t).col.pending ≠ 0) :
    (s.ladderStep t = 1 → graceExpiry t s = (s.containNamed t).modTwin t fun w =>
      { w with col := { w.col with level := 1, pending := 0, named := [], grace := none, armed := false } }) ∧
    (2 ≤ s.ladderStep t → s.serves t.other = true → graceExpiry t s =
      (s.failAt t (if s.ladderStep t = 2 then .resetStep else .outStep)).modTwin t fun w =>
        { w with col := { w.col with level := s.ladderStep t, pending := 0, named := [], grace := none, armed := false } }) ∧
    (2 ≤ s.ladderStep t → s.serves t.other = false → (s.twin t.other).state ≠ .detaching → graceExpiry t s =
      (s.containNamed t).modTwin t fun w =>
        { w with col := { w.col with
            level := if w.col.named.isEmpty = true then w.col.level else max w.col.level 1, lone := true, grace := none,
            armed := true } }) := by
  have hdue : ¬ ((decide ((s.twin t).col.grace ≠ some 1) || decide ((s.twin t).col.pending = 0)) = true) := by simp [hg, hp]
  unfold graceExpiry
  dsimp only
  rw [if_neg hdue]
  refine ⟨fun h => ?_, fun h hs => ?_, fun h hs hd => ?_⟩
  · simp [h]
  · rw [if_neg (by simp [hs]), if_neg (by omega)]
  · rw [if_pos (by simp [hs, h]), if_neg]
    rw [State.modTwin_twin_other, containNamed_twin]
    exact hd

/-- A collector that cannot be trusted: the twin fails at the next boundary. -/
theorem safe_fail (s : State) (t : Side) :
    (s.modTwin t fun w => { w with col := { w.col with safe := true } }).failAt t .safe =
      s.modTwin t fun w => { w with col := { w.col with safe := true }, fail := w.fail.or (some .safe) } := by
  cases t <;> rfl

theorem safeState_carries {s : State} {t : Side} (h : s.carries t = true) :
    safeState t s =
      if s.carries t.other = true then
        (s.modTwin t fun w => { w with col := { w.col with safe := true }, fail := w.fail.or (some .safe) }).occurNow t.other 12 0 none t.num
      else s.modTwin t fun w => { w with col := { w.col with safe := true }, fail := w.fail.or (some .safe) } := by
  have h1 : (s.modTwin t fun w => { w with col := { w.col with safe := true } }).carries t = true := by
    unfold State.carries
    rw [State.modTwin_twin]
    exact h
  have h2 : (s.modTwin t fun w => { w with col := { w.col with safe := true }, fail := w.fail.or (some .safe) }).carries t.other =
      s.carries t.other := by
    unfold State.carries
    rw [State.modTwin_twin_other]
  unfold safeState
  simp only [h1, safe_fail, h2, Bool.not_true, Bool.false_eq_true, if_false]
  cases s.carries t.other <;> rfl

/-- Settles O52: occurrences by their collector, the timer by its rung, and samples by their domain. -/
theorem faultsAreCapturedAndEscalate : Obligations.FaultsAreCapturedAndEscalate := by
  refine ⟨fun s u v t src ctx code detail n h hc hs hv => ?_, fun s t src ctx code detail hc h7 h => ?_,
    fun s t ctx code detail => ⟨rfl, rfl, fun hw => ?_⟩, fun s n k h => spoilUnit_waits h,
    fun s t src n code detail ctx => occur_col s t src n code detail ctx,
    fun c src n code detail ctx hw => collector_occur hw src n code detail ctx, fun s t c hc hg hp => ?_, fun s t h => ?_,
    fun s u v t n h ho hu hc hs => ?_, fun s t h ho => ?_, fun s d hd hw => ?_, fun s n core gen d hg hst hm hl => ?_,
    fun s n core gen d hg => ?_, fun s n core hst hm => ?_⟩
  · refine congrArg Host.Outcome.next ((faultOccurrence_twin h s t ctx code detail).trans ?_)
    rw [occurNow_stamped hc hs, ← hv]
    cases ctx <;> rfl
  · refine congrArg Host.Outcome.next ((faultOccurrence_twin h s t ctx code detail).trans ?_)
    dsimp only
    rw [if_neg (by omega), if_neg (by omega), if_neg (by omega)]
    unfold State.occurNow
    rw [if_neg (by simp [hc])]
  · refine congrArg Host.Outcome.next ?_
    show s.sharedError false 1 detail = _
    unfold State.sharedError
    simp [hw]
  · subst hc
    obtain ⟨h1, h2, h3⟩ := graceExpiry_due hg hp
    exact ⟨fun h => congrArg Host.Outcome.next (h1 h), fun h hs => congrArg Host.Outcome.next (h2 h hs),
      fun h hs hd => congrArg Host.Outcome.next (h3 h hs hd)⟩
  · refine congrArg Host.Outcome.next ?_
    show graceExpiry t s = s
    unfold graceExpiry
    dsimp only
    rw [if_pos (by simpa using h)]
  · subst hu
    refine congrArg Host.Outcome.next ((safeState_carries h).trans ?_)
    rw [if_pos ho]
    exact occurNow_stamped hc hs t.other 12 0 none t.num
  · refine congrArg Host.Outcome.next ((safeState_carries h).trans ?_)
    rw [if_neg (by simp [ho])]
  · refine congrArg Host.Outcome.next ?_
    show detachForced s = _
    unfold detachForced State.modRst
    simp [hd, hw]
  · refine congrArg Host.Outcome.next ?_
    show sampleReturn n.val core gen d s = _
    unfold sampleReturn
    simp [hg, hst, hm, hl]
  · exact congrArg Host.Outcome.next (if_pos hg)
  · refine congrArg Host.Outcome.next ?_
    show sampleTimeout n.val core s = _
    unfold sampleTimeout
    simp [hst, hm]

end Sys2Proof.Laws
end

section
/-! The checks of an arriving packet, PATHFENCE, and the deliveries of a microsecond. -/
namespace Sys2Proof.Laws

open Sys2Proof Sys2Proof.Machine

set_option maxRecDepth 8000

/-- A packet of a class or channel that its kind does not have. -/
theorem accept_bad {s : State} {h : FabHdr} {k : Nat} (hb : h.tc.val ≠ kindClass k ∨ h.vc.val ≠ kindVc k) :
    s.accept h k = (false, s.modFab fun x => { x with bad := satAdd 2047 x.bad 1 }) := by
  unfold State.accept
  rw [if_pos (by simpa using hb)]

/-- A packet for another device. -/
theorem accept_transit {s : State} {h : FabHdr} {k : Nat} (h1 : h.tc.val = kindClass k) (h2 : h.vc.val = kindVc k)
    (hd : h.dst ≠ s.fab.device) : s.accept h k = (false, s.forward h) := by
  unfold State.accept
  rw [if_neg (by simp [h1, h2]), if_pos hd]

/-- A packet in order that comes before its time is held. -/
theorem arrive_early {s : State} {c : Instr} {h : FabHdr} {k : Nat} {f : State → State} (ho : InOrder s h k) (hk : k ≠ K.pathfence)
    (hf : fixedKind k = true) (ha : h.age < (s.route h.src).delay) :
    s.arrive c h k f = (s.countedPkt h).modFab fun x =>
      { x with held := insertHeld x.held (s.arrivalNs h + ((s.route h.src).delay - h.age)) c } := by
  unfold State.arrive
  rw [accept_ok ho hk]
  dsimp only
  rw [fixedKind_eq ho.1.1 hk, countedPkt_route]
  simp only [Bool.not_true, Bool.false_eq_true, if_false]
  rw [if_neg (by simp [hf]; omega), if_pos ha]

/-- A PATHFENCE that names the generation held is adopted, and answered with what came under it. -/
theorem pathfence_adopted {s : State} {h : FabHdr} {n : Nat} (ha : Addressed s h K.pathfence) (hn : n % 256 = (s.rx h.src).gen) :
    fenceArrives h n s = (s.setRx h.src { gen := h.pgen, expect := [0, 0, 0, 0] }).sendPfack h.src
      { plainPkt K.pfack (s.rx h.src).expect with addr := 15 } := by
  obtain ⟨h1, h2, h3⟩ := ha
  have hacc : s.accept { h with addr := n } K.pathfence = (true, s.setRx h.src { gen := h.pgen, expect := [0, 0, 0, 0] }) := by
    unfold State.accept
    rw [if_neg (by simp [h1, h2]), if_neg (by simp [h3])]
    dsimp only
    rw [if_pos (by simp [hn])]
  unfold fenceArrives State.arrive
  dsimp only
  rw [hacc]
  simp [State.deliverPkt, takePathfence]

/-- One that names another, under a generation not held, is dropped. -/
theorem pathfence_stale {s : State} {h : FabHdr} {n : Nat} (ha : Addressed s h K.pathfence) (hn : n % 256 ≠ (s.rx h.src).gen)
    (hg : h.pgen ≠ (s.rx h.src).gen) : fenceArrives h n s = s.stalePath := by
  obtain ⟨h1, h2, h3⟩ := ha
  refine arrive_no ?_
  unfold State.accept
  rw [if_neg (by simp [h1, h2]), if_neg (by simp [h3])]
  dsimp only
  rw [if_neg (by simp [hn]), if_pos hg]

/-- The deliveries of a microsecond, with no packet or one packet held. -/
theorem deliveries_none {s : State} {us : Nat} (h : ∀ x ∈ (s.reach us).fab.held, ((s.reach us).time.us + us) * 1000 < x.1) :
    deliveries us s = (s.reach us).modFab fun x => { x with held := (s.reach us).fab.held } := by
  have hdue : ((s.reach us).fab.held.filter fun x => decide (x.1 ≤ ((s.reach us).time.us + us) * 1000)) = [] :=
    List.filter_eq_nil_iff.mpr fun x hx => by have := h x hx; simpa using this
  have hkeep : ((s.reach us).fab.held.filter fun x => !decide (x.1 ≤ ((s.reach us).time.us + us) * 1000)) = (s.reach us).fab.held :=
    List.filter_eq_self.mpr fun x hx => by have := h x hx; simpa using this
  unfold deliveries State.modFab
  dsimp only
  rw [hdue, hkeep]
  rfl

theorem deliveries_one {s : State} {us t : Nat} {c : Instr} (hh : (s.reach us).fab.held = [(t, c)])
    (ht : t ≤ ((s.reach us).time.us + us) * 1000) :
    deliveries us s = ((s.reach us).modFab fun x => { x with held := [] }).deliverHeld c := by
  unfold deliveries State.modFab
  simp [hh, ht]

/-- A held packet of a kind with its effect. -/
theorem deliverHeld_fab {s : State} {c : Instr} {h : FabHdr} {k : Nat} {f : State → State} (hp : fabParts c = some (h, k, f))
    (hc : ∀ h g t r m, c ≠ .collCtl h g t r m) : s.deliverHeld c = s.deliverPkt h k f := by
  unfold State.deliverHeld
  split
  · exact absurd rfl (hc _ _ _ _ _)
  · rw [hp]

/-- Settles O55: the checks in their order. -/
theorem packetsAreChecked : Obligations.PacketsAreChecked := by
  refine ⟨fun c s h k hp => ?_, fun s h n ha => ⟨fun hn => ?_, fun hn hg => ?_⟩, fun s us t c h k f hh ht hp hc => ?_,
    fun s us h => ?_⟩
  · obtain ⟨hk, he⟩ := packet_exec hp
    obtain ⟨f, he⟩ := he s
    rw [he]
    refine ⟨fun hb => ?_, fun h1 h2 hd => ?_, fun ha hg => ?_, fun ha hg hd => ?_, fun ha hg hd hq => ?_, fun ho hf ha => ?_⟩
    · rw [arrive_no (accept_bad hb)]
    · rw [arrive_no (accept_transit h1 h2 hd)]
    · rw [arrive_no ((accept_here ha hk).trans (if_pos hg))]
    · rw [arrive_no ((accept_here ha hk).trans ((if_neg (not_not_intro hg)).trans (if_pos hd)))]
    · rw [arrive_no ((accept_here ha hk).trans ((if_neg (not_not_intro hg)).trans ((if_neg (not_not_intro hd)).trans (if_pos hq))))]
    · rw [arrive_early ho hk hf ha]
  · exact congrArg Host.Outcome.next (pathfence_adopted ha hn)
  · exact congrArg Host.Outcome.next (pathfence_stale ha hn hg)
  · exact congrArg Host.Outcome.next ((deliveries_one hh ht).trans (deliverHeld_fab hp hc))
  · exact congrArg Host.Outcome.next (deliveries_none h)

end Sys2Proof.Laws
end

section
/-! What each delivered packet does. -/
namespace Sys2Proof.Laws

open Sys2Proof Sys2Proof.Machine

set_option maxRecDepth 8000

/-- A delivered packet whose effect is known. -/
theorem delivered_to {s v w : State} {h : FabHdr} {k : Nat} {c : Instr} {f : State → State} (hd : Delivered s h k v)
    (hk : (needsAck k && decide (k ≠ K.pathfence)) = true) (he : exec c s = .next (s.arrive c h k f)) (e : f v = w) :
    exec c s = .next (w.sendAck h) := by
  rw [delivered_next hd hk he, e]

/-- A command of a ring slot after a change through its reference. -/
theorem modRef_cmdAt {s : State} {r : CmdRef} {f : Cmd → Cmd} {c : Cmd} (h : (s.queue r.queue).cmdAt r.slot = some c)
    (hf : ∀ x, (f x).slot = x.slot) : ((s.modRef r f).queue r.queue).cmdAt r.slot = some (f c) := by
  have hne : (s.queue r.queue).cmds ≠ [] := cmdAt_ne h
  have hq : (s.modRef r f).queue r.queue = { s.queue r.queue with
      cmds := (s.queue r.queue).cmds.map fun c => if c.slot % (s.queue r.queue).slots = r.slot then f c else c } := by
    exact setQueue_queue _ _ _ (by simpa using hne)
  rw [hq]
  unfold Queue.cmdAt Queue.slots at *
  dsimp only
  rw [List.find?_map]
  have hp : ((fun c : Cmd => decide (c.slot % 2 ^ (s.queue r.queue).size = r.slot)) ∘
      fun c => if c.slot % 2 ^ (s.queue r.queue).size = r.slot then f c else c) =
      fun c => decide (c.slot % 2 ^ (s.queue r.queue).size = r.slot) := by
    funext x
    simp only [Function.comp]
    split <;> simp [hf]
  rw [hp, h]
  have hs : c.slot % 2 ^ (s.queue r.queue).size = r.slot := by simpa using List.find?_some h
  simp [hs]

/-- A unit lost of a command that has ended with HX_OK gives it the code. -/
theorem loseUnit_ended {s : State} {r : CmdRef} {c : Cmd} (h : (s.queue r.queue).cmdAt r.slot = some c) (hr : c.result = some E.ok)
    (he : isEngine (hOpcode c.bytes) = true) (u code : Nat) :
    ∃ d, ((s.loseUnit r u code).queue r.queue).cmdAt r.slot = some d ∧ d.result = some code ∧
      d.residue = streamLen c.bytes - min (streamLen c.bytes) (4096 * u) := by
  have hslot : ∀ x : Cmd, (x.loseUnit u code s.time.bnd).slot = x.slot := fun x => by unfold Cmd.loseUnit; split <;> rfl
  refine ⟨c.loseUnit u code s.time.bnd, ?_, ?_, ?_⟩
  · unfold State.loseUnit
    simp only [h, hr, Option.isSome_some, if_true]
    exact modRef_cmdAt h hslot
  · unfold Cmd.loseUnit
    simp [hr]
  · unfold Cmd.loseUnit
    simp [hr, he]

theorem loseUnit_running {s : State} {r : CmdRef} {c : Cmd} (h : (s.queue r.queue).cmdAt r.slot = some c) (hr : c.result = none)
    (u code : Nat) : s.loseUnit r u code = s.endUnit r.queue c.slot u code := by
  unfold State.loseUnit
  simp [h, hr]

/-- What an ACK covers is freed. -/
theorem takeAck_eq {v : State} {h : FabHdr} {valid : Nat} {upTo : List Nat} {l : List FabSent}
    (hl : l = (v.path h.src).unacked.filter (fun y => !y.covered valid upTo)) :
    ((v.path h.src).unacked.any (fun y => y.covered valid upTo) = true → takeAck h valid upTo v = (v.modPath h.src fun x =>
        { x with
          unacked := l, changes := 0
          timer := if l.any fun y => needsAck y.pkt.kind then some (v.time.bnd + v.ackTicks) else none }).freed
        ((v.path h.src).unacked.filter fun y => y.covered valid upTo)) ∧
    ((v.path h.src).unacked.any (fun y => y.covered valid upTo) = false → takeAck h valid upTo v = v) := by
  subst hl
  unfold takeAck
  dsimp only
  constructor
  · intro hc
    rw [if_neg]
    rw [List.any_eq_true] at hc
    obtain ⟨y, hy, hyc⟩ := hc
    rw [List.isEmpty_iff, List.filter_eq_nil_iff]
    exact fun e => e y hy hyc
  · intro hc
    rw [if_pos]
    rw [List.isEmpty_iff, List.filter_eq_nil_iff]
    rw [List.any_eq_false] at hc
    exact hc

/-- A PFACK of a path that no PATHFENCE has gone ahead of does nothing. -/
theorem takePfack_none {v : State} {h : FabHdr} (hf : (v.path h.src).fence = none) (counts : List Nat) : takePfack h counts v = v := by
  unfold takePfack
  simp [hf]

/-- The packets that the counts of a PFACK cover. -/
def pfackGone (x : FabPath) (counts : List Nat) : List FabSent :=
  let first := fun (k : Nat) => ((x.unacked.find? fun y => y.cls = k).map (·.pseq)).getD 0
  x.unacked.filter fun y =>
    decide ((y.pseq + 65536 - first y.cls) % 65536 < (counts.getD y.cls 0 + 65536 - first y.cls) % 65536)

/-- A PFACK with nothing waiting: what is left is renumbered and sent again. -/
theorem takePfack_eq {v : State} {h : FabHdr} {l : Nat} {counts : List Nat} {keep : List FabSent} (hf : (v.path h.src).fence.isSome = true)
    (hw : (v.path h.src).waiting = []) (hl : (v.route h.src).link = some l)
    (hk : keep = [0, 1, 2, 3].flatMap (fun k => renumber (v.path h.src).unacked k (counts.getD k 0) ((v.path h.src).next.getD k 0))) :
    takePfack h counts v = (((v.modPath h.src fun x =>
      { x with
        unacked := keep, fence := none, waiting := [], changes := 0
        next := [0, 1, 2, 3].map fun k => (v.path h.src).next.getD k 0 + (keep.filter fun y => y.cls = k).length
        timer := if keep.any fun y => needsAck y.pkt.kind then some (v.time.bnd + v.ackTicks) else none }).emits
          (keep.map fun y => .packet l h.src (v.route h.src).pgen y.pseq (v.devGen h.src) y.pkt)).countResent h.src
            ((v.path h.src).unacked.filter fun y => !(pfackGone (v.path h.src) counts).contains y)).freed (pfackGone (v.path h.src) counts) := by
  have hn : (v.path h.src).fence.isNone = false := by
    obtain ⟨x, hx⟩ := Option.isSome_iff_exists.mp hf
    rw [hx]
    rfl
  subst hk
  unfold takePfack State.pfackDeliver
  simp only [hn, hl, hw, Bool.false_eq_true, if_false, List.foldl_nil]
  rfl

/-- With every count valid, the counts are those of the packet. -/
theorem pfackCounts_all (s : State) (h : FabHdr) (a0 a1 a2 a3 : Nat) : s.pfackCounts h 15 [a0, a1, a2, a3] = [a0, a1, a2, a3] := rfl

/-- The acknowledgement timer's end. -/
theorem ackTimeout_eq {s : State} {d t : Nat} (ht : (s.path d).timer = some t) :
    ackTimeout d s =
      if s.time.bnd < t then s
      else if (s.path d).changes ≥ 4 then s.stamped (.ackTimeout d) fun st s => s.deviceLost st d
      else (s.modPath d fun x => { x with timer := none, changes := x.changes + 1 }).modRoute d fun r => { r with change := true } := by
  unfold ackTimeout
  simp only [ht]

/-- A FENCE_UPD at a proxy: its VALUE rises, and BROKEN stands. -/
theorem fence_update (f : Fence) (value code scope : Nat) :
    (f.update value 1 code scope).value = max f.value value ∧
    (f.state ≠ .broken → (f.update value 1 code scope).state = .signalled ∧ (f.update value 0 code scope).state = .pending ∧
      (f.update value 2 code scope).state = .broken ∧ (f.update value 2 code scope).code = code) ∧
    (f.state = .broken → (f.update value 1 code scope).state = .broken ∧ (f.update value 2 code scope).code = f.code) := by
  unfold Fence.update
  by_cases hb : f.state = .broken
  · simp [hb]
  · simp [hb, Fence.breakWith]

/-- A peer's invalidation is answered at once, or its ranges are asked of the domains. -/
theorem takeInval_go {v u : State} {c : Instr} {h : FabHdr} {cl : Nat} {l : List (Nat × Nat)} (hc : v.canStamp = true)
    (hu : u = v.stamp.2) :
    (u.liveDomains cl = 0 ∨ l = [] →
      takeInval c h cl l v = u.fabSend h.src { plainPkt K.invalDone [] with tag := h.tag, rgen := h.rgen }) ∧
    (u.liveDomains cl ≠ 0 → l ≠ [] → takeInval c h cl l v = (u.modFab fun f =>
        { f with
          served := f.served ++ [(h.src, h.tag, h.rgen, (domainsOf (u.liveDomains cl)).map fun n => (n, l.length))]
          invRest := f.invRest ++ l.map fun x => ⟨⟨16384 + h.src, h.tag⟩, none, u.liveDomains cl, [x]⟩ }).servedRest) := by
  subst hu
  unfold takeInval
  rw [stamped_go hc]
  dsimp only
  exact ⟨fun e => if_pos (by simpa using e), fun e1 e2 => if_neg (by simp [e1, e2])⟩

/-- A range of a peer's invalidation that is complete at a domain. -/
theorem servedDone_eq {s : State} {src tag n g : Nat} {left : Tbl Nat}
    (h : (s.fab.served.find? fun x => x.1 = src && x.2.1 = tag) = some (src, tag, g, left)) :
    s.servedDone src tag n =
      if lessAt left n = [] then
        (s.modFab fun f => { f with served := s.fab.served.filter fun x => !(x.1 = src && x.2.1 = tag) }).fabSend src
          { plainPkt K.invalDone [] with tag := tag, rgen := g }
      else s.modFab fun f => { f with
        served := (s.fab.served.filter fun x => !(x.1 = src && x.2.1 = tag)) ++ [(src, tag, g, lessAt left n)] } := by
  unfold State.servedDone
  simp only [h, List.isEmpty_iff]

/-- Ranges of one each that wait are asked for as far as the tick has room. -/
theorem servedRest_singles {s : State} (h : ∀ x ∈ s.fab.invRest, x.ranges.length = 1) :
    s.servedRest = (s.modFab fun f =>
      { f with invTick := f.invTick + min s.invRoom f.invRest.length, invRest := f.invRest.drop s.invRoom }).emits
        ((s.fab.invRest.take s.invRoom).flatMap fun x => x.ranges.map fun y =>
          .coreInv ((domainsOf x.mask).map fun n => (n, s.gen n)) y.1 y.2 x.ref) := by
  have hsize : asksSize (s.fab.invRest.take s.invRoom) = min s.invRoom s.fab.invRest.length := by
    unfold asksSize
    have : (s.fab.invRest.take s.invRoom).map (fun x => x.ranges.length) = (s.fab.invRest.take s.invRoom).map fun _ => 1 :=
      List.map_congr_left fun x hx => h x (List.mem_of_mem_take hx)
    rw [this, List.map_const', List.sum_replicate_nat, List.length_take, Nat.mul_one]
  unfold State.servedRest
  rw [fitAsks_singles _ _ h]
  dsimp only
  rw [hsize]
  rfl

/-- A grant offered: its place among the grants held. -/
theorem takeOffer_go {v u : State} {c : Instr} {h : FabHdr} {b n r ctx : Nat} {f : Bool} {g : HeldGrant} (hc : v.canStamp = true)
    (hu : u = v.stamp.2)
    (hg : g = { dev := h.src, id := h.grant, ggen := h.ggen, base := b, size := n, rights := r, ctx := ctx, fence := f }) :
    (∀ i x, u.heldGrant h.src h.grant = some (i, x) →
      takeOffer c h b n r ctx f v = u.modFab fun y => { y with have_ := Tbl.put y.have_ i g }) ∧
    (∀ i, u.heldGrant h.src h.grant = none → u.heldPlace = some i →
      takeOffer c h b n r ctx f v = u.modFab fun y => { y with have_ := Tbl.put y.have_ i g }) ∧
    (u.heldGrant h.src h.grant = none → u.heldPlace = none → takeOffer c h b n r ctx f v = u.nakTo h E.peerDenied) := by
  subst hu hg
  unfold takeOffer
  rw [stamped_go hc]
  dsimp only
  exact ⟨fun i x e => by rw [e], fun i e1 e2 => by rw [e1, e2], fun e1 e2 => by rw [e1, e2]⟩

/-- A FENCE_UPD that can be stamped: a binding asks for the fence, any other updates the proxies of it. -/
theorem takeFenceUpd_go {v u : State} {c : Instr} {h : FabHdr} {value st code scope : Nat} (hc : v.canStamp = true)
    (hu : u = v.stamp.2) :
    (h.addr = 1 → (u.grant h.grant).enable = true → (u.grant h.grant).fence = true → (u.grant h.grant).holder = h.src →
      takeFenceUpd c h value st code scope v = u.notifyFence (fIndex (u.grant h.grant).target)) ∧
    (h.addr ≠ 1 → takeFenceUpd c h value st code scope v = u.fences.foldl (fun s x =>
      if x.2.proxy = some (h.src, h.grant) then
        (s.putFence x.1 (x.2.update value st code scope)).proxyEvent x.2 (x.2.update value st code scope)
      else s) u) := by
  subst hu
  unfold takeFenceUpd
  rw [stamped_go hc]
  dsimp only
  refine ⟨fun ha h1 h2 h3 => ?_, fun ha => ?_⟩
  · rw [if_pos ha, if_pos (by simp [h1, h2, h3])]
  · exact if_neg ha

/-- A core's answer to a command of this device. -/
theorem coreInvalidated_here {s : State} {r : CmdRef} {n : Nat} {c : Cmd} (hr : r.queue < 16384)
    (hc : (s.queue r.queue).cmdAt r.slot = some c) :
    Same [.queues] s (coreInvalidated r n (s.gen n) s) ∧
      ((coreInvalidated r n (s.gen n) s).queue r.queue).cmdAt r.slot =
        some (({ c with invAt := lessAt c.invAt n } : Cmd).afterInv s.time.bnd) := by
  have he : coreInvalidated r n (s.gen n) s =
      s.modRef r fun c => ({ c with invAt := lessAt c.invAt n } : Cmd).afterInv s.time.bnd := by
    unfold coreInvalidated
    rw [if_neg (by simp), if_pos hr]
    rfl
  have hslot : ∀ x : Cmd, (({ x with invAt := lessAt x.invAt n } : Cmd).afterInv s.time.bnd).slot = x.slot := fun x => by
    unfold Cmd.afterInv
    split
    · exact finish_slot _ _ _ _
    · rfl
  rw [he]
  exact ⟨same_of_frame (State.modQueue_frame _ _ _ (M := 16) rfl Frame.rfl) rfl, modRef_cmdAt hc hslot⟩

/-- What an INVALIDATE's answer ends. -/
theorem afterInv_result {c : Cmd} {now : Nat} (ho : hOpcode c.bytes = Op.invalidate) (hr : c.result = none) :
    (c.afterInv now).result = (if c.invIssued = true ∧ c.invAt = [] ∧ c.invLeft = 0 then some E.ok else none) := by
  unfold Cmd.afterInv Cmd.invDone
  by_cases h : c.invIssued = true ∧ c.invAt = [] ∧ c.invLeft = 0
  · rw [if_pos h, if_pos (by simp [ho, h])]
    exact (finish_result hr _ _ _).1
  · rw [if_neg h, if_neg, hr]
    simpa [ho] using h

/-- Settles O56: each row by its delivery, then its kind's effect. -/
theorem deliveredPacketsAct : Obligations.DeliveredPacketsAct := by
  refine ⟨fun s v h d m hd => ⟨fun hg hw hq => ?_, fun hg => ?_⟩, fun s v h n hd => ⟨fun hg hw => ?_, fun hg => ?_⟩,
    fun s v h d m r hd hr => ⟨fun hg => ?_, fun hg hl hc => ?_⟩, fun s v h code r hd hr hg hc => ?_,
    fun s v u h code w hd hr hw hg hc hu => ?_,
    fun s r u code c hc => ⟨fun hr => loseUnit_running hc hr u code, fun hr he => loseUnit_ended hc hr he u code⟩,
    fun s v h valid upTo l hd hl => ⟨fun hc => ?_, fun hc => ?_⟩, fun s v h valid counts hd hf => ?_,
    fun s v h l a0 a1 a2 a3 keep hd hf hw hl hk => ?_, fun s d t ht => ⟨fun h => ?_, fun h hch => ?_, fun h hch hc => ?_⟩,
    fun s v u h value code scope st hd hc hu => ⟨fun ha h1 h2 h3 => ?_, fun ha => ?_⟩, fence_update,
    fun s v u h cl l hd hc hu => ⟨fun e => ?_, fun e1 e2 => ?_⟩, fun s v u h r cl hd hf hg hc hu => ?_,
    fun s r n gen c hg hr hc => ?_, fun c now ho hr => afterInv_result ho hr, fun s r n gen hg => ?_,
    fun s r n gen src g left hg hr hf => ?_, fun s v u h b n r ctx f g hd hc hu hg => ⟨fun i x e => ?_, fun i e1 e2 => ?_, fun e1 e2 => ?_⟩,
    fun s v h hd hc => ?_, fun s v h g d hd => delivered_to hd rfl rfl rfl, fun s v h g a hd => delivered_to hd rfl rfl rfl,
    fun s v u h g t r ch dir d hd hc hu => ⟨fun c e => ?_, fun e => ?_⟩,
    fun s v u h g t r m hd hc hu => ⟨fun e => ?_, fun c cmd e hcmd hm => ?_⟩, fun s h => servedRest_singles h⟩
  · refine delivered_to hd rfl rfl ((if_pos hg).trans ?_)
    unfold serveWrite
    rw [uncached_none hw, disturb_quiet none hq]
  · exact delivered_to hd rfl rfl (if_neg (by simp [hg]))
  · refine delivered_to hd rfl rfl ((if_pos hg).trans ?_)
    unfold serveRead
    rw [uncached_none hw]
  · exact delivered_to hd rfl rfl (if_neg (by simp [hg]))
  · refine delivered_to hd rfl rfl ?_
    unfold takeRdata
    simp only [hr]
    rw [if_pos hg]
  · refine delivered_to hd rfl rfl ?_
    unfold takeRdata
    simp only [hr]
    rw [if_neg (by simp [hg]), if_neg (by simp [hl]), stamped_go hc]
  · refine delivered_to hd rfl rfl ?_
    unfold takeNak
    simp only [hr]
    rw [if_neg (by simp [hg]), stamped_go hc]
  · refine delivered_to hd rfl rfl ?_
    unfold takeNak
    simp only [hr, hw]
    rw [if_neg (by simp [hg]), stamped_go hc, hu]
  · exact (delivered_plain hd (.inl rfl) rfl).trans (congrArg Host.Outcome.next ((takeAck_eq hl).1 hc))
  · exact (delivered_plain hd (.inl rfl) rfl).trans (congrArg Host.Outcome.next ((takeAck_eq hl).2 hc))
  · exact (delivered_plain hd (.inr rfl) rfl).trans (congrArg Host.Outcome.next (takePfack_none hf _))
  · refine goes_to ((delivered_plain hd (.inr rfl) rfl).trans (congrArg Host.Outcome.next (takePfack_eq hf hw hl hk)))
      ⟨_, rfl, fun y hy => ?_⟩
    exact (List.mem_filter.mp hy).1
  · exact congrArg Host.Outcome.next ((ackTimeout_eq ht).trans (if_pos h))
  · exact congrArg Host.Outcome.next ((ackTimeout_eq ht).trans ((if_neg (by omega)).trans (if_neg (by omega))))
  · exact congrArg Host.Outcome.next ((ackTimeout_eq ht).trans ((if_neg (by omega)).trans ((if_pos hch).trans (stamped_go hc))))
  · exact delivered_to hd rfl rfl ((takeFenceUpd_go hc hu).1 ha h1 h2 h3)
  · exact delivered_to hd rfl rfl ((takeFenceUpd_go hc hu).2 ha)
  · exact delivered_to hd rfl rfl ((takeInval_go hc hu).1 e)
  · exact delivered_to hd rfl rfl ((takeInval_go hc hu).2 e1 e2)
  · refine delivered_to hd rfl rfl ?_
    unfold takeInvalDone
    simp only [hf]
    rw [if_neg (by simp [hg]), stamped_go hc, hu]
  · subst hg
    exact goes_to rfl (coreInvalidated_here hr hc)
  · exact congrArg Host.Outcome.next (if_pos hg)
  · subst hg
    refine congrArg Host.Outcome.next ?_
    show coreInvalidated r n.val (s.gen n.val) s = _
    unfold coreInvalidated
    rw [if_neg (by simp), if_neg (by omega), hr, Nat.add_sub_cancel_left]
    exact servedDone_eq hf
  · exact delivered_to hd rfl rfl ((takeOffer_go hc hu hg).1 i x e)
  · exact delivered_to hd rfl rfl ((takeOffer_go hc hu hg).2.1 i e1 e2)
  · exact delivered_to hd rfl rfl ((takeOffer_go hc hu hg).2.2 e1 e2)
  · exact delivered_to hd rfl rfl (stamped_go hc)
  · refine delivered_to hd rfl rfl ?_
    unfold collData
    rw [stamped_go hc, ← hu, e]
  · refine delivered_to hd rfl rfl ?_
    unfold collData
    rw [stamped_go hc, ← hu, e]
  · refine delivered_to hd rfl rfl ?_
    unfold Machine.collCtl
    rw [stamped_go hc, ← hu, e]
  · refine delivered_to hd rfl rfl ?_
    unfold Machine.collCtl
    rw [stamped_go hc, ← hu, e, hm]
    unfold State.collTake
    simp only [hcmd]

end Sys2Proof.Laws
end

section
/-! Caching agents. -/
namespace Sys2Proof.Laws

open Sys2Proof Sys2Proof.Machine

set_option maxRecDepth 8000

/-- Only the remote line cache makes room for a line. -/
theorem evict_none {s : State} {a : Agent} {x : AgentLine} (he : x.state = .i → a ≠ .cache) (ctx : Nat) :
    (if x.state = .i then s.evictFor a ctx State.evictLine else s) = s := by
  split
  · unfold State.evictFor
    simp [he ‹_›]
  · rfl

/-- An access of an agent that may use a bank, or needs none, at a line in no passing state. -/
theorem agentRead_banked {s : State} {a : Agent} {ctx home line : Nat} {x : AgentLine} (hb : s.banked a ctx = true)
    (hx : x = s.aline a home line) (he : x.state = .i → a ≠ .cache)
    (hst : x.state = .i ∨ x.state = .s ∨ x.state = .e ∨ x.state = .o ∨ x.state = .m) :
    agentRead a ctx home line s = s.settleAline { x with reads := x.reads + 1, ctx := ctx } := by
  unfold agentRead
  rw [if_neg (by simp [hb])]
  dsimp only
  rw [← hx, evict_none he]
  rcases hst with e | e | e | e | e <;> simp only [e]

theorem agentWrite_banked {s : State} {a : Agent} {ctx home line off : Nat} {d : List Byte} {x : AgentLine} (hb : s.banked a ctx = true)
    (hx : x = s.aline a home line) (he : x.state = .i → a ≠ .cache)
    (hst : x.state = .i ∨ x.state = .s ∨ x.state = .e ∨ x.state = .o ∨ x.state = .m) :
    agentWrite a ctx home line off d s = s.settleAline { x with stores := x.stores ++ [(off, d)], ctx := ctx } := by
  unfold agentWrite
  rw [if_neg (by simp [hb])]
  dsimp only
  rw [← hx, evict_none he]
  rcases hst with e | e | e | e | e <;> simp only [e]

/-- A valid line with no store waiting answers its reads. -/
theorem settle_reads {s : State} {x : AgentLine} (hst : x.state = .s ∨ x.state = .e ∨ x.state = .o ∨ x.state = .m) (hs : x.stores = []) :
    s.settleAline x = (s.emits (List.replicate x.reads (.agentData x.agent x.home x.line x.data x.marks))).setAline { x with reads := 0 } := by
  unfold State.settleAline
  rcases hst with e | e | e | e <;> simp [e, hs]

/-- An invalid line asks the home for what waits. -/
theorem settle_i_read {s : State} {x : AgentLine} (hst : x.state = .i) (hs : x.stores = []) (hr : 0 < x.reads) :
    s.settleAline x = (s.setAline { x with state := .isD }).toHome x .rds [] 0 0 false := by
  unfold State.settleAline
  simp [hst, hs, hr]

theorem settle_i_store {s : State} {x : AgentLine} (hst : x.state = .i) (hs : x.stores ≠ []) :
    s.settleAline x = (s.setAline { x with state := .imD }).toHome x .rdx [] 0 0 false := by
  unfold State.settleAline
  simp [hst, hs]

/-- One store at a line held alone is done; at a shared line it asks for the ownership. -/
theorem settle_store_own {s : State} {x : AgentLine} {off : Nat} {d : List Byte} (hst : x.state = .e ∨ x.state = .m)
    (hs : x.stores = [(off, d)]) (hr : x.reads = 0) :
    s.settleAline x = s.setAline { x with
      data := overlay x.data off d, marks := storeMarks x.marks off d.length, state := .m, stores := [] } := by
  unfold State.settleAline
  rcases hst with e | e <;> simp [e, hs, hr, emits_nil, AgentLine.store]

theorem settle_store_shared {s : State} {x : AgentLine} (hs : x.stores ≠ []) (hr : x.reads = 0) :
    (x.state = .s → s.settleAline x = (s.setAline { x with state := .smO }).toHome x .upg [] 0 0 false) ∧
    (x.state = .o → s.settleAline x = (s.setAline { x with state := .omO }).toHome x .upg [] 0 0 false) := by
  have hx : { x with reads := 0 } = x := by rw [← hr]
  unfold State.settleAline
  constructor <;> intro e <;> simp [e, hs, hr, emits_nil]
  · rfl
  · rfl

/-- A message of the home that a line defers. -/
theorem asked_deferred {i : Instr} {s v : State} {via : Option FabHdr} {a : Agent} {op : CohOp} {m : CohMsg} {x : AgentLine}
    (hp : cohParts i = some (via, op, fun s => s.agentAsked a m)) (hk : cohKind op = K.cohReq) (hc : Comes s via K.cohReq v)
    (hx : x = v.aline a m.home m.line) (hd : x.defers m = true) :
    exec i s = .next ((v.setAline { x with deferred := x.deferred ++ [m] }).acked via) := by
  refine comes_to hp hk hc ?_
  unfold State.agentAsked
  dsimp only
  rw [← hx, if_pos hd]

/-- A message of the home that a line takes. -/
theorem asked_taken {i : Instr} {s v w : State} {via : Option FabHdr} {a : Agent} {op : CohOp} {m : CohMsg} {x : AgentLine}
    (hp : cohParts i = some (via, op, fun s => s.agentAsked a m)) (hk : cohKind op = K.cohReq) (hc : Comes s via K.cohReq v)
    (hx : x = v.aline a m.home m.line) (hd : x.defers m = false) (hw : v.agentTake x m false = w) : exec i s = .next (w.acked via) := by
  refine comes_to hp hk hc ?_
  unfold State.agentAsked
  dsimp only
  rw [← hx, if_neg (by simp [hd]), hw]

/-- The states in which a line defers. -/
theorem defers_of {x : AgentLine} (h : x.state = .isD ∨ x.state = .imD ∨ x.state = .imA true ∨ x.state = .imA false ∨ x.state = .xmG ∨
      (x.hold = true ∧ (x.state = .s ∨ x.state = .e ∨ x.state = .o ∨ x.state = .m))) (m : CohMsg) : x.defers m = true := by
  unfold AgentLine.defers
  rcases h with e | e | e | e | e | ⟨hh, e | e | e | e⟩
  case inr.inr.inr.inr.inr.inl | inr.inr.inr.inr.inr.inr.inl => simp [e, hh]
  all_goals simp [*]

theorem defers_not {x : AgentLine} (hh : x.hold = false) (h : x.state = .s ∨ x.state = .smO ∨ x.state = .e ∨ x.state = .o ∨ x.state = .m ∨
      x.state = .eiA ∨ x.state = .oiA ∨ x.state = .miA) (m : CohMsg) : x.defers m = false := by
  unfold AgentLine.defers
  rcases h with e | e | e | e | e | e | e | e <;> simp only [e, hh]

theorem defers_i {x : AgentLine} (h : x.state = .i) (m : CohMsg) : x.defers m = false := by
  unfold AgentLine.defers
  simp only [h]

/-- An eviction, by the line's state. -/
theorem agentEvict_of {s : State} {a : Agent} {home line : Nat} {x : AgentLine} (hx : x = s.aline a home line) :
    agentEvict a home line s = s.evictLine x := by rw [hx]; rfl

/-- Data in a state that does not expect it. -/
theorem takeData_unexpected {v : State} {a : Agent} {h l : Nat} {op : CohOp} {x : AgentLine} (hx : x = v.aline a h l)
    (h1 : x.state ≠ .isD) (h2 : x.state ≠ .imD) (d : List Byte) (m : Nat) (b : Bool) : v.takeData a h l op d m b = v.protoError := by
  unfold State.takeData
  rw [← hx]
  cases hs : x.state <;> simp_all [State.unexpected]

/-- Settles O57: each message by the state of the agent's line. -/
theorem coherentAgentsAct : Obligations.CoherentAgentsAct := by
  refine ⟨fun s a ctx home line x hb hx => ⟨fun hst hs => ?_, fun hst ha hs => ?_, fun hst ha off d => ?_, fun hst hs hr off d => ?_,
      fun hst hs hr off d => ?_, fun hst hs hr off d => ?_, fun hst => ?_, fun hst => ?_, fun hst => ?_, fun hst => ?_, fun hh => ?_⟩,
    fun s ctx home line hb => ⟨?_, fun off d => ?_⟩, fun s home h => ?_, fun s home h => ?_,
    fun s v via a h l r o x hc hx => ⟨fun hst => ?_, fun hst => ?_, fun hh hst => ?_, fun hh hst => ?_, fun hh hst => ?_, fun hh hst ho => ?_,
      fun hh hst ho => ?_, fun hh hst ho => ?_, fun hh hst => ?_, fun hh hst => ?_, fun hh hst => ?_⟩,
    fun s v via a h l d m x y hc hx hy => ⟨fun hst => ?_, fun hst => ?_, fun h1 h2 b => ?_⟩,
    fun s v via a h l x hc hx => ⟨fun hst => ?_, fun hst => ?_, fun hst => ?_, fun hst => ?_, fun hst => ?_, fun hst ho => ?_,
      fun hst ho => ?_, fun hst => ?_, fun hst hg => ?_, fun hst => ?_⟩⟩
  · refine congrArg Host.Outcome.next ((agentRead_banked hb hx (fun e => by simp [e] at hst) (.inr hst)).trans ?_)
    exact settle_reads hst hs
  · refine congrArg Host.Outcome.next ((agentRead_banked hb hx (fun _ => ha) (.inl hst)).trans ?_)
    exact settle_i_read hst hs (Nat.succ_pos _)
  · refine congrArg Host.Outcome.next ((agentWrite_banked hb hx (fun _ => ha) (.inl hst)).trans ?_)
    exact settle_i_store hst (by simp)
  · refine congrArg Host.Outcome.next ((agentWrite_banked hb hx (fun e => by simp [e] at hst) (.inr (.inr (hst.imp_right .inr)))).trans ?_)
    refine (settle_store_own (off := off) (d := d) (x := { x with stores := x.stores ++ [(off, d)], ctx := ctx }) hst (by simp [hs]) hr).trans ?_
    rw [← hs]
  · refine congrArg Host.Outcome.next ((agentWrite_banked hb hx (fun e => by simp [e] at hst) (by simp [hst])).trans ?_)
    refine ((settle_store_shared (x := { x with stores := x.stores ++ [(off, d)], ctx := ctx }) (by simp) hr).1 hst).trans ?_
    rw [hs]
    rfl
  · refine congrArg Host.Outcome.next ((agentWrite_banked hb hx (fun e => by simp [e] at hst) (by simp [hst])).trans ?_)
    refine ((settle_store_shared (x := { x with stores := x.stores ++ [(off, d)], ctx := ctx }) (by simp) hr).2 hst).trans ?_
    rw [hs]
    rfl
  iterate 4
    refine congrArg Host.Outcome.next ((agentEvict_of hx).trans ?_)
    unfold State.evictLine
    simp only [hst]
  · refine congrArg Host.Outcome.next ?_
    show winHoldExpiry a home line s = _
    unfold winHoldExpiry
    dsimp only
    rw [← hx, if_pos hh]
  · exact congrArg Host.Outcome.next (if_pos (by simp [hb]))
  · exact congrArg Host.Outcome.next (if_pos (by simp [hb]))
  · refine congrArg Host.Outcome.next (if_pos ?_)
    obtain ⟨x, hx, h1, h2, h3, h4⟩ := h
    rw [List.any_eq_true]
    exact ⟨x, hx, by simp [h1, h2, h3, h4]⟩
  · refine congrArg Host.Outcome.next (if_neg ?_)
    rw [Bool.not_eq_true, List.any_eq_false]
    intro x hx e
    simp only [Bool.and_eq_true, decide_eq_true_eq, ge_iff_le] at e
    obtain ⟨⟨⟨h1, h2⟩, h3⟩, h4⟩ := e
    have := h x hx h1 h2 h3
    omega
  · exact ⟨asked_deferred rfl rfl hc hx (defers_of hst _), asked_deferred rfl rfl hc hx (defers_of hst _),
      asked_deferred rfl rfl hc hx (defers_of hst _), asked_deferred rfl rfl hc hx (defers_of hst _),
      asked_deferred rfl rfl hc hx (defers_of hst _)⟩
  · refine ⟨?_, ?_, ?_, ?_, ?_⟩ <;> refine asked_taken rfl rfl hc hx (defers_i hst _) ?_ <;> unfold State.agentTake <;>
      simp only [askMsg, hst]
  · have hd := defers_not hh (.inl hst)
    refine ⟨?_, ?_, ?_⟩ <;> refine asked_taken rfl rfl hc hx (hd _) ?_ <;> unfold State.agentTake <;> simp only [askMsg, hst]
  · refine asked_taken rfl rfl hc hx (defers_not hh (by simp [hst]) _) ?_
    unfold State.agentTake
    simp only [askMsg, hst]
  · have hd := defers_not hh (by rcases hst with e | e | e <;> simp [e])
    refine ⟨?_, ?_, ?_⟩ <;> refine asked_taken rfl rfl hc hx (hd _) ?_ <;> unfold State.agentTake <;>
      rcases hst with e | e | e <;> simp only [askMsg, e]
  · refine asked_taken rfl rfl hc hx (defers_not hh (by simp [hst]) _) ?_
    unfold State.agentTake
    simp only [askMsg, hst, ho, Bool.false_eq_true, if_false]
  · refine asked_taken rfl rfl hc hx (defers_not hh (by rcases hst with e | e <;> simp [e]) _) ?_
    unfold State.agentTake
    rcases hst with e | e <;> simp only [askMsg, e, ho, Bool.false_eq_true, if_false]
  · refine asked_taken rfl rfl hc hx (defers_not hh (by rcases hst with e | e <;> simp [e]) _) ?_
    unfold State.agentTake
    rcases hst with e | e <;> simp only [askMsg, e, ho, if_true]
  · refine asked_taken rfl rfl hc hx (defers_not hh (by rcases hst with e | e <;> simp [e]) _) ?_
    unfold State.agentTake
    rcases hst with e | e <;> simp only [askMsg, e]
  · refine asked_taken rfl rfl hc hx (defers_not hh (by simp [hst]) _) ?_
    unfold State.agentTake
    simp only [askMsg, hst]
  · have hd := defers_not hh (by rcases hst with e | e | e <;> simp [e])
    refine ⟨?_, ?_, ?_⟩ <;> refine asked_taken rfl rfl hc hx (hd _) ?_ <;> unfold State.agentTake <;>
      rcases hst with e | e | e <;> simp only [askMsg, e]
  · subst hy
    refine ⟨?_, ?_, ?_, ?_, ?_, ?_, ?_⟩ <;> refine comes_to rfl rfl hc ?_ <;> unfold State.takeData <;> rw [← hx] <;>
      simp only [hst] <;> rfl
  · subst hy
    refine ⟨?_, ?_, ?_⟩ <;> refine comes_to rfl rfl hc ?_ <;> unfold State.takeData <;> rw [← hx] <;> simp only [hst] <;> rfl
  · exact ⟨comes_to rfl rfl hc (takeData_unexpected hx h1 h2 d _ b), comes_to rfl rfl hc (takeData_unexpected hx h1 h2 d _ b),
      comes_to rfl rfl hc (takeData_unexpected hx h1 h2 d _ b), comes_to rfl rfl hc (takeData_unexpected hx h1 h2 d _ b)⟩
  · refine comes_to rfl rfl hc ?_
    unfold State.takeAck
    rw [← hx]
    simp only [hst]
    rfl
  · refine comes_to rfl rfl hc ?_
    unfold State.takeAck
    rw [← hx]
    simp only [hst]
    rfl
  · refine comes_to rfl rfl hc ?_
    unfold State.takeAck
    rw [← hx]
    rcases hst with e | e <;> simp only [e]
  · refine comes_to rfl rfl hc ?_
    unfold State.takeAck
    rw [← hx]
    simp only [hst]
    rfl
  · refine comes_to rfl rfl hc ?_
    unfold State.takeAck
    rw [← hx]
    rcases hst with e | e | e | e <;> simp only [e]
  · refine comes_to rfl rfl hc ?_
    unfold State.takeAck
    rw [← hx]
    simp only [hst, ho, Bool.false_eq_true, if_false]
  · refine comes_to rfl rfl hc ?_
    unfold State.takeAck
    rw [← hx]
    simp only [hst, ho, if_true]
  · refine comes_to rfl rfl hc ?_
    unfold State.takeAck
    rw [← hx]
    simp only [hst]
  · refine comes_to rfl rfl hc ?_
    unfold State.takeAck
    rw [← hx]
    simp only [hst, hg, Bool.false_eq_true, if_false]
  · refine ⟨?_, ?_, ?_, ?_, ?_, ?_⟩ <;> refine comes_to rfl rfl hc ?_ <;> unfold State.takeAck <;> rw [← hx] <;>
      simp only [hst] <;> rfl

end Sys2Proof.Laws
end

section
/-! Coherence homes and CXL.mem. -/
namespace Sys2Proof.Laws

open Sys2Proof Sys2Proof.Machine

set_option maxRecDepth 8000

/-- A request or Put that a home does not take: no window, no grant, no agent of the window, or an agent that is dead. -/
theorem homeTakes_noWindow {s : State} {l : Nat} (hw : s.window l = none) (via : Option FabHdr) (src : Nat) (op : CohOp)
    (k : Obj → State → State) : s.homeTakes via src l op k = s.protoError := by
  unfold State.homeTakes
  rw [hw]

theorem homeTakes_noGrant {s : State} {l : Nat} {o : Obj} {h : FabHdr} {op : CohOp} (hw : s.window l = some o)
    (hg : s.grantOk h 128 (cohRight op) = false) (src : Nat) (k : Obj → State → State) :
    s.homeTakes (some h) src l op k = s.nakTo h E.peerDenied := by
  unfold State.homeTakes
  rw [hw]
  simp [hg]

theorem homeTakes_granted {s : State} {l : Nat} {o : Obj} {via : Option FabHdr} {op : CohOp} (hw : s.window l = some o)
    (hg : ∀ h, via = some h → s.grantOk h 128 (cohRight op) = true) (src : Nat) (k : Obj → State → State) :
    s.homeTakes via src l op k =
      if !s.admits o src then s.protoError else if s.stillDead src then s else k o (s.reviveAgent src) := by
  unfold State.homeTakes
  rw [hw]
  cases via with
  | none => rfl
  | some h => simp [hg h rfl]

/-- The row of a request or a Put whose outcome at the home is known. -/
theorem home_row {s v w : State} {via : Option FabHdr} {c : Instr} {op : CohOp} {src l : Nat} {k : Obj → State → State}
    (hp : cohParts c = some (via, op, fun s => s.homeTakes via src l op k)) (hk : cohKind op = K.cohReq) (hc : Comes s via K.cohReq v)
    (hw : v.homeTakes via src l op k = w) : exec c s = .next (w.acked via) := comes_to hp hk hc hw

/-- A caching request at an entry, by what the entry is doing. -/
theorem request1_cases {s : State} {l r : Nat} {o : Obj} {op : CohOp} {e : DirEntry} (he : e = s.dirE l) :
    (e.blocked.isSome = true ∨ e.queue ≠ [] →
      s.request1 l o op r = s.setDir l { e with queue := e.queue ++ [.caching op r o.owner] }) ∧
    (e.blocked = none → e.queue = [] → s.hostFirst o e op r = true →
      s.request1 l o op r = s.setDir l { e with queue := [.block (.forAgent op r o.owner)] }) ∧
    (e.blocked = none → e.queue = [] → s.hostFirst o e op r = false → e.state ≠ .i → s.request1 l o op r = s.serve l o op r) ∧
    (e.blocked = none → e.queue = [] → s.hostFirst o e op r = false → e.state = .i → (s.setEntries o.owner l).length < 16 →
      s.request1 l o op r = ((s.modCoh fun c => { c with nextAge := s.coh.nextAge + 1 }).modDir l fun e =>
        { e with ctx := o.owner, age := s.coh.nextAge, pred := 0 }).serve l o op r) := by
  unfold State.request1
  dsimp only
  rw [← he]
  refine ⟨fun h => ?_, fun h1 h2 h3 => ?_, fun h1 h2 h3 h4 => ?_, fun h1 h2 h3 h4 h5 => ?_⟩
  · rw [if_pos (by simpa using h)]
  · rw [if_neg (by simp [h1, h2]), if_pos h3]
  · rw [if_neg (by simp [h1, h2]), if_neg (by simp [h3]), if_neg h4]
  · rw [if_neg (by simp [h1, h2]), if_neg (by simp [h3]), if_pos h4, if_neg (by omega)]

/-- RdS of an agent that holds no copy, at an entry that nobody or sharers hold. -/
theorem serve_rds {s w : State} {l r : Nat} {o : Obj} {e : DirEntry} (he : e = s.dirE l)
    (hw : w = s.setDir l (e.predict s.coh.predOn .rds r)) (hr : r ∉ e.ptrs) :
    (e.state = .i → s.serve l o .rds r = (w.sendLine r .datae l true).modDir l fun e => e.toX r) ∧
    (e.state = .s → s.serve l o .rds r =
      (w.sendLine r .datas l true).modDir l fun e => e.addSharer r (w.agentRank o) (decide (s.domainSize o ≤ 64))) := by
  subst hw
  unfold State.serve
  dsimp only
  rw [← he]
  constructor <;> intro hs <;> simp [hs, hr]

/-- RdX of an agent that does not own the line. -/
theorem serve_rdx {s w : State} {l r : Nat} {o : Obj} {e : DirEntry} (he : e = s.dirE l)
    (hw : w = s.setDir l (e.predict s.coh.predOn .rdx r)) (hr : e.owner ≠ some r) : s.serve l o .rdx r = w.serveRdx l o r := by
  subst hw
  unfold State.serve
  dsimp only
  rw [← he]
  simp [hr]

/-- Upg of an agent that holds a copy. -/
theorem serve_upg {s w : State} {l r : Nat} {o : Obj} {e : DirEntry} (he : e = s.dirE l)
    (hw : w = s.setDir l (e.predict s.coh.predOn .upg r))
    (h : (e.state = .s ∧ e.holds r = true) ∨ (e.state = .o ∧ e.owner = some r)) : s.serve l o .upg r = w.serveUpg l o r := by
  subst hw
  unfold State.serve
  dsimp only
  rw [← he]
  rcases h with ⟨h1, h2⟩ | ⟨h1, h2⟩ <;> simp [h1, h2]

/-- RdX at an entry that nobody owns. -/
theorem serveRdx_free {s : State} {l r : Nat} {o : Obj} (h : (s.dirE l).owner = none) :
    (s.others o (s.dirE l) r = [] → s.serveRdx l o r = (s.sendLine r .datae l true).modDir l fun e => e.toX r) ∧
    (s.others o (s.dirE l) r ≠ [] → s.serveRdx l o r =
      (((s.sendLine r .datae l false).newTrans l (.ackDone r)).2.modDir l fun e => e.toX r).askAll l (s.others o (s.dirE l) r) .inv r
        ((s.sendLine r .datae l false).newTrans l (.ackDone r)).1) := by
  unfold State.serveRdx
  simp only [h]
  exact ⟨fun e => if_pos (by simp [e]), fun e => if_neg (by simp [e])⟩

/-- A Put: of what its agent no longer holds or is asked for, of data, or of a clean line. -/
theorem takePut_cases (s : State) (l src : Nat) (op : CohOp) (d : List Byte) (m : Nat) :
    ((s.dirE l).holds src = false ∨ (∃ a ∈ (s.dirE l).awaits, a.agent = src) → s.takePut l src op d m =
      (s.tellAgent src .stalePutAck l).modCoh fun c => { c with stalePut := satAdd 65535 c.stalePut 1 }) ∧
    ((s.dirE l).holds src = true → (∀ a ∈ (s.dirE l).awaits, a.agent ≠ src) → op = .putm ∨ op = .puto → s.takePut l src op d m =
      ((((s.setMem (s.mem.putLine l d m)).setDir l ((s.dirE l).remove src)).tellAgent src .putAck l).retryFull)) ∧
    ((s.dirE l).holds src = true → (∀ a ∈ (s.dirE l).awaits, a.agent ≠ src) → op = .puts ∨ op = .pute → s.takePut l src op d m =
      (((s.setDir l ((s.dirE l).remove src)).tellAgent src .putAck l).retryFull)) := by
  unfold State.takePut
  dsimp only
  refine ⟨fun h => if_pos ?_, fun h1 h2 h3 => ?_, fun h1 h2 h3 => ?_⟩
  · simpa using h
  · rw [if_neg (by simpa [h1] using h2), if_pos (by simpa using h3)]
  · rw [if_neg (by simpa [h1] using h2), if_neg (by rcases h3 with e | e <;> simp [e])]

/-- An answer that nobody awaits. -/
theorem answers_none {u : State} {l src : Nat} (h : ∀ a ∈ (u.dirE l).awaits, a.agent ≠ src) :
    u.takeInvAck l src = u.protoError ∧ (∀ d m k, u.takeSnpRsp l src d m k = u.protoError) ∧ u.takeMiss l src = u.protoError := by
  have hinv : u.takeInvAck l src = u.protoError := by
    unfold State.takeInvAck
    rw [awaited_none fun a ha => by simp [h a ha]]
  refine ⟨hinv, fun d m k => ?_, ?_⟩
  · unfold State.takeSnpRsp
    rw [awaited_none fun a ha => by simp [h a ha]]
  · unfold State.takeMiss
    rw [awaited_none fun a ha => by simp [h a ha]]
    exact hinv

theorem takeFwdDone_none {u : State} {l r : Nat} (h : ∀ a ∈ (u.dirE l).awaits, a.req ≠ r) (src : Nat) (k : FwdKind) :
    u.takeFwdDone l src r k = u.protoError := by
  unfold State.takeFwdDone
  rw [awaited_none fun a ha => by simp [h a ha]]

/-- FwdDone of a transaction that the line awaits. -/
theorem takeFwdDone_kept {u : State} {l src r : Nat} {a : Await} {o : Obj}
    (ha : ((u.dirE l).awaited fun a => a.req = r && (a.kind = .fwds || a.kind = .fwdx)) = some a) (hw : u.window l = some o)
    (ho : aOwner o.attr = false) : u.takeFwdDone l src r .keep = u.answered l a := by
  unfold State.takeFwdDone
  simp [ha, hw, ho]

theorem takeFwdDone_gone {u : State} {l src r : Nat} {a : Await} {o : Obj}
    (ha : ((u.dirE l).awaited fun a => a.req = r && (a.kind = .fwds || a.kind = .fwdx)) = some a) (hw : u.window l = some o)
    (ho : aOwner o.attr = true) :
    u.takeFwdDone l src r .gone = (((u.modDir l fun e => e.toX r).tellAgent src .fwdDoneAck l).answered l a) := by
  unfold State.takeFwdDone
  simp [ha, hw, ho]

/-- A Miss in place of a recalled line poisons it. -/
theorem takeMiss_recall {u : State} {l src : Nat} {a : Await}
    (ha : ((u.dirE l).awaited fun a => a.agent = src && a.kind ≠ .inv) = some a) (hk : a.kind = .snpRecall) :
    u.takeMiss l src = ((u.poisonLine l).modDir l fun e => if e.ptrs.contains src then e.remove src else e).answered l a := by
  unfold State.takeMiss
  rw [ha]
  dsimp only
  rw [if_neg (by simp [hk])]
  simp only [hk]

/-- An agent that has been asked and does not answer. -/
theorem homeTimeout_due {s : State} {a : Nat} (hd : ∃ e ∈ s.coh.dir, ∃ w ∈ e.2.awaits, w.agent = a ∧ w.sentAt + 5 ≤ s.time.bnd)
    (hn : a ∉ s.coh.dead) (hh : isHost a = false ∨ (s.port (Side.ofBool (a % 2 = 1))).holding = false) :
    Machine.homeTimeout a s = s.stamped (.homeTimeout a) fun st s => s.declareDead st a := by
  obtain ⟨e, he, w, hw, h1, h2⟩ := hd
  unfold Machine.homeTimeout
  dsimp only
  have hdue : (s.coh.dir.any fun (_, e) => e.awaits.any fun w => w.agent = a && decide (s.time.bnd ≥ w.sentAt + 5)) = true := by
    rw [List.any_eq_true]
    refine ⟨e, he, ?_⟩
    rw [List.any_eq_true]
    exact ⟨w, hw, by simp [h1, h2]⟩
  rw [hdue, if_pos]
  rcases hh with hh | hh <;> simp [hh, hn]

theorem homeTimeout_early {s : State} {a : Nat} (h : ∀ e ∈ s.coh.dir, ∀ w ∈ e.2.awaits, w.agent = a → s.time.bnd < w.sentAt + 5) :
    Machine.homeTimeout a s = s := by
  unfold Machine.homeTimeout
  dsimp only
  have hdue : (s.coh.dir.any fun (_, e) => e.awaits.any fun w => w.agent = a && decide (s.time.bnd ≥ w.sentAt + 5)) = false := by
    rw [List.any_eq_false]
    intro e he
    rw [Bool.not_eq_true, List.any_eq_false]
    intro w hw hx
    simp only [Bool.and_eq_true, decide_eq_true_eq, ge_iff_le] at hx
    have := h e he w hw hx.1
    omega
  rw [hdue]
  simp

/-- A blocking operation at the head of a free entry's queue. -/
theorem startBlock_head {s : State} {l : Nat} {o : Obj} {b : BlockOp} {t : List LineReq} (hb : (s.dirE l).blocked = none)
    (ha : (s.dirE l).awaits = []) (hq : (s.dirE l).queue = .block b :: t) (hw : s.window l = some o) :
    s.startBlock l =
      if b.allocates && (s.dirE l).state = .i && decide ((s.setEntries o.owner l).length ≥ 16) then s.makeRoom o.owner l
      else ((s.setDir l { s.dirE l with blocked := some b, ready := false, queue := t }).beginBlock l o b).finishBlock l := by
  unfold State.startBlock
  simp [hb, ha, hq, hw]

/-- A CXL.mem access to a decoder without an HDM region. -/
theorem hostRequest_nowhere {s : State} {p : Side} {dec addr : Nat} (hu : (s.port p).up = true) (hx : (s.port p).cxl = true)
    (hh : s.hdmLine p dec addr = none) (r : HostReq) :
    hostRequest p dec addr r s = match r with
      | .memRd _ | .memRdData _ => (s.emit (.cxlCmp p addr false 0)).emit (.cxlData p addr false (List.replicate 64 0) true)
      | _ => s.emit (.cxlCmp p addr false 0) := by
  unfold hostRequest
  simp only [hu, hx, hh]
  rfl

/-- What an admitted CXL.mem request makes of its line. -/
def hostActs (p : Side) (l : Nat) (half : Bool) (r : HostReq) (u : State) : State :=
  let e := u.dirE l
  let mine := fun (b : BlockOp) => match b with | .host q h _ => q = p && h = half | _ => false
  let earlier := (match e.blocked with | some b => mine b | none => false) ||
    e.queue.any fun q => match q with | .block b => mine b | _ => false
  match r with
  | .memWr _ d bad =>
    if e.awaits.any fun w => w.agent = ptrHost p then ((if bad then u.aerAdvisory p else u).hostPut l half d bad).emit (.cxlCmp p l half 0)
    else u.modDir l fun e => { e with queue := e.queue ++ [.block (.host p half r)] }
  | .biConflict =>
    if earlier then u.modDir l fun e => { e with queue := e.queue ++ [.block (.host p half r)] }
    else u.emit (.cxlCmp p l half 3)
  | _ => u.modDir l fun e => { e with queue := e.queue ++ [.block (.host p half r)] }

theorem hostRequest_admitted {s u : State} {p : Side} {dec addr a l : Nat} {half : Bool} {o : Obj} (hu : (s.port p).up = true)
    (hx : (s.port p).cxl = true) (hh : s.hdmLine p dec addr = some a) (hl : l = a - a % 128) (hf : half = decide (64 ≤ a % 128))
    (hw : s.window l = some o) (ha : s.admits o (ptrHost p) = true) (hd : s.stillDead (ptrHost p) = false)
    (he : u = ((s.reviveAgent (ptrHost p)).modDir l fun e => e.reached (ptrHost p))) (r : HostReq) :
    hostRequest p dec addr r s = hostActs p l half r u := by
  subst hl hf he
  unfold hostRequest
  simp only [hu, hx, hh, hw, ha, hd]
  rfl

/-- A write of the host, by whether its line awaits a snoop of it. -/
theorem hostActs_write (p : Side) (l : Nat) (half : Bool) (u : State) (m : CxlMeta) (d : List Byte) (bad : Bool) :
    ((∀ w ∈ (u.dirE l).awaits, w.agent ≠ ptrHost p) → hostActs p l half (.memWr m d bad) u =
      u.modDir l fun e => { e with queue := e.queue ++ [.block (.host p half (.memWr m d bad))] }) ∧
    ((∃ w ∈ (u.dirE l).awaits, w.agent = ptrHost p) → hostActs p l half (.memWr m d bad) u =
      ((if bad then u.aerAdvisory p else u).hostPut l half d bad).emit (.cxlCmp p l half 0)) := by
  unfold hostActs
  refine ⟨fun h => if_neg ?_, fun h => if_pos ?_⟩
  · simpa using h
  · simpa using h

/-- A conflict of the host, by whether a request of the same half came before it. -/
theorem hostActs_conflict (p : Side) (l : Nat) (half : Bool) (u : State) :
    ((u.dirE l).blocked = none → (u.dirE l).queue = [] → hostActs p l half .biConflict u = u.emit (.cxlCmp p l half 3)) ∧
    (∀ r, (u.dirE l).blocked = some (.host p half r) ∨ .block (.host p half r) ∈ (u.dirE l).queue → hostActs p l half .biConflict u =
      u.modDir l fun e => { e with queue := e.queue ++ [.block (.host p half .biConflict)] }) := by
  unfold hostActs
  refine ⟨fun h1 h2 => ?_, fun r h => if_pos ?_⟩
  · simp [h1, h2]
  · rw [Bool.or_eq_true]
    rcases h with h | h
    · left
      simp [h]
    · right
      rw [List.any_eq_true]
      exact ⟨_, h, by simp⟩

/-- The first of the host's two answers to a snoop of a line. -/
theorem takeBiRsp_first {s : State} {l : Nat} {p : Side} {m : CxlMeta} {w : Await}
    (hw : ((s.dirE l).awaited fun x => x.agent = ptrHost p && (match x.kind with | .bisnp _ => true | _ => false)) = some w)
    (hh : w.halves = 0) :
    s.takeBiRsp l p m = s.modDir l fun e => { e with awaits := e.awaits.map fun b => if b = w then
      { b with halves := 4 + (match m with | .i => 0 | .s => 1 | .a => 2) } else b } := by
  unfold State.takeBiRsp
  dsimp only
  split
  case h_1 e => exact absurd (e.symm.trans hw) (by simp)
  case h_2 a e =>
    obtain rfl : a = w := Option.some.inj (e.symm.trans hw)
    rw [hh]
    simp <;> rfl

/-- Settles O58: each message by the entry of its line and what it awaits. -/
theorem coherenceHomesAct : Obligations.CoherenceHomesAct := by
  refine ⟨fun s v via src l d m c op hc hm => ?_, fun s v u via src l o hc hw ha hd hu => ⟨fun hg => ?_, fun hg => ?_⟩,
    fun s v via src l o d m hc hw ha hd hg => ?_, fun s l r o op e he => request1_cases he, fun s w l r o e he hw hr => serve_rds he hw hr,
    fun s w l r o e he hw hr => serve_rdx he hw hr, fun s l r o h => serveRdx_free h, fun s w l r o e he hw h => serve_upg he hw h,
    fun s l src op d m => takePut_cases s l src op d m,
    fun s v u via src l late hc hu => ⟨fun hn => ?_, fun a ha hb => ?_, fun a d m ha => ?_, fun r k hn => ?_, fun r a o ha hw ho => ?_,
      fun r a o ha hw ho => ?_, fun a ha hk => ?_⟩,
    fun s a => ⟨fun hd hn hh => ⟨fun n u hc hs => ?_, fun hc => ?_⟩, fun h => ?_⟩, fun s w l hw => ⟨fun hr => ?_, fun g lines x y hr hy => ?_⟩,
    fun s l o b t hb ha hq hw => ⟨fun ⟨h1, h2, h3⟩ => ?_, fun h => ?_⟩, fun s p dec addr m d bad hu hx hh => ?_,
    fun s u p dec addr a l m d bad half o hu hx hh hl hf hw ha hd he => ?_, fun s p dec addr a l m w hh hl hw h0 => ?_,
    fun s p l half o d => ⟨rfl, rfl, rfl, rfl, rfl⟩⟩
  · obtain ⟨hk, k, hp⟩ := homeTakes_rows hm
    refine ⟨fun hw => home_row hp hk hc (homeTakes_noWindow hw _ _ _ _), fun o h hw hv hg => ?_, fun o hw hg ha => ?_⟩
    · subst hv
      exact home_row hp hk hc (homeTakes_noGrant hw hg _ _)
    · exact home_row hp hk hc ((homeTakes_granted hw hg _ _).trans (if_pos (by simp [ha])))
  · subst hu
    exact ⟨home_row rfl rfl hc (homeTakes_admitted hw ha hd hg), home_row rfl rfl hc (homeTakes_admitted hw ha hd hg),
      home_row rfl rfl hc (homeTakes_admitted hw ha hd hg)⟩
  · subst hu
    exact ⟨home_row rfl rfl hc (homeTakes_admitted hw ha hd hg), home_row rfl rfl hc (homeTakes_admitted hw ha hd hg), fun d m =>
      ⟨home_row rfl rfl hc (homeTakes_admitted hw ha hd hg), home_row rfl rfl hc (homeTakes_admitted hw ha hd hg)⟩⟩
  · have hdead : ∀ op, (∀ h, via = some h → v.grantOk h 128 (cohRight op) = true) → ∀ k, v.homeTakes via src l op k = v :=
      fun op hg k => (homeTakes_granted hw hg src k).trans ((if_neg (by simp [ha])).trans (if_pos hd))
    have h0 := fun h e => (hg h e).1
    have h1 := fun h e => (hg h e).2
    exact ⟨home_row rfl rfl hc (hdead .rds h0 _), home_row rfl rfl hc (hdead .rdx h1 _), home_row rfl rfl hc (hdead .upg h1 _),
      home_row rfl rfl hc (hdead .puts h0 _), home_row rfl rfl hc (hdead .pute h0 _), home_row rfl rfl hc (hdead .puto h1 _),
      home_row rfl rfl hc (hdead .putm h1 _)⟩
  · subst hu
    obtain ⟨h1, h2, h3⟩ := answers_none hn
    exact ⟨comes_to rfl rfl hc (congrArg (fun t : State => t.settleLine l) h1), fun d m k => comes_to rfl rfl hc (congrArg (fun t : State => t.settleLine l) (h2 d m.val k)),
      comes_to rfl rfl hc (congrArg (fun t : State => t.settleLine l) h3)⟩
  · subst hu
    refine comes_to rfl rfl hc (congrArg (fun t : State => t.settleLine l) ?_)
    unfold State.takeInvAck
    simp [ha, hb]
  · subst hu
    refine comes_to rfl rfl hc (congrArg (fun t : State => t.settleLine l) ?_)
    unfold State.takeSnpRsp
    simp [ha]
  · subst hu
    exact comes_to rfl rfl hc (congrArg (fun t : State => t.settleLine l) (takeFwdDone_none hn src k))
  · subst hu
    exact comes_to rfl rfl hc (congrArg (fun t : State => t.settleLine l) (takeFwdDone_kept ha hw ho))
  · subst hu
    exact comes_to rfl rfl hc (congrArg (fun t : State => t.settleLine l) (takeFwdDone_gone ha hw ho))
  · subst hu
    exact comes_to rfl rfl hc (congrArg (fun t : State => t.settleLine l) (takeMiss_recall ha hk))
  · refine congrArg Host.Outcome.next ((homeTimeout_due hd hn hh).trans ((stamped_go hc).trans ?_))
    rw [hs]
  · refine congrArg Host.Outcome.next ((homeTimeout_due hd hn hh).trans ?_)
    unfold State.stamped
    rw [if_neg (by simp [hc])]
  · exact congrArg Host.Outcome.next (homeTimeout_early h)
  · refine congrArg Host.Outcome.next ?_
    show blockingStart l s = w
    unfold blockingStart
    dsimp only
    rw [← hw, hr]
  · refine congrArg Host.Outcome.next ?_
    show blockingStart l s = _
    unfold blockingStart
    dsimp only
    rw [← hw, hr, hy]
  · rw [startBlock_head hb ha hq hw, if_pos (by simp [h1, h2, h3])]
  · rw [startBlock_head hb ha hq hw, if_neg]
    rcases h with h | h | h
    · simp [h]
    · simp [h]
    · simp
      omega
  · exact ⟨congrArg Host.Outcome.next (hostRequest_nowhere hu hx hh _), congrArg Host.Outcome.next (hostRequest_nowhere hu hx hh _),
      congrArg Host.Outcome.next (hostRequest_nowhere hu hx hh _), congrArg Host.Outcome.next (hostRequest_nowhere hu hx hh _),
      congrArg Host.Outcome.next (hostRequest_nowhere hu hx hh _), congrArg Host.Outcome.next (hostRequest_nowhere hu hx hh _), by
      refine congrArg Host.Outcome.next ?_
      show biRsp p dec.val addr m s = _
      unfold biRsp
      rw [hh]⟩
  · have hr := hostRequest_admitted hu hx hh hl hf hw ha hd he
    refine ⟨congrArg Host.Outcome.next (hr _), congrArg Host.Outcome.next (hr _), congrArg Host.Outcome.next (hr _),
      congrArg Host.Outcome.next (hr _), fun h => ?_, fun h => ?_, fun h1 h2 => ?_, fun r h => ?_⟩
    · exact congrArg Host.Outcome.next ((hr _).trans ((hostActs_write p l half u m d bad).1 h))
    · exact congrArg Host.Outcome.next ((hr _).trans ((hostActs_write p l half u m d bad).2 h))
    · exact congrArg Host.Outcome.next ((hr _).trans ((hostActs_conflict p l half u).1 h1 h2))
    · exact congrArg Host.Outcome.next ((hr _).trans ((hostActs_conflict p l half u).2 r h))
  · subst hl
    refine congrArg Host.Outcome.next ?_
    show biRsp p dec.val addr m s = _
    unfold biRsp
    rw [hh]
    exact congrArg (fun t : State => t.settleLine (a - a % 128)) (takeBiRsp_first hw h0)

end Sys2Proof.Laws
end

section
/-! Management requests, sensors, and the mirror of the log. -/
namespace Sys2Proof.Laws

open Sys2Proof Sys2Proof.Machine

set_option maxRecDepth 8000

/-- A request that R464 does not mark acts in the state of its stamp. -/
theorem asks_plain {c : Instr} {s u : State} {r : MgtReq} {x : Session} {op role : Nat} (h : Asks c s r x u)
    (hr : mgtRow c = some (r, op, role, none)) : u = s.stamp.2 := by
  obtain ⟨op', role', dg', h1, _, _, _, h5⟩ := h
  rw [hr] at h1
  simp only [Option.some.injEq, Prod.mk.injEq, true_and] at h1
  obtain ⟨_, _, e⟩ := h1
  rw [h5, ← e]
  rfl

/-- Admission: no session, no stamp, no role. -/
theorem mgt_admission {c : Instr} {r : MgtReq} {op role : Nat} {dg : Option (List Nat)} (h : mgtRow c = some (r, op, role, dg)) (s : State) :
    ((∀ x, ¬Carried s r x) → exec c s = .next s) ∧
    (∀ x, Carried s r x → s.canStamp = false → exec c s = .next (s.carry c)) ∧
    (∀ x, Carried s r x → s.canStamp = true → tst x.roles role = false →
      exec c s = .next (s.stamp.2.mgtSay r E.notAuthorised [])) := by
  obtain ⟨ck, k, he⟩ := mgt_exec h s
  rw [he]
  refine ⟨fun hn => by rw [mgt_not hn], fun x hx hc => ?_, fun x hx hc hr => ?_⟩
  · rw [mgt_carried hx]
    unfold State.stamped
    rw [if_neg (by simp [hc])]
  · rw [mgt_carried hx, stamped_go hc, if_pos (by simp [hr])]

/-- CC_HALT stops a core, makes a step, or lets it go on. -/
theorem ccHalt_acts {s u : State} {r : MgtReq} {x : Session} {t : Side} {n : Fin 8} {act : CcAct} (h : Asks (.ccHalt r t n act) s r x u) :
    exec (.ccHalt r t n act) s = .next ((match act with
      | .halt => (if u.carries t = true then u.touched (u.homeOf t) 0x0022 u.time.last else u).modTwin t fun w =>
        { w with halted := setBit w.halted n.val true }
      | .step => if u.carries t = true then u.touched (u.homeOf t) 0x0022 u.time.last else u
      | .resume => (if u.carries t = true then u.touched (u.homeOf t) 0x0022 u.time.last else u).modTwin t fun w =>
        { w with halted := setBit w.halted n.val false }).mgtSay r E.ok []) := by
  rw [ccHalt_request]
  cases act <;> exact asks_go h rfl rfl rfl

/-- A session of a credential may set one, and so may any while they are not locked. -/
theorem cred_open {s : State} {x : Session} (h : s.mgt.credLock = false ∨ x.slot.isSome = true) :
    ¬ ((s.mgt.credLock && x.slot.isNone) = true) := by
  rcases h with e | e
  · simp [e]
  · obtain ⟨y, hy⟩ := Option.isSome_iff_exists.mp e
    simp [hy]

/-- A sample that leaves its sensor's state. -/
theorem sample1_same {s : State} {i v : Nat}
    (h : sensorState i v (s.limits i) (Tbl.get (0, 0) s.mgt.sensors i).2 = (Tbl.get (0, 0) s.mgt.sensors i).2) :
    s.sample1 i v = s.modMgt fun m => { m with sensors := Tbl.set (0, 0) m.sensors i (v, (Tbl.get (0, 0) s.mgt.sensors i).2) } := by
  unfold State.sample1
  dsimp only
  rw [if_pos h, h]

/-- Settles O60: each request by its admission and its own checks, then its effect. -/
theorem managementActs : Obligations.ManagementActs := by
  refine ⟨fun c s r op role dg h => mgt_admission h s, fun s u r x p off h => ⟨fun ho => ?_, fun ho => ?_⟩,
    fun s u r x p off v h => ⟨fun t ho hw => ?_, fun k ho hw => ?_, fun ho => ?_⟩, fun s u r x i n h => ⟨fun hn hi => ?_, fun hn => ?_, fun hn hi => ?_⟩,
    fun s u r x h => asks_go h rfl rfl rfl, fun s u r x off n h => ⟨fun hb => ?_, fun h1 h2 h3 h4 h5 => ?_⟩,
    fun s u r x off d h => ⟨fun hb => ?_, fun h1 h2 h3 h4 h5 => ?_⟩, fun s u r x off n h => ⟨fun h1 h2 => ?_, fun h1 => ?_⟩,
    fun s u v r x t h hv => ⟨fun h1 h2 h3 => ⟨fun h4 => ?_, fun h4 => ?_⟩, fun hb => ?_⟩,
    fun s u v r x t h hv => ⟨fun h1 h2 => ⟨fun h3 => ?_, fun h3 => ?_⟩, fun hb => ?_⟩, fun s => ?_,
    fun s u v r x a n h hv => ⟨fun h1 h2 h3 => ?_, fun h1 => ?_⟩, fun s u v r x a d h hv => ⟨fun h1 h2 h3 => ?_, fun h1 h2 => ?_, fun h1 => ?_⟩,
    fun s u r x t n act h => ccHalt_acts h,
    fun s u v w r x n d roles h hv => ⟨fun h1 h2 => ?_, fun h1 => ⟨fun h2 => ?_, fun h2 h3 => ?_, fun h2 h3 hw => ?_⟩⟩,
    fun s u r x h => asks_go h rfl rfl rfl, fun s u r x n h => ⟨fun h1 h2 => ?_, fun h1 => ?_⟩,
    fun s u r x n d h => ⟨fun h1 h2 h3 => ?_, fun h1 h2 h3 => ?_, fun h1 => ?_⟩, fun s u r x p v h => ⟨fun h1 => ?_, fun h1 => ?_⟩,
    fun s l hp => ?_, fun s i v h => sample1_same h, fun s n recs hp hg hl hn hr => ?_⟩
  · exact asks_go h rfl (if_neg (by simp [ho])) rfl
  · rw [asks_plain h rfl]
    exact asks_no h rfl (if_pos ho) (by decide)
  · refine asks_go h rfl (if_neg (by simp [ho])) ?_
    rw [hw]
  · refine asks_go h rfl (if_neg (by simp [ho])) ?_
    rw [hw]
  · rw [asks_plain h rfl]
    exact asks_no h rfl (if_pos ho) (by decide)
  · exact asks_go h rfl ((if_neg (by omega)).trans (if_neg (by omega))) rfl
  · rw [asks_plain h rfl]
    exact asks_no h rfl (if_pos hn) (by decide)
  · rw [asks_plain h rfl]
    exact asks_no h rfl ((if_neg (by omega)).trans (if_pos hi)) (by decide)
  · obtain rfl := asks_plain h rfl
    exact asks_no h rfl (if_pos (by simpa using hb)) (by decide)
  · obtain rfl := asks_plain h rfl
    exact asks_go h rfl ((if_neg (by simp [h1, h2])).trans (if_neg (by simp [h3, h4, h5]))) rfl
  · obtain rfl := asks_plain h rfl
    exact asks_no h rfl (if_pos (by simpa using hb)) (by decide)
  · obtain rfl := asks_plain h rfl
    exact asks_go h rfl ((if_neg (by simp [h1, h2])).trans ((if_neg (by simp [h3]; omega)).trans (if_neg (by simp [h5])))) rfl
  · exact asks_go h rfl ((if_neg (by omega)).trans (if_neg (by omega))) rfl
  · rw [asks_plain h rfl]
    exact asks_no h rfl (if_pos h1) (by decide)
  · subst hv
    exact asks_go h rfl ((if_neg (by simp [h1, h2, h3])).trans (if_neg (by simp [h4]))) rfl
  · subst hv
    exact asks_no h rfl ((if_neg (by simp [h1, h2, h3])).trans (if_pos (by simpa using h4))) (by decide)
  · subst hv
    exact asks_no h rfl (if_pos (by simpa [or_assoc] using hb)) (by decide)
  · subst hv
    exact asks_go h rfl ((if_neg (by simp [h1, h2])).trans (if_neg (by simp [h3]))) rfl
  · subst hv
    exact asks_no h rfl ((if_neg (by simp [h1, h2])).trans (if_pos (by simp [h3]))) (by decide)
  · subst hv
    exact asks_no h rfl (if_pos (by simpa [or_comm] using hb)) (by decide)
  · refine congrArg Host.Outcome.next ?_
    show imageWriteDone s = _
    unfold imageWriteDone
    cases s.mgt.flashBusy with
    | none => rfl
    | some b => cases b <;> rfl
  · subst hv
    exact asks_go h rfl ((if_neg (by omega)).trans (if_neg (by omega))) (uncached_none h3)
  · rw [asks_plain h rfl]
    exact asks_no h rfl (if_pos h1) (by decide)
  · subst hv
    exact asks_go h rfl ((if_neg (by omega)).trans (if_neg (by omega))) (uncached_none h3)
  · exact asks_no h rfl ((if_neg (by omega)).trans (if_pos h2)) (by decide)
  · exact asks_no h rfl (if_pos h1) (by decide)
  · subst hv
    exact asks_no h rfl (if_pos (by simp [h1, h2])) (by decide)
  · subst hv
    exact asks_no h rfl ((if_neg (cred_open h1)).trans (if_pos h2)) (by decide)
  · subst hv
    exact asks_no h rfl ((if_neg (cred_open h1)).trans ((if_neg (not_not_intro h2)).trans (if_pos h3))) (by decide)
  · subst hv hw
    exact asks_go h rfl ((if_neg (cred_open h1)).trans ((if_neg (not_not_intro h2)).trans (if_neg (by omega)))) rfl
  · exact asks_go h rfl (if_neg (by simp; omega)) rfl
  · exact asks_no h rfl (if_pos (by simpa using h1)) (by decide)
  · exact asks_go h rfl ((if_neg (by simp; omega)).trans (if_neg (by simp [h3]))) rfl
  · rw [asks_plain h rfl]
    exact asks_no h rfl ((if_neg (by simp; omega)).trans (if_pos h3)) (by decide)
  · rw [asks_plain h rfl]
    exact asks_no h rfl (if_pos (by simpa using h1)) (by decide)
  · rw [clearOos_request]
    exact asks_go h rfl (if_neg (by simp [h1])) rfl
  · rw [clearOos_request]
    exact asks_no h rfl (if_pos h1) (by decide)
  · exact congrArg Host.Outcome.next (if_neg (by omega))
  · refine congrArg Host.Outcome.next ?_
    show logMirrorWrite s = _
    unfold logMirrorWrite
    rw [if_neg (by simp [hg]; omega)]
    subst hr hn
    simp only [hl, if_true]

end Sys2Proof.Laws
end

section
/-! What the commits of driver and operator do. -/
namespace Sys2Proof.Laws

open Sys2Proof Sys2Proof.Machine

set_option maxRecDepth 8000

/-- A step that is asked for, then what follows it. -/
theorem andThen_asked {b : Bool} (hb : b = true) (k : State → Except Nat State) (s : State) (m : State → Except Nat State) :
    andThen (when_ b k s) m = andThen (k s) m := by
  rw [hb]
  rfl

/-- A step that is not asked for is none. -/
theorem andThen_unasked {b : Bool} (hb : b = false) (k : State → Except Nat State) (s : State) (m : State → Except Nat State) :
    andThen (when_ b k s) m = m s := by
  rw [hb]
  rfl

/-- The checks of PLACE_COMMIT, in their order. -/
theorem placeCommit_checks {s : State} {p : Side} {i : Nat} {d0 d1 d2 d3 : Word} {o : Obj} {g : Region} (ho : o = s.obj (regObj d1))
    (hg : g = { enabled := true, d0 := d0, d1 := d1, d2 := d2, d3 := d3, next := none }) :
    s.placeCommit p i d0 d1 d2 d3 =
      (if o.state = .free ∨ o.owner ≠ regCtx d1 ∨ o.attr % 2 = 1 then .error E.badHandle
       else if o.state = .retiring then .error E.objectRetiring
       else if 65536 * o.size64k < g.offset + g.size then .error E.badLength
       else if (s.port p).isHdm i g = false ∧ (s.port p).windowBad i g = true then .error E.badField
       else if (s.port p).hdmBad i g = true then .error E.badField
       else .ok (s.modPort p fun x => { x with
         regions := Tbl.set Region.none x.regions i
          { Tbl.get Region.none (s.port p).regions i with next := some (some (d0, d1, d2, d3)) } })) := by
  subst ho hg
  unfold State.placeCommit
  simp only [Bool.or_eq_true, Bool.and_eq_true, Bool.not_eq_true', decide_eq_true_eq, or_assoc, gt_iff_lt]

/-- The checks of XLT_PART_COMMIT, in their order. -/
theorem partCommit_checks {s t : State} {n v : Nat}
    (ht : t = s.modXlt fun x => { x with part := Tbl.set (8, 4, 0) x.part n (bits v 47 32, bits v 31 16, bits v 9 0) }) :
    s.partCommit n v =
      (if (s.ctx n).state ≠ .free then .error E.locked
       else if bits v 47 32 % 8 ≠ 0 ∨ bits v 31 16 % 4 ≠ 0 then .error E.badField
       else if 32768 < t.partSums.1 ∨ 16384 < t.partSums.2.1 ∨ 512 < t.partSums.2.2 then .error E.badLength
       else .ok t) := by
  subst ht
  unfold State.partCommit
  simp only [Bool.or_eq_true, decide_eq_true_eq, or_assoc, gt_iff_lt]

/-- The checks of HX_XLT_FAULT_RESP, in their order. -/
theorem faultResp_checks (s : State) (p : Side) (f v : Nat) :
    s.faultResp p f v =
      (if bits v 17 16 ≠ 1 ∧ bits v 17 16 ≠ 2 then .error E.badField
       else if (s.stalledAt p f (bits v 15 0)).isNone = true then .error E.badHandle
       else .ok (s.modXlt fun x => { x with
        responses := x.responses ++ [(funcKey p f, bits v 15 0, decide (bits v 17 16 = 2))] })) := by
  unfold State.faultResp
  simp only [Bool.and_eq_true, decide_eq_true_eq]

/-- A probe of a context that the function itself may see is not observed. -/
theorem runProbe_own {s : State} {p : Path} {v : Nat} (hf : Path.func p ≠ 0) (hc : s.seesCtx (Path.func p) (bits v 11 0) = true) :
    s.runProbe p v =
      (s.setSel p .xltProbeSel
        (fld (bit (s.probe (bits v 11 0) (s.sel p .xltProbeVa) true).1) 62 +
         fld (s.probe (bits v 11 0) (s.sel p .xltProbeVa) true).2.1 56 +
         fld (s.probe (bits v 11 0) (s.sel p .xltProbeVa) true).2.2.1 40 + bits v 11 0)).setSel p .xltProbeEntry
         (s.probe (bits v 11 0) (s.sel p .xltProbeVa) true).2.2.2 := by
  unfold State.runProbe
  simp only [hf, if_false, hc, if_true, ne_eq, not_false_eq_true, decide_true]

/-- What a write leaves: the state that the register's rules make, or the recorded error. -/
def afterWrite (s : State) (p : Path) (r : Reg) : Except Nat State → State
  | .ok t => t.inta
  | .error c => s.regErr p 0 r.offset c

/-- A legal write leaves what the register's own rules answer. -/
theorem row_after {i : Instr} {s : State} {p : Path} {r : Reg} {v : Word} {x : Except Nat State}
    (h : writeRow i = some (p, r, v)) (hw : Writes s p r v) (e : s.pokeReg p v.toNat r = x) : exec i s = .next (afterWrite s p r x) := by
  rw [writes_row h hw, e]
  cases x <;> rfl

/-- Settles O42: each commit is its checks in order, then its effect. -/
theorem registersCommitWhatTheyStage : Obligations.RegistersCommitWhatTheyStage := by
  refine ⟨fun s t p v hw hc hn ht => ?_, fun s p i d0 d1 d2 d3 o g ho hg => placeCommit_checks ho hg, fun s p v hw hc hn => ?_,
    fun s p v hw hc => ?_, fun s t n v ht => partCommit_checks ht, fun i s p v hi hw => ?_, fun s p v hw => ?_,
    fun s p v hw hc hf hs => ?_, fun s p v c w0 w1 w2 w3 hw hf hq => ?_, fun s p v hw hq => ?_⟩
  · refine row_ok rfl hw ((andThen_asked hc _ s _).trans ?_)
    refine (congrArg (andThen · _) ht).trans ?_
    simp only [andThen, hn, Bool.false_eq_true, if_false]
  · refine row_ok rfl hw ((andThen_unasked hc _ s _).trans ?_)
    simp only [hn, if_true]
    rfl
  · refine (row_after (i := .xltPartCommit p v) rfl hw (andThen_asked hc _ s _)).trans ?_
    cases s.partCommit (bits v.toNat 11 0) (s.sel p .xltPart) <;> rfl
  · have hrow : writeRow i = some (p, .xltFaultResp, v) := by rcases hi with rfl | rfl <;> rfl
    have hpoke := faultResp_checks s (Path.side p) (Path.func p) v.toNat
    by_cases ha : bits v.toNat 17 16 ≠ 1 ∧ bits v.toNat 17 16 ≠ 2
    · rw [if_pos ha]
      exact row_err hrow hw (hpoke.trans (if_pos ha))
    · rw [if_neg ha]
      by_cases hb : (s.stalledAt (Path.side p) (Path.func p) (bits v.toNat 15 0)).isNone = true
      · rw [if_pos hb]
        exact row_err hrow hw (hpoke.trans ((if_neg ha).trans (if_pos hb)))
      · rw [if_neg hb]
        exact row_ok hrow hw (hpoke.trans ((if_neg ha).trans (if_neg hb)))
  · refine row_ok rfl hw (congrArg (fun w => Except.ok (s.modFunc (Path.side p) (Path.func p) fun x => { x with fringNext := some w })) ?_)
    exact BitVec.ofNat_toNat ..
  · refine row_ok rfl hw (?_ : (if tst v.toNat 63 then _ else _) = _)
    rw [if_pos hc, runProbe_own hf hs]
  · refine row_ok rfl hw (congrArg Except.ok ?_)
    unfold State.selectQuery
    simp only [hq, hf, if_false]
    rfl
  · refine row_ok rfl hw (congrArg Except.ok ?_)
    unfold State.selectQuery
    simp only [hq]

end Sys2Proof.Laws
end
section
/-! The commits of the coherence registers, and the interrupt and fault registers. -/
namespace Sys2Proof.Laws

open Sys2Proof Sys2Proof.Machine

set_option maxRecDepth 8000

/-- The checks of COH_PART_COMMIT, in their order. -/
theorem bankCommit_checks {s t : State} {n v : Nat}
    (ht : t = s.modCoh fun c => { c with parts := Tbl.set (0, 0) c.parts n (bits v 9 0, bits v 23 16) }) :
    s.bankCommit n v =
      (if (s.ctx n).state ≠ .free then .error E.locked
       else if 512 < t.bankSums.1 ∨ 128 < t.bankSums.2 then .error E.badLength
       else .ok t) := by
  subst ht
  unfold State.bankCommit
  simp only [Bool.or_eq_true, decide_eq_true_eq]

/-- The checks of COH_DOMAIN_COMMIT, in their order. -/
theorem domainCommit_checks {s : State} {n w : Nat} {d : Domain}
    (hd : d = { valid := tst w 32, members := bits w 26 16, group := bits w 15 0 }) :
    s.domainCommit n w =
      (if (∃ y ∈ s.objs, y.2.state ≠ .free ∧ aCoherent y.2.attr = true ∧ aDomain y.2.attr = n) then .error E.locked
       else if d.valid = true ∧ (d.members = 0 ∨ 1024 < d.members ∨ s.fab.device ∉ s.members d.group) then .error E.badField
       else .ok (s.modCoh fun c => { c with domains := Tbl.set Domain.none c.domains n d })) := by
  subst hd
  unfold State.domainCommit
  simp only [List.any_eq_true, Bool.and_eq_true, Bool.or_eq_true, decide_eq_true_eq, Bool.not_eq_true', List.contains_eq_mem,
    decide_eq_false_iff_not, and_assoc, or_assoc]

/-- Settles O43: each commit is the checks of its register in order, then its effect; the probe observes the window's owner first. -/
theorem coherenceRegistersCommit : Obligations.CoherenceRegistersCommit := by
  refine ⟨fun s t p v hw hc ht => ?_, fun s p v n w d hw hc hn hws hd => ?_, fun s p v hw hc hx => ?_,
    fun s t p v o w0 w1 w2 hw hc hx ht hl => ?_⟩
  · refine (row_after (i := .cohPartCommit p v) rfl hw (andThen_asked hc _ s _)).trans ?_
    rw [bankCommit_checks ht]
    (repeat' split) <;> rfl
  · subst hn hws
    refine (row_after (i := .cohDomainCommit p v) rfl hw (andThen_asked hc _ s _)).trans ?_
    rw [domainCommit_checks hd]
    (repeat' split) <;> rfl
  · refine row_ok rfl hw (?_ : (if tst v.toNat 63 then _ else _) = _)
    rw [if_pos hc]
    unfold State.probeLine
    simp only [hx]
    simp [bit, fld]
  · refine row_ok rfl hw (?_ : (if tst v.toNat 63 then _ else _) = _)
    rw [if_pos hc]
    unfold State.probeLine
    simp only [hx, ← ht, hl]
    simp [bit, fld]

/-- Settles O44: each row is one register's write, and the acknowledgements act on one vector or one collector. -/
theorem interruptRegistersAct : Obligations.InterruptRegistersAct := by
  refine ⟨fun i s p v hi hw => ?_, fun x now hx => ?_, fun x now hx => ?_, fun x now => ?_, fun s p v hw => row_ok rfl hw rfl,
    fun s p v hw hc => ?_, fun s p v t hw hb ho => ?_, fun s p v t hw ht => ?_, fun c n => ?_⟩
  · rcases hi with rfl | rfl <;> exact row_ok rfl hw rfl
  · unfold Vec.ack
    by_cases he : x.events = 0 <;> simp [hx, he, Vec.open]
  · rcases hx with hx | hx <;> simp [Vec.ack, hx]
  · unfold Vec.ack
    by_cases hx : x.state = .waiting <;> simp [hx, Vec.release]
  · by_cases hz : bits v.toNat 18 12 ≠ 0 ∧ s.tdiFrozen (bits v.toNat 18 12) = true
    · rw [if_pos hz]
      refine row_err rfl hw (?_ : unless_ _ _ = _)
      simp [unless_, hc, hz]
    · rw [if_neg hz]
      refine row_ok rfl hw (?_ : unless_ _ _ = _)
      have : (tst v.toNat 63 && decide (bits v.toNat 18 12 ≠ 0) && s.tdiFrozen (bits v.toNat 18 12)) = false := by
        rw [Bool.eq_false_iff]
        simpa [hc] using hz
      rw [this, hc]
      rfl
  · have hask : s.pokeReg p v.toNat .irqWakeCtl = andThen (s.standbyAsk t) fun s =>
        .ok (s.modIrq fun i => { i with cancelled := i.cancelled && !tst v.toNat 3 }) := by
      cases t with
      | a =>
        refine (andThen_asked hb _ s _).trans (congrArg (andThen _) (funext fun u => ?_))
        exact andThen_unasked ho _ u _
      | b => exact (andThen_unasked ho _ s _).trans (andThen_asked hb _ s _)
    refine (row_after (i := .standbyRequest p v) rfl hw hask).trans ?_
    unfold State.standbyAsk
    (repeat' split) <;> rfl
  · subst ht
    exact row_ok rfl hw rfl
  · unfold Collector.ack
    dsimp only
    refine ⟨by (repeat' split) <;> rfl, fun h => by rw [if_pos h], fun h => by rw [if_neg h]⟩

end Sys2Proof.Laws
end
section
/-! The reset and clock registers. -/
namespace Sys2Proof.Laws

open Sys2Proof Sys2Proof.Machine

set_option maxRecDepth 8000

/-- What HX_RST_TWIN_CTL latches of every write. -/
def latchTwinCtl (s : State) (v : Nat) : State := s.modRst fun r => { r with ctlTwin := tst v 48, ctlTick := bits v 47 0 }

/-- HX_RST_TWIN_CTL of the management controller, or of a write that does not clear an out-of-service state. -/
theorem twinCtl_allowed {s : State} {v : Nat} {m : Bool} (h : tst v 61 = true → m = true) :
    s.twinCtl m v =
      (if tst v 63 then (latchTwinCtl s v).detachAsk (Side.ofBool (tst v 48)) (bits v 47 0)
       else if tst v 62 then (latchTwinCtl s v).twinReturn (Side.ofBool (tst v 48))
       else if tst v 61 then (latchTwinCtl s v).clearOos (Side.ofBool (tst v 48))
       else if tst v 60 then (latchTwinCtl s v).detachWithdraw
       else .ok (latchTwinCtl s v)) := by
  unfold State.twinCtl
  have : (tst v 61 && !m) = false := by
    cases hb : tst v 61
    · rfl
    · rw [h hb]
      rfl
  rw [this]
  rfl

/-- The checks of DETACH, in their order. -/
theorem detachAsk_checks (s : State) (v : Nat) (t : Side) (n : Nat) :
    (latchTwinCtl s v).detachAsk t n =
      if s.serves t = false then .error E.badField
      else if s.serves t.other = false then .error E.outOfService
      else if s.rst.detach ≠ none then .error E.locked
      else if n ≠ 0 ∧ n < s.time.tick + 4 then .error E.badField
      else .ok ((latchTwinCtl s v).modRst fun r => { r with
        detach := some { twin := t, tick := if n = 0 then s.time.tick + 4 else n, waited := 0, withdrawn := false, forced := false },
        ctlTwin := decide (t = .b), ctlTick := if n = 0 then s.time.tick + 4 else n }) := by
  have hs : ∀ x, (latchTwinCtl s v).serves x = s.serves x := fun _ => rfl
  have hd : (latchTwinCtl s v).rst.detach = s.rst.detach := rfl
  have ht : (latchTwinCtl s v).time.tick = s.time.tick := rfl
  unfold State.detachAsk
  simp only [hs, hd, ht, Bool.not_eq_true', Bool.and_eq_true, decide_eq_true_eq, Option.isSome_iff_ne_none]

/-- The check of a withdrawal. -/
theorem detachWithdraw_checks (s : State) (v : Nat) :
    (latchTwinCtl s v).detachWithdraw =
      if s.rst.detach = none then .error E.badField else .ok (latchTwinCtl s v).withdrawDetach := by
  have hd : (latchTwinCtl s v).rst.detach = s.rst.detach := rfl
  unfold State.detachWithdraw
  simp only [hd, Option.isNone_iff_eq_none]

/-- The checks of a return, in their order. -/
theorem twinReturn_checks (s : State) (v : Nat) (t : Side) :
    (latchTwinCtl s v).twinReturn t =
      if (s.twin t).state ≠ .detached then .error E.badField
      else if s.readsMirror .a = false ∨ s.readsMirror .b = false then .error E.badField
      else .ok ((latchTwinCtl s v).beginReturn t) := by
  have ht : (latchTwinCtl s v).twin t = s.twin t := rfl
  have hm : ∀ x, (latchTwinCtl s v).readsMirror x = s.readsMirror x := fun _ => rfl
  unfold State.twinReturn
  simp only [ht, hm, Bool.or_eq_true, Bool.not_eq_true']

/-- The check of CLEAR_OOS. -/
theorem clearOos_checks (s : State) (v : Nat) (t : Side) :
    (latchTwinCtl s v).clearOos t =
      if (s.twin t).state ≠ .outOfService then .error E.badField else .ok ((latchTwinCtl s v).clearOosNow t) := rfl

/-- No clock but AMUX and MMUX is asked for. -/
theorem clkSrcWrite_muxes {s : State} {v : Nat} (hk : ∀ k < 4, bits v (5 + 2 * k) (4 + 2 * k) = s.clk.field k)
    (ha : tst v 0 = s.clk.aclk ∨ tst s.clk.seen (if tst v 0 then 1 else 0) = true)
    (hm : tst v 1 = s.clk.mclk ∨ tst s.clk.seen (if tst v 1 then 2 else 0) = true) :
    s.clkSrcWrite v = .ok (s.modClk fun c => { c with aclk := tst v 0, mclk := tst v 1 }) := by
  have hnone : ([0, 1, 2, 3].filter fun k => decide (bits v (5 + 2 * k) (4 + 2 * k) ≠ s.clk.field k)) = [] := by
    rw [List.filter_eq_nil_iff]
    intro k hin
    have : k < 4 := List.mem_range.mp hin
    simp [hk k this]
  unfold State.clkSrcWrite
  dsimp only
  rw [hnone]
  have ha' : (tst v 0 != s.clk.aclk && !tst s.clk.seen (if tst v 0 then 1 else 0)) = false := by
    rcases ha with h | h <;> simp [h]
  have hm' : (tst v 1 != s.clk.mclk && !tst s.clk.seen (if tst v 1 then 2 else 0)) = false := by
    rcases hm with h | h <;> simp [h]
  simp [ha', hm']

/-- Of the four source fields one alone is asked to change. -/
theorem sourceFields_changed {c : Clk} {v k w : Nat} (hk : k < 4) (hne : w ≠ c.field k) (hw : bits v (5 + 2 * k) (4 + 2 * k) = w)
    (ho : ∀ j < 4, j ≠ k → bits v (5 + 2 * j) (4 + 2 * j) = c.field j) :
    ([0, 1, 2, 3].filter fun j => decide (bits v (5 + 2 * j) (4 + 2 * j) ≠ c.field j)) = [k] := by
  have hsame : ∀ j ∈ [0, 1, 2, 3], decide (bits v (5 + 2 * j) (4 + 2 * j) ≠ c.field j) = decide (j = k) := by
    intro j hin
    have hj : j < 4 := List.mem_range.mp hin
    by_cases hjk : j = k
    · subst hjk
      simp [hw, hne]
    · simp [ho j hj hjk, hjk]
  rw [List.filter_congr hsame]
  match k, hk with
  | 0, _ | 1, _ | 2, _ | 3, _ => rfl

/-- One clock is asked to change its source. -/
theorem clkSrcWrite_one {s : State} {v k w : Nat} (hk : k < 4) (hw : w < 2) (hne : w ≠ s.clk.field k) (hp : s.clk.pend = [])
    (hv : bits v (5 + 2 * k) (4 + 2 * k) = w) (ho : ∀ j < 4, j ≠ k → bits v (5 + 2 * j) (4 + 2 * j) = s.clk.field j)
    (ht : ∀ t, clkTwin k = some t → s.inSelftest t = false) (ha : tst v 0 = s.clk.aclk) (hm : tst v 1 = s.clk.mclk) :
    s.clkSrcWrite v =
      if tst s.clk.locks (2 * k + w) = false then .error E.sourceNotReady
      else
        let late := decide (k = 1) || (match clkTwin k with | some t => s.carries t | none => false)
        .ok ((s.modClk fun c => { c with pend := [(4 + 2 * k, w, late)] }).modPlan fun p =>
          { p with forClock := p.forClock || late }) := by
  subst hv
  have hw3 : bits v (5 + 2 * k) (4 + 2 * k) ≠ 3 ∧ bits v (5 + 2 * k) (4 + 2 * k) ≠ 2 := by omega
  unfold State.clkSrcWrite
  dsimp only
  rw [sourceFields_changed hk hne rfl ho, hp, ha, hm]
  cases hc : clkTwin k with
  | none =>
    simp only [List.any_cons, List.any_nil, hw3.1, hw3.2, hw, hc]
    cases tst s.clk.locks (2 * k + bits v (5 + 2 * k) (4 + 2 * k)) <;> by_cases h1 : k = 1 <;> simp [State.modClk, State.modPlan, hc, hp, h1]
  | some t =>
    simp only [List.any_cons, List.any_nil, hw3.1, hw3.2, hw, hc, ht t hc]
    cases tst s.clk.locks (2 * k + bits v (5 + 2 * k) (4 + 2 * k)) <;> by_cases h1 : k = 1 <;> cases h2 : s.carries t <;>
      simp [State.modClk, State.modPlan, hc, hp, h1, h2]

/-- A write of a gate that is locked. -/
theorem gates_locked {s : State} {v : Nat} :
    ((List.range 40).any fun n => tst v n != s.gateOn n && (s.gateLock n).isSome) = true ↔
      ∃ n < 40, tst v n ≠ s.gateOn n ∧ s.gateLock n ≠ none := by
  simp [List.any_eq_true, Option.isSome_iff_ne_none]

/-- A gate asked to be on under one asked to be off. -/
theorem gates_busy {v : Nat} :
    ((List.range 40).any fun n => match gateParent n with | some p => tst v n && !tst v p | none => false) = true ↔
      ∃ n < 40, ∃ q, gateParent n = some q ∧ tst v n = true ∧ tst v q = false := by
  simp only [List.any_eq_true, List.mem_range]
  refine exists_congr fun n => and_congr_right fun _ => ?_
  cases gateParent n <;> simp

/-- Settles O45: the checks of each register in order, then its effect, on the state in which the twin control has latched its fields. -/
theorem resetAndClockRegistersAct : Obligations.ResetAndClockRegistersAct := by
  refine ⟨fun s u p v t hw h63 h61 ht hu => ?_, fun s u p v hw h63 h62 h61 h60 hu => ?_, fun s u p v t hw h63 h62 h61 ht hu => ?_,
    fun s u t hu hr hi => ?_, fun s u p v t hw hf h63 h62 h61 ht hu => ?_, fun s p v hw hf h61 => ?_, fun s p v n hw h63 hn => ?_,
    fun s p v n hw h63 h62 hn => ?_, fun s p v hw hk ha hm => row_ok rfl hw (clkSrcWrite_muxes hk ha hm),
    fun s p v k w hw hk hw2 hne hp hv ho ht ha hm => ?_, fun s p v hw => ?_, fun s p v hw h63 => ?_, fun s p v t hw h63 ht => ?_⟩
  · refine (row_after (i := .detach p v) rfl hw (twinCtl_allowed (by simp [h61]))).trans ?_
    subst ht hu
    simp only [h63, if_true]
    rw [detachAsk_checks]
    (repeat' split) <;> rfl
  · refine (row_after (i := .detachWithdraw p v) rfl hw (twinCtl_allowed (by simp [h61]))).trans ?_
    subst hu
    simp only [h63, h62, h61, h60, if_true, Bool.false_eq_true, if_false]
    rw [detachWithdraw_checks]
    (repeat' split) <;> rfl
  · refine (row_after (i := .twinReturn p v) rfl hw (twinCtl_allowed (by simp [h61]))).trans ?_
    subst ht hu
    simp only [h63, h62, if_true, Bool.false_eq_true, if_false]
    rw [twinReturn_checks]
    (repeat' split) <;> rfl
  · have hgo : (u.twin t).ret.isSome || (u.twin t).inReset = false := by simp [hr, hi]
    unfold State.beginReturn
    dsimp only
    rw [← hu, if_neg (by simp [hr, hi])]
    refine ⟨fun h => if_pos (by simpa using h), fun h1 h2 h3 h4 => (if_neg (by simp [h1, h2])).trans ?_⟩
    unfold State.goReturn
    simp [h3, h4]
  · refine (row_after (i := .clearOos none p v) rfl hw (twinCtl_allowed (by simp [hf]))).trans ?_
    subst ht hu
    simp only [h63, h62, h61, if_true, Bool.false_eq_true, if_false]
    rw [clearOos_checks]
    split
    · exact congrArg Host.Outcome.next (by unfold afterWrite State.regErr; rw [hf])
    · rfl
  · refine row_err rfl hw (?_ : State.twinCtl _ _ _ = _)
    unfold State.twinCtl
    cases hp : Path.fn p with
    | none => exact absurd hp hf
    | some x => simp [h61]
  · subst hn
    refine (row_after (i := .cdReset p v) rfl hw (if_pos h63)).trans ?_
    unfold State.cdReset
    simp only [Bool.or_eq_true, decide_eq_true_eq]
    (repeat' split) <;> rfl
  · subst hn
    refine (row_after (i := .cdReturn p v) rfl hw ((if_neg (by simp [h63])).trans (if_pos h62))).trans ?_
    unfold State.cdReturn
    (repeat' split) <;> rfl
  · refine (row_after (i := .clockSourceWrite p v) rfl hw (clkSrcWrite_one hk hw2 hne hp hv ho ht ha hm)).trans ?_
    split <;> rfl
  · refine ⟨fun h => row_err rfl hw (if_pos (gates_locked.mpr h)), fun h => ?_⟩
    have hfree := mt gates_locked.mp fun ⟨n, hn, hne, hl⟩ => (h n hn).elim hne hl
    refine ⟨fun hb => row_err rfl hw ((if_neg hfree).trans (if_pos (gates_busy.mpr hb))),
      fun hb => row_ok rfl hw ((if_neg hfree).trans (if_neg (mt gates_busy.mp ?_)))⟩
    rintro ⟨n, hn, q, hq, hon, hoff⟩
    exact absurd (hb n hn q hq hon) (by simp [hoff])
  · refine row_ok rfl hw (congrArg Except.ok ?_)
    dsimp only
    rw [if_pos h63]
    rfl
  · subst ht
    refine (row_after (i := .bistGo p v) rfl hw (andThen_asked h63 _ s _)).trans ?_
    generalize Side.ofBool (tst v.toNat 0) = x
    have hbusy : ((s.inSelftest x || (s.twin x).loading) = true) = (s.inSelftest x = true ∨ (s.twin x).loading = true) :=
      Bool.or_eq_true ..
    have hout : ((!(decide ((s.twin x).state = .detached) || decide ((s.twin x).state = .outOfService)) || (s.twin x).boot) = true) =
        ¬(((s.twin x).state = .detached ∨ (s.twin x).state = .outOfService) ∧ (s.twin x).boot = false) := by
      cases (s.twin x).state <;> cases (s.twin x).boot <;> decide
    unfold State.bistGo
    simp only [hbusy, hout]
    split
    · rfl
    · split <;> rfl

end Sys2Proof.Laws
end
section
/-! The fabric registers. -/
namespace Sys2Proof.Laws

open Sys2Proof Sys2Proof.Machine

set_option maxRecDepth 8000

/-- A write that nothing frozen stands against. -/
theorem unless_free {b : Bool} (h : b = false) (x : Except Nat State) : unless_ b x = x := by
  rw [h]
  rfl

/-- A write of what is frozen. -/
theorem unless_frozen {b : Bool} (h : b = true) (x : Except Nat State) : unless_ b x = .error E.locked := by
  rw [h]
  rfl

/-- GRANT_COMMIT of a grant of memory whose checks pass. -/
theorem grantCommit_taken {s : State} {i d0 d1 d2 d3 : Nat} {o : Obj} {g : GrantEnt} (hf : tst d0 4 = false)
    (ho : o = s.obj (bits d1 31 0 % 2 ^ 22)) (hg : g = s.grant i) (hst : o.state = .live) (hown : o.owner = bits d0 37 26)
    (hat : o.attr % 2 = 0) (hsz : 65536 * bits d2 63 16 + 65536 * bits d3 24 0 ≤ 65536 * o.size64k)
    (hdev : bits d0 63 50 ≠ s.fab.device) (hun : (s.route (bits d0 63 50)).unreach = false) (hr : bits d0 2 0 ≠ 0) :
    s.grantCommit i d0 d1 d2 d3 = .ok
      (((s.modGrant i fun _ =>
        { holder := bits d0 63 50, holderCtx := bits d0 49 38, ctx := bits d0 37 26, offered := false, refused := false, enable := true,
          fence := false, rights := bits d0 2 0, ggen := (g.ggen + 1) % 256, target := bits d1 31 0,
          offset := bits d2 63 16 * 65536, size64k := bits d3 24 0, ending := false, tag := s.fab.nextTag % 4096 }).modFab fun f =>
          { f with nextTag := s.fab.nextTag + 1 }).fabSend (bits d0 63 50)
        { plainPkt K.grantOffer [o.base + bits d2 63 16 * 65536, 65536 * bits d3 24 0, bits d0 2 0, bits d0 49 38, 0] with
          grant := i, ggen := (g.ggen + 1) % 256, tag := s.fab.nextTag % 4096 }) := by
  have hfit : ¬ bits d2 63 16 * 65536 + 65536 * bits d3 24 0 > 65536 * o.size64k := by omega
  subst hg
  unfold State.grantCommit
  dsimp only
  rw [← ho]
  simp [hf, hst, hown, hat, hfit, hdev, hun, hr, bit]

/-- GRANT_COMMIT of an object that the context does not own. -/
theorem grantCommit_badHandle {s : State} {i d0 d1 d2 d3 : Nat} (hf : tst d0 4 = false)
    (h : (s.obj (bits d1 31 0 % 2 ^ 22)).state = .free ∨ (s.obj (bits d1 31 0 % 2 ^ 22)).owner ≠ bits d0 37 26) :
    s.grantCommit i d0 d1 d2 d3 = .error E.badHandle := by
  unfold State.grantCommit
  dsimp only
  generalize s.obj (bits d1 31 0 % 2 ^ 22) = o at h ⊢
  rcases h with h | h <;> simp [hf, h]

/-- PROXY_BIND whose checks pass. -/
theorem proxyBind_taken {s : State} {h dev id k : Nat} {f : Fence} {g : HeldGrant} (hf : s.fenceOf h = some f)
    (hg : s.heldGrant dev id = some (k, g)) (hgf : g.fence = true) (ho : f.owner = g.ctx) (hm : f.mode = 0) (hs : f.signallers = 0)
    (hp : f.proxy = none) :
    s.proxyBind h dev id = .ok ((s.modFence (fIndex h) fun f => { f with proxy := some (dev, id) }).fabSend dev
      { plainPkt K.fenceUpd [] with grant := id, ggen := g.ggen, addr := 1 }) := by
  unfold State.proxyBind
  rw [hf, hg]
  simp [hgf, ho, hm, hs, hp]

/-- PROXY_UNBIND of a live fence. -/
theorem proxyUnbind_live {s : State} {h : Nat} {f : Fence} (hf : s.fenceOf h = some f) :
    s.proxyUnbind h =
      if f.proxy = none then .error E.badHandle else .ok (s.modFence (fIndex h) fun f => { f with proxy := none }) := by
  unfold State.proxyUnbind
  rw [hf]
  simp only [Option.isNone_iff_eq_none]

/-- GROUP_COMMIT of an allowed number of members: the checks of its list, in their order, up to the lock. -/
theorem groupCommit_list {s : State} {g n list : Nat} {o : Obj} {ids : List Nat} (ho : o = s.obj list)
    (hids : ids = (List.range n).map fun i => leNat (s.mem.readN (o.base + 2 * i) 2)) (hg : g ≠ 0) (hn : n ≠ 0) (hmax : n ≤ 16384) :
    (o.state ≠ .live ∨ 1 < o.owner → s.groupCommit g n list = .error E.badHandle) ∧
    (o.state = .live → o.owner ≤ 1 → 65536 * o.size64k < 2 * n → s.groupCommit g n list = .error E.badLength) ∧
    (o.state = .live → o.owner ≤ 1 → 2 * n ≤ 65536 * o.size64k →
      (s.fab.device ∉ ids → s.groupCommit g n list = .error E.badField) ∧
      (s.fab.device ∈ ids → s.groupUsed g = true → s.groupCommit g n list = .error E.locked) ∧
      (s.fab.device ∈ ids → s.groupUsed g = false → 0 < (s.group g).members → ids.idxOf s.fab.device ≠ 0 →
        s.groupCommit g n list = .ok
          ((s.modGroup g fun _ =>
            { members := n, rank := ids.idxOf s.fab.device, obj := list, list := ids, valid := false, mismatch := false, matched := [],
              early := [], first := some (if (s.group g).early.isEmpty then s.time.bnd else (s.group g).first.getD s.time.bnd),
              answered := false }).fabSend (ids.headD 0) { plainPkt K.group [g] with data := listDigest ids }))) := by
  have hn' : ¬ 16384 < n := by omega
  unfold State.groupCommit
  dsimp only
  rw [← ho, ← hids]
  refine ⟨fun h => ?_, fun hst hown hlen => ?_, fun hst hown hlen => ?_⟩
  · simp [hg, hn, hn', h]
  · have hown' : ¬ 1 < o.owner := by omega
    simp [hg, hn, hn', hst, hown', hlen]
  · have hown' : ¬ 1 < o.owner := by omega
    have hlen' : ¬ 65536 * o.size64k < 2 * n := by omega
    refine ⟨fun h => ?_, fun h hu => ?_, fun h hu hm hr => ?_⟩
    · simp [hg, hn, hn', hst, hown', hlen', h]
    · simp [hg, hn, hn', hst, hown', hlen', h, hu]
    · simp [hg, hn, hn', hst, hown', hlen', h, hu, hm, hr]

/-- ROUTE_COMMIT's check. -/
theorem routeCommit_checks (s : State) (d w : Nat) :
    s.routeCommit d w =
      if d = s.fab.device ∨ ((List.range 4).filterMap fun i => altLink w i) = [] ∨
          (∃ k ∈ (List.range 4).filterMap fun i => altLink w i, 23 < k) then .error E.badField
      else .ok (s.modRoute d fun r => { r with next := some w }) := by
  unfold State.routeCommit
  simp only [Bool.or_eq_true, decide_eq_true_eq, List.isEmpty_iff, List.any_eq_true, or_assoc, gt_iff_lt]

/-- The checks of a global operation, in their order. -/
theorem globalGo_checks (s : State) (rst : Bool) (g snap : Nat) (via : Option Side) :
    s.globalGo rst g snap via =
      if s.fab.global ≠ none then .error E.locked
      else if (rst = true ∧ g ≠ 0) ∨ s.time.agreed = false ∨ s.fab.device ∉ s.members g ∨ (g ≠ 0 ∧ (s.group g).valid = false) then
        .error E.badField
      else if s.rankIn g = 0 then .ok (s.admitGlobal rst g snap)
      else .ok ((s.modFab fun f =>
        { f with global := some { reset := rst, group := g, tick := none, snapTick := snap, confirms := 0, done := false,
                                  restored := false, told := false, via := via } }).emit
          (.globalHop ((s.members g).headD 0) (.ask rst g snap))) := by
  unfold State.globalGo
  simp only [Option.isSome_iff_ne_none, Bool.or_eq_true, Bool.and_eq_true, Bool.not_eq_true', decide_eq_true_eq,
    List.contains_eq_mem, decide_eq_false_iff_not, or_assoc]

/-- Settles O46: what is frozen is turned away first, then the checks of each register in their order, then its effect. -/
theorem fabricRegistersCommit : Obligations.FabricRegistersCommit := by
  refine ⟨fun s p v i d0 d1 d2 d3 hw h63 h62 hi h0 h1 h2 h3 => ?_,
    fun s i d0 d1 d2 d3 o g hf ho hg hst hown hat hsz hdev hun hr => grantCommit_taken hf ho hg hst hown hat hsz hdev hun hr,
    fun s i d0 d1 d2 d3 hf h => grantCommit_badHandle hf h, fun s p v i hw h63 h62 hi => ?_,
    fun s p v h w k f g hw h63 h62 hh hz hws hf hg hgf ho hm hs hp => ?_, fun s p v h hw h63 hh hf => ?_,
    fun s p v h f hw h63 h62 hh hz hf => ?_, fun s p v g w hw h63 h62 hg hws => ?_,
    fun s g n list o ids ho hids hg hn hmax => groupCommit_list ho hids hg hn hmax, fun s p v g hw h63 h62 hg => ?_,
    fun s p v d w hw h63 h62 hd hws => ?_, fun s p v d hw h63 h62 hd => ?_, fun i s p v g rst x hi hw h63 hr hg hx => ?_⟩
  · subst hi h0 h1 h2 h3
    by_cases hz : s.grantFrozen (bits v.toNat 15 0) (s.sel p (.fabGrantD 0)) true = true
    · rw [if_pos hz]
      refine row_err rfl hw (unless_frozen ?_ _)
      rw [h63, h62]
      exact hz
    · rw [if_neg hz]
      refine (row_after (i := .grantCommit p v) rfl hw ((unless_free ?_ _).trans (andThen_asked h63 _ s _))).trans ?_
      · rw [h63, h62]
        exact Bool.eq_false_iff.mpr hz
      · simp only [h62, Bool.false_eq_true, if_false, State.descriptor]
        cases s.grantCommit (bits v.toNat 15 0) (s.sel p (.fabGrantD 0)) (s.sel p (.fabGrantD 1)) (s.sel p (.fabGrantD 2))
          (s.sel p (.fabGrantD 3)) <;> rfl
  · subst hi
    by_cases hz : s.grantFrozen (bits v.toNat 15 0) (s.sel p (.fabGrantD 0)) false = true
    · rw [if_pos hz]
      refine row_err rfl hw (unless_frozen ?_ _)
      rw [h63, h62]
      exact hz
    · rw [if_neg hz]
      refine row_ok rfl hw ((unless_free ?_ _).trans ((andThen_unasked h63 _ s _).trans ?_))
      · rw [h63, h62]
        exact Bool.eq_false_iff.mpr hz
      · rw [if_pos h62]
        rfl
  · subst hh hws
    refine row_ok rfl hw ((unless_free (by rw [hz, Bool.and_false]) _).trans ((andThen_asked h63 _ s _).trans ?_))
    rw [proxyBind_taken hf hg hgf ho hm hs hp]
    exact andThen_unasked h62 _ _ _
  · subst hh
    have hz : s.proxyFrozen (bits v.toNat 31 0) = false := by
      unfold State.proxyFrozen
      rw [hf]
    refine row_err rfl hw ((unless_free (by rw [hz, Bool.and_false]) _).trans ((andThen_asked h63 _ s _).trans ?_))
    unfold State.proxyBind
    rw [hf]
    rfl
  · subst hh
    refine (row_after (i := .proxyUnbind p v) rfl hw ((unless_free (by rw [hz, Bool.and_false]) _).trans
      ((andThen_unasked h63 _ s _).trans (andThen_asked h62 _ s _)))).trans ?_
    rw [proxyUnbind_live hf]
    (repeat' split) <;> rfl
  · subst hg hws
    refine (row_after (i := .groupCommit p v) rfl hw (andThen_asked h63 _ s _)).trans ?_
    cases s.groupCommit (bits v.toNat 15 0) (bits (s.sel p .fabGroup) 61 47) (bits (s.sel p .fabGroup) 21 0) with
    | ok t => exact congrArg (fun x => Host.Outcome.next (afterWrite s p .fabGroupSel x)) (andThen_unasked h62 _ t _)
    | error c => rfl
  · subst hg
    refine (row_after (i := .groupClear p v) rfl hw ((andThen_unasked h63 _ s _).trans (andThen_asked h62 _ s _))).trans ?_
    unfold State.groupClear
    (repeat' split) <;> rfl
  · subst hd hws
    refine (row_after (i := .routeCommit p v) rfl hw (andThen_asked h63 _ s _)).trans ?_
    rw [routeCommit_checks]
    simp only [h62, Bool.false_eq_true, if_false]
    (repeat' split) <;> rfl
  · subst hd
    refine row_ok rfl hw ((andThen_unasked h63 _ s _).trans ?_)
    rw [if_pos h62]
    rfl
  · subst hr hg hx
    have hrow : writeRow i = some (p, .fabGlobal, v) := by rcases hi with rfl | rfl <;> rfl
    have hstep := row_after hrow hw (andThen_asked h63 _ s _)
    rw [globalGo_checks] at hstep
    refine ⟨fun h => hstep.trans ?_, fun h hb => hstep.trans ?_, fun h h1 h2 h3 h4 => hstep.trans ?_⟩
    · rw [if_pos h]
      rfl
    · rw [if_neg (not_not_intro h), if_pos hb]
      rfl
    · rw [if_neg (not_not_intro h), if_neg]
      · (repeat' split) <;> rfl
      · rintro (⟨ha, hb⟩ | hb | hb | ⟨ha, hb⟩)
        · exact hb (h1 ha)
        · rw [h2] at hb
          cases hb
        · exact hb h3
        · rw [h4.resolve_left ha] at hb
          cases hb

end Sys2Proof.Laws
end

section
/-! Translation events. -/
namespace Sys2Proof.Laws

open Sys2Proof Sys2Proof.Machine

set_option maxRecDepth 8000

/-- A walk for an access of a live queue of an ordinary context. -/
theorem walkComplete_known {s : State} {n q cva : Nat} (acc : Access) (hl : (s.queue q).live = true) (hq : (s.queue q).ctx = n)
    (hp : (s.ctx n).priv = false) (hc : cva < 2 ^ 57) :
    walkComplete n q cva acc s =
      match (s.target n cva 1 acc).1 with
      | .fail r l =>
        match s.unitFor q cva acc with
        | some (c, u) => (s.unitFault q c u cva r l acc).lookAhead q c u (s.tickUnits q c.bytes)
        | none => s
      | .miss page =>
        match s.unitFor q cva acc with
        | some (c, u) => ((s.touch n cva acc).unitMiss q c u page acc).predict n q cva
        | none => (s.touch n cva acc).predict n q cva
      | _ => (s.touch n cva acc).predict n q cva := by
  have hc' : ¬ cva ≥ 2 ^ 57 := Nat.not_le.mpr hc
  unfold walkComplete
  dsimp only
  rw [if_neg (by simp only [hl, hq, hp, hc', Bool.not_true, decide_false, Bool.or_false, Bool.false_eq_true, not_false_eq_true, ne_eq,
    not_true_eq_false])] <;> rfl

/-- The walk cache fills without the TLB. -/
theorem fillWalk_tlb (slot cva : Nat) : ∀ (n table : Nat) (s : State), (s.fillWalk slot cva n table).xlt.tlb = s.xlt.tlb
  | 0, _, _ => rfl
  | n + 1, table, s => by
    unfold State.fillWalk
    dsimp only
    split
    · rfl
    · rw [fillWalk_tlb slot cva n]
      show (if _ then _ else _ : Xlt).tlb = _
      split <;> rfl

/-- A side's part after it is set. -/
theorem two_get_set_same {α : Type} (x : Two α) (t : Side) (v : α) : (x.set t v).get t = v := by cases t <;> rfl

/-- What the TLB holds for a page after a leaf entered it. -/
theorem fill_holds {s : State} {n cva e l : Nat} (hp : 0 < (s.part n).1) :
    (((s.fill n cva e l).xlt.tlb.get (s.ctx n).home).any fun y =>
      y.ctx = n && y.page / 2 ^ y.sizeLog = cva / 4096 / 2 ^ y.sizeLog) = true := by
  unfold State.fill State.modXlt
  dsimp only
  split
  · assumption
  · rw [List.any_eq_true]
    refine ⟨{ ctx := n, pasidGen := (s.ctx n).pasidGen, page := cva / 4096, sizeLog := leafLog e l, entry := w64 e }, ?_, ?_⟩
    · rw [two_get_set_same]
      exact addBounded_last _ _ _ _ hp
    · simp

/-- What a touch of a leaf leaves in the TLB. -/
theorem touch_holds {s : State} {n cva e l : Nat} {acc : Access} (hpriv : (s.ctx n).priv = false) (hl : s.leafOf n cva acc = .leaf e l)
    (hp : 0 < (s.part n).1) :
    (((s.touch n cva acc).xlt.tlb.get (s.ctx n).home).any fun y =>
      y.ctx = n && y.page / 2 ^ y.sizeLog = cva / 4096 / 2 ^ y.sizeLog) = true := by
  unfold State.touch
  rw [hpriv, hl]
  simp only [Bool.false_eq_true, if_false, fillWalk_tlb]
  exact fill_holds hp

/-- The state from which an ATS completion goes on: the request is no longer outstanding. -/
def dropAts (s : State) (p : Side) (tag : Nat) : State :=
  s.modXlt fun x => { x with ats := x.ats.filter fun y => !(y.port = p && y.tag = tag) }

/-- What an answer to a translation request does, once the request's generations are current. -/
def atsAnswer (r : AtsReq) (u : State) : AtsResult → State
  | .failed | .timedOut =>
    u.failPage r.ctx r.page Reason.atsFailed r.access false (if r.queue = 16384 then none else some (r.queue, r.slot, r.unit))
  | .success addr k rr w =>
    if (r.access = .write || rr) && (r.access = .read || w) then u.fillAtc r addr k rr w
    else if r.queue = 16384 then u
    else u.hostAbsent r.ctx r.queue r.slot r.unit r.page r.access

/-- A completion timeout is an error of the function. -/
def noteTimeout (u : State) (p : Side) (f : Nat) (x : AtsResult) : State :=
  if x = .timedOut then u.modFunc p f fun x => { x with cplTimeout := true } else u

/-- An ATS completion of a request that is outstanding. -/
theorem atsCompletion_known {s : State} {p : Side} {tag : Nat} {r : AtsReq} (x : AtsResult)
    (hr : s.xlt.ats.find? (fun r => r.port = p && r.tag = tag) = some r) :
    atsCompletion p tag x s =
      (if r.orphan then (noteTimeout (dropAts s p tag) p (s.ctx r.ctx).func x).staleDomain
       else if r.pasidGen ≠ (s.ctx r.ctx).pasidGen || (s.ctx r.ctx).state = .free || (s.ctx r.ctx).state = .dead then
        (noteTimeout (dropAts s p tag) p (s.ctx r.ctx).func x).stalePasid
       else if r.stale then
        (noteTimeout (dropAts s p tag) p (s.ctx r.ctx).func x).atsRequest r.ctx r.page r.access r.queue r.slot r.unit
       else atsAnswer r (noteTimeout (dropAts s p tag) p (s.ctx r.ctx).func x) x).resumeWindows r.ctx := by
  unfold atsCompletion
  rw [hr]
  cases x <;> rfl

/-- An ATS completion whose generations are current is answered. -/
theorem atsCompletion_current {s : State} {p : Side} {tag : Nat} {r : AtsReq} (x : AtsResult)
    (hr : s.xlt.ats.find? (fun r => r.port = p && r.tag = tag) = some r) (hg : r.pasidGen = (s.ctx r.ctx).pasidGen)
    (hf : (s.ctx r.ctx).state ≠ .free) (hd : (s.ctx r.ctx).state ≠ .dead) (hs : r.stale = false) (ho : r.orphan = false) :
    atsCompletion p tag x s =
      (atsAnswer r (noteTimeout (dropAts s p tag) p (s.ctx r.ctx).func x) x).resumeWindows r.ctx := by
  rw [atsCompletion_known x hr]
  simp only [ho, hg, hf, hd, hs, ne_eq, not_true_eq_false, decide_false, Bool.or_false, Bool.false_eq_true, if_false]

/-- The largest journal entry that an invalidation must wait for, and every smaller one. -/
theorem cover_above (used : JEntry → Bool) : ∀ (l : List JEntry) (m : Nat),
    m ≤ l.foldl (fun m e => if used e then max m (e.seq + 1) else m) m ∧
    ∀ e ∈ l, used e = true → e.seq < l.foldl (fun m e => if used e then max m (e.seq + 1) else m) m
  | [], _ => ⟨Nat.le_refl _, fun _ h => absurd h (List.not_mem_nil)⟩
  | x :: l, m => by
    obtain ⟨hle, hlt⟩ := cover_above used l (if used x then max m (x.seq + 1) else m)
    refine ⟨Nat.le_trans ?_ hle, fun e he hu => ?_⟩
    · split
      · exact Nat.le_max_left ..
      · exact Nat.le_refl _
    · rcases List.mem_cons.mp he with rfl | he
      · refine Nat.lt_of_lt_of_le ?_ hle
        rw [if_pos hu]
        exact Nat.lt_of_succ_le (Nat.le_max_right ..)
      · exact hlt e he hu

/-- ATS_INVALIDATION_REQUEST that there is room for: what is dropped, marked and awaited. -/
theorem atsInvalidate_room {s : State} {p : Side} {f itag addr n : Nat} {pasid : Option Nat}
    (h : (s.xlt.inv.filter fun i => i.port = p && i.func = f).length < 32) :
    ∃ mine : AtsReq → Bool, atsInvalidate p f itag pasid addr n s =
      (s.dropAtc fun e => e.port = p && e.func = f && (match pasid with | some x => decide (e.pasid = x) | none => true) &&
        inRange e.page e.sizeLog addr n).modXlt fun x =>
        { x with
          ats := x.ats.map fun r => if mine r then { r with stale := true } else r
          inv := x.inv ++ [
            { port := p, func := f, itag := itag, pasid := pasid,
              cover := (s.port p).journal.foldl (fun m e => if s.usesPage f pasid addr n e.ctx e.page then max m (e.seq + 1) else m) 0,
              reads := ((s.port p).reqs.filter fun r => s.usesPage f pasid addr n r.ctx r.page).map (·.tag) }] } := by
  unfold atsInvalidate
  rw [if_neg (Nat.not_le.mpr h)]
  cases pasid with
  | none => exact ⟨_, rfl⟩
  | some x => exact ⟨_, rfl⟩

/-- An entry that a drop by port, function, PASID and range names. -/
theorem dropped_iff {e : AtcEntry} {p : Side} {f addr n : Nat} {pasid : Option Nat} :
    (e.port = p && e.func = f && (match pasid with | some x => decide (e.pasid = x) | none => true) &&
      inRange e.page e.sizeLog addr n) = true ↔
    (e.port = p ∧ e.func = f ∧ (∀ q, pasid = some q → e.pasid = q) ∧ inRange e.page e.sizeLog addr n = true) := by
  cases pasid <;> simp [and_assoc]

/-- An entry of an ATC partition after a drop. -/
theorem mem_dropAtc {s : State} {d : AtcEntry → Bool} {x : Side} {e : AtcEntry} :
    e ∈ (s.dropAtc d).xlt.atc.get x ↔ e ∈ s.xlt.atc.get x ∧ ¬ d e = true := by
  cases x <;> simp [State.dropAtc, State.modXlt, Two.get]

/-- Settles O47: a walk by its target, an ATS answer by the generations of its request, and the page requests by those they name. -/
theorem translationEventsAct : Obligations.TranslationEventsAct := by
  refine ⟨fun s n q cva acc hl hq hp hc hnf hnm => ?_, fun s n q cva r l u acc c hl hq hp hc ht hu => ?_,
    fun s n q cva page u acc c hl hq hp hc ht hu => ?_, fun s n cva e l acc hp hl hn => touch_holds hp hl hn,
    fun s u p tag r hr hu hg hf hd hs ho => ?_, fun s r addr k rr w hn => ?_, fun s u p tag x r hr hu hx => ?_,
    fun s p f itag addr n pasid h => ?_, fun s p f itag i hi hup hc hr => ?_, fun s u n p f i g code mine hc hn hm => ?_,
    fun s p i mine hm h => ?_, fun s p f id r hr ht => ?_⟩
  · refine congrArg Host.Outcome.next ((walkComplete_known acc hl hq hp hc).trans ?_)
    cases ht : (s.target n cva 1 acc).1 with
    | fail r l => exact absurd ht (hnf r l)
    | miss page => exact absurd ht (hnm page)
    | _ => rfl
  · refine congrArg Host.Outcome.next ((walkComplete_known acc hl hq hp hc).trans ?_)
    simp only [ht, hu]
  · refine congrArg Host.Outcome.next ((walkComplete_known acc hl hq hp hc).trans ?_)
    simp only [ht, hu]
  · subst hu
    have hans := fun x => atsCompletion_current x hr hg hf hd hs ho
    refine ⟨fun addr k rr w h1 h2 => congrArg Host.Outcome.next ((hans _).trans ?_),
      fun addr k rr w hq h => congrArg Host.Outcome.next ((hans _).trans ?_), congrArg Host.Outcome.next (hans _),
      congrArg Host.Outcome.next (hans _)⟩
    · have h1' : (decide (r.access = .write) || rr) = true := by
        by_cases h : r.access = .write <;> simp [h, h1]
      have h2' : (decide (r.access = .read) || w) = true := by
        by_cases h : r.access = .read <;> simp [h, h2]
      unfold atsAnswer
      simp only [h1', h2', Bool.and_self, if_true]
      rfl
    · have hno : ((decide (r.access = .write) || rr) && (decide (r.access = .read) || w)) = false := by
        rcases h with ⟨h, rfl⟩ | ⟨h, rfl⟩ <;> simp [h]
      unfold atsAnswer
      simp only [hno, Bool.false_eq_true, if_false, hq]
      rfl
  · refine ⟨{ port := r.port, func := (s.ctx r.ctx).func, pasid := (s.ctx r.ctx).pasid, ctx := r.ctx, page := r.page, sizeLog := k,
              addr := addr, r := rr, w := w }, ?_, rfl, rfl, rfl, rfl, rfl, rfl⟩
    show _ ∈ (Two.set _ _ _).get _
    rw [two_get_set_same]
    exact addBounded_last _ _ _ _ hn
  · subst hu
    have hknown := atsCompletion_known x hr
    have hnote : noteTimeout (dropAts s p tag) p (s.ctx r.ctx).func x = dropAts s p tag := if_neg hx
    rw [hnote] at hknown
    refine ⟨fun ho => congrArg Host.Outcome.next (hknown.trans ?_), fun ho hg => congrArg Host.Outcome.next (hknown.trans ?_)⟩
    · rw [if_pos ho]
      rfl
    · rw [if_neg (by simp [ho]), if_pos (by simp [hg])]
      rfl
  · obtain ⟨mine, hrun⟩ := atsInvalidate_room (itag := itag) (addr := addr) (n := n) (pasid := pasid) h
    refine goes_to (congrArg Host.Outcome.next hrun) ⟨⟨_, _, rfl, fun e he hu => (cover_above _ _ 0).2 e he hu, fun r hr hu => ?_⟩,
      fun x e he => ?_, fun x e he hn => ?_, ?_⟩
    · exact List.mem_map_of_mem (List.mem_filter.mpr ⟨hr, hu⟩)
    · obtain ⟨hin, hd⟩ := mem_dropAtc.mp he
      exact ⟨hin, mt dropped_iff.mpr hd⟩
    · exact mem_dropAtc.mpr ⟨he, mt dropped_iff.mp hn⟩
    · exact same_of_frame (m := 128) (by rw [← hrun]; exact atsInvalidate_frame _ _ _ _ _ _ _ rfl Frame.rfl) rfl
  · refine congrArg Host.Outcome.next ?_
    show atsInvDone p f.val itag s = _
    unfold atsInvDone
    rw [hi]
    dsimp only
    have hno : ((s.port p).reqs.any fun r => i.reads.contains r.tag) = false := by
      rw [List.any_eq_false]
      intro r hin
      simp [hr r hin]
    rw [hno, hup, decide_eq_true hc]
    rfl
  · subst hm
    refine congrArg Host.Outcome.next ((stamped_go hc).trans ?_)
    rw [hn]
    show u.prg p f.val i g code = _
    unfold State.prg
    simp only [Bool.not_eq_true']
    split
    · rfl
    · cases code <;> rfl
  · subst hm
    exact congrArg Host.Outcome.next (if_neg (by rw [Bool.not_eq_true', Bool.not_eq_false]; exact h))
  · refine congrArg Host.Outcome.next ?_
    show stallLimit p f.val id s = _
    unfold stallLimit
    rw [hr]
    exact if_pos ht

end Sys2Proof.Laws
end
section
/-! Links and ports. -/
namespace Sys2Proof.Laws

open Sys2Proof Sys2Proof.Machine

set_option maxRecDepth 8000

/-- What the port is once its link has trained. -/
def trainedPort (x : Port) (speed width : Nat) (flit mem : Bool) : Port :=
  { x with
    up := true, trained := true, training := false, speed := if mem then min speed 6 else speed, width := width, flit := flit
    cxl := mem, holding := false, replayDue := x.holding, replayAt := 0, genDue := false }

/-- INTA is sent again: of the port, INTA alone changes. -/
theorem resendInta_port (s : State) (p : Side) : ∃ b, (s.resendInta p).port p = { s.port p with inta := b } := by
  refine ⟨s.intaWanted p, ?_⟩
  unfold State.resendInta
  dsimp only
  split
  · exact port_modPort s p fun x => { x with inta := s.intaWanted p }
  · exact port_modPort s p _

/-- A training that is taken: of the port, INTA alone is not settled by what was negotiated. -/
theorem linkTraining_port {s : State} {p : Side} {speed width : Nat} {flit cxl : Bool} (hu : (s.port p).up = false)
    (hc : s.carries p = true) (hg : (s.port p).genDue = true → s.domainHeld (50 + p.num) = false) :
    ∃ b, (linkTraining p speed width flit cxl s).port p =
      { trainedPort (s.port p) speed width flit (cxl && flit && (s.port p).offer && decide (5 ≤ speed)) with inta := b } := by
  have hno : ((s.port p).up || !s.carries p || ((s.port p).genDue && s.domainHeld (50 + p.num))) = false := by
    cases h : (s.port p).genDue
    · simp [hu, hc]
    · simp [hu, hc, hg h]
  unfold linkTraining
  dsimp only
  rw [if_neg (by rw [hno]; exact Bool.false_ne_true)]
  generalize hv : s.setPort p _ = v
  have hport : v.port p = trainedPort (s.port p) speed width flit (cxl && flit && (s.port p).offer && decide (5 ≤ speed)) := by
    rw [← hv]
    exact port_setPort ..
  have hkeep : ∀ (b c d : Bool) (w : State), w = (if b = true then v.advanceGen (50 + p.num) else v) →
      ∀ x : State, x = (if c = true then w.resendRequests fun r => r.port = p else w) →
      (if d = true then x.comeBack [ptrHost p] else x).port p = v.port p := by
    rintro b c d w rfl x rfl
    cases b <;> cases c <;> cases d <;> rfl
  obtain ⟨b, hb⟩ := resendInta_port _ p
  refine ⟨b, hb.trans ?_⟩
  rw [hkeep _ _ _ _ rfl _ rfl, hport]

/-- The port's own registers and states after a hot or conventional reset. -/
def resetPortRegs (x : Port) : Port :=
  { x with
    capHidden := true, up := false, retrains := 0, holding := false, holdMs := Port.reset.holdMs, offer := Port.reset.offer
    holdCfg := Port.reset.holdCfg, lost := some 2, genDue := true, inService := false, replayDue := false, flushAddr := 0
    replays := 0, discards := 0, refused := 0, flushErr := false, full := false, acked := false, jacked := 0, lastAck := noStamp
    mse := false, vfEnable := false, bar4 := 0, hdm0 := 0, hdm1 := 0, disable := false, inta := false }

/-- The functions of a port after its reset: their pending events stand. -/
def resetPortFuncs (p : Side) (k : Nat) (f : Func) : Func := if k / 128 = p.num then { Func.reset with event := f.event } else f

/-- A reset of a port that is no CXL port and has no TDI. -/
theorem portReset_plain {s : State} {p : Side} (hc : (s.port p).cxl = false) (ht : (s.port p).tdis = []) :
    portReset p s =
      (((((s.modPort p resetPortRegs).mapFuncs (resetPortFuncs p)).keepFuncs fun x => x.2 ≠ Func.reset).dropSels p).modXlt fun t =>
        { t with deadPrg := t.deadPrg.set p [], inv := t.inv.filter fun i => i.port ≠ p }) := by
  have hfrozen : (s.port p).frozen = [] := by
    unfold Port.frozen
    rw [ht]
    rfl
  unfold portReset
  dsimp only
  rw [hfrozen, hc]
  show s.resetPort 0 p = _
  unfold State.resetPort State.tdisError
  dsimp only
  rw [hfrozen, hc]
  rfl

/-- What a table holds after each value is changed and some are dropped. -/
theorem mem_filter_mapVal {α : Type} {f : Nat → α → α} {k : Nat × α → Bool} {t : Tbl α} {y : Nat × α} :
    y ∈ (Tbl.mapVal f t).filter k ↔ (∃ v, (y.1, v) ∈ t ∧ y.2 = f y.1 v) ∧ k y = true := by
  rw [List.mem_filter]
  refine and_congr_left fun _ => ?_
  unfold Tbl.mapVal
  rw [List.mem_map]
  constructor
  · rintro ⟨x, hx, rfl⟩
    exact ⟨x.2, hx, rfl⟩
  · rintro ⟨v, hv, hy⟩
    exact ⟨(y.1, v), hv, Prod.ext rfl hy.symm⟩

/-- Settles O48: each link event sets its port, and what follows it leaves the port but for INTA. -/
theorem linksGoDownAndReturn : Obligations.LinksGoDownAndReturn := by
  refine ⟨fun s p us hu => ?_, fun s p speed width flit cxl hu hc hg => ?_, fun s p speed width flit cxl h => ?_,
    fun s p hh hc hw => ?_, fun s u p n hh hc hd hw hn => ?_, fun s p hc ht => ?_⟩
  · exact congrArg Host.Outcome.next (if_neg (by simp [hu]))
  · obtain ⟨b, hb⟩ := linkTraining_port (speed := speed.val) (width := width.val) (flit := flit) (cxl := cxl) hu hc hg
    refine goes_to rfl ?_
    show (linkTraining p speed.val width.val flit cxl s |>.port p).up = true ∧ _
    rw [hb]
    refine ⟨rfl, rfl, rfl, rfl, rfl, rfl, rfl, rfl, rfl, ?_⟩
    exact same_of_frame (linkTraining_frame _ _ _ _ _ _ (M := 1122688) rfl Frame.rfl) rfl
  · refine congrArg Host.Outcome.next (if_pos ?_)
    rcases h with h | h | ⟨h1, h2⟩
    · simp [h]
    · simp [h]
    · simp [h1, h2]
  · refine congrArg Host.Outcome.next ((if_pos ?_).trans ?_)
    · simp [hh, hw]
    · simp only [hc, Bool.false_and]
      rfl
  · refine congrArg Host.Outcome.next ((if_pos ?_).trans ?_)
    · simp [hh, hw]
    · have hask : ((s.port p).cxl && !s.coh.dead.contains (ptrHost p)) = true := by simp [hc, hd]
      refine (if_pos hask).trans ?_
      unfold State.stamped
      rw [hn]
      (repeat' split) <;> rfl
  · have hport : (((((s.modPort p resetPortRegs).mapFuncs (resetPortFuncs p)).keepFuncs fun x => x.2 ≠ Func.reset).dropSels p).modXlt
        fun t => { t with deadPrg := t.deadPrg.set p [], inv := t.inv.filter fun i => i.port ≠ p }).port p =
        resetPortRegs (s.port p) := port_modPort ..
    refine goes_to (congrArg Host.Outcome.next (portReset_plain hc ht)) ?_
    rw [hport]
    refine ⟨rfl, rfl, rfl, rfl, rfl, rfl, rfl, rfl, rfl, rfl, rfl, rfl, port_modPort_other .., fun y hy hp => ?_, fun y hy hp hne => ?_,
      fun y hy hp => ?_, ?_⟩
    · obtain ⟨⟨v, hv, hyv⟩, -⟩ := mem_filter_mapVal.mp hy
      rw [resetPortFuncs, if_neg hp] at hyv
      rwa [← hyv] at hv
    · refine mem_filter_mapVal.mpr ⟨⟨y.2, hy, ?_⟩, by simpa using hne⟩
      rw [resetPortFuncs, if_neg hp]
    · obtain ⟨⟨v, hv, hyv⟩, -⟩ := mem_filter_mapVal.mp hy
      rw [resetPortFuncs, if_pos hp] at hyv
      exact ⟨v, hv, hyv⟩
    · exact same_of_frame (State.modXlt_frame _ _ (M := 525184) rfl (State.dropSels_frame _ _ rfl (State.keepFuncs_frame _ _ rfl
        (State.mapFuncs_frame _ _ rfl (State.modPort_frame _ _ _ rfl Frame.rfl))))) rfl

end Sys2Proof.Laws
end

section
/-! Function resets and configuration. -/
namespace Sys2Proof.Laws

open Sys2Proof Sys2Proof.Machine

set_option maxRecDepth 8000

/-- A configuration request to a function that is there and in no FLR. -/
theorem configured_go {s : State} {p : Side} {f : Nat} (hu : (s.port p).up = true) (hf : (s.func p f).flr = false) (k : State → State) :
    s.configured p f k = k s := by
  unfold State.configured
  rw [hu, hf]
  rfl

/-- A configuration request while the FLR runs. -/
theorem configured_retry {s : State} {p : Side} {f : Nat} (hu : (s.port p).up = true) (hf : (s.func p f).flr = true)
    (k : State → State) : s.configured p f k = s.emit (.cfgRetry p f) := by
  unfold State.configured
  rw [hu, hf]
  rfl

/-- A configuration request over a link that is down. -/
theorem configured_down {s : State} {p : Side} {f : Nat} (hu : (s.port p).up = false) (k : State → State) : s.configured p f k = s := by
  unfold State.configured
  rw [hu]
  rfl

/-- What a function becomes depends on the functions alone. -/
theorem modFunc_funcs {s t : State} (h : s.funcs = t.funcs) (p : Side) (f : Nat) (g : Func → Func) :
    (s.modFunc p f g).funcs = (t.modFunc p f g).funcs := by
  unfold State.modFunc State.setFunc State.func
  rw [h]

/-- What a teardown that begins makes of the contexts depends on the contexts alone. -/
theorem beginTeardown_ctxs {s t : State} (h : s.ctxs = t.ctxs) (k code st : Nat) :
    (s.beginTeardown k code st).ctxs = (t.beginTeardown k code st).ctxs := by
  unfold State.beginTeardown State.setCtx State.ctx
  rw [h]
  dsimp only
  split
  · exact h
  · rfl

/-- So it is for a list of them. -/
theorem beginTeardowns_ctxs (code st : Nat) : ∀ (l : List Nat) {s t : State}, s.ctxs = t.ctxs →
    (l.foldl (fun v k => v.beginTeardown k code st) s).ctxs = (l.foldl (fun v k => v.beginTeardown k code st) t).ctxs
  | [], _, _, h => h
  | k :: l, _, _, h => beginTeardowns_ctxs code st l (beginTeardown_ctxs h k code st)

/-- INTA leaves the journals. -/
theorem inta_journal (s : State) (q : Side) : (s.inta.port q).journal = (s.port q).journal := by
  have one : ∀ (s : State) (p : Side), ((s.inta1 p).port q).journal = (s.port q).journal := by
    intro s p
    unfold State.inta1
    dsimp only
    split
    · rfl
    · split <;> cases p <;> cases q <;> rfl
  unfold State.inta
  rw [one, one]

/-- Vectors that become QUIET leave the journals. -/
theorem quietVectors_journal (s : State) (p : Side) (f : Nat) (q : Side) :
    ((s.quietVectors p f).port q).journal = (s.port q).journal := by
  unfold State.quietVectors
  rw [inta_journal]
  have hfold : ∀ (l : List (Nat × Nat)) (s : State), (l.foldl (fun s (g, v) => s.modVec g v Vec.quieten) s).ports = s.ports := by
    intro l s
    exact (Frame.foldl (m := 1024) (fun s x fr => State.modVec_frame s x.1 x.2 Vec.quieten (M := 1024) rfl fr) Frame.rfl).ports rfl
  exact congrArg (fun ports => (ports.get q).journal) (hfold _ s)

/-- The entries of a function leave both journals, its translations the ATCs. -/
def dropTraces (v : State) (f : Nat) : State :=
  ((v.dropEntries .a fun e => e.func = f).dropEntries .b fun e => e.func = f).dropAtc fun e => e.func = f

/-- The functions once a VF's reset has begun: it is silenced on both ports. -/
def beginReset (v : State) (p : Side) (f : Nat) : State :=
  ((v.dropFnSels p f).modFunc p f fun x => { x.clearConfig with flr := true, silenced := true, event := 7 }).modFunc p.other f
    fun x => { x with silenced := true, ready := false, event := 7 }

/-- What a reset leaves of a function's traces in the journals. -/
theorem dropTraces_journal (v : State) (f : Nat) (q : Side) :
    ((dropTraces v f).port q).journal = (v.port q).journal.filter fun e => !decide (e.func = f) := by
  cases q <;> rfl

/-- What a reset leaves of a function's traces in the ATCs. -/
theorem dropTraces_atc (v : State) (f : Nat) (q : Side) :
    (dropTraces v f).xlt.atc.get q = (v.xlt.atc.get q).filter fun e => !decide (e.func = f) := by
  cases q <;> rfl

/-- Dropping traces touches translation and the ports alone. -/
theorem dropTraces_frame (v : State) (f : Nat) : Frame 384 v (dropTraces v f) :=
  State.dropAtc_frame _ _ rfl (State.dropEntries_frame _ _ _ rfl (State.dropEntries_frame _ _ _ rfl Frame.rfl))

/-- Beginning a reset touches the functions and the selections alone. -/
theorem beginReset_frame (v : State) (p : Side) (f : Nat) : Frame 524800 v (beginReset v p f) :=
  State.modFunc_frame _ _ _ _ rfl (State.modFunc_frame _ _ _ _ rfl (State.dropFnSels_frame _ _ _ rfl Frame.rfl))

/-- The reset of a VF that has no TDI under way, step by step. -/
theorem functionReset_vf {u : State} {n f : Nat} {p : Side} (hf : f ≠ 0) (ha : (u.tdi .a f).state = .unlocked)
    (hb : (u.tdi .b f).state = .unlocked) :
    u.functionReset n p f =
      ((u.ctxsOf f).foldl (fun v k => v.beginTeardown k E.contextDead n) (dropTraces (beginReset u p f) f)).quietVectors p f := by
  have hall : ((u.ctxsOf f).filter fun i => decide (f ≠ 0) || (u.ctx i).port = p) = u.ctxsOf f := by
    rw [List.filter_eq_self]
    intro i _
    simp [hf]
  have hdrop : ∀ (q : Side) (v : State), (v.dropEntries q fun e => e.func = f && (decide (f ≠ 0) || q = p)) =
      v.dropEntries q fun e => e.func = f := by
    intro q v
    simp [hf]
  have ha' : ((beginReset u p f).tdi .a f).state = .unlocked := ha
  have hb' : ((beginReset u p f).tdi .b f).state = .unlocked := hb
  unfold State.functionReset
  dsimp only
  rw [hall]
  simp only [if_neg hf, List.foldl_cons, List.foldl_nil]
  rw [show ((u.dropFnSels p f).modFunc p f fun x => { x.clearConfig with flr := true, silenced := true, event := 7 }).modFunc p.other f
    (fun x => { x with silenced := true, ready := false, event := 7 }) = beginReset u p f from rfl]
  rw [if_pos ha', if_pos hb', hdrop, hdrop]
  simp only [hf, ne_eq, not_false_eq_true, decide_true, Bool.true_or, Bool.and_true]
  rfl

/-- VF Enable falls on a port without TDIs. -/
theorem dropVfs_plain {s : State} {st : Nat} {p : Side} (ht : (s.port p).tdis = []) :
    ∃ fs : List Nat, s.dropVfs st p = fs.foldl (fun s f => s.modFunc p f fun x => { x with event := max x.event 6 })
      ((s.modPort p fun x => { x with vfEnable := false }).mapFuncs fun k f =>
        if k / 128 = p.num && k % 128 ≠ 0 then f.clearConfig else f) := by
  have herr : s.tdisError st p = s := by
    unfold State.tdisError Port.frozen
    rw [ht]
    rfl
  unfold State.dropVfs
  dsimp only
  rw [herr]
  exact ⟨_, rfl⟩

/-- What the reset of a VF makes of the contexts, the functions, the journals and the ATCs. -/
theorem functionReset_effect {s u : State} {n f : Nat} {p : Side} (hf : f ≠ 0) (ha : (s.tdi .a f).state = .unlocked)
    (hb : (s.tdi .b f).state = .unlocked) (hn : s.stamp = (n, u)) :
    let t := u.functionReset n p f
    t.ctxs = ((s.ctxsOf f).foldl (fun v k => v.beginTeardown k E.contextDead n) s).ctxs ∧
    t.funcs = ((s.modFunc p f fun x => { x.clearConfig with flr := true, silenced := true, event := 7 }).modFunc p.other f
        fun x => { x with silenced := true, ready := false, event := 7 }).funcs ∧
    (∀ q, (t.port q).journal = (s.port q).journal.filter fun e => !decide (e.func = f)) ∧
    (∀ q, t.xlt.atc.get q = (s.xlt.atc.get q).filter fun e => !decide (e.func = f)) := by
  have hu : Frame 2 s u := by
    rw [show u = s.stamp.2 from (congrArg Prod.snd hn).symm]
    exact State.stamp_frame s rfl Frame.rfl
  have htdi : ∀ q, u.tdi q f = s.tdi q f := fun q => by
    unfold State.tdi State.port
    rw [hu.ports rfl]
  have hctx : u.ctxs = s.ctxs := hu.ctxs rfl
  have hof : u.ctxsOf f = s.ctxsOf f := by
    unfold State.ctxsOf
    rw [hctx]
  have hdown : Frame 8 (dropTraces (beginReset u p f) f)
      ((s.ctxsOf f).foldl (fun v k => v.beginTeardown k E.contextDead n) (dropTraces (beginReset u p f) f)) :=
    Frame.foldl (fun v k fr => State.beginTeardown_frame v k _ _ rfl fr) Frame.rfl
  have hquiet : ∀ v : State, Frame 1049856 v (v.quietVectors p f) := fun v => State.quietVectors_frame v p f rfl Frame.rfl
  have hbegin := beginReset_frame u p f
  have htraces := dropTraces_frame (beginReset u p f) f
  dsimp only
  rw [functionReset_vf hf (by rw [htdi]; exact ha) (by rw [htdi]; exact hb), hof]
  refine ⟨?_, ?_, fun q => ?_, fun q => ?_⟩
  · rw [(hquiet _).ctxs rfl]
    exact beginTeardowns_ctxs _ _ _ (((htraces.ctxs rfl).trans (hbegin.ctxs rfl)).trans hctx)
  · rw [(hquiet _).funcs rfl, hdown.funcs rfl, htraces.funcs rfl]
    have hsel : (u.dropFnSels p f).funcs = s.funcs := hu.funcs rfl
    exact modFunc_funcs (modFunc_funcs hsel p f _) p.other f _
  · rw [quietVectors_journal]
    unfold State.port
    rw [hdown.ports rfl]
    refine (dropTraces_journal _ f q).trans ?_
    unfold State.port
    rw [hbegin.ports rfl, hu.ports rfl]
  · rw [(hquiet _).xlt rfl, hdown.xlt rfl, dropTraces_atc, hbegin.xlt rfl, hu.xlt rfl]

/-- Settles O49: a function's reset runs step by step on the stamped state, and each step leaves the parts the next one reads. -/
theorem functionsAreResetAndConfigured : Obligations.FunctionsAreResetAndConfigured := by
  refine ⟨fun i s u p f n hi hf ha hb hn => ?_, fun x => ⟨rfl, rfl, rfl, rfl, rfl, rfl⟩, fun s p f hr ht hf => ?_,
    fun s u p f hr ht hf hu => ?_, fun s p f ht => ?_, fun s p hv ht hu hf => ?_, fun s u p f hu hf hus => ?_,
    fun s p f hu hf => congrArg Host.Outcome.next (configured_go hu hf _), fun i s p f c hi => ?_, fun s p f v hu hf => ?_,
    fun s p v n hu hf => ?_, fun s p f x hu hf => congrArg Host.Outcome.next (configured_go hu hf _)⟩
  · have hrun : exec i s = .next (s.stamped i fun st s => s.functionReset st p f.val) := by
      rcases hi with rfl | ⟨rfl, hd, hu, hr⟩
      · rfl
      · exact congrArg Host.Outcome.next ((configured_go hu hr _).trans (if_pos hd))
    refine ⟨fun hc => ?_, fun hc => ?_⟩
    · rw [hrun]
      unfold State.stamped
      rw [hc]
      rfl
    · rw [stamped_go hc, hn] at hrun
      exact goes_to hrun (functionReset_effect hf ha hb hn)
  · refine congrArg Host.Outcome.next ?_
    show flrComplete p f.val s = _
    unfold flrComplete
    rw [if_neg (by simp [hr, ht])]
    exact if_pos (by simp [hf])
  · subst hu
    refine congrArg Host.Outcome.next ?_
    show flrComplete p f.val s = _
    unfold flrComplete
    rw [if_neg (by simp [hr, ht])]
    simp only [hf, decide_false, Bool.false_or]
  · refine congrArg Host.Outcome.next (if_pos ?_)
    rw [ht, Bool.or_true]
  · have hplain : (s.port p).frozen = [] := by
      unfold Port.frozen
      rw [ht]
      rfl
    obtain ⟨fs, hfs⟩ := dropVfs_plain (st := 0) ht
    have hrun : exec (.vfEnableClear p) s = .next (s.dropVfs 0 p) := by
      refine congrArg Host.Outcome.next ((configured_go hu hf _).trans ((if_pos hv).trans ?_))
      rw [hplain]
      rfl
    have hframe : ∀ v : State, Frame 512 v (fs.foldl (fun s f => s.modFunc p f fun x => { x with event := max x.event 6 }) v) :=
      fun v => Frame.foldl (fun s f fr => State.modFunc_frame s p f _ rfl fr) Frame.rfl
    refine goes_to hrun ⟨?_, ?_⟩
    · rw [hfs, (hframe _).ports rfl]
      rfl
    · rw [hfs]
      exact same_of_frame (m := 768) (Frame.foldl (fun s f fr => State.modFunc_frame s p f _ rfl fr)
        (State.mapFuncs_frame _ _ rfl (State.modPort_frame _ _ _ rfl Frame.rfl))) rfl
  · subst hus
    exact congrArg Host.Outcome.next (configured_go hu hf _)
  · refine ⟨fun hu hr => ?_, fun hu => ?_⟩
    · rcases hi with rfl | rfl | rfl | rfl | ⟨rfl, hf⟩
      · exact congrArg Host.Outcome.next (configured_retry hu hr _)
      · exact congrArg Host.Outcome.next (configured_retry hu hr _)
      · exact congrArg Host.Outcome.next (configured_retry hu hr _)
      · exact congrArg Host.Outcome.next (configured_retry hu hr _)
      · rw [hf] at hr ⊢
        exact congrArg Host.Outcome.next (configured_retry hu hr _)
    · rcases hi with rfl | rfl | rfl | rfl | ⟨rfl, hf⟩ <;> exact congrArg Host.Outcome.next (configured_down hu _)
  · have hgo := fun k => congrArg (Host.Outcome.next (φ := Fault) (ρ := Refusal)) (configured_go hu hf k)
    exact ⟨hgo _, hgo _, hgo _, hgo _, hgo _, hgo _⟩
  · have hgo := fun k => congrArg (Host.Outcome.next (φ := Fault) (ρ := Refusal)) (configured_go hu hf k)
    refine ⟨hgo _, hgo _, fun hm h6 h11 => (hgo _).trans ?_, fun hn => (hgo _).trans ?_, hgo _⟩
    · refine congrArg Host.Outcome.next (if_pos ?_)
      simp [hm, h6, h11]
    · refine congrArg Host.Outcome.next (if_pos ?_)
      rcases hn with rfl | rfl | rfl <;> rfl

end Sys2Proof.Laws
end

section
/-! Discovery, the tick of the fabric, and its links. -/
namespace Sys2Proof.Laws

open Sys2Proof Sys2Proof.Machine

set_option maxRecDepth 8000

/-- An event of discovery once it has begun. -/
theorem discoveryPhaseEnd_begun {s : State} (h : s.discovering = true) :
    discoveryPhaseEnd s =
      match s.fab.phase with
      | 0 =>
        if s.fab.quiet ≥ 16 && s.fab.length ≥ 64 then (s.enterPhase 1).modFab fun f => { f with best := ownSerial, dist := 0 } else s
      | 1 =>
        if s.fab.quiet < 33 then s
        else
          let root := s.fab.best = ownSerial
          let s := (s.enterPhase 2).modFab fun f =>
            { f with isRoot := root, parent := if root then none else s.electParent, detached := decide (f.dist > 32) }
          if root then s.modFab fun f => { f with nodes := mergeNodes f.nodes [s.ownNode] }
          else match s.fab.parent with
            | some l => s.emit (.censusHop l (s.ownNode :: s.fab.nodes))
            | none => s
      | 2 => if !s.fab.isRoot then s.enterPhase 3 else if censusDone s.fab.nodes then (s.enterPhase 3).makeMap true else s
      | 3 =>
        if s.fab.map.isEmpty then s
        else if !s.fab.isRoot then s.enterPhase 4
        else (s.enterPhase 4).modFab fun f => { f with startIn := some (f.diameter + 2) }
      | _ => s := by
  unfold discoveryPhaseEnd
  rw [h] <;> rfl

/-- The election takes the least of what the neighbours know. -/
theorem elect_of_min {s : State} {b d : Nat}
    (h : pairMin ((ownSerial, 0) :: (s.linksUp.filter fun x => x.2.heard).map fun x => (x.2.best, x.2.dist + 1)) = some (b, d)) :
    s.elect = if b = s.fab.best && d = s.fab.dist then s else s.modFab fun f => { f with best := b, dist := d, quiet := 0 } := by
  unfold State.elect
  dsimp only
  rw [h]

/-- A HELLO in the election phase. -/
theorem hello_elect {s : State} {link serial pl best dist : Nat} (hd : s.discovering = true) (hu : (s.flink link).up = true)
    (hp : s.fab.phase = 1) :
    hello link serial pl best dist none s =
      (s.modLink link fun x => { x with heard := true, peerSerial := serial, peerLink := pl, best := best, dist := dist }).elect := by
  unfold hello
  rw [if_neg (by simp [hd, hu])]
  exact if_pos hp

/-- A HELLO with an answer, before the election: the device joins the fabric that answers. -/
theorem hello_answered {s : State} {link serial pl best dist : Nat} (a : FabAnswer) (hd : s.discovering = true)
    (hu : (s.flink link).up = true) (hp : s.fab.phase = 0) :
    (hello link serial pl best dist (some a) s).fab.phase = 6 ∧ (hello link serial pl best dist (some a) s).fab.joining = true ∧
      (hello link serial pl best dist (some a) s).fab.parent = some link ∧
      (hello link serial pl best dist (some a) s).fab.root = a.root := by
  unfold hello
  rw [if_neg (by simp [hd, hu])]
  dsimp only
  rw [if_pos (by rw [Bool.or_eq_true]; exact .inl (decide_eq_true hp))]
  exact ⟨rfl, rfl, rfl, rfl⟩

/-- An offset that does not end a run of sixteen. -/
theorem skewed_run {s : State} {o : Int} (h : s.fab.skewTicks + 1 = 16 → o.natAbs ≤ 50) :
    s.skewed o = s.modFab fun f =>
      { f with missed := 0, skewNow := (o % 65536).toNat, skewMax := max f.skewMax (min o.natAbs 65535),
               skewTicks := if 50 < o.natAbs then s.fab.skewTicks + 1 else 0 } := by
  have hn : (if 50 < o.natAbs then s.fab.skewTicks + 1 else 0) ≠ 16 := by
    split
    · intro h16
      have := h h16
      omega
    · decide
  unfold State.skewed
  dsimp only
  rw [if_neg hn]
  simp only [hn, decide_false, Bool.or_false, gt_iff_lt]

/-- A beacon from the parent. -/
theorem beacon_parent {s : State} {link n : Nat} {o : Int} (hd : s.discovering = true) (hp : s.fab.parent = some link) :
    beacon link n o s =
      match s.fab.phase with
      | 3 | 4 =>
        if s.fab.startIn.isSome then s
        else (s.enterPhase 4).modFab fun f => { f with startIn := some n }
      | 5 => let s := s.skewed o; if o.natAbs > 1000 then s.rejoin true else s
      | 6 =>
        let s := s.skewed o
        let n := if o.natAbs ≤ 50 then s.fab.steady + 1 else 0
        if n ≥ 16 && s.time.agreed then
          s.modFab fun f => { f with phase := 5, joining := false, detached := decide (f.dist > 32), steady := 0 }
        else s.modFab fun f => { f with steady := n }
      | _ => s := by
  unfold beacon
  rw [if_neg (by simp [hd, hp])] <;> rfl

/-- The root is lost and no link is up. -/
theorem beaconLoss_alone {s : State} (hp : s.fab.phase = 5) (hr : s.fab.isRoot = false) (hm : 4 ≤ s.fab.missed)
    (hl : s.linksUp = []) :
    beaconLoss s =
      if s.fab.dist = 1 && (s.fab.map.map (·.1)).all fun n => n.dist ≠ 1 || decide (ownSerial ≤ n.serial) then
        (s.modFab fun f =>
          { f with isRoot := true, parent := none, missed := 0, nodes := (s.fab.map.map (·.1)).filter fun n => n.dist ≠ 0 }).makeMap false
      else s.rejoin false := by
  have hno : (decide (s.fab.phase ≠ 5) || s.fab.isRoot || decide (s.fab.missed < 4)) = false := by
    simp [hp, hr, hm]
  unfold beaconLoss
  rw [if_neg (by rw [hno]; exact Bool.false_ne_true)]
  dsimp only
  rw [hl]
  rfl

/-- Settles O53: each event by the phase it finds, then by what the device knows of its neighbours. -/
theorem discoveryAndLinksAct : Obligations.DiscoveryAndLinksAct := by
  refine ⟨fun s hd hp => ?_, fun s hd hp hq => ?_, fun s hd hp hq hb => ?_, fun s hd hp hq hb => ?_, fun s hd hp hr hc => ?_,
    fun s hd hp hr hm => ?_, fun s link serial pl best dist pin hd hu hp => ?_, fun s l b d hmin => ?_,
    fun s link serial pl best dist pin a hd hu hp => goes_to rfl (hello_answered a hd hu hp), fun s link n x hd hx hu hl => ?_,
    fun s link l hd h1 h5 h => ?_, fun s link l hd hp hr => ?_, fun s link l p hd h2 hr hp => ?_, fun s link m hd hp h => ?_,
    fun s link m hd hp h => ?_, fun s link n o hd hp h hs => ?_, fun s link n o u hd hp h hu => ?_, fun s o h => skewed_run h,
    fun s hp hr hm hl hd => ?_, fun s hp hr hm hl hd hfirst => ?_, fun s link d r n hj => ?_, fun s link hu => ?_,
    fun s link hu hr hf => ?_, fun s link d l hu hg => ?_⟩
  · refine congrArg Host.Outcome.next ((discoveryPhaseEnd_begun hd).trans ?_)
    simp only [hp, Bool.and_eq_true, decide_eq_true_eq, ge_iff_le]
    rfl
  · refine congrArg Host.Outcome.next ((discoveryPhaseEnd_begun hd).trans ?_)
    simp only [hp, hq, if_true]
  · have hrun : discoveryPhaseEnd s = _ := discoveryPhaseEnd_begun hd
    simp only [hp, if_neg (Nat.not_lt.mpr hq), hb, if_true] at hrun
    exact goes_to (congrArg Host.Outcome.next hrun) ⟨rfl, rfl, rfl, rfl⟩
  · have hrun : discoveryPhaseEnd s = _ := discoveryPhaseEnd_begun hd
    simp only [hp, if_neg (Nat.not_lt.mpr hq), hb, if_false] at hrun
    generalize hv : ((s.enterPhase 2).modFab fun f => _) = v at hrun
    have hpar : v.fab.parent = s.electParent := by
      rw [← hv]
      rfl
    have hroot : v.fab.phase = 2 ∧ v.fab.isRoot = false ∧ v.out = s.out ∧ v.fab.nodes = s.fab.nodes := by
      rw [← hv]
      exact ⟨rfl, rfl, rfl, rfl⟩
    obtain ⟨hphase, hroot, hout, hnodes⟩ := hroot
    rw [hpar] at hrun
    cases he : s.electParent with
    | none =>
      rw [he] at hrun
      exact goes_to (congrArg Host.Outcome.next hrun) ⟨hphase, hroot, hpar.trans he, fun l hl => absurd hl (by simp)⟩
    | some k =>
      rw [he] at hrun
      refine goes_to (congrArg Host.Outcome.next hrun) ⟨hphase, hroot, hpar.trans he, fun l hl => ⟨v.ownNode, ?_, rfl⟩⟩
      obtain rfl := Option.some.inj hl
      show v.out ++ _ = _
      rw [hout, hnodes]
  · refine congrArg Host.Outcome.next ((discoveryPhaseEnd_begun hd).trans ?_)
    simp only [hp, hr, hc, Bool.not_true, Bool.false_eq_true, if_false, if_true]
    rfl
  · refine congrArg Host.Outcome.next ((discoveryPhaseEnd_begun hd).trans ?_)
    simp only [hp, hr, List.isEmpty_iff, hm, Bool.not_true, Bool.false_eq_true, if_false]
    rfl
  · exact congrArg Host.Outcome.next (hello_elect hd hu hp)
  · rw [elect_of_min hmin]
    by_cases h : b = s.fab.best ∧ d = s.fab.dist
    · rw [if_pos (by simpa using h)]
      exact ⟨h.1.symm, h.2.symm, fun hl => by rw [if_pos h, hl]⟩
    · rw [if_neg (by simpa using h)]
      exact ⟨rfl, rfl, fun _ => (if_neg h).symm⟩
  · subst hx
    refine congrArg Host.Outcome.next ?_
    show probe link.val n s = _
    unfold probe
    dsimp only
    rw [if_neg (by simp [hd, hu, hl])]
    simp
  · refine congrArg Host.Outcome.next ?_
    show census l s = _
    unfold census
    rw [if_neg (by simp [hd]; omega), if_pos]
    rcases h with h | h <;> simp [h, h5]
  · refine congrArg Host.Outcome.next ?_
    show census l s = _
    unfold census
    simp [hd, hp, hr]
  · refine congrArg Host.Outcome.next ?_
    show census l s = _
    unfold census
    rw [if_neg (by simp [hd]; omega), if_neg (by simp [hr]; omega), hr, hp]
    rfl
  · refine congrArg Host.Outcome.next ?_
    show fabricMap link.val m.nodes s = _
    unfold fabricMap
    rw [if_neg (by simp [hd, hp]), if_pos (by simpa using h)]
    rfl
  · refine congrArg Host.Outcome.next ?_
    show fabricMap link.val m.nodes s = _
    unfold fabricMap
    simp [hd, hp, h]
  · refine congrArg Host.Outcome.next ((beacon_parent hd hp).trans ?_)
    rcases h with h | h <;> simp only [h, hs] <;> rfl
  · subst hu
    refine congrArg Host.Outcome.next ((beacon_parent hd hp).trans ?_)
    simp only [h, State.rejoin, Bool.or_true, gt_iff_lt]
  · refine congrArg Host.Outcome.next ((beaconLoss_alone hp hr hm hl).trans ?_)
    simp only [hd, decide_false, Bool.false_and, Bool.false_eq_true, if_false, State.rejoin, Bool.or_false]
  · refine congrArg Host.Outcome.next ((beaconLoss_alone hp hr hm hl).trans (if_pos ?_))
    rw [decide_eq_true hd, Bool.true_and, List.all_eq_true]
    intro n hn
    obtain ⟨y, hy, rfl⟩ := List.mem_map.mp hn
    by_cases h1 : y.1.dist = 1
    · simp [h1, hfirst y hy h1]
    · simp [h1]
  · refine congrArg Host.Outcome.next ?_
    show fabricJoin link.val d r n s = _
    unfold fabricJoin
    rw [hj]
    rfl
  · refine congrArg Host.Outcome.next ?_
    show fabricLinkDown link.val s = _
    unfold fabricLinkDown
    rw [hu]
    rfl
  · refine congrArg Host.Outcome.next (if_neg ?_)
    simp [hu, hr, hf]
  · refine congrArg Host.Outcome.next (if_neg ?_)
    simp [hu, hg]

end Sys2Proof.Laws
end
section
/-! Global operations and the agreement of groups. -/
namespace Sys2Proof.Laws

open Sys2Proof Sys2Proof.Machine

set_option maxRecDepth 8000

/-- The order point's stamp leaves the fabric. -/
theorem stamp_fab {s u : State} {n : Nat} (h : s.stamp = (n, u)) : u.fab = s.fab := by
  rw [show u = s.stamp.2 from (congrArg Prod.snd h).symm]
  exact (State.stamp_frame s (M := 2) rfl Frame.rfl).fab rfl

/-- A GLOBAL that is stamped is taken. -/
theorem global_taken {s u : State} {link : Fin 24} {src n : Nat} (m : GlobalMsg) (hc : s.canStamp = true) (hn : s.stamp = (n, u)) :
    exec (.global_ link src m) s = .next (u.takeGlobal src m) := by
  refine congrArg Host.Outcome.next ((stamped_go hc).trans ?_)
  rw [hn]

/-- Rank 0 judges a group whose answer is not given. -/
theorem groupJudge_open {s : State} {g : Nat} (hm : (s.group g).members ≠ 0) (hr : (s.group g).rank = 0)
    (ha : (s.group g).answered = false) :
    s.groupJudge g =
      if (s.group g).mismatch then
        if (s.group g).first.any fun t => decide (s.time.bnd < t + 4096) then
          (s.modGroup g fun x => { x with early := [] }).groupAnswer g ((s.group g).early.map (·.1)) false
        else s
      else if ∃ y ∈ (s.group g).early, y.2 ≠ listDigest (s.group g).list then
        (s.modGroup g fun x => { x with mismatch := true, valid := false, early := [] }).groupAnswer g
          ((s.group g).matched ++ (s.group g).early.map (·.1)).eraseDups false
      else if ((s.group g).matched ++ (s.group g).early.map (·.1)).eraseDups.length + 1 = (s.group g).members then
        (s.modGroup g fun x =>
          { x with matched := ((s.group g).matched ++ (s.group g).early.map (·.1)).eraseDups, early := [], answered := true }).groupAnswer g
          ((s.group g).matched ++ (s.group g).early.map (·.1)).eraseDups true
      else s.modGroup g fun x =>
        { x with matched := ((s.group g).matched ++ (s.group g).early.map (·.1)).eraseDups, early := [] } := by
  unfold State.groupJudge
  dsimp only
  rw [if_neg (by simp [hm, hr, ha])]
  simp only [List.any_eq_true, decide_eq_true_eq]

/-- Settles O54: stamped messages by what is under way, and a group's judgement by the digests that have come. -/
theorem globalOperationsAndGroupsAgree : Obligations.GlobalOperationsAndGroupsAgree := by
  refine ⟨fun s link src m hc => ?_, fun s u link src g snap n rst hc hn => ?_, fun s g snap rst x hx => ?_,
    fun s u link src g t snap n rst x hc hn hx => ?_, fun s u link src n x hc hn hx => ⟨?_, fun ht => ?_⟩,
    fun s u h g n d hc hn => ?_, fun s g x hx hm hr hmm ha => ⟨fun hd => ?_, fun hd hl => ?_⟩,
    fun s g t x hx hm hr hmm ha hf ht => ?_, fun s u h g n agree hc hn hm hh => ?_, fun s g t x hx hf hm hv ha hmm ht => ?_⟩
  · refine congrArg Host.Outcome.next (if_neg ?_)
    rw [hc]
    exact Bool.false_ne_true
  · rw [global_taken _ hc hn]
    unfold State.takeGlobal
    dsimp only
    rw [stamp_fab hn]
    cases s.fab.global <;> rfl
  · subst hx
    rfl
  · rw [global_taken _ hc hn, hx, ← stamp_fab hn]
    rfl
  · rw [global_taken _ hc hn]
    refine congrArg Host.Outcome.next (congrArg (fun y => u.modFab fun f => { f with global := y }) ?_)
    rw [stamp_fab hn, hx]
    rfl
  · rw [global_taken _ hc hn]
    unfold State.takeGlobal
    dsimp only
    rw [stamp_fab hn, hx]
    dsimp only
    rw [ht]
    cases x.via <;> rfl
  · refine (stamped_go hc).trans ?_
    rw [hn]
  · subst hx
    rw [groupJudge_open hm hr ha, if_neg (by simp [hmm]), if_pos hd]
  · subst hx
    rw [groupJudge_open hm hr ha, if_neg (by simp [hmm]), if_neg (by simpa using hd), if_pos hl]
  · subst hx
    rw [groupJudge_open hm hr ha, if_pos hmm, if_pos (by simp [hf, ht])]
  · refine (stamped_go hc).trans ?_
    rw [hn]
    exact if_neg (by simp [hm, hh])
  · subst hx
    refine congrArg Host.Outcome.next ?_
    show groupAgreeTimeout g s = _
    unfold groupAgreeTimeout
    dsimp only
    rw [hf]
    exact if_neg (by simp [hm, hv, ha, hmm, Nat.not_lt.mpr ht])

end Sys2Proof.Laws
end

section
/-! Attestation and device security. -/
namespace Sys2Proof.Laws

open Sys2Proof Sys2Proof.Machine

set_option maxRecDepth 8000

/-- A request that a path carries, by what its effect answers. -/
theorem spdm_next {s t : State} {p : SpdmPath} {k : State → State} (h : s.spdmUp p = true) (hk : k s = t) :
    (Host.Outcome.next (s.spdm p k) : Host.Outcome State Fault Refusal) = .next t := by
  rw [spdm_up h, hk]

/-- A request inside a secured session, by what its effect answers. -/
theorem inSession_next {s t : State} {p : SpdmPath} {id : Nat} {x : Session} {k : Session → State → State} (h : s.spdmUp p = true)
    (hx : s.session p id = some x) (hr : x.ready = true) (hk : k x s = t) :
    (Host.Outcome.next (s.inSession p id k) : Host.Outcome State Fault Refusal) = .next t := by
  rw [inSession_ready h hx hr, hk]

/-- A TDISP request of a VF that exists, by what its effect answers. -/
theorem tdisp_next {s t : State} {p : Side} {id vf : Nat} {x : Session} {k : Tdi → State → State} (h : s.spdmUp (.doe p) = true)
    (hx : s.session (.doe p) id = some x) (hr : x.ready = true) (hv : vf ≠ 0) (he : (s.port p).vfEnable = true)
    (hk : k (s.tdi p vf) s = t) : (Host.Outcome.next (s.tdisp p id vf k) : Host.Outcome State Fault Refusal) = .next t := by
  rw [tdisp_ready h hx hr hv he, hk]

/-- GET_MEASUREMENTS of one slot, outside a session and without a nonce. -/
theorem getMeasurements_slot {s : State} {p : SpdmPath} {n : Nat} (h : s.spdmUp p = true) (h1 : 1 ≤ n) (h16 : n ≤ 16) :
    getMeasurements p none n [] s = s.spdmSay p 0 0 (s.meas (n - 1)) := by
  have h0 : n ≠ 0 := by omega
  have hff : n ≠ 0xFF := by omega
  refine (spdm_up h).trans ?_
  dsimp only
  rw [if_neg h0, if_neg hff, if_pos h16]
  rfl

/-- The roles of a session whose requester need not authenticate, by its path (R465). -/
def plainRoles : SpdmPath → Nat
  | .doe _ => 0
  | _ => 16

/-- FINISH of a session that is not secured yet. -/
theorem finish_open {s : State} {p : SpdmPath} {id : Nat} {x : Session} (key : Option (List Byte)) (h : s.spdmUp p = true)
    (hx : s.session p id = some x) (hr : x.ready = false) :
    finish p id key s =
      if x.auth then
        match key.bind s.mgt.slotOf with
        | some (i, r) => (s.modSession p id fun y => some { y with ready := true, slot := some i, roles := r }).spdmSay p id 0 []
        | none => (s.modSession p id fun _ => none).spdmSay p id 2 []
      else
        (s.modSession p id fun y => some { y with ready := true, roles := plainRoles p }).spdmSay p id 0 [] := by
  unfold finish
  rw [spdm_up h, hx]
  dsimp only
  rw [hr]
  cases p <;> rfl

/-- An integrity failure with no TDI bound to its stream. -/
theorem ideFailure_unbound {s : State} {p : Side} {n : Fin 8}
    (h : ∀ y ∈ (s.port p).tdis, y.2.stream = n.val → y.2.state.frozen = false) :
    ideFailure p n s =
      s.setStream p n.val { s.stream p n.val with secure := false, fails := satAdd 65535 (s.stream p n.val).fails 1 } := by
  have hnone : ((s.port p).tdis.filter fun y => y.2.stream = n.val && y.2.state.frozen) = [] := by
    rw [List.filter_eq_nil_iff]
    intro y hy
    by_cases hs : y.2.stream = n.val
    · simp [hs, h y hy hs]
    · simp [hs]
  have htdis : ∀ v, ((s.setStream p n.val v).port p).tdis = (s.port p).tdis := fun v => by
    unfold State.setStream
    rw [port_modPort]
  unfold ideFailure State.stampedIf
  refine (if_neg ?_).trans ?_
  · simpa using h
  · refine (congrArg (fun l : List (Nat × Tdi) => l.foldl _ _) ?_).trans List.foldl_nil
    show List.filter _ (State.port _ p).tdis = []
    rw [htdis]
    exact hnone

/-- An integrity failure with a TDI bound to its stream is stamped. -/
theorem ideFailure_bound {s : State} {p : Side} {n : Fin 8}
    (h : ∃ y ∈ (s.port p).tdis, y.2.stream = n.val ∧ y.2.state.frozen = true) :
    ideFailure p n s = s.stamped (.ideIntegrityFailure p n) fun st s =>
      let v := s.setStream p n.val { s.stream p n.val with secure := false, fails := satAdd 65535 (s.stream p n.val).fails 1 }
      ((v.port p).tdis.filter fun y => y.2.stream = n.val && y.2.state.frozen).foldl (fun w y => w.tdiError p y.1 st) v := by
  refine (if_pos ?_).trans rfl
  obtain ⟨y, hy, hs, hf⟩ := h
  rw [Bool.not_eq_true', List.isEmpty_eq_false_iff_exists_mem]
  exact ⟨y, List.mem_filter.mpr ⟨hy, by simp [hs, hf]⟩⟩

/-- Settles O59: each request by its path and session, and the TDI events by the streams and TDIs they name. -/
theorem attestationAndDeviceSecurityAct : Obligations.AttestationAndDeviceSecurityAct := by
  refine ⟨fun s p h => ⟨spdm_next h rfl, spdm_next h rfl, fun a => spdm_next h rfl, spdm_next h rfl, fun o n => spdm_next h (if_pos rfl),
      fun k o n hk => spdm_next h (if_neg hk), fun n => spdm_next h (if_pos rfl),
      fun n h1 h16 => congrArg Host.Outcome.next (getMeasurements_slot h h1 h16), spdm_next h rfl, spdm_next h rfl,
      fun k => spdm_next h rfl⟩,
    fun s p h => ?_, fun s p a e h hroom => ?_, fun s e h he hroom => ⟨?_, ?_⟩,
    fun s p id x key h hx hr => ⟨fun ha hk => ?_, fun ha i r hk => ?_, fun ha => ?_⟩,
    fun s p id x h hx hr => ⟨inSession_next h hx hr rfl, inSession_next h hx hr rfl, inSession_next h hx hr rfl⟩,
    fun s p id n x y h hx hr hy => ?_, fun s p id vf n x c h hx hr hv he hc => ?_, fun s p vf sp off => ⟨fun hf => ?_, fun hf => ?_⟩,
    fun s p n x hx => ⟨fun hb => ?_, fun hb => ⟨fun k u v hc hn hvs => ?_, fun hc => ?_⟩⟩⟩
  · have hdown := fun k => congrArg (Host.Outcome.next (φ := Fault) (ρ := Refusal)) (spdm_down (k := k) h)
    have hses := fun i k => congrArg (Host.Outcome.next (φ := Fault) (ρ := Refusal)) (inSession_down (id := i) (k := k) h)
    exact ⟨hdown _, hdown _, fun _ => hdown _, hdown _, fun _ _ _ => hdown _, fun _ _ => hdown _, fun _ _ _ => hdown _,
      fun _ _ _ => hdown _, fun _ _ => hdown _, fun i => ⟨hses i _, hses i _, hses i _⟩, fun _ => hdown _⟩
  · refine spdm_next h (if_neg ?_)
    simp [hroom]
  · refine spdm_next h ((if_neg ?_).trans ?_)
    · simp [hroom, he]
    · simp only [he]
      rfl
  · refine spdm_next h (if_pos ?_)
    simp [he]
  · refine congrArg Host.Outcome.next ((finish_open (some key) h hx hr).trans ?_)
    simp only [ha, if_true, Option.bind_some, hk]
  · refine congrArg Host.Outcome.next ((finish_open (some key) h hx hr).trans ?_)
    simp only [ha, if_true, Option.bind_some, hk]
  · refine congrArg Host.Outcome.next ((finish_open none h hx hr).trans ?_)
    simp only [ha, Bool.false_eq_true, if_false]
    cases p <;> rfl
  · subst hy
    exact ⟨inSession_next h hx hr rfl, inSession_next h hx hr rfl, fun k hk => inSession_next h hx hr (if_pos hk),
      fun k hk => inSession_next h hx hr (if_neg (by simp [hk])), inSession_next h hx hr rfl, inSession_next h hx hr rfl⟩
  · have hvf : vf.val ≠ 0 := fun e => hv (Fin.ext e)
    subst hc
    refine ⟨fun ht hs => tdisp_next h hx hr hvf he (if_neg (by simp [ht, hs])), fun ht => tdisp_next h hx hr hvf he (if_pos ?_),
      fun ht => tdisp_next h hx hr hvf he (if_neg (by simp [ht])), fun ht => tdisp_next h hx hr hvf he (if_pos ht),
      fun ht => tdisp_next h hx hr hvf he ?_, fun ht => tdisp_next h hx hr hvf he ?_, fun ht => tdisp_next h hx hr hvf he ?_,
      tdisp_next h hx hr hvf he rfl⟩
    · simpa using ht
    · rcases ht with ht | ht <;> simp [ht]
    · simp [ht]
    · simp [ht]
  · refine congrArg Host.Outcome.next (if_pos ?_)
    rw [hf]
    rfl
  · have hrun : tdiViolation p vf sp off s = s.stamped (.tdiViolation p vf sp off) fun st s =>
        (s.regErrAt p vf.val sp.val off E.notAuthorised).tdiError p vf.val st := if_neg (by simp [hf])
    refine ⟨fun n u hc hn => congrArg Host.Outcome.next (hrun.trans ((stamped_go hc).trans ?_)),
      fun hc => congrArg Host.Outcome.next (hrun.trans (if_neg (by simp [hc])))⟩
    rw [hn]
  · subst hx
    exact congrArg Host.Outcome.next (ideFailure_unbound hb)
  · subst hx
    refine congrArg Host.Outcome.next ((ideFailure_bound hb).trans ((stamped_go hc).trans ?_))
    have hstream : u.stream p n.val = s.stream p n.val := by
      have hu : u.ports = s.ports := by
        rw [show u = s.stamp.2 from (congrArg Prod.snd hn).symm]
        exact (State.stamp_frame s (M := 2) rfl Frame.rfl).ports rfl
      unfold State.stream State.port
      rw [hu]
    rw [hn, hvs, ← hstream]
  · exact congrArg Host.Outcome.next ((ideFailure_bound hb).trans (if_neg (by simp [hc])))

end Sys2Proof.Laws
end

section
/-! A window moves a one-unit COPY: what the unit reads and writes, what it claims, and what its end leaves. -/
namespace Sys2Proof.Laws

open Sys2Proof Sys2Proof.Machine

set_option maxRecDepth 8000

/-! ### The unit -/

/-- COPY is an engine command. -/
theorem isEngine_copy : isEngine Op.copy = true := by decide

/-- COPY is a data movement. -/
theorem isMove_copy : isMove Op.copy = true := by decide

/-- The stream of a COPY. -/
theorem streamLen_copy {b : List Byte} (h : hOpcode b = Op.copy) : streamLen b = pf b 16 39 0 := by
  unfold streamLen
  simp only [h, isEngine_copy, Bool.not_true, Bool.false_eq_true, if_false, if_true]

/-- A whole line is one run. -/
theorem lineReads_whole {base len : Nat} (h : 0 < len) : lineReads base 0 len 0 len = [(0, base, len)] := by
  obtain ⟨k, rfl⟩ : ∃ k, len = k + 1 := ⟨len - 1, by omega⟩
  unfold lineReads lineRuns
  simp [lineRuns]

/-- What the one unit of a COPY reads. -/
theorem plainWork_reads {b : List Byte} {len : Nat} (h : hOpcode b = Op.copy) (hl : pf b 16 39 0 = len) (hp : 0 < len) :
    (plainWork b 0 len).reads = [(0, pf b 0 56 0, len)] := by
  unfold plainWork
  simp only [h, streamLen_copy h, hl, if_true, lineReads_whole hp]

/-- What the one unit of a COPY writes. -/
theorem plainWork_writes {b : List Byte} {len : Nat} (h : hOpcode b = Op.copy) (hl : pf b 16 39 0 = len) (hp : 0 < len) :
    (plainWork b 0 len).writes = [(0, pf b 8 56 0, len, false)] := by
  unfold plainWork lineWrites
  simp only [h, streamLen_copy h, hl, if_true, lineReads_whole hp, List.map_cons, List.map_nil]

/-- A COPY's units need no table. -/
theorem work_copy {b : List Byte} (h : hOpcode b = Op.copy) (s : State) (bl : Blur) (slot from_ n : Nat) :
    s.work bl slot b from_ n = .ok (plainWork b from_ n) := by
  unfold State.work
  simp only [h]
  rfl

/-! ### The command -/

/-- A COPY of one unit between bytes of device memory that do not meet, the one unretired command of its queue. -/
structure OneCopy (s : State) (qn n : Nat) (c : Cmd) (a d len : Nat) : Prop where
  alone : (s.queue qn).cmds = [c]
  op : hOpcode c.bytes = Op.copy
  path : pathOf c.bytes = 0
  stream : pf c.bytes 16 39 0 = len
  some_ : 0 < len
  unit : len ≤ 4096
  whole : c.ends = none
  source : ∀ x, x = s ∨ x = s.engineView n qn →
    x.pieces (s.queue qn).ctx .read (pf c.bytes 0 56 0) len = [(pf c.bytes 0 56 0, len, .loc a)]
  dest : ∀ x, x = s ∨ x = s.engineView n qn →
    x.pieces (s.queue qn).ctx .write (pf c.bytes 8 56 0) len = [(pf c.bytes 8 56 0, len, .loc d)]
  apart : a + len ≤ d ∨ d + len ≤ a

/-- The source piece. -/
def readPiece (c : Cmd) (a len : Nat) : Piece := ⟨0, pf c.bytes 0 56 0, len, .loc a⟩

/-- The destination piece. -/
def writtenPiece (c : Cmd) (d len : Nat) : Piece := ⟨0, pf c.bytes 8 56 0, len, .loc d⟩

section
variable {s : State} {qn n : Nat} {c : Cmd} {a d len : Nat} (h : OneCopy s qn n c a d len)
include h

/-- Its stream's length. -/
theorem OneCopy.streamLen : streamLen c.bytes = len := (streamLen_copy h.op).trans h.stream

/-- It has one unit. -/
theorem OneCopy.unitCount : unitCount c.bytes = 1 := by
  have := h.some_
  have := h.unit
  unfold Sys2Proof.Machine.unitCount
  rw [h.streamLen]
  omega

/-- Its unit is the whole of it. -/
theorem OneCopy.unitLen : c.unitLen 0 = len := by
  have := h.unit
  unfold Cmd.unitLen Cmd.len
  rw [h.whole]
  dsimp only
  rw [h.streamLen]
  omega

/-- Where its source lies. -/
theorem OneCopy.reads {x : State} (hx : x = s ∨ x = s.engineView n qn) :
    x.translate (s.queue qn).ctx .read [(0, pf c.bytes 0 56 0, len)] = [readPiece c a len] := by
  unfold State.translate
  simp only [List.flatMap_cons, List.flatMap_nil, h.source x hx, List.map_cons, List.map_nil, Nat.sub_self, List.append_nil]
  rfl

/-- Where its destination lies. -/
theorem OneCopy.writes {x : State} (hx : x = s ∨ x = s.engineView n qn) :
    x.translate (s.queue qn).ctx .write [(0, pf c.bytes 8 56 0, len)] = [writtenPiece c d len] := by
  unfold State.translate
  simp only [List.flatMap_cons, List.flatMap_nil, h.dest x hx, List.map_cons, List.map_nil, Nat.sub_self, List.append_nil]
  rfl

/-- Nothing stops its unit. -/
theorem OneCopy.unitPieces : (s.engineView n qn).unitPieces (s.queue qn).ctx (plainWork c.bytes 0 len) =
    .ok ([readPiece c a len], [writtenPiece c d len]) := by
  have hsrc : (plainWork c.bytes 0 len).readOk = .table := by
    show pathSource (pathOf c.bytes) = _
    rw [h.path]
    rfl
  have hdst : (plainWork c.bytes 0 len).writeOk = .local := by
    show pathDest (pathOf c.bytes) = _
    rw [h.path]
    rfl
  have hrmw : (plainWork c.bytes 0 len).rmw = false := rfl
  have hown : ([(0, pf c.bytes 8 56 0, len, false)].filter fun x => decide (x.2.2.2 = true)) = [] := rfl
  have hplain : ([(0, pf c.bytes 8 56 0, len, false)].filter fun x => decide (x.2.2.2 = false)) =
      [(0, pf c.bytes 8 56 0, len, false)] := rfl
  have hr := h.reads (.inr rfl)
  have hw := h.writes (.inr rfl)
  unfold State.unitPieces
  dsimp only
  rw [plainWork_reads h.op h.stream h.some_, plainWork_writes h.op h.stream h.some_, hsrc, hdst, hrmw, hown, hplain, hr]
  simp only [List.map_cons, List.map_nil, hw]
  rfl

/-- It does not break R253. -/
theorem OneCopy.selfMeets : s.selfMeets (s.queue qn).ctx c.bytes = false := by
  have hlen : min 4096 (Machine.streamLen c.bytes - 4096 * 0) = len := by
    have := h.unit
    rw [h.streamLen]
    omega
  have hap := h.apart
  unfold State.selfMeets State.unitsWork
  rw [h.unitCount]
  simp only [List.range_one, List.filter_cons, List.filter_nil, if_true, List.filterMap_cons, List.filterMap_nil, work_copy h.op,
    Nat.mul_zero]
  rw [Nat.mul_zero] at hlen
  rw [hlen]
  simp only [List.flatMap_cons, List.flatMap_nil, List.append_nil, plainWork_reads h.op h.stream h.some_,
    plainWork_writes h.op h.stream h.some_, show (plainWork c.bytes 0 len).tabs = [] from rfl, List.map_cons, List.map_nil,
    h.reads (.inl rfl), h.writes (.inl rfl), List.any_cons, List.any_nil, Bool.or_false, readPiece, writtenPiece, Target.meets]
  rcases hap with hap | hap
  · simp [Nat.not_lt.mpr hap]
  · simp [Nat.not_lt.mpr hap]

/-- Nothing that it reads is undefined. -/
theorem OneCopy.blur : (s.blurOf qn c).ranges = [] := by
  show s.unordered qn c = []
  unfold State.unordered
  rw [h.alone]
  simp

/-- No other write meets its own. -/
theorem OneCopy.overlaps : s.overlaps qn c = [] := by
  have hop : hOpcode c.bytes ≠ Op.scatter := by
    rw [h.op]
    decide
  unfold State.overlaps
  dsimp only
  rw [h.alone, if_neg hop]
  simp

/-- What its unit makes stands at the destination. -/
theorem OneCopy.landing (hb : c.blurred = false) (wp : List Piece) (l : List PByte) : s.landing qn c 0 wp l = l := by
  have hop : hOpcode c.bytes ≠ Op.scatter := by
    rw [h.op]
    decide
  unfold State.landing
  simp [hb, h.selfMeets, h.overlaps, hop]

/-- The unit's source bytes are those of device memory. -/
theorem OneCopy.sourceBytes : s.sourceBytes (s.blurOf qn c) [readPiece c a len] [] = s.mem.readP a len := by
  have hread : (s.blurOf qn c).read a (s.mem.readP a len) = s.mem.readP a len := by
    unfold Blur.read
    rw [h.blur]
    rfl
  show (s.bytesOf (s.blurOf qn c) [(pf c.bytes 0 56 0, len, .loc a)]) ++ [] = _
  unfold State.bytesOf
  simp only [List.flatMap_cons, List.flatMap_nil, hread, List.append_nil]

end

/-! ### The unit's end -/

/-- Settling leaves a command's slot. -/
theorem settle_slot (c : Cmd) (now : Nat) : (c.settle now).slot = c.slot := by
  unfold Cmd.settle
  split
  · rfl
  · dsimp only
    split
    · exact finish_slot ..
    · rfl

/-- A unit's end leaves a command's slot. -/
theorem wrote_slot (c : Cmd) (u now : Nat) : (c.wrote u now).slot = c.slot := by
  unfold Cmd.wrote
  dsimp only
  (repeat' split) <;> simp only [finish_slot, settle_slot]

/-- The first unit of a command is written: the residue point moves behind it. -/
theorem wrote_only {c : Cmd} {now : Nat} (hp : c.point = 0) (ha : c.above = []) (hf : c.forced = false) (he : c.ends = none)
    (hr : c.result = none) (hg : c.poisoned = false) (hu : unitCount c.bytes = 1) :
    (c.wrote 0 now).result = some E.ok ∧ (c.wrote 0 now).residue = 0 ∧
      (c.wrote 0 now).doneAt = now + 1 := by
  unfold Cmd.wrote Cmd.finish
  simp only [hp, ha, hf, advancePoint, insertNat, List.length_nil, Nat.lt_irrefl, if_false, List.contains_cons, beq_self_eq_true,
    Bool.true_or, if_true, List.erase_cons_head, Bool.false_eq_true, ge_iff_le, Nat.zero_add]
  split <;> simp [he, hr, hg, hu, E.ok]

/-- A fold whose steps change nothing. -/
theorem foldl_unmoved {α β : Type} {f : β → α → β} {b : β} : ∀ {l : List α}, (∀ x ∈ l, f b x = b) → l.foldl f b = b
  | [], _ => rfl
  | x :: l, h => by
    rw [List.foldl_cons, h x (List.mem_cons_self ..)]
    exact foldl_unmoved fun y hy => h y (List.mem_cons_of_mem _ hy)

/-- A command's writes disturb no engine command where none but itself is under way. -/
theorem disturb_alone {s : State} {qn pos : Nat} (l : List (Nat × Nat))
    (h : ∀ y ∈ s.queues, ∀ k ∈ y.2.cmds, k.begun = true → isEngine (hOpcode k.bytes) = true → y.1 = qn ∧ k.slot = pos) :
    s.disturb (some (qn, pos)) l = s := by
  unfold State.disturb
  split
  · rfl
  · refine foldl_unmoved fun y hy => foldl_unmoved fun k hk => if_pos ?_
    by_cases hb : k.begun = true ∧ isEngine (hOpcode k.bytes) = true
    · obtain ⟨h1, h2⟩ := h y hy k hk hb.1 hb.2
      simp [h1, h2]
    · simp only [Classical.not_and_iff_not_or_not, Bool.not_eq_true] at hb
      rcases hb with hb | hb <;> simp [hb]

/-- A read has as many bytes as were asked for. -/
theorem readP_length (m : Mem) (a n : Nat) : (m.readP a n).length = n := by
  unfold Mem.readP
  rw [List.length_map, List.length_range]

/-- A clean unit of a COPY is written: its bytes stand at the destination, and the command ends with HX_OK. -/
theorem completeUnit_copy {u : State} {qn n : Nat} {c : Cmd} {d len : Nat} {src : List PByte} {land : List PByte → List PByte}
    (hq : (u.queue qn).cmds = [c]) (hland : land src = src) (hlen : src.length = len) (hclean : src.any (·.2) = false)
    (hop : hOpcode c.bytes = Op.copy)
    (hspoil : (u.engine n).spoil ≠ some ((u.queue qn).ctx, u.time.bnd))
    (hquiet : ∀ y ∈ u.queues, ∀ k ∈ y.2.cmds, k.begun = true → isEngine (hOpcode k.bytes) = true → y.1 = qn ∧ k.slot = c.slot)
    (hp : c.point = 0) (ha : c.above = []) (hf : c.forced = false) (he : c.ends = none) (hr : c.result = none)
    (hg : c.poisoned = false) (hu : unitCount c.bytes = 1) :
    (u.completeUnit qn c 0 n (plainWork c.bytes 0 len) [writtenPiece c d len] src land).mem = u.mem.storeP d src ∧
    ∃ y, ((u.completeUnit qn c 0 n (plainWork c.bytes 0 len) [writtenPiece c d len] src land).queue qn).cmd c.slot = some y ∧
      y.result = some E.ok ∧ y.residue = 0 ∧ y.doneAt = u.time.bnd + 1 := by
  have hmake : (plainWork c.bytes 0 len).make src = .bytes src := by
    unfold plainWork
    simp only [hop]
    rfl
  have htaint : (plainWork c.bytes 0 len).taint = false := rfl
  have hrmw : (plainWork c.bytes 0 len).rmw = false := rfl
  have hwrite : u.writePieces qn c.slot 0 [writtenPiece c d len] src = u.setMem (u.mem.storeP d src) := by
    show u.setMem (u.mem.storeP d (src.take len)) = _
    rw [← hlen, List.take_length]
  unfold State.completeUnit
  dsimp only
  rw [hmake, hrmw, htaint]
  dsimp only [Result.bytes]
  simp only [ne_eq, not_true_eq_false, hspoil, decide_false, Bool.false_eq_true, if_false, hland, hwrite, hclean, Bool.or_false,
    Bool.false_and]
  rw [disturb_alone (s := u.setMem (u.mem.storeP d src)) _ hquiet]
  refine ⟨rfl, ?_⟩
  generalize hv : (u.setMem (u.mem.storeP d src)).modEngine n _ = v
  have hcmd : (v.queue qn).cmd c.slot = some c := by
    rw [← hv]
    show (u.queue qn).cmds.find? _ = _
    rw [hq]
    simp
  have htime : v.time = u.time := by
    rw [← hv]
    rfl
  rw [htime]
  obtain ⟨hres, hleft, hdone⟩ := wrote_only (now := u.time.bnd)
    (c := { c with poisoned := c.poisoned, tally := Tbl.set (0, 0, 0, 0) c.tally 0 (0, 0, 0, 0) }) hp ha hf he hr hg hu
  exact ⟨_, modCmd_cmd hcmd fun x => wrote_slot _ _ _, hres, hleft, hdone⟩

/-! ### The claim and the window -/

/-- What is in the way of ranges depends on the directory alone. -/
theorem inTheWay_coh {s t : State} (h : t.coh = s.coh) (r w : List (Nat × Nat)) : t.inTheWay r w = s.inTheWay r w := by
  unfold State.inTheWay
  rw [h]

/-- The state in which a claimed unit is moved: its pages are in the caches, and what lies ahead is asked for. -/
def unitClaimed (s : State) (qn n : Nat) (c : Cmd) (room : Nat) (w : Work) (rp wp : List Piece) : State :=
  (((((s.engineView n qn).touchUnit qn n w rp wp).modXlt fun t => { t with passing := s.xlt.passing }).askAhead qn c 0 (room / 32)).useLinks
    qn [])

/-- Claiming touches translation, the plan's counts and the messages that leave. -/
theorem unitClaimed_frame (s : State) (qn n : Nat) (c : Cmd) (room : Nat) (w : Work) (rp wp : List Piece) :
    Frame 1050752 s (unitClaimed s qn n c room w rp wp) :=
  State.useLinks_frame _ _ _ rfl (State.askAhead_frame _ _ _ _ _ rfl (State.modXlt_frame _ _ rfl (State.touchUnit_frame _ _ _ _ _ _ rfl
    (State.engineView_frame _ _ _ rfl Frame.rfl))))

/-- A COPY between pages of device memory whose cost the window allows is claimed and moved at once. -/
theorem OneCopy.claimUnit {s : State} {qn n : Nat} {c : Cmd} {a d len room : Nat} (h : OneCopy s qn n c a d len)
    (hcost : unitCost c.bytes (plainWork c.bytes 0 len) [readPiece c a len] [writtenPiece c d len] = room)
    (hinv : (Ctrl.ofNat (pw c.bytes (ctrlOff Op.copy))).inv = false) (hway : s.inTheWay [(a, len)] [(d, len)] = []) :
    s.claimUnit qn c 0 n room = .moved room
      ((unitClaimed s qn n c room (plainWork c.bytes 0 len) [readPiece c a len] [writtenPiece c d len]).completeUnit qn c 0 n
        (plainWork c.bytes 0 len) [writtenPiece c d len] (s.mem.readP a len) (s.landing qn c 0 [writtenPiece c d len])) := by
  have hwork : (s.engineView n qn).work (s.blurOf qn c) (s.queue qn).ctx c.bytes (4096 * 0) (c.unitLen 0) =
      .ok (plainWork c.bytes 0 len) := by
    rw [h.unitLen]
    exact work_copy h.op ..
  have hskip : skipsUnit c.bytes [readPiece c a len] = false := rfl
  have hscope : scopeStops c.bytes ([writtenPiece c d len] ++ [readPiece c a len]) = false := by
    unfold scopeStops
    rw [h.op, hinv]
    rfl
  have hcomb : hOpcode c.bytes ≠ Op.combine := by
    rw [h.op]
    decide
  have hacc : accumulates c.bytes = false := by
    unfold accumulates
    rw [h.op]
    rfl
  have hlinks : s.linkNeeds (s.queue qn).ctx [writtenPiece c d len] = [] := rfl
  unfold State.claimUnit
  dsimp only
  rw [hwork]
  dsimp only
  rw [h.unitPieces]
  dsimp only
  rw [hskip, hscope, hcost, if_neg hcomb, hlinks, hacc, h.sourceBytes]
  have hclear : ((unitClaimed s qn n c room (plainWork c.bytes 0 len) [readPiece c a len] [writtenPiece c d len]).inTheWay
      (localRanges [readPiece c a len]) (localRanges [writtenPiece c d len])).isEmpty = true := by
    rw [inTheWay_coh ((unitClaimed_frame s qn n c room _ _ _).coh rfl)]
    exact List.isEmpty_iff.mpr hway
  exact (if_neg (Nat.lt_irrefl room)).trans (if_pos hclear)

/-- A window whose first unit takes all its cycles. -/
theorem window1_filled {s t : State} {n qn from_ k room u : Nat} {c : Cmd} (hr : 0 < room) (hm : s.mayStart from_ = true)
    (hw : s.nextWork n qn = some (c, u)) (hc : c.counting = false) (hu : s.claimUnit qn c u n room = .moved room t) :
    s.window1 n qn from_ (k + 2) 0 room = ⟨t, room, false⟩ := by
  have hnext : t.window1 n qn from_ (k + 1) (0 + room) room = ⟨t, room, false⟩ := by
    rw [Nat.zero_add]
    unfold State.window1
    exact if_pos (by simp)
  unfold State.window1
  rw [if_neg (by simp [hm]; omega), hw]
  dsimp only
  rw [hc, if_neg Bool.false_ne_true, Nat.sub_zero, hu]
  exact hnext

/-- Bytes stored where they were read from: the destination reads as the source, and no other byte changes. -/
theorem storeP_readP {m : Mem} (w : m.wf = true) (a d len : Nat) :
    (m.storeP d (m.readP a len)).readN d len = m.readN a len ∧
      ∀ x, x < d ∨ d + len ≤ x → (m.storeP d (m.readP a len)).read x = m.read x := by
  have hlen : (m.readN a len).length = len := by
    rw [← readP_fst, List.length_map, readP_length]
  have hbytes := storeP_bytes m d (m.readP a len)
  rw [readP_fst] at hbytes
  constructor
  · rw [readN_bytes hbytes]
    have := Mem.readN_writeN w d (m.readN a len)
    rwa [hlen] at this
  · intro x hx
    have hother := Mem.read_writeN_other w (l := m.readN a len) (by rwa [hlen])
    unfold Mem.read at hother ⊢
    rw [hbytes, hother]

/-- A command that nothing has yet moved, ended or marked. -/
structure Untouched (c : Cmd) : Prop where
  point : c.point = 0
  above : c.above = []
  poisoned : c.poisoned = false
  blurred : c.blurred = false
  forced : c.forced = false
  ends : c.ends = none
  result : c.result = none

/-- What a claim leaves of the state on which a unit's end turns. -/
theorem unitClaimed_engine {v : State} {qn n : Nat} {c : Cmd} {room : Nat} {w : Work} {rp wp : List Piece}
    (h : (v.engine n).spoil ≠ some ((v.queue qn).ctx, v.time.bnd)) :
    ((unitClaimed v qn n c room w rp wp).engine n).spoil ≠
      some (((unitClaimed v qn n c room w rp wp).queue qn).ctx, (unitClaimed v qn n c room w rp wp).time.bnd) := by
  have hframe := unitClaimed_frame v qn n c room w rp wp
  unfold State.engine State.queue at h ⊢
  rw [hframe.engines rfl, hframe.queues rfl, hframe.time rfl]
  exact h

/-- A window that a one-unit COPY fills: the unit's bytes stand at the destination, and the command has ended. -/
theorem OneCopy.runWindow {v : State} {qn n i : Nat} {e : Word} {c : Cmd} {a d len : Nat} (h : OneCopy v qn n c a d len)
    (hqn : qn = enQueue e) (hc : Untouched c) (hstart : v.mayStart (v.windowFrom n i) = true) (hnext : v.nextWork n qn = some (c, 0))
    (hcost : unitCost c.bytes (plainWork c.bytes 0 len) [readPiece c a len] [writtenPiece c d len] = v.windowLen i e)
    (hroom : 0 < v.windowLen i e) (hinv : (Ctrl.ofNat (pw c.bytes (ctrlOff Op.copy))).inv = false)
    (hway : v.inTheWay [(a, len)] [(d, len)] = []) (hclean : v.mem.anyPoison a len = false)
    (hspoil : (v.engine n).spoil ≠ some ((v.queue qn).ctx, v.time.bnd))
    (hquiet : ∀ y ∈ v.queues, ∀ k ∈ y.2.cmds, k.begun = true → isEngine (hOpcode k.bytes) = true → y.1 = qn ∧ k.slot = c.slot) :
    (v.runWindow n i e 0).mem = v.mem.storeP d (v.mem.readP a len) ∧
    ∃ y, ((v.runWindow n i e 0).queue qn).cmd c.slot = some y ∧ y.result = some E.ok ∧ y.residue = 0 ∧ y.doneAt = v.time.bnd + 1 := by
  subst hqn
  have hframe := unitClaimed_frame v (enQueue e) n c (v.windowLen i e) (plainWork c.bytes 0 len) [readPiece c a len]
    [writtenPiece c d len]
  have hengine := unitClaimed_engine (c := c) (room := v.windowLen i e) (w := plainWork c.bytes 0 len) (rp := [readPiece c a len])
    (wp := [writtenPiece c d len]) hspoil
  have hclaim := h.claimUnit hcost hinv hway
  generalize unitClaimed v (enQueue e) n c (v.windowLen i e) (plainWork c.bytes 0 len) [readPiece c a len] [writtenPiece c d len] = u
    at hframe hengine hclaim
  have hqueue : (u.queue (enQueue e)).cmds = [c] := by
    unfold State.queue
    rw [hframe.queues rfl]
    exact h.alone
  have hcounting : c.counting = false := by
    unfold Cmd.counting
    rw [h.op]
    rfl
  have hwindow := window1_filled (k := 2 * v.windowLen i e) hroom hstart hnext hcounting hclaim
  obtain ⟨hmem, y, hcmd, hok, hleft, hdone⟩ := completeUnit_copy hqueue (h.landing hc.blurred _ _) (readP_length ..)
    (readP_clean _ _ _ hclean) h.op hengine (by rw [hframe.queues rfl]; exact hquiet) hc.point hc.above hc.forced hc.ends hc.result
    hc.poisoned h.unitCount
  have hrun : ∀ w : State, v.window1 n (enQueue e) (v.windowFrom n i) (2 * v.windowLen i e + 2) 0 (v.windowLen i e) =
      ⟨w, v.windowLen i e, false⟩ → v.runWindow n i e 0 = w.windowEnd n (decide (v.windowLen i e < v.windowLen i e)) := by
    intro w hw
    unfold State.runWindow
    dsimp only
    rw [hw]
    rfl
  rw [hrun _ hwindow]
  have hend := fun w => State.windowEnd_frame (s0 := w) (M := 6272) w n (decide (v.windowLen i e < v.windowLen i e)) rfl Frame.rfl
  refine ⟨?_, y, ?_, hok, hleft, ?_⟩
  · rw [(hend _).mem rfl, hmem, hframe.mem rfl]
  · unfold State.queue
    rw [(hend _).queues rfl]
    exact hcmd
  · rw [hdone, hframe.time rfl]

/-- Settles O36: the window claims the unit, which takes all its cycles; the unit reads its source and stores it at its destination. -/
theorem windowMovesACopysBytes : Obligations.WindowMovesACopysBytes := by
  intro s v n i e c a d len he hk hres happ hfresh hacts hturn hv hstart hnext hcmds hop hpath hpoint habove hpois hblur hforced hends
    hresult hlen hpos hmax hpieces hcost hroom hinv hway hapart hclean hwf hspoil hquiet
  have hframe : Frame 6272 s v := by
    rw [hv]
    exact State.modPlan_frame _ _ rfl (State.waitEnds_frame _ _ rfl Frame.rfl)
  have hcopy : OneCopy v (enQueue e) n.val c a d len :=
    ⟨hcmds, hop, hpath, hlen.symm, hpos, hmax, hends, fun x hx => (hpieces x hx).1, fun x hx => (hpieces x hx).2, hapart⟩
  obtain ⟨hmem, y, hcmd, hok, hleft, hdone⟩ := hcopy.runWindow rfl ⟨hpoint, habove, hpois, hblur, hforced, hends, hresult⟩ hstart hnext
    hcost (by unfold State.windowLen; omega) hinv hway (by rw [hframe.mem rfl]; exact hclean) hspoil
    (by rw [hframe.queues rfl]; exact hquiet)
  obtain ⟨hto, hother⟩ := storeP_readP hwf a d len
  rw [hframe.mem rfl] at hmem
  rw [hframe.time rfl] at hdone
  have hrun : ceWindow n.val i s = v.runWindow n.val i e 0 := by
    rw [ceWindow_opens ⟨he, hk, hres, happ, hfresh, hacts, hturn⟩, ← hv]
  exact goes_to (congrArg Host.Outcome.next hrun)
    ⟨by rw [hmem]; exact hto, fun x hx => by rw [hmem]; exact hother x hx, y, hcmd, hok, hleft, hdone⟩

end Sys2Proof.Laws
end
